-- ==== Sys2Proof/Word.lean ====
section
/-!
DEFINITION. The plain number types of the FVX-9: bytes, 32-bit register words (R6) and byte strings (R8).
-/

namespace Sys2Proof

/-- One byte. -/
abbrev Byte := BitVec 8

/-- One register: 32 bits (R6). -/
abbrev Word := BitVec 32

/-- A byte string: a digest, key or signature in the order of its standard (R8), or a memory structure. -/
abbrev Bytes := List (BitVec 8)

end Sys2Proof
end

