-- ==== Sys2Proof/Machine/Bits.lean ====
section
/-!
DEFINITION. Byte order and bit fields: integers in memory structures are little-endian (R7).
-/

namespace Sys2Proof

/-- n as k bytes, little-endian (R7). -/
def le (k n : Nat) : Bytes := (List.range k).map (fun i => BitVec.ofNat 8 (n >>> (8 * i)))

/-- The number a little-endian byte string spells (R7). -/
def unle : Bytes → Nat
  | [] => 0
  | b :: r => b.toNat + 256 * unle r

/-- k zero bytes. -/
def zeros (k : Nat) : Bytes := List.replicate k 0

/-- A byte string cut or zero-padded to exactly k bytes, left-aligned. -/
def fit (k : Nat) (b : Bytes) : Bytes := (b ++ zeros k).take k

/-- One byte for a truth value. -/
def boolByte (b : Bool) : Bytes := [if b then 1 else 0]

/-- The numbers of the bits that are 1. -/
def bitsOf {w : Nat} (v : BitVec w) : List Nat := (List.range w).filter (fun i => v.getLsbD i)

/-- The word whose 1 bits are the listed numbers. -/
def maskOf (w : Nat) (l : List Nat) : BitVec w :=
  l.foldl (fun m i => m ||| (BitVec.ofNat w 1 <<< i)) 0

/-- v with bit i made b. -/
def putBit {w : Nat} (v : BitVec w) (i : Nat) (b : Bool) : BitVec w :=
  if b then v ||| (BitVec.ofNat w 1 <<< i) else v &&& ~~~ (BitVec.ofNat w 1 <<< i)

/-- The field of v at bits lo + n − 1 down to lo, as a number. -/
def fieldOf {w : Nat} (v : BitVec w) (lo n : Nat) : Nat := (v.extractLsb' lo n).toNat

/-- A 32-bit word made of fields given as (lowest bit, value). -/
def packWord (l : List (Nat × Nat)) : Word :=
  l.foldl (fun w f => w ||| BitVec.ofNat 32 (f.2 <<< f.1)) 0

/-- 1 for true. -/
def b2n (b : Bool) : Nat := if b then 1 else 0

/-- How many elements of a list satisfy a test. -/
def countIf {α : Type} (p : α → Bool) (l : List α) : Nat := (l.filter p).length

/-- n div d, rounded up. -/
def ceilDiv (n d : Nat) : Nat := (n + d - 1) / d

/-- n rounded up to a multiple of d. -/
def roundUp (n d : Nat) : Nat := ceilDiv n d * d

/-- No value occurs twice. -/
def distinct (l : List Nat) : Bool := l.length == l.dedup.length

/-- The spans [a, a + n) and [b, b + m) share a byte. -/
def overlaps (a n b m : Nat) : Bool := decide (a < b + m) && decide (b < a + n)

/-- Word i of a byte string, little-endian. -/
def wordAt (b : Bytes) (i : Nat) : Word := BitVec.ofNat 32 (unle (fit 4 (b.drop (4 * i))))

/-- The most common value of each bit among three samples (R97, R145). -/
def majority {w : Nat} (a b c : BitVec w) : BitVec w := (a &&& b) ||| (a &&& c) ||| (b &&& c)

end Sys2Proof
end

