-- ==== Sys2Proof/Machine/Table.lean ====
section
/-!
DEFINITION. Numbered things: a table from Nat keys to values, held as a list of (key, value) pairs in one
canonical form (keys strictly rising, no entry equal to the default). Memories of bytes are tables of bytes.
-/

namespace Sys2Proof

/-- A table: the cells that differ from the table's default, by rising key. -/
structure Tab (α : Type) where
  cells : List (Nat × α)
deriving DecidableEq, Repr

/-- The value the cell list gives key i, or d where it lists none. -/
def cellsGet {α : Type} (d : α) (i : Nat) : List (Nat × α) → α
  | [] => d
  | (k, v) :: r => if k = i then v else cellsGet d i r

/-- The cell list with key i taken out. -/
def cellsDrop {α : Type} (i : Nat) : List (Nat × α) → List (Nat × α)
  | [] => []
  | (k, v) :: r => if k = i then cellsDrop i r else (k, v) :: cellsDrop i r

/-- The cell list with key i holding v, at its place in the rising order. -/
def cellsPut {α : Type} (i : Nat) (v : α) : List (Nat × α) → List (Nat × α)
  | [] => [(i, v)]
  | (k, w) :: r =>
    if i < k then (i, v) :: (k, w) :: r
    else if k = i then (i, v) :: r
    else (k, w) :: cellsPut i v r

/-- Keys strictly rising and every one above `lo`, no value equal to d. -/
def cellsWf {α : Type} [DecidableEq α] (d : α) : Option Nat → List (Nat × α) → Bool
  | _, [] => true
  | lo, (k, v) :: r =>
    (match lo with | none => true | some l => decide (l < k)) && decide (v ≠ d) && cellsWf d (some k) r

/-- The empty table: every key reads as the default. -/
def tabEmpty {α : Type} : Tab α := ⟨[]⟩

/-- The value at key i. -/
def tabGet {α : Type} (d : α) (t : Tab α) (i : Nat) : α := cellsGet d i t.cells

/-- The table with v at key i; writing the default removes the entry. -/
def tabSet {α : Type} [DecidableEq α] (d : α) (t : Tab α) (i : Nat) (v : α) : Tab α :=
  if v = d then ⟨cellsDrop i t.cells⟩ else ⟨cellsPut i v t.cells⟩

/-- The canonical form of a table. -/
def tabWf {α : Type} [DecidableEq α] (d : α) (t : Tab α) : Bool := cellsWf d none t.cells

/-- The cells whose key lies from lo up to but not including hi. -/
def tabRange {α : Type} (t : Tab α) (lo hi : Nat) : List (Nat × α) :=
  t.cells.filter (fun c => decide (lo ≤ c.1) && decide (c.1 < hi))

/-- The table with every cell from lo up to but not including hi back at the default. -/
def tabClearRange {α : Type} (t : Tab α) (lo hi : Nat) : Tab α :=
  ⟨t.cells.filter (fun c => !(decide (lo ≤ c.1) && decide (c.1 < hi)))⟩

/-- The table with a list of cells written in order. -/
def tabSetAll {α : Type} [DecidableEq α] (d : α) (t : Tab α) (l : List (Nat × α)) : Tab α :=
  l.foldl (fun t c => tabSet d t c.1 c.2) t

/-- len bytes of a byte memory from address a. -/
def memRead (d : Byte) (m : Tab Byte) (a : Nat) : Nat → Bytes
  | 0 => []
  | n + 1 => tabGet d m a :: memRead d m (a + 1) n

/-- A byte memory with a byte string written from address a. -/
def memWrite (d : Byte) (m : Tab Byte) (a : Nat) : Bytes → Tab Byte
  | [] => m
  | b :: r => memWrite d (tabSet d m a b) (a + 1) r

end Sys2Proof
end

