-- ==== Sys2Proof/Types.lean ====
section
/-!
DEFINITION. The things the commands carry and the configuration holds: signatures, the Policy Image (R157 to R179),
the firmware bundle (R282, R283), capsules (R275), tokens (R153) and the named alternatives of the manual.
A structure the device parses is carried as its fields; `rsvdZero` says that every reserved field and padding byte is 0.
-/

namespace Sys2Proof

/-- What the check of one half of a hybrid signature, or of one whole signature, gives (R15). -/
inductive Half where
  | good
  | bad
  | missing
deriving DecidableEq, Repr

/-- A hybrid signature: its ECDSA half and its ML-DSA (or LMS) half. -/
structure Sig2 where
  ec : Half
  ml : Half
deriving DecidableEq, Repr

/-- R15: a signature counts only when both halves verify. -/
def sigOk (s : Sig2) : Bool := decide (s.ec = .good) && decide (s.ml = .good)

/-- The supply class of a VIO bank (R76). -/
inductive VioClass where
  | v18
  | v25
  | v33
deriving DecidableEq, Repr

/-- The first fields of the Policy Image (R158). -/
structure PolHeader where
  magic : Nat
  format : Nat
  hdrLen : Nat
  totalLen : Nat
  bodyLen : Nat
  svn : Nat
  flags : Nat
  variant : Nat
  sectionCount : Nat
  deviceId : Bytes
  ownerId : Bytes
  ownerOpt : Nat
  signerIndex : Nat
  buildId : Bytes
  created : Nat
  rsvdZero : Bool
deriving DecidableEq, Repr

/-- A section header with the COUNT that begins its body (R159, R160). -/
structure SecHeader where
  type : Nat
  len : Nat
  count : Nat
  rsvdZero : Bool
deriving DecidableEq, Repr

/-- A DOMAINS record (R162). -/
structure DomainRec where
  domain : Nat
  attr : Nat
  prereq : BitVec 32
  name : Bytes
deriving DecidableEq, Repr

/-- A RESET_MAP record (R163). -/
structure ResetRec where
  output : Nat
  domain : Nat
deriving DecidableEq, Repr

/-- A CHANNELS record (R164). -/
structure ChannelRec where
  channel : Nat
  devices : Nat
  width : Nat
  flags : Nat
  clkMhz : Nat
  readOp : Nat
  dummy : Nat
  addrBytes : Nat
  size0 : Nat
  size1 : Nat
  eraseOp : Nat
  programOp : Nat
  eraseLog2 : Nat
  pageLog2 : Nat
  scrubPeriod : Nat
deriving DecidableEq, Repr

/-- An IMAGES record (R165). -/
structure ImageRec where
  slot : Nat
  domain : Nat
  channel : Nat
  device : Nat
  mode : Nat
  hash : Nat
  offset : Nat
  length : Nat
  deadlineMs : Nat
  signer : Nat
  svnIndex : Nat
  refDigest : Bytes
deriving DecidableEq, Repr

/-- A LOCK_MAP record (R167). -/
structure LockRec where
  channel : Nat
  device : Nat
  cls : Nat
  base : Nat
  length : Nat
deriving DecidableEq, Repr

/-- A read mode an SFDP table advertises, in the order of the rows of R229. -/
inductive ReadMode where
  | m112
  | m122
  | m114
  | m144
  | m1s4d4d
  | m8s
  | m8d
deriving DecidableEq, Repr

/-- What parsing the SFDP bytes as JESD216F gives (R168, R233, R235): the standard is not restated, so the facts are
carried beside the bytes. An entry of `reads` for 1S-4D-4D is the DTR support bit, with the 1-4-4 count of the same table. `erases` pairs an opcode with the log2 of its size, for erase types 1 to 4; `erases4` pairs the opcodes with
their 4-byte forms, where the SFDP has a 4-byte address instruction table. -/
structure SfdpFacts where
  parses : Bool
  reads : List (ReadMode × Nat)
  xspi8s : Option Nat
  xspi8d : Option Nat
  erases : List (Nat × Nat)
  erases4 : Option (List (Nat × Nat))
  pageSize : Nat
deriving DecidableEq, Repr

/-- A PRESENT_ID record (R168). -/
structure PresentRec where
  port : Nat
  device : Nat
  channel : Nat
  srcDevice : Nat
  idLen : Nat
  width : Nat
  flags : Nat
  id : Bytes
  maxMhz : Nat
  sfdpLen : Nat
  hotBase : Nat
  hotLen : Nat
  sfdp : Bytes
  facts : SfdpFacts
deriving DecidableEq, Repr

/-- A RECOVERY record (R169). -/
structure RecoveryRec where
  slot : Nat
  action : Nat
  fallback : Nat
  goldenOffset : Nat
  vaultObject : Nat
deriving DecidableEq, Repr

/-- A FABRIC record (R170). -/
structure FabricRec where
  port : Nat
  role : Nat
  part : Nat
  width : Nat
  maxRate : Nat
  flags : Nat
deriving DecidableEq, Repr

/-- An ENDPOINTS record (R171). -/
structure EndpointRec where
  perst : Nat
  port : Nat
  flags : Nat
  spdmMin : Nat
  timeoutMs : Nat
  measSel : BitVec 256
  measDigest : Bytes
  rootDigest : Bytes
deriving DecidableEq, Repr

/-- A RESIST record (R172). -/
structure ResistRec where
  part : Nat
  action : Nat
  maxRanges : Nat
  armDeadlineMs : Nat
  violThreshold : Nat
  windowCount : Nat
  windows : List (Nat × Nat)
  p2pAllow : List (BitVec 32)
deriving DecidableEq, Repr

/-- A RINGS record (R173). -/
structure RingsRec where
  part : Nat
  stride : Nat
  adminRings : Nat
  maxDepthLog2 : Nat
  maxRings : Nat
  maxLedgers : Nat
  maxCounters : Nat
deriving DecidableEq, Repr

/-- An EVIDENCE_RATES record (R175). -/
structure RateRec where
  code : Nat
  rate : Nat
  burst : Nat
deriving DecidableEq, Repr

/-- A CBUS record (R176). -/
structure CbusRec where
  addr : Nat
  flags : Nat
  domain : Nat
  dcr : Nat
  pid : Nat
deriving DecidableEq, Repr

/-- A TRIP record (R177). -/
structure TripRec where
  source : Nat
  scope : Nat
  action : Nat
deriving DecidableEq, Repr

/-- A SIGNERS record (R178). -/
structure SignerRec where
  kind : Nat
  roles : Nat
  keyEc : Bytes
  keyMl : Bytes
deriving DecidableEq, Repr

/-- A Policy Image as the device parses it, with what its signature halves verify to under the key of the SIGNERS
record SIGNER_INDEX. `bodyRsvdZero` covers every reserved field and padding byte of the body. -/
structure PolicyImage where
  hdr : PolHeader
  secs : List SecHeader
  domains : List DomainRec
  resets : List ResetRec
  channels : List ChannelRec
  images : List ImageRec
  locks : List LockRec
  presents : List PresentRec
  recoveries : List RecoveryRec
  fabric : List FabricRec
  endpoints : List EndpointRec
  resist : List ResistRec
  rings : List RingsRec
  rates : List RateRec
  cbus : List CbusRec
  trips : List TripRec
  signers : List SignerRec
  bodyRsvdZero : Bool
  sig : Sig2
deriving DecidableEq, Repr

/-- The firmware bundle manifest and trailer (R282, R283) as the device parses them: `dieRevs` and `formats` are the listed
entries, `rsvdZero` covers those past the counts too, and `sig.ml` is the LMS half. -/
structure Bundle where
  magic : Nat
  version : Nat
  manifestBlks : Nat
  totalBlks : Nat
  flags : Nat
  svn : Nat
  dieRevCount : Nat
  formatCount : Nat
  dieRevs : List Nat
  formats : List Nat
  fwEntry : Nat
  fwFirstBlk : Nat
  fwBlks : Nat
  ucodeFirstBlk : Nat
  ucodeBlks : Nat
  buildId : Bytes
  versionStr : Bytes
  rsvdZero : Bool
  blockDigests : List Bytes
  keyLms : Bytes
  keyEc : Bytes
  sig : Sig2
deriving DecidableEq, Repr

/-- What a readable Boot Directory copy says (R185). -/
structure BootDir where
  generation : Nat
  fwInactive : Bool
  fwPromote : Bool
  polInactive : Bool
  polPromote : Bool
deriving DecidableEq, Repr

/-- A Boot Directory copy as it stands in flash (R185); `rsvdZero` covers its three reserved fields. -/
structure DirCopy where
  magic : Nat
  version : Nat
  generation : Nat
  fwInactive : Nat
  fwPromote : Nat
  polInactive : Nat
  polPromote : Nat
  rsvdZero : Bool
  digest : Bytes
deriving DecidableEq, Repr

/-- The image manifest of a SIGNER-mode source as read (R261), with what its signature halves verify to under the
key of the slot's SIGNER. -/
structure Manifest where
  magic : Nat
  version : Nat
  hash : Nat
  flags : Nat
  svn : Nat
  payloadLen : Nat
  imageId : Bytes
  payloadDigest : Bytes
  rsvdZero : Bool
  sig : Sig2
deriving DecidableEq, Repr

/-- A source a judgement reads, with the SOURCE codes of R346. -/
inductive Source where
  | half0
  | half1
  | golden
  | vault
  | lake
  | capsule
deriving DecidableEq, Repr

/-- How the submitter of a capsule reached the device: an admin ring, or PLDM Type 5 (VIA of R346). -/
inductive CapsuleVia where
  | ring
  | pldm
deriving DecidableEq, Repr

/-- An update capsule (R275): its first 8,192 bytes, its total length, and its payload, the bytes that are not 0xFF by offset. `sig`
is what the capsule's own signature halves verify to, `psig` those of the manifest its payload begins with. -/
structure Capsule where
  head : Bytes
  total : Nat
  content : List (Nat × Byte)
  sig : Sig2
  psig : Sig2
deriving DecidableEq, Repr

/-- A component of a PLDM Type 5 update that is not a capsule: 0x0001 and 0x0002 (R126). -/
inductive Component where
  | bundle (b : Bundle)
  | policy (p : PolicyImage)
deriving DecidableEq, Repr

/-- A frame of a consumer on a presentation port (R223): the port, its device, whether the other select of the port is low
too, the address, and whether the opcode is a 4-byte form of the catalogue (R228, R229). -/
structure PrsFrame where
  port : Nat
  dev : Bool
  both : Bool
  addr : BitVec 32
  form4 : Bool
deriving DecidableEq, Repr

/-- What the consumer clocks in a read frame, and what it meets (R231, R238, R242): the bytes clocked, CK in MHz, how many
bytes were ready when the first late one fell due, and the first byte in a Hot Window word that ECC cannot correct. -/
structure PrsRead where
  len : Nat
  mhz : Nat
  late : Option Nat
  bad : Option Nat
deriving DecidableEq, Repr

/-- What a TLP is, as R293 to R320 tell TLPs apart. -/
inductive TlpKind where
  | memRead
  | memWrite
  | atomic
  | completion
  | ioRequest
  | message
  | config
deriving DecidableEq, Repr

/-- The AT field of a memory request. -/
inductive TlpAt where
  | untranslated
  | translationRequest
  | translated
deriving DecidableEq, Repr

/-- Where the address or requester ID of a TLP leads under the windows and bus numbers the host has programmed: upstream, to
downstream port r, to the CSF, or to an upstream bridge or a port of no hierarchy of this partition. -/
inductive TlpDest where
  | up
  | port (r : Nat)
  | csf
  | outside
deriving DecidableEq, Repr

/-- A vendor-defined message (R332): its message code and vendor ID, and, where it is an MCTP packet, the EIDs, tag, tag
owner, first- and last-packet bits, and the MCTP message type and PLDM type a first packet begins with. -/
structure Vdm where
  code : Nat
  vendor : Nat
  srcEid : Nat
  dstEid : Nat
  tag : Nat
  owner : Bool
  som : Bool
  eom : Bool
  mctpType : Nat
  pldmType : Nat
deriving DecidableEq, Repr

/-- What the gate forwards unchanged (R316): tag, attributes, prefixes, ECRC and the poisoned bit. -/
structure TlpHdr where
  tag : Nat
  attr : Nat
  prefixes : Bytes
  ecrc : Option (BitVec 32)
  poisoned : Bool
deriving DecidableEq, Repr

/-- A TLP at the ingress of the gate: `vdm` is the vendor-defined message it carries, `ide` says that it travels in a selective
IDE stream between a host and an endpoint, `bound` that it comes on the stream bound to the TDI with the T bit set. -/
structure Tlp where
  kind : TlpKind
  at' : TlpAt
  addr : Nat
  len : Nat
  reqId : Nat
  vdm : Option Vdm
  hdr : TlpHdr
  ide : Bool
  bound : Bool
  dest : TlpDest
deriving DecidableEq, Repr

/-- A PLDM Type 5 message between a host and an endpoint (R334), as far as the mediation tells them apart; `other` carries
its command code and whether it is a request of the host. -/
inductive MedMsg where
  | requestUpdate
  | updateComponent (classification identifier : Nat) (version : Bytes)
  | requestData (offset len : Nat)
  | data (bytes : Bytes)
  | activate
  | cancel
  | other (code : Nat) (request : Bool)
deriving DecidableEq, Repr

/-- A write of DGA_LAST, with the rails of the compare that a fault of a comparator turns over: none in hardware without one (R450). -/
structure DgaLast where
  word : BitVec 32
  badRails : BitVec 2
deriving DecidableEq, Repr

/-- What the sender writes in a vendor message beside its command's own fields (R507): VERSION, FLAGS, DEVICE_STATUS and RSVD of the header,
a COMMAND that R508 does not list where one stands in the place of the command's own, and the reserved bytes of the body of
READ_ALIAS_CERT (R385). -/
structure VendorHdr where
  version : Nat
  flags : Nat
  status : Nat
  rsvd : Nat
  unlisted : Option Byte
  pad : Nat
deriving DecidableEq, Repr

/-- A Hegus or RMA token (R153). `sig` is checked under the root of its KIND, `own` under the owner key slot it
names; `digest` is the SHA-384 of the whole token. -/
structure Token where
  magic : Nat
  version : Nat
  kind : Nat
  deviceId : Bytes
  challenge : Bytes
  lcCount : Nat
  flags : Nat
  rsvd : Nat
  scope : Nat
  sig : Sig2
  own : Sig2
  digest : Bytes
deriving DecidableEq, Repr

/-- The registers of a partition's configuration space that a host writes and the manual names: BAR register i of the CSF (R500), and the
ACS Control and Egress Control Vector registers of the bridge of a DOWNSTREAM port (R294). -/
inductive CfgReg where
  | csfBar (i : Nat)
  | acsControl (port : Nat)
  | acsEgress (port : Nat)
  | bridgeBus (port : Nat)
deriving DecidableEq, Repr

/-- Where a register write is addressed (R499): a BAR of the CSF of a partition, with the bytes the request writes and whether it
comes on the stream bound to the TDI; an 8-byte write of the MSI-X table, with its upper word; a register of configuration space; or the
internal space, by a core or by JTAG, with the bytes the access writes and those beyond four. -/
inductive RegSpace where
  | bar (n : Nat) (p : BitVec 2) (len : Nat) (bound : Bool)
  | msix8 (p : BitVec 2) (high : BitVec 32) (bound : Bool)
  | config (p : BitVec 2) (r : CfgReg)
  | internal (jtag : Bool) (len : Nat) (high : BitVec 32)
deriving DecidableEq, Repr

/-- A JTAG instruction (R18, R151 to R154): the mandatory ones of IEEE 1149.1, with the custody outputs whose boundary-scan cells
they make drive low; IDCODE; the request for a Hegus challenge; a factory test instruction of a memory; a read of an OTP word in
test mode; an OTP program through test mode with the bits of the burn that read 0 at the low and at the high margin; and what the
scopes of a debug session open: halt, step, a read of SRAM or the Lake, a read of an internal register, the microcode trace. -/
inductive JtagOp where
  | mandatory (drive : BitVec 80)
  | idcode
  | challenge
  | memoryTest
  | otpRead (addr : Nat)
  | halt (on : Bool)
  | step
  | memRead (addr : Nat)
  | regRead (addr len : Nat)
  | trace
  | otpProgram (addr : Nat) (data : BitVec 32) (weakLo weakHi : BitVec 39)
deriving DecidableEq, Repr

/-- What a calibration meets (R198, R199): bit t says that the reads at tap t passed, in the calibration and, where it fails, in
its one repeat. -/
structure Cal where
  first : BitVec 64
  again : BitVec 64
deriving DecidableEq, Repr

/-- What the self-test of a channel meets on its devices (R214): whether the SFDP signatures return, the log2 of the densities
stated, the calibration, and whether WIP reads clear in time. `cont` says that the SFDP of the configuration flash advertises an
entry and an exit method of continuous read for the CFG_MODE protocol (R221). -/
structure ChanTest where
  sfdp : Bool
  dens0 : Nat
  dens1 : Nat
  cal : Cal
  wip : Bool
  cont : Bool
deriving DecidableEq, Repr

/-- What self-test and the ROM stage meet outside the device's own logic (R461): which units pass, whether a marginal LC
cell reads burned after it is programmed again (R149), whether the owner binding reads back good (R134), and the PID and
DCR of each CBUS component that acknowledges dynamic address assignment (R472). Slice i of BAY_b is bit 3 × b + i. -/
structure SelfTest where
  pairA : Bool
  pairB : Bool
  /-- Every PLL is locked within t_PLLLK (R488). -/
  pll : Bool
  romSram : Bool
  otpc : Bool
  dga : BitVec 24
  sig0 : Bool
  sig1 : Bool
  banks : BitVec 4
  lake : BitVec 8
  cch00 : ChanTest
  bays : BitVec 8
  slices : BitVec 24
  planes : BitVec 3
  reburnOk : Bool
  bindOk : Bool
  cbus : List (Nat × Nat)
deriving DecidableEq, Repr

/-- A block the Vault drive returns for a read otherwise than it was last written there: its LBA, its 4,096 data bytes and its first 64
metadata bytes (R379). -/
structure DriveBlock where
  lba : Nat
  data : Bytes
  info : Bytes
deriving DecidableEq, Repr

/-- How the frames of a component push fare on CCH_00 (R187): the component written, PROMOTE set, the copy that passes acceptance, PROMOTE
cleared. -/
structure PushFrames where
  written : Bool
  marked : Bool
  copied : Bool
  cleared : Bool
deriving DecidableEq, Repr

end Sys2Proof
end

