-- ==== Sys2Proof/Machine/StateCore.lean ====
section
/-!
DEFINITION. State of the always-on part: the Mordant (chapter 03), the OTP controller (chapter 04), the evidence
journal and the Vault (chapter 11). Plain data; what persists across which reset class is said at each field.
-/

namespace Sys2Proof

/-- The state of a Custody Domain (R105). -/
inductive DomState where
  | held
  | released
  | tripHeld
deriving DecidableEq, Repr

/-- A trip whose record is still to follow its action (R119): its SRC, the domains it moved to TRIP_HELD, and whether
it set the trip (and so increments TRIP_SEQ) or came while TRIP was shown. -/
structure TripNote where
  src : Nat
  heldMask : BitVec 32
  first : Bool
deriving DecidableEq, Repr

/-- The Mordant (R93 to R121): its registers, inputs and latches. -/
structure Mordant where
  /-- VSEC has risen through V_POR and not fallen below V_OFF (R87). -/
  vsec : Bool
  /-- VSEC is below V_BOD (R87, R120). -/
  brown : Bool
  /-- The critical fuse latch is complete (R96). -/
  latched : Bool
  /-- AOC_A toggles (R514). -/
  aocA : Bool
  /-- AOC_B toggles (R514). -/
  aocB : Bool
  /-- AOC_SEL: true is AOC_B (R95). -/
  aocSel : Bool
  /-- An AOC disagreement stands (R95). -/
  aocDis : Bool
  /-- The class of VIO_RST while it is good (R515). -/
  vioRst : Option VioClass
  /-- VIO_RST has stopped being good and the Mordant has not had a cycle since to hold the RELEASED domains (R81, R514). -/
  vioLost : Bool
  /-- Custody outputs, 0 to 79, whose boundary-scan cell drives low under a JTAG instruction (R18). -/
  bscan : BitVec 80
  /-- TAMP_N_0 to TAMP_N_3 that are low (R116). -/
  tampLow : BitVec 4
  /-- MORDANT_STRAP (R97). -/
  strap : BitVec 8
  /-- A Custody Trip is shown (R118, R120). -/
  trip : Bool
  /-- MORDANT_TRIP_CAUSE.SRC (R52). -/
  tripSrc : Nat
  /-- Trips whose TRIP_RECORD is still to come (R119). -/
  tripNotes : List TripNote
  /-- The trip acted through the asynchronous path with both oscillators stopped (R514): the trip fan-out holds every
  PERST_N under Vat custody low. -/
  asyncTrip : Bool
  /-- MORDANT_STATE.PHASE (R101); 0 before HOLD. -/
  phase : Nat
  /-- MORDANT_STATE.FLOOR_CAUSE (R103). -/
  floorCause : Nat
  /-- MORDANT_CFG_LOCK.LOCK (R110). -/
  lock : Bool
  /-- The state of D_00 to D_31 (R105). -/
  dom : Tab DomState
  /-- The final-hold mark of each domain as a 0x000D CAUSE; 0 is no final hold (R101). -/
  final : Tab Nat
  /-- The CAUSE of the latest 0x000D record of each domain; 0 none (R373). -/
  heldCause : Tab Nat
  /-- MORDANT_REL_REQ. -/
  relReq : BitVec 32
  /-- MORDANT_DOM_ATTR of each domain. -/
  attr : Tab (BitVec 4)
  /-- MORDANT_DOM_PREREQ of each domain. -/
  prereq : Tab (BitVec 32)
  /-- MORDANT_OUT_MAP of each of the 80 outputs. -/
  outMap : Tab (BitVec 6)
  /-- MORDANT_VSLOT_MAP of each image slot. -/
  vslotMap : Tab (BitVec 6)
  /-- The Verdict pair of each of the 288 slots, COMP above WORD (R109). -/
  vslot : Tab (BitVec 32)
  /-- Every domain in use has been decided in this start (R101). -/
  allDecided : Bool
  /-- MORDANT_SEL. -/
  selOut : Nat
  selSlot : Nat
  selDom : Nat
deriving DecidableEq, Repr

/-- One OTP word as sensed at the low and the high margin: data in bits 31:0, check bits in 38:32 (R128). -/
structure OtpSense where
  lo : BitVec 39
  hi : BitVec 39
deriving DecidableEq, Repr

/-- The OTP operation in progress (R136). -/
inductive OtpPend where
  | read (addr : Nat)
  | program (addr : Nat) (data : BitVec 32)
  | scan
  | lcStep
  | refused
deriving DecidableEq, Repr

/-- OTPC_ALARM (R141): the flags of bits 7:0 and FIRST_WORD. -/
structure OtpAlarm where
  firstWord : Nat
  flags : BitVec 8
deriving DecidableEq, Repr

/-- The OTP array and its controller (R128 to R156). -/
structure Otp where
  /-- The array of 2,048 words; it persists for ever. -/
  words : Tab OtpSense
  /-- OTPC_CMD. -/
  op : Nat
  addr : Nat
  /-- OTPC_STATUS. -/
  dropped : Bool
  busy : Option OtpPend
  /-- Accepted operations whose record became durable while another was in progress (R137, R148). -/
  due : List OtpPend
  result : Nat
  /-- OTPC_DATA. -/
  data : BitVec 32
  alarm : OtpAlarm
  /-- OTPC_LOCK.LOCK_VENDOR (R131). -/
  lockVendor : Bool
  /-- OTPC_LOCK.KEY_CLOSED and OWNER_FINAL as the latest scan found them. -/
  keyClosed : Bool
  ownerFinal : Bool
  /-- The RMA_OK wire (R148), with the digest of the token that raised it. -/
  rmaOk : Option Bytes
  /-- STATE_LATCHED: true is Closed (R146). -/
  closed : Bool
  compatVoted : BitVec 8
  countLatched : Nat
  countBurned : Nat
  /-- OTPC_RATCHET.SVN (R142). -/
  ratchet : Nat
  /-- FEAT_CRIT as latched by the critical fuse latch (R96, R139). -/
  feat : BitVec 32
  /-- The debug session: its granted scopes (R155). -/
  session : Option (BitVec 4)
  /-- Accepted debug tokens that wait for operations with a key-ladder output to complete, in order: scopes, and the body of the 0x0040
  (R155). -/
  debugWait : List (BitVec 4 × Bytes)
  /-- The quote batches (EPOCH and number) and the Boot Record whose Alias signature was being made when the first of them was accepted. -/
  debugBatches : List (Nat × Nat)
  debugBr : Bool
  /-- The Hegus challenge in force (R152, R154). -/
  challenge : Option Bytes
deriving DecidableEq, Repr

/-- One evidence record in a block (R343); SEQ and FLAGS.RESERVE are those given when it became durable. -/
structure Rec where
  code : Nat
  src : Nat
  reserve : Bool
  seq : Nat
  body : Bytes
deriving DecidableEq, Repr

/-- A Chain Block (R351). `recs` is the content of an EVIDENCE block, `entries` of a RING block. -/
structure Block where
  ring : Bool
  close : Nat
  epoch : Nat
  index : Option Nat
  openUs : Nat
  openAt : Nat
  recs : List Rec
  entries : List Bytes
  used : Nat
  chain : Bytes
deriving DecidableEq, Repr

/-- The content of one Fix Ring slot (R359). A WRITE slot lists the write-journal entries and the preserved bytes of R247 it holds, by
identity, each with how many of its bytes stand in this slot. -/
inductive FixSlot where
  | free
  | chainBlock (b : Block)
  | write (l : List (Nat × Nat))
deriving DecidableEq, Repr

/-- The token bucket of one code (R356): millionths of a token, at a time. -/
structure Bucket where
  level : Nat
  time : Nat
deriving DecidableEq, Repr

/-- The suppressed count of one code with the times of its first and last record (R357). -/
structure Suppressed where
  count : Nat
  firstUs : Nat
  lastUs : Nat
deriving DecidableEq, Repr

/-- What waits for a record to become durable (R31, R358). -/
inductive Gate where
  | none
  /-- The release request of a domain (record 0x0004). -/
  | relReq (d : Nat)
  /-- The end of an endpoint's seal (0x0202). -/
  | epRelease (perst : Nat)
  /-- The end of a containment (0x0207). -/
  | lift (perst : Nat)
  /-- The recovery action of a slot; `fallback` says which of its two actions (0x0005). -/
  | recovery (slot : Nat) (fallback : Bool)
  /-- The switch of a slot's halves (0x000B). -/
  | capsuleSwitch (slot : Nat)
  /-- Acceptance of the staged capsule (0x000A). -/
  | capsuleStaged
  /-- The raise of an image SVN counter (0x0009). -/
  | svnAdvance (index newSvn : Nat)
  /-- The raise of the policy SVN floor (0x0044). -/
  | policySvn (newSvn : Nat)
  /-- The next ratchet word (0x0042). -/
  | ratchet (n : Nat)
  /-- A life-cycle step (0x0041). -/
  | lcStep
  /-- The clear of a Custody Trip (0x0008). -/
  | tripClear
  /-- The opening of a debug session (0x0040). -/
  | debugOpen (scope : BitVec 4)
  /-- Arming of a partition; the command RESIST_ARM_EFFECT lets it take effect (0x0205). -/
  | resistArm (p : Nat)
  /-- The held ActivateFirmware of a port; ACTIVATE_FIRMWARE_RELEASE forwards it (0x0208). -/
  | activate (port : Nat)
  /-- The end of a promotion that a start repeats, of the Policy Image or else of the bundle (0x000E). -/
  | promotion (pol cleared : Bool)
deriving DecidableEq, Repr

/-- A record that waits for Fix Ring space, with what waits on it (R362). -/
structure Waiting where
  code : Nat
  src : Nat
  body : Bytes
  gate : Gate
  /-- Of a record that waits: the records on their way to durable that were submitted before it. -/
  ahead : Nat
deriving DecidableEq, Repr

/-- How far the Boot Record of the current epoch has come (R374). -/
inductive BrPhase where
  | none
  | closing
  | signed
deriving DecidableEq, Repr

/-- The fields of a Boot Record that hold values at its close (R372). -/
structure BrAt where
  custStat : Nat
  phase : Nat
  closeUs : Nat
  units : Bytes
  /-- The endpoints by PERST_N number: STATE, SPDM_VER and MEAS_DIGEST (R301, R373). -/
  eps : List (Nat × Nat × Nat × Bytes)
deriving DecidableEq, Repr

/-- The evidence journal (R343 to R376). SEQ, TRIP_SEQ, EPOCH, the chain head, the Fix Ring, its blocks and the
suppressed counts persist across every reset class. -/
structure Evid where
  /-- The SEQ the next durable record gets (R345). -/
  seq : Nat
  /-- The TRIP_SEQ counter (R119). -/
  tripSeq : Nat
  /-- The EPOCH counter (R364). -/
  epoch : Nat
  /-- The chain head (R354). -/
  lastIndex : Nat
  headChain : Bytes
  /-- The 384 slots (R359). -/
  fix : Tab FixSlot
  /-- The slot allocated last. -/
  lastSlot : Nat
  /-- The slots of the open EVIDENCE, RING and WRITE blocks. -/
  openEv : Option Nat
  openRing : Option Nat
  /-- RING blocks closed since reset. -/
  ringCloses : Nat
  openWrite : Option Nat
  /-- The slots of closed blocks the chain unit has still to take, in closing order (R354). -/
  chainQ : List Nat
  /-- Records submitted and not yet durable, in submission order. -/
  inflight : List Waiting
  /-- Records that wait for space, in submission order (R362). -/
  waiting : List Waiting
  /-- Records of ROM or firmware an S event dropped; firmware submits them again after its restart (R389). -/
  resubmit : List Waiting
  buckets : Tab (Option Bucket)
  suppressed : Tab (Option Suppressed)
  /-- TIMER_AOT at the epoch's first record: _US times count from it (R346). -/
  epochStart : Nat
  /-- EVID_FIX.SEALED (R368). -/
  isSealed : Bool
  /-- The start has begun its epoch (R364). -/
  begun : Bool
  /-- START_CAUSE of the start (R347). -/
  startCause : Nat
  /-- SEQ of this epoch's 0x0F02 record (R372). -/
  beginSeq : Nat
  /-- The SEQ of the last record in the newest closed EVIDENCE block, with that block's CB_INDEX (R372, R386). -/
  headSeq : Nat
  /-- The alert of HIGH has been raised since the Fix Ring reached it (R361). -/
  highTold : Bool
  /-- The Boot Record of the current epoch (R374, R376). -/
  brPhase : BrPhase
  /-- What it takes at its close (R372, R464): CUST_STAT, PHASE, CLOSE_US and UNITS. -/
  brAt : Option BrAt
  /-- The closed blocks still to be chained before step 4 of R374, and HEAD_INDEX, HEAD_SEQ and HEAD_CHAIN once they are. -/
  brLeft : Nat
  brHead : Option (Nat × Nat × Bytes)
  br : Bytes
  /-- The epoch of the Boot Record kept for a re-key, with the start's own header and entries (R375). -/
  brStart : Option Bytes
deriving DecidableEq, Repr

/-- A golden-image object of the Vault (R381). -/
structure VaultObj where
  slot : Nat
  length : Nat
  firstLba : Nat
  digest : Bytes
  content : List (Nat × Byte)
  /-- The manifest its first 8,192 bytes parse to (R262). -/
  manifest : Option Manifest
deriving DecidableEq, Repr

/-- A superblock copy (R380). -/
structure Superblock where
  deviceId : Bytes
  lcCount : Nat
  n : Nat
  g : Nat
  archCbs : Nat
deriving DecidableEq, Repr

/-- An LBA format: its data and metadata bytes, and whether protection information is enabled (R377). -/
structure LbaFormat where
  data : Nat
  meta' : Nat
  protInfo : Bool
deriving DecidableEq, Repr

/-- What Identify tells of namespace 1 (R377): its size in blocks, its current LBA format, and those it offers. -/
structure Namespace where
  blocks : Nat
  format : LbaFormat
  formats : List LbaFormat
deriving DecidableEq, Repr

/-- A run of Vault blocks the device has written (R379): the blocks, the EPOCH and KIND of their metadata, the BLOCK_NO of the
first, and the latched count their key was derived under (R365). -/
structure VRun where
  lba : Nat
  count : Nat
  epoch : Nat
  kind : Nat
  blockNo : Nat
  lc : Nat
deriving DecidableEq, Repr

/-- VAULT STATE of EVID_VAULT. -/
inductive VaultState where
  | inService
  | out
  | readOnly
deriving DecidableEq, Repr

/-- What a management port reads from the Vault (R385): bytes of a Chain Block, or of the Boot Record of an epoch. -/
inductive VaultRead where
  | block (index offset length : Nat)
  | boot (epoch offset length : Nat)
deriving DecidableEq, Repr

/-- What an NVMe command of the device is for (R377): the bring-up of the controller, the two superblock copies, initialisation, and what
the Vault is used for: the journal, Boot Records, checkpoints, a restore, an object's data and then its directory entry, and a read
for a management port, true for MGT_B, with the FLAGS of its request. -/
inductive NvmeUse where
  | identify
  | setQueues
  | createCq
  | createSq
  | readSuper (copy : Nat)
  | format
  | writeDirs
  | writeSuper (copy : Nat)
  | flush
  | archive (index : Nat)
  | bootRecord (epoch : Nat)
  | checkpoint
  | restore (slot : Nat)
  | objData (obj : Nat) (o : VaultObj)
  | objDir (obj : Nat) (o : VaultObj)
  | mgtRead (port : Bool) (flags : Nat) (q : VaultRead)
  /-- The block that an EXPORT_ACK of a port names (R387). -/
  | ackRead (port : Bool)
  /-- The read-back of the capsule in progress, of kind VAULT (R278). -/
  | capsuleRead
  /-- The manifests of the VAULT sources for an SVN advance of a slot, with those read from its GOLDEN sources (R272). -/
  | svnRead (slot : Nat) (goldens : List (Nat × Manifest))
  /-- A read whose user an S event has ended. -/
  | dropped
deriving DecidableEq, Repr

/-- The commands of one use that are not yet complete, the first of them in progress: how often that has been issued, and the run of blocks
the use writes, with the nonces taken at its first issue (R366, R383). -/
structure NvmeCmd where
  use : NvmeUse
  issues : Nat
  /-- The controller has been reset for this command. -/
  afterReset : Bool
  left : Nat
  run : Option VRun
deriving DecidableEq, Repr

/-- What a checkpoint copies (R384): the 64-byte lines of the ledgers by device index, and the cells of the Counter Bank. -/
structure CkptCopy where
  ledgers : Tab Bytes
  counters : Tab Bytes
deriving DecidableEq, Repr

/-- A checkpoint whose Vault writes are in progress (R384). -/
structure Ckpt where
  slot : Nat
  ledgers : Nat
  cbIndex : Nat
  copy : CkptCopy
  digest : Bytes
deriving DecidableEq, Repr

/-- The Vault engine and the drive as the device has left it (R377 to R387). -/
structure Vault where
  state : VaultState
  cause : Nat
  /-- OUT by command failure until the next C event (R383). -/
  failed : Bool
  /-- A superblock copy is accepted (R380). -/
  accepted : Bool
  ns : Namespace
  sb0 : Option Superblock
  sb1 : Option Superblock
  /-- BLOCK_NO of the next block written, and the stored end of the reserved run (R365, R366). -/
  blockNo : Nat
  runEnd : Nat
  /-- The archive by position (R382). -/
  arch : Tab (Option Block)
  /-- The latest accepted EXPORT_ACK (R387). -/
  exportAck : Option Nat
  objects : Tab (Option VaultObj)
  /-- The Boot Record store, by EPOCH mod 65,536. -/
  bootRecs : Tab (Option (Nat × Bytes))
  /-- Boot Records to be written to the store, with their EPOCH, until they are (R376). -/
  brDue : List (Nat × Bytes)
  /-- The checkpoint slot that holds the latest checkpoint, and what each slot holds (R384). -/
  ckptSlot : Option Nat
  ckpts : Tab (Option CkptCopy)
  ckpt : Option Ckpt
  /-- The commands not yet complete; the first is in progress (R383). -/
  nvme : List NvmeCmd
  resetting : Bool
  /-- What the read of superblock copy 0 returned otherwise than it was written, until copy 1 is read (R380). -/
  sbBack : List DriveBlock
  /-- The runs of blocks written, the latest first: what the metadata of a block holds (R379). -/
  runs : List VRun
deriving DecidableEq, Repr

end Sys2Proof
end

