-- ==== Sys2Proof/Machine/StateFabric.lean ====
section
/-!
DEFINITION. State of the Fabric Gate: links and endpoints (chapter 09), Resist, the datapath and mediation (chapter 10).
-/

namespace Sys2Proof

/-- GATE_EP_STATE.STATE of an endpoint (R298). -/
inductive EpState where
  | isSealed
  | vat
  | attesting
  | attested
  | refused
  | opened
  | recheck
  | contained
deriving DecidableEq, Repr

/-- The containment causes of a port (R298). -/
structure Causes where
  changed : Bool
  firmware : Bool
  trip : Bool
  link : Bool
  hotReset : Bool
deriving DecidableEq, Repr

/-- Which SPDM exchange of R303 is under way. -/
inductive SpdmStep where
  | version
  | capabilities
  | algorithms
  | digests
  | certificate
  | measurements
deriving DecidableEq, Repr

/-- Why an attestation or re-check runs: the KIND of 0x0201. -/
inductive AttKind where
  | initial
  | periodic
  | heldCheck
deriving DecidableEq, Repr

/-- An attestation or re-check in progress (R303 to R306). -/
structure Att where
  kind : AttKind
  step : SpdmStep
  sends : Nat
  version : Nat
  /-- Bytes of the certificate chain received, the measurement indices still to ask for, and the blocks returned so far. -/
  chain : Nat
  left : List Nat
  blocks : Bytes
  /-- CHUNK_CAP of the endpoint, and the nonce sent with the last GET_MEASUREMENTS (R303). -/
  chunk : Bool
  nonce : Bytes
deriving DecidableEq, Repr

/-- One endpoint, by its PERST_N number. -/
structure Ep where
  st : EpState
  causes : Causes
  /-- The link is in L0. -/
  link : Bool
  /-- t_EPWAIT runs: the first configuration request is still to come (R302). -/
  epWait : Bool
  /-- Configuration requests are being sent (R302). -/
  configuring : Bool
  att : Option Att
  /-- GATE_RECHK_PAIR (R306). -/
  recheckPair : BitVec 32
  /-- The SPDM version and the measurement digest of the latest attestation or re-check (R301, R373). -/
  spdmVer : Nat
  measDigest : Bytes
  /-- 0x0202 waits: the endpoint's release has been granted by the Interlock and its record is not durable yet. -/
  releaseDue : Bool
  /-- A containment the host triggered itself through DPC (R299). -/
  hostDpc : Bool
  /-- The link was lost while the endpoint was CONTAINED, so that its held re-check waits t_EPWAIT (R306). -/
  relink : Bool
deriving DecidableEq, Repr

/-- The link of a port as GATE_LINK reports it. -/
structure Link where
  rate : Nat
  width : Nat
  flit : Bool
  l0p : Bool
  dllActive : Bool
  ideSecure : Bool
deriving DecidableEq, Repr

/-- The state of the CSF's TDI (R297). -/
inductive TdiState where
  | unlocked
  | locked
  | run
  | error
deriving DecidableEq, Repr

/-- A Resist range record (R322). -/
structure Range where
  base : Nat
  limit : Nat
  src : BitVec 32
  perm : Nat
  label : Nat
deriving DecidableEq, Repr

/-- Resist and CSF state of one partition. -/
structure Part where
  /-- The upstream link is in L0, and the ARM_DEADLINE_MS count runs. -/
  up : Bool
  deadlineRuns : Bool
  /-- CSF_RES_REC_0 to 7. -/
  recWords : List (BitVec 32)
  /-- CSF_RES_STATUS: what is pending (a declaration that passed its checks; an arming by its source, with whether 0x0205
  is durable; an ARM command of the host), and RESULT. -/
  pendDeclare : Option Range
  pendArm : Option (Nat × Bool)
  armCmd : Bool
  result : Nat
  /-- The table, ARMED with ARM_SRC, and the digest (R324, R325). -/
  ranges : List Range
  armed : Nat
  digest : Bytes
  winSel : Nat
  /-- Violations in the current window, and whether the escalation has been raised in it (R331). -/
  viol : Nat
  escalated : Bool
  /-- The link IDE stream is in Secure (R296), a selective stream to the CSF is in Secure, and which is bound (R297). -/
  selSecure : Bool
  bound : Bool
  /-- An SPDM secured session with the CSF's responder (R296). -/
  session : Bool
  /-- IDE keys programmed over that session (R296). -/
  ideKeys : Bool
  tdi : TdiState
  /-- The BAR registers of the CSF, 0 to 5 (R500). -/
  csfBars : Tab (BitVec 32)
  /-- The ACS Control and Egress Control Vector registers of a downstream port bridge, once the host has written one (R294). -/
  acsHost : Tab (Option (BitVec 32 × BitVec 32))
  /-- The bus number register of a downstream port bridge: primary, secondary and subordinate in its low bytes (R294). -/
  buses : Tab (BitVec 32)
deriving DecidableEq, Repr

/-- A TLP the ingress port holds until its delivery is reported (R337). -/
structure HeldTlp where
  ingress : Nat
  egress : Nat
  fsn : Nat
  tlp : Tlp
deriving DecidableEq, Repr

/-- A component of a mediated update (R334). -/
structure MedComp where
  classification : Nat
  identifier : Nat
  version : Bytes
  versionLen : Nat
  /-- The offset after the last request in order, the request last made, and those whose response is still to come, oldest first. -/
  askNext : Nat
  askLast : Option (Nat × Nat)
  asks : List (Nat × Nat)
  /-- The bytes hashed so far, and where the last response that was hashed began, with its bytes. -/
  nextOffset : Nat
  lastOffset : Nat
  lastData : Bytes
  absent : Bool
  data : Bytes
deriving DecidableEq, Repr

/-- A mediation session (R334). -/
structure Mediation where
  comps : List MedComp
  /-- The TLP of a held ActivateFirmware request, and whether its 0x0208 record is durable. -/
  heldAct : Option Tlp
  activateReady : Bool
  /-- Its 0x0208 records have been submitted: every component's digest is finished. -/
  recorded : Bool
  /-- ActivateFirmware has been forwarded. -/
  activated : Bool
deriving DecidableEq, Repr

/-- An intercepted packet (R332 to R335): its endpoint's port, the message, its bytes in the mediation buffer, the port it came in at and
the TLP that carries it. -/
structure MedPkt where
  port : Nat
  msg : MedMsg
  size : Nat
  ingress : Nat
  tlp : Tlp
deriving DecidableEq, Repr

/-- An intercepted MCTP message whose end-of-message packet is still to come, in partition `part` (R332). -/
structure MctpFlow where
  part : Nat
  srcEid : Nat
  dstEid : Nat
  tag : Nat
  owner : Bool
deriving DecidableEq, Repr

/-- The Fabric Gate. -/
structure Fabric where
  portSel : Nat
  partSel : Nat
  links : Tab Link
  eps : Tab Ep
  parts : Tab Part
  /-- GATE_UNITS and the failing units of GATE_FAULT_NOW. -/
  planes : BitVec 3
  slices : BitVec 24
  planeFail : BitVec 3
  sliceFail : BitVec 24
  /-- Bays in service: latched in BAY_EN and not removed at self-test (R33, R311, R464). -/
  bays : BitVec 8
  /-- The plane each (ingress, egress) pair is pinned to, from 1 (0 not pinned yet), its next FSN, and one above the highest
  FSN its egress has delivered (R337). -/
  pinned : Tab Nat
  fsnNext : Tab Nat
  fsnDone : Tab Nat
  heldTlps : List HeldTlp
  meds : Tab (Option Mediation)
  medBuf : List MedPkt
  /-- Packets that found the mediation buffer full: their port's posted credits stay out (R335). -/
  medWait : List MedPkt
  /-- TLPs that were intercepted and whose packet firmware has not been given yet, by the endpoint's port and the ingress. -/
  medTlps : List (Nat × Nat × Tlp)
  /-- Posted credits of TLPs that are over, by ingress port and data units, kept back while the buffer is full (R335). -/
  keptCredits : List (Nat × Nat)
  mctpOpen : List MctpFlow
  /-- Reports through AER: of a bridge by its port, of the CSF of partition p at 32 + p (R294, R299, R329). -/
  aer : Tab Nat
  /-- Unsupported Request completions the gate has sent for held requests that ended, by their ingress port (R342). -/
  urDone : Tab Nat
deriving DecidableEq, Repr

/-- The state of a ring (R414). -/
inductive RingState where
  | absent
  | active
  | error
  | destroying
deriving DecidableEq, Repr

/-- The context of one ring (R400, R414). -/
structure Ring where
  st : RingState
  depthLog2 : Nat
  sqBase : Nat
  cqBase : Nat
  tenant : Nat
  vector : Nat
  /-- Commands journaled and completions posted since the ring was created. -/
  journaled : Nat
  posted : Nat
  /-- Completions the host has taken, by its completion head. -/
  taken : Nat
  tail : Nat
  cqHead : Nat
  /-- The journaled count at which a DESTROYING ring has aborted its last entry, and who is to be told. -/
  abortTo : Nat
  destroyer : Option (Nat × Nat)
  /-- After an S event nothing is fetched before this many completions are written (R420). -/
  resumeTo : Nat
deriving DecidableEq, Repr

/-- A submission entry as the dispatcher fetched it, with what it read beside it (R397, R401): whether the input buffer reads
without an error, its bytes, and the capsule of CAPSULE_SUBMIT. -/
structure Fetched where
  entry : Bytes
  bufOk : Bool
  buf : Bytes
  cap : Option Capsule
deriving DecidableEq, Repr

/-- A journaled command until its completion is posted (R416). -/
structure RingCmd where
  part : Nat
  ring : Nat
  rseq : Nat
  cid : Nat
  op : Nat
  arg : Nat
  handle : Nat
  addr : Nat
  payload : Bytes
  status : Nat
  buf : Bytes
  /-- The NONCE of a SEAL, the plaintext of an UNSEAL. -/
  extra : Bytes
  /-- The effect has been applied; the completion may be posted. -/
  applied : Bool
  ready : Bool
  result : Bytes
  /-- What is written to the command's buffer before the completion: address and bytes. -/
  out : List (Nat × Bytes)
  /-- The tenant of its ring, and whether that ring no longer serves it: its effect is still to come, its completion is not (R414, R415). -/
  tenant : Nat
  orphan : Bool
  /-- A SEAL or UNSEAL that is to be carried out again after an S event, once its input buffer has been read again (R420). -/
  again : Bool
deriving DecidableEq, Repr

/-- The host-memory access a ring waits for (R419). -/
inductive AccessUse where
  | fetch
  | post
  | input
  | output
deriving DecidableEq, Repr

/-- An access sequence that has met a failure: its use, how many issues have failed, and whether t_RRETRY runs. Three failures
of a buffer access stay until the command is dealt with (R419). -/
structure Access where
  part : Nat
  ring : Nat
  use : AccessUse
  fails : Nat
  waits : Bool
deriving DecidableEq, Repr

/-- A command that has been fetched and waits before its journaling; its ring waits behind it (R418). -/
structure HeldCmd where
  part : Nat
  ring : Nat
  entry : Bytes
deriving DecidableEq, Repr

/-- One quote leaf with the command it answers (R405). -/
structure Leaf where
  bytes : Bytes
  part : Nat
  ring : Nat
  rseq : Nat
  /-- Its ring still serves the command. -/
  live : Bool
deriving DecidableEq, Repr

/-- A quote batch (R406, R407). -/
structure Batch where
  epoch : Nat
  no : Nat
  leaves : List Leaf
  closeUs : Nat
  root : Bytes
deriving DecidableEq, Repr

/-- One ledger (R391, R392, R420). -/
structure Ledger where
  value : Bytes
  extCount : Nat
  lastPart : Nat
  lastRing : Nat
  lastRseq : Nat
deriving DecidableEq, Repr

/-- A run of ledgers or counters handed out to a tenant (R391). -/
structure Run where
  base : Nat
  count : Nat
  part : Nat
  tenant : Nat
deriving DecidableEq, Repr

/-- The quota of a tenant (R393). -/
structure Quota where
  part : Nat
  tenant : Nat
  rings : Nat
  ledgers : Nat
  counters : Nat
deriving DecidableEq, Repr

/-- The registers of one admin ring: NRX_ADM_SQ, NRX_ADM_CQ, and the writable fields of NRX_ADM_CTRL. -/
structure AdmRegs where
  sqLo : BitVec 32
  sqHi : BitVec 32
  cqLo : BitVec 32
  cqHi : BitVec 32
  vector : Nat
  poll : Bool
  depthLog2 : Nat
  enable : Bool
deriving DecidableEq, Repr

/-- The Norxel rings of every partition. Rings are keyed by partition × 262,144 + index. -/
structure Rings where
  admSel : Tab Nat
  ringSel : Tab Nat
  adm : Tab AdmRegs
  rings : Tab Ring
  /-- Journaled commands whose completion is not posted, in journal order. -/
  jobs : List RingCmd
  accesses : List Access
  heldCmds : List HeldCmd
  /-- Commands whose completion is written while the write of their ring's context, which an S event can lose, may still be to come, each with
  the count of closed RING blocks then (R420, R421). -/
  unsaved : List (Nat × RingCmd)
  /-- A CAPSULE_SUBMIT that has been fetched and is outstanding (R278, R413). -/
  capsuleWait : List RingCmd
  ledgers : Tab Ledger
  /-- The version counters of the Lake lines of ledgers and ring contexts, by usable line (R253). -/
  ctxVer : Tab Nat
  ledgerRuns : List Run
  /-- The Counter Bank: values and runs persist across every reset class (R47, R392). -/
  counters : Tab Nat
  counterRuns : List Run
  quotas : List Quota
  /-- The open batch, the batches whose 0xF0 entry is durable and whose signature is not, and BATCH_NO. -/
  batch : List Leaf
  closing : List Batch
  /-- Batches that are signed and have a completion still to be written: an S event makes their headers be signed again (R420). -/
  signed : List Batch
  batchNo : Nat
  /-- The epoch of the open batch's number (R406). -/
  batchEpoch : Nat
  /-- SEAL_NO and the stored end of its reserved run (R409). -/
  sealNo : Nat
  sealEnd : Nat
  /-- Vectors within t_IRQGAP of their last message, and whether a completion waits for the next (R396). -/
  gaps : Tab (Option Bool)
  /-- The words of the MSI-X tables: word i of partition p at 8,192 × p + i (R396). -/
  msix : Tab (BitVec 32)
deriving DecidableEq, Repr

end Sys2Proof
end

