-- ==== Sys2Proof/Machine/StateFlash.lean ====
section
/-!
DEFINITION. State of the flash side: custody channels and the direct-execution window (chapter 06), presentation ports and
the Image Lake (chapter 07), verification, capsules and the configuration flash (chapters 05 and 08).
-/

namespace Sys2Proof

/-- CCH_STATUS.STATE (R213). -/
inductive ChanState where
  | off
  | selftest
  | replay
  | ready
  | stopped
  | failed
deriving DecidableEq, Repr

/-- The clients of a channel in their order of precedence (R206). -/
inductive Client where
  | xip
  | commit
  | verify
  | firmware
  | scrub
deriving DecidableEq, Repr

/-- A queue entry: the four words of R201. -/
structure QEntry where
  ctrl : BitVec 32
  addr : BitVec 32
  len : BitVec 32
  buf : BitVec 32
deriving DecidableEq, Repr

/-- A completion: TAG and STATUS of CCH_QDONE. -/
structure QDone where
  tag : BitVec 8
  status : Nat
deriving DecidableEq, Repr

/-- What a frame does on flash. -/
inductive FrameKind where
  | read
  | program
  | erase
  | register
deriving DecidableEq, Repr

/-- The frame in progress on a channel. Firmware frames list their entries, the continuation entries included; while the
last one has CONT the select stays low and the frame waits for its next entry (R202). -/
structure Frame where
  client : Client
  kind : FrameKind
  dev : Nat
  addr : Nat
  len : Nat
  attempt : Nat
  entries : List QEntry
  waitWip : Bool
  /-- No further entry joins the frame, and the entry whose rejection ended it, with its status. -/
  ended : Bool
  tail : Option (QEntry × Nat)
  /-- The Lake position of a scrub frame, device × 2^32 + address (R273). -/
  pos : Nat
  /-- A line fill that continues a continuous read sends no opcode; a frame that follows one sends the exit sequence first (R221). -/
  omitOp : Bool
  exitFirst : Bool
deriving DecidableEq, Repr

/-- A device whose WIP is being polled, for whom, which entry completes then (R205), and the rejected entry that completes after
it, with its status (R206). -/
structure WipWait where
  client : Client
  entry : Option QEntry
  tail : Option (QEntry × Nat)
deriving DecidableEq, Repr

/-- A write of a presentation port (R245). -/
structure JEntry where
  id : Nat
  port : Nat
  device : Nat
  channel : Nat
  srcDevice : Nat
  erase : Bool
  addr : Nat
  len : Nat
  data : Bytes
  /-- The effective class: 3 MUTABLE, 4 SHADOW. -/
  cls : Nat
  /-- The bytes preserved around a partial erase whose commit was not finished, with their Fix Ring identity (R247). -/
  kept : Option (Nat × Bytes)
deriving DecidableEq, Repr

/-- One backing frame of a commit (R246, R247). -/
inductive CommitFrame where
  | read (addr len : Nat)
  | erase (addr : Nat)
  | program (addr len : Nat)
deriving DecidableEq, Repr

/-- The commit in progress on a channel: the entry and its frames still to run. `replay` says it runs in REPLAY. -/
structure CommitJob where
  entry : JEntry
  frames : List CommitFrame
  replay : Bool
  /-- The bytes preserved around a partial erase, with their Fix Ring identity (R247). -/
  kept : Option (Nat × Bytes)
  /-- Those bytes as they are read, before they are durable. -/
  got : Bytes
deriving DecidableEq, Repr

/-- A custody channel CCH_kk. -/
structure Channel where
  cfg : BitVec 32
  ops : BitVec 32
  geom : BitVec 32
  st : ChanState
  vio : Option VioClass
  dropped : Bool
  calOk : Bool
  window : Nat
  tap : Nat
  /-- CCH_QPUSH_0 to CCH_QPUSH_2 as last written. -/
  push0 : BitVec 32
  push1 : BitVec 32
  push2 : BitVec 32
  fwq : List QEntry
  cq : List QDone
  frame : Option Frame
  /-- The entry taken last had CONT and its frame has ended: a continuation entry that follows is an orphan (R204). -/
  contBroken : Bool
  wip0 : Option WipWait
  wip1 : Option WipWait
  calDue : Bool
  /-- Consecutive frames granted to clients ahead of a waiting client (R206), by client. -/
  skippedBy : Tab Nat
  commit : Option CommitJob
  /-- A scrub pass has started since the channel's last start (R215). -/
  scrubOn : Bool
  scrubActive : Bool
  scrubLate : Bool
  scrubSkipped : Nat
  scrubNext : Nat
  scrubEsc : Bool
  /-- Blocks that differed and are to be read once more (R274), and blocks deferred to the end of the pass (R216). -/
  scrubAgain : List Nat
  scrubDefer : List Nat
deriving DecidableEq, Repr

/-- A line of the window's prefetch buffer (R217, R219): prefetched and not yet used, and its checked bytes. -/
structure XipLine where
  block : Nat
  prefetched : Bool
  data : Bytes
deriving DecidableEq, Repr

/-- A line fill in progress (R217): the block, how many reads have failed, the offset of the fetch that waits for it,
whether the frame of the current read has ended and how. -/
structure XipFill where
  block : Nat
  fails : Nat
  demand : Option Nat
  arrived : Bool
  readOk : Bool
deriving DecidableEq, Repr

/-- The direct-execution window of CCH_00. -/
structure Xip where
  prefetch : Bool
  lock : Bool
  lenBlk : Nat
  baseBlk : Nat
  /-- The table RAM and the next byte XIP_TBL_DATA fills. -/
  table : Tab Byte
  wptr : Nat
  failBlock : Option Nat
  /-- The 16 lines, least recently used first. -/
  lines : List XipLine
  fill : Option XipFill
  /-- The SFDP of the configuration flash advertises continuous read, and the flash is in that mode (R221). -/
  contSupport : Bool
  contMode : Bool
deriving DecidableEq, Repr

/-- The state of an emulated device (R225). -/
inductive EmState where
  | off
  | loading
  | serving
  | failed
deriving DecidableEq, Repr

/-- The protocol of an emulated device (R226). -/
inductive Proto where
  | p1s
  | p8s
  | p8d
deriving DecidableEq, Repr

/-- How far a write has come: waiting for a journal entry, waiting to be durable, waiting to be applied (R245). -/
inductive WriteStep where
  | journal
  | durable
  | apply
deriving DecidableEq, Repr

/-- A write whose WIP is set. -/
structure PendWrite where
  entry : JEntry
  step : WriteStep
deriving DecidableEq, Repr

/-- An emulated flash device. -/
structure EmDev where
  st : EmState
  proto : Proto
  addr4 : Bool
  wel : Bool
  pend : Option PendWrite
  /-- The last frame was 0x66 (R226). -/
  rstEn : Bool
  /-- The Lake holds the ranges of the backing device that are no image range (R260). -/
  loaded : Bool
deriving DecidableEq, Repr

/-- A presentation port: its bank class, its write journal of accepted entries (R246), and whether that has stopped
draining until the next start (R248). -/
structure Port where
  vio : Option VioClass
  journal : List JEntry
  halted : Bool
deriving DecidableEq, Repr

/-- LAKE_STATUS.MODE. -/
inductive LakeMode where
  | off
  | normal
  | parity
  | out
deriving DecidableEq, Repr

/-- A Lake request that comes in a failover interruption and is held until it ends (R256): a write of working space by a core, a
doorbell, a write of streamed bytes to a slot's image range, the compare of a scrub frame that has been read. -/
inductive LakeReq where
  | work (addr : Nat) (data : Bytes)
  | sqDoorbell (part : BitVec 2) (ring : BitVec 18) (value : BitVec 32) (bound : Bool)
  | cqDoorbell (part : BitVec 2) (ring : BitVec 18) (value : BitVec 32) (bound : Bool)
  | image (slot base len : Nat) (cells : List (Nat × Byte))
  | scrub (chan : Nat) (frame : Frame) (data : Bytes)
deriving DecidableEq, Repr

/-- The Image Lake and the Hot Windows. -/
structure Lake where
  mode : LakeMode
  active : BitVec 8
  lost : Nat
  failover : Bool
  failing : BitVec 8
  /-- When each channel last needed a rebuild (R254). -/
  rebuilt : Tab (Option Nat)
  /-- The image region by usable offset; a byte never written reads 0xFF. -/
  bytes : Tab Byte
  /-- The Hot Windows: byte i of port k at 262,144 × k + i. -/
  hot : Tab Byte
  /-- The requests held in a failover interruption, oldest first (R256). -/
  held : List LakeReq
  /-- The version counters of the lines, by usable line (R253). -/
  ver : Tab Nat
deriving DecidableEq, Repr

/-- The state of an image (R266). -/
inductive ImgState where
  | waiting
  | judging
  | passed
  | recovering
  | finalHold
  | flagged
deriving DecidableEq, Repr

/-- A judgement's stream: its source, the bytes read and still to read, and what it has read: the bytes that are not 0xFF, by
offset in the source, as they went to the DGA context and to the manifest store (R259, R262). -/
structure Stream where
  src : Source
  next : Nat
  left : Nat
  failed : Bool
  got : List (Nat × Byte)
deriving DecidableEq, Repr

/-- What the device knows of one image slot. -/
structure Img where
  st : ImgState
  stream : Option Stream
  lastSrc : Option Source
  /-- The source judged last in this start, which the Boot Record shows (R373). -/
  judged : Option Source
  passSrc : Option Source
  verdict : Nat
  svn : Nat
  digest : Bytes
  imageId : Bytes
  /-- The manifest of the bytes that passed (R272). -/
  manifest : Option Manifest
  /-- The recovery action taken, 0 none (R373), and whether FALLBACK has been taken. -/
  action : Nat
  fallbackTaken : Bool
  /-- RESTORE_VAULT waits for the Vault (R267). -/
  waitVault : Bool
  switched : Bool
  /-- The inactive half has been judged in this start because STAGED was set (R266, R280). -/
  halfTried : Bool
  restored : Bool
  isFlagged : Bool
  /-- Bytes that passed are to be stored as the slot's empty object (R271). -/
  storeDue : Bool
  /-- A capsule has written the slot's inactive half, or its golden range, since the start (R273, R281). -/
  halfWritten : Bool
  goldenWritten : Bool
  /-- The source whose bytes the image range of the Lake holds, once all of them have been streamed into it (R259). -/
  inLake : Option Source
deriving DecidableEq, Repr

/-- An update grant: one channel, one device, one range (R209, R279). -/
structure Grant where
  channel : Nat
  device : Nat
  base : Nat
  length : Nat
deriving DecidableEq, Repr

/-- Where a capsule came from: a ring command, by partition, ring and RSEQ, or a PLDM port, with whether its update ends with it. -/
inductive CapsuleFrom where
  | ring (part ring rseq : Nat)
  /-- By a ring that no longer serves the command. -/
  | ringGone
  | pldm (port : Nat) (last : Bool)
deriving DecidableEq, Repr

/-- A capsule that waits for its turn (step 0) or is being staged (R278): step 4 while its target is written under the grant,
step 7 while its record is to become durable. -/
structure CapsuleJob where
  cap : Capsule
  origin : CapsuleFrom
  step : Nat
deriving DecidableEq, Repr

/-- The areas of the configuration flash on CCH_00 that the device reads (R184, R185), as they parse; `none` is an area that holds
nothing the device accepts, such as one that is blank. It persists across every event. -/
structure CfgFlash where
  dir0 : Option DirCopy
  dir1 : Option DirCopy
  fwA : Option Bundle
  fwB : Option Bundle
  polA : Option PolicyImage
  polB : Option PolicyImage
deriving DecidableEq, Repr

/-- What the running start took from the configuration flash (R122, R182). -/
structure Running where
  bundle : Option Bundle
  fwSlot : Nat
  policy : Option PolicyImage
  polSlot : Nat
  /-- The microcode is loaded (R285). -/
  microcode : Bool
  /-- ACTIVE_HALF and STAGED as the verifier table holds them (R257). -/
  tblActive : Tab Bool
  tblStaged : Tab Bool
  /-- ROM waits with the lock until replay has ended (R214); the CBUS components that acknowledge (R472). -/
  romWait : Option (List (Nat × Nat))
  /-- The CBUS components that no record names: PID, DCR and the dynamic address they were assigned (R472). -/
  cbusOthers : List (Nat × Nat × Nat)
deriving DecidableEq, Repr

end Sys2Proof
end

