-- ==== Sys2Proof/Machine/StateService.lean ====
section
/-!
DEFINITION. State of the Service Complex (chapter 13), of the units self-test and failover count (chapter 14), of the
management ports, mailboxes, CBUS and the sensor (chapters 14 to 16), and the model's own Reply: what the sender of the
latest command sees.
-/

namespace Sys2Proof

/-- WDT_CTRL.STATE (R444). -/
inductive WdtState where
  | running
  | grace
  | disabled
deriving DecidableEq, Repr

/-- The watchdog (R438 to R444). -/
structure Wdt where
  st : WdtState
  graceStep : Nat
  /-- CLKSEL: true is CLK25. -/
  clkSel : Bool
  load : Nat
  count : Nat
  /-- The first key of the disable sequence has been written (R441). -/
  keyStep : Bool
  lock : Bool
  lastServe : Nat
  capCause : Nat
  capPc : BitVec 64
  capServe : Nat
  /-- The always-on time at which the hard timer started (R439). -/
  hardFrom : Nat
deriving DecidableEq, Repr

/-- The Service Interrupt Controller (R433 to R437). -/
structure Sic where
  pend : BitVec 512
  en : BitVec 512
  /-- Level sources that are asserted. -/
  lines : BitVec 512
  /-- In retention: the pair waits (R436). -/
  retention : Bool
deriving DecidableEq, Repr

/-- Core pairs and firmware (R422 to R430). -/
structure Sc where
  /-- The main set is good and the Service Complex is out of reset for this start. -/
  mainGood : Bool
  /-- The class of VIO_MGT, sensed as the main set becomes good (R76, R83). -/
  vioMgt : Option VioClass
  /-- A start waits for self-test (R85, R461). -/
  selfTestDue : Bool
  /-- The core set failed self-test: Hold service only (R34). -/
  holdOnly : Bool
  pairA : Bool
  pairB : Bool
  /-- The active pair: true is PAIR_B. -/
  active : Bool
  switching : Bool
  /-- An S event has happened and FIRMWARE_RESTART is still to come (R427). -/
  restartDue : Bool
  /-- Firmware runs: from its start to the next S event. -/
  running : Bool
  /-- Firmware has trapped and no longer serves the watchdog (R430). -/
  fault : Bool
  /-- The service pair is halted by a debug session with SCOPE bit 0 (R153). -/
  halted : Bool
  sramLimit : Option Nat
  sram : Tab Byte
  /-- The 64-bit words of SRAM with an error that SEC-DED cannot correct (R429). -/
  sramBad : List Nat
  /-- The Lake working space the cores see at 0x8000_0000. -/
  work : Tab Byte
  /-- Firmware-raised escalations met while firmware was stopped: SOURCE, scope, domains (R470, t_ESCFW). -/
  escalations : List (Nat × Nat × List Nat)
deriving DecidableEq, Repr

/-- A CORE context of the DGA (R445 to R450). The contexts of the hardware clients are what their blocks hold: the streams,
the window's fill, the closed blocks, the pending declarations and the mediated components. -/
structure DgaCtx where
  alg : Nat
  finished : Bool
  data : Bytes
  digest : Bytes
  expect : Bytes
  /-- CMP_RESULT (R450). -/
  cmp : BitVec 2
deriving DecidableEq, Repr

/-- Who holds a context of the Digest Array, or waits for one (R446, R466): a verify streamer by its image slot, the direct-execution window,
the ring dispatcher, the chain unit, the Resist digest of a partition, the mediation session of a port, or the service cores. -/
inductive DgaOwner where
  | stream (slot : Nat)
  | window
  | ring
  | chain
  | declare (part : Nat)
  | component (port : Nat)
  | core
deriving DecidableEq, Repr

/-- The Digest Array. Context 8 × e + i is slot i of engine e. -/
structure Dga where
  engines : BitVec 24
  failover : Bool
  ctxs : Tab (Option DgaCtx)
  /-- The contexts of the hardware clients; the opens that wait, in order of request; the class granted last (R446). -/
  units : Tab (Option DgaOwner)
  waits : List DgaOwner
  turn : Nat
  /-- A core context lost with its engine: the core's next access ends in a bus error (R466). -/
  lost : List Nat
  /-- The CORE open that waits, and its algorithm (R446). -/
  pending : Bool
  openAlg : Nat
  granted : Bool
  refused : Bool
  openCtx : Nat
  sel : Nat
  lastCnt : Nat
deriving DecidableEq, Repr

/-- A Signature Engine operation in progress on the CORE port. -/
structure SigOp where
  op : Nat
  ctxId : Nat
  keySrc : Nat
  msg : Nat
  mlen : Nat
  key : Nat
  sig : Nat
  out : Nat
  /-- It uses a key-ladder output and is held back for a debug token (R155). -/
  held : Bool
  /-- It has begun; until then it is queued behind the engine's other ports (R454). -/
  started : Bool
deriving DecidableEq, Repr

/-- One Signature Engine (R453 to R455). -/
structure SigEng where
  inService : Bool
  failover : Bool
  op : Nat
  ctxId : Nat
  keySrc : Nat
  busy : Option SigOp
  error : Nat
  result : BitVec 2
  msg : BitVec 32
  mlen : BitVec 32
  key : BitVec 32
  sig : BitVec 32
  out : BitVec 32
  /-- SIG_STATUS.RAIL_FAULT of the latest result. -/
  railFault : Bool
  /-- The ML-KEM-1024 key of the last 0x09 operation, by the free value that made it. -/
  kemKey : Option Nat
deriving DecidableEq, Repr

/-- The key ladder and the random source (R456 to R459). -/
structure Kld where
  /-- CDI_0, derived from the unique device secret and the latched count at the start (R150, R456). -/
  cdi0 : Option Bytes
  /-- The LAKE key, once its random input is drawn (R253, R459). -/
  lake : Option Bytes
  devidOff : Bool
  svn : Option Nat
  fwid : Tab (Option (BitVec 32))
  rngFail : Bool
  /-- The alias certificates issued at this start, ECDSA and ML-DSA, as they stand in the Lake working space (R370, R456, log entry 128). -/
  certs : Option (Bytes × Bytes)
deriving DecidableEq, Repr

/-- Persistence Array banks (R461, R465). -/
structure Persist where
  bank : BitVec 4
  failover : Bool
deriving DecidableEq, Repr

/-- The protocol mode of a management port (R97, R491). -/
inductive MgtMode where
  | i3c
  | smbus
deriving DecidableEq, Repr

/-- A journal request that must wait (R385): CLOSE_BLOCK for the Persistence Array or a DGA engine, SIGNED_HEAD for a Signature Engine or
the Alias key, READ_ALIAS_CERT for the Lake. -/
inductive MgtAsk where
  | closeBlock
  | signedHead (nonce : Bytes)
  | aliasCert (alg offset length : Nat)
deriving DecidableEq, Repr

/-- A management port with its mailbox (R474, R475, R491, R509). -/
structure Mgt where
  mode : MgtMode
  /-- The assigned I3C dynamic address. -/
  dynAddr : Option Nat
  /-- The driven level of ALERT_N: true is low. -/
  alertLow : Bool
  /-- IBI attempts made in the sequence in progress. -/
  ibi : Option Nat
  /-- The fields of MBX_CTRL and MBX_STATUS; BUSY is a place in State.mbxQueue. -/
  len : Nat
  kind : Nat
  result : Nat
  data : Tab Byte
  /-- The completion code of the PLDM ApplyComplete sent last: 0 success, 1 otherwise (R126, R187, R278). -/
  applied : Option Nat
  /-- The response message sent last that came after its request's own command (R385, R507). -/
  late : Option Bytes
  /-- Requests that wait for a unit, oldest first (R385, R465, R467). -/
  asks : List (VendorHdr × MgtAsk)
  /-- The PLDM sensor event sent last: how many thresholds the reading had reached (R496). -/
  sensorEvent : Option Nat
deriving DecidableEq, Repr

/-- A message submitted to a mailbox, as MBX_DATA held it at GO (R509): its port, true for MGT_B, and its bytes. -/
structure MbxMsg where
  port : Bool
  bytes : Bytes
deriving DecidableEq, Repr

/-- A CBUS component of the CBUS section (R472, R473). -/
structure CbusComp where
  present : Bool
  /-- Attempts made in the retry sequence in progress; 0 none. -/
  tries : Nat
  /-- The dynamic address it has been assigned (R472). -/
  addr : Nat
deriving DecidableEq, Repr

/-- The temperature sensor (R496). -/
structure Temp where
  valid : Bool
  reading : BitVec 10
  /-- How many thresholds the reading had reached when firmware last raised the alert, or saw it fall. -/
  told : Nat
deriving DecidableEq, Repr

/-- How a request that reaches the gate ends (R293, R299, R317). -/
inductive Disposition where
  | forwarded (port : Nat)
  /-- A read of the CSF completes with data (R501). -/
  | data (b : Bytes)
  | toCsf
  | unsupported
  | dropped
  | retry
  | mediated
  | waiting
deriving DecidableEq, Repr

/-- What became of a mediated packet (R333, R334): its endpoint's port, where it went, and the PLDM completion code the host gets
in place of the endpoint's answer. -/
structure MedReply where
  port : Nat
  disp : Disposition
  code : Option Nat
deriving DecidableEq, Repr

/-- What the sender of the latest command sees. It is the model's own field: no register of the device. -/
inductive Reply where
  | none
  /-- The command could not take place: its precondition does not hold. -/
  | notNow
  | busError
  | word (w : BitVec 32)
  | bytes (b : Bytes)
  /-- Bytes driven on DQ, with DQS edges for the first `strobed` of them. -/
  | dq (b : Bytes) (strobed : Nat)
  | tlp (d : Disposition)
  | mediation (r : MedReply)
  /-- The mediated packets that waited while firmware was stopped, in order. -/
  | resumed (l : List MedReply)
  /-- Host-memory writes of a ring, and whether an MSI-X message follows. -/
  | dma (w : List (Nat × Bytes)) (message : Option Nat)
  | result (code : Nat)
  /-- A vendor response: INSTANCE, DEVICE_STATUS, RESULT and what follows it (R507). -/
  | response (message : Bytes)
deriving DecidableEq, Repr

end Sys2Proof
end

