-- ==== Sys2Proof/Syntax.lean ====
section
/-!
DEFINITION. The commands of the FVX-9: one constructor for each row of the command table, with the row's operands.
Operands that are the outcome of something outside the device's own logic (a signature check, an analog event, a far
device's answer) are said at the operand.
-/

namespace Sys2Proof

/-- The commands: register accesses, bus and protocol requests, pin events, and the completions of the device's own
engines and timers. The last six carry no operand, so that the compiled form has a tag for every constructor. -/
inductive Instr where
  /-- R93: VSEC rises through V_POR (a P event); the Mordant leaves reset and drives every custody output low. -/
  | vsecPowerOn
  /-- R96: The critical fuse latch completes with restrictive values for marginal bits, and CUST_STAT moves to HOLD. -/
  | criticalFuseLatchComplete (strap0 strap1 strap2 : BitVec 8)
  /-- R87: VSEC stays below V_BOD for t_BODF after HOLD, which declares a brownout and causes a Custody Trip. -/
  | vsecBrownout
  /-- R87: VSEC falls below V_OFF and the Mordant resets. -/
  | vsecOff
  /-- R85: Every rail of the main set is good with VSEC above V_POR and HOLD or TRIP shown, so the start begins with self-test. -/
  | mainSetGood (mgt : VioClass) (cch prs : List (Nat × VioClass))
  /-- R86: A main-set rail fails for t_MAINF, which is a C event. -/
  | mainRailFail
  /-- R488: A PLL loses lock for t_PLLF, which counts as a failure of the main set. -/
  | pllLossOfLock
  /-- R515: VIO_RST stays in a class range for t_RSTQ, becomes good and is classed; the Mordant drives the pads low. -/
  | vioRstGood (cls : VioClass)
  /-- R81: VIO_RST stops being good, and the Mordant moves every RELEASED domain to HELD in the next AOC cycle. -/
  | vioRstLost
  /-- R77: A classified bank falls more than 5 % below its class, and its port stops until the next C event. -/
  | vioBankLow (prs : Bool) (k : Nat)
  /-- R292: An upstream hot reset is an H event for its partition, and the gate propagates it downstream. -/
  | hotReset (part : Nat)
  /-- R292: An upstream link goes down, which is an H event for its partition. -/
  | upstreamLinkDown (part : Nat)
  /-- R95: A cross-count window gives a count outside 48 to 80, which raises a Custody Trip and selects the surviving oscillator. -/
  | aocDisagreement
  /-- R514: An oscillator shows no edge for t_AOCSTOP; with both stopped, the detectors trip asynchronously. -/
  | aocStopped (b : Bool)
  /-- R514: An oscillator toggles again; the Mordant resumes, withdraws every Vat grant and acts on the standing release requests. -/
  | aocResumed (b : Bool)
  /-- R116: A TAMP_N input falls and passes the glitch filter, which is a trip event. -/
  | tamperAssert (n : BitVec 2)
  /-- R119: After the trip acts, TRIP_SEQ is incremented, MORDANT_TRIP_CAUSE is written and 0x0007 CUSTODY_TRIP is emitted. -/
  | tripRecord
  /-- R116: Writing the key to MORDANT_TRIP_REQ raises a Custody Trip with SRC 0x8. -/
  | tripReqWrite (value : BitVec 32)
  /-- R105: A write to MORDANT_HOLD_REQ holds the domain, clearing its Verdict slots and release request. -/
  | holdRequest (mask : BitVec 32)
  /-- R111: A write to MORDANT_REL_REQ requests Release of a domain, which the Interlock evaluates. -/
  | releaseRequest (mask : BitVec 32)
  /-- R120: Mailbox TRIP_CLEAR message; when accepted, TRIP_HELD domains move to HELD and 0x0008 is emitted. -/
  | tripClear (b : Bool) (sig : Sig2)
  /-- R9: A write to a register that has no behaviour of its own. -/
  | registerWrite (sp : RegSpace) (a : Nat) (v : BitVec 32)
  /-- R461: Self-test results are in; failed units are removed and the ROM stage proceeds or stays in HOLD. -/
  | selfTestDone (t : SelfTest)
  /-- R285: Fabric microcode finishes loading through the window, and links may train. -/
  | microcodeLoadDone
  /-- R135: OTPC READ command senses a word at both margins. -/
  | otpRead (addr : BitVec 11)
  /-- R129: OTPC PROGRAM command programs a word or refuses it. -/
  | otpProgram (addr : BitVec 11) (data : BitVec 32)
  /-- R141: OTPC SCAN command runs the integrity scan and replaces OTPC_ALARM. -/
  | otpScan
  /-- R147: OTPC LC_STEP command programs the lowest blank LC cell and any LC_COMPAT step. -/
  | otpLcStep (owner : Bool)
  /-- R136: An OTP operation completes, BUSY clears and RESULT is set. -/
  | otpOpDone (weakLo weakHi : BitVec 39)
  /-- R510: Mailbox CHALLENGE draws a new 32-byte Hegus challenge. -/
  | challenge (b : Bool)
  /-- R154: Mailbox TOKEN submits a Hegus or RMA token for checking. -/
  | token (b : Bool) (sig own : Sig2)
  /-- R154: A token is submitted through the JTAG token registers. -/
  | jtagTokenSubmit (t : Token)
  /-- R148: Mailbox LC_CLOSE message requests an Open-to-Closed life-cycle step. -/
  | lcClose (b : Bool) (sig : Sig2)
  /-- R387: Mailbox EXPORT_ACK message marks Chain Blocks up to CB_INDEX as exported. -/
  | exportAck (b : Bool) (sig : Sig2)
  /-- R151: An IEEE 1149.1 instruction, limited by the life-cycle state. -/
  | jtagInstruction (i : JtagOp)
  /-- R189: A PLDM Type 5 RequestUpdate is accepted, or refused with ALREADY_IN_UPDATE_MODE. -/
  | pldmRequestUpdate (b : Bool)
  /-- R187: A pushed firmware or policy component is written, accepted and promoted, then ApplyComplete is sent. -/
  | pldmComponentPush (b : Bool) (c : Component) (f : PushFrames) (last : Bool)
  /-- R278: A PLDM Type 5 component 0x0010 delivers an update capsule for staging. -/
  | pldmCapsulePush (b : Bool) (cap : Capsule) (last : Bool)
  /-- R201: A write to CCH_QPUSH_3 submits a firmware queue entry. -/
  | cchQpush (k : Nat) (buf : BitVec 32)
  /-- R207: A read of CCH_QDONE returns and removes the oldest completion. -/
  | cchQdoneRead (k : Nat)
  /-- R206: At a frame boundary the channel grants the next client a frame by precedence. -/
  | cchFrameStart (k : Nat)
  /-- R212: A channel frame ends, and its completions are written. -/
  | cchFrameEnd (k : Nat) (ok : Bool) (cal : Cal) (data : Bytes)
  /-- R205: The t_POLL status poll of a device with WIP set. -/
  | cchWipPoll (k : Nat) (dev : Bool) (clear : Bool)
  /-- R200: WIP stays set beyond t_WIPTO and the entry completes WIP_TIMEOUT. -/
  | cchWipTimeout (k : Nat) (dev : Bool)
  /-- R200: A select held low by CONT with no next entry ends the frame after t_CONTTO. -/
  | cchContTimeout (k : Nat)
  /-- R199: t_CALPER has passed, so the channel calibrates at the next frame boundary; a second failure stops it. -/
  | cchPeriodicCalibration (k : Nat) (cal : Cal)
  /-- R214: Channel self-test ends in REPLAY, READY or FAILED. -/
  | cchSelftestDone (k : Nat) (t : ChanTest)
  /-- R215: SCRUB_PERIOD has elapsed and a scrub pass starts. -/
  | scrubPassStart (k : Nat)
  /-- R217: A core fetch in the direct-execution window hits a line or starts a fill. -/
  | xipFetch (offset : BitVec 29)
  /-- R217: A line fill's block check ends; the line fills, is read again, or the fetch ends in a bus error. -/
  | xipFillDone (data : Bytes) (bad : BitVec 2)
  /-- R231: A 0x03 or 0x13 read is served from the hot range, or returns 0xFF. -/
  | prsRead (f : PrsFrame) (q : PrsRead)
  /-- R229: A 0x0B or 0x0C fast read with 8 dummy cycles. -/
  | prsFastRead (f : PrsFrame) (q : PrsRead)
  /-- R229: A 1-1-2 or 1-2-2 read with SFDP dummy cycles. -/
  | prsReadDual (f : PrsFrame) (q : PrsRead) (wide : Bool)
  /-- R229: A 1-1-4 or 1-4-4 read with SFDP dummy cycles. -/
  | prsReadQuad (f : PrsFrame) (q : PrsRead) (wide : Bool)
  /-- R229: A 1S-4D-4D read with SFDP dummy cycles. -/
  | prsReadQuadDtr (f : PrsFrame) (q : PrsRead)
  /-- R229: An 8-8-8 read in protocol 8S. -/
  | prsReadOctal (f : PrsFrame) (q : PrsRead)
  /-- R229: An 8D-8D-8D read in protocol 8D. -/
  | prsReadOctalDtr (f : PrsFrame) (q : PrsRead)
  /-- R245: A page program frame becomes a write, is refused, or is consumed. -/
  | prsPageProgram (f : PrsFrame) (data : Bytes)
  /-- R245: A 1-1-4 page program frame is handled as a page program. -/
  | prsPageProgramQuad (f : PrsFrame) (data : Bytes)
  /-- R245: A sector or block erase frame of SFDP erase types 1 to 4. -/
  | prsSectorErase (f : PrsFrame) (op : Byte)
  /-- R245: A whole-device erase frame. -/
  | prsChipErase (f : PrsFrame)
  /-- R229: Write enable sets WEL. -/
  | prsWriteEnable (f : PrsFrame)
  /-- R229: Write disable clears WEL. -/
  | prsWriteDisable (f : PrsFrame)
  /-- R229: Read status returns SR1 with WIP and WEL. -/
  | prsReadStatus (f : PrsFrame) (len : Nat)
  /-- R229: Write status consumes its data with no effect and clears WEL. -/
  | prsWriteStatus (f : PrsFrame)
  /-- R229: Read identification returns the ID bytes, then 0xFF. -/
  | prsReadId (f : PrsFrame) (len : Nat)
  /-- R229: Read SFDP returns the record's SFDP bytes, then 0xFF. -/
  | prsReadSfdp (f : PrsFrame) (len : Nat)
  /-- R228: 0xB7 enters 4-byte address mode on a device above 16 MiB. -/
  | prsEnter4b (f : PrsFrame)
  /-- R228: 0xE9 leaves 4-byte address mode. -/
  | prsExit4b (f : PrsFrame)
  /-- R227: 0x81 switches between 1S, 8S and 8D when honoured, and clears WEL. -/
  | prsProtocolSelect (f : PrsFrame) (data : Byte)
  /-- R226: 0x66 reset enable, first frame of the reset sequence. -/
  | prsResetEnable (f : PrsFrame)
  /-- R226: 0x99 directly after 0x66 performs a protocol reset. -/
  | prsReset (f : PrsFrame)
  /-- R229: 0xB9 power-down, served with no effect. -/
  | prsPowerDown (f : PrsFrame)
  /-- R229: 0xAB release, served with no effect. -/
  | prsReleasePowerDown (f : PrsFrame)
  /-- R230: An unknown opcode frame drives 0xFF, writes nothing and emits 0x0110. -/
  | prsUnknownOpcode (f : PrsFrame) (op second : Byte) (len : Nat)
  /-- R232: A frame whose select rises mid-field is rejected whole without effect. -/
  | prsFrameReject (f : PrsFrame)
  /-- R245: A write takes a port write-journal entry once one is free. -/
  | writeJournalEntry (port : Nat) (dev : Bool)
  /-- R245: The write's Fix Ring record becomes durable once space allows. -/
  | writeDurable (port : Nat) (dev : Bool)
  /-- R245: Between read frames the write is applied to the Lake and Hot Window, and WIP and WEL clear. -/
  | writeApply (port : Nat) (dev : Bool)
  /-- R246: Once the previous entry's WIP clears, the commit engine starts the next MUTABLE journal entry. -/
  | commitEntryStart (k : Nat)
  /-- R225: The Lake copy of a backing device is complete, and its emulated devices enter SERVING. -/
  | deviceLoadDone (port : Nat) (dev : Bool) (content : List (Nat × Byte)) (ok : Bool)
  /-- R254: A Lake line fails its MAC and is read again, rebuilt, or puts the Lake OUT. -/
  | lakeIntegrityFail (n : BitVec 3) (reread rebuilt : Bool)
  /-- R254: A Lake channel fails, is removed and failover to PARITY begins. -/
  | lakeChannelFault (n : BitVec 3)
  /-- R258: Firmware starts a judgement of a slot from a named source, or the request is refused. -/
  | judgeStart (slot : Nat) (src : Source)
  /-- R262: The verdict path writes PASS or FAIL and emits 0x0002 and 0x0003. -/
  | judgementDone (slot : Nat) (sig : Sig2) (bad : BitVec 2)
  /-- R262: DEADLINE_MS expires during a judgement, FAIL is written and the stream ends. -/
  | verifyDeadlineExpiry (slot : Nat) (sig : Sig2)
  /-- R267: The Vault comes into service and a waiting RESTORE_VAULT streams its object. -/
  | restoreVaultBegin (slot : Nat)
  /-- R270: The Vault is not in service within t_VLTWAIT, so RESTORE_VAULT fails. -/
  | vaultWaitExpiry (slot : Nat)
  /-- R271: Passing bytes are stored as an empty VAULT_OBJECT once the Vault is in service, with 0x000C. -/
  | goldenStore (slot : Nat) (read : List (Nat × Byte))
  /-- R272: Firmware raises an image SVN floor counter after a durable 0x0009 record. -/
  | imageSvnAdvance (slot : Nat) (goldens : List (Nat × Manifest))
  /-- R181: Firmware raises the policy SVN floor after a durable 0x0044 record. -/
  | policySvnAdvance
  /-- R278: A capsule takes its turn and runs its checks, write, read-back and record. -/
  | capsuleStage (back : Option (List (Nat × Byte))) (bad : BitVec 2)
  /-- R287: A port trains and its link reaches L0. -/
  | linkUp (port rate width : Nat) (flit l0p : Bool)
  /-- R308: A downstream link leaves L0, DPC triggers and the endpoint becomes CONTAINED with cause LINK. -/
  | linkDown (port : Nat)
  /-- R302: t_EPLINK expires without L0, and the endpoint is REFUSED. -/
  | endpointLinkTimeout (j : Nat)
  /-- R302: t_EPWAIT ends, and the first configuration request is sent. -/
  | endpointReadyWaitEnd (j : Nat)
  /-- R302: A Device Readiness Status message shortens t_EPWAIT to 0. -/
  | deviceReadinessStatus (j : Nat)
  /-- R302: An RRS completion is retried after 1 ms. -/
  | configRetry (j : Nat)
  /-- R298: A configuration request completes successfully; ATTESTING starts with TIMEOUT_MS. -/
  | endpointConfigSuccess (j : Nat) (mailbox : Bool)
  /-- R302: t_EPRDY expires, and the endpoint is REFUSED. -/
  | endpointReadyTimeout (j : Nat)
  /-- R303: An endpoint's VERSION response is checked against SPDM_MIN. -/
  | spdmVersion (j best : Nat)
  /-- R303: An endpoint's CAPABILITIES response is checked. -/
  | spdmCapabilities (j : Nat) (cert : Bool) (meas : BitVec 2) (chunk : Bool)
  /-- R303: An endpoint's ALGORITHMS response is checked. -/
  | spdmAlgorithms (j : Nat) (asym hash measHash dmtf : Bool)
  /-- R303: An endpoint's DIGESTS response must show slot 0 populated. -/
  | spdmDigests (j : Nat) (slot0 : Bool)
  /-- R303: An endpoint's CERTIFICATE portion is received. -/
  | spdmCertificate (j portion remainder : Nat) (root : Bytes) (chainOk : Bool)
  /-- R304: An endpoint's MEASUREMENTS response is received; the last one completes the checks. -/
  | spdmMeasurements (j : Nat) (block : Option Bytes) (sig : Half)
  /-- R303: An endpoint ERROR response; ResponseNotReady gets RESPOND_IF_READY, any other error is FAIL. -/
  | spdmError (j : Nat) (notReady : Bool)
  /-- R302: A send waits TIMEOUT_MS/16 with no response and is resent, up to 3 sends. -/
  | spdmSendTimeout (j : Nat)
  /-- R302: TIMEOUT_MS expires and FAIL is written. -/
  | attestationTimeout (j : Nat)
  /-- R306: t_RECHK has passed, and a periodic re-check of an OPEN endpoint starts. -/
  | recheckDue (j : Nat)
  /-- R49: A firmware write contains ports with cause FIRMWARE. -/
  | gateContainReq (mask : BitVec 32)
  /-- R298: A firmware write moves OPEN endpoints to RECHECK. -/
  | gateRechkReq (mask : BitVec 32)
  /-- R293: A host configuration request below a downstream bridge gets RRS or UR, or is forwarded. -/
  | hostConfigRequest (port : Nat)
  /-- R299: A host write to DPC Trigger Status clears only a host-triggered containment. -/
  | hostDpcTriggerWrite (port : Nat) (trigger : Bool)
  /-- R317: A TLP entering at a downstream port is screened by Resist. -/
  | endpointTlp (q : Nat) (t : Tlp) (bad : BitVec 3)
  /-- R319: A TLP from a host towards its endpoints is forwarded unscreened, subject to blocking. -/
  | hostTlp (p : Nat) (t : Tlp)
  /-- R309: A request from the Vault drive outside the Vault buffers gets UR and the port is contained. -/
  | vaultDriveRequest (inside posted : Bool)
  /-- R296: The upstream link IDE stream reaches Secure and full forwarding begins. -/
  | ideStreamSecure (p : Nat) (selective : Bool)
  /-- R296: The IDE stream leaves Secure and the partition's traffic is blocked. -/
  | ideStreamLeaveSecure (p : Nat) (selective : Bool)
  /-- R296: IDE_KM key programming over the CSF's SPDM secured session. -/
  | ideKmRequest (p : Nat)
  /-- R297: LOCK_INTERFACE binds a Secure selective IDE stream to the CSF's TDI. -/
  | tdispLockInterface (p : Nat)
  /-- R297: A TDISP error puts the TDI into ERROR and the partition's rings into ERROR. -/
  | tdiError (p : Nat)
  /-- R295: An endpoint's alternate protocol negotiation is answered with no protocol selected. -/
  | altProtocolNegotiation (port : Nat)
  /-- R323: A DECLARE command checks a Resist range record and adds it to the table. -/
  | declare (p : Nat) (key : BitVec 16) (bound : Bool)
  /-- R324: The Resist digest extension completes, RESULT is written and PENDING clears. -/
  | declareResult (p : Nat)
  /-- R326: An ARM command with the key starts arming of the partition. -/
  | arm (p : Nat) (key : BitVec 16) (bound : Bool)
  /-- R325: ARM_DEADLINE_MS expires after upstream L0, and the device arms the partition. -/
  | armDeadline (p : Nat)
  /-- R325: Once 0x0205 is durable, the armed table takes effect in every slice in one core cycle. -/
  | resistArmEffect (p : Nat)
  /-- R331: A 1-second violation counting window ends and a new one starts. -/
  | violWindowEnd (p : Nat)
  /-- R336: The 1 µs known-answer check of a Resist slice; a failure starts failover to the spare. -/
  | sliceCheck (b i : Nat) (ok : Bool)
  /-- R336: The spare slice is in service and pending lookups are rerun. -/
  | sliceFailoverDone (b : Nat)
  /-- R338: A crossbar plane fails its check and the spare takes over its pairs. -/
  | planeFault (n : Nat) (more : List (Nat × Nat × Nat))
  /-- R338: Unconfirmed TLPs are redispatched in FSN order and egress discards duplicates. -/
  | planeFailoverDone
  /-- R332: An intercepted MCTP PLDM Type 5 packet is refused or forwarded and hashed. -/
  | pldmMediatedPacket (port : Nat) (m : MedMsg) (size : Nat)
  /-- R334: The held ActivateFirmware request is forwarded once 0x0208 is durable. -/
  | activateFirmwareRelease (port : Nat)
  /-- R334: The ActivateFirmware response reaches the host, and the endpoint enters RECHECK. -/
  | activateFirmwareResponse (port : Nat)
  /-- R356: A unit submits an evidence record, which is rate-limited, queued or written. -/
  | recordSubmit (code src : Nat) (body : Bytes)
  /-- R345: A record becomes durable in the Fix Ring and receives its SEQ. -/
  | recordDurable
  /-- R353: t_CBTIME has passed since a block's first record, so it closes TIMED. -/
  | blockTimedClose (ring : Bool)
  /-- R354: The chain unit writes CHAIN and commits the chain head for a closed block. -/
  | chainDone
  /-- R362: Fix Ring space returns and waiting records are written in submission order. -/
  | waitingRecordWrite
  /-- R374: The Boot Record signature completes and 0x0006 BOOT_RECORD is emitted. -/
  | bootRecordSigned
  /-- R382: A closed Chain Block is written to its Vault archive position, and its slot is freed when complete. -/
  | archiveBlock
  /-- R383: An NVMe command completes on the Vault drive. -/
  | nvmeCommandDone (back : List DriveBlock)
  /-- R383: t_NVCMD expires and the command is issued again or the controller is reset. -/
  | nvmeCommandTimeout
  /-- R383: The reset controller reports ready and commands are issued again. -/
  | nvmeControllerReady
  /-- R383: The controller is not ready within t_NVRST, and the Vault goes OUT. -/
  | nvmeResetTimeout
  /-- R384: The 600 s checkpoint timer fires; commands are held, state is copied and the RING block closes. -/
  | checkpoint
  /-- R384: The checkpoint writes complete and 0x0F03 is emitted. -/
  | checkpointDone
  /-- R385: Vendor command 0x20 returns the journal state. -/
  | journalState (b : Bool) (h : VendorHdr)
  /-- R385: Vendor command 0x21 returns bytes of a Chain Block. -/
  | readBlock (b : Bool) (h : VendorHdr) (index offset length : Nat)
  /-- R385: Vendor command 0x22 closes the open blocks and returns the newest closed CB_INDEX. -/
  | closeBlock (b : Bool) (h : VendorHdr)
  /-- R386: Vendor command 0x23 returns the chain head signed over a nonce. -/
  | signedHead (b : Bool) (h : VendorHdr) (nonce : Bytes)
  /-- R385: Vendor command 0x24 returns Boot Record bytes of an epoch. -/
  | readBootRecord (b : Bool) (h : VendorHdr) (epoch offset length : Nat)
  /-- R385: Vendor command 0x25 returns alias certificate DER bytes. -/
  | readAliasCert (b : Bool) (h : VendorHdr) (alg offset length : Nat)
  /-- R395: A submission doorbell write sets a ring's tail, or moves it to ERROR. -/
  | doorbellSq (p : BitVec 2) (g : BitVec 18) (value : BitVec 32) (bound : Bool)
  /-- R400: A completion doorbell write advances the completion head. -/
  | doorbellCq (p : BitVec 2) (g : BitVec 18) (value : BitVec 32) (bound : Bool)
  /-- R418: Within the slot bounds, the dispatcher fetches a submission entry and journals it. -/
  | commandFetch (p : BitVec 2) (g : BitVec 18) (ok : Bool) (f : Fetched)
  /-- R403: Opcode 0x01 extends a ledger with a 48-byte digest. -/
  | ledgerExtend
  /-- R403: Opcode 0x02 writes a ledger value and extend count to a buffer. -/
  | ledgerRead
  /-- R405: Opcode 0x10 adds a quote leaf of ledgers and a nonce to a batch. -/
  | quote
  /-- R405: Opcode 0x11 adds a quote leaf that also binds the current Boot Record digest. -/
  | quotePlatform
  /-- R403: Opcode 0x20 increments a counter and returns its new value. -/
  | counterIncrement
  /-- R403: Opcode 0x21 returns a counter value. -/
  | counterRead
  /-- R409: Opcode 0x30 seals plaintext to ledger values into a blob. -/
  | seal
  /-- R410: Opcode 0x31 unseals a blob if its binding and tag verify. -/
  | unseal
  /-- R401: Opcode 0x40 journals a 48-byte note. -/
  | journalNote
  /-- R414: Opcode 0x70 creates an ACTIVE tenant ring. -/
  | ringCreate
  /-- R412: Opcode 0x71 destroys a tenant ring, aborting its unjournaled entries. -/
  | ringDestroy
  /-- R393: Opcode 0x72 sets a tenant's ring, ledger and counter quotas. -/
  | quotaSet
  /-- R391: Opcode 0x73 allocates a run of 1 to 8 ledgers to a tenant. -/
  | ledgerAlloc
  /-- R401: Opcode 0x73 with RELEASE frees a whole allocated run of ledgers. -/
  | ledgerRelease
  /-- R391: Opcode 0x74 allocates a run of 1 to 8 counters to a tenant. -/
  | counterAlloc
  /-- R392: Opcode 0x74 with RELEASE frees a run of counters, which keep their values. -/
  | counterRelease
  /-- R413: Opcode 0x75 reads a capsule into working space for staging. -/
  | capsuleSubmit
  /-- R400: A completion is written to its slot once the host has freed it, then the vector is signalled. -/
  | completionPost (p : BitVec 2) (g : BitVec 18) (ok outOk : Bool)
  /-- R396: t_IRQGAP ends and one message covers completions written in the gap. -/
  | msixGapEnd (p : BitVec 2) (v : BitVec 11)
  /-- R406: A quote batch closes at 4,096 leaves or after t_QBATCH, with a 0xF0 entry. -/
  | batchClose
  /-- R408: A batch header is signed and the quote buffers are written. -/
  | batchSigned (second : Bool)
  /-- R419: After t_RRETRY a failed host-memory access is issued again. -/
  | hostMemoryRetry (p : BitVec 2) (g : BitVec 18) (u : AccessUse)
  /-- R419: t_DMATO expires on a device request, which counts as a failed access. -/
  | dmaTimeout (p : BitVec 2) (g : BitVec 18) (u : AccessUse)
  /-- R419: An access sequence fails to succeed within t_RWDOG, so the ring goes to ERROR. -/
  | ringWatchdog (p : BitVec 2) (g : BitVec 18) (u : AccessUse)
  /-- R411: Setting NRX_ADM_CTRL.ENABLE creates the selected admin ring. -/
  | adminRingEnable (p : BitVec 2) (value : BitVec 32) (bound : Bool)
  /-- R411: Clearing ENABLE destroys the admin ring as RING_DESTROY does. -/
  | adminRingDisable (p : BitVec 2) (value : BitVec 32) (bound : Bool)
  /-- R424: The active pair's checker mismatches; it is fenced and the switch to the spare begins, or an S event follows. -/
  | lockstepMismatch
  /-- R423: A mismatch in the spare pair removes the spare. -/
  | spareMismatch
  /-- R424: The fenced pair's transactions complete and the spare's outputs are enabled. -/
  | pairSwitchDone
  /-- R104: Writing the key to SC_RESET causes an S event. -/
  | scResetWrite (value : BitVec 32)
  /-- R427: After the known-answer check, firmware restarts from SRAM or FW_ENTRY. -/
  | firmwareRestart (okA okB : Bool)
  /-- R428: A one-time write of SC_SRAM_WP.LIMIT write-protects SRAM. -/
  | sramWpWrite (limit : BitVec 8)
  /-- R428: A bus transaction is not completed within t_BUSTO and ends in a bus error. -/
  | busTimeout
  /-- R434: Writing SIC_DONE clears or re-samples pending bits. -/
  | sicDoneWrite (nn : BitVec 4) (value : BitVec 32)
  /-- R436: Wait-for-interrupt puts the SIC into retention. -/
  | waitForInterrupt
  /-- R436: A source event restores the SIC from retention and wakes the pair. -/
  | sicWake (src : Nat) (on : Bool)
  /-- R438: Writing the serve key reloads the watchdog counter and records the serve time. -/
  | wdtServe (value : BitVec 32)
  /-- R441: A WDT_KEY write advances or abandons the two-write disable sequence. -/
  | wdtKeyWrite (value : BitVec 32) (inTime : Bool)
  /-- R444: Writing 1 to WDT_CTRL.EN re-enables and loads the watchdog. -/
  | wdtEnableWrite (value : BitVec 32)
  /-- R439: The watchdog counter reaches zero; NMI, capture and hard timer, or an immediate S event on KXF9-F2601. -/
  | wdtExpiry (pc : BitVec 64)
  /-- R439: The WDT_GRACE hard timer ends and causes an S event. -/
  | wdtHardTimerEnd
  /-- R442: The selected watchdog clock stops for t_WDCM, so the capture is taken and an S event follows. -/
  | wdtClockMonitor (pc : BitVec 64)
  /-- R446: DGA_OPEN GO requests a CORE digest context. -/
  | dgaOpen (alg : BitVec 3)
  /-- R446: A waiting open is granted a slot under the STREAM reserve and round-robin. -/
  | dgaOpenGrant
  /-- R448: A DGA_DATA write feeds four bytes to a context, restarting a DONE context. -/
  | dgaDataWrite (word : BitVec 32)
  /-- R448: A DGA_LAST write adds the final bytes, finishes the context and computes the compare. -/
  | dgaLastWrite (word : DgaLast)
  /-- R447: DGA_CLOSE closes and zeroes a CORE context. -/
  | dgaClose (ctx : BitVec 8)
  /-- R450: A DGA_EXPECT write sets the expected value of a CORE context. -/
  | dgaExpectWrite (i : BitVec 4) (word : BitVec 32)
  /-- R453: SIG op 0x01 verifies an ECDSA P-384 signature. -/
  | ecdsaP384Verify (e : Bool) (ctx key : BitVec 8)
  /-- R453: SIG op 0x02 makes an ECDSA P-384 signature. -/
  | ecdsaP384Sign (e : Bool) (ctx key : BitVec 8)
  /-- R453: SIG op 0x03 verifies an ML-DSA-65 signature. -/
  | mlDsa65Verify (e : Bool) (ctx key : BitVec 8)
  /-- R453: SIG op 0x04 makes an ML-DSA-65 signature. -/
  | mlDsa65Sign (e : Bool) (ctx key : BitVec 8)
  /-- R453: SIG op 0x05 verifies an ML-DSA-87 signature. -/
  | mlDsa87Verify (e : Bool) (ctx key : BitVec 8)
  /-- R453: SIG op 0x06 makes an ML-DSA-87 signature. -/
  | mlDsa87Sign (e : Bool) (ctx key : BitVec 8)
  /-- R453: SIG op 0x07 verifies a single-level HSS signature. -/
  | hssVerify (e : Bool) (ctx key : BitVec 8)
  /-- R453: SIG op 0x08 runs ECDH P-384 with an engine-made ephemeral pair. -/
  | ecdhP384 (e : Bool) (ctx key : BitVec 8)
  /-- R453: SIG op 0x09 generates an ML-KEM-1024 key held in the engine. -/
  | mlKem1024Keygen (e : Bool) (ctx key : BitVec 8)
  /-- R453: SIG op 0x0A encapsulates to an ML-KEM-1024 public key. -/
  | mlKem1024Encaps (e : Bool) (ctx key : BitVec 8)
  /-- R453: SIG op 0x0B decapsulates with the last generated key. -/
  | mlKem1024Decaps (e : Bool) (ctx key : BitVec 8)
  /-- R455: A Signature Engine operation completes, and its dual-rail result and outputs are written. -/
  | sigOpDone (e : Bool) (rails : BitVec 2)
  /-- R457: A one-time write of KLD_FWID supplies FW_DIGEST for CDI_1. -/
  | kldFwidWrite (i : BitVec 4) (word : BitVec 32)
  /-- R457: A one-time write of KLD_SVN supplies BUNDLE_SVN for CDI_1. -/
  | kldSvnWrite (svn : BitVec 5)
  /-- R459: A KLD_RAND read returns DRBG bits, or waits while the source is stopped. -/
  | kldRandRead
  /-- R459: The entropy health test fails and the random source stops until the next C event. -/
  | rngHealthFail
  /-- R465: The 1 ms DGA known-answer check; a failure or RAIL_FAULT removes the engine. -/
  | dgaKnownAnswerCheck (e : Nat) (ok : Bool) (slots : List Nat) (xip : Bool) (meds : List Nat)
  /-- R465: The 1 ms Signature Engine known-answer check; a failure removes the engine. -/
  | sigKnownAnswerCheck (e ok : Bool)
  /-- R465: A Persistence bank fails read-back or ECC and is removed. -/
  | persistBankFault (b : BitVec 2)
  /-- R473: The t_CBPOLL GETSTATUS poll of a present CBUS component. -/
  | cbusPoll (i : Nat) (ack : Bool)
  /-- R473: A back-off ends and an unacknowledged poll is retried; after the fourth failure the component is absent. -/
  | cbusRetry (i : Nat) (ack : Bool)
  /-- R474: t_IBIRTY ends and an unacknowledged IBI is retried, or ALERT_N is driven low. -/
  | ibiRetry (b acked : Bool)
  /-- R475: A read of the SMBus Alert Response Address returns the device address and releases ALERT_N. -/
  | smbusAlertResponse (b : Bool)
  /-- R491: SCL stays low for 25 ms to 35 ms, so the port releases the bus and resets its state. -/
  | smbusSclTimeout (b : Bool)
  /-- R496: The 1 ms temperature reading; a threshold crossing sends the PLDM event and an alert. -/
  | tempSensorUpdate (reading : BitVec 10)
  /-- R508: Vendor REG_READ returns words of the management window. -/
  | regRead (b : Bool) (h : VendorHdr) (part rsvd : Byte) (count : BitVec 16) (offset : BitVec 32)
  /-- R508: Vendor REG_WRITE writes words of the sender's mailbox. -/
  | regWrite (b : Bool) (h : VendorHdr) (offset : BitVec 32) (count rsvd : BitVec 16) (words : List (BitVec 32))
  /-- R125: An MCTP control message on a management port. -/
  | mctpControl (b : Bool)
  /-- R125: SPDM GET_VERSION to the device's responder. -/
  | getVersion (b : Bool)
  /-- R125: SPDM GET_CAPABILITIES to the device's responder. -/
  | getCapabilities (b : Bool)
  /-- R125: SPDM request for the device identity certificate chain. -/
  | getCertificate (b : Bool) (length : Nat)
  /-- R516: A TAMP_N input that was low returns high, so it stops counting as an active trip source and SRC_NOW bit 8 clears. -/
  | tamperRelease (n : BitVec 2)
  /-- R296: A host sets up an SPDM secured session with the CSF's responder, which IDE_KM and TDISP messages require. -/
  | spdmSecuredSession (p : Nat)
  /-- R297: A TDISP request moves the CSF's locked TDI into the RUN state, in which BAR0, BAR2 and BAR4 accept only bound T-bit requests. -/
  | tdispStartInterface (p : Nat)
  /-- R414: A TDISP request takes the TDI out of ERROR, after which the partition's admin rings may be enabled again. -/
  | tdispStopInterface (p : Nat)
  /-- R189: A CancelUpdate on MGT_A or MGT_B ends the PLDM Type 5 update in progress, so a later RequestUpdate is accepted. -/
  | pldmCancelUpdate (b : Bool)
  /-- R491: The BMC's I3C ENTDAA assigns the management port a dynamic address. -/
  | entdaa (b : Bool) (addr : BitVec 7)
  /-- R491: The BMC's I3C SETDASA assigns a dynamic address from the strap static address of R97. -/
  | setdasa (b : Bool) (static addr : BitVec 7)
  /-- R120: VSEC recovers above V_BOD without falling below V_OFF, so the brownout source condition ends and SRC_NOW bit 10 clears. -/
  | vsecAboveVBod
  /-- R95: A count window again gives both counts within 48 to 80, so the AOC disagreement no longer stands and FAULT_NOW.AOC clears. -/
  | aocAgreement
  /-- R256: Lake service resumes in PARITY and the held requests complete in order. -/
  | lakeFailoverDone
  /-- R466: DGA engine failover ends and its clients continue as the table gives. -/
  | dgaFailoverDone
  /-- R465: The operation in progress restarts on the other engine. -/
  | sigFailoverDone
  /-- R465: Pending entries become durable on the surviving bank and acknowledgements resume. -/
  | persistFailoverDone
deriving DecidableEq, Repr

end Sys2Proof
end

