-- ==== Sys2Proof/Decode.lean ====
section
/-!
DEFINITION. The table gives no row any bits, so no word spells a command.
-/

namespace Sys2Proof

/-- The command a word of the table's bits spells: none, for every word, because the table gives its rows no bits. -/
def decodeTableWord (_nbits _w : Nat) : Option Instr := none

end Sys2Proof
end

