-- ==== Sys2Proof/Config.lean ====
section
/-!
DEFINITION. The free values: what the manual leaves open, or what only an algorithm it does not restate fixes (random
bytes, signature values, ciphertext). Each is an opaque constant applied to State.freeCtr, the number of the draw, so
nothing can be proved of its value (log entry 1).
-/

namespace Sys2Proof

/-- A free 32-bit value for the n-th draw. -/
opaque freeWord : Nat → BitVec 32

/-- Free bytes for the n-th draw; the user cuts them to the length the manual gives. -/
opaque freeBytes : Nat → List (BitVec 8)

/-- KDF(K, label, context) of the key ladder, which NIST SP 800-108r1 fixes and the manual does not restate (R456, log entry 73). -/
opaque kdf : List (BitVec 8) → List (BitVec 8) → List (BitVec 8) → List (BitVec 8)

/-- The signature of a message under a private key at the n-th draw (log entry 1). -/
opaque signedBy : List (BitVec 8) → List (BitVec 8) → Nat → List (BitVec 8)

/-- The 8-byte cell of the Counter Bank that holds a counter's value and its owner (R392), in a layout the manual does not give (log entry
24). -/
opaque counterCell : Nat → Nat → List (BitVec 8)

/-- The public key of a private key of the key ladder (R370, log entry 1). -/
opaque publicOf : List (BitVec 8) → List (BitVec 8)

/-- The DER bytes of an X.509 certificate with these fields and this signature: X.509 fixes them (R370, log entry 25). -/
opaque x509 : List (BitVec 8) → List (BitVec 8) → List (BitVec 8)

/-- The AES-256-GCM key stream of a key and nonce, and the tag over additional data and ciphertext, which NIST SP 800-38D fixes
and the manual does not restate (R365, R379, R409, log entry 1). -/
opaque gcmStream : List (BitVec 8) → List (BitVec 8) → List (BitVec 8)
opaque gcmTag : List (BitVec 8) → List (BitVec 8) → List (BitVec 8) → List (BitVec 8) → List (BitVec 8)

/-- What a symmetric key makes of a text at the n-th draw (log entry 1). -/
opaque cipherOf : List (BitVec 8) → Nat → List (BitVec 8) → List (BitVec 8)

/-- The words of the boot ROM, which the manual does not give (R429, log entry 1). -/
opaque romWord : Nat → BitVec 32

/-- Where in the Lake working space ROM writes the alias certificates, which the manual does not say (R456, log entry 128). -/
opaque certPlace : Nat

/-- Which sources of the SIC are edge sources: hardware fixes it and the manual does not say (R434, log entry 1). -/
opaque sicEdge : BitVec 512

end Sys2Proof
end

