-- ==== Sys2Proof/Machine/Hash.lean ====
section
/-!
DEFINITION. The digests the device computes: SHA-256, SHA-384, SHA-512, SHA3-256 and SHA3-384 (R165, R449).
PRESUMED: the manual names these standards and does not restate them, so the algorithms are FIPS 180-4 and FIPS 202.
A table of constants is one number, the first constant in its highest digits.
-/

namespace Sys2Proof

/-- The n words of w bits that a packed table holds, highest first. -/
def unpackTable (w n table : Nat) : List (BitVec w) := (List.range n).map (fun i => BitVec.ofNat w (table >>> (w * (n - 1 - i))))

/-- n as k bytes, most significant byte first. -/
def be (k n : Nat) : Bytes := (le k n).reverse

/-- The number a big-endian byte string spells. -/
def unbe (b : Bytes) : Nat := unle b.reverse

/-- A byte string cut into pieces of n bytes; fuel is the number of pieces. -/
def pieces (n : Nat) : Nat → Bytes → List Bytes
  | 0, _ => []
  | k + 1, b => b.take n :: pieces n k (b.drop n)

/-! ### SHA-2 -/

/-- One member of SHA-2, for words of w bits: its round constants, its first chaining value, and for each of its four mixing
functions the rotation amounts, the last one of `sched0` and `sched1` a shift. -/
structure ShaKind (w : Nat) where
  rounds : Nat
  constants : Nat
  initial : Nat
  newer : List Nat
  older : List Nat
  sched0 : List Nat × Nat
  sched1 : List Nat × Nat

/-- SHA-256. -/
def kind256 : ShaKind 32 where
  rounds := 64
  constants := 0x428a2f9871374491b5c0fbcfe9b5dba53956c25b59f111f1923f82a4ab1c5ed5d807aa9812835b01243185be550c7dc372be5d7480deb1fe9bdc06a7c19bf174e49b69c1efbe47860fc19dc6240ca1cc2de92c6f4a7484aa5cb0a9dc76f988da983e5152a831c66db00327c8bf597fc7c6e00bf3d5a7914706ca63511429296727b70a852e1b21384d2c6dfc53380d13650a7354766a0abb81c2c92e92722c85a2bfe8a1a81a664bc24b8b70c76c51a3d192e819d6990624f40e3585106aa07019a4c1161e376c082748774c34b0bcb5391c0cb34ed8aa4a5b9cca4f682e6ff3748f82ee78a5636f84c878148cc7020890befffaa4506cebbef9a3f7c67178f2
  initial := 0x6a09e667bb67ae853c6ef372a54ff53a510e527f9b05688c1f83d9ab5be0cd19
  newer := [2, 13, 22]
  older := [6, 11, 25]
  sched0 := ([7, 18], 3)
  sched1 := ([17, 19], 10)

/-- SHA-512. -/
def kind512 : ShaKind 64 where
  rounds := 80
  constants := 0x428a2f98d728ae227137449123ef65cdb5c0fbcfec4d3b2fe9b5dba58189dbbc3956c25bf348b53859f111f1b605d019923f82a4af194f9bab1c5ed5da6d8118d807aa98a303024212835b0145706fbe243185be4ee4b28c550c7dc3d5ffb4e272be5d74f27b896f80deb1fe3b1696b19bdc06a725c71235c19bf174cf692694e49b69c19ef14ad2efbe4786384f25e30fc19dc68b8cd5b5240ca1cc77ac9c652de92c6f592b02754a7484aa6ea6e4835cb0a9dcbd41fbd476f988da831153b5983e5152ee66dfaba831c66d2db43210b00327c898fb213fbf597fc7beef0ee4c6e00bf33da88fc2d5a79147930aa72506ca6351e003826f142929670a0e6e7027b70a8546d22ffc2e1b21385c26c9264d2c6dfc5ac42aed53380d139d95b3df650a73548baf63de766a0abb3c77b2a881c2c92e47edaee692722c851482353ba2bfe8a14cf10364a81a664bbc423001c24b8b70d0f89791c76c51a30654be30d192e819d6ef5218d69906245565a910f40e35855771202a106aa07032bbd1b819a4c116b8d2d0c81e376c085141ab532748774cdf8eeb9934b0bcb5e19b48a8391c0cb3c5c95a634ed8aa4ae3418acb5b9cca4f7763e373682e6ff3d6b2b8a3748f82ee5defb2fc78a5636f43172f6084c87814a1f0ab728cc702081a6439ec90befffa23631e28a4506cebde82bde9bef9a3f7b2c67915c67178f2e372532bca273eceea26619cd186b8c721c0c207eada7dd6cde0eb1ef57d4f7fee6ed17806f067aa72176fba0a637dc5a2c898a6113f9804bef90dae1b710b35131c471b28db77f523047d8432caab7b40c724933c9ebe0a15c9bebc431d67c49c100d4c4cc5d4becb3e42b6597f299cfc657e2a5fcb6fab3ad6faec6c44198c4a475817
  initial := 0x6a09e667f3bcc908bb67ae8584caa73b3c6ef372fe94f82ba54ff53a5f1d36f1510e527fade682d19b05688c2b3e6c1f1f83d9abfb41bd6b5be0cd19137e2179
  newer := [28, 34, 39]
  older := [14, 18, 41]
  sched0 := ([1, 8], 7)
  sched1 := ([19, 61], 6)

/-- SHA-384 is SHA-512 from another first chaining value. -/
def kind384 : ShaKind 64 := { kind512 with
  initial := 0xcbbb9d5dc1059ed8629a292a367cd5079159015a3070dd17152fecd8f70e593967332667ffc00b318eb44a8768581511db0c2e0d64f98fa747b5481dbefa4fa4 }

/-- The exclusive or of a word's rotations to the right. -/
def turns {w : Nat} (l : List Nat) (x : BitVec w) : BitVec w := l.foldl (fun y n => y ^^^ x.rotateRight n) 0

/-- A mixing function of the schedule: rotations and a shift. -/
def turnsShift {w : Nat} (l : List Nat × Nat) (x : BitVec w) : BitVec w := turns l.1 x ^^^ (x >>> l.2)

/-- A bit of y where x is 1, of z where it is 0. -/
def choose {w : Nat} (x y z : BitVec w) : BitVec w := z ^^^ (x &&& (y ^^^ z))

/-- The schedule extended word by word: `win` holds the latest 16 words, oldest first. -/
def shaSchedule {w : Nat} (k : ShaKind w) : Nat → List (BitVec w) → List (BitVec w)
  | 0, _ => []
  | n + 1, win =>
    win.headD 0 :: shaSchedule k n (win.tail ++
      [win.headD 0 + turnsShift k.sched0 (win.getD 1 0) + win.getD 9 0 + turnsShift k.sched1 (win.getD 14 0)])

/-- The working variables as the two sequences the rounds extend, newest first: a, b, c, d and e, f, g, h. -/
structure ShaPair (w : Nat) where
  upper : List (BitVec w)
  lower : List (BitVec w)

/-- One round: both sequences take a new word and drop their oldest. `x` is the schedule word plus the round constant. -/
def shaTurn {w : Nat} (k : ShaKind w) (p : ShaPair w) (x : BitVec w) : ShaPair w :=
  match p with
  | ⟨[a0, a1, a2, a3], [e0, e1, e2, e3]⟩ =>
    let t := x + e3 + choose e0 e1 e2 + turns k.older e0
    ⟨[t + turns k.newer a0 + majority a0 a1 a2, a0, a1, a2], [a3 + t, e0, e1, e2]⟩
  | q => q

/-- The chaining value after a block: the eight variables added to what they began with. -/
def shaAbsorb {w : Nat} (k : ShaKind w) (h : List (BitVec w)) (blk : Bytes) : List (BitVec w) :=
  let ws := shaSchedule k k.rounds ((pieces (w / 8) 16 blk).map (fun b => BitVec.ofNat w (unbe b)))
  let p := (List.zipWith (fun x y => x + y) ws (unpackTable w k.rounds k.constants)).foldl (shaTurn k) ⟨h.take 4, h.drop 4⟩
  List.zipWith (fun x y => x + y) h (p.upper ++ p.lower)

/-- A message with its padding: a 1 bit, zeros, and its length in bits in the last w / 4 bytes of a block of 2 × w bytes. -/
def shaPadded (w : Nat) (m : Bytes) : Bytes :=
  let used := (m.length + 1 + w / 4) % (2 * w)
  m ++ 0x80 :: zeros (if used = 0 then 0 else 2 * w - used) ++ be (w / 4) (8 * m.length)

/-- The digest of a message under a member of SHA-2, before any truncation. -/
def sha2 {w : Nat} (k : ShaKind w) (m : Bytes) : Bytes :=
  let p := shaPadded w m
  (((pieces (2 * w) (p.length / (2 * w)) p).foldl (shaAbsorb k) (unpackTable w 8 k.initial)).map (fun x => be (w / 8) x.toNat)).flatten

/-- SHA-256, SHA-384 and SHA-512. -/
def sha256 (m : Bytes) : Bytes := sha2 kind256 m
def sha384 (m : Bytes) : Bytes := (sha2 kind384 m).take 48
def sha512 (m : Bytes) : Bytes := sha2 kind512 m

/-! ### SHA-3 -/

/-- The 24 round constants of Keccak-f[1600] (FIPS 202). -/
def keccakRc : List (BitVec 64) := unpackTable 64 24
  0x00000000000000010000000000008082800000000000808a8000000080008000000000000000808b000000008000000180000000800080818000000000008009000000000000008a00000000000000880000000080008009000000008000000a000000008000808b800000000000008b8000000000008089800000000000800380000000000080028000000000000080000000000000800a800000008000000a8000000080008081800000000000808000000000800000018000000080008008

/-- The source lane and rotation of each lane after the ρ and π steps, lane x + 5y. -/
def keccakRhoPi : List (Nat × Nat) :=
  [(0, 0), (6, 44), (12, 43), (18, 21), (24, 14), (3, 28), (9, 20), (10, 3), (16, 45), (22, 61), (1, 1), (7, 6), (13, 25), (19, 8), (20, 18), (4, 27), (5, 36), (11, 10), (17, 15), (23, 56), (2, 62), (8, 55), (14, 39), (15, 41), (21, 2)]

/-- One round of Keccak-f[1600] on 25 lanes. -/
def keccakRound (a : List (BitVec 64)) (rc : BitVec 64) : List (BitVec 64) :=
  let g := fun i => a.getD i 0
  let c := (List.range 5).map (fun x => g x ^^^ g (x + 5) ^^^ g (x + 10) ^^^ g (x + 15) ^^^ g (x + 20))
  let d := (List.range 5).map (fun x => c.getD ((x + 4) % 5) 0 ^^^ (c.getD ((x + 1) % 5) 0).rotateLeft 1)
  let t := (List.range 25).map (fun i => g i ^^^ d.getD (i % 5) 0)
  let b := keccakRhoPi.map (fun p => (t.getD p.1 0).rotateLeft p.2)
  (List.range 25).map (fun i =>
    let y := 5 * (i / 5)
    let v := b.getD i 0 ^^^ (~~~ b.getD (y + (i + 1) % 5) 0 &&& b.getD (y + (i + 2) % 5) 0)
    if i = 0 then v ^^^ rc else v)

/-- One block of the sponge absorbed. -/
def keccakAbsorb (a : List (BitVec 64)) (blk : Bytes) : List (BitVec 64) :=
  let ws := (pieces 8 25 (fit 200 blk)).map (fun b => BitVec.ofNat 64 (unle b))
  keccakRc.foldl keccakRound ((List.range 25).map (fun i => a.getD i 0 ^^^ ws.getD i 0))

/-- SHA-3 with an output of n bytes (FIPS 202, suffix 01). -/
def sha3 (n : Nat) (m : Bytes) : Bytes :=
  let rate := 200 - 2 * n
  let q := rate - m.length % rate
  let pad : Bytes := if q = 1 then [0x86] else [0x06] ++ zeros (q - 2) ++ [0x80]
  let p := m ++ pad
  let a := (pieces rate (p.length / rate) p).foldl keccakAbsorb (List.replicate 25 0)
  ((a.map (fun x => le 8 x.toNat)).flatten).take n

/-- The digest of a message under a HASH value of R165; other values give no bytes. -/
def digestOf (hash : Nat) (m : Bytes) : Bytes :=
  match hash with
  | 1 => sha256 m
  | 2 => sha384 m
  | 3 => sha512 m
  | 4 => sha3 32 m
  | 5 => sha3 48 m
  | _ => []

/-- Bytes of the digest of a HASH value of R165. -/
def digestLen (hash : Nat) : Nat :=
  match hash with
  | 1 => 32
  | 2 => 48
  | 3 => 64
  | 4 => 32
  | 5 => 48
  | _ => 0

end Sys2Proof
end

