-- ==== Sys2Proof/Machine/Fuse.lean ====
section
/-!
DEFINITION. The OTP array as the OTP controller reads, programs and scans it (R128 to R156), on the OTP component alone.
-/

namespace Sys2Proof

/-- The word of the array at an address. -/
def otpWord (o : Otp) (a : Nat) : OtpSense := tabGet ⟨0, 0⟩ o.words a

/-- The code positions of d0 to d31: 1 to 38 without the powers of two (R128). -/
def hamDataPos : List Nat := (List.range 39).filter (fun p => decide (p ≠ 0) && !([1, 2, 4, 8, 16, 32].contains p))

/-- The bit of a stored word at a code position: data, or check bit i at position 2^i. -/
def hamBit (w : BitVec 39) (p : Nat) : Bool :=
  match [1, 2, 4, 8, 16, 32].findIdx? (· == p) with
  | some i => w.getLsbD (32 + i)
  | none => w.getLsbD (hamDataPos.findIdx (· == p))

/-- The parity of the positions whose index has bit i set. -/
def hamParity (w : BitVec 39) (i : Nat) : Bool :=
  (List.range 39).foldl (fun acc p => if p ≠ 0 ∧ p.testBit i then xor acc (hamBit w p) else acc) false

/-- The parity of all 38 positions and of check bit c6. -/
def hamAll (w : BitVec 39) : Bool :=
  (List.range 39).foldl (fun acc p => if p ≠ 0 then xor acc (hamBit w p) else acc) (w.getLsbD 38)

/-- A data word with its seven check bits (R128). -/
def hamEncode (d : BitVec 32) : BitVec 39 :=
  let w0 : BitVec 39 := d.setWidth 39
  let w1 := (List.range 6).foldl (fun w i => putBit w (32 + i) (hamParity w0 i)) w0
  putBit w1 38 (hamAll w1)

/-- The syndrome: which of the six parities fail, as a position. -/
def hamSyndrome (w : BitVec 39) : Nat :=
  (List.range 6).foldl (fun n i => n + b2n (hamParity w i) * 2 ^ i) 0

/-- The result of sensing a word (R135). -/
inductive OtpResult where
  | good
  | corrected
  | marginal
  | uncorrectable
  | refused
deriving DecidableEq, Repr

/-- OTPC_STATUS.RESULT of a result. -/
def otpResultCode : OtpResult → Nat
  | .good => 0
  | .corrected => 1
  | .marginal => 2
  | .uncorrectable => 3
  | .refused => 4

/-- A word outside 512 to 515 that reads GOOD or CORRECTED counts as good (R135). -/
def otpIsGood (r : OtpResult) : Bool := decide (r = .good) || decide (r = .corrected)

/-- R135: the result and the data of sensing one word. Words 512 to 515 carry no ECC (R129). -/
def otpSense (a : Nat) (w : OtpSense) : OtpResult × BitVec 32 :=
  if 512 ≤ a ∧ a ≤ 515 then
    if w.lo.setWidth 32 = w.hi.setWidth 32 then (.good, w.hi.setWidth 32) else (.marginal, w.hi.setWidth 32)
  else if w.lo ≠ w.hi then (.marginal, w.hi.setWidth 32)
  else
    let s := hamSyndrome w.hi
    let p := hamAll w.hi
    if s = 0 && !p then (.good, w.hi.setWidth 32)
    else if p && decide (s ≤ 38) then
      match hamDataPos.findIdx? (· == s) with
      | some i => (.corrected, (w.hi ^^^ (BitVec.ofNat 39 1 <<< i)).setWidth 32)
      | none => (.corrected, w.hi.setWidth 32)
    else (.uncorrectable, w.hi.setWidth 32)

/-- The result and the data of reading the word at an address. -/
def otpReadRaw (o : Otp) (a : Nat) : OtpResult × BitVec 32 := otpSense a (otpWord o a)

/-- The data of the word at an address. -/
def otpData (o : Otp) (a : Nat) : BitVec 32 := (otpReadRaw o a).2

/-- A read the OTPC serves to a core: KEY words return 0 with REFUSED (R132). -/
def otpCoreRead (o : Otp) (a : Nat) : OtpResult × BitVec 32 :=
  if 544 ≤ a ∧ a ≤ 1023 then (.refused, 0) else otpReadRaw o a

/-- n words from an address as bytes, each word little-endian. -/
def otpBytes (o : Otp) (a n : Nat) : Bytes :=
  ((List.range n).map (fun i => le 4 (otpData o (a + i)).toNat)).flatten

/-- DEVICE_ID: OTP words 192 to 195 (R130). -/
def deviceId (o : Otp) : Bytes := otpBytes o 192 4

/-- OWNER_ID: OTP words 1024 to 1027. -/
def ownerId (o : Otp) : Bytes := otpBytes o 1024 4

/-- OWNER_OPT: OTP word 1028. -/
def ownerOpt (o : Otp) : BitVec 32 := otpData o 1028

/-- OWNER_KEY_k as 48 bytes (R130). -/
def ownerKey (o : Otp) (k : Nat) : Bytes := otpBytes o (1032 + 12 * k) 12

/-- Some nonzero OWNER_KEY slot holds the key digest (R180). -/
def ownerKeyMatches (o : Otp) (d : Bytes) : Bool :=
  (List.range 8).any (fun k => decide (ownerKey o k = d) && decide (d ≠ zeros 48))

/-- Every bit of a word reads 0 at both margins. -/
def otpBlank (w : OtpSense) : Bool := decide (w.lo = 0) && decide (w.hi = 0)

/-- Some bit of OWNER_DIGEST reads 1 (R133). -/
def ownerDigestStarted (o : Otp) : Bool :=
  (List.range 12).any (fun i => !otpBlank (otpWord o (2036 + i)))

/-- R130, R131, R133, R148: a program of the word at an address is permitted. Ratchet words (R143) and the words of the
life-cycle step (R147) have their own conditions. -/
def otpProgramPermitted (o : Otp) (lock : Bool) (a : Nat) : Bool :=
  if a < 512 then !o.lockVendor
  else if a < 544 then false
  else if a < 1024 then !o.closed && decide (o.countLatched = 0)
  else if a < 2036 then !lock && !ownerDigestStarted o
  else decide (a < 2048) && !lock

/-- The array with a word burned: the data and its check bits, except where the burn stayed weak at a margin. -/
def otpBurn (o : Otp) (a : Nat) (w : BitVec 39) (weakLo weakHi : BitVec 39) : Otp :=
  let v := otpWord o a
  { o with words := tabSet ⟨0, 0⟩ o.words a ⟨v.lo ||| (w &&& ~~~ weakLo), v.hi ||| (w &&& ~~~ weakHi)⟩ }

/-- The senses of LC cell i: its two bits at both margins (R144). -/
def lcCell (o : Otp) (i : Nat) : List Bool :=
  let w := otpWord o (512 + i / 16)
  let b := 2 * (i % 16)
  [w.lo.getLsbD b, w.lo.getLsbD (b + 1), w.hi.getLsbD b, w.hi.getLsbD (b + 1)]

/-- A cell whose two bits read 1 at both margins. -/
def lcBurned (o : Otp) (i : Nat) : Bool := (lcCell o i).all id

/-- A cell whose four senses read 0. -/
def lcBlank (o : Otp) (i : Nat) : Bool := (lcCell o i).all not

/-- A cell that is neither burned nor blank. -/
def lcMarginal (o : Otp) (i : Nat) : Bool := !lcBurned o i && !lcBlank o i

/-- The LC count: the number of burned cells (R144). -/
def lcCount (o : Otp) : Nat := countIf (lcBurned o) (List.range 32)

/-- The thermometer code of R144. -/
def lcThermometer (o : Otp) : Bool :=
  (List.range 32).all (fun i => if i < lcCount o then lcBurned o i else lcBlank o i)

/-- The voted LC_COMPAT code (R145) over the bits that read 1 at both margins. -/
def compatVote (o : Otp) : BitVec 8 :=
  let w := otpWord o 514
  let v := w.lo &&& w.hi
  majority (v.extractLsb' 0 8) (v.extractLsb' 8 8) (v.extractLsb' 16 8)

/-- R145: the code is valid and agrees with the count. -/
def compatAgrees (code : BitVec 8) (count : Nat) : Bool :=
  (decide (code = 0x00) && decide (count = 0)) || (decide (code = 0x69) && decide (count % 2 = 1))
    || (decide (code = 0x6f) && decide (2 ≤ count))

/-- A life-cycle bit whose margins disagree (R96). -/
def lcAnyMarginal (o : Otp) : Bool :=
  decide ((otpWord o 512).lo.setWidth 32 ≠ (otpWord o 512).hi.setWidth 32)
    || decide ((otpWord o 513).lo.setWidth 32 ≠ (otpWord o 513).hi.setWidth 32)
    || decide ((otpWord o 514).lo.setWidth 24 ≠ (otpWord o 514).hi.setWidth 24)

/-- R146 with R96: the state is Open when the count is even, the voted code is valid and agrees, and no bit is
marginal. -/
def lcOpen (o : Otp) : Bool :=
  decide (lcCount o % 2 = 0) && compatAgrees (compatVote o) (lcCount o) && !lcAnyMarginal o

/-- FEAT_CRIT as the latch takes it: a marginal enable bit is 0, a marginal DEBUG_DIS is 1 (R96). -/
def featLatch (o : Otp) : BitVec 32 :=
  let w := otpWord o 128
  putBit ((w.lo &&& w.hi).setWidth 32) 20 ((w.lo ||| w.hi).getLsbD 20)

/-- The critical fuse latch takes the critical wires (R96, R137, R145, R146). -/
def otpLatch (o : Otp) : Otp :=
  { o with feat := featLatch o, closed := !lcOpen o, compatVoted := compatVote o, countLatched := lcCount o, countBurned := lcCount o }

/-- The value a ratchet word has once burned (R142). -/
def ratchetPattern (n : Nat) : BitVec 32 := BitVec.ofNat 32 (0x53560000 + n + 1)

/-- R140: a ratchet word counts as burned, and whether it raises RATCHET_BAD. -/
def ratchetWord (o : Otp) (n : Nat) : Bool × Bool :=
  let (r, d) := otpReadRaw o (516 + n)
  if decide (r = .good) && decide (d = 0) then (false, false)
  else if otpIsGood r && decide (d = ratchetPattern n) then (true, false)
  else (true, true)

/-- The ratchet value (R142): how many ratchet words from 516 on count as burned without a gap. -/
def ratchetValue (o : Otp) : Nat :=
  ((List.range 28).takeWhile (fun n => (ratchetWord o n).1)).length

/-- The classes of the OWNER region (R134). -/
inductive OwnerClass where
  | blank
  | finalised
  | part
  | bad
deriving DecidableEq, Repr

/-- The digest words 1024 to 2035 call for, as OTP words (R133). -/
def ownerDigestWords (o : Otp) : List (BitVec 32) :=
  let d := sha384 (otpBytes o 1024 1012)
  (List.range 12).map (fun i => wordAt d i)

/-- Each OWNER_DIGEST word equals its word of the digest; with `orBlank`, a blank one may stand. -/
def ownerDigestFits (o : Otp) (orBlank : Bool) : Bool :=
  let ws := ownerDigestWords o
  (List.range 12).all (fun i =>
    decide (otpData o (2036 + i) = ws.getD i 0) || (orBlank && otpBlank (otpWord o (2036 + i))))

/-- The OWNER words that are not blank. -/
def ownerCells (o : Otp) : List (Nat × OtpSense) := tabRange o.words 1024 2048

/-- R134: the class of the OWNER region. -/
def ownerClass (o : Otp) : OwnerClass :=
  let cells := ownerCells o
  if cells.isEmpty then .blank
  else if !cells.all (fun c => otpIsGood (otpSense c.1 c.2).1) then .bad
  else if decide ((ownerOpt o).toNat / 8 ≠ 0) then .bad
  else if ownerDigestFits o false then .finalised
  else if cells.all (fun c =>
      !((decide (1029 ≤ c.1) && decide (c.1 ≤ 1031)) || (decide (1044 ≤ c.1) && decide (c.1 ≤ 2035)))
        || decide ((otpSense c.1 c.2).2 = 0)) && ownerDigestFits o true then .part
  else .bad

/-- What the integrity scan finds at one word: the alarm flags it raises and whether it decides FLOOR (R140). -/
def scanWord (o : Otp) (a : Nat) (w : OtpSense) : BitVec 8 × Bool :=
  let (r, d) := otpSense a w
  let marg := decide (r = .marginal)
  let unc := decide (r = .uncorrectable)
  let base : BitVec 8 := putBit (putBit 0 1 marg) 2 unc
  let sense := marg || unc
  if a < 128 then (base, false)
  else if a = 128 then (base, false)
  else if 144 ≤ a ∧ a ≤ 195 then (base, sense)
  else if a < 512 then (putBit base 7 (decide (d ≠ 0)), false)
  else if a = 512 ∨ a = 513 then (base, marg)
  else if a = 514 then (putBit base 7 (decide (d.toNat / 2 ^ 24 ≠ 0)), marg)
  else if a = 515 then (putBit base 7 (decide (d ≠ 0)), false)
  else if a < 544 then (putBit base 4 (ratchetWord o (a - 516)).2, false)
  else (base, sense)

/-- The alarm flags of the life-cycle fields: COMPAT_SPLIT and LC_INVALID (R145, R146). -/
def scanLc (o : Otp) : BitVec 8 :=
  let w := (otpWord o 514).hi
  let v := compatVote o
  let split := [0, 8, 16].any (fun b => decide (w.extractLsb' b 8 ≠ v))
  putBit (putBit 0 6 split) 5 (!compatAgrees v (lcCount o))

/-- The OWNER words at fault in a region that is bad though every word reads well (R134): OWNER_OPT with a reserved bit, reserved
content, and digest words that are not blank and differ from the digest of the content. -/
def ownerOffenders (o : Otp) : List Nat :=
  let ws := ownerDigestWords o
  (if (ownerOpt o).toNat / 8 ≠ 0 then [1028] else [])
  ++ ((ownerCells o).filter (fun c => ((decide (1029 ≤ c.1) && decide (c.1 ≤ 1031)) || (decide (1044 ≤ c.1) && decide (c.1 ≤ 2035)))
      && decide ((otpSense c.1 c.2).2 ≠ 0))).map (fun c => c.1)
  ++ ((List.range 12).filter (fun i => decide (otpData o (2036 + i) ≠ ws.getD i 0) && !otpBlank (otpWord o (2036 + i)))).map (fun i => 2036 + i)

/-- The LC words whose cells break the thermometer code (R144). -/
def lcOffenders (o : Otp) : List Nat :=
  ((List.range 32).filter (fun i => if i < lcCount o then !lcBurned o i else !lcBlank o i)).map (fun i => 512 + i / 16)

/-- The integrity scan (R140, R141): OTPC_ALARM with DECISION_FLOOR, and the lowest word that raised an alarm. -/
def otpScanAlarm (o : Otp) : OtpAlarm :=
  let found := o.words.cells.map (fun c => (c.1, scanWord o c.1 c.2))
  let ownerBad := decide (ownerClass o = .bad)
  let lc := scanLc o
  let ownerSenseOk := (ownerCells o).all (fun c => otpIsGood (otpSense c.1 c.2).1)
  let flags0 := found.foldl (fun f c => f ||| c.2.1) lc
  let flags1 := putBit flags0 3 (ownerBad && ownerSenseOk)
  let isFloor := ownerBad || !lcThermometer o || found.any (fun c => c.2.2)
  let flags := putBit flags1 0 isFloor
  let raising := (found.filter (fun c => decide (c.2.1 ≠ 0))).map (fun c => c.1)
    ++ (if lc ≠ 0 then [514] else []) ++ lcOffenders o ++ (if ownerBad && ownerSenseOk then ownerOffenders o else [])
  ⟨raising.foldl min 2048 % 2048, flags⟩

/-- The state the scan leaves (R131, R138 to R142): alarms, ratchet, burned count, region locks, and all enables off for
an uncorrectable FEAT_CRIT or one with a reserved bit. Of a reserved bit that reads 1 at the high margin only, the model takes the
'Reserved bit 1' finding, on the word a MARGINAL read returns (log entry 102). -/
def otpScan (o : Otp) : Otp :=
  let (r, d) := otpReadRaw o 128
  let off := decide (r = .uncorrectable) || decide (d &&& 0xffee0000 ≠ 0)
  { o with
    alarm := otpScanAlarm o
    ratchet := ratchetValue o
    countBurned := lcCount o
    keyClosed := o.closed || decide (o.countLatched ≠ 0)
    ownerFinal := ownerDigestStarted o
    feat := if off then o.feat &&& 0x00100000 else o.feat }

/-- The lowest cell that is blank, which a step programs (R147). -/
def lcNext (o : Otp) : Nat := ((List.range 32).find? (lcBlank o)).getD 32

/-- The lowest cell that is not burned. -/
def lcLowest (o : Otp) : Nat := ((List.range 32).find? (fun i => !lcBurned o i)).getD 32

/-- R149: the lowest non-burned cell is marginal and every cell above it is blank. -/
def lcNeedsReburn (o : Otp) : Bool :=
  let i := lcLowest o
  decide (i < 32) && lcMarginal o i && (List.range 32).all (fun j => decide (j ≤ i) || lcBlank o j)

/-- The array with LC cell i burned at both margins. -/
def lcBurnCell (o : Otp) (i : Nat) : Otp :=
  otpBurn o (512 + i / 16) (BitVec.ofNat 39 3 <<< (2 * (i % 16))) 0 0

/-- R147, R148: a life-cycle step is permitted: an even count, or RMA_OK; never at count 31. -/
def lcStepPermitted (o : Otp) : Bool :=
  let c := lcCount o
  decide (c < 31) && decide (lcNext o < 32) && (decide (c % 2 = 0) || o.rmaOk.isSome)

/-- The LC_COMPAT bytes a step from a count programs (R147): 0x00 to 0x69 at 0, 0x69 to 0x6F at 1. -/
def lcCompatBurn (count : Nat) : BitVec 39 :=
  if count = 0 then 0x696969 else if count = 1 then 0x6f6f6f else 0

/-- R147: the step programs the lowest blank cell and any LC_COMPAT step. -/
def lcStep (o : Otp) (weakLo weakHi : BitVec 39) : Otp :=
  let c := lcCount o
  let i := lcNext o
  let o1 := otpBurn o (512 + i / 16) (BitVec.ofNat 39 3 <<< (2 * (i % 16))) weakLo weakHi
  if c ≤ 1 then otpBurn o1 514 (lcCompatBurn c) 0 0 else o1

/-- A command written to OTPC_CMD while BUSY is ignored and sets DROPPED; any other becomes the operation in progress
(R137). -/
def otpBegin (o : Otp) (op addr : Nat) (p : OtpPend) : Otp :=
  match o.busy with
  | some _ => { o with dropped := true }
  | none => { o with op := op, addr := addr, dropped := false, busy := some p }

/-- The operation in progress completes: BUSY clears, RESULT is set (R135, R136). A burn that stays weak is given by
the margins at which its bits read 0. The manual gives no RESULT of a SCAN; the model reports GOOD (log entry 69). -/
def otpDone (o : Otp) (weakLo weakHi : BitVec 39) : Otp :=
  match o.busy with
  | none => o
  | some p =>
    let o0 := { o with busy := none }
    match p with
    | .refused => { o0 with result := 4 }
    | .read a =>
      let (r, d) := otpCoreRead o a
      { o0 with result := otpResultCode r, data := d }
    | .program a d =>
      let o1 := otpBurn o0 a (hamEncode d) weakLo weakHi
      let o2 := if 516 ≤ a ∧ a < 544 then { o1 with ratchet := ratchetValue o1 } else o1
      let o3 := { o2 with ownerFinal := ownerDigestStarted o2 }
      { o3 with result := otpResultCode (otpReadRaw o3 a).1 }
    | .scan =>
      let o1 := otpScan o0
      { o1 with result := 0 }
    | .lcStep =>
      let i := lcNext o0
      let o1 := lcStep o0 weakLo weakHi
      { o1 with countBurned := lcCount o1, result := otpResultCode (otpReadRaw o1 (512 + i / 16)).1 }

/-- The words the owner binding programs, with the values it needs (R134): OWNER_ID, OWNER_OPT and OWNER_KEY_0. -/
def bindWords (oid : Bytes) (opt : Nat) (key : Bytes) : List (Nat × BitVec 32) :=
  (List.range 4).map (fun i => (1024 + i, wordAt oid i)) ++ [(1028, BitVec.ofNat 32 opt)]
    ++ (List.range 12).map (fun i => (1032 + i, wordAt key i))

/-- R134: the region is blank, or partial with every word from 1024 to 1043 that is not blank at the value the request
would program there. -/
def bindPermitted (o : Otp) (oid : Bytes) (opt : Nat) (key : Bytes) : Bool :=
  decide (ownerClass o = .blank) ||
    (decide (ownerClass o = .part) && (bindWords oid opt key).all (fun w =>
      otpBlank (otpWord o w.1) || decide (otpData o w.1 = w.2)))

/-- R134: ROM programs every word of the binding that is still blank, then every OWNER_DIGEST word that is still blank. The OTPC
refuses the content words once a digest word is burned (R133). When the burn stays weak the digest words read 0 at the low margin. -/
def bindOwner (o : Otp) (oid : Bytes) (opt : Nat) (key : Bytes) (burnOk : Bool) : Otp :=
  let put := fun (weak : BitVec 39) (o : Otp) (w : Nat × BitVec 32) =>
    if otpBlank (otpWord o w.1) then otpBurn o w.1 (hamEncode w.2) weak 0 else o
  let o1 := if ownerDigestStarted o then o else (bindWords oid opt key).foldl (put 0) o
  let ds := ownerDigestWords o1
  let weak : BitVec 39 := if burnOk then 0 else ~~~ 0
  let o2 := (List.range 12).foldl (fun o i => put weak o (2036 + i, ds.getD i 0)) o1
  { o2 with ownerFinal := ownerDigestStarted o2 }

/-- The read-back of R134: words 1024 to 2047 read GOOD or CORRECTED with the values they must hold. -/
def bindReadsBack (o : Otp) (oid : Bytes) (opt : Nat) (key : Bytes) : Bool :=
  (bindWords oid opt key).all (fun w => decide (otpData o w.1 = w.2))
  && (ownerCells o).all (fun c => otpIsGood (otpSense c.1 c.2).1
      && (!((decide (1029 ≤ c.1) && decide (c.1 ≤ 1031)) || (decide (1044 ≤ c.1) && decide (c.1 ≤ 2035))) || decide ((otpSense c.1 c.2).2 = 0)))
  && ownerDigestFits o false

/-- A program that an S, C or P event interrupts leaves its word not good (R143), and a step leaves its cell marginal, so that it
never counts as undone (R149): the bits read 1 at the high margin only (log entry 70). -/
def otpInterrupt (o : Otp) : Otp :=
  match o.busy with
  | some (.program a d) => otpBurn o a (hamEncode d) (~~~ 0) 0
  | some .lcStep => otpBurn o (512 + lcNext o / 16) (BitVec.ofNat 39 3 <<< (2 * (lcNext o % 16))) (~~~ 0) 0
  | _ => o

/-- What an S event resets in the OTPC: its command, status, data, RMA_OK, the debug session and the challenge; the operation in
progress is interrupted. -/
def otpS (o : Otp) : Otp :=
  { otpInterrupt o with op := 0, addr := 0, dropped := false, busy := none, due := [], result := 0, data := 0, rmaOk := none, session := none, debugWait := [], debugBatches := [], debugBr := false, challenge := none }

/-- What a C event resets beside that. -/
def otpC (o : Otp) : Otp :=
  { otpS o with alarm := ⟨0, 0⟩, lockVendor := false, keyClosed := false, ownerFinal := false, countBurned := 0,
                ratchet := 0 }

/-- What a P event resets beside that: the latched values, until the latch completes again (R96). -/
def otpP (o : Otp) : Otp :=
  { otpC o with closed := true, compatVoted := 0, countLatched := 0, feat := 0 }

end Sys2Proof
end

