-- ==== Sys2Proof/Machine/Policy.lean ====
section
/-!
DEFINITION. The acceptance of a Policy Image (R3, R25, R157 to R180, R469) and of a firmware bundle (R282 to R284).
-/

namespace Sys2Proof

/-- The CAPS variant code from the latched FEAT_CRIT bits (R139). -/
def variantCode (feat : BitVec 32) : Nat :=
  if feat.getLsbD 8 then (if fieldOf feat 4 4 ≠ 0 then 1 else 2) else 3

/-- BAY_EN bit b (R138). -/
def bayEnabled (feat : BitVec 32) (b : Nat) : Bool := decide (b < 8) && feat.getLsbD b && feat.getLsbD 8

/-- VAULT_EN (R138). -/
def vaultEnabled (feat : BitVec 32) : Bool := feat.getLsbD 9 && feat.getLsbD 8

/-- UP_EN bit p (R138). -/
def upEnabled (feat : BitVec 32) (p : Nat) : Bool := decide (p < 4) && feat.getLsbD (10 + p) && feat.getLsbD 8

/-- The effective RING_QTR: a value above 4 is treated as 0 (R139). -/
def ringQtr (feat : BitVec 32) : Nat :=
  let q := fieldOf feat 14 3
  if 4 < q then 0 else q

/-- The ring total and the ledger count of the part (R1, R138). -/
def ringTotal (feat : BitVec 32) : Nat := ringQtr feat * 262144
def ledgerTotal (feat : BitVec 32) : Nat := 5 * ringTotal feat

/-- The WIDTH and DTR flag of a CHANNELS record select a protocol (R190). -/
def chanHasProtocol (c : ChannelRec) : Bool :=
  !(c.flags.testBit 0 && (decide (c.width = 1) || decide (c.width = 2)))

/-- The divider n of the channel clock f_CK = 2,400 MHz / n (R194). -/
def clkDivider (mhz : Nat) : Nat := max 12 (min 2400 (ceilDiv 4800 (2 * mhz + 1)))

/-- 2 with DTR, 1 otherwise (R194). -/
def dtrFactor (flags : Nat) : Nat := if flags.testBit 0 then 2 else 1

/-- C_CMD of a channel's read protocol in cycles (R265). -/
def cmdCycles (c : ChannelRec) : Nat :=
  let a := c.addrBytes
  if c.width = 8 then (if c.flags.testBit 0 then 3 else 6)
  else if c.width = 4 then (if c.flags.testBit 0 then 8 + a else 8 + 2 * a)
  else if c.width = 2 then 8 + 4 * a
  else 8 + 8 * a

/-- The least DEADLINE_MS of R165: ⌈4 × t_VNOM⌉. -/
def deadlineNominal (c : ChannelRec) (length : Nat) : Nat :=
  ceilDiv (32 * length * clkDivider c.clkMhz) (2400000 * c.width * dtrFactor c.flags)

/-- The least DEADLINE_MS of R469: ⌈4 × (3 × t_FRAME + 2 × t_CAL)⌉. t_CSHI is the longer of 20 ns and 2 cycles of f_CK (R200); times
are counted in cycles of 2,400 MHz. -/
def deadlineFrames (c : ChannelRec) (length : Nat) : Nat :=
  let n := clkDivider c.clkMhz
  let b := min length 1048576
  let cyc := cmdCycles c + c.dummy + ceilDiv (8 * b) (c.width * dtrFactor c.flags)
  ceilDiv (12 * (cyc * n + max 48 (2 * n)) + (if 50 < c.clkMhz then 32000 * n else 0)) 2400000

/-- The size in bytes of device d of a channel; 0 when it is not present (R164). -/
def deviceSize (c : ChannelRec) (d : Nat) : Nat :=
  if c.devices.testBit d then 2 ^ (if d = 0 then c.size0 else c.size1) else 0

/-- The CHANNELS record of a channel. -/
def polChannel (p : PolicyImage) (k : Nat) : Option ChannelRec := p.channels.find? (fun c => decide (c.channel = k))

/-- The DOMAINS record of a domain. -/
def polDomain (p : PolicyImage) (d : Nat) : Option DomainRec := p.domains.find? (fun r => decide (r.domain = d))

/-- The IMAGES record of a slot. -/
def polImage (p : PolicyImage) (s : Nat) : Option ImageRec := p.images.find? (fun r => decide (r.slot = s))

/-- The RECOVERY record of a slot. -/
def polRecovery (p : PolicyImage) (s : Nat) : Option RecoveryRec := p.recoveries.find? (fun r => decide (r.slot = s))

/-- The PRESENT_ID record that presents a backing device. -/
def polPresents (p : PolicyImage) (ch dev : Nat) : Option PresentRec :=
  p.presents.find? (fun r => decide (r.channel = ch) && decide (r.srcDevice = dev))

/-- The PRESENT_ID record of an emulated device. -/
def polPresent (p : PolicyImage) (port dev : Nat) : Option PresentRec :=
  p.presents.find? (fun r => decide (r.port = port) && decide (r.device = dev))

/-- The FABRIC record of a port. -/
def polPort (p : PolicyImage) (port : Nat) : Option FabricRec := p.fabric.find? (fun r => decide (r.port = port))

/-- The ENDPOINTS record of a PERST_N output, and of a port. -/
def polEndpoint (p : PolicyImage) (perst : Nat) : Option EndpointRec :=
  p.endpoints.find? (fun r => decide (r.perst = perst))
def polEndpointAt (p : PolicyImage) (port : Nat) : Option EndpointRec :=
  p.endpoints.find? (fun r => decide (r.port = port))

/-- The RESET_MAP domain of an output. -/
def polOutDomain (p : PolicyImage) (out : Nat) : Option Nat :=
  (p.resets.find? (fun r => decide (r.output = out))).map (fun r => r.domain)

/-- The upstream port of a partition. -/
def polUpstream (p : PolicyImage) (part : Nat) : Option FabricRec :=
  p.fabric.find? (fun r => decide (r.role = 1) && decide (r.part = part))

/-- The RESIST and RINGS records of a partition. -/
def polResist (p : PolicyImage) (part : Nat) : Option ResistRec := p.resist.find? (fun r => decide (r.part = part))
def polRings (p : PolicyImage) (part : Nat) : Option RingsRec := p.rings.find? (fun r => decide (r.part = part))

/-- The record sizes of R161 by section type; 0 for a type that is not in the table. -/
def secRecordSize (t : Nat) : Nat :=
  match t with
  | 1 => 16
  | 2 => 4
  | 3 => 32
  | 4 => 96
  | 5 => 16
  | 6 => 544
  | 7 => 16
  | 8 => 8
  | 9 => 136
  | 10 => 272
  | 11 => 24
  | 12 => 8
  | 13 => 16
  | 14 => 8
  | 16 => 2696
  | _ => 0

/-- How many records of each type the image holds. -/
def secCount (p : PolicyImage) (t : Nat) : Nat :=
  match t with
  | 1 => p.domains.length
  | 2 => p.resets.length
  | 3 => p.channels.length
  | 4 => p.images.length
  | 5 => p.locks.length
  | 6 => p.presents.length
  | 7 => p.recoveries.length
  | 8 => p.fabric.length
  | 9 => p.endpoints.length
  | 10 => p.resist.length
  | 11 => p.rings.length
  | 12 => p.rates.length
  | 13 => p.cbus.length
  | 14 => p.trips.length
  | 16 => p.signers.length
  | _ => 0

/-- A list of numbers strictly rises. -/
def rising : List Nat → Bool
  | a :: b :: r => decide (a < b) && rising (b :: r)
  | _ => true

/-- The section types of the table of R161. -/
def secTypes : List Nat := [1, 2, 3, 4, 5, 6, 7, 8, 9, 10, 11, 12, 13, 14, 16]

/-- Section framing: R157, R159, R160 and the presence column of R161. -/
def polFramingOk (p : PolicyImage) : Bool :=
  decide (p.secs.length = p.hdr.sectionCount)
  && rising (p.secs.map (fun s => s.type))
  && p.secs.all (fun s => decide (secRecordSize s.type ≠ 0) && s.rsvdZero && decide (s.count = secCount p s.type)
      && decide (s.len = 8 + s.count * secRecordSize s.type))
  && secTypes.all (fun t => decide (secCount p t = 0) || p.secs.any (fun s => decide (s.type = t)))
  && decide (p.hdr.bodyLen = (p.secs.map (fun s => 8 + roundUp s.len 8)).sum)
  && decide (p.hdr.bodyLen % 8 = 0)
  && decide (p.hdr.totalLen = 256 + p.hdr.bodyLen + 4723)
  && decide (p.hdr.totalLen ≤ 4194304)
  && p.bodyRsvdZero

/-- The header table of R158, for a device. -/
def polHeaderOk (o : Otp) (p : PolicyImage) : Bool :=
  decide (p.hdr.magic = 0x4c505946) && decide (p.hdr.format = 3) && decide (p.hdr.hdrLen = 256) && p.hdr.rsvdZero
  && decide (p.hdr.svn < 2 ^ 32) && decide (p.hdr.flags < 4)
  && (decide (p.hdr.variant = 0) || decide (p.hdr.variant = variantCode o.feat))
  && (decide (p.hdr.deviceId = zeros 16) || decide (p.hdr.deviceId = deviceId o))
  && decide (p.hdr.ownerId.length = 16) && decide (p.hdr.ownerOpt < 2 ^ 32) && decide (p.hdr.buildId.length = 16)
  && decide (p.hdr.created < 2 ^ 64)

/-- The SIGNERS record at an index carries a role (R178). -/
def signerHas (p : PolicyImage) (i role : Nat) : Bool :=
  match p.signers[i]? with
  | some s => s.roles.testBit role
  | none => false

/-- SHA-384(KEY_EC ‖ KEY_ML) of a SIGNERS record (R178). -/
def signerDigest (s : SignerRec) : Bytes := sha384 (s.keyEc ++ s.keyMl)

/-- Presence: a section that needs another has it (R161). -/
def polNeedsOk (p : PolicyImage) (feat : BitVec 32) : Bool :=
  let has := fun t => decide (secCount p t ≠ 0)
  has 1 && has 2 && has 16
  && (!has 4 || has 3) && (!has 5 || has 6) && (!has 6 || has 3) && (!has 7 || has 4)
  && (!has 8 || decide (variantCode feat ≠ 3)) && (!has 9 || has 8) && (!has 10 || has 8) && (!has 11 || has 8)

/-- A domain holds an output or an image (an endpoint holds its PERST_N output). -/
def domainHolds (p : PolicyImage) (d : Nat) : Bool :=
  p.resets.any (fun r => decide (r.domain = d)) || p.images.any (fun r => decide (r.domain = d))

/-- One round of the cycle check: the domains left whose prerequisites are not all settled. -/
def prereqRound (left : List DomainRec) : List DomainRec :=
  left.filter (fun r => left.any (fun q => r.prereq.getLsbD q.domain))

/-- The PREREQ relation has no cycle (R25). -/
def prereqAcyclic (p : PolicyImage) : Bool := ((List.range 33).foldl (fun l _ => prereqRound l) p.domains).isEmpty

/-- A text field: ASCII, padded with 0x00 (R162, R282). -/
def asciiPadded (k : Nat) (b : Bytes) : Bool :=
  decide (b.length = k) && b.all (fun x => decide (x.toNat < 128)) && (b.dropWhile (fun x => decide (x ≠ 0))).all (fun x => decide (x = 0))

/-- DOMAINS and RESET_MAP: R25, R162, R163. -/
def polDomainsOk (o : Otp) (p : PolicyImage) : Bool :=
  p.domains.all (fun r => decide (r.domain < 32) && decide (r.attr < 8) && asciiPadded 8 r.name
      && !r.prereq.getLsbD r.domain
      && (List.range 32).all (fun q => !r.prereq.getLsbD q || ((polDomain p q).isSome && domainHolds p q))
      && !(r.attr.testBit 0 && r.attr.testBit 2)
      && !(r.attr.testBit 2 && (ownerOpt o).getLsbD 2))
  && distinct (p.domains.map (fun r => r.domain))
  && prereqAcyclic p
  && p.resets.all (fun r => decide (r.output < (if variantCode o.feat = 3 then 48 else 80)) && (polDomain p r.domain).isSome
      && (decide (r.output < 48)
        || decide (countIf (fun e : EndpointRec => decide (48 + e.perst = r.output)) p.endpoints = 1)))
  && distinct (p.resets.map (fun r => r.output))

/-- CHANNELS (R164). -/
def polChannelsOk (p : PolicyImage) : Bool :=
  p.channels.all (fun c =>
    decide (1 ≤ c.channel) && decide (c.channel ≤ 16) && decide (1 ≤ c.devices) && decide (c.devices < 4)
    && [1, 2, 4, 8].contains c.width && decide (c.flags < 16) && decide (1 ≤ c.clkMhz) && decide (c.clkMhz ≤ 200)
    && decide (c.readOp < 256) && decide (c.eraseOp < 256) && decide (c.programOp < 256)
    && decide (c.dummy ≤ 32) && (decide (c.addrBytes = 3) || decide (c.addrBytes = 4))
    && (List.range 2).all (fun d =>
      let z := if d = 0 then c.size0 else c.size1
      if c.devices.testBit d then decide (20 ≤ z) && decide (z ≤ 32) && (decide (z ≤ 24) || decide (c.addrBytes = 4))
      else decide (z = 0))
    && decide (12 ≤ c.eraseLog2) && decide (c.eraseLog2 ≤ 18) && decide (8 ≤ c.pageLog2) && decide (c.pageLog2 ≤ 12)
    && decide (c.scrubPeriod < 2 ^ 32))
  && distinct (p.channels.map (fun c => c.channel))

/-- The effective region class of every byte of a range of a presented device is IMMUTABLE or GUARDED (R167). -/
def rangeProtected (p : PolicyImage) (ch dev off len : Nat) : Bool :=
  p.locks.all (fun l => !(decide (l.channel = ch) && decide (l.device = dev) && overlaps l.base l.length off len)
    || decide (l.cls = 1) || decide (l.cls = 2))

/-- IMAGES (R165, R166, R261, R469). -/
def polImagesOk (p : PolicyImage) : Bool :=
  p.images.all (fun r =>
    decide (r.slot < 256) && (polDomain p r.domain).isSome
    && decide (1 ≤ r.hash) && decide (r.hash ≤ 5)
    && decide (r.offset % 4096 = 0) && decide (r.length % 4096 = 0) && decide (4096 ≤ r.length)
    && decide (1 ≤ r.deadlineMs) && decide (r.deadlineMs ≤ 65535) && decide (r.refDigest.length = 64)
    && (if r.mode = 1 then decide (r.signer = 0xffff) && decide (r.svnIndex = 0xffff)
          && decide (r.refDigest.drop (digestLen r.hash) = zeros (64 - digestLen r.hash))
        else decide (r.mode = 2) && signerHas p r.signer 1 && decide (r.refDigest = zeros 64)
          && (decide (r.svnIndex < 256) || decide (r.svnIndex = 0xffff)) && decide (12288 ≤ r.length))
    && (match polChannel p r.channel with
        | none => false
        | some c => decide (r.device < 2) && c.devices.testBit r.device
            && decide (r.offset + r.length ≤ deviceSize c r.device)
            && (!chanHasProtocol c || (decide (deadlineNominal c r.length ≤ r.deadlineMs)
              && decide (deadlineFrames c r.length ≤ r.deadlineMs))))
    && p.images.all (fun q => decide (q.slot = r.slot) || decide (q.channel ≠ r.channel) || decide (q.device ≠ r.device)
        || !overlaps q.offset q.length r.offset r.length)
    && ((polPresents p r.channel r.device).isNone || rangeProtected p r.channel r.device r.offset r.length))
  && distinct (p.images.map (fun r => r.slot))

/-- LOCK_MAP (R167). -/
def polLocksOk (p : PolicyImage) : Bool :=
  p.locks.all (fun l =>
    decide (l.device < 2) && decide (1 ≤ l.cls) && decide (l.cls ≤ 5) && decide (l.base % 4096 = 0)
    && decide (l.length % 4096 = 0) && decide (4096 ≤ l.length) && (polPresents p l.channel l.device).isSome
    && (match polChannel p l.channel with
        | none => false
        | some c => c.devices.testBit l.device && decide (l.base + l.length ≤ deviceSize c l.device)))
  && rising (p.locks.map (fun l => (l.channel * 2 + l.device) * 2 ^ 33 + l.base))
  && (p.locks.zip (p.locks.drop 1)).all (fun q =>
      decide (q.1.channel ≠ q.2.channel) || decide (q.1.device ≠ q.2.device)
        || decide (q.1.base + q.1.length ≤ q.2.base))

/-- D_MIN(f) for f in MHz (R235). -/
def dMin (mhz : Nat) : Nat := ceilDiv mhz 10 + 2

/-- The dummy count the SFDP states for a mode it lists (R229). 1S-4D-4D, which its DTR support bit lists, uses the 1-4-4 count: that of
the 1-4-4 entry, or the one its own entry carries where 1-4-4 itself is not listed. -/
def modeDummy (r : PresentRec) (m : ReadMode) : Option Nat :=
  let count := fun m => (r.facts.reads.find? (fun x => decide (x.1 = m))).map (fun x => x.2)
  if m = .m1s4d4d ∧ (count m).isSome then (count .m144).orElse (fun _ => count m) else count m

/-- A dummy count is present and at least D_MIN. -/
def dummyOk (d : Option Nat) (mhz : Nat) : Bool :=
  match d with
  | some n => decide (dMin mhz ≤ n)
  | none => false

/-- PRESENT_ID (R166, R168, R235). -/
def polPresentsOk (p : PolicyImage) : Bool :=
  p.presents.all (fun r =>
    decide (1 ≤ r.port) && decide (r.port ≤ 16) && decide (r.device < 2) && decide (r.srcDevice < 2)
    && decide (1 ≤ r.idLen) && decide (r.idLen ≤ 8) && [1, 2, 4, 8].contains r.width && decide (r.flags < 2)
    && decide (r.id.length = 8) && decide (r.id.drop r.idLen = zeros (8 - r.idLen))
    && decide (1 ≤ r.maxMhz) && decide (r.maxMhz ≤ 200) && decide (16 ≤ r.sfdpLen) && decide (r.sfdpLen ≤ 512)
    && decide (r.hotBase % 4096 = 0) && decide (r.hotLen % 4096 = 0) && decide (4096 ≤ r.hotLen)
    && decide (r.hotLen ≤ 262144)
    && decide (r.sfdp.length = 512) && decide (r.sfdp.drop r.sfdpLen = zeros (512 - r.sfdpLen)) && r.facts.parses
    && r.facts.reads.all (fun m => dummyOk (modeDummy r m.1) r.maxMhz)
    && (decide (r.width ≠ 8) || (dummyOk r.facts.xspi8s r.maxMhz
      && (decide (r.flags = 0) || dummyOk r.facts.xspi8d r.maxMhz)))
    && (match polChannel p r.channel with
        | none => false
        | some c => c.devices.testBit r.srcDevice && decide (r.hotBase + r.hotLen ≤ deviceSize c r.srcDevice)))
  && distinct (p.presents.map (fun r => r.port * 2 + r.device))
  && distinct (p.presents.map (fun r => r.channel * 2 + r.srcDevice))
  && decide ((p.presents.map (fun r => match polChannel p r.channel with
      | some c => deviceSize c r.srcDevice
      | none => 0)).sum ≤ 12 * 2 ^ 30)

/-- A RECOVERY record takes an action, in ACTION or in FALLBACK. -/
def recoveryHas (r : RecoveryRec) (a : Nat) : Bool := decide (r.action = a) || decide (r.fallback = a)

/-- RECOVERY (R169). -/
def polRecoveryOk (o : Otp) (p : PolicyImage) : Bool :=
  p.recoveries.all (fun r =>
    decide (1 ≤ r.action) && decide (r.action ≤ 4) && decide (r.fallback ≤ 4) && decide (r.fallback ≠ r.action)
    && (match polImage p r.slot with
        | none => false
        | some i =>
          (if recoveryHas r 1 then
            decide (r.goldenOffset % 4096 = 0)
            && (match polChannel p i.channel with
                | none => false
                | some c => c.devices.testBit (1 - i.device)
                    && decide (r.goldenOffset + i.length ≤ deviceSize c (1 - i.device)))
            && (polPresents p i.channel (1 - i.device)).isNone
            && p.images.all (fun q => decide (q.channel ≠ i.channel) || decide (q.device ≠ 1 - i.device)
                || !overlaps q.offset q.length r.goldenOffset i.length)
           else decide (r.goldenOffset = 0))
          && (if recoveryHas r 2 then
                decide (1 ≤ r.vaultObject) && decide (r.vaultObject ≤ 65535) && decide (variantCode o.feat ≠ 3)
              else decide (r.vaultObject = 0))
          && (!recoveryHas r 4 || (match polDomain p i.domain with
              | some d => !d.attr.testBit 0
              | none => false))))
  && distinct (p.recoveries.map (fun r => r.slot))

/-- FABRIC (R3, R170). -/
def polFabricOk (o : Otp) (p : PolicyImage) : Bool :=
  p.fabric.all (fun r =>
    decide (r.port < 32) && bayEnabled o.feat (r.port / 4)
    && (if r.role = 3 then decide (r.part = 0xff) && vaultEnabled o.feat
        else (decide (r.role = 1) || decide (r.role = 2)) && decide (r.part < 4) && upEnabled o.feat r.part
          && decide (countIf (fun q : FabricRec => decide (q.role = 1) && decide (q.part = r.part)) p.fabric = 1))
    && (if r.width = 16 then decide (r.port % 4 = 0)
        else if r.width = 8 then decide (r.port % 2 = 0) else decide (r.width = 4))
    && decide (1 ≤ r.maxRate) && decide (r.maxRate ≤ 7) && decide (r.flags < 4)
    && (decide (r.role = 1) || !r.flags.testBit 0)
    && p.fabric.all (fun q => decide (q.port / 4 ≠ r.port / 4) || decide (q.width = r.width))
    && (decide (r.role = 1)
      || decide (countIf (fun e : EndpointRec => decide (e.port = r.port)) p.endpoints = 1)))
  && distinct (p.fabric.map (fun r => r.port))
  && decide (countIf (fun r : FabricRec => decide (r.role = 3)) p.fabric ≤ 1)

/-- ENDPOINTS (R171). -/
def polEndpointsOk (p : PolicyImage) : Bool :=
  p.endpoints.all (fun e =>
    decide (e.perst < 32) && (polOutDomain p (48 + e.perst)).isSome
    && (match polPort p e.port with
        | some r => decide (r.role ≠ 1)
        | none => false)
    && decide (e.flags < 4) && (decide (e.spdmMin = 0x12) || decide (e.spdmMin = 0x13))
    && decide (10 ≤ e.timeoutMs) && decide (e.timeoutMs ≤ 10000)
    && decide (e.measSel ≠ 0) && !e.measSel.getLsbD 0 && !e.measSel.getLsbD 255
    && decide (e.measDigest.length = 48) && decide (e.rootDigest.length = 48))
  && distinct (p.endpoints.map (fun e => e.port))
  && distinct (p.endpoints.map (fun e => e.perst))

/-- Port q is a DOWNSTREAM port of a partition. -/
def isDownstreamOf (p : PolicyImage) (part q : Nat) : Bool :=
  match polPort p q with
  | some r => decide (r.role = 2) && decide (r.part = part)
  | none => false

/-- RESIST (R172). -/
def polResistOk (p : PolicyImage) : Bool :=
  p.resist.all (fun r =>
    (polUpstream p r.part).isSome && (decide (r.action = 1) || decide (r.action = 2)) && decide (r.maxRanges ≤ 4096)
    && decide (r.armDeadlineMs < 2 ^ 32) && decide (r.violThreshold < 2 ^ 32) && decide (r.windowCount ≤ 8)
    && decide (r.windows.length = 8) && decide (r.p2pAllow.length = 32)
    && (List.range 8).all (fun i =>
      let w := r.windows.getD i (0, 0)
      if i < r.windowCount then decide (w.1 % 4096 = 0) && decide ((w.2 + 1) % 4096 = 0) && decide (w.1 ≤ w.2)
        && decide (w.2 < 2 ^ 64)
      else decide (w = (0, 0)))
    && (List.range 32).all (fun a => (List.range 32).all (fun b =>
      !(r.p2pAllow.getD a 0).getLsbD b
        || (isDownstreamOf p r.part a && isDownstreamOf p r.part b && decide (a ≠ b)))))
  && distinct (p.resist.map (fun r => r.part))
  && decide ((p.resist.map (fun r => r.maxRanges)).sum ≤ 16384)

/-- RINGS (R2, R3, R173). -/
def polRingsOk (o : Otp) (p : PolicyImage) : Bool :=
  p.rings.all (fun r =>
    (polUpstream p r.part).isSome && decide (r.stride < 2) && decide (1 ≤ r.adminRings) && decide (r.adminRings ≤ 4)
    && decide (4 ≤ r.maxDepthLog2) && decide (r.maxDepthLog2 ≤ 12) && decide (r.maxRings ≤ 262144 - r.adminRings))
  && distinct (p.rings.map (fun r => r.part))
  && decide ((p.rings.map (fun r => r.maxRings + r.adminRings)).sum ≤ ringTotal o.feat)
  && decide ((p.rings.map (fun r => r.maxLedgers)).sum ≤ ledgerTotal o.feat)
  && decide ((p.rings.map (fun r => r.maxCounters)).sum ≤ 258048)

/-- EVIDENCE_RATES, CBUS, TRIP and SIGNERS (R175 to R178). -/
def polRestOk (p : PolicyImage) : Bool :=
  p.rates.all (fun r => decide (0x100 ≤ r.code) && decide (r.code ≤ 0x3ff) && decide (1 ≤ r.rate)
      && decide (r.rate ≤ 65535) && decide (1 ≤ r.burst) && decide (r.burst ≤ 65535))
  && distinct (p.rates.map (fun r => r.code))
  && p.cbus.all (fun r => decide (0x08 ≤ r.addr) && decide (r.addr ≤ 0x3d) && decide (r.flags < 2)
      && ((polDomain p r.domain).isSome || decide (r.domain = 0xff)) && decide (r.dcr < 256) && decide (r.pid < 2 ^ 48)
      && (decide (r.flags = 0) || decide (r.domain ≠ 0xff)))
  && distinct (p.cbus.map (fun r => r.addr)) && distinct (p.cbus.map (fun r => r.pid))
  && decide (p.cbus.length ≤ 32)
  && p.trips.all (fun r => decide (1 ≤ r.source) && decide (r.source ≤ 4) && (decide (r.action = 1) || decide (r.action = 2))
      && (decide (r.scope = 0xff) || (if r.source = 1 then decide (r.scope < 4)
          else if r.source = 2 then decide (1 ≤ r.scope) && decide (r.scope ≤ 16) else decide (r.scope < 32)))
      && (decide (r.scope ≠ 0xff) || decide (countIf (fun q : TripRec => decide (q.source = r.source)) p.trips = 1)))
  && distinct (p.trips.map (fun r => r.source * 256 + r.scope))
  && p.signers.all (fun s => decide (s.kind = 1) && decide (1 ≤ s.roles) && decide (s.roles < 32)
      && decide (s.keyEc.length = 96) && decide (s.keyMl.length = 2592))
  && decide (p.signers.length ≤ 16)
  && decide (p.signers.length = (p.signers.map (fun s => s.keyEc ++ s.keyMl)).dedup.length)

/-- Every field and cross-section rule of the chapter (R180). -/
def polRulesOk (o : Otp) (p : PolicyImage) : Bool :=
  polNeedsOk p o.feat && polDomainsOk o p && polChannelsOk p && polImagesOk p && polLocksOk p && polPresentsOk p
  && polRecoveryOk o p && polFabricOk o p && polEndpointsOk p && polResistOk p && polRingsOk o p && polRestOk p

/-- The checks of R180 before the binding: header, format list, framing, signing key, signature, rules, SVN floor. -/
def polChecksOk (o : Otp) (formats : List Nat) (floor : Nat) (p : PolicyImage) : Bool :=
  polHeaderOk o p && formats.contains p.hdr.format && polFramingOk p && signerHas p p.hdr.signerIndex 0 && sigOk p.sig
  && polRulesOk o p && decide (floor ≤ p.hdr.svn)

/-- FLAGS.BIND_REQUEST and FLAGS.SVN_ADVANCE (R158). -/
def polBindRequest (p : PolicyImage) : Bool := p.hdr.flags.testBit 0
def polSvnAdvance (p : PolicyImage) : Bool := p.hdr.flags.testBit 1

/-- The digest of the key SIGNER_INDEX names. -/
def polKeyDigest (p : PolicyImage) : Bytes :=
  match p.signers[p.hdr.signerIndex]? with
  | some s => signerDigest s
  | none => []

/-- R180: the owner key, OWNER_ID and OWNER_OPT of the image equal OTP. -/
def polOwnerOk (o : Otp) (p : PolicyImage) : Bool :=
  ownerKeyMatches o (polKeyDigest p) && decide (p.hdr.ownerId = ownerId o)
    && decide (p.hdr.ownerOpt = (ownerOpt o).toNat)

/-- What acceptance of one slot gives (R180). -/
inductive PolVerdict where
  | refused
  | accepted
  | bind
deriving DecidableEq, Repr

/-- R180 for one image: refused, accepted as it stands, or accepted once the binding of R134 is made. -/
def polVerdict (o : Otp) (formats : List Nat) (floor : Nat) (p : PolicyImage) : PolVerdict :=
  if !polChecksOk o formats floor p then .refused
  else if polBindRequest p then
    if bindPermitted o p.hdr.ownerId p.hdr.ownerOpt (polKeyDigest p) && decide (p.hdr.ownerOpt < 8) then .bind else .refused
  else if ownerClass o = .part then .refused
  else if polOwnerOk o p then .accepted else .refused

/-- R188: acceptance of a pushed image, for which the binding is only checked to be permitted. -/
def polPushOk (o : Otp) (formats : List Nat) (floor : Nat) (p : PolicyImage) : Bool :=
  decide (polVerdict o formats floor p ≠ .refused)

/-- The parts of the trailer of a bundle and their lengths, in order: KEY_LMS, KEY_EC, SIG_EC (r ‖ s) and SIG_LMS (R283). -/
def trailerParts : List Nat := [60, 96, 96, 1776]
def trailerLen : Nat := trailerParts.sum

/-- KEY_LMS names one level, LMS_SHA256_M32_H20 and LMOTS_SHA256_N32_W8 as RFC 8554 numbers them (R283). -/
def lmsTypeOk (k : Bytes) : Bool := decide (k.length = 60) && decide (k.take 12 = [0, 0, 0, 1, 0, 0, 0, 8, 0, 0, 0, 4])

/-- Two block ranges below a limit do not overlap; an empty one overlaps nothing. -/
def blocksOk (first blks lo total : Nat) : Bool := decide (lo ≤ first) && decide (first + blks ≤ total)

/-- R282 and R284: a bundle is accepted. ID_REV.DIE_REV of die revision B1 is 0x21. -/
def bundleOk (o : Otp) (b : Bundle) : Bool :=
  decide (b.magic = 0x57465946) && decide (b.version = 1) && b.rsvdZero
  && decide (b.manifestBlks = ceilDiv (4096 + 48 * b.totalBlks + trailerLen) 4096)
  && decide (b.manifestBlks + 1 ≤ b.totalBlks) && decide (b.totalBlks ≤ 4096)
  && decide (b.flags < 2) && decide (b.svn ≤ 28)
  && decide (1 ≤ b.dieRevCount) && decide (b.dieRevCount ≤ 8) && decide (b.dieRevs.length = b.dieRevCount)
  && decide (1 ≤ b.formatCount) && decide (b.formatCount ≤ 8) && decide (b.formats.length = b.formatCount)
  && decide (1 ≤ b.fwBlks) && blocksOk b.fwFirstBlk b.fwBlks b.manifestBlks b.totalBlks
  && decide (b.fwEntry % 4 = 0) && decide (4096 * b.fwFirstBlk ≤ b.fwEntry)
  && decide (b.fwEntry < 4096 * (b.fwFirstBlk + b.fwBlks))
  && (if b.ucodeBlks = 0 then decide (b.ucodeFirstBlk = 0) && !o.feat.getLsbD 8
      else blocksOk b.ucodeFirstBlk b.ucodeBlks b.manifestBlks b.totalBlks
        && !overlaps b.ucodeFirstBlk b.ucodeBlks b.fwFirstBlk b.fwBlks)
  && decide (b.blockDigests.length = b.totalBlks)
  && (b.blockDigests.take b.manifestBlks).all (fun d => decide (d = zeros 48))
  && b.dieRevs.all (fun r => decide (r < 256)) && b.formats.all (fun f => decide (f < 65536)) && decide (b.buildId.length = 16)
  && asciiPadded 16 b.versionStr && b.blockDigests.all (fun d => decide (d.length = 48))
  && lmsTypeOk b.keyLms && decide (b.keyEc.length = 96)
  && decide (sha384 b.keyLms = otpBytes o 144 12) && decide (sha384 b.keyEc = otpBytes o 156 12)
  && sigOk b.sig && b.dieRevs.contains 0x21 && decide (ratchetValue o ≤ b.svn)

/-- FLAGS.RATCHET_REQ of a bundle (R143, R285). -/
def bundleRatchetReq (b : Bundle) : Bool := b.flags.testBit 0

/-- Every manifest field has a listed value under R261, for a slot. -/
def manifestFieldsOk (r : ImageRec) (m : Manifest) : Bool :=
  decide (m.magic = 0x4d495946) && decide (m.version = 1) && decide (m.hash = r.hash) && decide (m.flags < 2)
  && decide (m.svn < 2 ^ 32) && decide (m.payloadLen = r.length - 8192) && decide (4096 ≤ m.payloadLen)
  && decide (m.payloadDigest.length = 64)
  && decide (m.payloadDigest.drop (digestLen r.hash) = zeros (64 - digestLen r.hash)) && m.rsvdZero

end Sys2Proof
end

