-- ==== Sys2Proof/Machine/Formats.lean ====
section
/-!
DEFINITION. The byte layouts of the memory structures: the Policy Image (R157 to R178), the firmware bundle (R282, R283), the
Boot Directory (R185), the image manifest (R261) and the update capsule (R275). Integers are little-endian (R7).
-/

namespace Sys2Proof

/-! ### Reading a field -/

/-- n bytes given as cells that differ from 0xFF, from an offset. -/
def cellBytes (cells : List (Nat × Byte)) (a n : Nat) : Bytes := (List.range n).map (fun i => cellsGet 0xff (a + i) cells)

/-- The number in n bytes at an offset, in cells and in a byte string. -/
def cellNum (cells : List (Nat × Byte)) (a n : Nat) : Nat := unle (cellBytes cells a n)
def numAt (b : Bytes) (a n : Nat) : Nat := unle ((b.drop a).take n)

/-- n bytes at an offset are all 0. -/
def cellsZero (cells : List (Nat × Byte)) (a n : Nat) : Bool := (List.range n).all (fun i => decide (cellsGet 0xff (a + i) cells = 0))
def zeroAt (b : Bytes) (a n : Nat) : Bool := decide (a + n ≤ b.length) && ((b.drop a).take n).all (fun x => decide (x = 0))

/-! ### The image manifest and the capsule -/

/-- The manifest that the first 8,192 bytes of a source spell (R261), with what its signature halves verify to. -/
def manifestOf (cells : List (Nat × Byte)) (sig : Sig2) : Manifest where
  magic := cellNum cells 0 4
  version := cellNum cells 4 2
  hash := cellNum cells 6 1
  flags := cellNum cells 7 1
  svn := cellNum cells 8 4
  payloadLen := cellNum cells 12 4
  imageId := cellBytes cells 16 16
  payloadDigest := cellBytes cells 32 64
  rsvdZero := cellsZero cells 96 160 && cellsZero cells 4979 3213
  sig := sig

/-- The fields of a capsule's header (R275). -/
def capMagic (c : Capsule) : Nat := numAt c.head 0 4
def capVersion (c : Capsule) : Nat := numAt c.head 4 2
def capKind (c : Capsule) : Nat := numAt c.head 6 1
def capSlot (c : Capsule) : Nat := numAt c.head 8 2
def capSigner (c : Capsule) : Nat := numAt c.head 10 2
def capLen (c : Capsule) : Nat := numAt c.head 12 4
def capDevice (c : Capsule) : Bytes := (c.head.drop 16).take 16
def capOwner (c : Capsule) : Bytes := (c.head.drop 32).take 16
def capDigest (c : Capsule) : Bytes := (c.head.drop 48).take 48

/-- Every reserved byte before the payload is 0 (R275). -/
def capRsvdZero (c : Capsule) : Bool := zeroAt c.head 7 1 && zeroAt c.head 96 160 && zeroAt c.head 4979 3213

/-- The manifest the payload of a capsule begins with. -/
def capManifest (c : Capsule) : Manifest := manifestOf c.content c.psig

/-! ### The Boot Directory -/

/-- Bytes 0 to 4,031 of a copy whose reserved bytes are 0 (R185). -/
def dirHead (d : DirCopy) : Bytes :=
  le 4 d.magic ++ le 2 d.version ++ le 2 0 ++ le 8 d.generation ++ le 1 d.fwInactive ++ le 1 d.fwPromote ++ le 1 d.polInactive
    ++ le 1 d.polPromote ++ zeros 4012

/-- What a copy says, if it is readable: every field holds a listed value and DIGEST matches (R185). -/
def dirRead (d : DirCopy) : Option BootDir :=
  if decide (d.magic = 0x52444246) && decide (d.version = 1) && d.rsvdZero && decide (d.generation < 2 ^ 64) && decide (d.fwInactive < 2)
      && decide (d.fwPromote < 2) && decide (d.polInactive < 2) && decide (d.polPromote < 2) && decide (d.digest = sha384 (dirHead d)) then
    some ⟨d.generation, decide (d.fwInactive = 1), decide (d.fwPromote = 1), decide (d.polInactive = 1), decide (d.polPromote = 1)⟩
  else none

/-- The copy that says d. -/
def dirWrite (d : BootDir) : DirCopy :=
  let c : DirCopy := ⟨0x52444246, 1, d.generation, b2n d.fwInactive, b2n d.fwPromote, b2n d.polInactive, b2n d.polPromote, true, []⟩
  { c with digest := sha384 (dirHead c) }

/-- The areas of the configuration flash (R184): offset and size of the two directory copies, of firmware slots A and B and of policy
slots A and B. -/
inductive CfgArea where
  | dir0
  | dir1
  | fwA
  | fwB
  | polA
  | polB
deriving DecidableEq, Repr

def cfgSpan (a : CfgArea) : Nat × Nat :=
  match a with
  | .dir0 => (0x00000000, 0x1000)
  | .dir1 => (0x00001000, 0x1000)
  | .fwA => (0x00100000, 0x1000000)
  | .fwB => (0x01100000, 0x1000000)
  | .polA => (0x02100000, 0x400000)
  | .polB => (0x02500000, 0x400000)

def cfgAreas : List CfgArea := [.dir0, .dir1, .fwA, .fwB, .polA, .polB]

/-- log2 of the least size of the configuration flash, 64 MiB (R184). -/
def cfgSizeLog2 : Nat := 26

/-! ### The Policy Image -/

/-- The header (R158). -/
def polHeadBytes (h : PolHeader) : Bytes :=
  le 4 h.magic ++ le 2 h.format ++ le 2 h.hdrLen ++ le 4 h.totalLen ++ le 4 h.bodyLen ++ le 4 h.svn ++ le 4 h.flags ++ le 1 h.variant
    ++ le 1 0 ++ le 2 h.sectionCount ++ le 4 0 ++ fit 16 h.deviceId ++ fit 16 h.ownerId ++ le 4 h.ownerOpt ++ le 2 h.signerIndex ++ le 2 0
    ++ fit 16 h.buildId ++ le 8 h.created ++ zeros 160

/-- The records (R162 to R178). -/
def domainBytes (r : DomainRec) : Bytes := le 1 r.domain ++ le 1 r.attr ++ le 2 0 ++ le 4 r.prereq.toNat ++ fit 8 r.name
def resetBytes (r : ResetRec) : Bytes := le 1 r.output ++ le 1 r.domain ++ le 2 0
def channelBytes (r : ChannelRec) : Bytes :=
  le 1 r.channel ++ le 1 r.devices ++ le 1 r.width ++ le 1 r.flags ++ le 2 r.clkMhz ++ le 1 r.readOp ++ le 1 r.dummy ++ le 1 r.addrBytes
    ++ le 1 r.size0 ++ le 1 r.size1 ++ le 1 r.eraseOp ++ le 1 r.programOp ++ le 1 r.eraseLog2 ++ le 1 r.pageLog2 ++ le 1 0
    ++ le 4 r.scrubPeriod ++ zeros 12
def imageBytes (r : ImageRec) : Bytes :=
  le 2 r.slot ++ le 1 r.domain ++ le 1 r.channel ++ le 1 r.device ++ le 1 r.mode ++ le 1 r.hash ++ le 1 0 ++ le 4 r.offset
    ++ le 4 r.length ++ le 2 r.deadlineMs ++ le 2 r.signer ++ le 2 r.svnIndex ++ zeros 10 ++ fit 64 r.refDigest
def lockBytes (r : LockRec) : Bytes := le 1 r.channel ++ le 1 r.device ++ le 1 r.cls ++ le 1 0 ++ le 4 r.base ++ le 4 r.length ++ zeros 4
def presentBytes (r : PresentRec) : Bytes :=
  le 1 r.port ++ le 1 r.device ++ le 1 r.channel ++ le 1 r.srcDevice ++ le 1 r.idLen ++ le 1 r.width ++ le 1 r.flags ++ le 1 0
    ++ fit 8 r.id ++ le 2 r.maxMhz ++ le 2 r.sfdpLen ++ le 4 r.hotBase ++ le 4 r.hotLen ++ zeros 4 ++ fit 512 r.sfdp
def recoveryBytes (r : RecoveryRec) : Bytes :=
  le 2 r.slot ++ le 1 r.action ++ le 1 r.fallback ++ le 4 r.goldenOffset ++ le 4 r.vaultObject ++ zeros 4
def fabricBytes (r : FabricRec) : Bytes := le 1 r.port ++ le 1 r.role ++ le 1 r.part ++ le 1 r.width ++ le 1 r.maxRate ++ le 1 r.flags ++ zeros 2
def endpointBytes (r : EndpointRec) : Bytes :=
  le 1 r.perst ++ le 1 r.port ++ le 1 r.flags ++ le 1 r.spdmMin ++ le 2 r.timeoutMs ++ zeros 2 ++ le 32 r.measSel.toNat
    ++ fit 48 r.measDigest ++ fit 48 r.rootDigest
def resistBytes (r : ResistRec) : Bytes :=
  le 1 r.part ++ le 1 r.action ++ le 2 r.maxRanges ++ le 4 r.armDeadlineMs ++ le 4 r.violThreshold ++ le 1 r.windowCount ++ zeros 3
    ++ (r.windows.map (fun w => le 8 w.1 ++ le 8 w.2)).flatten ++ (r.p2pAllow.map (fun w => le 4 w.toNat)).flatten
def ringsBytes (r : RingsRec) : Bytes :=
  le 1 r.part ++ le 1 r.stride ++ le 1 r.adminRings ++ le 1 r.maxDepthLog2 ++ le 4 r.maxRings ++ le 4 r.maxLedgers ++ le 4 r.maxCounters
    ++ zeros 8
def rateBytes (r : RateRec) : Bytes := le 2 r.code ++ le 2 r.rate ++ le 2 r.burst ++ zeros 2
def cbusBytes (r : CbusRec) : Bytes := le 1 r.addr ++ le 1 r.flags ++ le 1 r.domain ++ le 1 r.dcr ++ le 6 r.pid ++ zeros 6
def tripBytes (r : TripRec) : Bytes := le 1 r.source ++ le 1 r.scope ++ zeros 2 ++ le 1 r.action ++ zeros 3
def signerBytes (r : SignerRec) : Bytes := le 2 r.kind ++ le 2 r.roles ++ zeros 4 ++ fit 96 r.keyEc ++ fit 2592 r.keyMl

/-- The records of one section type. -/
def secRecords (p : PolicyImage) (t : Nat) : Bytes :=
  match t with
  | 1 => (p.domains.map domainBytes).flatten
  | 2 => (p.resets.map resetBytes).flatten
  | 3 => (p.channels.map channelBytes).flatten
  | 4 => (p.images.map imageBytes).flatten
  | 5 => (p.locks.map lockBytes).flatten
  | 6 => (p.presents.map presentBytes).flatten
  | 7 => (p.recoveries.map recoveryBytes).flatten
  | 8 => (p.fabric.map fabricBytes).flatten
  | 9 => (p.endpoints.map endpointBytes).flatten
  | 10 => (p.resist.map resistBytes).flatten
  | 11 => (p.rings.map ringsBytes).flatten
  | 12 => (p.rates.map rateBytes).flatten
  | 13 => (p.cbus.map cbusBytes).flatten
  | 14 => (p.trips.map tripBytes).flatten
  | 16 => (p.signers.map signerBytes).flatten
  | _ => []

/-- A section: its header, COUNT, its records, and zero bytes up to a multiple of 8 (R159, R160). -/
def secBytes (p : PolicyImage) (h : SecHeader) : Bytes :=
  le 2 h.type ++ le 4 h.len ++ zeros 2 ++ le 4 h.count ++ zeros 4 ++ secRecords p h.type ++ zeros (roundUp h.len 8 - h.len)

/-- The signed bytes, 0 to 256 + BODY_LEN − 1, and POLICY_DIGEST, their SHA-384 (R179). -/
def polSigned (p : PolicyImage) : Bytes := polHeadBytes p.hdr ++ (p.secs.map (secBytes p)).flatten
def polDigest (p : PolicyImage) : Bytes := sha384 (polSigned p)

/-! ### The firmware bundle -/

/-- Bytes 0 to 4,095 of the manifest (R282). -/
def bundleHead (b : Bundle) : Bytes :=
  le 4 b.magic ++ le 2 b.version ++ le 2 b.manifestBlks ++ le 2 b.totalBlks ++ le 2 b.flags ++ le 4 b.svn ++ le 1 b.dieRevCount
    ++ le 1 b.formatCount ++ zeros 2 ++ fit 8 ((b.dieRevs.map (le 1)).flatten) ++ zeros 4 ++ fit 16 ((b.formats.map (le 2)).flatten)
    ++ le 4 b.fwEntry ++ le 2 b.fwFirstBlk ++ le 2 b.fwBlks ++ le 2 b.ucodeFirstBlk ++ le 2 b.ucodeBlks ++ zeros 4 ++ fit 16 b.buildId
    ++ fit 16 b.versionStr ++ zeros 4000

/-- The signed bytes, 0 to 4,095 + 48 × TOTAL_BLKS, and FW_DIGEST, their SHA-384 (R283, R369). -/
def bundleSigned (b : Bundle) : Bytes := bundleHead b ++ (b.blockDigests.map (fit 48)).flatten

/-- The trailer of a bundle with its signatures, and part i of a trailer (R283). -/
def bundleTrailer (b : Bundle) (sigEc sigLms : Bytes) : Bytes := fit 60 b.keyLms ++ fit 96 b.keyEc ++ fit 96 sigEc ++ fit 1776 sigLms
def trailerPart (t : Bytes) (i : Nat) : Bytes := (t.drop (trailerParts.take i).sum).take (trailerParts.getD i 0)

/-- FW_DIGEST (R285). -/
def fwDigest (b : Bundle) : Bytes := sha384 (bundleSigned b)

end Sys2Proof
end

