-- ==== Sys2Proof/Machine/Journal.lean ====
section
/-!
DEFINITION. The evidence writer and the chain unit, on the journal component alone (R343 to R368).
`now` is TIMER_AOT, one count a microsecond; `rate` gives a code's RATE and BURST (R175).
-/

namespace Sys2Proof

/-- Fix Ring slots in use (R361). -/
def fixUsed (e : Evid) : Nat := e.fix.cells.length

/-- A code of 0x0000 to 0x00FF or 0x0F00 to 0x0FFF: written in the reserve, never rate-limited (R175, R361). -/
def reserveCode (code : Nat) : Bool := decide (code < 0x100) || (decide (0xf00 ≤ code) && decide (code ≤ 0xfff))

/-- A code with a token bucket (R356). -/
def limitedCode (code : Nat) : Bool := decide (0x100 ≤ code) && decide (code ≤ 0x3ff)

/-- R361: the Fix Ring lets a record of this code in. -/
def evAdmits (e : Evid) (code : Nat) : Bool :=
  decide (fixUsed e < 384) && (decide (fixUsed e < 368) || reserveCode code)

/-- A new record is let in: the Fix Ring takes it, and no record that waits could be written before it (R361, R362). -/
def evFree (e : Evid) (code : Nat) : Bool := evAdmits e code && !e.waiting.any (fun w => evAdmits e w.code)

/-- Microseconds of TIMER_AOT, 48 bits that wrap, from one reading to a later one (R439, log entry 136). -/
def sinceAot (now start : Nat) : Nat := (now + 2 ^ 48 - start) % 2 ^ 48

/-- Microseconds since the epoch's first record (R346). -/
def evUs (now : Nat) (e : Evid) : Nat := sinceAot now e.epochStart

/-- The slot to allocate: the lowest FREE slot above the one allocated last, wrapping at 383 (R359). -/
def fixNext (e : Evid) : Option Nat :=
  ((List.range 384).map (fun i => (e.lastSlot + 1 + i) % 384)).find? (fun k => decide (tabGet .free e.fix k = .free))

/-- Bytes of a record with its padding (R352). -/
def recSize (body : Bytes) : Nat := roundUp (16 + body.length) 8

/-- A record as it stands in a block (R343, R352). -/
def recBytes (r : Rec) : Bytes :=
  fit (recSize r.body)
    (le 2 r.code ++ le 2 r.body.length ++ boolByte r.reserve ++ le 1 r.src ++ le 2 0 ++ le 8 r.seq ++ r.body)

/-- The bytes 0 to 65,407 of a Chain Block: its header and content (R351). -/
def blockHead (dev : Bytes) (b : Block) : Bytes :=
  let idx := match b.index with
    | some i => i
    | none => 0
  let first := match b.recs with
    | r :: _ => r.seq
    | [] => 0
  let cont := if b.ring then b.entries.flatten else (b.recs.map recBytes).flatten
  le 4 0x4b425946 ++ le 2 1 ++ le 1 (if b.ring then 2 else 1) ++ le 1 b.close ++ le 4 b.epoch
    ++ le 4 (if b.ring then b.entries.length else b.recs.length) ++ le 8 idx ++ le 8 first ++ le 4 b.used ++ le 4 0
    ++ le 8 b.openUs ++ fit 16 dev ++ fit 65344 cont

/-- The whole 65,536 bytes of a Chain Block (R351). -/
def blockBytes (dev : Bytes) (b : Block) : Bytes := blockHead dev b ++ fit 48 b.chain ++ zeros 80

/-- The block in a slot. -/
def blockAt (e : Evid) (k : Nat) : Option Block :=
  match tabGet .free e.fix k with
  | .chainBlock b => some b
  | _ => none

/-- The Fix Ring with a block put into a slot. -/
def putBlock (e : Evid) (k : Nat) (b : Block) : Evid := { e with fix := tabSet .free e.fix k (.chainBlock b) }

/-- An empty block of this epoch (R351). -/
def newBlock (now : Nat) (e : Evid) (ring : Bool) : Block :=
  ⟨ring, 0, e.epoch, none, evUs now e, now, [], [], 0, []⟩

/-- Close the open EVIDENCE or RING block, if there is one, with a CLOSE cause (R353); it goes to the chain unit. -/
def evClose (ring : Bool) (cause : Nat) (e : Evid) : Evid :=
  match (if ring then e.openRing else e.openEv) with
  | none => e
  | some k =>
    match blockAt e k with
    | none => e
    | some b =>
      let e1 := putBlock e k { b with close := cause }
      let e2 := { e1 with chainQ := e1.chainQ ++ [k] }
      if ring then { e2 with openRing := none, ringCloses := e2.ringCloses + 1 } else { e2 with openEv := none }

/-- Close both open blocks (R353). -/
def evCloseBoth (cause : Nat) (e : Evid) : Evid := evClose true cause (evClose false cause e)

/-- The journal with an open block of a kind that has room for n more bytes: the one open, or, after closing that FULL,
a new one in a fresh slot (R352, R353, R359). None when no slot is free. -/
def evOpenFor (now : Nat) (ring : Bool) (n : Nat) (e : Evid) : Option (Evid × Nat × Block) :=
  let fresh := fun (e : Evid) => match fixNext e with
    | none => none
    | some k =>
      let b := newBlock now e ring
      let e1 := putBlock { e with lastSlot := k } k b
      some (if ring then { e1 with openRing := some k } else { e1 with openEv := some k }, k, b)
  match (if ring then e.openRing else e.openEv) with
  | none => fresh e
  | some k =>
    match blockAt e k with
    | none => fresh e
    | some b => if b.used + n ≤ 65344 then some (e, k, b) else fresh (evClose ring 1 e)

/-- A record becomes durable: it takes the next SEQ and its place in the open EVIDENCE block (R345, R352); that of an epoch's first record is
its BEGIN_SEQ (R372). The result says whether there was a slot for it. -/
def evWrite (now : Nat) (code src : Nat) (body : Bytes) (e : Evid) : Evid × Bool :=
  let reserve := decide (368 ≤ fixUsed e)
  match evOpenFor now false (recSize body) e with
  | none => (e, false)
  | some (e1, k, b) =>
    let r : Rec := ⟨code, src, reserve, e1.seq, body⟩
    let e2 := putBlock e1 k { b with recs := b.recs ++ [r], used := b.used + recSize body }
    ({ e2 with seq := e2.seq + 1, beginSeq := if code = 0x0f02 ∨ code = 0x0f04 then e1.seq else e2.beginSeq }, true)

/-- A RING entry becomes durable in the open RING block (R350, R359). -/
def evWriteEntry (now : Nat) (entry : Bytes) (e : Evid) : Evid × Bool :=
  match evOpenFor now true entry.length e with
  | none => (e, false)
  | some (e1, k, b) =>
    (putBlock e1 k { b with entries := b.entries ++ [entry], used := b.used + entry.length }, true)

/-- One more record of a code that is not written (R356, R357, R362). -/
def evSuppress (now : Nat) (code : Nat) (e : Evid) : Evid :=
  let us := evUs now e
  let v : Suppressed := match tabGet none e.suppressed code with
    | none => ⟨1, us, us⟩
    | some q => ⟨q.count + 1, q.firstUs, us⟩
  { e with suppressed := tabSet none e.suppressed code (some v) }

/-- The bucket of a code, in millionths of a token, at a time (R356). -/
def bucketNow (now : Nat) (rb : Nat × Nat) (b : Option Bucket) : Nat :=
  match b with
  | none => rb.2 * 1000000
  | some q => min (rb.2 * 1000000) (q.level + rb.1 * sinceAot now q.time)

/-- Take a token of a code if there is one (R356). -/
def takeToken (now : Nat) (rate : Nat → Nat × Nat) (code : Nat) (e : Evid) : Evid × Bool :=
  let lvl := bucketNow now (rate code) (tabGet none e.buckets code)
  if 1000000 ≤ lvl then
    ({ e with buckets := tabSet none e.buckets code (some ⟨lvl - 1000000, now⟩) }, true)
  else ({ e with buckets := tabSet none e.buckets code (some ⟨lvl, now⟩) }, false)

/-- The body of a 0x0F01 SUPPRESSED record (R349). -/
def suppressedBody (code : Nat) (q : Suppressed) : Bytes :=
  le 2 code ++ le 2 0 ++ le 4 q.count ++ le 8 q.firstUs ++ le 8 q.lastUs

/-- The 0x0F01 record of one code is submitted and its count cleared, if the count is nonzero (R357). -/
def evReportSuppressed (code : Nat) (e : Evid) : Evid :=
  match tabGet none e.suppressed code with
  | none => e
  | some q =>
    { e with suppressed := tabSet none e.suppressed code none, inflight := e.inflight ++ [⟨0x0f01, 8, suppressedBody code q, .none, 0⟩] }

/-- Every nonzero SUPPRESSED count is written, by rising code (R357). -/
def evFlushSuppressed (e : Evid) : Evid := (e.suppressed.cells.map (fun c => c.1)).foldl (fun e c => evReportSuppressed c e) e

/-- A unit submits a record of an event that has already happened (R356, R357, R362): it is counted, waits, or is on its
way to durable. A record that the Fix Ring does not let in has taken its token all the same: the model's choice (log entry 152). -/
def evSubmit (now : Nat) (rate : Nat → Nat × Nat) (code src : Nat) (body : Bytes) (e : Evid) : Evid :=
  if limitedCode code then
    let (e1, got) := takeToken now rate code e
    if !got || !evAdmits e1 code then evSuppress now code e1
    else evTake code src body (evReportSuppressed code e1)
  else evTake code src body e
where
  /-- The record is on its way to durable, or waits behind those that wait (R362). -/
  evTake (code src : Nat) (body : Bytes) (e : Evid) : Evid :=
    if evFree e code then { e with inflight := e.inflight ++ [⟨code, src, body, .none, 0⟩] }
    else { e with waiting := e.waiting ++ [⟨code, src, body, .none, e.inflight.length⟩] }

/-- A record that no longer gets in waits before those that were submitted after it (R362). -/
def evRefused (w : Waiting) (e : Evid) : Evid :=
  let before := e.waiting.takeWhile (fun x => decide (x.ahead = 0))
  { e with waiting := before ++ [w] ++ (e.waiting.drop before.length).map (fun x => { x with ahead := x.ahead - 1 }) }

/-- The oldest submitted record becomes durable; one that no longer gets in is counted or waits (R345, R362). -/
def evDurable (now : Nat) (e : Evid) : Evid :=
  match e.inflight with
  | [] => e
  | w :: r =>
    let e0 := { e with inflight := r, waiting := e.waiting.map (fun x => { x with ahead := x.ahead - 1 }) }
    if evAdmits { e with inflight := r } w.code then
      let (e1, ok) := evWrite now w.code w.src w.body e0
      if ok then e1 else evRefused w { e with inflight := r }
    else if limitedCode w.code then evSuppress now w.code e0
    else evRefused w { e with inflight := r }

/-- n submitted records become durable, in order. -/
def evDrainN (now : Nat) : Nat → Evid → Evid
  | 0, e => e
  | n + 1, e => evDrainN now n (evDurable now e)

/-- Every submitted record becomes durable. -/
def evDrain (now : Nat) (e : Evid) : Evid := evDrainN now e.inflight.length e

/-- What comes before a record on which an effect waits: it consumes a token if one is present, and its code's count is then written first
(R357, R358). -/
def evGate (now : Nat) (rate : Nat → Nat × Nat) (code : Nat) (e : Evid) : Evid :=
  if limitedCode code then
    let (e1, got) := takeToken now rate code e
    if got then evReportSuppressed code e1 else e1
  else e

/-- A record on which an effect waits, submitted in a bank failover or with the array OUT: it waits behind what was submitted before it
(R358, R465, R467). -/
def evHold (now : Nat) (rate : Nat → Nat × Nat) (code src : Nat) (body : Bytes) (gate : Gate) (e : Evid) : Evid :=
  let e0 := evGate now rate code e
  { e0 with waiting := e0.waiting ++ [⟨code, src, body, gate, e0.inflight.length⟩] }

/-- R358: a record on which an effect waits. The result says whether it is durable now; otherwise it waits with its effect (R362). -/
def evGated (now : Nat) (rate : Nat → Nat × Nat) (code src : Nat) (body : Bytes) (gate : Gate) (e : Evid) :
    Evid × Bool :=
  let e1 := evDrain now (evGate now rate code e)
  if evFree e1 code then
    let (e2, ok) := evWrite now code src body e1
    if ok then (e2, true) else ({ e1 with waiting := e1.waiting ++ [⟨code, src, body, gate, 0⟩] }, false)
  else ({ e1 with waiting := e1.waiting ++ [⟨code, src, body, gate, 0⟩] }, false)

/-- The chain head stands once the blocks of a Boot Record's close are chained (R372; R374, step 3). -/
def brHeadStep (e : Evid) : Evid :=
  if e.brPhase = .closing ∧ e.brHead = none ∧ e.brLeft = 0 then { e with brHead := some (e.lastIndex, e.headSeq, e.headChain) } else e

/-- One more block is chained. -/
def brChained (e : Evid) : Evid := brHeadStep { e with brLeft := e.brLeft - 1 }

/-- The chain unit takes the oldest closed block (R354). -/
def chainStep (dev : Bytes) (e : Evid) : Evid :=
  match e.chainQ with
  | [] => e
  | k :: r =>
    match blockAt e k with
    | none => brChained { e with chainQ := r }
    | some b =>
      let i := (e.lastIndex + 1) % 2 ^ 64
      let b1 := { b with index := some i }
      let prev := if i = 0 then
          sha384 ([0x46, 0x56, 0x58, 0x39, 0x2d, 0x47, 0x45, 0x4e, 0x45, 0x53, 0x49, 0x53] ++ fit 16 dev)
        else e.headChain
      let c := sha384 (prev ++ blockHead dev b1)
      let e1 := putBlock { e with chainQ := r, lastIndex := i, headChain := c } k { b1 with chain := c }
      brChained (match b.recs.getLast? with
      | some q => if b.ring then e1 else { e1 with headSeq := q.seq }
      | none => e1)

/-- Every closed block is chained (R354, R355). -/
def chainAll (dev : Bytes) (e : Evid) : Evid := (List.range e.chainQ.length).foldl (fun e _ => chainStep dev e) e

/-- The slot that holds a chained block by CB_INDEX. -/
def slotOfIndex (e : Evid) (i : Nat) : Option (Nat × Block) :=
  e.fix.cells.findSome? (fun c => match c.2 with
    | .chainBlock b => if b.index = some i ∧ b.chain ≠ [] then some (c.1, b) else none
    | _ => none)

/-- Free a slot (R360). -/
def freeSlot (k : Nat) (e : Evid) : Evid := { e with fix := tabSet .free e.fix k .free }

/-- A new epoch (R364, R367, R368): suppressed counts are written, open blocks close with cause EPOCH, EPOCH rises by one
and 0x0F02 follows; an epoch that would pass 2^32 − 1 does not begin, and 0x0F04 seals the journal instead.
With no space for these records the epoch begins all the same, and they wait: the model's choice (log entry 154). -/
def evBeginEpoch (now cause lcCount : Nat) (dev : Bytes) (e : Evid) : Evid :=
  let e0 := chainAll dev e
  let e1 := evDrain now (evFlushSuppressed e0)
  let e2 := evCloseBoth 6 e1
  if e2.epoch + 1 < 2 ^ 32 then
    let e3 := { e2 with epoch := e2.epoch + 1, epochStart := now, begun := true }
    let (e4, ok) := evWrite now 0x0f02 8 (le 4 e3.epoch ++ le 1 cause ++ le 1 lcCount ++ le 2 0) e3
    if ok then e4 else { e3 with waiting := e3.waiting ++ [⟨0x0f02, 8, le 4 e3.epoch ++ le 1 cause ++ le 1 lcCount ++ le 2 0, .none, 0⟩] }
  else
    let e3 := { e2 with isSealed := true, epochStart := now, begun := true }
    let (e4, ok) := evWrite now 0x0f04 8 (le 4 e3.epoch ++ le 4 0) e3
    if ok then e4 else { e3 with waiting := e3.waiting ++ [⟨0x0f04, 8, le 4 e3.epoch ++ le 4 0, .none, 0⟩] }

/-- Bytes of a WRITE slot in use. -/
def writeUsed (l : List (Nat × Nat)) : Nat := (l.map (fun x => x.2)).sum

/-- Bytes that an entry with n data bytes takes in WRITE slots: its address, device, class and identity come before the data (R359). Their
size is a DESIGN CHOICE (log entry 14). -/
def writeSize (n : Nat) : Nat := 32 + n

/-- n bytes of entry `id` go to the open WRITE block, and on into fresh slots (R359). -/
def evPutWrite (id : Nat) : Nat → Nat → Evid → Evid × Bool
  | 0, _, e => (e, false)
  | fuel + 1, n, e =>
    let fresh := match fixNext e with
      | none => (e, false)
      | some k => evPutWrite id fuel n { e with lastSlot := k, openWrite := some k, fix := tabSet .free e.fix k (.write [(id, 0)]) }
    match e.openWrite with
    | none => fresh
    | some k =>
      match tabGet .free e.fix k with
      | .write l =>
        let room := 65536 - writeUsed l
        if room = 0 then fresh
        else
          let e1 := { e with fix := tabSet .free e.fix k (.write (l.filter (fun x => decide (x ≠ (id, 0))) ++ [(id, min n room)])) }
          if n ≤ room then (e1, true) else evPutWrite id fuel (n - room) { e1 with openWrite := none }
      | _ => fresh

/-- An entry with n data bytes becomes durable in WRITE blocks (R359). -/
def evWriteJournal (id n : Nat) (e : Evid) : Evid × Bool := evPutWrite id (2 * (writeSize n / 65536) + 4) (writeSize n) e

/-- An entry of a WRITE slot is retired there: the slot returns to FREE with its last entry (R360). -/
def evRetireAt (id k : Nat) (e : Evid) : Evid :=
  match tabGet .free e.fix k with
  | .write l =>
    let rest := l.filter (fun x => decide (x.1 ≠ id))
    if rest = [] then { freeSlot k e with openWrite := if e.openWrite = some k then none else e.openWrite }
    else { e with fix := tabSet .free e.fix k (.write rest) }
  | _ => e

/-- A write-journal entry is retired (R246, R360). -/
def evRetireWrite (id : Nat) (e : Evid) : Evid := ((e.fix.cells.map (fun c => c.1)).filter (fun k => match tabGet .free e.fix k with
    | .write l => l.any (fun x => decide (x.1 = id))
    | _ => false)).foldl (fun e k => evRetireAt id k e) e

/-- A record whose effect an S event ends: a capsule that is not accepted any more (R281), a debug session or a life-cycle
step whose authority an S event clears (R154, R148), a mailbox message that is discarded (R513). -/
def endsAtS (g : Gate) : Bool :=
  match g with
  | .capsuleStaged => true
  | .debugOpen _ => true
  | .lcStep => true
  | .tripClear => true
  | _ => false

/-- An S event drops the records of ROM and firmware that are not durable (R389); firmware submits them again. -/
def evS (e : Evid) : Evid :=
  let isFw := fun (w : Waiting) => decide (w.src ≤ 1)
  { e with highTold := false, inflight := e.inflight.filter (fun w => !isFw w), waiting := (e.waiting.filter (fun w => !isFw w)).map (fun w => { w with ahead := countIf (fun x => !isFw x) (e.inflight.take w.ahead) }), resubmit := e.resubmit ++ (e.inflight ++ e.waiting).filter (fun w => isFw w && !endsAtS w.gate) }

/-- The count of a 0x0F01 record that is not durable stands again in its code's SUPPRESSED count, whose own records came later (R357). -/
def evUnreport (w : Waiting) (e : Evid) : Evid :=
  if w.code ≠ 0x0f01 then e
  else
    let code := unle (w.body.take 2)
    let n := unle ((w.body.drop 4).take 4)
    let first := unle ((w.body.drop 8).take 8)
    let v : Suppressed := match tabGet none e.suppressed code with
      | none => ⟨n, first, unle ((w.body.drop 16).take 8)⟩
      | some q => ⟨n + q.count, first, q.lastUs⟩
    { e with suppressed := tabSet none e.suppressed code (some v) }

/-- A C or P event: what is not durable is lost but for suppressed counts, buckets are full again, the Boot Record window is cleared and the seal
ends; a close in progress is completed at the next start (R355, R356, R368, R376). -/
def evC (e : Evid) : Evid :=
  { (e.inflight ++ e.waiting).foldr evUnreport e with inflight := [], waiting := (e.waiting.filter (fun w => decide (w.code = 7))).map (fun w => { w with ahead := 0 }), resubmit := [], buckets := tabEmpty, isSealed := false, begun := false, highTold := false, brPhase := .none, brAt := none, brLeft := 0, brHead := none, br := [], brStart := none }

/-- A P event restarts TIMER_AOT: an open block counts its 60 s, and an epoch its microseconds, from there (log entry 136). -/
def evP (e : Evid) : Evid :=
  { e with epochStart := 0, fix := ⟨e.fix.cells.map (fun c => (c.1, match c.2 with
    | .chainBlock b => .chainBlock { b with openAt := 0 }
    | x => x))⟩ }

end Sys2Proof
end

