-- ==== Sys2Proof/Machine/State.lean ====
section
/-!
DEFINITION. The whole state of the FVX-9 and the state right after reset.
-/

namespace Sys2Proof.Machine

open Sys2Proof

/-- Why the machine stops with a fault. No rule of the manual stops the device: bus errors, refusals and traps are all
effects on the state, so no meaning raises a fault. -/
inductive Fault where
  /-- Raised by no command; kept so that the type has an element. Safe: it is never produced. -/
  | unreachable
deriving DecidableEq, Repr

/-- Why a command is refused. -/
inductive Refusal where
  /-- Raised by the dispatcher for a command whose meaning is not written yet. Safe: the run stops. -/
  | notModelled (mnemonic : String)
deriving DecidableEq, Repr

/-- The whole state: one component for each block of chapter 01, the persistent stores among them, and the model's own
fields `reply`, `freeCtr` and `pending`. -/
structure State where
  mor : Mordant
  otp : Otp
  ev : Evid
  vault : Vault
  /-- CCH_00 to CCH_16. -/
  chans : Tab Channel
  xip : Xip
  /-- PRS_01 to PRS_16, and their emulated devices at 2 × port + device. -/
  ports : Tab Port
  ems : Tab EmDev
  lake : Lake
  /-- Image slots 0 to 255. -/
  imgs : Tab Img
  /-- ACTIVE_HALF and STAGED of each slot, in the State Area; they persist. -/
  activeHalf : Tab Bool
  staged : Tab Bool
  /-- The policy SVN floor, in the State Area (R181). -/
  polFloor : Nat
  /-- Accepted MUTABLE writes not yet committed when a C or P event came, by the Fix Ring (R43, R248). -/
  replay : List JEntry
  nextWriteId : Nat
  grant : Option Grant
  capsules : List CapsuleJob
  cfg : CfgFlash
  run : Running
  /-- A PLDM Type 5 update is in progress on a management port (R189). -/
  pldmUpdate : Option Nat
  fab : Fabric
  nrx : Rings
  sc : Sc
  sic : Sic
  wdt : Wdt
  /-- TIMER_AOT: 48 bits. -/
  aot : Nat
  dga : Dga
  sig0 : SigEng
  sig1 : SigEng
  kld : Kld
  pa : Persist
  mgtA : Mgt
  mgtB : Mgt
  /-- The messages submitted and not yet processed, in order of arrival (R509). -/
  mbxQueue : List MbxMsg
  cbus : Tab CbusComp
  temp : Temp
  /-- What the sender of the latest command sees (the model's own). -/
  reply : Reply
  /-- How many free values have been taken (the model's own). -/
  freeCtr : Nat
  /-- Commands that wait, first in, first out (the model's own). -/
  pending : List Instr
deriving DecidableEq, Repr

/-- No cause. -/
def noCauses : Causes := ⟨false, false, false, false, false⟩

/-- The default of a DOMAINS-less domain, of a channel, a port, an emulated device, an image, an endpoint and a partition:
the value every unlisted one has. -/
def chan0 : Channel :=
  ⟨0, 0, 0, .off, none, false, false, 0, 0, 0, 0, 0, [], [], none, false, none, none, false, tabEmpty, none, false, false, false, 0,
   0, false, [], []⟩
def port0 : Port := ⟨none, [], false⟩
def em0 : EmDev := ⟨.off, .p1s, false, false, none, false, false⟩
def img0 : Img :=
  ⟨.waiting, none, none, none, none, 0, 0xffffffff, [], [], none, 0, false, false, false, false, false, false, false, false, false, none⟩
def ep0 : Ep := ⟨.isSealed, noCauses, false, false, false, none, 0, 0, zeros 48, false, false, false⟩
def link0 : Link := ⟨0, 0, false, false, false, false⟩
def part0 : Part :=
  ⟨false, false, List.replicate 8 0, none, none, false, 0, [], 0, zeros 48, 0, 0, false, false, false, false, false, .unlocked, tabEmpty, tabEmpty, tabEmpty⟩
def ring0 : Ring := ⟨.absent, 0, 0, 0, 0, 0xffff, 0, 0, 0, 0, 0, 0, none, 0⟩
def adm0 : AdmRegs := ⟨0, 0, 0, 0, 0, false, 0, false⟩
def ledger0 : Ledger := ⟨zeros 48, 0, 0, 0, 0⟩
def comp0 : CbusComp := ⟨false, 0, 0⟩
def sigEng0 : SigEng := ⟨false, false, 0, 0, 0, none, 0, 0, 0, 0, 0, 0, 0, false, none⟩
def mgt0 : Mgt := ⟨.i3c, none, false, none, 0, 0, 0, tabEmpty, none, none, [], none⟩

/-- The Mordant as a P event leaves it, with its inputs at rest (R93, R100). -/
def mordant0 : Mordant where
  vsec := true
  brown := false
  latched := false
  aocA := true
  aocB := true
  aocSel := false
  aocDis := false
  vioRst := none
  vioLost := false
  bscan := 0
  tampLow := 0
  strap := 0
  trip := false
  tripSrc := 0
  tripNotes := []
  asyncTrip := false
  phase := 0
  floorCause := 0
  lock := false
  dom := tabEmpty
  final := tabEmpty
  heldCause := tabEmpty
  relReq := 0
  attr := tabEmpty
  prereq := tabEmpty
  outMap := tabEmpty
  vslotMap := tabEmpty
  vslot := tabEmpty
  allDecided := false
  selOut := 0
  selSlot := 0
  selDom := 0

/-- The array of a KXF9-A2601 part as it ships, as far as the manual gives it: FEAT_CRIT (R138) with its check bits;
every other word blank (DESIGN CHOICE, log entry 3). -/
def shippedFuses : Tab OtpSense := ⟨[(128, ⟨313532694527#39, 313532694527#39⟩)]⟩

/-- The OTP controller at a P event. -/
def otp0 (w : Tab OtpSense) : Otp :=
  ⟨w, 0, 0, false, none, [], 0, 0, ⟨0, 0⟩, false, false, false, none, true, 0, 0, 0, 0, 0, none, [], [], false, none⟩

/-- The journal of a device that has never written a record (R345, R354). That slot 0 is allocated first is the model's choice (log entry 153). -/
def evid0 : Evid where
  seq := 0
  tripSeq := 0
  epoch := 0
  lastIndex := 2 ^ 64 - 1
  headChain := zeros 48
  fix := tabEmpty
  lastSlot := 383
  openEv := none
  openRing := none
  ringCloses := 0
  openWrite := none
  chainQ := []
  inflight := []
  waiting := []
  resubmit := []
  buckets := tabEmpty
  suppressed := tabEmpty
  epochStart := 0
  isSealed := false
  begun := false
  startCause := 1
  beginSeq := 0
  headSeq := 0
  highTold := false
  brPhase := .none
  brAt := none
  brLeft := 0
  brHead := none
  br := []
  brStart := none

/-- The Vault before its endpoint has ever been OPEN, with a blank drive (DESIGN CHOICE, log entry 5). -/
def vault0 : Vault where
  state := .out
  cause := 0
  failed := false
  accepted := false
  ns := ⟨16777216, ⟨4096, 0, false⟩, [⟨4096, 64, false⟩]⟩
  sb0 := none
  sb1 := none
  blockNo := 0
  runEnd := 0
  arch := tabEmpty
  exportAck := none
  objects := tabEmpty
  bootRecs := tabEmpty
  brDue := []
  ckptSlot := none
  ckpts := tabEmpty
  ckpt := none
  nvme := []
  resetting := false
  sbBack := []
  runs := []

/-- The window of CCH_00 at a C event (R218). -/
def xip0 : Xip := ⟨true, false, 0, 0, tabEmpty, 0, none, [], none, false, false⟩

/-- The Lake out of service (R254). -/
def lake0 : Lake := ⟨.off, 0, 0, false, 0, tabEmpty, tabEmpty, tabEmpty, [], tabEmpty⟩

/-- Nothing taken from the configuration flash yet. -/
def running0 : Running := ⟨none, 0, none, 0, false, tabEmpty, tabEmpty, none, []⟩

/-- The gate with every seal set and no unit in service. -/
def fabric0 : Fabric :=
  ⟨0, 0, tabEmpty, tabEmpty, tabEmpty, 0, 0, 0, 0, 0, tabEmpty, tabEmpty, tabEmpty, [], tabEmpty, [], [], [], [], [], tabEmpty, tabEmpty⟩

/-- No ring, no object, every counter at 0. -/
def rings0 : Rings :=
  ⟨tabEmpty, tabEmpty, tabEmpty, tabEmpty, [], [], [], [], [], tabEmpty, tabEmpty, [], tabEmpty, [], [], [], [], [], 0, 0, 0, 0, tabEmpty, tabEmpty⟩

/-- The Service Complex with the main rails off. -/
def sc0 : Sc := ⟨false, none, false, false, false, false, false, false, false, false, false, false, none, tabEmpty, [], tabEmpty, []⟩

/-- The watchdog at its reset values (R438, R444); the capture is a P-class capture (R52). -/
def wdt0 : Wdt := ⟨.running, 0, false, 0x01000000, 0x01000000, false, false, 0, 0, 0, 0, 0⟩

/-- The Digest Array with no engine in service. -/
def dga0 : Dga := ⟨0, false, tabEmpty, tabEmpty, [], 4, [], false, 0, false, false, 0, 0, 0⟩

/-- The key ladder before any derivation. -/
def kld0 : Kld := ⟨none, none, false, none, tabEmpty, false, none⟩

/-- The machine right after reset: a P event, VSEC above V_POR, CUST_STAT POWER_ON, the critical fuse latch not complete,
every domain HELD, nothing stored, an empty queue. -/
def State.reset : State where
  mor := mordant0
  otp := otp0 shippedFuses
  ev := evid0
  vault := vault0
  chans := tabEmpty
  xip := xip0
  ports := tabEmpty
  ems := tabEmpty
  lake := lake0
  imgs := tabEmpty
  activeHalf := tabEmpty
  staged := tabEmpty
  polFloor := 0
  replay := []
  nextWriteId := 0
  grant := none
  capsules := []
  cfg := ⟨none, none, none, none, none, none⟩
  run := running0
  pldmUpdate := none
  fab := fabric0
  nrx := rings0
  sc := sc0
  sic := ⟨0, 0, 0, false⟩
  wdt := wdt0
  aot := 0
  dga := dga0
  sig0 := sigEng0
  sig1 := sigEng0
  kld := kld0
  pa := ⟨0, false⟩
  mgtA := mgt0
  mgtB := mgt0
  mbxQueue := []
  cbus := tabEmpty
  temp := ⟨false, 0, 0⟩
  reply := .none
  freeCtr := 0
  pending := []

end Sys2Proof.Machine
end

