-- ==== Sys2Proof/Machine/Ops.lean ====
section
/-!
DEFINITION. The named operations over the whole state that the meanings share: component updates, replies, evidence
submission, free values, the Mordant's domains and slots, endpoint custody, Custody Trip and the Interlock.
-/

namespace Sys2Proof.Machine

open Sys2Proof

/-- The state with its mor component changed by f. -/
def upMor (f : Mordant → Mordant) (s : State) : State := { s with mor := f s.mor }

/-- The state with its otp component changed by f. -/
def upOtp (f : Otp → Otp) (s : State) : State := { s with otp := f s.otp }

/-- The state with its ev component changed by f. -/
def upEv (f : Evid → Evid) (s : State) : State := { s with ev := f s.ev }

/-- The state with its vault component changed by f. -/
def upVault (f : Vault → Vault) (s : State) : State := { s with vault := f s.vault }

/-- The state with its chans component changed by f. -/
def upChans (f : (Tab Channel) → (Tab Channel)) (s : State) : State := { s with chans := f s.chans }

/-- The state with its xip component changed by f. -/
def upXip (f : Xip → Xip) (s : State) : State := { s with xip := f s.xip }

/-- The state with its ports component changed by f. -/
def upPorts (f : (Tab Port) → (Tab Port)) (s : State) : State := { s with ports := f s.ports }

/-- The state with its ems component changed by f. -/
def upEms (f : (Tab EmDev) → (Tab EmDev)) (s : State) : State := { s with ems := f s.ems }

/-- The state with its lake component changed by f. -/
def upLake (f : Lake → Lake) (s : State) : State := { s with lake := f s.lake }

/-- The state with its imgs component changed by f. -/
def upImgs (f : (Tab Img) → (Tab Img)) (s : State) : State := { s with imgs := f s.imgs }

/-- The state with its fab component changed by f. -/
def upFab (f : Fabric → Fabric) (s : State) : State := { s with fab := f s.fab }

/-- The state with its nrx component changed by f. -/
def upNrx (f : Rings → Rings) (s : State) : State := { s with nrx := f s.nrx }

/-- The state with its sc component changed by f. -/
def upSc (f : Sc → Sc) (s : State) : State := { s with sc := f s.sc }

/-- The state with its sic component changed by f. -/
def upSic (f : Sic → Sic) (s : State) : State := { s with sic := f s.sic }

/-- The state with its wdt component changed by f. -/
def upWdt (f : Wdt → Wdt) (s : State) : State := { s with wdt := f s.wdt }

/-- The state with its dga component changed by f. -/
def upDga (f : Dga → Dga) (s : State) : State := { s with dga := f s.dga }

/-- The state with its kld component changed by f. -/
def upKld (f : Kld → Kld) (s : State) : State := { s with kld := f s.kld }

/-- The state with its pa component changed by f. -/
def upPa (f : Persist → Persist) (s : State) : State := { s with pa := f s.pa }

/-- What a command answers. -/
abbrev Out := Host.Outcome State Fault Refusal

/-- The state with a reply for the sender. -/
def say (r : Reply) (s : State) : State := { s with reply := r }

/-- The command took place and says nothing. -/
def done (s : State) : Out := .next (say .none s)

/-- The command took place and says r. -/
def answer (r : Reply) (s : State) : Out := .next (say r s)

/-- The event this command reports cannot happen in this state: nothing changes (log entry 2). -/
def notNow (s : State) : Out := .next (say .notNow s)

/-- A guarded meaning: the effect where the guard holds, nothing otherwise. -/
def when (c : Bool) (s : State) (o : Out) : Out := if c then o else notNow s

/-- The state after one more free value has been drawn; the draw itself is s.freeCtr (log entry 1). -/
def drawn (s : State) : State := { s with freeCtr := s.freeCtr + 1 }

/-- n free bytes of the next draw. -/
def nextFree (s : State) (n : Nat) : Bytes := fit n (freeBytes s.freeCtr)

/-- The next free word. -/
def nextFreeWord (s : State) : BitVec 32 := freeWord s.freeCtr

/-- The Service Complex runs firmware: it has started, has not trapped, is not between pairs, and no debug session halts it (R153,
R424, R430). -/
def fwRuns (s : State) : Bool := s.sc.running && !s.sc.fault && !s.sc.switching && !s.sc.halted

/-- Operations with a key-ladder output are held back: a debug session is active, or an accepted token waits for the operations in
progress or for its 0x0040 (R155). -/
def keysHeld (s : State) : Bool :=
  s.otp.session.isSome || !s.otp.debugWait.isEmpty || s.ev.waiting.any (fun w => match w.gate with
    | .debugOpen _ => true
    | _ => false)

/-- Both mirror pairs of the Persistence Array hold at least one bank (R461, R467). -/
def paUp (s : State) : Bool := decide (fieldOf s.pa.bank 0 2 ≠ 0) && decide (fieldOf s.pa.bank 2 2 ≠ 0)

/-- Entries become durable: the array is up and no bank failover makes acknowledgements wait (R465). -/
def paOk (s : State) : Bool := paUp s && !s.pa.failover

/-- A Signature Engine is left to sign and verify, and no failover makes its clients wait; without one every signing and verification waits
(R465, R467). -/
def sigIn (s : State) : Bool := (s.sig0.inService || s.sig1.inService) && !s.sig0.failover && !s.sig1.failover

/-- A DGA engine is left to hash, and no failover makes its clients wait; without one opens wait (R465, R467). -/
def dgaIn (s : State) : Bool := decide (s.dga.engines ≠ 0) && !s.dga.failover

/-- DEVICE_ID of this die. -/
def devId (s : State) : Bytes := deviceId s.otp

/-- RATE and BURST of a code under R175. -/
def rateOf (s : State) (code : Nat) : Nat × Nat :=
  match s.run.policy with
  | none => (100, 1000)
  | some p => match p.rates.find? (fun r => decide (r.code = code)) with
    | some r => (r.rate, r.burst)
    | none => (100, 1000)

/-- A unit submits a record of what has happened (R344, R356, R362); with the Persistence Array OUT it waits (R467). -/
def emit (code src : Nat) (body : Bytes) (s : State) : State :=
  if paUp s then upEv (evSubmit s.aot (rateOf s) code src body) s
  else upEv (fun e => { e with waiting := e.waiting ++ [⟨code, src, body, .none, e.inflight.length⟩] }) s

/-- Firmware submits a record, after its restart if it is stopped (R81, R389). -/
def emitFw (code : Nat) (body : Bytes) (s : State) : State :=
  if fwRuns s then emit code 1 body s
  else upEv (fun e => { e with resubmit := e.resubmit ++ [⟨code, 1, body, .none, 0⟩] }) s

/-- A record on which an effect waits (R31, R358): the effect follows at once when the record is durable at once, and at
WAITING_RECORD_WRITE otherwise. -/
def gated (code src : Nat) (body : Bytes) (g : Gate) (eff : State → State) (s : State) : State :=
  if paOk s then
    let r := evGated s.aot (rateOf s) code src body g s.ev
    if r.2 then eff (upEv (fun _ => r.1) s) else upEv (fun _ => r.1) s
  else upEv (evHold s.aot (rateOf s) code src body g) s

/-! ### The key ladder (R150, R456) -/

/-- An ASCII label. -/
def ascii (t : String) : Bytes := t.toList.map (fun c => BitVec.ofNat 8 c.toNat)

/-- CDI_0: the unique device secret with the latched count mixed in (R150). -/
def cdi0Of (o : Otp) : Bytes := kdf (otpBytes o 544 12) (ascii "CDI0") (le 1 o.countLatched)

/-- A key derived from CDI_0; every output reads zero during a debug session (R458). -/
def ladder (s : State) (label : String) (ctx : Bytes) : Bytes :=
  if s.otp.session.isSome then zeros 48 else kdf (s.kld.cdi0.getD []) (ascii label) ctx

/-- FW_DIGEST and BUNDLE_SVN as KLD_FWID and KLD_SVN hold them (R457). -/
def fwIdent (s : State) : Bytes :=
  ((List.range 12).map (fun i => le 4 ((tabGet none s.kld.fwid i).getD 0).toNat)).flatten ++ le 4 (s.kld.svn.getD 0)

/-- The keys of the slots (R456): DEVID and ALIAS, their ML-DSA-87 pair with `ml`; VAULT of an epoch; SEAL of a partition and
tenant. -/
def devidKey (s : State) (ml : Bool) : Bytes := ladder s (if ml then "DEVID-ML" else "DEVID-EC") []
def aliasKey (s : State) (ml : Bool) : Bytes :=
  if s.otp.session.isSome then zeros 48
  else kdf (ladder s "CDI1" (fwIdent s)) (ascii (if ml then "ALIAS-ML" else "ALIAS-EC")) []
def vaultKey (s : State) (e : Nat) : Bytes := ladder s "VAULT" (le 4 e)
/-- The key of an epoch as it was under a latched count (R365). -/
def vaultKeyAt (s : State) (lc e : Nat) : Bytes := kdf (cdi0Of { s.otp with countLatched := lc }) (ascii "VAULT") (le 4 e)
def sealKey (s : State) (p t : Nat) : Bytes := ladder s "SEAL" (le 1 p ++ le 4 t)

/-- A byte with its bit 7 cleared. -/
def clearTop : Bytes → Bytes
  | [] => []
  | b :: r => (b &&& 0x7f) :: r

/-- What an alias certificate states (R370): the serial number, the end of validity, digitalSignature as its only key usage, the
public key, and the TcbInfo extension with vendor, model, svn and one FWID. -/
def aliasFields (s : State) (ml : Bool) : Bytes :=
  let pub := publicOf (aliasKey s ml)
  clearTop ((sha384 pub).take 20) ++ ascii "99991231235959Z" ++ [0x80] ++ pub
    ++ ascii "Kelnyx" ++ ascii "FVX-9" ++ (fwIdent s).drop 48 ++ (fwIdent s).take 48

/-- What pure ML-DSA signs of a message under a context string (FIPS 204). -/
def mlMsg (ctx m : Bytes) : Bytes := [0] ++ le 1 ctx.length ++ ctx ++ m

/-- The alias certificates, ECDSA and ML-DSA, each signed by the DeviceID key of its algorithm (R370). -/
def aliasCerts (s : State) : Bytes × Bytes :=
  (x509 (aliasFields s false) (signedBy (devidKey s false) (sha384 (aliasFields s false)) s.freeCtr),
   x509 (aliasFields s true) (signedBy (devidKey s true) (mlMsg [] (aliasFields s true)) (s.freeCtr + 1)))

/-- A hybrid signature of the alias key over a message, of the next draw (R371): ECDSA P-384 with SHA-384, r ‖ s, then pure ML-DSA-87 under
a context string. -/
def hybridSig (s : State) (ctx : String) (m : Bytes) : Bytes :=
  fit 96 (signedBy (aliasKey s false) (sha384 m) s.freeCtr) ++ fit 4627 (signedBy (aliasKey s true) (mlMsg (ascii ctx) m) s.freeCtr)

/-- An effect on each number of a list, in order. -/
def each (l : List Nat) (f : Nat → State → State) (s : State) : State := l.foldl (fun s n => f n s) s

/-! ### The Mordant's domains, slots and outputs -/

/-- A VSEC above V_POR with an oscillator that toggles: the clocked functions of the Mordant run (R514). -/
def clocked (s : State) : Bool := s.mor.vsec && s.mor.latched && (s.mor.aocA || s.mor.aocB)

/-- The state of D_d (R105). -/
def domSt (s : State) (d : Nat) : DomState := tabGet .held s.mor.dom d

/-- MORDANT_DOM_ATTR of D_d and its fields. -/
def domAttr (s : State) (d : Nat) : BitVec 4 := tabGet 0 s.mor.attr d
def inUse (s : State) (d : Nat) : Bool := (domAttr s d).getLsbD 0
def critical (s : State) (d : Nat) : Bool := (domAttr s d).getLsbD 1
def tripHold (s : State) (d : Nat) : Bool := (domAttr s d).getLsbD 2
def unverOk (s : State) (d : Nat) : Bool := (domAttr s d).getLsbD 3

/-- The domains whose attribute word is not 0, in ascending order, and those in use. -/
def domsListed (s : State) : List Nat := s.mor.attr.cells.map (fun c => c.1)
def domsUsed (s : State) : List Nat := (domsListed s).filter (inUse s)

/-- The prerequisites of D_d. -/
def prereqs (s : State) (d : Nat) : List Nat := bitsOf (tabGet 0 s.mor.prereq d)

/-- The Verdict pairs of R109, COMP above WORD. -/
def passPair : BitVec 32 := 0x3C5AC3A5
def failPair : BitVec 32 := 0x69699696

/-- The pair of a slot. -/
def pairOf (s : State) (k : Nat) : BitVec 32 := tabGet 0 s.mor.vslot k

/-- The domain of an output, if it is assigned (R23). -/
def outDom (s : State) (o : Nat) : Option Nat :=
  let m := tabGet 0 s.mor.outMap o
  if m.getLsbD 5 then some (m.toNat % 32) else none

/-- The domain of an image slot, if it is used. -/
def imgDom (s : State) (k : Nat) : Option Nat :=
  let m := tabGet 0 s.mor.vslotMap k
  if m.getLsbD 5 then some (m.toNat % 32) else none

/-- The image slots mapped to D_d. -/
def domImgs (s : State) (d : Nat) : List Nat :=
  (s.mor.vslotMap.cells.map (fun c => c.1)).filter (fun k => decide (k < 256) && decide (imgDom s k = some d))

/-- The PERST_N numbers of D_d. -/
def domEps (s : State) (d : Nat) : List Nat :=
  ((s.mor.outMap.cells.map (fun c => c.1)).filter (fun o => decide (48 ≤ o) && decide (o < 80)
    && decide (outDom s o = some d))).map (fun o => o - 48)

/-- Every image slot of D_d holds PASS. -/
def imgsPass (s : State) (d : Nat) : Bool := (domImgs s d).all (fun k => decide (pairOf s k = passPair))

/-- Every slot of D_d, image and endpoint, holds PASS. -/
def slotsPass (s : State) (d : Nat) : Bool :=
  imgsPass s d && (domEps s d).all (fun j => decide (pairOf s (256 + j) = passPair))

/-- An oscillator toggles (R514). -/
def aocRuns (s : State) : Bool := s.mor.aocA || s.mor.aocB

/-- A slot's pair written by the verdict path (R30); with no oscillator toggling a slot keeps its value (R514). -/
def setPair (k : Nat) (v : BitVec 32) (s : State) : State :=
  if aocRuns s then upMor (fun m => { m with vslot := tabSet 0 m.vslot k v }) s else s

/-- An image's record changed. -/
def upImg (k : Nat) (f : Img → Img) (s : State) : State := upImgs (fun t => tabSet img0 t k (f (tabGet img0 t k))) s

/-- An image. -/
def imgOf (s : State) (k : Nat) : Img := tabGet img0 s.imgs k

/-- The IMAGES and RECOVERY records of a slot. -/
def imgRec (s : State) (k : Nat) : Option ImageRec := s.run.policy.bind (fun p => polImage p k)
def recRec (s : State) (k : Nat) : Option RecoveryRec := s.run.policy.bind (fun p => polRecovery p k)

/-- The PRESENT_ID record that presents the device of an image slot. -/
def imgPresent (s : State) (k : Nat) : Option PresentRec :=
  match s.run.policy, imgRec s k with
  | some p, some r => polPresents p r.channel r.device
  | _, _ => none

/-- A channel, and a channel changed. -/
def chanOf (s : State) (k : Nat) : Channel := tabGet chan0 s.chans k
def upChan (k : Nat) (f : Channel → Channel) (s : State) : State := upChans (fun t => tabSet chan0 t k (f (tabGet chan0 t k))) s

/-- The key of an emulated device. -/
def emKey (port dev : Nat) : Nat := 2 * port + dev
def emOf (s : State) (k : Nat) : EmDev := tabGet em0 s.ems k
def upEm (k : Nat) (f : EmDev → EmDev) (s : State) : State := upEms (fun t => tabSet em0 t k (f (tabGet em0 t k))) s
def portOf (s : State) (k : Nat) : Port := tabGet port0 s.ports k
def upPort (k : Nat) (f : Port → Port) (s : State) : State := upPorts (fun t => tabSet port0 t k (f (tabGet port0 t k))) s

/-- A protocol reset (R226); a write whose WIP is set goes on. -/
def protoReset (e : EmDev) : EmDev := { e with proto := .p1s, addr4 := false, wel := false, rstEn := false }

/-- Protocol reset of every emulated device whose backing device holds an image of D_d (R226). -/
def domProtoReset (d : Nat) (s : State) : State :=
  match s.run.policy with
  | none => s
  | some p =>
    each ((p.presents.filter (fun r => p.images.any (fun i => decide (i.domain = d) && decide (i.channel = r.channel)
        && decide (i.device = r.srcDevice)))).map (fun r => emKey r.port r.device)) (fun k => upEm k protoReset) s

/-! ### Endpoint custody -/

/-- An endpoint by PERST_N number, and one changed. -/
def epOf (s : State) (j : Nat) : Ep := tabGet ep0 s.fab.eps j
def upEp (j : Nat) (f : Ep → Ep) (s : State) : State :=
  upFab (fun g => { g with eps := tabSet ep0 g.eps j (f (tabGet ep0 g.eps j)) }) s

/-- A component of CBUS, and one changed. -/
def cbusOf (s : State) (i : Nat) : CbusComp := tabGet comp0 s.cbus i
def upCbus (i : Nat) (f : CbusComp → CbusComp) (s : State) : State :=
  { s with cbus := tabSet comp0 s.cbus i (f (tabGet comp0 s.cbus i)) }

/-- The ENDPOINTS record of PERST_N_jj. -/
def epRec (s : State) (j : Nat) : Option EndpointRec := s.run.policy.bind (fun p => polEndpoint p j)

/-- The endpoints of the policy, by PERST_N number. -/
def epsAll (s : State) : List Nat :=
  match s.run.policy with
  | none => []
  | some p => p.endpoints.map (fun e => e.perst)

/-- The port of an endpoint; 0xFF with no record. -/
def epPort (s : State) (j : Nat) : Nat :=
  match epRec s j with
  | some e => e.port
  | none => 0xff

/-- The endpoint on a port. -/
def epAt (s : State) (port : Nat) : Option Nat :=
  (s.run.policy.bind (fun p => polEndpointAt p port)).map (fun e => e.perst)

/-- The FABRIC record of a port. -/
def portRec (s : State) (port : Nat) : Option FabricRec := s.run.policy.bind (fun p => polPort p port)

/-- The partition of a port; 0xFF for the VAULT port and for a port not listed. -/
def portPart (s : State) (port : Nat) : Nat :=
  match portRec s port with
  | some r => r.part
  | none => 0xff

/-- The partition of an endpoint. -/
def epPart (s : State) (j : Nat) : Nat := portPart s (epPort s j)

/-- A bay is in service (R464). -/
def bayUp (s : State) (b : Nat) : Bool := s.fab.bays.getLsbD b

/-- A partition has an upstream port whose bay is in service, and with it a CSF (R290, R311). -/
def hasUpstream (s : State) (p : Nat) : Bool := match s.run.policy.bind (fun q => polUpstream q p) with
  | some u => bayUp s (u.port / 4)
  | none => false

/-- Neither the endpoint's bay nor its partition's upstream bay is removed (R311). -/
def epBayOk (s : State) (j : Nat) : Bool :=
  bayUp s (epPort s j / 4) &&
  (match s.run.policy.bind (fun p => polUpstream p (epPart s j)) with
   | some u => bayUp s (u.port / 4)
   | none => decide (epPart s j = 0xff))

/-- The seal of an endpoint's port is set (R298). -/
def sealSet (st : EpState) : Bool := !(decide (st = .opened) || decide (st = .recheck) || decide (st = .contained))

/-- The port is blocked under R299. -/
def epBlocked (st : EpState) : Bool := decide (st = .recheck) || decide (st = .contained)

/-- Under Vat custody (R112). -/
def inVat (st : EpState) : Bool := decide (st = .vat) || decide (st = .attesting) || decide (st = .attested)

/-- CAUSES of 0x0206 and 0x0207 (R348). -/
def causesByte (c : Causes) : Nat := b2n c.hotReset + 2 * b2n c.link + 4 * b2n c.trip + 8 * b2n c.firmware

/-- Some cause other than those given stands. -/
def noCause (c : Causes) : Bool := !c.changed && !c.firmware && !c.trip && !c.link && !c.hotReset

/-- A posted request: a memory write or a message. -/
def tlpPosted (k : TlpKind) : Bool := decide (k = .memWrite) || decide (k = .message)

/-- The data credits of a TLP, in units of 16 bytes. An I/O request is counted as one that carries its data (log entry 85). -/
def tlpUnits (t : Tlp) : Nat := if t.kind = .memRead then 0 else (t.len + 15) / 16

/-- The mediation buffer is full, a packet waiting before it, and packets that came in at a port wait in it or before it (R335). What counts as
full is the model's choice (log entry 150). -/
def creditsKept (f : Fabric) (port : Nat) : Bool := !f.medWait.isEmpty && (f.medBuf ++ f.medWait).any (fun m => decide (m.ingress = port))

/-- The credits of TLPs that are over return to their senders; while the buffer is full, those of posted TLPs do not return to a port
whose packets wait (R315, R335). -/
def creditsBack (l : List HeldTlp) (f : Fabric) : Fabric :=
  { f with keptCredits := f.keptCredits ++ (l.filter (fun t => tlpPosted t.tlp.kind && creditsKept f t.ingress)).map (fun t => (t.ingress, tlpUnits t.tlp)) }

/-- Held TLPs end: a request that is not posted completes with Unsupported Request at its ingress port (R342). -/
def endTlps (c : HeldTlp → Bool) (f : Fabric) : Fabric :=
  let l := f.heldTlps.filter c
  { creditsBack l f with
    heldTlps := f.heldTlps.filter (fun t => !c t)
    urDone := (l.filter (fun t => !tlpPosted t.tlp.kind && decide (t.tlp.kind ≠ .completion))).foldl
      (fun u t => tabSet 0 u t.ingress (tabGet 0 u t.ingress + 1)) f.urDone }

/-- AER of the bridge of a port, or of the CSF of partition p at 32 + p, reports n errors (R294, R299, R329). -/
def aerReport (port n : Nat) (s : State) : State :=
  upFab (fun g => { g with aer := tabSet 0 g.aer port (tabGet 0 g.aer port + n) }) s

/-- The TLPs held towards a port end, posted ones with an AER report, and with them intercepted ones that firmware has not been given; its
mediation stays. Used as a port becomes blocked or sealed (R342). -/
def dropHeld (port : Nat) (s : State) : State :=
  aerReport port (countIf (fun t : HeldTlp => decide (t.egress = port) && tlpPosted t.tlp.kind) s.fab.heldTlps
      + countIf (fun x : Nat × Nat × Tlp => decide (x.1 = port)) s.fab.medTlps)
    (upFab (fun f => endTlps (fun t => decide (t.egress = port)) { f with medTlps := f.medTlps.filter (fun x => decide (x.1 ≠ port)) }) s)

/-- The mediation session of a port ends, and with it the packets that wait for it. -/
def endMediation (port : Nat) (s : State) : State :=
  upFab (fun g =>
    let w := g.medWait.filter (fun m => decide (m.port ≠ port))
    { g with
      meds := tabSet none g.meds port none
      medBuf := g.medBuf.filter (fun m => decide (m.port ≠ port))
      medWait := w
      keptCredits := if w.isEmpty then [] else g.keptCredits }) s

/-- The link of a port is out of L0. -/
def linkDrop (port : Nat) (s : State) : State := upFab (fun g => { g with links := tabSet link0 g.links port link0 }) s

/-- A Vat grant is withdrawn: back to SEALED, PERST_N low, so the link is down, the slot cleared and an attestation in progress ended;
its causes stay (R112, R113, R118, R298). -/
def epUnvat (j : Nat) (s : State) : State :=
  setPair (256 + j) 0 (upEp j (fun e => { e with st := .isSealed, link := false, epWait := false, configuring := false, att := none, releaseDue := false, relink := false })
    (linkDrop (epPort s j) s))

/-- The endpoint goes to SEALED: PERST_N low, so its link is down, causes and slot cleared, checks ended (R113, R298). -/
def epSealIt (j : Nat) (s : State) : State :=
  let s1 := linkDrop (epPort s j) (endMediation (epPort s j) (dropHeld (epPort s j) s))
  setPair (256 + j) 0 (upEp j (fun e => { e with st := .isSealed, causes := noCauses, link := false, epWait := false, configuring := false, att := none, releaseDue := false, hostDpc := false, relink := false }) s1)

/-- A new attestation or re-check, from GET_VERSION (R303). -/
def newAtt (k : AttKind) : Att := ⟨k, .version, 0, 0, 0, [], [], false, []⟩

/-- A re-check starts: its pair is cleared (R306). -/
def startRecheck (k : AttKind) (j : Nat) (s : State) : State :=
  upEp j (fun e => { e with att := some (newAtt k), recheckPair := 0 }) s

/-- Record 0x0206 PORT_CONTAINED of an endpoint. -/
def emitContained (j : Nat) (s : State) : State :=
  emit 0x0206 6 (le 1 j ++ le 1 (epPort s j) ++ le 1 (causesByte (epOf s j).causes) ++ le 1 0) s

/-- The endpoint becomes CONTAINED with its causes changed by f; checks in progress end; a link that is already lost counts as lost
before the containment (R306); 0x0206 (R298, R299). -/
def epContain (f : Causes → Causes) (j : Nat) (s : State) : State :=
  emitContained j (dropHeld (epPort s j) (upEp j (fun e => { e with st := .contained, causes := f e.causes, att := none, epWait := false, relink := e.relink || !e.link }) s))

/-- The endpoint enters RECHECK with its causes changed by f; the held re-check starts at once, or after t_EPWAIT when
`wait` (R306). -/
def epRecheck (f : Causes → Causes) (wait : Bool) (j : Nat) (s : State) : State :=
  let s1 := upEp j (fun e => { e with st := .recheck, causes := f e.causes, epWait := wait, att := none, recheckPair := 0, relink := false }) s
  let s2 := emitContained j (dropHeld (epPort s j) s1)
  if wait then s2 else startRecheck .heldCheck j s2

/-- A CHANGED endpoint: CONTAINED with cause CHANGED and record 0x0204 in place of 0x0206 (R298, R348). -/
def epChanged (digest : Bytes) (j : Nat) (s : State) : State :=
  emit 0x0204 6 (le 1 j ++ le 1 (epPort s j) ++ le 2 0 ++ fit 48 digest)
    (dropHeld (epPort s j) (upEp j (fun e => { e with st := .contained, causes := { e.causes with changed := true }, att := none, epWait := false, hostDpc := false, relink := e.relink || !e.link }) s))

/-- The endpoint is refused: PERST_N low, so its link is down (R113, R298). -/
def epRefuse (j : Nat) (s : State) : State :=
  linkDrop (epPort s j) (upEp j (fun e => { e with st := .refused, link := false, epWait := false, configuring := false, att := none }) s)

/-- The endpoint's seal is lifted at its domain's Release, once 0x0202 is durable: OPEN, or CONTAINED with cause TRIP
while TRIP is shown, or CONTAINED if cause FIRMWARE is set (R298, R301). An OPEN endpoint of a domain with UNVERIFIED_OK is
re-checked at once (R301). -/
def epOpen (j : Nat) (s : State) : State :=
  let e := epOf s j
  if !e.releaseDue then s
  else if s.mor.trip then epContain (fun c => { c with trip := true }) j (upEp j (fun e => { e with releaseDue := false }) s)
  else if e.causes.firmware then epContain id j (upEp j (fun e => { e with releaseDue := false }) s)
  else
    let s1 := upEp j (fun e => { e with st := .opened, releaseDue := false, att := none, epWait := false, configuring := false }) s
    if (match outDom s (48 + j) with
        | some d => unverOk s d
        | none => false) then startRecheck .periodic j s1 else s1

/-- Record 0x0202 of an endpoint. -/
def epReleasedBody (s : State) (d j : Nat) : Bytes := le 1 j ++ le 1 (epPort s j) ++ le 1 d ++ le 1 (epPart s j)

/-! ### Holds, Release and Custody Trip -/

/-- Record 0x000D DOMAIN_HELD, kept as the domain's latest CAUSE (R347, R373). -/
def heldRecord (d cause : Nat) (final : Bool) (s : State) : State :=
  emitFw 0x000d (le 1 d ++ le 1 cause ++ le 1 (b2n final) ++ le 1 0)
    (upMor (fun m => { m with heldCause := tabSet 0 m.heldCause d cause, final := if final then tabSet 0 m.final d cause else m.final }) s)

/-- The slots of D_d are cleared (R105). -/
def clearSlots (d : Nat) (s : State) : State :=
  each (domImgs s d ++ (domEps s d).map (fun j => 256 + j)) (fun k => setPair k 0) s

/-- An image that passed, or is FLAGGED, is to be judged again (R266); judgements that had written no pair go on. -/
def imgAgain (k : Nat) (s : State) : State :=
  upImg k (fun i => if i.st = .passed ∨ i.st = .flagged then { i with st := .judging, stream := none, lastSrc := none } else i) s

/-- What a domain loses with its slots: its images are judged again, its endpoints go to SEALED but for those REFUSED, whose
0x0202 may still wait and then lifts nothing (R105, R266, R298). -/
def domUnslot (d : Nat) (s : State) : State :=
  let s1 := clearSlots d s
  let s2 := each (domImgs s d) imgAgain s1
  let s3 := each (domEps s d) (fun j => upEp j (fun e => { e with releaseDue := false })) s2
  each ((domEps s d).filter (fun j => !decide ((epOf s j).st = .refused))) epSealIt s3

/-- A domain leaves RELEASED: besides, the protocol of the devices that hold its images is reset (R226). -/
def domLost (d : Nat) (s : State) : State := domProtoReset d (domUnslot d s)

/-- A RELEASED domain is held: outputs low, slots and release request cleared, 0x000D (R105). With no oscillator toggling no hold
is acted on (R514). -/
def holdDom (cause : Nat) (final : Bool) (d : Nat) (s : State) : State :=
  if domSt s d ≠ .released || !aocRuns s then s
  else
    let s1 := upMor (fun m => { m with dom := tabSet .held m.dom d .held, relReq := putBit m.relReq d false }) s
    heldRecord d cause final (domLost d s1)

/-- A released domain with a prerequisite that is not RELEASED. -/
def lostPrereq (s : State) (d : Nat) : Bool :=
  decide (domSt s d = .released) && (prereqs s d).any (fun p => decide (domSt s p ≠ .released))

/-- Holds spread along PREREQ until no released domain depends on a held one (R28, R108). -/
def cascade : Nat → State → State
  | 0, s => s
  | n + 1, s =>
    let l := (domsListed s).filter (lostPrereq s)
    if l = [] then s else cascade n (each l (holdDom 2 false) s)

/-- A domain that is not released becomes a final hold (R101). -/
def markFinal (cause d : Nat) (s : State) : State :=
  if decide (domSt s d = .released) || decide (tabGet 0 s.mor.final d ≠ 0) || !inUse s d then s
  else heldRecord d cause true s

/-- A domain is held if it is released, and is a final hold either way. -/
def holdFinal (cause d : Nat) (s : State) : State :=
  if domSt s d = .released then holdDom cause true d s else markFinal cause d s

/-- Final holds spread along PREREQ (R101). -/
def finalCascade : Nat → State → State
  | 0, s => s
  | n + 1, s =>
    let l := (domsUsed s).filter (fun d => decide (domSt s d ≠ .released) && decide (tabGet 0 s.mor.final d = 0)
      && (prereqs s d).any (fun p => decide (tabGet 0 s.mor.final p ≠ 0) && decide (domSt s p ≠ .released)))
    if l = [] then s else finalCascade n (each l (markFinal 0x0a) s)

/-- A custody channel is in service: in REPLAY or READY (R464). -/
def chanServes (s : State) (k : Nat) : Bool := decide ((chanOf s k).st = .ready) || decide ((chanOf s k).st = .replay)

/-- The Evidence units are in service (R32, R464): of the core set, a service pair, a DGA engine, a Signature Engine, the Persistence
Array and CCH_00; with the array, the Fix Ring. -/
def evidUnits (s : State) : Bool :=
  (s.sc.pairA || s.sc.pairB) && decide (s.dga.engines ≠ 0) && (s.sig0.inService || s.sig1.inService) && paUp s && chanServes s 0

/-- The units that the Release of D_d needs are in service (R32, R35, R311, R464): the Evidence units; every custody channel that carries
one of its images; with images, the Lake; with endpoints, a crossbar plane and the bays of each. -/
def relUnits (s : State) (d : Nat) : Bool :=
  evidUnits s && (domImgs s d).all (fun k => match imgRec s k with
      | some r => chanServes s r.channel
      | none => false)
  && (decide (domImgs s d = []) || decide (s.lake.mode = .normal) || decide (s.lake.mode = .parity))
  && (decide (domEps s d = []) || decide (s.fab.planes ≠ 0)) && (domEps s d).all (epBayOk s)

/-- Release of D_d is available (R32, R35, R101): its units are in service and it is no final hold. -/
def relAble (s : State) (d : Nat) : Bool := decide (tabGet 0 s.mor.final d = 0) && relUnits s d

/-- The Interlock condition of R111, on the state at the start of the cycle, of a domain whose Release is available: a request that
stands is not granted while R32 or R35 takes the service away (log entry 100). -/
def interlockOk (s : State) (d : Nat) : Bool :=
  s.mor.lock && s.mor.vioRst.isSome && inUse s d && decide (domSt s d = .held) && s.mor.relReq.getLsbD d
  && !(s.mor.trip && tripHold s d) && (prereqs s d).all (fun p => decide (domSt s p = .released))
  && (unverOk s d || slotsPass s d) && relAble s d

/-- An endpoint's part of its domain's Release: 0x0202 first, then its seal lifts (R298, R301). -/
def epRelease (d j : Nat) (s : State) : State :=
  let s1 := upEp j (fun e => { e with releaseDue := true, att := none, epWait := false, configuring := false }) s
  if s.fab.planes = 0 then s1
  else gated 0x0202 6 (epReleasedBody s d j) (.epRelease j) (epOpen j) s1

/-- Release of D_d: all its outputs high in one cycle, the seals of its endpoints lifted (R26, R111). -/
def releaseDom (d : Nat) (s : State) : State :=
  each (domEps s d) (epRelease d) (upMor (fun m => { m with dom := tabSet .held m.dom d .released }) s)

/-- AOC cycles of the Interlock until none releases a domain; prerequisites are read at the start of a cycle. -/
def interlock : Nat → State → State
  | 0, s => s
  | n + 1, s =>
    let l := (domsListed s).filter (interlockOk s)
    if l = [] then s else interlock n (each l releaseDom s)

/-- VIO_RST not good, or lost since the Mordant last had a cycle, holds every RELEASED domain (R81, R514). -/
def vioHold (s : State) : State :=
  if s.mor.vioRst.isSome && !s.mor.vioLost then s
  else each ((domsListed s).filter (fun d => decide (domSt s d = .released))) (holdDom 8 false)
    (upMor (fun m => { m with vioLost := false }) s)

/-- The conditions of a Vat grant to PERST_N_jj (R112, R311), its seal aside. They may hold again for an endpoint of a RELEASED domain
that a trip has sealed (R118, log entry 101). -/
def vatCond (s : State) (j : Nat) : Bool :=
  s.mor.lock && s.mor.vioRst.isSome && !s.mor.trip && s.otp.feat.getLsbD 8 && epBayOk s j &&
  (match outDom s (48 + j) with
   | none => false
   | some d => unverOk s d || imgsPass s d)

/-- The domain of PERST_N_jj carries UNVERIFIED_OK. -/
def epUnver (s : State) (j : Nat) : Bool := match outDom s (48 + j) with
  | some d => unverOk s d
  | none => false

/-- The seal of an endpoint is lifted by the Release of its UNVERIFIED_OK domain, whose record 0x0202 still waits (R112, R301). -/
def sealLifting (s : State) (j : Nat) : Bool := (epOf s j).releaseDue && epUnver s j

/-- The endpoint is under Vat custody (R112). -/
def underVat (s : State) (j : Nat) : Bool := inVat (epOf s j).st && !sealLifting s j

/-- Vat grants whose conditions no longer hold are withdrawn, also where record 0x0202 still waits (R112, R113, R118). -/
def vatWithdraw (s : State) : State := each ((epsAll s).filter (fun j => underVat s j && !vatCond s j)) epUnvat s

/-- An endpoint of a RELEASED domain that has been attested again after a trip is released (R112, R118, log entry 101). -/
def vatRelease (s : State) : State :=
  each ((epsAll s).filter (fun j => decide ((epOf s j).st = .attested) && !(epOf s j).releaseDue && (match outDom s (48 + j) with
      | some d => decide (domSt s d = .released)
      | none => false)))
    (fun j s => match outDom s (48 + j) with
      | some d => epRelease d j s
      | none => s) s

/-- Vat grants are given: PERST_N high, the endpoint in VAT (R112, R298); none without the Evidence units and a crossbar plane in service,
which the attestation needs (R32, log entry 131). -/
def vatGrant (s : State) : State :=
  each ((epsAll s).filter (fun j => decide ((epOf s j).st = .isSealed) && !(epOf s j).releaseDue && vatCond s j
      && evidUnits s && decide (s.fab.planes ≠ 0)))
    (fun j => upEp j (fun e => { e with st := .vat })) s

/-- A CONTAINED endpoint whose link is in L0, with the trip cleared and no cause CHANGED, goes on to RECHECK (R298); one
that the host contained through DPC waits for the host (R299). -/
def recheckDue (s : State) (j : Nat) : Bool :=
  let e := epOf s j
  decide (e.st = .contained) && e.link && !s.mor.trip && !e.causes.changed && !e.hostDpc

/-- CONTAINED to RECHECK. After a hot reset, or a link loss before or during the containment, the re-check waits t_EPWAIT
(R306). -/
def recheckGo (s : State) : State :=
  each ((epsAll s).filter (recheckDue s))
    (fun j s => epRecheck id ((epOf s j).causes.link || (epOf s j).causes.hotReset || (epOf s j).causes.trip || (epOf s j).relink) j s) s

/-- A domain that waits only for the trip to be cleared (R102), by depth of PREREQ. Two points are the model's own reading (log entry
66): the condition that VIO_RST is good, without which the clear alone would not let the domain go on, and that a TRIP_HOLD domain
which is HELD because the trip came before its attributes were written (R516) counts here as any other, so only if it holds
endpoints. -/
def waitsClear (s : State) : Nat → Nat → Bool
  | 0, _ => false
  | n + 1, d =>
    s.mor.trip && decide (domSt s d = .held) && !unverOk s d && imgsPass s d && decide (domEps s d ≠ [])
    && s.mor.vioRst.isSome
    && (domEps s d).all (fun j => decide ((epOf s j).st = .isSealed) && epBayOk s j)
    && (prereqs s d).all (fun p => decide (domSt s p = .released) || decide (domSt s p = .tripHeld) || waitsClear s n p)

/-- R101 and R374: a domain is decided, or TRIP_HELD. -/
def decided (s : State) (d : Nat) : Bool :=
  decide (domSt s d = .released) || decide (tabGet 0 s.mor.final d ≠ 0) || decide (domSt s d = .tripHeld)
  || waitsClear s 33 d

/-- Every domain in use is decided (R101). -/
def allDecidedNow (s : State) : Bool := (domsUsed s).all (decided s) && !(domsUsed s).isEmpty

/-- The Boot Record of the start is closed and signed (R374, R375). -/
def brClosed (s : State) : Bool := decide (s.ev.brPhase = .signed) || s.ev.brStart.isSome

/-- The start phase after what has just happened (R101): RUN as the last domain is decided, or later, once the Boot Record is
closed, as the last held domain is released again. -/
def phaseNow (s : State) : Nat :=
  let l := domsUsed s
  let allRel := l.all (fun d => decide (domSt s d = .released))
  let anyRel := l.any (fun d => decide (domSt s d = .released))
  if s.mor.phase < 2 then s.mor.phase
  else if allRel && !l.isEmpty && (decide (s.mor.phase = 4) || !s.mor.allDecided || brClosed s) then 4
  else if s.mor.phase = 2 && !anyRel && !allDecidedNow s then 2
  else 3

/-- The phase register follows, and the start remembers that its last domain has been decided. -/
def phaseStep (s : State) : State :=
  upMor (fun m => { m with phase := phaseNow s, allDecided := m.allDecided || (decide (2 ≤ m.phase) && allDecidedNow s) }) s

/-- CUST_STAT RECOVER: a restore action runs (R100, R270). -/
def recovering (s : State) : Bool :=
  s.imgs.cells.any (fun c => decide (c.2.st = .recovering) && (decide (c.2.action = 1) || decide (c.2.action = 2)))

/-- CUST_STAT (R100). -/
def custStat (s : State) : Nat :=
  if s.mor.trip then 6 else if s.mor.floorCause ≠ 0 then 7 else if recovering s then 5
  else if !s.mor.latched then 0 else s.mor.phase

/-- FEAT_CRIT.FABRIC_EN as latched (R138). -/
def fabricEn (s : State) : Bool := s.otp.feat.getLsbD 8

/-- The units in service (R464): pairs, DGA engines, Signature Engines, Lake channels, Persistence banks, custody channels in
REPLAY or READY, planes, slices in bays in service, bays. -/
def nPairs (s : State) : Nat := b2n s.sc.pairA + b2n s.sc.pairB
def nDga (s : State) : Nat := (bitsOf s.dga.engines).length
def nSig (s : State) : Nat := b2n s.sig0.inService + b2n s.sig1.inService
def nLake (s : State) : Nat := (bitsOf s.lake.active).length
def nBanks (s : State) : Nat := (bitsOf s.pa.bank).length
def nCch (s : State) : Nat := countIf (fun c : Nat × Channel => decide (c.2.st = .replay) || decide (c.2.st = .ready)) s.chans.cells
def nPlanes (s : State) : Nat := if fabricEn s then (bitsOf s.fab.planes).length else 0
def nSlices (s : State) : Nat := if fabricEn s then countIf (fun i => bayUp s (i / 3)) (bitsOf s.fab.slices) else 0
def nBays (s : State) : Nat := if fabricEn s then (bitsOf s.fab.bays).length else 0

/-- LAKE_STATUS.MODE. -/
def lakeModeCode (s : State) : Nat := match s.lake.mode with
  | .off => 0
  | .normal => 1
  | .parity => 2
  | .out => 3

/-- The UNITS bytes of the Boot Record (R372). -/
def unitBytes (s : State) : Bytes :=
  [nPairs s, nDga s, nSig s, nLake s, lakeModeCode s, nBanks s, nCch s, nPlanes s, nSlices s, nBays s].map (BitVec.ofNat 8) ++ zeros 6

/-- STATE of GATE_EP_STATE. -/
def epCode : EpState → Nat
  | .isSealed => 1
  | .vat => 2
  | .attesting => 3
  | .attested => 4
  | .refused => 5
  | .opened => 6
  | .recheck => 7
  | .contained => 8

/-- What a Boot Record gives of an endpoint (R301, R373). -/
def epEntry (s : State) (j : Nat) : Nat × Nat × Nat × Bytes := (j, epCode (epOf s j).st, (epOf s j).spdmVer, (epOf s j).measDigest)

/-- What a Boot Record that closes now takes (R301, R372, R464). -/
def brNow (s : State) (e : Evid) : BrAt := ⟨custStat s, s.mor.phase, evUs s.aot e, unitBytes s, (epsAll s).map (epEntry s)⟩

/-- Steps 2 and 3 of R374: each open block that holds anything closes, and the close waits for the chain head of what it closed; with
nothing closed the chain head is that of this moment (R372). -/
def brBegin (a : BrAt) (e : Evid) : Evid :=
  let e1 := evCloseBoth 3 e
  brHeadStep { e1 with brPhase := .closing, brAt := some a, brLeft := if e1.chainQ.length = e.chainQ.length then 0 else e1.chainQ.length, brHead := none }

/-- Step 1 of R374: every nonzero SUPPRESSED count is written. -/
def brCounts (now : Nat) (e : Evid) : Evid := evDrain now (evFlushSuppressed e)

/-- Step 1 is done: no count waits for space, nor the first record of the epoch, whose SEQ the Boot Record gives (R362, R372, R374). -/
def brCounted (e : Evid) : Bool := !(e.inflight ++ e.waiting).any (fun w => [0x0f01, 0x0f02, 0x0f04].contains w.code)

/-- The Boot Record close begins once every domain in use is decided or TRIP_HELD (R374, steps 1 and 2), or again after an S event at once
for an epoch begun by a re-key (R375). -/
def brClose (s : State) : State :=
  if s.ev.begun && fwRuns s && paOk s && decide (s.ev.brPhase = .none) && decide (2 ≤ s.mor.phase)
      && (allDecidedNow s || s.ev.brStart.isSome) then
    let e := brCounts s.aot s.ev
    upEv (fun _ => if brCounted e then brBegin (brNow s e) e else e) s
  else s

/-! ### The Vault's place in custody -/

/-- The PERST_N number of the VAULT endpoint. -/
def vaultEp (s : State) : Option Nat :=
  match s.run.policy with
  | none => none
  | some p => match p.fabric.find? (fun r => decide (r.role = 3)) with
    | none => none
    | some r => (polEndpointAt p r.port).map (fun e => e.perst)

/-- The VAULT endpoint is OPEN. -/
def vaultOpen (s : State) : Bool :=
  match vaultEp s with
  | some j => decide ((epOf s j).st = .opened)
  | none => false

/-- N, G and ARCH_CBS of a namespace (R377, R378). -/
def vaultN (n : Namespace) : Nat := min n.blocks (2 ^ 33)
def vaultG (n : Namespace) : Nat := 256 * (vaultN n / 1024)
def vaultArch (n : Namespace) : Nat := (vaultN n - (1048576 + vaultG n)) / 16

/-- An LBA format that meets R377: 4,096 data bytes, 64 metadata bytes or more, protection information disabled. -/
def lbaOk (f : LbaFormat) : Bool := decide (f.data = 4096) && decide (64 ≤ f.meta') && !f.protInfo

/-- The namespace meets R377 with a format it has or can take. -/
def vaultFits (n : Namespace) : Bool := decide (16777216 ≤ n.blocks) && (lbaOk n.format || n.formats.any lbaOk)

/-! ### Vault blocks (R365, R378, R379) -/

/-- The first block of each part of the layout (R378): a superblock copy, the directory block of an object, a Boot Record, a
checkpoint slot, golden data, and an archive position. -/
def lbaSuper (i : Nat) : Nat := i
def lbaDir (obj : Nat) : Nat := 256 + obj / 32
def lbaBoot (epoch : Nat) : Nat := 4096 + 8 * (epoch % 65536)
def lbaCkpt (k : Nat) : Nat := 528384 + 82432 * k
def lbaGolden : Nat := 1048576
def lbaArch (n : Namespace) (pos : Nat) : Nat := lbaGolden + vaultG n + 16 * pos

/-- KIND of R379. -/
def kindSuper : Nat := 1
def kindDir : Nat := 2
def kindBoot : Nat := 3
def kindCkpt : Nat := 4
def kindGolden : Nat := 5
def kindJournal : Nat := 6

/-- The GCM nonce of a block (R365). -/
def vaultNonce (epoch blockNo : Nat) : Bytes := le 4 epoch ++ le 8 blockNo

/-- Metadata bytes 0 to 31 of a block, which are its additional data (R379). -/
def vaultAad (epoch kind blockNo lba : Nat) : Bytes := le 4 epoch ++ le 1 kind ++ le 3 0 ++ le 8 blockNo ++ le 8 lba ++ le 8 0

/-- Bytes combined with a key stream. -/
def xorBytes (a b : Bytes) : Bytes := List.zipWith (· ^^^ ·) a (fit a.length b)

/-- A block as it is written: its 4,096 bytes, encrypted but for a superblock's, and its first 64 metadata bytes (R379). -/
def vaultBlock (key : Bytes) (epoch kind blockNo lba : Nat) (plain : Bytes) : Bytes × Bytes :=
  let nonce := vaultNonce epoch blockNo
  let aad := vaultAad epoch kind blockNo lba
  let c := if kind = kindSuper then plain else xorBytes plain (gcmStream key nonce)
  let tag := if kind = kindSuper then gcmTag key nonce (aad ++ plain) [] else gcmTag key nonce aad c
  (c, aad ++ fit 16 tag ++ zeros 16)

/-- A block as it is read at an LBA: unreadable when its LBA field differs from the address or its TAG fails (R379). -/
def vaultOpenBlock (key : Bytes) (lba : Nat) (b : Bytes × Bytes) : Option Bytes :=
  let aad := b.2.take 32
  let nonce := aad.take 4 ++ (aad.drop 8).take 8
  let sb := decide ((aad.drop 4).take 1 = le 1 kindSuper)
  let tag := if sb then gcmTag key nonce (aad ++ b.1) [] else gcmTag key nonce aad b.1
  if (aad.drop 16).take 8 ≠ le 8 lba ∨ (b.2.drop 32).take 16 ≠ fit 16 tag then none
  else some (if sb then b.1 else xorBytes b.1 (gcmStream key nonce))

/-- The run a block was last written in. -/
def vaultRunOf (v : Vault) (lba : Nat) : Option VRun := v.runs.find? (fun r => decide (r.lba ≤ lba) && decide (lba < r.lba + r.count))

/-- The directory block of objects 32k to 32k + 31, and the 128 bytes of an entry (R381): STATE valid, KIND golden image. -/
def dirEntry (obj : Nat) (o : VaultObj) : Bytes :=
  le 4 obj ++ le 1 1 ++ le 1 1 ++ le 2 o.slot ++ le 8 o.length ++ le 8 o.firstLba ++ fit 48 o.digest ++ zeros 56
def dirBlock (v : Vault) (k : Nat) : Bytes := (List.range 32).flatMap (fun i => match tabGet none v.objects (32 * k + i) with
  | some o => dirEntry (32 * k + i) o
  | none => zeros 128)

/-- The 4,096 bytes of a superblock copy (R380). -/
def sbBytes (b : Superblock) : Bytes :=
  fit 4096 (le 4 0x54565946 ++ le 2 1 ++ le 2 0 ++ fit 16 b.deviceId ++ le 1 b.lcCount ++ zeros 7 ++ le 8 b.n ++ le 8 b.g ++ le 8 b.archCbs)

/-- The bytes of a checkpoint: the ledger region, then the Counter Bank (R384). -/
@[irreducible] def ckptBytes (c : CkptCopy) : Bytes :=
  (List.range 5242880).flatMap (fun i => fit 64 (tabGet (zeros 64) c.ledgers i)) ++ (List.range 262144).flatMap (fun i => fit 8 (tabGet (zeros 8) c.counters i))

/-- The 4,096 plain bytes of a block, by the layout of R378. -/
def vaultPlain (s : State) (lba : Nat) : Bytes :=
  let v := s.vault
  let at' := fun (first : Nat) (b : Bytes) => fit 4096 (b.drop (4096 * (lba - first)))
  if lba < 2 then match (if lba = 0 then v.sb0 else v.sb1) with
    | some b => sbBytes b
    | none => zeros 4096
  else if lba < 2304 then dirBlock v (lba - 256)
  else if lba < 528384 then match tabGet none v.bootRecs ((lba - 4096) / 8) with
    | some r => at' (lbaBoot ((lba - 4096) / 8)) r.2
    | none => zeros 4096
  else if lba < 693248 then match tabGet none v.ckpts ((lba - 528384) / 82432) with
    | some c => at' (lbaCkpt ((lba - 528384) / 82432)) (ckptBytes c)
    | none => zeros 4096
  else if lba < lbaGolden + vaultG v.ns then
    match v.objects.cells.findSome? (fun c => match c.2 with
      | some o => if o.firstLba ≤ lba ∧ lba < o.firstLba + ceilDiv o.length 4096 then some o else none
      | none => none) with
    | some o => at' o.firstLba (cellBytes o.content 0 o.length)
    | none => zeros 4096
  else match tabGet none v.arch ((lba - (lbaGolden + vaultG v.ns)) / 16) with
    | some b => at' (lbaArch v.ns ((lba - (lbaGolden + vaultG v.ns)) / 16)) (blockBytes (devId s) b)
    | none => zeros 4096

/-- A block as it stands on the drive: encrypted under the key of its epoch and the latched count it was written under, with its metadata
(R365, R379). -/
def vaultOnDrive (s : State) (r : VRun) (lba : Nat) : Bytes × Bytes :=
  vaultBlock (vaultKeyAt s r.lc r.epoch) r.epoch r.kind (r.blockNo + (lba - r.lba)) lba (vaultPlain s lba)

/-- A block as the device reads it, none where it is unreadable (R365, R379): what the drive returned for it, or else what was written
there. It is unreadable where it was never written, was written under another latched count, whose key the device does not derive, or fails
its checks. -/
def vaultFetch (back : List DriveBlock) (s : State) (lba : Nat) : Option Bytes :=
  match back.find? (fun b => decide (b.lba = lba)), vaultRunOf s.vault lba with
  | some b, _ => vaultOpenBlock (vaultKey s (unle (b.info.take 4))) lba (fit 4096 b.data, fit 64 b.info)
  | none, some r => if r.lc = s.otp.countLatched then vaultOpenBlock (vaultKey s r.epoch) lba (vaultOnDrive s r lba) else none
  | none, none => none

/-- A block of the Vault is readable, and n blocks from one on. -/
def vaultReadable (back : List DriveBlock) (s : State) (lba : Nat) : Bool := (vaultFetch back s lba).isSome
def vaultReadableN (back : List DriveBlock) (s : State) (lba n : Nat) : Bool := (List.range n).all (fun i => vaultReadable back s (lba + i))

/-- The superblock that the bytes of a copy hold, where MAGIC and VERSION are right (R380). -/
def sbParse (b : Bytes) : Option Superblock :=
  let f := fun a n => unle (fit n (b.drop a))
  if f 0 4 = 0x54565946 ∧ f 4 2 = 1 then some ⟨fit 16 (b.drop 8), f 24 1, f 32 8, f 40 8, f 48 8⟩ else none

/-- Superblock copy i as it is read: `stored` where the drive returns it as it was written. -/
def sbRead (back : List DriveBlock) (s : State) (i : Nat) (stored : Option Superblock) : Option Superblock :=
  if back.any (fun b => decide (b.lba = lbaSuper i)) then (vaultFetch back s (lbaSuper i)).bind sbParse
  else if vaultReadable [] s (lbaSuper i) then stored else none

/-- Superblock copy i is accepted (R380). -/
def sbOk (back : List DriveBlock) (s : State) (i : Nat) (stored : Option Superblock) : Bool :=
  match sbRead back s i stored with
  | none => false
  | some b => lbaOk s.vault.ns.format && decide (b.deviceId = devId s) && decide (b.lcCount = s.otp.countLatched)
      && decide (b.n = vaultN s.vault.ns) && decide (b.g = vaultG s.vault.ns) && decide (b.archCbs = vaultArch s.vault.ns)

/-- A judgement that reads the Vault fails when the Vault is OUT. -/
def vaultStreamFail (i : Img) : Img :=
  { i with stream := i.stream.map (fun t => if t.src = .vault then { t with failed := true } else t) }

/-- Bytes 0 to 2 of every Kelnyx vendor message (R507): MSG_TYPE 0x7E with the IC bit 0, then VENDOR_ID 0x4B, 0x58. -/
def vendorHead : Bytes := [0x7e, 0x4b, 0x58]

/-- The bytes of a response (R507): VERSION 1, REQUEST 0 with the INSTANCE echoed, the COMMAND answered, DEVICE_STATUS, RSVD, and a body
that begins with RESULT and 3 bytes of 0. -/
def vendorResponse (cmd flags status result : Nat) (body : Bytes) : Bytes :=
  vendorHead ++ le 1 1 ++ le 1 (flags % 32) ++ le 1 cmd ++ le 1 status ++ le 1 0 ++ le 1 result ++ zeros 3 ++ body

/-- A response of a management port that comes after its request's own command (R385, R507). -/
def lateAnswer (b : Bool) (cmd flags result : Nat) (body : Bytes) (s : State) : State :=
  let f := fun (m : Mgt) => { m with late := some (vendorResponse cmd flags s.mor.floorCause result body) }
  if b then { s with mgtB := f s.mgtB } else { s with mgtA := f s.mgtA }

/-- The COMMAND of a request whose answer is read from the Vault (R385). -/
def readCmd : VaultRead → Nat
  | .block _ _ _ => 0x21
  | .boot _ _ _ => 0x24

/-- The commands not yet complete end with the Vault: what they were to write is as it was, and a management port's read gives ABSENT
(R385). -/
def nvmeDrop (s : State) : State :=
  s.vault.nvme.foldl (fun s c => match c.use with
    | .mgtRead b f q => lateAnswer b (readCmd q) f 2 [] s
    | _ => s) (upVault (fun v => { v with nvme := [], resetting := false, sbBack := [], ckpt := none }) s)

/-- A change of Vault state with its record 0x0F05. STATE 3 is INITIALISED, which is no state of the register. -/
def vaultSet (st : VaultState) (code cause : Nat) (s : State) : State :=
  let s1 := if st = .out then upImgs (fun t => ⟨t.cells.map (fun c => (c.1, vaultStreamFail c.2))⟩) s else s
  emit 0x0f05 8 (le 1 code ++ le 1 cause ++ le 2 0 ++ le 8 s.vault.ns.blocks)
    (upVault (fun v => { v with state := st, cause := cause }) s1)

/-- NVMe commands that write no block are issued (R377, R383). -/
def nvmeIssue (l : List NvmeUse) (s : State) : State :=
  upVault (fun v => { v with nvme := v.nvme ++ l.map (fun u => ⟨u, 1, false, 1, none⟩) }) s

/-- A forced re-key (R367, R375): a new epoch with CAUSE 0x02, BLOCK_NO and SEAL_NO from 0, and a Boot Record of its own when the
start's is signed already, or else the start's is built in it; a journal that cannot advance is sealed and the Vault is READ_ONLY
(R368). -/
def rekey (s : State) : State :=
  let signed := decide (s.ev.brPhase = .signed)
  let e1 := evBeginEpoch s.aot 2 s.otp.countLatched (devId s) s.ev
  if e1.isSealed then
    let s1 := upEv (fun _ => e1) s
    if s.vault.state = .inService then vaultSet .readOnly 4 5 s1 else s1
  else
    let e2 : Evid := if signed then { e1 with brPhase := .none, brStart := some (e1.brStart.getD e1.br), br := [] } else { e1 with brPhase := .none }
    brClose (upNrx (fun n => { n with sealNo := 0, sealEnd := 0 })
      (upVault (fun v => { v with blockNo := 0, runEnd := 0 }) (upEv (fun _ => e2) s)))

/-- A run of blocks takes the place of what was written there. -/
def putRun (r : VRun) (l : List VRun) : List VRun :=
  r :: l.filter (fun x => decide (x.lba < r.lba) || decide (r.lba + r.count < x.lba + x.count))

/-- BLOCK_NO has reached 2^64 − 2^20: a new epoch begins at once (R367), unless the journal is sealed already (R368). -/
def blockNoLimit (s : State) : State := if 2 ^ 64 - 2 ^ 20 ≤ s.vault.blockNo ∧ s.ev.isSealed = false then rekey s else s

/-- n Vault blocks are to be written: BLOCK_NO advances, in reserved runs of 65,536 (R365 to R367). -/
def useBlocks (n : Nat) (s : State) : State :=
  blockNoLimit (upVault (fun v => { v with blockNo := v.blockNo + n, runEnd := max v.runEnd (roundUp (v.blockNo + n) 65536) }) s)

/-- The writes of a use are issued, `cmds` commands for n blocks from an LBA with a KIND: they take their nonces now, under the current
epoch (R365 to R367, R378, R379). Once the journal is sealed nothing is written (R368). -/
def nvmeWrite (u : NvmeUse) (cmds kind lba n : Nat) (s : State) : State :=
  if s.ev.isSealed then s
  else useBlocks n (upVault (fun v => { v with nvme := v.nvme ++ [⟨u, 1, false, cmds, some ⟨lba, n, s.ev.epoch, kind, v.blockNo, s.otp.countLatched⟩⟩] }) s)

/-- The Boot Record of an epoch is written to the store, 8 blocks (R376, R378). -/
def writeBoot (epoch : Nat) (s : State) : State := nvmeWrite (.bootRecord epoch) 8 kindBoot (lbaBoot epoch) 8 s

/-- The state of a Vault that is coming into service: READ_ONLY while the journal is sealed (R368). Boot Records that wait
for it are written (R376). -/
def vaultServe (s : State) : State :=
  if s.ev.isSealed then vaultSet .readOnly 4 5 s
  else each (s.vault.brDue.map (fun b => b.1)) writeBoot (vaultSet .inService 1 0 s)

/-- What Format NVM leaves of the format (R380): one that meets R377. -/
def vaultFormat (n : Namespace) : Namespace := if lbaOk n.format then n else { n with format := (n.formats.find? lbaOk).getD n.format }

/-- The superblock of this device, count and namespace (R380). -/
def sbOwn (s : State) : Superblock := ⟨devId s, s.otp.countLatched, vaultN s.vault.ns, vaultG s.vault.ns, vaultArch s.vault.ns⟩

/-- Initialisation of the Vault begins (R380): Format NVM if the format does not meet R377, then an empty directory of 2,048 blocks and both
superblock copies. Where a Flush is issued the manual does not say (log entry 120). -/
def vaultInit (s : State) : State :=
  let s1 := nvmeIssue (if lbaOk s.vault.ns.format then [] else [.format]) s
  let s2 := nvmeWrite (.writeSuper 1) 1 kindSuper (lbaSuper 1) 1 (nvmeWrite (.writeSuper 0) 1 kindSuper (lbaSuper 0) 1
    (nvmeWrite .writeDirs 2048 kindDir (lbaDir 0) 2048 s1))
  if s2.ev.isSealed then vaultSet .readOnly 4 5 s2 else nvmeIssue [.flush] s2

/-- Both superblock copies have been read (R380): the Vault is accepted, or is initialised, or is left OUT because its namespace cannot meet
R377. Nothing is written to it while the journal is sealed (R368). -/
def vaultAccept (back : List DriveBlock) (s : State) : State :=
  if sbOk back s 0 s.vault.sb0 || sbOk back s 1 s.vault.sb1 then vaultServe (upVault (fun v => { v with accepted := true }) s)
  else if !vaultFits s.vault.ns then vaultSet .out 2 3 s
  else if s.ev.isSealed then vaultSet .readOnly 4 5 s
  else vaultInit s

/-- The Vault follows its endpoint (R377, R380, R383): when it becomes OPEN the controller is brought up and the superblocks are read; OUT
when it leaves OPEN. A debug session makes Vault reads wait (R389). -/
def vaultSync (s : State) : State :=
  let v := s.vault
  if vaultOpen s then
    if decide (v.state = .out) && !v.failed && s.otp.session.isNone && decide (v.cause ≠ 3) && v.nvme.isEmpty then
      nvmeIssue [.identify, .setQueues, .createCq, .createSq, .readSuper 0, .readSuper 1] s
    else s
  else if v.state ≠ .out then vaultSet .out 2 1 (upVault (fun v => { v with accepted := false }) (nvmeDrop s))
  else if v.nvme.isEmpty then s else nvmeDrop s

/-- An alert to the BMC on one port: an IBI sequence in I3C mode unless ALERT_N is low or one runs, ALERT_N low in SMBus
mode (R474, R475). -/
def alertPort (m : Mgt) : Mgt :=
  match m.mode with
  | .i3c => if m.alertLow || m.ibi.isSome then m else { m with ibi := some 1 }
  | .smbus => { m with alertLow := true }

/-- An alert on both management ports. -/
def alertBoth (s : State) : State := { s with mgtA := alertPort s.mgtA, mgtB := alertPort s.mgtB }

/-- How many thresholds a reading in quarter degrees has reached: 105 °C, 110 °C, 120 °C (R496). -/
def tempLevel (t : Temp) : Nat :=
  if !t.valid then 0 else b2n (decide (420 ≤ t.reading.toInt)) + b2n (decide (440 ≤ t.reading.toInt)) + b2n (decide (480 ≤ t.reading.toInt))

/-- The PLDM numeric sensor of the management ports: its reading in quarter degrees, none before the first, and its state, the thresholds
reached (R496). -/
def tempSensor (s : State) : Option Int × Nat := (if s.temp.valid then some s.temp.reading.toInt else none, tempLevel s.temp)

/-- Firmware that finds the reading across a threshold since it last looked sends the PLDM event and raises the alert (R474, R496). -/
def tempAlert (s : State) : State :=
  if fwRuns s && decide (tempLevel s.temp ≠ s.temp.told) then
    let s1 := alertBoth s
    let l := tempLevel s.temp
    { s1 with temp := { s1.temp with told := l }, mgtA := { s1.mgtA with sensorEvent := some l }, mgtB := { s1.mgtB with sensorEvent := some l } }
  else s

/-- The alert of HIGH, once each time the Fix Ring reaches it (R361); firmware raises it again after a restart (R474). -/
def highAlert (s : State) : State :=
  if 288 ≤ fixUsed s.ev then
    if !s.ev.highTold && fwRuns s then alertBoth (upEv (fun e => { e with highTold := true }) s) else s
  else if s.ev.highTold then upEv (fun e => { e with highTold := false }) s
  else s

/-- Everything the Mordant, the gate and the evidence unit do after an event until nothing more follows at once: holds,
Vat grants withdrawn, Releases, Vat grants, re-checks that begin, final holds, the phase, the Vault, the Boot Record
close. With no oscillator toggling nothing clocked happens (R514). -/
def settle (s : State) : State :=
  if !clocked s then s
  else
    let s1 := vatWithdraw (cascade 33 (vioHold s))
    let s2 := vatGrant (vatRelease (interlock 33 s1))
    let s3 := finalCascade 33 (recheckGo s2)
    highAlert (brClose (vaultSync (phaseStep s3)))

/-- The domains a trip moves to TRIP_HELD. -/
def tripList (s : State) : List Nat :=
  (domsListed s).filter (fun d => tripHold s d && decide (domSt s d ≠ .tripHeld))

/-- A TRIP_HOLD domain moves to TRIP_HELD; its release request is cleared if it was RELEASED (R105, R118). The devices that hold
its images are reset only when it leaves RELEASED (R226). -/
def tripDom (d : Nat) (s : State) : State :=
  let rel := decide (domSt s d = .released)
  let s1 := upMor (fun m => { m with dom := tabSet .held m.dom d .tripHeld, relReq := if rel then putBit m.relReq d false else m.relReq }) s
  if rel then domProtoReset d (domUnslot d s1) else domUnslot d s1

/-- The gate's part of a trip: endpoints that are OPEN or RECHECK are contained with cause TRIP, those of TRIP_HOLD domains only
while the Mordant has no clock to seal them in its next cycle, and every downstream transmitter is in electrical idle, so no
downstream link stays up (R118, R514). -/
def tripGate (s : State) : State :=
  let l := (epsAll s).filter (fun j => (decide ((epOf s j).st = .opened) || decide ((epOf s j).st = .recheck))
    && !(aocRuns s && (match outDom s (48 + j) with
        | some d => tripHold s d
        | none => false)))
  let s1 := each l (epContain (fun c => { c with trip := true })) s
  let s2 := each (epsAll s) (fun j => upEp j (fun e => { e with relink := e.relink || (e.link && decide (e.st = .contained)), link := false, epWait := false })) s1
  upFab (fun g => { g with links := ⟨g.links.cells.filter (fun c => match portRec s c.1 with
    | some r => decide (r.role = 1)
    | none => true)⟩ }) s2

/-- A Custody Trip source asserts (R116, R118, R119): the first sets the trip and acts; its record follows as
TRIP_RECORD. With both oscillators stopped the trip acts on the outputs alone and the domains move when one resumes. -/
def custodyTrip (src : Nat) (s : State) : State :=
  if !s.mor.latched then s
  else
    let mask := if s.mor.trip then 0 else maskOf 32 (tripList s)
    let s1 := upMor (fun m => { m with tripNotes := m.tripNotes ++ [⟨src, mask, !m.trip⟩] }) s
    if s.mor.trip then s1
    else
      let l := tripList s
      let s2 := tripGate (upMor (fun m => { m with trip := true, asyncTrip := !clocked s }) s1)
      if clocked s then settle (each l tripDom s2) else s2

/-- What the pad of a custody output does: high impedance, where the external pull-down holds the line low (R21, R80), or driven. -/
inductive Pad where
  | hiZ
  | low
  | high
deriving DecidableEq, Repr

/-- PERST_N_jj may be high: its seal is lifted, or is being lifted by the Release of an UNVERIFIED_OK domain, or it is under Vat custody
and no trip has acted without the clock (R105, R112, R118, R298, R301, R514). -/
def perstOn (s : State) (d j : Nat) : Bool :=
  (decide (domSt s d = .released) && (!sealSet (epOf s j).st || sealLifting s j)) || (underVat s j && !s.mor.asyncTrip)

/-- The Mordant's output enables let an output be high (R23, R105, R112, R514). -/
def outOn (s : State) (o : Nat) : Bool :=
  match outDom s o with
  | none => false
  | some d => !(s.mor.trip && tripHold s d) && (if o < 48 then decide (domSt s d = .released) else perstOn s d (o - 48))

/-- The pad of an output: at high impedance without VSEC or while VIO_RST is not good (R80, R94, R515), low where a boundary-scan
cell drives it low (R18) or a loss of VIO_RST has still to be acted on (R81, log entry 67), else as the Mordant drives it. -/
def pad (s : State) (o : Nat) : Pad :=
  if !s.mor.vsec || s.mor.vioRst.isNone then .hiZ
  else if s.mor.bscan.getLsbD o || s.mor.vioLost || !outOn s o then .low
  else .high

/-- The level of an output's line: false is low. -/
def outLevel (s : State) (o : Nat) : Bool := decide (pad s o = .high)

/-- A pair executes: the main set is good, self-test has passed the core set, and the active pair is in service. -/
def pairRuns (s : State) : Bool := s.sc.mainGood && !s.sc.holdOnly && (if s.sc.active then s.sc.pairB else s.sc.pairA)

/-- ROM keeps control (R125, R214, R461): in FLOOR, while it waits for replay before step 6, or in a start that stays in HOLD. -/
def romRuns (s : State) : Bool :=
  (decide (s.mor.floorCause ≠ 0) || decide (s.mor.phase = 1)) && !s.sc.selfTestDue && !s.sc.restartDue

/-- A core can access registers (R424, R426, R436): a pair executes, no switch is under way, and firmware has started or ROM keeps
control. -/
def coreRuns (s : State) : Bool :=
  pairRuns s && !s.sc.switching && !s.sc.halted && !s.sic.retention && (s.sc.running || romRuns s)

/-- A serve: the counter is reloaded and the time recorded (R438). One that meets the counter at zero is no serve: the counter has
expired (R460). -/
def wdtServed (s : State) : State := if s.wdt.st = .running ∧ s.wdt.count = 0 then s else upWdt (fun w => { w with count := w.load, lastServe := s.aot }) s

/-- A trap: a core access ends in a bus error, and firmware stops serving the watchdog (R430). -/
def busError (s : State) : Out := answer .busError (upSc (fun c => { c with fault := true }) s)

/-- The end of the SRAM region that SC_SRAM_WP protects, and whether a write of n bytes meets it (R428). -/
def sramProtected (s : State) : Nat := 0x10000000 + 65536 * s.sc.sramLimit.getD 0
def sramHits (s : State) (a n : Nat) : Bool := decide (0 < n) && decide (0x10000000 ≤ a) && decide (a < sramProtected s)

/-- A command whose writes to SRAM, at address and length, have been made: one into the protected region ended in a bus error. -/
def sramDone (w : List (Nat × Nat)) (s t : State) : Out := if w.any (fun x => sramHits s x.1 x.2) then answer .busError t else done t

/-- A core access to a Mordant register: a bus error while no oscillator toggles (R514). -/
def mordantAccess (s : State) (o : Out) : Out :=
  if aocRuns s then o else busError s

/-- A write of a Mordant register that firmware makes on its own: with no oscillator toggling it has no effect and firmware traps
(R428, R430, R514). -/
def mordantWrite (f : State → State) (s : State) : State :=
  if aocRuns s then f s else upSc (fun c => { c with fault := true }) s

end Sys2Proof.Machine
end

