-- ==== Sys2Proof/Machine/ChannelOps.lean ====
section
/-!
DEFINITION. What the custody channels do (chapter 06): entry checks, the Lock Map check, arbitration, stops, calibration,
commits and scrub, as operations the commands share.
-/

namespace Sys2Proof.Machine

open Sys2Proof

/-! ### Queue entries and configuration -/

/-- The fields of CTRL (R201). -/
def qTag (e : QEntry) : BitVec 8 := e.ctrl.extractLsb' 24 8
def qWaitWip (e : QEntry) : Bool := e.ctrl.getLsbD 22
def qProto (e : QEntry) : Nat := fieldOf e.ctrl 20 2
def qCont (e : QEntry) : Bool := e.ctrl.getLsbD 19
def qDev (e : QEntry) : Nat := b2n (e.ctrl.getLsbD 18)
def qDir (e : QEntry) : Bool := e.ctrl.getLsbD 17
def qDummy (e : QEntry) : Nat := fieldOf e.ctrl 11 6
def qAddrMode (e : QEntry) : Nat := fieldOf e.ctrl 9 2
def qOpEn (e : QEntry) : Bool := e.ctrl.getLsbD 8
def qOp (e : QEntry) : Nat := fieldOf e.ctrl 0 8

/-- The fields of CCH_CFG, CCH_OPS and CCH_GEOM. -/
def chWidth (c : Channel) : Nat := fieldOf c.cfg 0 4
def chDtr (c : Channel) : Bool := c.cfg.getLsbD 5
def chMode (c : Channel) : Nat := fieldOf c.cfg 6 2
def chStrobe (c : Channel) : Bool := c.cfg.getLsbD 8
def chDummy (c : Channel) : Nat := fieldOf c.cfg 10 6
def chClk (c : Channel) : Nat := fieldOf c.cfg 16 8
def chReadOp (c : Channel) : Nat := fieldOf c.ops 0 8
def chProgramOp (c : Channel) : Nat := fieldOf c.ops 8 8
def chEraseOp (c : Channel) : Nat := fieldOf c.ops 16 8
def chEraseLog2 (c : Channel) : Nat := fieldOf c.geom 16 5
def chPageLog2 (c : Channel) : Nat := fieldOf c.geom 24 4

/-- CCH_CFG, CCH_OPS and CCH_GEOM of a CHANNELS record (R164). -/
def chCfgWord (r : ChannelRec) : BitVec 32 :=
  packWord [(0, r.width), (5, b2n (r.flags.testBit 0)), (6, r.flags / 2 % 4), (8, b2n (r.flags.testBit 3)),
    (9, b2n (decide (r.addrBytes = 4))), (10, r.dummy), (16, r.clkMhz)]
def chOpsWord (r : ChannelRec) : BitVec 32 := packWord [(0, r.readOp), (8, r.programOp), (16, r.eraseOp)]
def chGeomWord (r : ChannelRec) : BitVec 32 :=
  packWord [(0, r.size0), (8, r.size1), (16, r.eraseLog2), (24, r.pageLog2), (28, r.devices)]

/-- CFG_MODE in use: 0b11 falls back to 0b00 outside class 1V8 (R97). -/
def cfgMode (s : State) : Nat :=
  let m := s.mor.strap.toNat % 4
  if m = 3 ∧ (chanOf s 0).vio ≠ some .v18 then 0 else m

/-- CCH_CFG, CCH_OPS and CCH_GEOM of CCH_00 (R220). -/
def cfg00Words (m : Nat) : BitVec 32 × BitVec 32 × BitVec 32 :=
  let g := packWord [(16, 16), (24, 8), (28, 1)]
  match m with
  | 1 => (packWord [(0, 4), (9, 1), (10, 8), (16, 50)], packWord [(0, 0xec), (8, 0x12), (16, 0xdc)], g)
  | 2 => (packWord [(0, 8), (9, 1), (10, 20), (16, 50)], packWord [(0, 0xec), (8, 0x12), (16, 0xdc)], g)
  | 3 => (packWord [(0, 8), (5, 1), (9, 1), (10, 20), (16, 100)], packWord [(0, 0xee), (8, 0x12), (16, 0xdc)], g)
  | _ => (packWord [(0, 1), (9, 1), (16, 25)], packWord [(0, 0x13), (8, 0x12), (16, 0xdc)], g)

/-- The bank and configuration check of self-test: R190, R195 and the table of R196. -/
def chConfigOk (c : Channel) : Bool :=
  let w := chWidth c
  let str := !chDtr c
  [1, 2, 4, 8].contains w && (str || decide (4 ≤ w)) && decide (chDummy c ≤ 32) && (!chStrobe c || decide (w = 8))
  && (decide (chMode c = 0) || decide (chMode c = 3) || (str && decide (w ≠ 8) && decide (chClk c ≤ 50)))
  && (match c.vio with
      | none => false
      | some .v18 =>
        if str then decide (chClk c ≤ 133) && (decide (w = 8) || !chStrobe c)
        else if w = 4 then decide (chClk c ≤ 100) && !chStrobe c
        else decide (chClk c ≤ 200) && (decide (chClk c ≤ 100) || chStrobe c)
      | some _ => str && decide (chClk c ≤ 133) && !chStrobe c)

/-! ### The Lock Map -/

/-- Every byte from a up to hi lies in one of the segments (base, length). -/
def covered : Nat → List (Nat × Nat) → Nat → Nat → Bool
  | 0, _, a, hi => decide (hi ≤ a)
  | n + 1, segs, a, hi =>
    if hi ≤ a then true
    else match segs.find? (fun g => decide (g.1 ≤ a) && decide (a < g.1 + g.2)) with
      | none => false
      | some g => covered n segs (g.1 + g.2) hi

/-- The ranges of a device with their classes: LOCK_MAP records where it is presented, golden ranges as GUARDED where it
is not (R167, R210). Every other address is IMMUTABLE. -/
def lockRanges (p : PolicyImage) (ch dev : Nat) : List (Nat × Nat × Nat) :=
  if (polPresents p ch dev).isSome then
    (p.locks.filter (fun l => decide (l.channel = ch) && decide (l.device = dev))).map (fun l => (l.base, l.length, l.cls))
  else
    (p.recoveries.filter (fun r => recoveryHas r 1)).filterMap (fun r =>
      match polImage p r.slot with
      | some i => if i.channel = ch ∧ i.device = 1 - dev then some (r.goldenOffset, i.length, 2) else none
      | none => none)

/-- The classes a range touches. -/
def classesOf (p : PolicyImage) (ch dev addr len : Nat) : List Nat :=
  let rs := lockRanges p ch dev
  let hit := (rs.filter (fun r => overlaps r.1 r.2.1 addr len)).map (fun r => r.2.2)
  if covered (rs.length + 1) (rs.map (fun r => (r.1, r.2.1))) addr (addr + len) then hit else 1 :: hit

/-- R243: the effective class of the page at an address: a MUTABLE page whose backing erase block is not wholly MUTABLE
counts as IMMUTABLE. -/
def effClass (p : PolicyImage) (ch dev eraseLog2 addr : Nat) : Nat :=
  let c := (classesOf p ch dev (addr / 4096 * 4096) 4096).headD 1
  let blk := 2 ^ eraseLog2
  if c = 3 ∧ (classesOf p ch dev (addr / blk * blk) blk).any (fun q => decide (q ≠ 3)) then 1 else c

/-- A range lies in the update grant (R209, R279). -/
def inGrant (s : State) (k dev addr len : Nat) : Bool :=
  match s.grant with
  | none => false
  | some g => decide (g.channel = k) && decide (g.device = dev) && decide (g.base ≤ addr) && decide (addr + len ≤ g.base + g.length)

/-- R209 for a firmware entry: every class touched is GUARDED, within the update grant. The map must be armed (R211). -/
def fwLockOk (s : State) (k dev addr len : Nat) : Bool :=
  s.mor.lock &&
  (match s.run.policy with
   | none => false
   | some p => (classesOf p k dev addr len).all (fun c => decide (c = 2) && inGrant s k dev addr len))

/-- R209 for a commit frame; a replay runs under the class its entry holds (R214). -/
def commitLockOk (s : State) (j : CommitJob) (addr len : Nat) : Bool :=
  j.replay && decide (j.entry.cls = 3) ||
  (match s.run.policy with
   | none => false
   | some p => (classesOf p j.entry.channel j.entry.srcDevice addr len).all (fun c => decide (c = 3)))

/-! ### Firmware entries -/

/-- SRAM from 0x1000_0000, 8 MiB (R201, R429). -/
def inSram (a len : Nat) : Bool := decide (0x10000000 ≤ a) && decide (a + len ≤ 0x10800000)

/-- A firmware entry is an erase: ERASE_OP in a register frame, or the 4 KiB erase on CCH_00 (R208, R220). -/
def qIsErase (c : Channel) (k : Nat) (e : QEntry) : Bool :=
  decide (qProto e = 2) && (decide (qOp e = chEraseOp c) || (decide (k = 0) && decide (qOp e = 0x21)))

/-- The bytes an erase covers. -/
def qEraseLen (c : Channel) (k : Nat) (e : QEntry) : Nat :=
  if k = 0 ∧ qOp e = 0x21 then 4096 else 2 ^ chEraseLog2 c

/-- R208: the allow-list of firmware entries. -/
def fwOpOk (c : Channel) (k : Nat) (e : QEntry) : Bool :=
  let len := e.len.toNat
  let addr := e.addr.toNat
  qOpEn e && (decide (k ≠ 0) || decide (len ≤ 4096)) &&
  ((decide (qOp e = chReadOp c) && decide (qProto e = 0) && !qDir e)
  || ([0x05, 0x9f, 0x5a].contains (qOp e) && decide (qProto e = 2) && !qDir e && decide (len ≤ 512))
  || (decide (qOp e = chEraseOp c) && decide (qProto e = 2) && decide (len = 0) && decide (addr % 2 ^ chEraseLog2 c = 0))
  || (decide (k = 0) && decide (qOp e = 0x21) && decide (qProto e = 2) && decide (len = 0)
      && (decide (addr = 0) || decide (addr = 0x1000)))
  || (decide (qOp e = chProgramOp c) && decide (qProto e = 1) && qDir e && decide (len ≤ 2 ^ chPageLog2 c)
      && (decide (len = 0) || decide (addr / 2 ^ chPageLog2 c = (addr + len - 1) / 2 ^ chPageLog2 c))))

/-- How an entry stands to the one before it: the first of a frame, one that continues an open frame on a device, or one
whose frame has ended. -/
inductive EntryPlace where
  | first
  | continues (dev : Nat)
  | orphan
deriving DecidableEq, Repr

/-- The rule of R203, the device aside. -/
def contRule (e : QEntry) : Bool :=
  !qOpEn e && decide (qAddrMode e = 0) && decide (qDummy e = 0) && decide (e.addr = 0) && decide (qProto e = 0) && !qDir e

/-- R204: the REJECT status of an entry, if any, in the order of the list. An entry that follows one with CONT counts as a
continuation by its place, whatever its own fields; one whose frame has ended is held to R203 but for DEV (log entry 76). -/
def entryReject (s : State) (k : Nat) (pl : EntryPlace) (e : QEntry) : Option Nat :=
  let c := chanOf s k
  let len := e.len.toNat
  if len % 4 ≠ 0 ∨ 16777216 < len then some 1
  else if e.ctrl.getLsbD 23 || decide (qProto e = 3) || decide (32 < qDummy e) || decide (qAddrMode e = 3)
      || (decide (0 < len) && (decide (e.buf.toNat % 4 ≠ 0) || !inSram e.buf.toNat len))
      || (qCont e && !(decide (qProto e = 0) && !qDir e)) then some 2
  else match pl with
    | .continues d => if !(contRule e && decide (qDev e = d)) then some 2 else if k = 0 ∧ 4096 < len then some 3 else none
    | .orphan => if contRule e then some 5 else some 2
    | .first =>
      if !fwOpOk c k e then some 3
      else if decide (k ≠ 0) && qIsErase c k e && !fwLockOk s k (qDev e) e.addr.toNat (qEraseLen c k e) then some 4
      else if decide (k ≠ 0) && decide (qProto e = 1) && !fwLockOk s k (qDev e) e.addr.toNat len then some 4
      else none

/-- The firmware entries of the frame in progress. -/
def frameFw (c : Channel) : List QEntry :=
  match c.frame with
  | some f => if f.client = .firmware then f.entries else []
  | none => []

/-- Completion places reserved (R207). -/
def reserved (c : Channel) : Nat :=
  let w := fun (x : Option WipWait) => match x with
    | some y => b2n y.entry.isSome + b2n y.tail.isSome
    | none => 0
  (frameFw c).length + w c.wip0 + w c.wip1 +
  (match c.frame with
   | some f => b2n f.tail.isSome
   | none => 0)

/-- A place in the completion queue is free (R207). -/
def placeFree (c : Channel) : Bool := decide (c.cq.length + reserved c < 64)

/-- A firmware entry polls WIP: entries complete in order, so no later one runs (R206). -/
def fwPolls (c : Channel) : Bool :=
  (match c.wip0 with
   | some y => y.entry.isSome
   | none => false) ||
  (match c.wip1 with
   | some y => y.entry.isSome
   | none => false)

/-- A completion is written. -/
def complete (e : QEntry) (st : Nat) (c : Channel) : Channel := { c with cq := c.cq ++ [⟨qTag e, st⟩] }

/-- A rejected entry that follows the frame it ended completes after it (R206). -/
def completeTail (t : Option (QEntry × Nat)) (c : Channel) : Channel :=
  match t with
  | some (e, st) => complete e st c
  | none => c

/-- Entries at the head of the firmware queue that cannot run complete: STOPPED on a channel that is stopped or failed,
else their rejection (R204, R213), while a completion place is free. On a channel that is OFF, in SELFTEST or in REPLAY they
wait (log entry 77). Every entry of a channel that is stopped completes STOPPED, a continuation whose frame the stop ended too (log entry
110). -/
def fwAdvance (k : Nat) : Nat → State → State
  | 0, s => s
  | n + 1, s =>
    let c := chanOf s k
    match c.fwq with
    | [] => s
    | e :: r =>
      if !placeFree c then s
      else if c.st = .stopped ∨ c.st = .failed then
        fwAdvance k n (upChan k (fun c => { complete e 8 c with fwq := r, contBroken := false }) s)
      else if c.st ≠ .ready || !(frameFw c).isEmpty || fwPolls c then s
      else match entryReject s k (if c.contBroken then .orphan else .first) e with
        | none => s
        | some st => fwAdvance k n (upChan k (fun c => { complete e st c with fwq := r, contBroken := qCont e }) s)

/-- The update grant ends; firmware entries that wait on its channel are looked at again (R204, R279). -/
def grantEnd (s : State) : State :=
  match s.grant with
  | none => s
  | some g => fwAdvance g.channel 65 { s with grant := none }

/-! ### Images and devices of a channel -/

/-- The image slots on a channel. -/
def imgsOn (s : State) (k : Nat) : List Nat :=
  match s.run.policy with
  | none => []
  | some p => (p.images.filter (fun r => decide (r.channel = k))).map (fun r => r.slot)

/-- The domain of an image slot under the policy. -/
def slotDomain (s : State) (k : Nat) : Nat :=
  match imgRec s k with
  | some r => r.domain
  | none => 0

/-- An image reaches FINAL_HOLD and its domain becomes a final hold (R101, R266). -/
def imgFinal (cause slot : Nat) (s : State) : State :=
  markFinal cause (slotDomain s slot) (upImg slot (fun i => { i with st := .finalHold, stream := none, waitVault := false }) s)

/-- A channel that is FAILED or STOPPED: images still WAITING on it reach FINAL_HOLD with cause 0x04 (R35, R266). -/
def chanLost (k : Nat) (s : State) : State :=
  each ((imgsOn s k).filter (fun i => decide ((imgOf s i).st = .waiting))) (imgFinal 4) s

/-- A judgement that reads the channel fails with a frame that ended READ_FAIL or STOPPED (R262). -/
def failStreams (k : Nat) (s : State) : State :=
  each ((imgsOn s k).filter (fun i => match (imgOf s i).stream with
      | some st => decide (st.src = .half0) || decide (st.src = .half1) || decide (st.src = .golden)
      | none => false))
    (fun i => upImg i (fun g => { g with stream := g.stream.map (fun st => { st with failed := true }) })) s

/-- A commit ends with its entry left in the journal, which stops draining for that port (R248). -/
def commitLeave (k : Nat) (s : State) : State :=
  match (chanOf s k).commit with
  | none => s
  | some j =>
    let s1 := upChan k (fun c => { c with commit := none }) s
    let keep := fun (e : JEntry) => if e.id = j.entry.id then { e with kept := j.kept } else e
    if j.replay then { s1 with replay := s1.replay.map keep }
    else upPort j.entry.port (fun p => { p with halted := true, journal := p.journal.map keep }) s1

/-- The fill that waits for CCH_00 when that channel stops: its reads end STOPPED, and with the third the fill has failed (R213,
R217). -/
def fillStop (k : Nat) (s : State) : State :=
  if k = 0 then upXip (fun x => { x with fill := x.fill.map (fun g => { g with fails := 2, arrived := true, readOk := false }) }) s else s

/-- STOPPED (R213): the frame in progress is aborted, every entry completes STOPPED, a commit in progress stays in the
journal (R248), a pass ends. -/
def chanStop (k : Nat) (s : State) : State :=
  let c := chanOf s k
  if c.st = .ready ∨ c.st = .replay then
    let waits := fun (w : Option WipWait) (c : Channel) => match w with
      | some y => completeTail y.tail (y.entry.toList.foldl (fun c e => complete e 8 c) c)
      | none => c
    let cut := fun (c : Channel) => completeTail (c.frame.bind (fun f => f.tail)) ((frameFw c).foldl (fun c e => complete e 8 c)
      (waits c.wip1 (waits c.wip0 c)))
    let s1 := upChan k (fun c => { cut c with st := .stopped, frame := none, wip0 := none, wip1 := none, scrubActive := false, scrubLate := false, scrubAgain := [], scrubDefer := [] }) s
    chanLost k (failStreams k (fillStop k (fwAdvance k 65 (commitLeave k s1))))
  else s

/-- Bank low (R77): the channel stops, wherever its start has come to, until the next C event. One that is OFF stays OFF; where the policy
then names it, its self-test finds its bank in no class (R213, R214). -/
def bankStop (k : Nat) (s : State) : State :=
  match (chanOf s k).st with
  | .ready => chanStop k s
  | .replay => chanStop k s
  | .selftest => chanLost k (fwAdvance k 65 (upChan k (fun c => { c with st := .stopped }) s))
  | .off => upChan k (fun c => { c with vio := none }) s
  | .stopped => s
  | .failed => s

/-- FAILED at self-test or in REPLAY (R213). -/
def chanFail (k : Nat) (s : State) : State :=
  chanLost k (fwAdvance k 65 (upChan k (fun c => { c with st := .failed }) (commitLeave k s)))

/-- Bank low at a presentation port (R77, R225): its devices fail and writes not yet accepted are discarded. A port whose bank falls
before its devices load has no bank for them (R224). -/
def portFail (k : Nat) (s : State) : State :=
  each [emKey k 0, emKey k 1] (fun e => upEm e (fun d =>
    if d.st = .loading ∨ d.st = .serving then { d with st := .failed, pend := none } else d)) (upPort k (fun p => { p with vio := none }) s)

/-- The widest run of consecutive passing taps, as its first tap and its length; of equal runs the lowest (R198, log entry 78). -/
def tapRun (v : BitVec 64) : Nat × Nat :=
  ((List.range 64).foldl (fun (q : (Nat × Nat) × Nat) i =>
    if v.getLsbD i then (if q.1.2 < q.2 + 1 then (i - q.2, q.2 + 1) else q.1, q.2 + 1) else (q.1, 0)) ((0, 0), 0)).1

/-- A calibration succeeds when its run spans at least 8 taps (R198). -/
def tapsOk (v : BitVec 64) : Bool := decide (8 ≤ (tapRun v).2)

/-- The calibration that counts: the first, or its one repeat where that failed (R199); and whether it succeeded. -/
def calTaps (cal : Cal) : BitVec 64 := if tapsOk cal.first then cal.first else cal.again
def calPass (cal : Cal) : Bool := tapsOk (calTaps cal)

/-- The result of a calibration (R198, R199): the tap at the centre of the run, rounded down, and the width of the run; the tap
stays when it failed. -/
def calibrate (cal : Cal) (c : Channel) : Channel :=
  let r := tapRun (calTaps cal)
  if 8 ≤ r.2 then { c with calOk := true, tap := r.1 + (r.2 - 1) / 2, window := r.2, calDue := false }
  else { c with calOk := false, window := r.2, calDue := false }

/-- The channel calibrates: its clock is above 50 MHz (R198). -/
def calibrates (c : Channel) : Bool := decide (50 < chClk c)

/-- The checks of self-test (R214) on what it meets. A channel whose earlier check fails calibrates all the same (log entry 75).
CCH_GEOM states no size for the device of CCH_00, which has at least 64 MiB (R184). -/
def selfTestOk (k : Nat) (c : Channel) (t : ChanTest) : Bool :=
  let geoOk := fun (d dens : Nat) => !c.geom.getLsbD (28 + d) || decide ((if k = 0 then cfgSizeLog2 else fieldOf c.geom (8 * d) 6) ≤ dens)
  chConfigOk c && t.sfdp && geoOk 0 t.dens0 && geoOk 1 t.dens1 && (!calibrates c || calPass t.cal) && t.wip

/-! ### Commits -/

/-- The erase blocks of 2^g bytes an erase touches. -/
def blockList (g addr len : Nat) : List Nat :=
  (List.range ((addr + len + 2 ^ g - 1) / 2 ^ g - addr / 2 ^ g)).map (fun i => (addr / 2 ^ g + i) * 2 ^ g)

/-- Page programs over a range. -/
def programFrames (pg addr len : Nat) : List CommitFrame :=
  (blockList pg addr len).map (fun b => .program (max b addr) (min (b + 2 ^ pg) (addr + len) - max b addr))

/-- The backing frames of an entry (R246): page programs, or for each erase block its erase and the programs that put
back the bytes outside the emulated erase (R247). -/
def commitFrames (c : Channel) (e : JEntry) : List CommitFrame :=
  if e.erase then
    ((blockList (chEraseLog2 c) e.addr e.len).map (fun b =>
      [CommitFrame.erase b]
        ++ (if b < e.addr then programFrames (chPageLog2 c) b (e.addr - b) else [])
        ++ (if e.addr + e.len < b + 2 ^ chEraseLog2 c then
              programFrames (chPageLog2 c) (e.addr + e.len) (b + 2 ^ chEraseLog2 c - (e.addr + e.len)) else []))).flatten
  else programFrames (chPageLog2 c) e.addr e.len

/-- The entry covers only part of a backing erase block (R247). -/
def commitPartial (c : Channel) (e : JEntry) : Bool :=
  e.erase && (decide (e.addr % 2 ^ chEraseLog2 c ≠ 0) || decide ((e.addr + e.len) % 2 ^ chEraseLog2 c ≠ 0))

/-- The frames that read a partial block's bytes outside the emulated erase, in address order (R247). -/
def commitReads (c : Channel) (e : JEntry) : List CommitFrame :=
  let g := 2 ^ chEraseLog2 c
  let b := e.addr / g * g
  let z := (e.addr + e.len + g - 1) / g * g
  (if b < e.addr then [CommitFrame.read b (e.addr - b)] else []) ++ (if e.addr + e.len < z then [CommitFrame.read (e.addr + e.len) (z - (e.addr + e.len))] else [])

/-- The bytes of the erase blocks an erase touches that lie outside it (R247), in address order. -/
def outsideLen (c : Channel) (e : JEntry) : Nat := (blockList (chEraseLog2 c) e.addr e.len).length * 2 ^ chEraseLog2 c - e.len

/-- What a program frame of a commit programs at an address: the byte of the write, or the byte preserved around the erase (R246,
R247). -/
def commitByte (c : Channel) (j : CommitJob) (a : Nat) : Byte :=
  let b0 := j.entry.addr / 2 ^ chEraseLog2 c * 2 ^ chEraseLog2 c
  if !j.entry.erase then j.entry.data.getD (a - j.entry.addr) 0xff
  else match j.kept with
    | none => 0xff
    | some k => k.2.getD (if a < j.entry.addr then a - b0 else a - b0 - j.entry.len) 0xff

/-- The bytes a commit frame checks and touches. -/
def frameSpan (c : Channel) (f : CommitFrame) : Nat × Nat :=
  match f with
  | .erase a => (a, 2 ^ chEraseLog2 c)
  | .program a n => (a, n)
  | .read a n => (a, n)

/-- What the commit engine has read around a partial erase becomes durable in the Fix Ring, where it has room below its reserve (R361), and
the erase goes on (R247). -/
def commitKeep (k : Nat) (s : State) : State :=
  match (chanOf s k).commit with
  | none => s
  | some j =>
    let n := outsideLen (chanOf s k) j.entry
    if j.frames ≠ [] ∨ j.kept.isSome ∨ !paOk s ∨ 368 < fixUsed s.ev + (writeSize n + 65535) / 65536 then s
    else
      let s1 := upEv (fun v => (evWriteJournal s.nextWriteId n v).1) s
      upChan k (fun c => { c with commit := some { j with frames := commitFrames c j.entry, kept := some (s.nextWriteId, j.got) } })
        { s1 with nextWriteId := s.nextWriteId + 1 }

/-- A read frame of the commit engine is over with the bytes it read (R247); a byte not given is 0xFF. -/
def commitRead (k : Nat) (f : Frame) (data : Bytes) (s : State) : State :=
  commitKeep k (upChan k (fun c => { c with commit := c.commit.map (fun j =>
    { j with frames := j.frames.tail, got := j.got ++ (data ++ List.replicate f.len 0xff).take f.len }) }) s)

/-- The commit engine stops draining with its entry left in the journal (R248); in REPLAY the channel fails (R213). -/
def commitHalt (k : Nat) (s : State) : State :=
  let c := chanOf s k
  if c.st = .replay then chanFail k s else commitLeave k s

/-- The last backing WIP of an entry has cleared: it leaves the journal, its Fix Ring record is committed (R246, R360);
the last replayed write makes the channel READY, and its images are then to be judged (R213, R266). -/
def commitRetire (k : Nat) (s : State) : State :=
  match (chanOf s k).commit with
  | none => s
  | some j =>
    let s1 := upEv (evRetireWrite j.entry.id) s
    let s2 := match j.kept with
      | some i => upEv (evRetireWrite i.1) s1
      | none => s1
    let s3 := upChan k (fun c => { c with commit := none }) s2
    if j.replay then { s3 with replay := s3.replay.filter (fun e => decide (e.id ≠ j.entry.id)) }
    else upPort j.entry.port (fun p => { p with journal := p.journal.filter (fun e => decide (e.id ≠ j.entry.id)) }) s3

/-- Images WAITING on a channel that is READY go to JUDGING (R266), and entries that waited are looked at (R204). -/
def chanReady (k : Nat) (s : State) : State :=
  each (imgsOn s k) (fun i => upImg i (fun g => if g.st = .waiting then { g with st := .judging } else g))
    (fwAdvance k 65 (upChan k (fun c => { c with st := .ready }) s))

/-! ### Escalation and scrub -/

/-- The ACTION of a TRIP record for a source and scope (R177). -/
def tripAction (s : State) (src scope : Nat) : Option Nat :=
  (s.run.policy.bind (fun p => p.trips.find? (fun r => decide (r.source = src)
    && (decide (r.scope = scope) || decide (r.scope = 0xff))))).map (fun r => r.action)

/-- An escalation acts (R177): a Custody Trip, or a hold of the domains it concerns. -/
def escalateNow (trip src scope : Nat) (doms : List Nat) (s : State) : State :=
  match tripAction s src scope with
  | some 1 => custodyTrip trip s
  | some 2 => settle (each doms (fun d s =>
      if domSt s d = .released then holdDom 7 false d s else markFinal 7 d s) s)
  | _ => s

/-- An escalation that firmware meets after its restart (R470). -/
def escalateLater (src scope : Nat) (doms : List Nat) (s : State) : State :=
  upSc (fun c => { c with escalations := c.escalations ++ [(src, scope, doms)] }) s

/-- A firmware-raised escalation (sources 0x02 to 0x04): at once, or after firmware has restarted (R470). With no oscillator
toggling the write to the Mordant ends in a bus error (R514), so firmware meets it again after its restart. -/
def escalateFw (src scope : Nat) (doms : List Nat) (s : State) : State :=
  if !fwRuns s then escalateLater src scope doms s
  else if aocRuns s || (tripAction s src scope).isNone then escalateNow 8 src scope doms s
  else mordantWrite id (escalateLater src scope doms s)

/-- The Lake is OUT: firmware holds every domain that has images as a final hold with CAUSE 0x0C (R254). -/
def lakeOutHold (s : State) : State :=
  let l := (domsUsed s).filter (fun d => decide (domImgs s d ≠ []) && decide (tabGet 0 s.mor.final d = 0))
  if s.lake.mode = .out ∧ fwRuns s ∧ l ≠ [] then mordantWrite (each l (holdFinal 0x0c)) s else s

/-- The domains with an image on a device. -/
def devDomains (s : State) (k dev : Nat) : List Nat :=
  match s.run.policy with
  | none => []
  | some p => ((p.images.filter (fun r => decide (r.channel = k) && decide (r.device = dev))).map (fun r => r.domain)).dedup

/-- The Fix Ring holds an accepted write for a block that is not committed (R216), or the commit engine has it busy. -/
def blockBusy (s : State) (k dev addr : Nat) : Bool :=
  let hits := fun (e : JEntry) => decide (e.channel = k) && decide (e.srcDevice = dev) && decide (e.cls = 3)
    && overlaps e.addr e.len addr 4096
  s.ports.cells.any (fun p => p.2.journal.any hits) || s.replay.any hits ||
  (match (chanOf s k).commit with
   | some j => decide (j.entry.srcDevice = dev) &&
       (commitFrames (chanOf s k) j.entry).any (fun f => overlaps (frameSpan (chanOf s k) f).1 (frameSpan (chanOf s k) f).2 addr 4096)
   | none => false)

/-! ### The configuration flash -/

/-- An area of the configuration flash that raw frames have changed holds nothing that parses, as far as the model goes (log entry
79). -/
def cfgDrop (a : CfgArea) (c : CfgFlash) : CfgFlash :=
  match a with
  | .dir0 => { c with dir0 := none }
  | .dir1 => { c with dir1 := none }
  | .fwA => { c with fwA := none }
  | .fwB => { c with fwB := none }
  | .polA => { c with polA := none }
  | .polB => { c with polB := none }

/-- A program or erase frame of firmware on CCH_00 changes the areas it covers (R184, R208). -/
def cfgTouch (addr len : Nat) (s : State) : State :=
  { s with cfg := (cfgAreas.filter (fun a => overlaps (cfgSpan a).1 (cfgSpan a).2 addr len)).foldl (fun c a => cfgDrop a c) s.cfg }

end Sys2Proof.Machine
end

