-- ==== Sys2Proof/Machine/DgaOps.lean ====
section
/-!
DEFINITION. The context slots of the Digest Array and the opens that wait for them (R445, R446, R463).
-/

namespace Sys2Proof.Machine

open Sys2Proof

/-- The compare of R450, by two comparators that work independently: equal to the digest with every byte beyond its length 0, or different.
`bad` are the rails that a fault turns over; with both comparators at fault neither rail is driven, so that no fault makes two different values
compare equal (log entry 156). -/
def ctxCompare (digest expect : Bytes) (bad : BitVec 2) : BitVec 2 :=
  if bad = 3 then 0 else (if fit 64 expect = fit 64 digest then 2 else 1) ^^^ bad

/-- The opcodes of a ring whose effect hashes. -/
def hashOp (op : Nat) : Bool := [0x01, 0x10, 0x11, 0x30].contains op

/-- The client class of a context: 0 STREAM, 1 RING, 2 CHAIN, 3 GATE, 4 CORE. -/
def dgaClass : DgaOwner → Nat
  | .stream _ | .window => 0
  | .ring => 1
  | .chain => 2
  | .declare _ | .component _ => 3
  | .core => 4

/-- The hardware clients that use a context now: the judgements in progress, the window's fill, the oldest journaled command, the chain
unit, the declarations that wait for their digest, and the component each mediation session transfers. -/
def dgaWants (s : State) : List DgaOwner :=
  s.imgs.cells.filterMap (fun c => if c.2.stream.isSome then some (.stream c.1) else none)
    ++ (if s.xip.fill.isSome then [.window] else [])
    ++ (if (s.nrx.jobs.find? (fun j => !j.applied)).any (fun j => hashOp j.op) then [.ring] else [])
    ++ (if s.ev.chainQ.isEmpty then [] else [.chain])
    ++ s.fab.parts.cells.filterMap (fun c => if c.2.pendDeclare.isSome then some (.declare c.1) else none)
    ++ s.fab.meds.cells.filterMap (fun c =>
      if c.2.any (fun m => !m.recorded && m.comps.getLast?.any (fun x => !x.absent)) then some (.component c.1) else none)

/-- Open contexts on an engine. -/
def dgaLoad (d : Dga) (e : Nat) : Nat := (tabRange d.ctxs (8 * e) (8 * e + 8)).length + (tabRange d.units (8 * e) (8 * e + 8)).length

/-- Slots in service, those that are free, those STREAM holds, and its reserve (R445, R446). -/
def dgaSlots (d : Dga) : Nat := 8 * (bitsOf d.engines).length
def dgaFree (d : Dga) : Nat := dgaSlots d - (d.ctxs.cells.length + d.units.cells.length)
def dgaStreams (d : Dga) : Nat := countIf (fun c : Nat × Option DgaOwner => c.2.any (fun o => decide (dgaClass o = 0))) d.units.cells
def dgaReserve (d : Dga) : Nat := min 48 (dgaSlots d / 4)

/-- An open of a class can be granted (R446, R465): a slot is free, and after it the STREAM reserve is whole. None is in a failover. -/
def dgaMay (d : Dga) (cls : Nat) : Bool :=
  !d.failover && decide (0 < dgaFree d) && (decide (cls = 0) || decide (dgaReserve d ≤ dgaFree d - 1 + dgaStreams d))

/-- The engine in service with the fewest open contexts, the lowest on a tie, and its first free slot (R445). -/
def dgaPlace (d : Dga) : Option Nat :=
  let l := (bitsOf d.engines).filter (fun e => decide (dgaLoad d e < 8))
  let best := l.foldl (fun b e => match b with
    | none => some e
    | some q => if dgaLoad d e < dgaLoad d q then some e else some q) none
  match best with
  | none => none
  | some e => ((List.range 8).map (fun i => 8 * e + i)).find? (fun c => (tabGet none d.ctxs c).isNone && (tabGet none d.units c).isNone)

/-- The open whose turn it is (R446): round-robin across the classes, after the one granted last, in order of request within a class. -/
def dgaNext (d : Dga) : Option DgaOwner :=
  ([1, 2, 3, 4, 5].map (fun i => (d.turn + i) % 5)).findSome? (fun cls =>
    if dgaMay d cls then d.waits.find? (fun o => decide (dgaClass o = cls)) else none)

/-- An open is granted its slot. That of the core is left to its own command. -/
def dgaGrantOne (d : Dga) : Dga :=
  match dgaNext d, dgaPlace d with
  | some .core, _ => d
  | some o, some c => { d with units := tabSet none d.units c (some o), waits := d.waits.erase o, turn := dgaClass o }
  | _, _ => d

/-- A context whose client is done with it closes, and so does a waiting open; a client that has none yet asks for one. -/
def dgaSweep (s : State) : Dga :=
  let d := s.dga
  let w := dgaWants s
  let units : Tab (Option DgaOwner) := ⟨d.units.cells.filter (fun c => c.2.any w.contains)⟩
  let old := d.waits.filter (fun o => decide (o = .core) && d.pending || w.contains o)
  { d with units := units, waits := old ++ w.filter (fun o => !old.contains o && !units.cells.any (fun c => decide (c.2 = some o))) }

/-- The Digest Array with every open granted that can be. -/
def dgaNow (s : State) : Dga := let d := dgaSweep s; d.waits.foldl (fun d _ => dgaGrantOne d) d
def dgaServe (s : State) : State := upDga (fun _ => dgaNow s) s

/-- A hardware client has its context. -/
def dgaHas (s : State) (o : DgaOwner) : Bool := (dgaNow s).units.cells.any (fun c => decide (c.2 = some o))

end Sys2Proof.Machine
end

