-- ==== Sys2Proof/Machine/RingOps.lean ====
section
/-!
DEFINITION. What the Norxel rings share (chapter 12): rings, owners, bounds, the effects of journaled commands, ring
errors, destruction and the reset of a partition's rings.
-/

namespace Sys2Proof.Machine

open Sys2Proof

/-- The key of ring g of partition p, and a ring. -/
def ringKey (p g : Nat) : Nat := 262144 * p + g
def ringOf (s : State) (p g : Nat) : Ring := tabGet ring0 s.nrx.rings (ringKey p g)
/-- Lake lines from l on are written: the version counter of each goes up (R253). -/
def ctxTouch (l count : Nat) (n : Rings) : Rings :=
  { n with ctxVer := ((List.range count).map (fun i => l + i)).foldl (fun t x => tabSet 0 t x (tabGet 0 t x + 1)) n.ctxVer }

def upRing (p g : Nat) (f : Ring → Ring) (s : State) : State :=
  upNrx (fun n => ctxTouch (0x314000000 / 64 + ringKey p g) 1
    { n with rings := tabSet ring0 n.rings (ringKey p g) (f (tabGet ring0 n.rings (ringKey p g))) }) s

/-- The RINGS record of a partition, and how many admin rings it has. -/
def ringsRec (s : State) (p : Nat) : Option RingsRec := s.run.policy.bind (fun q => polRings q p)
def adminRings (s : State) (p : Nat) : Nat :=
  match ringsRec s p with
  | some r => r.adminRings
  | none => 0

/-- Ring g of partition p is an admin ring. -/
def isAdmin (s : State) (p g : Nat) : Bool := decide (g < adminRings s p)

/-- The depth of a ring, and its submission head (R400, R416). -/
def ringDepth (r : Ring) : Nat := 2 ^ r.depthLog2
def ringHead (r : Ring) : Nat := r.journaled % ringDepth r

/-- Entries between the submission head and the tail. -/
def ringWaiting (r : Ring) : Nat := (r.tail + ringDepth r - ringHead r) % ringDepth r

/-- A ledger by handle. -/
def ledgerOf (s : State) (h : Nat) : Ledger := tabGet ledger0 s.nrx.ledgers h

/-- The runs of ledgers or of counters. -/
def runsOf (s : State) (counters : Bool) : List Run := if counters then s.nrx.counterRuns else s.nrx.ledgerRuns

/-- An object belongs to a partition and tenant (R390). -/
def owns (s : State) (counters : Bool) (p t h : Nat) : Bool :=
  (runsOf s counters).any (fun r => decide (r.part = p) && decide (r.tenant = t) && decide (r.base ≤ h)
    && decide (h < r.base + r.count))

/-- Every object of a run of n from h belongs to a partition and tenant. -/
def ownsRun (s : State) (counters : Bool) (p t h n : Nat) : Bool :=
  (List.range n).all (fun i => owns s counters p t (h + i))

/-- First fit for n objects from a lowest index up to a limit (R391). The only places to try are the lowest index and the
ends of the runs handed out. -/
def firstFit (runs : List Run) (lo hi n : Nat) : Option Nat :=
  (((lo :: runs.map (fun r => r.base + r.count)).filter (fun b => decide (lo ≤ b) && decide (b + n ≤ hi)
    && runs.all (fun r => !overlaps b n r.base r.count))).mergeSort).head?

/-- The range of handles: ledgers 1 to the part's total, counters 4,096 to 262,143 (R391). -/
def objLo (counters : Bool) : Nat := if counters then 4096 else 1
def objHi (s : State) (counters : Bool) : Nat := if counters then 262144 else ledgerTotal s.otp.feat + 1

/-- What a partition, and a tenant of it, use of a kind. -/
def usedBy (runs : List Run) (p : Nat) : Nat := ((runs.filter (fun r => decide (r.part = p))).map (fun r => r.count)).sum
def usedByTenant (runs : List Run) (p t : Nat) : Nat :=
  ((runs.filter (fun r => decide (r.part = p) && decide (r.tenant = t))).map (fun r => r.count)).sum

/-- The quota of a tenant (R393). -/
def quotaOf (s : State) (p t : Nat) : Option Quota :=
  s.nrx.quotas.find? (fun q => decide (q.part = p) && decide (q.tenant = t))

/-- The tenant rings of a partition that are not ABSENT, those of one tenant among them, and all rings of the device. -/
def partRings (s : State) (p : Nat) : List (Nat × Ring) := tabRange s.nrx.rings (262144 * p) (262144 * (p + 1))
def tenantRings (s : State) (p t : Nat) : Nat :=
  countIf (fun c : Nat × Ring => !isAdmin s p (c.1 % 262144) && decide (c.2.tenant = t)) (partRings s p)

/-- Record 0x0301 RING_ERROR of a ring (R415). -/
def ringErrorRecord (p cause ring : Nat) (s : State) : State := emit 0x0301 7 (le 1 p ++ le 1 cause ++ le 2 0 ++ le 4 ring) s

/-- The capsules of commands that are no longer served are discarded with them, the one in progress with its grant; one that is written
already, whose 0x000A waits, goes on (R415, log entry 122). -/
def capsulesDrop (dead : CapsuleFrom → Bool) (l : List CapsuleJob) : List CapsuleJob :=
  (l.filter (fun j => !dead j.origin || decide (j.step = 7))).map (fun j => if dead j.origin then { j with origin := .ringGone } else j)

/-- A capsule came by a CAPSULE_SUBMIT of one of some rings. -/
def ringOrigin (q : Nat → Nat → Bool) : CapsuleFrom → Bool
  | .ring p g _ => q p g
  | _ => false

/-- The capsules of some rings are discarded; the grant of the one in progress ends with it (R279). -/
def capsulesEnd (q : Nat → Nat → Bool) (s : State) : State :=
  let s1 := { s with capsules := capsulesDrop (ringOrigin q) s.capsules }
  match s.capsules with
  | j :: _ => if ringOrigin q j.origin && decide (j.step ≠ 7) then grantEnd s1 else s1
  | [] => s1

/-- The opcodes whose effect waits for a Signature Engine (R467). -/
def sealOp (op : Nat) : Bool := [0x30, 0x31].contains op

/-- An operation uses a key-ladder output: a signature with the ALIAS slot (R453, R456). -/
def usesAlias (op key : Nat) : Bool := decide (key = 16) && (decide (op = 2) || decide (op = 6))

/-- An operation with a key-ladder output is in progress, on a CORE port, for the batches and the Boot Record that were being signed
on the EVIDENCE ports, or for a journaled SEAL or UNSEAL that is still to be carried out: an accepted debug token waits for it (R155,
R460). -/
def aliasBusy (s : State) : Bool :=
  s.nrx.jobs.any (fun j => sealOp j.op && decide (j.status = 0) && (!j.applied || j.again)) ||
  s.nrx.closing.any (fun b => s.otp.debugBatches.contains (b.epoch, b.no)) || (s.otp.debugBr && decide (s.ev.brPhase = .closing)) ||
  [s.sig0, s.sig1].any (fun g => match g.busy with
    | some o => usesAlias o.op o.keySrc && !o.held
    | none => false)

/-- A debug session opens (R155): every key-ladder output reads zero and the scopes are granted. -/
def debugOpen (scope : BitVec 4) (s : State) : State := settle (upOtp (fun o => { o with session := some scope }) s)

/-- Accepted debug tokens go on, in their order, once no operation with a key-ladder output is in progress: 0x0040, then the session
(R155). -/
def debugGo (s : State) : State :=
  if s.otp.debugWait = [] ∨ aliasBusy s then s
  else s.otp.debugWait.foldl (fun s w => gated 0x0040 1 w.2 (.debugOpen w.1) (debugOpen w.1) s)
    (upOtp (fun o => { o with debugWait := [], debugBatches := [], debugBr := false }) s)

/-- Some rings serve their commands no longer (R414, R415): what is fetched and not journaled is discarded, a journaled command completes
no more, and no end of another ring is told to them. The effect of a journaled command is still to come. An accepted debug token that
waited for one of them goes on. -/
def ringsDie (q : Nat → Nat → Bool) (s : State) : State :=
  let leaf := fun (x : Leaf) => if q x.part x.ring then { x with live := false } else x
  debugGo (capsulesEnd q (upNrx (fun n => { n with
    jobs := (n.jobs.filter (fun j => !(q j.part j.ring && j.applied))).map (fun j => if q j.part j.ring then { j with orphan := true } else j)
    accesses := n.accesses.filter (fun a => !q a.part a.ring)
    heldCmds := n.heldCmds.filter (fun h => !q h.part h.ring)
    unsaved := n.unsaved.filter (fun u => !q u.2.part u.2.ring)
    capsuleWait := n.capsuleWait.filter (fun j => !q j.part j.ring)
    batch := n.batch.map leaf
    closing := n.closing.map (fun b => { b with leaves := b.leaves.map leaf })
    signed := n.signed.map (fun b => { b with leaves := b.leaves.map leaf })
    rings := ⟨n.rings.cells.map (fun c => (c.1, if c.2.destroyer.any (fun d => q (c.1 / 262144) d.1) then { c.2 with destroyer := none } else c.2))⟩ }) s))

/-- One ring serves its commands no longer. -/
def ringDies (p g : Nat) (s : State) : State := ringsDie (fun a b => decide (a = p) && decide (b = g)) s

/-- A ring moves to ERROR: it neither fetches nor posts (R414). -/
def ringFail (p g : Nat) (s : State) : State := ringDies p g (upRing p g (fun r => { r with st := .error }) s)

/-- An ACTIVE ring fails with a cause and its 0x0301. -/
def ringError (p g cause : Nat) (s : State) : State :=
  if (ringOf s p g).st = .active then ringErrorRecord p cause g (ringFail p g s) else s

/-- A ring returns to ABSENT; the RING_DESTROY that waits for it can complete (R412, R414). -/
def ringGone (p g : Nat) (s : State) : State :=
  let r := ringOf s p g
  let s1 := ringDies p g s
  upNrx (fun n => { n with
    rings := tabSet ring0 n.rings (ringKey p g) ring0
    jobs := n.jobs.map (fun j => if decide (j.part = p) && !j.orphan && decide (r.destroyer = some (j.ring, j.rseq)) then { j with ready := true } else j) }) s1

/-- A DESTROYING ring that has aborted its last entry and posted its last completion is gone (R412). -/
def ringDestroyed (p g : Nat) (s : State) : State :=
  let r := ringOf s p g
  if r.st = .destroying ∧ r.journaled = r.abortTo ∧ r.posted = r.journaled then ringGone p g s else s

/-- A fetched CAPSULE_SUBMIT whose ring is destroyed before it is journaled has no effect: its capsule is discarded, and its entry is
fetched again and aborted (R412). -/
def ringUnsubmit (p g : Nat) (s : State) : State :=
  capsulesEnd (fun a b => decide (a = p) && decide (b = g))
    (upNrx (fun n => { n with capsuleWait := n.capsuleWait.filter (fun j => !(decide (j.part = p) && decide (j.ring = g))) }) s)

/-- A ring begins to be destroyed: its journaled commands complete first, then fetching goes on with the entries up to the tail, which
abort; one in ERROR aborts nothing (R412). -/
def ringDestroy (p g : Nat) (by' : Option (Nat × Nat)) (s : State) : State :=
  let r := ringOf s p g
  if r.st = .active then
    ringDestroyed p g (ringUnsubmit p g (upRing p g (fun r => { r with st := .destroying, abortTo := r.journaled + ringWaiting r, resumeTo := r.journaled, destroyer := by' }) s))
  else if r.st = .error then ringGone p g (upRing p g (fun r => { r with destroyer := by' }) s)
  else s

/-- ABORTED: how many entries the destruction of a ring aborts (R412). -/
def ringAborts (s : State) (p g : Nat) : Nat := if (ringOf s p g).st = .active then ringWaiting (ringOf s p g) else 0

/-- The values of n ledgers from a handle, in order. -/
def ledgerValues (s : State) (h n : Nat) : Bytes := ((List.range n).map (fun i => (ledgerOf s (h + i)).value)).flatten

/-- BIND of a blob (R409). -/
def sealBind (s : State) (h n : Nat) (flags : Nat) : Bytes :=
  sha384 (ledgerValues s h n
    ++ (if flags.testBit 0 then (match s.run.policy with
        | some p => polDigest p
        | none => []) else [])
    ++ (if flags.testBit 1 then (match s.run.bundle with
        | some b => fwDigest b
        | none => []) else []))

/-- The 80-byte header of a blob (R409). -/
def sealHeader (s : State) (j : RingCmd) (tenant : Nat) : Bytes :=
  let n := j.arg % 16
  let fl := j.arg / 16 % 4
  le 4 0x4c535946 ++ le 1 1 ++ le 1 fl ++ le 1 n ++ le 1 j.part ++ le 4 tenant ++ le 4 j.handle
    ++ fit 4 j.payload ++ fit 12 j.extra ++ sealBind s j.handle n fl

/-- The AES-256-GCM ciphertext and tag of a seal under a header, which is its additional data (R409). -/
def sealText (s : State) (p tenant : Nat) (nonce header pt : Bytes) : Bytes :=
  let k := sealKey s p tenant
  let c := xorBytes pt (gcmStream k nonce)
  c ++ fit 16 (gcmTag k nonce header c)

/-- What a blob's ciphertext opens to for a partition and tenant; none when its tag does not verify (R410). -/
def sealOpen (s : State) (p tenant : Nat) (blob : Bytes) (n : Nat) : Option Bytes :=
  let k := sealKey s p tenant
  let nonce := fit 12 (blob.drop 20)
  let c := fit n (blob.drop 80)
  if fit 16 (blob.drop (80 + n)) = fit 16 (gcmTag k nonce (fit 80 blob) c) then some (xorBytes c (gcmStream k nonce)) else none

/-- A quote leaf (R405). -/
def quoteLeaf (s : State) (j : RingCmd) (tenant : Nat) : Bytes :=
  fit 488 (le 4 0x4c515946 ++ le 1 j.op ++ le 1 j.arg ++ le 1 j.part ++ le 1 0 ++ le 4 tenant ++ le 4 j.ring ++ le 4 j.rseq
    ++ le 4 j.handle ++ fit 32 j.payload ++ (if j.op = 0x11 then sha384 s.ev.br else zeros 48)
    ++ ledgerValues s j.handle j.arg)

/-- The Lake line of a ledger's handle (log entry 117). -/
def ledgerLineOf (h : Nat) : Nat := 0x300000000 / 64 + (h - 1)

/-- LEDGER_EXTEND's effect (R403). -/
def ledgerExtend (j : RingCmd) (s : State) : State :=
  let l := ledgerOf s j.handle
  upNrx (fun n => ctxTouch (ledgerLineOf j.handle) 1
    { n with ledgers := tabSet ledger0 n.ledgers j.handle ⟨sha384 (l.value ++ fit 48 j.payload), l.extCount + 1, j.part, j.ring, j.rseq⟩ }) s

/-- COUNTER_INCREMENT's effect (R403). -/
def counterIncrement (h : Nat) (s : State) : State :=
  upNrx (fun n => { n with counters := tabSet 0 n.counters h (tabGet 0 n.counters h + 1) }) s

/-- RING_CREATE's effect: the ring is ACTIVE with RSEQ 0 (R414). -/
def ringCreate (p g depthLog2 sq cq tenant vector : Nat) (s : State) : State :=
  upRing p g (fun _ => ⟨.active, depthLog2, sq, cq, tenant, vector, 0, 0, 0, 0, 0, 0, none, 0⟩) s

/-- QUOTA_SET's effect (R393). -/
def quotaSet (q : Quota) (s : State) : State :=
  upNrx (fun n => { n with quotas := n.quotas.filter (fun r => !(decide (r.part = q.part) && decide (r.tenant = q.tenant))) ++ [q] }) s

/-- A run is handed out (R391); a new ledger holds 48 zero bytes and an extend count of 0 (R392). -/
def objAlloc (counters : Bool) (r : Run) (s : State) : State :=
  if counters then upNrx (fun n => { n with counterRuns := n.counterRuns ++ [r] }) s
  else upNrx (fun n => ctxTouch (ledgerLineOf r.base) r.count { n with ledgerRuns := n.ledgerRuns ++ [r], ledgers := tabClearRange n.ledgers r.base (r.base + r.count) }) s

/-- A run is released; counters keep their values (R392). -/
def objRelease (counters : Bool) (r : Run) (s : State) : State :=
  if counters then upNrx (fun n => { n with counterRuns := n.counterRuns.filter (fun q => decide (q ≠ r)) }) s
  else upNrx (fun n => ctxTouch (ledgerLineOf r.base) r.count { n with ledgerRuns := n.ledgerRuns.filter (fun q => decide (q ≠ r)), ledgers := tabClearRange n.ledgers r.base (r.base + r.count) }) s

/-- The effect of a journaled command with STATUS SUCCESS, with what its completion then needs (R403 to R413). -/
def jobEffect (j : RingCmd) (s : State) : State × RingCmd :=
  let d := { j with applied := true, ready := true }
  let pay := fun (a n : Nat) => unle (fit n (j.payload.drop a))
  let tenant := j.tenant
  if j.status ≠ 0 then (s, d)
  else match j.op with
  | 0x01 => (ledgerExtend j s, d)
  | 0x02 =>
    let l := ledgerOf s j.handle
    (s, { d with out := [(j.addr, l.value ++ le 8 l.extCount ++ zeros 8)] })
  | 0x10 | 0x11 =>
    let no := if s.nrx.batch.isEmpty && decide (s.nrx.batchEpoch ≠ s.ev.epoch) then 0 else s.nrx.batchNo
    (upNrx (fun n => { n with batch := n.batch ++ [⟨quoteLeaf s j tenant, j.part, j.ring, j.rseq, !j.orphan⟩], batchNo := no, batchEpoch := if n.batch.isEmpty then s.ev.epoch else n.batchEpoch }) s,
      { d with ready := false, result := le 8 no ++ le 2 s.nrx.batch.length })
  | 0x20 => (counterIncrement j.handle s, { d with result := le 8 (tabGet 0 s.nrx.counters j.handle + 1) })
  | 0x21 => (s, { d with result := le 8 (tabGet 0 s.nrx.counters j.handle) })
  | 0x30 =>
    let n := pay 0 4
    let h := sealHeader s j tenant
    (s, { d with out := [(j.addr + 4096, h ++ sealText s j.part tenant (fit 12 j.extra) h (fit n j.buf))], result := le 4 (96 + n) })
  | 0x31 => (s, { d with out := [(j.addr + 4096, j.extra)], result := le 4 j.extra.length })
  | 0x70 => (ringCreate j.part j.handle j.arg j.addr (pay 0 8) (pay 8 4) (pay 12 2) s, { d with result := le 4 j.handle })
  | 0x71 =>
    let s1 := ringDestroy j.part j.handle (if j.orphan then none else some (j.ring, j.rseq)) s
    (s1, { d with ready := decide ((ringOf s1 j.part j.handle).st = .absent), result := le 4 (ringAborts s j.part j.handle) })
  | 0x72 => (quotaSet ⟨j.part, pay 0 4, pay 4 4, pay 8 4, pay 12 4⟩ s, d)
  | 0x73 | 0x74 =>
    let r : Run := ⟨j.handle, j.arg % 16, j.part, pay 0 4⟩
    (if j.arg.testBit 7 then objRelease (decide (j.op = 0x74)) r s else objAlloc (decide (j.op = 0x74)) r s,
      { d with result := le 4 j.handle })
  | _ => (s, d)

/-- The effect of an opcode has the context and the engine that it uses; else it waits (R406, R446, R465, R467). -/
def opEngines (s : State) (op : Nat) : Bool := (!hashOp op || dgaHas s .ring) && (!sealOp op || sigIn s)

/-- The oldest journaled command whose effect was to come has taken it, and waits for its completion where its ring still serves it. -/
def jobTaken (d : RingCmd) : List RingCmd → List RingCmd
  | [] => []
  | j :: l => if j.applied then j :: jobTaken d l else if d.orphan then l else d :: l

/-- The oldest journaled command whose effect is to come takes it. -/
def applyNext (s : State) : State :=
  match s.nrx.jobs.find? (fun j => !j.applied) with
  | none => s
  | some j =>
    if !opEngines s j.op then s else
    let r := jobEffect j s
    upNrx (fun n => { n with jobs := jobTaken r.2 n.jobs }) r.1

/-- Every journaled command takes its effect, in journal order (R404). -/
def applyAll (s : State) : State := (List.range s.nrx.jobs.length).foldl (fun s _ => applyNext s) s

/-- The rings of a partition go to ABSENT (R414, R415): journaled commands take effect, no completion is written, BAR0
ring registers return to their reset values, 0x0302. JOURNALED counts the commands of status SUCCESS: a rejected one takes no effect. -/
def ringsReset (p : Nat) (s : State) : State :=
  let s1 := applyAll s
  let rings := (partRings s1 p).length
  let jobs := countIf (fun j : RingCmd => decide (j.part = p) && !j.orphan && decide (j.status = 0)) s1.nrx.jobs
  let s2 := upNrx (fun n => { n with rings := tabClearRange n.rings (262144 * p) (262144 * (p + 1)), admSel := tabSet 0 n.admSel p 0, ringSel := tabSet 0 n.ringSel p 0, adm := tabClearRange n.adm (4 * p) (4 * p + 4), gaps := tabClearRange n.gaps (2048 * p) (2048 * (p + 1)), msix := tabClearRange n.msix (8192 * p) (8192 * (p + 1)) }) (ringsDie (fun a _ => decide (a = p)) s1)
  if (ringsRec s p).isSome then emit 0x0302 7 (le 1 p ++ le 3 0 ++ le 4 rings ++ le 4 jobs) s2 else s2

/-! ### Archiving, stalls and quote batches -/

/-- The chained blocks in the Fix Ring, by CB_INDEX. -/
def fixIndices (e : Evid) : List Nat :=
  e.fix.cells.filterMap (fun c => match c.2 with
    | .chainBlock b => if b.chain ≠ [] then b.index else none
    | _ => none)

/-- The CB_INDEX of the next block to archive: the lowest in the Fix Ring whose writes are not under way, or else the next
block that closes (R382). -/
def nextArch (s : State) : Nat :=
  (((fixIndices s.ev).filter (fun i => !s.vault.nvme.any (fun c => decide (c.use = .archive i)))).min?).getD ((s.ev.lastIndex + 1) % 2 ^ 64)

/-- A block may be written to its archive position (R382). -/
def archivePlace (s : State) (i : Nat) : Bool :=
  match tabGet none s.vault.arch (i % vaultArch s.vault.ns) with
  | none => true
  | some b => match b.index, s.vault.exportAck with
    | some k, some a => decide (k ≤ a)
    | _, _ => false

/-- Archiving (R361): the Vault is in service, is not READ_ONLY, and can take the next block; a debug session makes its
writes wait (R389). -/
def archiving (s : State) : Bool :=
  decide (s.vault.state = .inService) && s.otp.session.isNone && archivePlace s (nextArch s)

/-- STALL: mutating Norxel commands wait (R361). -/
def stalled (s : State) : Bool := decide (346 ≤ fixUsed s.ev) && !archiving s

/-- A RING entry can become durable: below RESERVE, with the Persistence Array up (R361, R467). -/
def entryFits (s : State) : Bool := paOk s && decide (fixUsed s.ev < 368)

/-- A ring-operation entry (R416). -/
def ringEntry (op status cid p g rseq handle : Nat) (body : Bytes) : Bytes :=
  le 1 op ++ le 1 status ++ le 2 cid ++ le 3 (g + 1048576 * p) ++ le 1 (body.length / 8) ++ le 4 rseq ++ le 4 handle ++ body

/-- A journaled command is the quote of a leaf. -/
def quoteOf (x : Leaf) (j : RingCmd) : Bool :=
  x.live && !j.orphan && decide (x.part = j.part) && decide (x.ring = j.ring) && decide (x.rseq = j.rseq)

/-- The hash of a quote leaf in its tree (R406, RFC 9162). -/
def leafHash (b : Bytes) : Bytes := sha384 (0 :: b)

/-- Merkle Tree Hash of RFC 9162, section 2.1.1, over leaf hashes; the first argument bounds the depth. -/
def treeHash : Nat → List Bytes → Bytes
  | 0, l => l.headD []
  | n + 1, l =>
    if l.length ≤ 1 then l.headD []
    else
      let k := 2 ^ Nat.log2 (l.length - 1)
      sha384 (1 :: (treeHash n (l.take k) ++ treeHash n (l.drop k)))

/-- The audit path of leaf m, leaf end first (RFC 9162, section 2.1.3.1). -/
def treePath : Nat → Nat → List Bytes → List Bytes
  | 0, _, _ => []
  | n + 1, m, l =>
    if l.length ≤ 1 then []
    else
      let k := 2 ^ Nat.log2 (l.length - 1)
      if m < k then treePath n m (l.take k) ++ [treeHash n (l.drop k)]
      else treePath n (m - k) (l.drop k) ++ [treeHash n (l.take k)]

/-- The root of a batch. -/
def batchRoot (l : List Leaf) : Bytes := treeHash 13 (l.map (fun x => leafHash x.bytes))

/-- A batch closes with its 0xF0 entry (R406, R417). -/
def batchClose (s : State) : State :=
  let root := batchRoot s.nrx.batch
  let entry := ringEntry 0xf0 0 0 0 0 0 0 (le 8 s.nrx.batchNo ++ le 4 s.nrx.batch.length ++ le 4 0 ++ root)
  let s1 := upEv (fun e => (evWriteEntry s.aot entry e).1) s
  upNrx (fun n => { n with closing := n.closing ++ [⟨n.batchEpoch, n.batchNo, n.batch, evUs s.aot s.ev, root⟩], batch := [], batchNo := n.batchNo + 1 }) s1

end Sys2Proof.Machine
end

