-- ==== Sys2Proof/Machine/Flags.lean ====
section
/-!
DEFINITION. The unit counts and the summary words that registers and records show (R464, R504, R505).
-/

namespace Sys2Proof.Machine

open Sys2Proof

/-- ID_REV of die revision B1 (R503, R504). -/
def idRev : Word := 0x4B589F21

/-- CAPS (R503). -/
def caps (s : State) : Word :=
  packWord [(30, variantCode s.otp.feat), (26, nBays s), (21, nSlices s), (19, nPlanes s), (14, nCch s), (11, nBanks s),
    (7, nLake s), (5, nSig s), (0, nDga s)]

/-- CAPS_EXT (R503). -/
def capsExt (s : State) : Word :=
  packWord [(13, b2n (s.otp.feat.getLsbD 20)), (12, b2n (s.otp.feat.getLsbD 9)), (11, b2n (fabricEn s)), (8, ringQtr s.otp.feat),
    (4, fieldOf s.otp.feat 10 4), (2, lakeModeCode s), (0, nPairs s)]

end Sys2Proof.Machine
end

