-- ==== Sys2Proof/Machine/PresentOps.lean ====
section
/-!
DEFINITION. What the presentation ports share (chapter 07): extents, Hot Windows, effective classes, service of a read, and
the making of a write.
-/

namespace Sys2Proof.Machine

open Sys2Proof

/-! ### Devices and extents -/

/-- The PRESENT_ID record of an emulated device. -/
def prsRec (s : State) (port dev : Nat) : Option PresentRec := s.run.policy.bind (fun p => polPresent p port dev)

/-- The size of the device an emulated device presents. -/
def prsSize (p : PolicyImage) (r : PresentRec) : Nat :=
  match polChannel p r.channel with
  | some c => deviceSize c r.srcDevice
  | none => 0

/-- The Lake offset of a device's extent: after those of lower (PORT, DEVICE) (R252). -/
def lakeBase (p : PolicyImage) (r : PresentRec) : Nat :=
  ((p.presents.filter (fun q => decide (emKey q.port q.device < emKey r.port r.device))).map (prsSize p)).sum

/-- HOT_LEN of device 0 of a port; 0 with no record. -/
def hotLen0 (p : PolicyImage) (port : Nat) : Nat :=
  match polPresent p port 0 with
  | some r => r.hotLen
  | none => 0

/-- Bytes of the effective hot range (R239). -/
def hotLen (p : PolicyImage) (r : PresentRec) : Nat :=
  if r.device = 0 then r.hotLen else min r.hotLen (262144 - hotLen0 p r.port)

/-- An address lies in the effective hot range. -/
def inHot (p : PolicyImage) (r : PresentRec) (a : Nat) : Bool := decide (r.hotBase ≤ a) && decide (a < r.hotBase + hotLen p r)

/-- The Hot Window byte of an address in the effective hot range. -/
def hotAt (p : PolicyImage) (r : PresentRec) (a : Nat) : Nat :=
  262144 * r.port + (if r.device = 0 then 0 else hotLen0 p r.port) + (a - r.hotBase)

/-- The Lake serves requests (R254, R256). -/
def lakeIn (s : State) : Bool := decide (s.lake.mode = .normal) || decide (s.lake.mode = .parity)
def lakeUp (s : State) : Bool := lakeIn s && !s.lake.failover

/-- The effective class of the page at an address of a presented device (R243). -/
def pageClass (p : PolicyImage) (r : PresentRec) (a : Nat) : Nat :=
  match polChannel p r.channel with
  | some c => effClass p r.channel r.srcDevice c.eraseLog2 a
  | none => 1

/-- The effective classes of the pages of a range. -/
def pageClasses (p : PolicyImage) (r : PresentRec) (a n : Nat) : List Nat :=
  ((List.range ((a + n + 4095) / 4096 - a / 4096)).map (fun i => pageClass p r ((a / 4096 + i) * 4096))).dedup

/-- The byte a consumer reads at an address: the Hot Window's, the Lake's, or 0xFF of a HIDDEN page (R240, R243). -/
def prsByte (s : State) (p : PolicyImage) (r : PresentRec) (a : Nat) : Byte :=
  if inHot p r a then tabGet 0xff s.lake.hot (hotAt p r a)
  else if pageClass p r a = 5 then 0xff
  else tabGet 0xff s.lake.bytes (lakeBase p r + a)

/-- The bytes of a read. An address at or past the device's end has no byte the manual gives: free bytes (log entry 19). -/
def prsBytes (s : State) (p : PolicyImage) (r : PresentRec) (a n : Nat) : Bytes :=
  let k := min n (prsSize p r - a)
  (List.range k).map (fun i => prsByte s p r (a + i)) ++ nextFree s (n - k)

/-- The lines of a usable range are written: each takes the next count of its version counter (R253). -/
def lakeTouch (a n : Nat) (l : Lake) : Lake :=
  if n = 0 then l
  else { l with ver := ((List.range ((a + n - 1) / 64 + 1 - a / 64)).map (fun i => a / 64 + i)).foldl (fun t x => tabSet 0 t x (tabGet 0 t x + 1)) l.ver }

/-- The working space of the Lake as the cores address it (R252, R429): its size, and bytes written there. -/
def workSize : Nat := 1408 * 1048576
def workWrite (a : Nat) (b : Bytes) (s : State) : State :=
  upLake (lakeTouch (0x328000000 + (a - 0x80000000)) b.length) (upSc (fun c => { c with work := memWrite 0 c.work (a - 0x80000000) b }) s)

/-- Bytes written to working space: held in a failover interruption (R256), and of no effect with the Lake not in service. -/
def workPut (a : Nat) (b : Bytes) (s : State) : State :=
  if !lakeIn s then s
  else if s.lake.failover then upLake (fun l => { l with held := l.held ++ [.work a b] }) s
  else workWrite a b s

/-- Where ROM has written the alias certificates in working space, the ECDSA one first, and one as it is read there (R456, log entry 128). -/
def certAt : Nat := 0x80000000 + certPlace % (workSize - 1048576)
def certRead (s : State) (c : Bytes × Bytes) (ml : Bool) : Bytes :=
  if ml then memRead 0 s.sc.work (certAt + c.1.length - 0x80000000) c.2.length else memRead 0 s.sc.work (certAt - 0x80000000) c.1.length

/-- The Lake's image bytes written (R259), at device addresses. -/
def lakeStore (base : Nat) (cells : List (Nat × Byte)) (s : State) : State :=
  upLake (fun l => { l with bytes := tabSetAll 0xff l.bytes (cells.map (fun c => (base + c.1, c.2))) }) s

/-- A range of the Lake as n bytes from an offset, and its cells by offset in the range. -/
def lakeCells (s : State) (base n : Nat) : List (Nat × Byte) :=
  (tabRange s.lake.bytes base (base + n)).map (fun c => (c.1 - base, c.2))

/-- A range of the Lake holds the given cells and 0xFF elsewhere. -/
def lakeFill (base n : Nat) (cells : List (Nat × Byte)) (s : State) : State :=
  lakeStore base (cells.filter (fun c => decide (c.1 < n)))
    (upLake (fun l => lakeTouch base n { l with bytes := tabClearRange l.bytes base (base + n) }) s)

/-- Streamed bytes reach a slot's image range, which is whole with the last of its stream (R259). -/
def imageWriteGo (k base n : Nat) (cells : List (Nat × Byte)) (s : State) : State :=
  upImg k (fun i => { i with inLake := i.stream.bind (fun t => if t.left = 0 then some t.src else none) }) (lakeFill base n cells s)

/-- The write of streamed bytes; it waits in a failover interruption (R256). -/
def imageWrite (k base n : Nat) (cells : List (Nat × Byte)) (s : State) : State :=
  if s.lake.failover then upLake (fun l => { l with held := l.held ++ [.image k base n cells] }) s else imageWriteGo k base n cells s

/-- The Hot Window of a device is filled from its Lake copy (R242). -/
def hotFill (p : PolicyImage) (r : PresentRec) (s : State) : State :=
  upLake (fun l =>
    let lo := hotAt p r r.hotBase
    let cells := (tabRange l.bytes (lakeBase p r + r.hotBase) (lakeBase p r + r.hotBase + hotLen p r)).map
      (fun c => (lo + (c.1 - (lakeBase p r + r.hotBase)), c.2))
    { l with hot := tabSetAll 0xff (tabClearRange l.hot lo (lo + hotLen p r)) cells }) s

/-! ### Sources of the Lake -/

/-- Every byte of a range of a device is GUARDED. -/
def allGuarded (p : PolicyImage) (ch dev a n : Nat) : Bool := (classesOf p ch dev a n).all (fun c => decide (c = 2))

/-- A slot is updatable (R276). -/
def updatable (p : PolicyImage) (r : ImageRec) : Bool :=
  let b := r.offset + r.length
  allGuarded p r.channel r.device r.offset r.length && allGuarded p r.channel r.device b r.length
  && (match polChannel p r.channel with
      | some c => decide (b + r.length ≤ deviceSize c r.device)
      | none => false)
  && p.images.all (fun q => decide (q.channel ≠ r.channel) || decide (q.device ≠ r.device) || !overlaps q.offset q.length b r.length)
  && p.recoveries.all (fun g => !recoveryHas g 1 || (match polImage p g.slot with
      | some q => decide (q.channel ≠ r.channel) || decide (1 - q.device ≠ r.device) || !overlaps g.goldenOffset q.length b r.length
      | none => true))

/-- The device and first byte of a flash source of an image (R258). -/
def srcPlace (s : State) (slot : Nat) (src : Source) : Option (Nat × Nat) :=
  match imgRec s slot with
  | none => none
  | some r => match src with
    | .half0 => some (r.device, r.offset)
    | .half1 => some (r.device, r.offset + r.length)
    | .golden => (recRec s slot).map (fun q => (1 - r.device, q.goldenOffset))
    | _ => none

/-- The half that the image range of an updatable slot holds in the Lake; true is HALF_1. The range that follows it holds the other
half (R276). Where the range was restored from elsewhere it is the active half that the following range leaves out. -/
def runHalf1 (s : State) (k : Nat) : Bool :=
  match (imgOf s k).passSrc with
  | some .half0 => false
  | some .half1 => true
  | _ => tabGet false s.activeHalf k

/-- The slot, if any, whose image range, or whose following range, holds an address of a device (R276). -/
def slotAt (p : PolicyImage) (k dev a : Nat) : Option ImageRec :=
  p.images.find? (fun r => decide (r.channel = k) && decide (r.device = dev) && decide (r.offset ≤ a) && decide (a < r.offset + r.length))
def slotAfter (p : PolicyImage) (k dev a : Nat) : Option ImageRec :=
  p.images.find? (fun r => decide (r.channel = k) && decide (r.device = dev) && updatable p r
    && decide (r.offset + r.length ≤ a) && decide (a < r.offset + 2 * r.length))

/-- The flash address that the Lake's copy of an address outside the image ranges is loaded from (R260, R276). -/
def loadFrom (s : State) (p : PolicyImage) (k dev a : Nat) : Nat :=
  match slotAfter p k dev a with
  | some r => if runHalf1 s r.slot then a - r.length else a
  | none => a

/-- The cells that n bytes of data, from an offset, give: those that are not 0xFF; bytes not given are 0xFF. -/
def frameCells (off n : Nat) (data : Bytes) : List (Nat × Byte) :=
  (data.take n).zipIdx.filterMap (fun x => if x.1 = 0xff then none else some (off + x.2, x.1))

/-! ### Frames -/

/-- The other select of the port is high, and the device is SERVING: it answers (R223, R225). -/
def prsAnswers (s : State) (f : PrsFrame) : Bool :=
  !f.both && decide ((emOf s (emKey f.port (b2n f.dev))).st = .serving) && (prsRec s f.port (b2n f.dev)).isSome

/-- A frame on a device: silent unless it answers; then its meaning under the policy and the record. A frame that is not
0x66 ends the reset sequence (R226). -/
def prsFrame (f : PrsFrame) (m : PolicyImage → PresentRec → EmDev → State → Out) (s : State) : Out :=
  match s.run.policy, prsRec s f.port (b2n f.dev) with
  | some p, some r =>
    if prsAnswers s f then
      m p r (emOf s (emKey f.port (b2n f.dev))) (upEm (emKey f.port (b2n f.dev)) (fun e => { e with rstEn := false }) s)
    else done s
  | _, _ => done s

/-- The key of the device of a record. -/
def recKey (r : PresentRec) : Nat := emKey r.port r.device

/-- PROTO of 0x0110 and PRS_DEV. -/
def protoCode (p : Proto) : Nat :=
  match p with
  | .p1s => 0
  | .p8s => 1
  | .p8d => 2

/-- An unknown opcode (R230): 0xFF in the data phase with no DQS edges, 0x0110. -/
def prsUnknown (r : PresentRec) (e : EmDev) (op second : Byte) (len : Nat) (s : State) : Out :=
  answer (.dq (List.replicate len 0xff) 0)
    (emit 0x0110 4 (le 1 r.port ++ le 1 r.device ++ le 1 (protoCode e.proto) ++ [op, if e.proto = .p1s then 0 else second] ++ le 3 0) s)

/-- The opcode of a frame: the 3-byte one of the catalogue, or its 4-byte form (R229). -/
def prsOp (f : PrsFrame) (op3 op4 : Byte) : Byte := if f.form4 then op4 else op3

/-- A frame whose opcode the catalogue lists only under a condition of protocol and configuration (R229, R230). In an octal protocol
the opcode comes with its complement. -/
def prsListed (c : Bool) (r : PresentRec) (e : EmDev) (op : Byte) (len : Nat) (s : State) (o : Out) : Out :=
  if c then o else prsUnknown r e op (~~~op) len s

/-- The address a frame carries (R228). -/
def prsAddr (f : PrsFrame) (e : EmDev) : Nat :=
  if f.form4 || e.addr4 || decide (e.proto ≠ .p1s) then f.addr.toNat else f.addr.toNat % 16777216

/-- Record 0x0113 READ_UNDERRUN. -/
def underrunRecord (r : PresentRec) (cause addr : Nat) (s : State) : State :=
  emit 0x0113 4 (le 1 r.port ++ le 1 r.device ++ le 1 cause ++ le 1 0 ++ le 4 addr) s

/-- The first byte of a read that the Lake has to serve: past the hot range, or in an uncorrectable word (R240, R242). -/
def firstLake (p : PolicyImage) (r : PresentRec) (a : Nat) (q : PrsRead) : Nat :=
  let h := if inHot p r a then r.hotBase + hotLen p r - a else 0
  match q.bad with
  | some b => if b < h then b else h
  | none => h

/-- Where a read underruns, if it does (R238): with the Lake out of service from the first byte it has to serve whose line
has not reached the port; with the Lake in service only after an uncorrectable Hot Window word. -/
def underrunAt (s : State) (p : PolicyImage) (r : PresentRec) (a : Nat) (q : PrsRead) : Option Nat :=
  let first := firstLake p r a q
  let met := match q.bad with
    | some b => decide (b = first) && inHot p r (a + b)
    | none => false
  let start := if !lakeUp s then some (max first (q.late.getD 0))
    else if met then q.late.map (max first) else none
  match start with
  | some u => if u < q.len then some u else none
  | none => none

/-- CAUSE of an underrun (R238): 0x04 in or after an uncorrectable word, else the Lake's. -/
def underrunCause (s : State) (p : PolicyImage) (r : PresentRec) (a u : Nat) (q : PrsRead) : Nat :=
  if (match q.bad with
      | some b => inHot p r (a + b) && decide (b ≤ u)
      | none => false) then 4
  else if lakeIn s then 1 else 2

/-- CK lies within what the integrator may use for a read of D dummy cycles (R236); a read clocked faster has no bytes the
manual gives (log entry 19). -/
def clkOk (r : PresentRec) (dummy mhz : Nat) : Bool := decide (mhz ≤ r.maxMhz) && decide (mhz ≤ 10 * (dummy - 2))

/-- A read served from the Lake and the Hot Window (R234 to R240). The ADDR of its record 0x0113 is that of the first byte that was not
ready (log entry 112). -/
def prsServe (p : PolicyImage) (r : PresentRec) (a : Nat) (q : PrsRead) (clocked : Bool) (s : State) : Out :=
  let b := if clocked then prsBytes s p r a q.len else nextFree s q.len
  match underrunAt s p r a q with
  | none => answer (.dq b q.len) (drawn s)
  | some u =>
    answer (.dq (b.take u ++ List.replicate (q.len - u) 0xff) u)
      (drawn (underrunRecord r (underrunCause s p r a u q) (a + u) s))

/-! ### Writes -/

/-- The emulated page of a device (R233). -/
def prsPage (r : PresentRec) : Nat := if r.facts.pageSize = 0 then 256 else r.facts.pageSize

/-- What a program frame writes (R233): its start, and the bytes. Bytes beyond a page replace earlier ones and the address
wraps in the page; a frame that wraps is held as its whole page, with 0xFF where it writes nothing, and a refusal of it reports that page
(log entry 114). -/
def programSpan (r : PresentRec) (a : Nat) (data : Bytes) : Nat × Bytes :=
  let pg := prsPage r
  let d := data.drop (data.length - pg)
  if a % pg + d.length ≤ pg then (a, d)
  else
    let k := pg - a % pg
    let tail := d.drop k
    (a / pg * pg, tail ++ List.replicate (a % pg - tail.length) 0xff ++ d.take k)

/-- The class that refuses a write (R243, R244): mixed classes are 0xFF. -/
def refusingClass (cls : List Nat) : Option Nat :=
  match cls with
  | [c] => if c = 3 ∨ c = 4 then none else some c
  | _ => some 0xff

/-- A program or erase frame of a device (R244, R245): consumed with no effect while WIP is 1 or WEL is 0; refused by the
Lock Map with 0x0111; else WIP is set and the write goes on its way. -/
def prsWrite (p : PolicyImage) (r : PresentRec) (e : EmDev) (op a n : Nat) (isErase : Bool) (data : Bytes) (s : State) : Out :=
  if !e.wel || e.pend.isSome then done s
  else
    let cls := pageClasses p r a n
    match refusingClass cls with
    | some c =>
      done (emit 0x0111 4 (le 1 r.port ++ le 1 r.device ++ le 1 op ++ le 1 c ++ le 4 a ++ le 4 n)
        (upEm (recKey r) (fun e => { e with wel := false }) s))
    | none =>
      let j : JEntry := ⟨s.nextWriteId, r.port, r.device, r.channel, r.srcDevice, isErase, a, n, data, cls.headD 1, none⟩
      let s1 := upEm (recKey r) (fun e => { e with pend := some ⟨j, .journal⟩ }) s
      done { s1 with nextWriteId := s.nextWriteId + 1 }

end Sys2Proof.Machine
end

