-- ==== Sys2Proof/Machine/VerifyOps.lean ====
section
/-!
DEFINITION. Sources, verdicts, recovery and capsule targets, as the verification commands share them (R257 to R281).
-/

namespace Sys2Proof.Machine

open Sys2Proof

/-- SOURCE of R346. -/
def srcCode (x : Source) : Nat :=
  match x with
  | .half0 => 0
  | .half1 => 1
  | .golden => 2
  | .vault => 3
  | .lake => 4
  | .capsule => 5

/-- The active half of a slot, and the other (R258). -/
def activeHalfOf (s : State) (k : Nat) : Source := if tabGet false s.activeHalf k then .half1 else .half0
def inactiveHalfOf (s : State) (k : Nat) : Source := if tabGet false s.activeHalf k then .half0 else .half1

/-- The record of a slot takes a recovery action in ACTION or FALLBACK. -/
def slotHas (s : State) (k a : Nat) : Bool :=
  match recRec s k with
  | some r => recoveryHas r a
  | none => false

/-- R258: the slot has the source. -/
def sourceExists (s : State) (k : Nat) (x : Source) : Bool :=
  match s.run.policy, imgRec s k with
  | some p, some r =>
    match x with
    | .half0 => true
    | .half1 => updatable p r
    | .golden => slotHas s k 1
    | .vault => slotHas s k 2 && decide (s.vault.state ≠ .out)
    | .lake => (imgOf s k).passSrc.isSome && (imgPresent s k).isSome
    | .capsule => false
  | _, _ => false

/-- The halves as the verifier table holds them (R257): the slot's STAGED bit, and its inactive and active half. -/
def tblStagedOf (s : State) (k : Nat) : Bool := tabGet false s.run.tblStaged k
def tblInactive (s : State) (k : Nat) : Source := if tabGet false s.run.tblActive k then .half0 else .half1

/-- The source R266 and R264 call for next. -/
def dueSource (s : State) (k : Nat) : Source :=
  let i := imgOf s k
  if i.st = .recovering then (if i.action = 1 then .golden else .vault)
  else match i.lastSrc with
    | some x => x
    | none =>
      if i.isFlagged then activeHalfOf s k
      else match i.passSrc with
        | some x => if (imgPresent s k).isSome then .lake else x
        | none => if tblStagedOf s k && !i.halfTried then tblInactive s k else activeHalfOf s k

/-- A source that the streamer of the channel reads. -/
def isFlash (x : Source) : Bool := decide (x = .half0) || decide (x = .half1) || decide (x = .golden)

/-- The image's golden range is to be judged, now or once its 0x0005 is durable (R260, R270). -/
def goldenDue (s : State) (k : Nat) : Bool :=
  let i := imgOf s k
  decide (i.st = .recovering) && (decide (i.action = 1) || (decide (i.action = 0) && decide ((match recRec s k with
    | some r => if i.fallbackTaken then r.fallback else r.action
    | none => 3) = 1)))

/-- R260: no image of the channel before this one, by device and then OFFSET, has still to be read from flash, and none is
being read; a golden range that is to be judged comes before the next image. -/
def streamTurn (s : State) (k : Nat) : Bool :=
  match imgRec s k with
  | none => false
  | some r =>
    (imgsOn s r.channel).all (fun j => decide (j = k) ||
      (match imgRec s j with
       | none => true
       | some q =>
         let i := imgOf s j
         !(match i.stream with
           | some t => isFlash t.src
           | none => false) &&
         let before := decide (q.device < r.device) || (decide (q.device = r.device) && decide (q.offset < r.offset))
         !((decide (i.st = .judging) || decide (i.st = .waiting)) && isFlash (dueSource s j) && before) &&
         !(goldenDue s j && (!goldenDue s k || before))))

/-- The pair of a slot whose new judgement begins: a FAIL is cleared (R262). -/
def clearFail (k : Nat) (s : State) : State := if pairOf s k = failPair then setPair k 0 s else s

/-- The stream of a judgement starts (R259, R262). A channel that is not READY, or a Lake that is OUT, gives a stream that
has failed. -/
def streamGo (k : Nat) (x : Source) (s : State) : State :=
  match imgRec s k with
  | none => s
  | some r =>
    let bad := if isFlash x then decide ((chanOf s r.channel).st ≠ .ready) else decide (x = .lake) && !lakeIn s
    let s1 := upImg k (fun i => { i with stream := some ⟨x, 0, r.length, bad, []⟩, lastSrc := some x, judged := some x, inLake := if x = .lake then i.inLake else none }) (clearFail k s)
    dgaServe (if x = .vault then nvmeIssue [.restore k] s1 else s1)

/-- The stream of a judgement fails: a frame of it ended READ_FAIL, or a Lake write of it failed (R262). -/
def streamFail (i : Nat) (s : State) : State := upImg i (fun g => { g with stream := g.stream.map (fun st => { st with failed := true }) }) s

/-- The whole of a source that is not read in frames of a channel has been streamed: to the DGA context and, on a presented device,
to the image range of the Lake, whose being OUT fails the write (R259, R262). -/
def streamAll (k : Nat) (cells : List (Nat × Byte)) (s : State) : State :=
  match (imgOf s k).stream, imgRec s k with
  | some t, some r =>
    let go := upImg k (fun i => { i with stream := some { t with next := r.length, left := 0, got := cells } }) s
    match s.run.policy, imgPresent s k with
    | some p, some q =>
      if lakeIn s then imageWrite k (lakeBase p q + r.offset) r.length cells go
      else upImg k (fun i => { i with stream := some { t with failed := true } }) s
    | _, _ => go
  | _, _ => s

/-! ### Records and recovery -/

/-- Record 0x0005 RECOVERY (R347). -/
def recoveryBody (k action src outcome : Nat) : Bytes := le 2 k ++ le 1 action ++ le 1 src ++ le 1 outcome ++ le 3 0

/-- The emulated device that presents an image's device goes from SERVING to LOADING (R225, R267). -/
def imgLoading (k : Nat) (s : State) : State :=
  match imgPresent s k with
  | some r => upEm (emKey r.port r.device) (fun e => if e.st = .serving then { e with st := .loading } else e) s
  | none => s

/-- The action of a slot's RECOVERY record, or its FALLBACK; HOLD without a record (R266). -/
def actionOf (s : State) (k : Nat) (fallback : Bool) : Nat :=
  match recRec s k with
  | some r => if fallback then r.fallback else r.action
  | none => if fallback then 0 else 3

/-- An action starts once its record is durable (R31, R267, R270): a restore, or the serving of a FLAGGED image. -/
def recoveryGo (k : Nat) (fallback : Bool) (s : State) : State :=
  let i := imgOf s k
  if i.st = .recovering ∧ i.action = 0 then
    let a := actionOf s k fallback
    if a = 4 then upImg k (fun i => { i with st := .flagged, action := 4, isFlagged := true }) s
    else
    let s1 := upImg k (fun i => { i with action := a, waitVault := decide (a = 2), lastSrc := none }) s
    if a = 1 then imgLoading k s1 else s1
  else s

/-- An action is taken (R267, R269, R270); `fails` is what follows an action that fails before it begins. -/
def takeAction (k : Nat) (fallback : Bool) (fails : State → State) (s : State) : State :=
  let src := match (imgOf s k).lastSrc with
    | some x => srcCode x
    | none => 0
  let s1 := upImg k (fun i => { i with st := .recovering, stream := none, action := 0, waitVault := false, fallbackTaken := i.fallbackTaken || fallback }) s
  let a := actionOf s k fallback
  if a = 1 ∨ a = 2 then
    if (imgPresent s k).isNone then fails s1
    else gated 0x0005 1 (recoveryBody k a (if a = 1 then 2 else 3) 1) (.recovery k fallback) (recoveryGo k fallback) s1
  else if a = 4 then
    if unverOk s (slotDomain s k) then
      gated 0x0005 1 (recoveryBody k 4 src 2) (.recovery k fallback) (recoveryGo k fallback) s1
    else imgFinal 3 k (emitFw 0x0005 (recoveryBody k 4 src 3) (upImg k (fun i => { i with action := 4 }) s1))
  else imgFinal 3 k (upImg k (fun i => { i with action := 3 }) s1)

/-- The FALLBACK, or the final hold (R266). -/
def fallbackAction (k : Nat) (s : State) : State :=
  if actionOf s k true ≠ 0 then takeAction k true (imgFinal 3 k) s else imgFinal 3 k s

/-- The slot's action fails (R266). -/
def actionFails (k : Nat) (s : State) : State :=
  if (imgOf s k).fallbackTaken then imgFinal 3 k s else fallbackAction k s

/-- The slot's ACTION starts (R266). -/
def actionStart (k : Nat) (s : State) : State := takeAction k false (fallbackAction k) s

/-- The switch of a slot's halves, once its 0x000B is durable (R280). -/
def switchHalves (k : Nat) (s : State) : State :=
  if tabGet false s.staged k then
    upImg k (fun i => { i with switched := true })
      { s with activeHalf := tabSet false s.activeHalf k (!tabGet false s.activeHalf k), staged := tabSet false s.staged k false }
  else s

/-- Body of 0x000B CAPSULE_SWITCHED (R347). -/
def switchedBody (k outcome : Nat) (half1 : Bool) : Bytes := le 2 k ++ le 1 outcome ++ le 1 (b2n half1)

/-- The inactive half was judged because STAGED is set, and nothing has passed at this start (R266, R280). -/
def isSwitchJudge (s : State) (k : Nat) (x : Source) : Bool :=
  tblStagedOf s k && !(imgOf s k).halfTried && decide (x = tblInactive s k) && (imgOf s k).passSrc.isNone
    && decide ((imgOf s k).st = .judging)

/-- Records 0x0002 and 0x0003 of a judgement (R263). -/
def verdictRecords (k : Nat) (x : Source) (pass : Bool) (cause : Nat) (s : State) : State :=
  let i := imgOf s k
  let h := match imgRec s k with
    | some r => r.hash
    | none => 0
  emit 0x0003 3 (le 2 k ++ le 1 (srcCode x) ++ le 1 (if pass then 1 else 2) ++ le 1 cause ++ le 1 (slotDomain s k) ++ le 2 0)
    (emit 0x0002 3 (le 2 k ++ le 1 (srcCode x) ++ le 1 h ++ le 4 i.svn ++ fit 16 i.imageId ++ fit 64 i.digest) s)

/-- What the verdict path keeps of a judgement (R263, R373): SVN and IMAGE_ID are the manifest's when all of it was read. -/
def keepJudged (k : Nat) (m : Option Manifest) (digest : Bytes) (pass : Bool) (s : State) : State :=
  let m1 := match imgRec s k with
    | some r => if r.mode = 2 then m else none
    | none => none
  upImg k (fun i => { i with verdict := if pass then 1 else 2, digest := digest, manifest := m1, svn := (m1.map (fun q => q.svn)).getD 0xffffffff, imageId := (m1.map (fun q => q.imageId)).getD (zeros 16) }) s

/-- The image's state after PASS (R266, R271, R280). -/
def afterPass (k : Nat) (x : Source) (s : State) : State :=
  let sw := isSwitchJudge s k x
  let s1 := upImg k (fun i => { i with st := .passed, stream := none, passSrc := some (if x = .lake then i.passSrc.getD x else x), restored := i.restored || decide (i.st = .recovering), isFlagged := false, storeDue := slotHas s k 2 }) s
  if sw then gated 0x000b 1 (switchedBody k 1 (!tabGet false s.activeHalf k)) (.capsuleSwitch k) (switchHalves k) s1 else s1

/-- The image's state after FAIL (R266, R280). -/
def afterFail (k : Nat) (x : Source) (s : State) : State :=
  if isSwitchJudge s k x then
    emitFw 0x000b (switchedBody k 2 (tabGet false s.activeHalf k))
      (upImg k (fun i => { i with lastSrc := none, stream := none, halfTried := true }) { s with staged := tabSet false s.staged k false })
  else if (imgOf s k).st = .recovering then actionFails k s
  else actionStart k s

/-- A pair is written and everything that follows it (R262, R263, R266). -/
def writeVerdict (k : Nat) (x : Source) (m : Option Manifest) (digest : Bytes) (pass : Bool) (cause : Nat) (s : State) : State :=
  let s1 := verdictRecords k x pass cause (keepJudged k m digest pass (setPair k (if pass then passPair else failPair) s))
  if pass then afterPass k x s1 else afterFail k x s1

/-- The CAUSE of a judgement, 0 for PASS (R262, R346): the first check that fails, in the order of the algorithm. The
content is given as cells; `m` is the manifest as read, `good` says that no frame, Vault read or Lake write failed. `bad` are the rails of the compare that a
fault turns over (R450). -/
def judgeCause (s : State) (r : ImageRec) (m : Option Manifest) (content : List (Nat × Byte)) (good : Bool) (bad : BitVec 2) : Nat × Bytes :=
  if r.mode = 1 then
    let dig := digestOf r.hash (cellBytes content 0 r.length)
    if !good then (5, zeros 64) else (if ctxCompare dig r.refDigest bad = 2 then 0 else 1, dig)
  else
    match m with
    | none => (5, zeros 64)
    | some q =>
      let dig := if good then digestOf r.hash (cellBytes content 8192 (r.length - 8192)) else zeros 64
      (if !manifestFieldsOk r q then 2
       else if !sigOk q.sig then 3
       else if decide (r.svnIndex ≠ 0xffff) && decide (q.svn < tabGet 0 s.nrx.counters r.svnIndex) then 4
       else if !good then 5
       else if ctxCompare dig q.payloadDigest bad = 2 then 0 else 1, dig)

end Sys2Proof.Machine
end

