-- ==== Sys2Proof/Machine/Verify.lean ====
section
/-!
DEFINITION. Judgements, recovery and security versions of platform images (R257 to R272), and the policy SVN floor (R181).
-/

namespace Sys2Proof.Machine

open Sys2Proof

/-- JUDGE_START: firmware starts a judgement of a slot from a source (R258, R262). A source the slot does not have is
refused, and so is a slot that holds PASS: nothing changes. Firmware starts the source that R266 calls for, when its turn on the channel
has come (R260). -/
def execJudgeStart (slot : Nat) (src : Source) (s : State) : Out :=
  when (fwRuns s && (imgRec s slot).isSome) s
    (let i := imgOf s slot
     if !sourceExists s slot src || decide (pairOf s slot = passPair) then done s
     else if (decide (i.st = .judging) || (decide (i.st = .recovering) && decide (i.action ≠ 0) && !i.waitVault))
         && i.stream.isNone && decide (src = dueSource s slot) && (!isFlash src || streamTurn s slot) then done (streamGo slot src s)
     else notNow s)

/-- What a slot's stream has read. The Lake's bytes are read as its judgement ends (log entry 83). -/
def judgedStream (s : State) (k : Nat) (t : Stream) : Stream :=
  match t.src, s.run.policy, imgPresent s k, imgRec s k with
  | .lake, some p, some r, some i =>
    if t.failed || !lakeIn s then { t with failed := true }
    else { t with next := i.length, left := 0, got := lakeCells s (lakeBase p r + i.offset) i.length }
  | _, _, _, _ => t

/-- The manifest of what was read, if all 8,192 bytes of it were (R261, R263). -/
def judgedManifest (t : Stream) (sig : Sig2) : Option Manifest :=
  if t.left = 0 ∨ 8192 ≤ t.next then some (manifestOf t.got sig) else none

/-- JUDGEMENT_DONE: the stream of a slot has ended and the verdict path writes the pair (R262, R263). `sig` is what the halves of the
manifest's signature verify to under the key of the slot's SIGNER. Without its DGA context, or a Signature Engine, no judgement completes (R463, R467);
one that reads the Lake waits for it (R256), and the Mordant's slots for an oscillator (R514). -/
def execJudgementDone (slot : Nat) (sig : Sig2) (bad : BitVec 2) (s : State) : Out :=
  match imgRec s slot, (imgOf s slot).stream with
  | some r, some t =>
    when ((decide (t.left = 0) || t.failed || decide (t.src = .lake)) && dgaHas s (.stream slot) && sigIn s
        && aocRuns s && !(s.lake.failover && (imgPresent s slot).isSome)) s
      (let u := judgedStream s slot t
       let m := judgedManifest u sig
       let good := !u.failed && ((imgPresent s slot).isNone || lakeIn s)
       let c := judgeCause s r m u.got good bad
       done (settle (writeVerdict slot t.src m c.2 (decide (c.1 = 0)) c.1 s)))
  | _, _ => notNow s

/-- VERIFY_DEADLINE_EXPIRY: FAIL is written at expiry and the stream ends at its next frame boundary (R262). The records carry the
digest when every byte had been hashed, and the manifest's fields when all of it had been read (R263). -/
def execVerifyDeadlineExpiry (slot : Nat) (sig : Sig2) (s : State) : Out :=
  match imgRec s slot, (imgOf s slot).stream with
  | some r, some t =>
    when (aocRuns s) s
      (let m := judgedManifest t sig
       let dig := if t.left = 0 ∧ !t.failed then (judgeCause s r m t.got true 0).2 else zeros 64
       done (settle (writeVerdict slot t.src m dig false 6 s)))
  | _, _ => notNow s

/-- RESTORE_VAULT_BEGIN: the Vault is in service and a waiting RESTORE_VAULT goes on: the device enters LOADING and the
object is judged; an empty object fails the action (R267). -/
def execRestoreVaultBegin (slot : Nat) (s : State) : Out :=
  let i := imgOf s slot
  when (fwRuns s && decide (i.st = .recovering) && decide (i.action = 2) && i.waitVault && decide (s.vault.state ≠ .out)) s
    (match (recRec s slot).bind (fun q => tabGet none s.vault.objects q.vaultObject) with
     | some _ => done (streamGo slot .vault (imgLoading slot (upImg slot (fun i => { i with waitVault := false }) s)))
     | none => done (settle (actionFails slot s)))

/-- VAULT_WAIT_EXPIRY: the Vault is not in service within t_VLTWAIT, so the action fails (R267, R270). -/
def execVaultWaitExpiry (slot : Nat) (s : State) : Out :=
  let i := imgOf s slot
  when (decide (i.st = .recovering) && decide (i.action = 2) && i.waitVault && decide (s.vault.state = .out)) s
    (done (settle (actionFails slot s)))

/-- The extents of the golden data region in use, those of objects being written among them. -/
def vaultExtents (v : Vault) : List (Nat × Nat) :=
  (v.objects.cells.filterMap (fun c => c.2) ++ v.nvme.filterMap (fun c => match c.use with
    | .objData _ o | .objDir _ o => some o
    | _ => none)).map (fun o => (o.firstLba, ceilDiv o.length 4096))

/-- A golden object of n blocks gets a new extent, first fit; none where no extent is free (R381). -/
def vaultPlace (s : State) (n : Nat) : Option Nat :=
  let old := vaultExtents s.vault
  ((lbaGolden :: old.map (fun e => e.1 + e.2)).filter (fun a =>
    decide (a + n ≤ lbaGolden + vaultG s.vault.ns) && old.all (fun e => !overlaps a n e.1 e.2))).min?

/-- An object is written to a new extent, its directory entry last (R381); 0x000C follows (R271). None where the region has no place. -/
def vaultStore (obj slot len : Nat) (cells : List (Nat × Byte)) (m : Option Manifest) (s : State) : Option State :=
  (vaultPlace s (ceilDiv len 4096)).map (fun a =>
    nvmeWrite (.objData obj ⟨slot, len, a, sha384 (cellBytes cells 0 len), cells, m⟩) (ceilDiv len 4096) kindGolden a (ceilDiv len 4096) s)

/-- An object is being written. -/
def objPending (v : Vault) (obj : Nat) : Bool := v.nvme.any (fun c => match c.use with
  | .objData k _ | .objDir k _ => decide (k = obj)
  | _ => false)

/-- The cells are the bytes that passed: their digest, and in SIGNER mode their manifest, are those the verdict path kept (R263,
R271). -/
def passedBytes (s : State) (r : ImageRec) (cells : List (Nat × Byte)) : Bool :=
  let i := imgOf s r.slot
  if r.mode = 1 then decide (digestOf r.hash (cellBytes cells 0 r.length) = i.digest)
  else match i.manifest with
    | some m => decide (manifestOf cells m.sig = m) && decide (digestOf r.hash (cellBytes cells 8192 (r.length - 8192)) = i.digest)
    | none => false

/-- GOLDEN_STORE: the bytes that passed are stored as the slot's empty VAULT_OBJECT, and 0x000C follows (R271): the image range of the
Lake, or `read`, the bytes that passed on a device that is not presented. A golden region without a place for them stores nothing (log
entry 121). -/
def execGoldenStore (slot : Nat) (read : List (Nat × Byte)) (s : State) : Out :=
  match imgRec s slot, recRec s slot with
  | some r, some q =>
    when (fwRuns s && (imgOf s slot).storeDue && decide ((imgOf s slot).st = .passed) && decide (s.vault.state = .inService)
        && s.otp.session.isNone && (tabGet none s.vault.objects q.vaultObject).isNone && !objPending s.vault q.vaultObject) s
      (let store := fun (cells : List (Nat × Byte)) => match vaultStore q.vaultObject slot r.length cells (imgOf s slot).manifest s with
         | some t => done t
         | none => done (upImg slot (fun i => { i with storeDue := false }) s)
       match s.run.policy, imgPresent s slot with
       | some p, some e => if lakeUp s then store (lakeCells s (lakeBase p e + r.offset) r.length) else notNow s
       | _, _ => if passedBytes s r read then store read else notNow s)
  | _, _ => notNow s

/-! ### Security versions -/

/-- The slots that share a counter (R272). -/
def slotsOfCounter (s : State) (idx : Nat) : List ImageRec :=
  match s.run.policy with
  | none => []
  | some p => p.images.filter (fun r => decide (r.mode = 2) && decide (r.svnIndex = idx))

/-- A manifest whose signatures verify, with an SVN no lower than n. -/
def manifestAt (n : Nat) (m : Option Manifest) : Bool :=
  match m with
  | some q => sigOk q.sig && decide (n ≤ q.svn)
  | none => false

/-- R272: every condition for raising the counter to n. `goldens` gives the manifests read from the GOLDEN sources; those of the VAULT
sources are what the objects begin with. -/
def svnAdvanceOk (s : State) (slot idx n : Nat) (goldens : List (Nat × Manifest)) : Bool :=
  (match (imgOf s slot).manifest with
   | some m => decide (m.flags = 1) && decide (m.svn = n) && decide (tabGet 0 s.nrx.counters idx < n)
   | none => false)
  && decide ((imgOf s slot).st = .passed) && decide (3 ≤ s.mor.phase) && decide (domSt s (slotDomain s slot) = .released)
  && (slotsOfCounter s idx).all (fun r =>
      decide ((imgOf s r.slot).st = .passed) && (match (imgOf s r.slot).manifest with
       | some m => decide (n ≤ m.svn)
       | none => false)
      && (!slotHas s r.slot 1 || manifestAt n ((goldens.find? (fun g => decide (g.1 = r.slot))).map (fun g => g.2)))
      && (!slotHas s r.slot 2 || manifestAt n ((recRec s r.slot).bind (fun q =>
          (tabGet none s.vault.objects q.vaultObject).bind (fun o => o.manifest)))))

/-- The increment path adds the difference (R272); a floor never decreases (R48). -/
def svnRaise (idx n : Nat) (s : State) : State :=
  upNrx (fun q => { q with counters := tabSet 0 q.counters idx (max n (tabGet 0 q.counters idx)) }) s

/-- The VAULT sources of the slots that share a counter. -/
def vaultSources (s : State) (idx : Nat) : List VaultObj := ((slotsOfCounter s idx).filter (fun r => slotHas s r.slot 2)).filterMap
  (fun r => (recRec s r.slot).bind (fun q => tabGet none s.vault.objects q.vaultObject))

/-- 0x0009 IMAGE_SVN_ADVANCE, and the counter rises with it (R272). -/
def svnRecord (idx n : Nat) (s : State) : State :=
  gated 0x0009 1 (le 2 idx ++ le 2 0 ++ le 8 (tabGet 0 s.nrx.counters idx) ++ le 8 n) (.svnAdvance idx n) (svnRaise idx n) s

/-- IMAGE_SVN_ADVANCE: firmware raises the SVN floor of a slot's counter after a durable 0x0009 (R272). The manifests are
verified for it, which waits for a Signature Engine (R467). Where a VAULT source counts, its manifest is read from the drive first, as
NVME_COMMAND_DONE says (R383, R389). -/
def execImageSvnAdvance (slot : Nat) (goldens : List (Nat × Manifest)) (s : State) : Out :=
  match imgRec s slot, (imgOf s slot).manifest with
  | some r, some m =>
    when (fwRuns s && sigIn s && decide (r.mode = 2) && decide (r.svnIndex ≠ 0xffff) && svnAdvanceOk s slot r.svnIndex m.svn goldens) s
      (if vaultSources s r.svnIndex = [] then done (svnRecord r.svnIndex m.svn s)
       else when (decide (s.vault.state ≠ .out) && !s.vault.nvme.any (fun c => decide (c.use = .svnRead slot goldens))) s
         (done (nvmeIssue [.svnRead slot goldens] s)))
  | _, _ => notNow s

/-- POLICY_FORMAT values of a list the running bundle gives (R122, R188). -/
def fwFormats (s : State) : List Nat :=
  match s.run.bundle with
  | some b => b.formats
  | none => []

/-- The image in the other policy slot. -/
def otherPolicy (s : State) : Option PolicyImage := if s.run.polSlot = 0 then s.cfg.polB else s.cfg.polA

/-- The policy SVN floor rises (R181). -/
def polFloorRaise (n : Nat) (s : State) : State := { s with polFloor := max n s.polFloor }

/-- POLICY_SVN_ADVANCE: firmware raises the policy SVN floor after a durable 0x0044 (R181). The other slot is verified
for it, which waits for the engines (R467). -/
def execPolicySvnAdvance (s : State) : Out :=
  match s.run.policy, otherPolicy s with
  | some p, some o =>
    when (fwRuns s && sigIn s && dgaIn s && polSvnAdvance p && decide (s.polFloor < p.hdr.svn) && decide (3 ≤ s.mor.phase)
        && decide (polVerdict s.otp (fwFormats s) s.polFloor o = .accepted) && decide (p.hdr.svn ≤ o.hdr.svn)) s
      (done (gated 0x0044 1 (le 4 s.polFloor ++ le 4 p.hdr.svn ++ polDigest p) (.policySvn p.hdr.svn) (polFloorRaise p.hdr.svn) s))
  | _, _ => notNow s

end Sys2Proof.Machine
end

