-- ==== Sys2Proof/Machine/Update.lean ====
section
/-!
DEFINITION. Update capsules (R275 to R281) and PLDM Type 5 updates of the device's own firmware and policy (R126, R187 to
R189).
-/

namespace Sys2Proof.Machine

open Sys2Proof

/-! ### Capsules -/

/-- FORMAT of R277: every field as R275 gives, and the total length exact. -/
def capsuleFormatOk (s : State) (c : Capsule) : Bool :=
  decide (c.head.length = 8192) && decide (capMagic c = 0x50435946) && decide (capVersion c = 1) && decide (1 ≤ capKind c)
  && decide (capKind c ≤ 3) && capRsvdZero c && decide (c.total = 8192 + capLen c)
  && (decide (capDevice c = zeros 16) || decide (capDevice c = devId s)) && decide (capOwner c = ownerId s.otp)
  && decide (capLen c ≤ 1073741824)
  && (match s.run.policy, imgRec s (capSlot c) with
      | some p, some r => signerHas p (capSigner c) 2 && decide (capLen c = r.length)
      | _, _ => false)

/-- TARGET of R277. -/
def capsuleTargetOk (s : State) (c : Capsule) : Bool :=
  if capKind c = 1 then sourceExists s (capSlot c) .half1
  else if capKind c = 2 then slotHas s (capSlot c) 1
  else slotHas s (capSlot c) 2 && decide (s.vault.state = .inService)

/-- The REASON that refuses a capsule in step 2, 0 none (R277). The manifest is the one its payload begins with. -/
def capsuleReason (s : State) (c : Capsule) (bad : BitVec 2) : Nat :=
  if !capsuleFormatOk s c then 1
  else if !sigOk c.sig then 2
  else if sha384 (cellBytes c.content 0 (capLen c)) ≠ capDigest c then 3
  else if !capsuleTargetOk s c then 4
  else match imgRec s (capSlot c) with
    | some r => if (judgeCause s r (some (capManifest c)) c.content true bad).1 = 0 then 0 else 5
    | none => 5

/-- VIA of R346. -/
def viaOf (o : CapsuleFrom) : Nat :=
  match o with
  | .ring _ _ _ | .ringGone => 1
  | .pldm _ _ => 2

/-- The port of a name, and one changed: true is MGT_B. -/
def mgtOf (s : State) (b : Bool) : Mgt := if b then s.mgtB else s.mgtA
def upMgt (b : Bool) (f : Mgt → Mgt) (s : State) : State := if b then { s with mgtB := f s.mgtB } else { s with mgtA := f s.mgtA }

/-- A capsule ends: the ring command it came by can be completed with its REASON (R278, R413), or the port sends PLDM ApplyComplete,
with success or not, and its update ends if this was its last component; the next capsule has its turn. -/
def capsuleEnd (reason : Nat) (s : State) : State :=
  match s.capsules with
  | [] => s
  | j :: r =>
    let s1 := grantEnd { s with capsules := r }
    match j.origin with
    | .ringGone => s1
    | .ring p g q => upNrx (fun n => { n with capsuleWait := n.capsuleWait.map (fun w =>
        if decide (w.part = p) && decide (w.ring = g) && decide (w.rseq = q) then { w with result := le 1 reason, ready := true } else w) }) s1
    | .pldm b last =>
      let s2 := upMgt (decide (b = 1)) (fun m => { m with applied := some (if reason = 0 then 0 else 1) }) s1
      if last && decide (s2.pldmUpdate = some b) then { s2 with pldmUpdate := none } else s2

/-- A capsule is refused: 0x0120, nothing staged (R277, R279). -/
def capsuleRefuse (j : CapsuleJob) (reason : Nat) (s : State) : State :=
  capsuleEnd reason (emitFw 0x0120 (le 2 (capSlot j.cap) ++ le 1 (capKind j.cap) ++ le 1 reason ++ le 1 (viaOf j.origin) ++ le 3 0
    ++ fit 48 (capDigest j.cap)) s)

/-- The range the grant of a capsule covers: the inactive half, or the golden range (R278). -/
def capsuleGrant (s : State) (c : Capsule) : Option Grant :=
  match imgRec s (capSlot c) with
  | none => none
  | some r =>
    if capKind c = 1 then
      some ⟨r.channel, r.device, if inactiveHalfOf s (capSlot c) = .half1 then r.offset + r.length else r.offset, r.length⟩
    else if capKind c = 2 then (recRec s (capSlot c)).map (fun q => ⟨r.channel, 1 - r.device, q.goldenOffset, r.length⟩)
    else none

/-- A restore judges the source this capsule replaces, so it waits at step 4 (R281, R389). -/
def capsuleBusy (s : State) (c : Capsule) : Bool :=
  match (imgOf s (capSlot c)).stream with
  | some t => (decide (capKind c = 2) && decide (t.src = .golden)) || (decide (capKind c = 3) && decide (t.src = .vault))
  | none => false

/-- The capsule in progress is accepted, once its 0x000A is durable (R278, steps 8 and 9). -/
def capsuleAccept (s : State) : State :=
  match s.capsules with
  | j :: _ =>
    if j.step = 7 then
      capsuleEnd 0 (if capKind j.cap = 1 then { s with staged := tabSet false s.staged (capSlot j.cap) true } else s)
    else s
  | [] => s

/-- The step of the capsule in progress. -/
def capsuleStep (n : Nat) (s : State) : State :=
  { s with capsules := match s.capsules with
    | j :: r => { j with step := n } :: r
    | [] => [] }

/-- Body of 0x000A CAPSULE_STAGED (R347). -/
def stagedBody (j : CapsuleJob) : Bytes :=
  le 2 (capSlot j.cap) ++ le 1 (capKind j.cap) ++ le 1 (viaOf j.origin) ++ le 2 (capSigner j.cap) ++ le 2 0 ++ le 4 (capLen j.cap)
    ++ fit 48 (capDigest j.cap)

/-- Steps 3 and 4 of R278: STAGED is cleared for KIND IMAGE, the grant is raised. -/
def capsuleWrite (j : CapsuleJob) (s : State) : State :=
  let s1 := capsuleStep 4 { s with grant := capsuleGrant s j.cap }
  if capKind j.cap = 1 then
    upImg (capSlot j.cap) (fun i => { i with halfWritten := true }) { s1 with staged := tabSet false s1.staged (capSlot j.cap) false }
  else if capKind j.cap = 2 then upImg (capSlot j.cap) (fun i => { i with goldenWritten := true }) s1
  else s1

/-- The channel of a capsule's target has stopped (R281). -/
def capsuleStopped (s : State) (c : Capsule) : Bool :=
  decide (capKind c ≠ 3) && (match imgRec s (capSlot c) with
    | some r => decide ((chanOf s r.channel).st ≠ .ready)
    | none => true)

/-- The object of a capsule of kind VAULT is being written, and is written (R278, R381). -/
def capsuleWriting (s : State) (c : Capsule) : Bool := match recRec s (capSlot c) with
  | some q => objPending s.vault q.vaultObject
  | none => false
def capsuleWritten (s : State) (c : Capsule) : Bool :=
  decide (s.vault.state = .inService) && (match (recRec s (capSlot c)).bind (fun q => tabGet none s.vault.objects q.vaultObject) with
    | some o => decide (o.digest = capDigest c)
    | none => false)

/-- The read-back has succeeded: the grant ends, and the record follows (R278, steps 6 and 7). -/
def capsuleRecord (j : CapsuleJob) (s : State) : State := gated 0x000a 1 (stagedBody j) .capsuleStaged capsuleAccept (capsuleStep 7 (grantEnd s))

/-- A capsule that has passed its checks must wait before it is written (R281, R389). -/
def capsuleHeld (s : State) (c : Capsule) : Bool := capsuleBusy s c || (decide (capKind c = 3) && s.otp.session.isSome)

/-- A capsule of kind VAULT is written as its object; with the Vault not in service, or no place for it, that fails (R278, R279). -/
def capsuleVault (j : CapsuleJob) (s : State) : State :=
  if s.vault.state ≠ .inService then capsuleRefuse j 6 s
  else match (recRec s (capSlot j.cap)).bind (fun q => vaultStore q.vaultObject (capSlot j.cap) (capLen j.cap) j.cap.content (some (capManifest j.cap)) s) with
    | some t => capsuleWrite j t
    | none => capsuleRefuse j 6 s

/-- CAPSULE_STAGE (R278): the capsule whose turn it is takes its next step: the checks and the grant; then, with its target
written by firmware, the read-back (`back` is what it reads, none if a write or read failed), the end of the grant and the
record. A capsule that must wait before its write is not checked again (step 1 of the job). One of kind VAULT is read back from the drive,
as NVME_COMMAND_DONE says (step 5), and with the Vault OUT before that it fails. `bad` are the rails of a compare that a fault turns over
(R450). -/
def execCapsuleStage (back : Option (List (Nat × Byte))) (bad : BitVec 2) (s : State) : Out :=
  match s.capsules with
  | [] => notNow s
  | j :: _ =>
    when (fwRuns s && decide (j.step ≠ 7) && dgaIn s && sigIn s) s
      (if j.step = 0 && decide (capsuleReason s j.cap bad ≠ 0) then done (capsuleRefuse j (capsuleReason s j.cap bad) s)
       else if j.step ≤ 1 then
         if capsuleHeld s j.cap then (if j.step = 0 then done (capsuleStep 1 s) else notNow s)
         else done (if capKind j.cap = 3 then capsuleVault j s else capsuleWrite j s)
       else if capKind j.cap = 3 then
         if s.vault.state = .inService && (capsuleWriting s j.cap || s.vault.nvme.any (fun c => decide (c.use = .capsuleRead))) then notNow s
         else if j.step = 5 || !capsuleWritten s j.cap then done (capsuleRefuse j 6 s)
         else done (nvmeIssue [.capsuleRead] (capsuleStep 5 s))
       else
         let okBack := match back with
           | some b => decide (ctxCompare (sha384 (cellBytes b 0 (capLen j.cap))) (capDigest j.cap) bad = 2)
           | none => false
         if !okBack || capsuleStopped s j.cap then done (capsuleRefuse j 6 s) else done (capsuleRecord j s))

/-! ### PLDM Type 5 updates -/

/-- The management ports serve the Floor management service alone: in FLOOR, or in a start that stays in HOLD because the Fix
Ring is out of service (R125, R461). -/
def floorService (s : State) : Bool :=
  pairRuns s && !s.sc.selfTestDue && !s.sc.switching && !s.sc.restartDue && (decide (s.mor.floorCause ≠ 0) || decide (s.mor.phase = 1))

/-- MGT_A and MGT_B are served: by firmware, or by ROM (R125). -/
def mgtServed (s : State) : Bool := fwRuns s || floorService s

/-- A message reaches the device: the port is served, and in I3C mode it has its dynamic address (R491). -/
def mgtUp (s : State) (b : Bool) : Bool :=
  mgtServed s && (decide ((mgtOf s b).mode = .smbus) || (mgtOf s b).dynAddr.isSome)

/-- An MCTP message addressed to the device releases ALERT_N of the port in I3C mode (R474). -/
def mgtMsg (b : Bool) (s : State) : State := upMgt b (fun m => if m.mode = .i3c then { m with alertLow := false } else m) s

/-- PLDM_REQUEST_UPDATE: one update at a time (R189). The completion codes are those of PLDM (log entry 20). -/
def execPldmRequestUpdate (b : Bool) (s : State) : Out :=
  when (mgtUp s b) s
    (if s.pldmUpdate.isSome then answer (.result 0x81) (mgtMsg b s)
     else answer (.result 0) { mgtMsg b s with pldmUpdate := some (b2n b) })

/-- PLDM_CANCEL_UPDATE: the update in progress ends (R189). -/
def execPldmCancelUpdate (b : Bool) (s : State) : Out :=
  when (mgtUp s b) s
    (if s.pldmUpdate = some (b2n b) then answer (.result 0) { mgtMsg b s with pldmUpdate := none } else answer (.result 0x80) (mgtMsg b s))

/-- PLDM_CAPSULE_PUSH: component 0x0010 delivers a capsule for staging (R278); with `last` the update ends once it is processed. -/
def execPldmCapsulePush (b : Bool) (cap : Capsule) (last : Bool) (s : State) : Out :=
  when (fwRuns s && mgtUp s b && decide (s.pldmUpdate = some (b2n b))) s
    (done { mgtMsg b s with capsules := s.capsules ++ [⟨cap, .pldm (b2n b) last, 0⟩] })

/-- The two copies as they read, and whether copy 1 is in use: a readable one, the higher GENERATION of two, copy 0 of two that are
equal (R185). -/
def dirInUse (c : CfgFlash) : Bool × Option BootDir :=
  match c.dir0.bind dirRead, c.dir1.bind dirRead with
  | some a, some b => if a.generation < b.generation then (true, some b) else (false, some a)
  | some a, none => (false, some a)
  | none, some b => (true, some b)
  | none, none => (false, none)

/-- The Boot Directory copy in use (R185). -/
def bootDir (c : CfgFlash) : Option BootDir := (dirInUse c).2

/-- CCH_00, which carries the frames of R187, is in service (R213). -/
def cfgUp (s : State) : Bool := decide ((chanOf s 0).st = .ready)

/-- The erase and program frames of a write to the configuration flash run on CCH_00: they leave continuous read (R221), and with the
channel not in service each completes STOPPED and writes nothing (R187, R213). -/
def cfgWrite (f : CfgFlash → CfgFlash) (s : State) : State :=
  if cfgUp s then upXip (fun x => { x with contMode := false }) { s with cfg := f s.cfg } else s

/-- A copy is rewritten with its erase frame and its program frames (R187, R220). -/
def putDir (second : Bool) (d : DirCopy) (s : State) : State :=
  cfgWrite (fun c => if second then { c with dir1 := some d } else { c with dir0 := some d }) s

/-- A rewrite of the directory whose first copy, the one not in use, takes no good frame: that copy is unreadable, and the other stays as it
was (R187, log entry 115). -/
def breakDir (s : State) : State :=
  let u := dirInUse s.cfg
  cfgWrite (fun c => if u.1 then { c with dir0 := none } else { c with dir1 := none }) s

/-- Both copies rewritten with GENERATION + 1, first the one not in use and then the other (R187). With neither readable, a new
directory (R126): slot A in use as the inactive slot of both components. -/
def rewriteDir (f : BootDir → BootDir) (s : State) : State :=
  let u := dirInUse s.cfg
  let d := f (u.2.getD ⟨0, false, false, false, false⟩)
  let d1 := dirWrite { d with generation := (d.generation + 1) % 2 ^ 64 }
  putDir u.1 d1 (putDir (!u.1) d1 s)

/-- The firmware slot STRAP_6 selects: the primary slot; true is B (R186). -/
def fwPrimary (s : State) : Bool := s.mor.strap.getLsbD 6

/-- A slot of the configuration flash; true is B. -/
def fwSlotOf (s : State) (b : Bool) : Option Bundle := if b then s.cfg.fwB else s.cfg.fwA
def polSlotOf (s : State) (b : Bool) : Option PolicyImage := if b then s.cfg.polB else s.cfg.polA

/-- A component written into a slot. -/
def putComponent (c : Component) (b : Bool) (s : State) : State :=
  match c with
  | .bundle x => cfgWrite (fun f => if b then { f with fwB := some x } else { f with fwA := some x }) s
  | .policy x => cfgWrite (fun f => if b then { f with polB := some x } else { f with polA := some x }) s

/-- A slot left without a readable component. -/
def dropComponent (c : Component) (b : Bool) (s : State) : State :=
  match c with
  | .bundle _ => cfgWrite (fun f => if b then { f with fwB := none } else { f with fwA := none }) s
  | .policy _ => cfgWrite (fun f => if b then { f with polB := none } else { f with polA := none }) s

/-- The slot a component is pushed into: the inactive slot, or slot A with no readable directory (R126, R187). -/
def pushSlot (s : State) (c : Component) : Bool :=
  match bootDir s.cfg, c with
  | none, _ => false
  | some d, .bundle _ => d.fwInactive
  | some d, .policy _ => d.polInactive

/-- The primary slot of a component (R186). -/
def primarySlot (s : State) (c : Component) : Bool :=
  match c with
  | .bundle _ => fwPrimary s
  | .policy _ => false

/-- Full acceptance of a pushed component (R180, R188, R284). What the format check compares with when the primary slot holds nothing readable is
the model's choice (log entry 144). -/
def pushAccepted (s : State) (c : Component) : Bool :=
  match c with
  | .bundle b => bundleOk s.otp b && (match s.cfg.polA with
      | some p => b.formats.contains p.hdr.format
      | none => true)
  | .policy p => polPushOk s.otp (match fwSlotOf s (fwPrimary s) with
      | some b => b.formats
      | none => []) s.polFloor p

/-- COMPONENT and DIGEST of 0x000E. -/
def componentId (c : Component) : Nat :=
  match c with
  | .bundle _ => 1
  | .policy _ => 2
def componentDigest (c : Component) : Bytes :=
  match c with
  | .bundle b => fwDigest b
  | .policy p => polDigest p

/-- Record 0x000E COMPONENT_PUSHED, outside FLOOR: durable before what follows it (R31, R358). -/
def pushedRecord (c : Component) (slot : Bool) (outcome : Nat) (g : Gate) (eff : State → State) (s : State) : State :=
  if floorService s then eff s
  else gated 0x000e 1 (le 2 (componentId c) ++ le 1 (b2n slot) ++ le 1 outcome ++ fit 48 (componentDigest c)) g eff s

/-- PROMOTE of a component in a directory. -/
def setPromote (c : Component) (on : Bool) (d : BootDir) : BootDir :=
  match c with
  | .bundle _ => { d with fwPromote := on }
  | .policy _ => { d with polPromote := on }

/-- A component is promoted: it stands in the primary slot, and PROMOTE is 0 in both copies, unless their frames fail (R187, steps 4 and
5). -/
def promoted (c : Component) (cleared : Bool) (s : State) : State :=
  let s1 := putComponent c (primarySlot s c) s
  if cleared then rewriteDir (setPromote c false) s1 else breakDir s1

/-- The component in the staging slot, the Policy Image or else the bundle. -/
def stagedComponent (pol : Bool) (s : State) : Option Component :=
  if pol then (polSlotOf s true).map .policy else (fwSlotOf s (!fwPrimary s)).map .bundle

/-- Steps 4 and 5 of R187: the staging slot copied into the primary slot; `copied` says that the primary slot then passes
acceptance, so that 0x000E goes before the promotion. A copy that does not leaves PROMOTE set for the next start. -/
def promote (c : Component) (copied cleared : Bool) (s : State) : State :=
  if copied then pushedRecord c (primarySlot s c) 3 (.promotion (decide (componentId c = 2)) cleared) (promoted c cleared) s
  else dropComponent c (primarySlot s c) s

/-- ApplyComplete: success, or verification failed (R126, R187). -/
def applyComplete (b : Bool) (code : Nat) (s : State) : Out := answer (.result code) (upMgt b (fun m => { m with applied := some code }) s)

/-- PLDM_COMPONENT_PUSH (R126, R187, R188): the component is written into the inactive slot, accepted, and promoted if that
is the staging slot. ApplyComplete reports success, or a failure where acceptance or the frames of a step fail (`f`); `last` ends the update. Outside
FLOOR the push waits while its two records cannot be durable (R31); it waits for the engines its acceptance needs (R467). With CCH_00 not in
service nothing is written. -/
def execPldmComponentPush (b : Bool) (c : Component) (f : PushFrames) (last : Bool) (s : State) : Out :=
  let inFloor := floorService s
  when (mgtUp s b && decide (s.pldmUpdate = some (b2n b)) && sigIn s && dgaIn s && (inFloor || (paOk s && evFree s.ev 0x000e && decide (fixUsed s.ev < 383)))) s
    (let t := pushSlot s c
     let s0 := { mgtMsg b s with pldmUpdate := if last then none else s.pldmUpdate }
     if !cfgUp s then applyComplete b 1 s0
     else if !pushAccepted s c then
       applyComplete b 1 (pushedRecord c t 2 .none id (if inFloor then s0 else if f.written then putComponent c t s0 else dropComponent c t s0))
     else if !f.written then applyComplete b 1 (pushedRecord c t 2 .none id (dropComponent c t s0))
     else
       let s1 := if (bootDir s.cfg).isNone then rewriteDir id s0 else s0
       let s2 := pushedRecord c t 1 .none id (putComponent c t s1)
       if t = primarySlot s c then applyComplete b 0 s2
       else if !f.marked then applyComplete b 1 (breakDir s2)
       else applyComplete b (if f.copied && f.cleared then 0 else 1) (promote c f.copied f.cleared (rewriteDir (setPromote c true) s2)))

end Sys2Proof.Machine
end

