-- ==== Sys2Proof/Machine/RomOps.lean ====
section
/-!
DEFINITION. The end of the ROM stage: the configuration, the lock, which waits for replay, and the start of firmware (R122, R187, R214,
R472).
-/

namespace Sys2Proof.Machine

open Sys2Proof

/-- The accepted list of the running bundle. -/
def runFormats (s : State) : List Nat := match s.run.bundle with
  | some b => b.formats
  | none => []

/-- The body of 0x0001 BOOT_BEGIN (R347). -/
def bootBeginBody (s : State) (p : PolicyImage) : Bytes :=
  le 4 s.ev.epoch ++ le 1 s.otp.countLatched ++ le 1 s.ev.startCause ++ le 1 s.run.fwSlot ++ le 1 s.run.polSlot ++ le 4 idRev.toNat
    ++ le 4 (caps s).toNat ++ le 8 s.ev.tripSeq ++ fit 48 (match s.run.bundle with
      | some b => fwDigest b
      | none => []) ++ fit 48 (polDigest p)

/-- R224: the bank of a port carries what a PRESENT_ID record asks for. -/
def bankCarries (v : Option VioClass) (r : PresentRec) : Bool :=
  match v with
  | none => false
  | some .v18 => decide (r.maxMhz ≤ (if r.flags.testBit 0 then 200 else 133))
  | some _ => !r.flags.testBit 0 && decide (r.maxMhz ≤ 133)

/-- Step 6, before the lock: the Mordant configuration of R183 and the verifier table (R257); the channels named begin their self-test,
but for those whose bank has fallen (R77, R110, R213). -/
def romPrepare (p : PolicyImage) (s : State) : State :=
  let attr := tabSetAll 0 tabEmpty (p.domains.map (fun d => (d.domain, BitVec.ofNat 4 (1 + 2 * d.attr))))
  let prereq := tabSetAll 0 tabEmpty (p.domains.map (fun d => (d.domain, d.prereq)))
  let outMap := tabSetAll 0 tabEmpty (p.resets.map (fun r => (r.output, BitVec.ofNat 6 (32 + r.domain))))
  let slotMap := tabSetAll 0 tabEmpty (p.images.map (fun r => (r.slot, BitVec.ofNat 6 (32 + r.domain))))
  let s1 := upMor (fun m => { m with attr := attr, prereq := prereq, outMap := outMap, vslotMap := slotMap }) s
  let s2 := { s1 with run := { s1.run with tblActive := s1.activeHalf, tblStaged := s1.staged }, chans := ⟨s1.chans.cells.map (fun c =>
    (c.1, if c.1 ≠ 0 ∧ (polChannel p c.1).isNone then { c.2 with st := .off } else c.2))⟩ }
  p.channels.foldl (fun s r =>
    upChan r.channel (fun c => { c with cfg := chCfgWord r, ops := chOpsWord r, geom := chGeomWord r, st := if c.st = .off then .selftest else c.st }) s) s2

/-- The rest of step 6: the lock, with which the Lock Map arms, and phase VERIFY; in Closed, WDT_LOCK; 0x0001; the images of channels
lost by now reach their end, and the emulated devices load (R35, R101, R110, R211, R225). -/
def romLock (p : PolicyImage) (s : State) : State :=
  let s1 := upMor (fun m => { m with lock := true, phase := 2 }) s
  let s2 := upWdt (fun w => { w with lock := w.lock || s.otp.closed }) (emit 0x0001 0 (bootBeginBody s1 p) s1)
  let s3 := (p.channels.filter (fun r => decide ((chanOf s2 r.channel).st = .stopped) || decide ((chanOf s2 r.channel).st = .failed))).foldl
    (fun s r => chanLost r.channel s) s2
  p.presents.foldl (fun s r => upEm (emKey r.port r.device) (fun e => { e with st := if bankCarries (portOf s r.port).vio r then .loading else .failed }) s) s3

/-! ### The start of firmware -/

/-- Endpoints in removed bays make their domains final holds (R311). -/
def bayHolds (s : State) : State :=
  each ((epsAll s).filter (fun j => !epBayOk s j)) (fun j s => match outDom s (48 + j) with
    | some d => markFinal 0x0b d s
    | none => s) s

/-- A promotion that lost power is repeated from the staging slot (R187). With nothing readable there, there is nothing to copy, and
PROMOTE stays (log entry 109). -/
def finishPromotions (s : State) : State :=
  match bootDir s.cfg with
  | none => s
  | some d =>
    let s1 := if d.fwPromote then (match fwSlotOf s (!fwPrimary s) with
        | some b => promote (.bundle b) (bundleOk s.otp b) true s
        | none => s) else s
    if d.polPromote then (match polSlotOf s true with
        | some p => promote (.policy p) (polPushOk s1.otp (runFormats s1) s1.polFloor p) true s1
        | none => s1) else s1

/-- The INACTIVE fields of this start: the staging slot where the primary one passed acceptance (R187), which is what ROM found: a
primary slot that passes only in a repeated step 4 does not count (log entry 108). -/
def setInactive (s : State) (d : BootDir) : BootDir :=
  { d with fwInactive := if s.run.fwSlot = b2n (fwPrimary s) then !fwPrimary s else fwPrimary s, polInactive := decide (s.run.polSlot = 0) }

/-- The record of a repeated promotion still waits. -/
def promotionWaits (s : State) : Bool := s.ev.waiting.any (fun w => match w.gate with
  | .promotion _ _ => true
  | _ => false)

/-- The directory is rewritten only when a field differs, and after any pending promotion (R187). -/
def refreshDir (s : State) : State :=
  match bootDir s.cfg with
  | none => s
  | some d => if promotionWaits s || decide (setInactive s d = d) then s else rewriteDir (setInactive s) s

/-- A repeated promotion whose record has become durable ends (R187, R358). -/
def promotionGo (pol cleared : Bool) (s : State) : State := match stagedComponent pol s with
  | some c => if cleared then refreshDir (promoted c true s) else promoted c false s
  | none => s

/-- The dynamic addresses of CBUS (R472): a recorded component gets ADDR of its record, any other the next address from 0x40 upward. -/
def cbusAddrs (p : PolicyImage) : Nat → List (Nat × Nat) → List Nat
  | _, [] => []
  | n, f :: l => match p.cbus.find? (fun r => decide (r.pid = f.1) && decide (r.dcr = f.2)) with
    | some r => r.addr :: cbusAddrs p n l
    | none => n :: cbusAddrs p (n + 1) l

/-- Dynamic address assignment on CBUS: `found` are the PID and DCR of the components that acknowledge (R472). Without the CBUS section
the device does not drive CBUS (R176). -/
def cbusStart (found : List (Nat × Nat)) (s : State) : State :=
  match s.run.policy with
  | none => s
  | some p =>
    if p.cbus = [] then { s with run := { s.run with cbusOthers := [] } }
    else
    let others := ((found.zip (cbusAddrs p 0x40 found)).filter (fun f => !p.cbus.any (fun r => decide (r.pid = f.1.1) && decide (r.dcr = f.1.2)))).map (fun f => (f.1.1, f.1.2, f.2))
    let s0 : State := { s with run := { s.run with cbusOthers := others } }
    let s1 := if found = [] then emitFw 0x0031 [] s0 else s0
    (p.cbus.zipIdx).foldl (fun s x =>
      if found.contains (x.1.pid, x.1.dcr) then upCbus x.2 (fun _ => ⟨true, 0, x.1.addr⟩) s
      else
        let s2 := emitFw 0x0032 (le 1 x.2 ++ le 1 x.1.addr ++ le 1 1 ++ le 1 0) s
        if x.1.flags.testBit 0 then markFinal 6 x.1.domain s2 else s2) s1

/-- Step 7: firmware starts; `found` are the CBUS components that acknowledge. -/
def firmwareStart (found : List (Nat × Nat)) (s : State) : State :=
  let s1 := upSc (fun c => { c with running := true }) s
  tempAlert (settle (cbusStart found (refreshDir (finishPromotions (lakeOutHold (bayHolds s1))))))

/-- Accepted writes are still to be committed in REPLAY, or on a channel whose self-test runs: the Lock Map arms after them (R214). -/
def replayWaits (s : State) : Bool :=
  s.replay.any (fun e => decide ((chanOf s e.channel).st = .selftest) || decide ((chanOf s e.channel).st = .replay))

/-- Steps 6 and 7 from the lock on, once no replay is left to run (R122, R214). With no oscillator toggling ROM's access to the Mordant
ends in a bus error, and ROM goes no further (R514, log entry 105). -/
def romGo (found : List (Nat × Nat)) (s : State) : State :=
  match s.run.policy with
  | none => s
  | some p =>
    if replayWaits s then { s with run := { s.run with romWait := some found } }
    else if !aocRuns s then upSc (fun c => { c with fault := true }) { s with run := { s.run with romWait := none } }
    else firmwareStart found (romLock p { s with run := { s.run with romWait := none } })

/-- A ROM that waits for replay goes on as the last one ends (R214). -/
def romResume (s : State) : State := match s.run.romWait with
  | none => s
  | some found => if s.sc.restartDue then s else romGo found s

end Sys2Proof.Machine
end

