-- ==== Sys2Proof/Machine/ScrubOps.lean ====
section
/-!
DEFINITION. The scrub engine: the blocks a pass reads, where each was loaded from, its frames and the compare (R215, R216, R273, R274).
-/

namespace Sys2Proof.Machine

open Sys2Proof

/-- The flash place, device and address, that the Lake's copy of a block was loaded from, if the Lake holds one (R273). -/
def lakeSource (s : State) (p : PolicyImage) (r : PresentRec) (a : Nat) : Option (Nat × Nat) :=
  match slotAt p r.channel r.srcDevice a with
  | some i => (imgOf s i.slot).inLake.bind (fun x => (srcPlace s i.slot x).map (fun q => (q.1, q.2 + (a - i.offset))))
  | none => if (emOf s (recKey r)).loaded then some (r.srcDevice, loadFrom s p r.channel r.srcDevice a) else none

/-- A capsule has written the flash place since the start (R273, R281). -/
def capsuleWrote (s : State) (p : PolicyImage) (k dev a : Nat) : Bool :=
  p.images.any (fun r => decide (r.channel = k) &&
    (((imgOf s r.slot).halfWritten && decide (r.device = dev)
        && overlaps (if tabGet false s.activeHalf r.slot then r.offset else r.offset + r.length) r.length a 4096)
    || ((imgOf s r.slot).goldenWritten && decide (1 - r.device = dev) && (match recRec s r.slot with
        | some q => overlaps q.goldenOffset r.length a 4096
        | none => false))))

/-- Where a pass reads a block from, at a position (device × 2^32 + address): the Lake holds it from flash, it is not SHADOW or
HIDDEN, and no capsule has written it (R215, R273). -/
def scrubPlace (s : State) (k pos : Nat) : Option (Nat × Nat) :=
  let dev := pos / 2 ^ 32
  let a := pos % 2 ^ 32
  match s.run.policy with
  | none => none
  | some p => match polPresents p k dev with
    | none => none
    | some r =>
      if (classesOf p k dev a 4096).any (fun c => decide (c = 4) || decide (c = 5)) then none
      else (lakeSource s p r a).filter (fun q => !capsuleWrote s p k q.1 q.2)

/-- The next block of a pass from a position, within a number of blocks. -/
def scrubFind (s : State) (k : Nat) : Nat → Nat → Option Nat
  | 0, _ => none
  | n + 1, a => if (scrubPlace s k a).isSome then some a else scrubFind s k n (a + 4096)

/-- The end of a device's blocks in that numbering. -/
def scrubEnd (s : State) (k dev : Nat) : Nat :=
  match s.run.policy.bind (fun p => polChannel p k) with
  | none => dev * 2 ^ 32
  | some c => dev * 2 ^ 32 + deviceSize c dev

/-- The next block to read at or after a position, on device 0 and then device 1. -/
def scrubNextBlock (s : State) (k a : Nat) : Option Nat :=
  let e0 := scrubEnd s k 0
  let e1 := scrubEnd s k 1
  let r0 := if a < e0 then scrubFind s k ((e0 - a) / 4096) a else none
  match r0 with
  | some b => some b
  | none => let b := max a (2 ^ 32)
            if b < e1 then scrubFind s k ((e1 - b) / 4096) b else none

/-- How many consecutive blocks from b one frame of at most 64 KiB takes: each follows the one before it in its source, and none is
busy. -/
def scrubRun (s : State) (k b : Nat) (from' : Nat × Nat) : Nat → Nat
  | 0 => 0
  | n + 1 => if decide (scrubPlace s k b = some from') && !blockBusy s k from'.1 from'.2
      then 1 + scrubRun s k (b + 4096) (from'.1, from'.2 + 4096) n else 0

/-- The pass ends: deferred blocks still pending are skipped; an overdue pass starts (R215, R216). -/
def scrubFinish (k : Nat) (s : State) : State :=
  upChan k (fun c =>
    if c.scrubLate then { c with scrubActive := true, scrubLate := false, scrubSkipped := 0, scrubNext := 0, scrubEsc := false, scrubDefer := [], scrubAgain := [] }
    else { c with scrubActive := false, scrubDefer := [], scrubAgain := [] }) s

/-- A block that differs twice (R274): 0x0112 with the place in flash, and once per pass the scrub escalation, which concerns every
domain with an image on the device whose copy the block is (log entry 80). -/
def scrubMismatch (k : Nat) (f : Frame) (s : State) : State :=
  let s1 := emit 0x0112 5 (le 1 k ++ le 1 f.dev ++ le 2 0 ++ le 4 f.addr) s
  if (chanOf s k).scrubEsc then s1
  else escalateFw 2 k (devDomains s k (f.pos / 2 ^ 32)) (upChan k (fun c => { c with scrubEsc := true }) s1)

/-- The scrub engine's next frame, or the end of the pass (R215, R216, R274). A frame never covers a busy block: one that is to be
read a second time is then deferred too. -/
def scrubStart (k : Nat) : Nat → State → State
  | 0, s => s
  | n + 1, s =>
    let c := chanOf s k
    let go := fun (b len : Nat) (q : Nat × Nat) (s : State) =>
      upChan k (fun c => { c with frame := some ⟨.scrub, .read, q.1, q.2, len, 1, [], false, false, none, b, false, false⟩ }) s
    match c.scrubAgain with
    | b :: r =>
      let s1 := upChan k (fun c => { c with scrubAgain := r }) s
      match scrubPlace s k b with
      | none => scrubStart k n s1
      | some q => if blockBusy s k q.1 q.2 then scrubStart k n (upChan k (fun c => { c with scrubDefer := c.scrubDefer ++ [b] }) s1)
          else go b 4096 q s
    | [] =>
      match scrubNextBlock s k c.scrubNext with
      | some b =>
        match scrubPlace s k b with
        | none => s
        | some q =>
          if blockBusy s k q.1 q.2 then
            scrubStart k n (upChan k (fun c => { c with scrubDefer := c.scrubDefer ++ [b], scrubNext := b + 4096 }) s)
          else
            let r := max 1 (scrubRun s k b q 16)
            go b (4096 * r) q (upChan k (fun c => { c with scrubNext := b + 4096 * r }) s)
      | none =>
        match c.scrubDefer with
        | b :: r =>
          let s1 := upChan k (fun c => { c with scrubDefer := r }) s
          match scrubPlace s k b with
          | none => scrubStart k n s1
          | some q =>
            if blockBusy s k q.1 q.2 then
              scrubStart k n (upChan k (fun c => { c with scrubSkipped := (c.scrubSkipped + 1) % 2 ^ 20 }) s1)
            else go b 4096 q s1
        | [] => scrubFinish k s

/-- The blocks of a scrub frame that differ from the Lake, by position (R273). With the Lake OUT every Lake request ends in error and
nothing is compared (R254). -/
def scrubDiffer (s : State) (k : Nat) (f : Frame) (data : Bytes) : List Nat :=
  match s.run.policy.bind (fun p => (polPresents p k (f.pos / 2 ^ 32)).map (fun r => lakeBase p r)) with
  | none => []
  | some base =>
    if lakeIn s then
      ((List.range (f.len / 4096)).filter (fun i =>
        decide (lakeCells s (base + f.pos % 2 ^ 32 + 4096 * i) 4096 ≠ frameCells 0 4096 (data.drop (4096 * i))))).map (fun i => f.pos + 4096 * i)
    else []

/-- What a scrub frame gives with the blocks of it that differ (R274): those are read once more, and those of a second read are
mismatches. -/
def scrubResult (k : Nat) (f : Frame) (bad : List Nat) (s : State) : State :=
  if (chanOf s k).scrubAgain.head? = some f.pos then
    let s1 := upChan k (fun c => { c with scrubAgain := c.scrubAgain.tail }) s
    if bad.isEmpty then s1 else scrubMismatch k f s1
  else upChan k (fun c => { c with scrubAgain := bad }) s

/-- What a scrub frame gives; its compare waits in a failover interruption (R256). -/
def scrubOver (k : Nat) (f : Frame) (ok : Bool) (data : Bytes) (s : State) : State :=
  if ok && lakeIn s && s.lake.failover then upLake (fun l => { l with held := l.held ++ [.scrub k f data] }) s
  else scrubResult k f (if ok then scrubDiffer s k f data else []) s

/-- A compare of a scrub frame of a channel is held in a failover interruption: scrub reads no further frame there. -/
def scrubHeld (s : State) (k : Nat) : Bool := s.lake.held.any (fun q => match q with
  | .scrub c _ _ => decide (c = k)
  | _ => false)

end Sys2Proof.Machine
end

