-- ==== Sys2Proof/Machine/Channels.lean ====
section
/-!
DEFINITION. The custody channel commands (R201 to R216, R246 to R248, R273, R274).
-/

namespace Sys2Proof.Machine

open Sys2Proof

/-- A write of CCH_QPUSH_3, by a core or by JTAG (R201, R499). -/
def cchQpush (k : Nat) (buf : BitVec 32) (s : State) : Out :=
  let c := chanOf s k
  if 64 ≤ c.fwq.length then done (upChan k (fun c => { c with dropped := true }) s)
  else done (fwAdvance k 65 (upChan k (fun c =>
    { c with dropped := false, fwq := c.fwq ++ [⟨c.push0, c.push1, c.push2, buf⟩] }) s))

/-- CCH_QPUSH: a write of BUF to CCH_QPUSH_3 submits the entry from the four words last written (R201); a full queue
ignores it and sets DROPPED (R207). An entry that cannot run completes at once if it is first (R204). -/
def execCchQpush (k : Nat) (buf : BitVec 32) (s : State) : Out := when (coreRuns s && decide (k < 17)) s (cchQpush k buf s)

/-- A read of CCH_QDONE: the oldest completion, removed by the read. -/
def qdoneRead (k : Nat) (s : State) : Out :=
  match (chanOf s k).cq with
  | [] => answer (.word 0) s
  | d :: r =>
    answer (.word (packWord [(31, 1), (8, d.status), (0, d.tag.toNat)]))
      (fwAdvance k 65 (upChan k (fun c => { c with cq := r }) s))

/-- CCH_QDONE_READ. -/
def execCchQdoneRead (k : Nat) (s : State) : Out := when (coreRuns s && decide (k < 17)) s (qdoneRead k s)

/-! ### Arbitration -/

/-- The place of a client in the precedence of R206. -/
def clientNo : Client → Nat
  | .xip => 0
  | .commit => 1
  | .verify => 2
  | .firmware => 3
  | .scrub => 4

/-- No status poll runs on a device. -/
def notPolling (c : Channel) (dev : Nat) : Bool := if dev = 0 then c.wip0.isNone else c.wip1.isNone

/-- The image whose flash source the verify streamer of a channel is reading, with its DGA context. -/
def streamOn (s : State) (k : Nat) : Option (Nat × Stream) :=
  (imgsOn s k).findSome? (fun i => match (imgOf s i).stream with
    | some st => if (srcPlace s i st.src).isSome && decide (0 < st.left) && !st.failed && dgaHas s (.stream i) then some (i, st) else none
    | none => none)

/-- The device a client's next frame addresses, when that client waits for a frame; 2 for a pass that only has to end. -/
def clientDev (s : State) (k : Nat) (cl : Client) : Option Nat :=
  let c := chanOf s k
  if c.st = .replay ∧ cl ≠ .commit then none
  else match cl with
    | .xip => match s.xip.fill with
      | some f => if k = 0 && !f.arrived && dgaHas s .window then some 0 else none
      | none => none
    | .commit => match c.commit with
      | some j => if j.frames.isEmpty then none else some j.entry.srcDevice
      | none => none
    | .verify => match streamOn s k with
      | some (i, st) => (srcPlace s i st.src).map (fun q => q.1)
      | none => none
    | .firmware => match c.fwq with
      | e :: _ => if placeFree c && !fwPolls c && !c.contBroken && (entryReject s k .first e).isNone then some (qDev e) else none
      | [] => none
    | .scrub =>
      if !c.scrubActive || scrubHeld s k then none
      else match (chanOf (scrubStart k 1048577 s) k).frame with
        | some f => some f.dev
        | none => some 2

/-- The clients that wait and may start, in order of precedence. -/
def waitingClients (s : State) (k : Nat) : List Client :=
  [Client.xip, .commit, .verify, .firmware, .scrub].filter (fun cl => match clientDev s k cl with
    | some d => decide (d = 2) || notPolling (chanOf s k) d
    | none => false)

/-- R206: the first in precedence, but a client that has been passed over long enough comes first. The n clients ahead of it in
precedence may be as long passed over, so it comes first after 17 − n frames and waits for 16 at most (log entry 74). -/
def arbiter (s : State) (k : Nat) : Option Client :=
  let w := waitingClients s k
  match w.find? (fun cl => decide (17 - clientNo cl ≤ tabGet 0 (chanOf s k).skippedBy (clientNo cl))) with
  | some cl => some cl
  | none => w.head?

/-- The counts of frames a waiting client has been passed over for, after a grant. -/
def passedOver (w : List Client) (g : Client) (c : Channel) : Channel :=
  { c with skippedBy := (w.foldl (fun t cl => if clientNo g < clientNo cl then tabSet 0 t (clientNo cl) (tabGet 0 t (clientNo cl) + 1) else t) (tabSet 0 c.skippedBy (clientNo g) 0)) }

/-- A frame starts. On CCH_00 any frame but a fill first leaves continuous read (R221). -/
def startFrame (k : Nat) (f : Frame) (s : State) : State :=
  if k = 0 ∧ f.client ≠ .xip then
    upXip (fun x => { x with contMode := false }) (upChan k (fun c => { c with frame := some { f with exitFirst := s.xip.contMode } }) s)
  else upChan k (fun c => { c with frame := some f }) s

/-- What a firmware entry does on flash. -/
def qKind (c : Channel) (k : Nat) (e : QEntry) : FrameKind :=
  if qProto e = 0 then .read else if qProto e = 1 then .program else if qIsErase c k e then .erase else .register

/-- A frame of an engine. -/
def engineFrame (cl : Client) (kind : FrameKind) (dev addr len : Nat) : Frame :=
  ⟨cl, kind, dev, addr, len, 1, [], decide (kind = .program) || decide (kind = .erase), false, none, 0, false, false⟩

/-- The frame of the client that is granted (R205, R206, R246, R259). A fill that follows a fill omits the opcode where continuous
read is used (R221). -/
def grantFrame (k : Nat) (cl : Client) (s : State) : State :=
  let c := chanOf s k
  match cl with
  | .xip => match s.xip.fill with
    | some f => upXip (fun x => { x with contMode := x.contSupport })
        (startFrame k { engineFrame .xip .read 0 (4096 * (s.xip.baseBlk + f.block)) 4096 with omitOp := s.xip.contMode } s)
    | none => s
  | .commit => match c.commit with
    | some j => match j.frames with
      | f :: _ =>
        let sp := frameSpan c f
        let kind := match f with
          | .read _ _ => FrameKind.read
          | .erase _ => .erase
          | .program _ _ => .program
        if kind = .read ∨ commitLockOk s j sp.1 sp.2 then startFrame k (engineFrame .commit kind j.entry.srcDevice sp.1 sp.2) s
        else commitHalt k s
      | [] => s
    | none => s
  | .verify => match streamOn s k with
    | some (i, st) => match srcPlace s i st.src with
      | some (d, a) => startFrame k (engineFrame .verify .read d (a + st.next) (min st.left 1048576)) s
      | none => s
    | none => s
  | .firmware => match c.fwq with
    | e :: r =>
      let kind := qKind c k e
      let s1 := startFrame k ⟨.firmware, kind, qDev e, e.addr.toNat, e.len.toNat, 1, [e],
        (qWaitWip e || decide (kind = .program) || decide (kind = .erase)), false, none, 0, false, false⟩
        (upChan k (fun c => { c with fwq := r }) s)
      if k = 0 ∧ kind = .program then cfgTouch e.addr.toNat e.len.toNat s1
      else if k = 0 ∧ kind = .erase then cfgTouch e.addr.toNat (qEraseLen c k e) s1
      else s1
    | [] => s
  | .scrub => scrubStart k 1048577 s

/-- CCH_FRAME_START: at a frame boundary the arbiter grants a client its next frame (R206); while a frame waits under
CONT, its next entry continues it, or ends it by rejection (R202 to R204). -/
def execCchFrameStart (k : Nat) (s : State) : Out :=
  let c := chanOf s k
  if !(decide (c.st = .ready) || decide (c.st = .replay)) then notNow s
  else match c.frame with
    | some f =>
      match f.entries.getLast?, c.fwq with
      | some l, e :: r =>
        when (qCont l && !f.ended && placeFree c) s
          (match entryReject s k (.continues f.dev) e with
           | none => done (upChan k (fun c => { c with fwq := r, frame := some { f with entries := f.entries ++ [e], waitWip := f.waitWip || qWaitWip e } }) s)
           | some st => done (upChan k (fun c => { c with fwq := r, contBroken := qCont e, frame := some { f with ended := true, tail := some (e, st) } }) s))
      | _, _ => notNow s
    | none =>
      match arbiter s k with
      | some cl => done (grantFrame k cl (upChan k (passedOver (waitingClients s k) cl) s))
      | none => notNow s

/-! ### Frame ends -/

/-- Bytes written to SRAM by a channel, an engine or a core; a write into the protected region ends in a bus error and writes nothing
(R428, log entry 126). A word that is written whole has no error any more. -/
def sramWrite (a : Nat) (b : Bytes) (s : State) : State :=
  if sramHits s a b.length then s
  else upSc (fun c => { c with sram := memWrite 0 c.sram (a - 0x10000000) b, sramBad := c.sramBad.filter (fun w => !(decide (a ≤ 0x10000000 + 8 * w) && decide (0x10000000 + 8 * w + 8 ≤ a + b.length))) }) s

/-- The data of a read frame goes to the buffers of its entries, in order (R201, R203). -/
def scatter : List QEntry → Bytes → State → State
  | [], _, s => s
  | e :: r, d, s => scatter r (d.drop e.len.toNat) (sramWrite e.buf.toNat (fit e.len.toNat d) s)

/-- The poll of a device's WIP begins (R205). -/
def startPoll (dev : Nat) (w : WipWait) (c : Channel) : Channel := if dev = 0 then { c with wip0 := some w } else { c with wip1 := some w }

/-- The entries of a firmware frame complete with a status (R212), and after them an entry whose rejection ended the frame (R206).
Where the frame waits for WIP, the last entry and the rejected one complete when WIP clears (R205, log entry 81). -/
def fwFrameDone (k : Nat) (f : Frame) (st : Nat) (s : State) : State :=
  if f.waitWip ∧ st = 0 then
    upChan k (fun c => startPoll f.dev ⟨.firmware, f.entries.getLast?, f.tail⟩ (f.entries.dropLast.foldl (fun c e => complete e 0 c) c)) s
  else upChan k (fun c => completeTail f.tail (f.entries.foldl (fun c e => complete e st c) c)) s

/-- A verify frame that was read goes to the stream's DGA context and, on a presented device, to the image range of the Lake
(R259). A Lake that is OUT fails the write, and with it the stream (R262). -/
def streamIn (i : Nat) (f : Frame) (data : Bytes) (s : State) : State :=
  let cells := fun (st : Stream) => frameCells st.next f.len data
  match (imgOf s i).stream with
  | none => s
  | some st =>
    let go := upImg i (fun g => { g with stream := some { st with next := st.next + f.len, left := st.left - f.len, got := st.got ++ cells st } }) s
    match s.run.policy, imgPresent s i, imgRec s i with
    | some p, some r, some q =>
      if lakeIn s then imageWrite i (lakeBase p r + q.offset + st.next) f.len (frameCells 0 f.len data) go
      else upImg i (fun g => { g with stream := some { st with failed := true } }) s
    | _, _, _ => go

/-- A frame whose reads are over, good or READ_FAIL: what its client gets. A verify frame or a fill whose read was abandoned, at an S event or
with a DGA engine, gives nothing (R264, R466). -/
def frameOver (k : Nat) (f : Frame) (ok : Bool) (data : Bytes) (s : State) : State :=
  let s0 := upChan k (fun c => { c with frame := none }) s
  match f.client with
  | .firmware =>
    let s1 := if ok && decide (f.kind ≠ .program) && !(f.entries.any qDir) then scatter f.entries data s0 else s0
    fwAdvance k 65 (fwFrameDone k f (if ok then 0 else 6) s1)
  | .commit =>
    if f.kind ≠ .read then upChan k (startPoll f.dev ⟨.commit, none, none⟩) s0
    else if ok then commitRead k f data s0 else commitHalt k s0
  | .verify => match streamOn s k with
    | some (i, st) => match srcPlace s i st.src with
      | some (d, a) =>
        if f.ended || !(decide (f.dev = d) && decide (f.addr = a + st.next)) then s0
        else if ok then streamIn i f data s0 else streamFail i s0
      | none => s0
    | none => s0
  | .xip => if f.ended then s0 else upXip (fun x => { x with fill := x.fill.map (fun g => { g with arrived := true, readOk := ok }) }) s0
  | .scrub => scrubOver k f ok data s0

/-- A calibration of a channel. Its SFDP reads on CCH_00 leave continuous read (R198, R221). -/
def calibrateOn (k : Nat) (cal : Cal) (s : State) : State :=
  let s1 := upChan k (calibrate cal) s
  if k = 0 then upXip (fun x => { x with contMode := false }) s1 else s1

/-- CCH_FRAME_END: the frame in progress ends (R212). `ok` is false when a read's strobe count or capture failed; the
channel calibrates (`cal`) and the frame is read again, up to three reads. A frame that waits under CONT ends here only by a failure, and
a continuation that comes after it is an orphan (R204). A fill that is read again follows a fill (R221). `data` is what the frame read; bytes not given are 0xFF. -/
def execCchFrameEnd (k : Nat) (ok : Bool) (cal : Cal) (data : Bytes) (s : State) : Out :=
  match (chanOf s k).frame with
  | none => notNow s
  | some f =>
    let isOpen := match f.entries.getLast? with
      | some l => qCont l && !f.ended
      | none => false
    when (!isOpen || !ok) s
      (let good := ok || decide (f.kind ≠ .read) && !(decide (f.kind = .register) && !(f.entries.any qDir))
       if good || decide (3 ≤ f.attempt) then sramDone (if good && decide (f.client = .firmware) && decide (f.kind ≠ .program) && !(f.entries.any qDir) then f.entries.map (fun e => (e.buf.toNat, e.len.toNat)) else []) s (romResume (settle (frameOver k f good data (if isOpen then upChan k (fun c => { c with contBroken := true }) s else s))))
       else
         let again := fun (s : State) =>
           let fill := decide (f.client = .xip)
           upXip (fun x => { x with contMode := if fill then x.contSupport else x.contMode })
             (upChan k (fun c => { c with frame := some { f with attempt := f.attempt + 1, omitOp := fill && s.xip.contMode, exitFirst := false } }) s)
         if !calibrates (chanOf s k) then done (again s)
         else if calPass cal then done (again (calibrateOn k cal s))
         else done (romResume (settle (chanStop k (calibrateOn k cal s)))))

/-- CCH_CONT_TIMEOUT: no next entry within t_CONTTO, so the frame ends (R200, R207). -/
def execCchContTimeout (k : Nat) (s : State) : Out :=
  match (chanOf s k).frame with
  | none => notNow s
  | some f => match f.entries.getLast? with
    | some l => when (qCont l && !f.ended) s
        (done (upChan k (fun c => { c with contBroken := true, frame := some { f with ended := true } }) s))
    | none => notNow s

/-- The poll on a device is over. -/
def endPoll (k dev : Nat) (s : State) : State :=
  upChan k (fun c => if dev = 0 then { c with wip0 := none } else { c with wip1 := none }) s

/-- What follows when the last pending write of a channel in REPLAY is committed (R213). -/
def replayCheck (k : Nat) (s : State) : State :=
  let c := chanOf s k
  if decide (c.st = .replay) && c.commit.isNone && !s.replay.any (fun e => decide (e.channel = k)) then chanReady k s else s

/-- CCH_WIP_POLL: the status poll of a device (R205); once WIP reads clear the entry completes, or the commit engine goes
on, retiring its entry after the last frame (R246). -/
def execCchWipPoll (k : Nat) (dev : Bool) (clear : Bool) (s : State) : Out :=
  let d := b2n dev
  match (if dev then (chanOf s k).wip1 else (chanOf s k).wip0) with
  | none => notNow s
  | some w =>
    if !clear then done s
    else match w.entry with
      | some e => done (fwAdvance k 65 (upChan k (fun c => completeTail w.tail (complete e 0 c)) (endPoll k d s)))
      | none =>
        match (if w.client = .commit then (chanOf s k).commit else none) with
        | none => done (endPoll k d s)
        | some j =>
          let s1 := upChan k (fun c => { c with commit := some { j with frames := j.frames.tail } }) (endPoll k d s)
          if j.frames.tail.isEmpty then done (romResume (replayCheck k (commitRetire k s1))) else done s1

/-- CCH_WIP_TIMEOUT: WIP still set after t_WIPTO (R200): the entry completes WIP_TIMEOUT, or the commit engine halts
(R248). -/
def execCchWipTimeout (k : Nat) (dev : Bool) (s : State) : Out :=
  let d := b2n dev
  match (if dev then (chanOf s k).wip1 else (chanOf s k).wip0) with
  | none => notNow s
  | some w => match w.entry with
    | some e => done (fwAdvance k 65 (upChan k (fun c => completeTail w.tail (complete e 7 c)) (endPoll k d s)))
    | none => if w.client = .commit then done (romResume (settle (commitHalt k (endPoll k d s)))) else done (endPoll k d s)

/-- CCH_PERIODIC_CALIBRATION: the calibration due every t_CALPER, at a frame boundary (R199); a second failure stops the
channel. Neither it nor the calibration of a retry waits for a WIP poll of the calibration device (log entry 111). -/
def execCchPeriodicCalibration (k : Nat) (cal : Cal) (s : State) : Out :=
  let c := chanOf s k
  when ((decide (c.st = .ready) || decide (c.st = .replay)) && c.frame.isNone && calibrates c) s
    (let s1 := calibrateOn k cal s
     if calPass cal then done s1 else done (romResume (settle (chanStop k s1))))

/-- CCH_SELFTEST_DONE: self-test of a channel ends with the checks of R214. It passes to REPLAY with accepted writes pending, to
READY without, or fails (R213). -/
def execCchSelftestDone (k : Nat) (t : ChanTest) (s : State) : Out :=
  let c := chanOf s k
  when (decide (c.st = .selftest) && decide (k ≠ 0)) s
    (let s1 := if calibrates c then upChan k (calibrate t.cal) s else s
     if !selfTestOk k c t then done (romResume (settle (chanFail k s1)))
     else if s.replay.any (fun e => decide (e.channel = k)) then done (upChan k (fun c => { c with st := .replay }) s1)
     else done (romResume (chanReady k s1)))

/-- The next accepted write for a channel: in REPLAY the oldest held for it, else the head of a journal (R246), of the lowest port
that has one for the channel (log entry 82). -/
def nextCommit (s : State) (k : Nat) : Option (JEntry × Bool) :=
  if (chanOf s k).st = .replay then (s.replay.find? (fun e => decide (e.channel = k))).map (fun e => (e, true))
  else s.ports.cells.findSome? (fun p => match p.2.journal with
    | e :: _ => if e.channel = k && !p.2.halted then some (e, false) else none
    | [] => none)

/-- COMMIT_ENTRY_START: the commit engine starts the next MUTABLE entry (R246); the bytes around a partial erase are first read and
durable in the Fix Ring, in REPLAY too unless they are there already (R247). They do not enter its reserve (R361): an entry that waited
for room goes on. A read that ends READ_FAIL leaves the entry as R248 has it for the other ends (log entry 135). -/
def execCommitEntryStart (k : Nat) (s : State) : Out :=
  let c := chanOf s k
  match c.commit with
  | some j => when j.frames.isEmpty s (done (commitKeep k s))
  | none => match nextCommit s k with
    | none => notNow s
    | some (e, rep) =>
      when (decide (c.st = .ready) || decide (c.st = .replay)) s
        (done (upChan k (fun c => { c with commit := some (if commitPartial c e && e.kept.isNone then ⟨e, commitReads c e, rep, none, []⟩
          else ⟨e, commitFrames c e, rep, e.kept, []⟩) }) s))

/-- An image's last Verdict of the start has come, or none will (R215, R266). -/
def imgSettled (s : State) (i : Nat) : Bool :=
  decide ((imgOf s i).st = .passed) || decide ((imgOf s i).st = .finalHold) || decide ((imgOf s i).st = .flagged)

/-- SCRUB_PASS_START: a pass falls due (R215, R216), the first one after the channel's last image Verdict; one that still runs is
overdue. -/
def execScrubPassStart (k : Nat) (s : State) : Out :=
  let c := chanOf s k
  when (decide (c.st = .ready) && (match s.run.policy.bind (fun p => polChannel p k) with
      | some r => decide (r.scrubPeriod ≠ 0)
      | none => false)
      && (c.scrubOn || (imgsOn s k).all (imgSettled s))) s
    (let s1 := upChan k (fun c => { c with scrubLate := true, scrubOn := true }) s
     if c.scrubActive then done s1 else done (scrubFinish k s1))

end Sys2Proof.Machine
end

