-- ==== Sys2Proof/Machine/Engines.lean ====
section
/-!
DEFINITION. The Digest Array, the Signature Engines, the key ladder and the random source as the cores use them (R445 to
R459).
-/

namespace Sys2Proof.Machine

open Sys2Proof

/-! ### Digest Array -/

/-- A write of DGA_OPEN with GO. -/
def dgaOpen (alg : BitVec 3) (s : State) : Out :=
  if s.dga.pending then done s
  else if 1 ≤ alg.toNat ∧ alg.toNat ≤ 5 then
    done (upDga (fun d => { d with pending := true, openAlg := alg.toNat, granted := false, refused := false, waits := d.waits ++ [.core] }) (dgaServe s))
  else done (upDga (fun d => { d with granted := false, refused := true }) s)

/-- DGA_OPEN: GO requests a CORE context; ignored while PENDING; a reserved ALG is refused. -/
def execDgaOpen (alg : BitVec 3) (s : State) : Out := when (coreRuns s) s (dgaOpen alg s)

/-- A CORE context is opened in slot c; DGA_EXPECT is cleared at open. -/
def dgaOpenCore (c : Nat) (d : Dga) : Dga :=
  { d with
    pending := false
    granted := true
    openCtx := c
    lost := d.lost.filter (fun x => decide (x ≠ c))
    waits := d.waits.erase .core
    turn := 4
    ctxs := tabSet none d.ctxs c (some ⟨d.openAlg, false, [], [], [], 0⟩) }

/-- DGA_OPEN_GRANT (R445, R446): the core's waiting open, whose turn it is, gets its slot, and opens that waited behind it theirs. -/
def execDgaOpenGrant (s : State) : Out :=
  let d := dgaNow s
  match dgaPlace d with
  | none => notNow s
  | some c => when (d.pending && decide (dgaNext d = some .core)) s (done (dgaServe (upDga (fun _ => dgaOpenCore c d) s)))

/-- A core access to context c: a bus error unless the core owns it (R447, R466). -/
def dgaAccess (c : Nat) (f : DgaCtx → Option DgaCtx) (s : State) : Out :=
  match tabGet none s.dga.ctxs c with
  | none => busError (upDga (fun d => { d with lost := d.lost.filter (fun x => decide (x ≠ c)) }) s)
  | some x => done (upDga (fun d => { d with ctxs := tabSet none d.ctxs c (f x) }) s)

/-- A DONE context starts again when it is fed (R448). -/
def ctxRestart (x : DgaCtx) : DgaCtx := if x.finished then { x with finished := false, data := [], digest := [], cmp := 0 } else x

/-- A write of DGA_DATA. -/
def dgaData (word : BitVec 32) (s : State) : Out :=
  dgaAccess s.dga.sel (fun x => let y := ctxRestart x; some { y with data := y.data ++ le 4 word.toNat }) s

/-- DGA_DATA_WRITE (R448): four bytes of the message. -/
def execDgaDataWrite (word : BitVec 32) (s : State) : Out := when (coreRuns s) s (dgaData word s)

/-- A write of DGA_LAST. -/
def dgaLast (word : DgaLast) (s : State) : Out :=
  dgaAccess s.dga.sel (fun x =>
   let y := ctxRestart x
   let m := y.data ++ (le 4 word.word.toNat).take s.dga.lastCnt
   let dig := digestOf y.alg m
   some { y with finished := true, data := m, digest := dig, cmp := ctxCompare dig y.expect word.badRails }) s

/-- DGA_LAST_WRITE (R448, R450): the final bytes; the context is DONE with its digest and compare. -/
def execDgaLastWrite (word : DgaLast) (s : State) : Out := when (coreRuns s) s (dgaLast word s)

/-- A write of DGA_CLOSE. -/
def dgaClose (ctx : BitVec 8) (s : State) : Out :=
  dgaAccess ctx.toNat (fun _ => none) s

/-- DGA_CLOSE (R447): closes and zeroes a CORE context. -/
def execDgaClose (ctx : BitVec 8) (s : State) : Out := when (coreRuns s) s (dgaClose ctx s)

/-- A write of DGA_EXPECT_i. -/
def dgaExpect (i : BitVec 4) (word : BitVec 32) (s : State) : Out :=
  dgaAccess s.dga.sel (fun x =>
   let e := fit 64 x.expect
   some { x with expect := e.take (4 * i.toNat) ++ le 4 word.toNat ++ e.drop (4 * i.toNat + 4) }) s

/-- DGA_EXPECT_WRITE (R450): bytes 4i to 4i + 3 of the expected value. -/
def execDgaExpectWrite (i : BitVec 4) (word : BitVec 32) (s : State) : Out := when (coreRuns s) s (dgaExpect i word s)

/-! ### Signature Engines -/

/-- An engine of the two, and one changed. -/
def sigOf (s : State) (e : Bool) : SigEng := if e then s.sig1 else s.sig0
def upSig (e : Bool) (f : SigEng → SigEng) (s : State) : State :=
  if e then { s with sig1 := f s.sig1 } else { s with sig0 := f s.sig0 }

/-- ALIAS is derived once KLD_FWID and KLD_SVN are written (R456). -/
def aliasOk (s : State) : Bool :=
  s.kld.svn.isSome && (List.range 12).all (fun i => (tabGet none s.kld.fwid i).isSome)

/-- The key sources an operation takes: 0 the public key at SIG_KEY, 1 the private key at SIG_KEY, 0x10 ALIAS (R453). -/
def sigKeySrcs (op : Nat) : List Nat :=
  match op with
  | 2 | 6 => [1, 16]
  | 4 => [1]
  | 9 | 11 => [0, 1, 16]
  | _ => [0]

/-- An ML-DSA operation (R453). -/
def sigIsMlDsa (op : Nat) : Bool := [3, 4, 5, 6].contains op

/-- A verify operation. -/
def sigIsVerify (op : Nat) : Bool := [1, 3, 5, 7].contains op

/-- n bytes from an address lie in SRAM. -/
def sramAddr (a : BitVec 32) (n : Nat) : Bool := inSram a.toNat (max 1 n)

/-- The length of the key at SIG_KEY and of the signature or output that an operation reads or writes, where it is one of fixed length (the
lengths are those of the standards, log entry 18). -/
def sigKeyLen (op key : Nat) : Nat :=
  if key = 1 then (match op with
    | 2 => 48
    | 4 => 4032
    | 6 => 4896
    | _ => 1)
  else match op with
    | 1 | 8 => 96
    | 3 => 1952
    | 5 => 2592
    | 7 => 60
    | 10 => 1568
    | _ => 1
def sigSigLen : Nat → Nat
  | 1 | 2 => 96
  | 3 | 4 => 3309
  | 5 | 6 => 4627
  | 7 => 1776
  | _ => 1
def sigOutLen : Nat → Nat
  | 8 => 144
  | 9 => 1568
  | 10 => 1600
  | 11 => 32
  | _ => 1

/-- The ERROR an operation ends with before it starts, 0 none: OP, then KEY, then FIELD, which every operand that does not lie whole in SRAM
gives (R453, R456). -/
def sigError (s : State) (g : SigEng) (op ctx key : Nat) : Nat :=
  if op = 0 ∨ 11 < op then 1
  else if !(sigKeySrcs op).contains key || (decide (key = 16) && (!aliasOk s || !([0, 4, 5, 6].contains ctx)))
      || (decide (op = 11) && g.kemKey.isNone) then 2
  else if decide (7 < ctx) || (decide (ctx ≠ 0) && !sigIsMlDsa op) || decide (262144 < g.mlen.toNat)
      || !(sramAddr g.msg g.mlen.toNat && sramAddr g.key (sigKeyLen op key) && sramAddr g.sig (sigSigLen op) && sramAddr g.out (sigOutLen op)) then 3
  else 0

/-- Operations that wait on the VERDICT ports: judgements whose manifest is read (R454). -/
def verdictOps (s : State) : Nat :=
  countIf (fun c : Nat × Img => c.2.stream.any (fun t => !t.failed && decide (t.left = 0)) && (match imgRec s c.1 with
    | some r => decide (r.mode = 2)
    | none => false)) s.imgs.cells

/-- Operations that wait on the EVIDENCE ports: the Boot Record, and the closed quote batches. A debug session withholds their key (R454,
R155). -/
def evidenceOps (s : State) : Nat :=
  if keysHeld s then 0 else b2n (decide (s.ev.brPhase = .closing) && s.ev.brHead.isSome && fwRuns s) + s.nrx.closing.length

/-- Nothing on the ports before the CORE port waits for engine e, so that an operation there can begin (R454): the first such operation
goes to SIG_0 and the next to SIG_1, all to the one engine that is left (log entry 129). -/
def coreTurn (s : State) (e : Bool) : Bool :=
  decide (verdictOps s + evidenceOps s ≤ b2n (e && s.sig0.inService && s.sig1.inService))

/-- A write of SIG_CMD with GO. -/
def sigStart (op : Nat) (e : Bool) (ctx key : BitVec 8) (s : State) : Out :=
  let g := sigOf s e
  if g.busy.isSome then done s
  else
    let err := sigError s g op ctx.toNat key.toNat
    done (upSig e (fun g => { g with op := op, ctxId := ctx.toNat, keySrc := key.toNat, error := err, result := 0, railFault := false, busy := if err = 0 then some ⟨op, ctx.toNat, key.toNat, g.msg.toNat, g.mlen.toNat, g.key.toNat, g.sig.toNat, g.out.toNat, usesAlias op key.toNat && keysHeld s, coreTurn s e⟩ else none }) s)

/-- A write of SIG_CMD with GO on engine e (R453, SIG_CMD): ignored while BUSY. -/
def sigGo (op : Nat) (e : Bool) (ctx key : BitVec 8) (s : State) : Out := when (coreRuns s) s (sigStart op e ctx key s)

/-- ECDSA_P384_VERIFY: OP 0x01. -/
def execEcdsaP384Verify (e : Bool) (ctx key : BitVec 8) (s : State) : Out := sigGo 1 e ctx key s
/-- ECDSA_P384_SIGN: OP 0x02. -/
def execEcdsaP384Sign (e : Bool) (ctx key : BitVec 8) (s : State) : Out := sigGo 2 e ctx key s
/-- ML_DSA_65_VERIFY: OP 0x03. -/
def execMlDsa65Verify (e : Bool) (ctx key : BitVec 8) (s : State) : Out := sigGo 3 e ctx key s
/-- ML_DSA_65_SIGN: OP 0x04. -/
def execMlDsa65Sign (e : Bool) (ctx key : BitVec 8) (s : State) : Out := sigGo 4 e ctx key s
/-- ML_DSA_87_VERIFY: OP 0x05. -/
def execMlDsa87Verify (e : Bool) (ctx key : BitVec 8) (s : State) : Out := sigGo 5 e ctx key s
/-- ML_DSA_87_SIGN: OP 0x06. -/
def execMlDsa87Sign (e : Bool) (ctx key : BitVec 8) (s : State) : Out := sigGo 6 e ctx key s
/-- HSS_VERIFY: OP 0x07. -/
def execHssVerify (e : Bool) (ctx key : BitVec 8) (s : State) : Out := sigGo 7 e ctx key s
/-- ECDH_P384: OP 0x08. -/
def execEcdhP384 (e : Bool) (ctx key : BitVec 8) (s : State) : Out := sigGo 8 e ctx key s
/-- ML_KEM_1024_KEYGEN: OP 0x09. -/
def execMlKem1024Keygen (e : Bool) (ctx key : BitVec 8) (s : State) : Out := sigGo 9 e ctx key s
/-- ML_KEM_1024_ENCAPS: OP 0x0A. -/
def execMlKem1024Encaps (e : Bool) (ctx key : BitVec 8) (s : State) : Out := sigGo 10 e ctx key s
/-- ML_KEM_1024_DECAPS: OP 0x0B. -/
def execMlKem1024Decaps (e : Bool) (ctx key : BitVec 8) (s : State) : Out := sigGo 11 e ctx key s

/-- Where and how long the output of an operation is (R453; the lengths are those of the standards, log entry 18). -/
def sigOutput (o : SigOp) : Option (Nat × Nat) :=
  match o.op with
  | 2 | 4 | 6 => some (o.sig, sigSigLen o.op)
  | 8 | 9 | 10 | 11 => some (o.out, sigOutLen o.op)
  | _ => none

/-- An engine in service carries out the operations of engine e's port: e itself, else the other (R463). -/
def sigServer (s : State) (e : Bool) : Option Bool :=
  if (sigOf s e).inService then some e else if (sigOf s !e).inService then some (!e) else none

/-- Engine e is removed; failover runs while another is left (R465, R467). -/
def sigRemove (e : Bool) (s : State) : State :=
  upSig e (fun g => { g with inService := false, failover := (sigOf s !e).inService }) s

/-- What a sign operation signs (R453): its message in SRAM, as ECDSA with SHA-384 or as pure ML-DSA under its context string. -/
def sigMessage (s : State) (o : SigOp) : Bytes :=
  let m := (List.range o.mlen).map (fun i => tabGet 0 s.sc.sram (o.msg - 0x10000000 + i))
  if sigIsMlDsa o.op then
    mlMsg (ascii (["", "FVX9-POLICY", "FVX9-IMAGE", "FVX9-CAPSULE", "FVX9-BOOTREC", "FVX9-HEAD", "FVX9-QUOTE", "FVX9-TOKEN"].getD o.ctxId "")) m
  else sha384 m

/-- An operation that makes an ephemeral key waits while the random source is stopped (R459). -/
def sigWaitsRng (s : State) (op : Nat) : Bool := s.kld.rngFail && [8, 9, 10].contains op

/-- SIG_OP_DONE (R454, R455, R465): the operation on engine e's port completes; `rails` is the dual-rail result of a verify.
0b00 or 0b11 is a RAIL_FAULT: the engine that served it is removed and the operation restarts on the other. -/
def execSigOpDone (e : Bool) (rails : BitVec 2) (s : State) : Out :=
  match (sigOf s e).busy, sigServer s e with
  | some o, some v =>
    when (!(sigOf s e).failover && !(sigOf s !e).failover && !(o.held && keysHeld s) && (o.started || coreTurn s e) && !sigWaitsRng s o.op) s
      (if sigIsVerify o.op then
         if rails = 2 ∨ rails = 1 then done (upSig e (fun g => { g with busy := none, result := rails, railFault := false }) s)
         else done (sigRemove v (upSig e (fun g => { g with railFault := true }) s))
       else
         let s1 := upSig e (fun g => { g with busy := none, kemKey := if o.op = 9 then some s.freeCtr else g.kemKey }) s
         match sigOutput o with
         | some (a, n) =>
           let out := if usesAlias o.op o.keySrc then signedBy (aliasKey s (sigIsMlDsa o.op)) (sigMessage s o) s.freeCtr else freeBytes s.freeCtr
           sramDone [(a, n)] s (debugGo (drawn (sramWrite a (fit n out) s1)))
         | none => done (debugGo s1))
  | _, _ => notNow s

/-! ### Key ladder and random source -/

/-- A write of KLD_FWID_i. -/
def kldFwid (i : BitVec 4) (word : BitVec 32) (s : State) : Out :=
  if (tabGet none s.kld.fwid i.toNat).isNone then
    done (upKld (fun k => { k with fwid := tabSet none k.fwid i.toNat (some word) }) s)
  else done s

/-- KLD_FWID_WRITE (R457): each word can be written once between C or P events. -/
def execKldFwidWrite (i : BitVec 4) (word : BitVec 32) (s : State) : Out := when (coreRuns s && decide (i.toNat < 12)) s (kldFwid i word s)

/-- A write of KLD_SVN. -/
def kldSvn (svn : BitVec 5) (s : State) : Out :=
  if s.kld.svn.isNone then done (upKld (fun k => { k with svn := some svn.toNat }) s) else done s

/-- KLD_SVN_WRITE (R457). -/
def execKldSvnWrite (svn : BitVec 5) (s : State) : Out := when (coreRuns s) s (kldSvn svn s)

/-- KLD_RAND_READ (R459): bits of the DRBG; with the source stopped the read waits and ends in a bus error. -/
def execKldRandRead (s : State) : Out :=
  when (coreRuns s) s (if s.kld.rngFail then busError s else answer (.word (nextFreeWord s)) (drawn s))

/-- RNG_HEALTH_FAIL (R459): the source stops until the next C event. -/
def execRngHealthFail (s : State) : Out := when s.sc.mainGood s (done (upKld (fun k => { k with rngFail := true }) s))

end Sys2Proof.Machine
end

