-- ==== Sys2Proof/Machine/EvidOps.lean ====
section
/-!
DEFINITION. The Boot Record (R371 to R376).
-/

namespace Sys2Proof.Machine

open Sys2Proof

/-- The entry of a domain (R373). NAME, which the manual says is copied into evidence, has no field here nor in a record (R347, R373): it
enters evidence through POLICY_DIGEST (log entry 107). -/
def brDomain (s : State) (d : Nat) : Bytes :=
  let st := if !inUse s d then 0 else match domSt s d with
    | .released => if unverOk s d then 2 else 1
    | .tripHeld => 4
    | .held => if tabGet 0 s.mor.final d ≠ 0 then 3 else 5
  le 1 d ++ le 1 st ++ le 1 (if st = 1 ∨ st = 2 then 0 else tabGet 0 s.mor.heldCause d) ++ le 1 ((domAttr s d).toNat / 2)
    ++ le 4 (tabGet 0 s.mor.prereq d).toNat

/-- The entry of an image slot (R373). -/
def brImage (s : State) (r : ImageRec) : Bytes :=
  let i := imgOf s r.slot
  le 2 r.slot ++ le 1 (match i.judged with
    | some x => srcCode x
    | none => 0) ++ le 1 i.verdict ++ le 1 i.action ++ le 1 r.hash ++ le 1 r.domain
    ++ le 1 (b2n i.isFlagged + 2 * b2n i.switched + 4 * b2n i.restored) ++ le 4 i.svn ++ le 4 0 ++ fit 64 i.digest

/-- The entry of an endpoint, as it stood at the close (R301, R373). -/
def brEndpoint (s : State) (a : BrAt) (e : EndpointRec) : Bytes :=
  let x := (a.eps.find? (fun x => decide (x.1 = e.perst))).getD (epEntry s e.perst)
  le 1 e.perst ++ le 1 e.port ++ le 1 (portPart s e.port) ++ le 1 x.2.1 ++ le 1 x.2.2.1 ++ le 3 0 ++ fit 48 x.2.2.2

/-- The Boot Record up to its signature (R372). -/
def brBody (s : State) (p : PolicyImage) (b : Bundle) : Bytes :=
  let a := s.ev.brAt.getD (brNow s s.ev)
  let h := s.ev.brHead.getD (s.ev.lastIndex, s.ev.headSeq, s.ev.headChain)
  let ni := p.images.length
  let ne := p.endpoints.length
  le 4 0x52425946 ++ le 2 1 ++ le 2 320 ++ le 4 (320 + 256 + 80 * ni + 56 * ne + 4723) ++ le 2 ni ++ le 1 ne ++ le 1 0
    ++ le 4 s.ev.epoch ++ le 4 idRev.toNat ++ le 4 (caps s).toNat ++ le 1 s.otp.countLatched ++ le 1 s.ev.startCause
    ++ le 1 a.custStat ++ le 1 a.phase ++ fit 16 (devId s) ++ le 8 s.ev.tripSeq ++ le 8 a.closeUs
    ++ fit 48 (fwDigest b) ++ fit 16 b.buildId ++ le 4 b.svn ++ le 1 s.run.fwSlot ++ le 1 s.run.polSlot ++ le 2 0
    ++ fit 48 (polDigest p) ++ fit 16 p.hdr.buildId ++ le 4 p.hdr.svn ++ le 4 0 ++ fit 16 a.units
    ++ le 8 h.1 ++ le 8 h.2.1 ++ fit 48 h.2.2 ++ le 8 s.ev.beginSeq ++ zeros 24
    ++ ((List.range 32).map (brDomain s)).flatten
    ++ ((p.images.insertionSort (fun x y => x.slot ≤ y.slot)).map (brImage s)).flatten
    ++ ((p.endpoints.insertionSort (fun x y => x.perst ≤ y.perst)).map (brEndpoint s a)).flatten

/-- A byte string with a part of it replaced. -/
def splice (b : Bytes) (a : Nat) (x : Bytes) : Bytes := b.take a ++ x ++ b.drop (a + x.length)

/-- The Boot Record of an epoch begun by a re-key (R375): the start's own, with the fields of its own close. -/
def brRekey (s : State) (start : Bytes) : Bytes :=
  let a := s.ev.brAt.getD (brNow s s.ev)
  let h := s.ev.brHead.getD (s.ev.lastIndex, s.ev.headSeq, s.ev.headChain)
  splice (splice (splice (splice (splice start 16 (le 4 s.ev.epoch)) 29 (le 1 3 ++ le 1 a.custStat ++ le 1 a.phase))
    56 (le 8 a.closeUs)) 208 (fit 16 a.units))
    224 (le 8 h.1 ++ le 8 h.2.1 ++ fit 48 h.2.2 ++ le 8 s.ev.beginSeq)

/-- A Boot Record without its signature. -/
def brUnsigned (b : Bytes) : Bytes := b.take (b.length - 4723)

/-- A Boot Record is in the store (R378). -/
def brStore (epoch : Nat) (b : Bytes) (s : State) : State :=
  upVault (fun v => { v with bootRecs := tabSet none v.bootRecs (epoch % 65536) (some (epoch, b)), brDue := v.brDue.filter (fun x => decide (x.1 ≠ epoch)) }) s

end Sys2Proof.Machine
end

