-- ==== Sys2Proof/Machine/Evidence.lean ====
section
/-!
DEFINITION. The evidence commands (R343 to R376), but for WAITING_RECORD_WRITE.
-/

namespace Sys2Proof.Machine

open Sys2Proof

/-- The codes the manual lists (R347 to R350, R415); every other is reserved and never emitted. -/
def listedCode (c : Nat) : Bool :=
  (decide (1 ≤ c) && decide (c ≤ 0xe)) || [0x31, 0x32].contains c || (decide (0x40 ≤ c) && decide (c ≤ 0x44))
    || (decide (0x110 ≤ c) && decide (c ≤ 0x113)) || decide (c = 0x120) || (decide (0x201 ≤ c) && decide (c ≤ 0x209)) || [0x301, 0x302].contains c
    || (decide (0xf01 ≤ c) && decide (c ≤ 0xf06))

/-- The LEN of each code (R346 to R349, R415); 0x0208 has 92 bytes for each of 1 to 43 entries after its 4. -/
def codeLens : List (Nat × Nat) :=
  [(1, 120), (2, 88), (3, 8), (4, 16), (5, 8), (6, 56), (7, 16), (8, 16), (9, 20), (0xa, 60), (0xb, 4), (0xc, 56), (0xd, 4), (0xe, 52)]
    ++ [(0x31, 0), (0x32, 4), (0x40, 104), (0x41, 56), (0x42, 20), (0x43, 72), (0x44, 56)]
    ++ [(0x110, 8), (0x111, 12), (0x112, 8), (0x113, 8), (0x120, 56)]
    ++ [(0x201, 56), (0x202, 4), (0x203, 20), (0x204, 52), (0x205, 56), (0x206, 4), (0x207, 4), (0x209, 4), (0x301, 8), (0x302, 12)]
    ++ [(0xf01, 24), (0xf02, 8), (0xf03, 64), (0xf04, 8), (0xf05, 12), (0xf06, 16)]

/-- A body has the length its code gives (R346). -/
def bodyFits (code n : Nat) : Bool :=
  if code = 0x208 then decide (n % 92 = 4) && decide (96 ≤ n) && decide (n ≤ 4 + 92 * 43)
  else match codeLens.find? (fun c => decide (c.1 = code)) with
    | some c => decide (n = c.2)
    | none => decide (n ≤ 4064)

/-- RECORD_SUBMIT (R344, R346, R356, R362): the unit SRC submits a record that reports what has happened. -/
def execRecordSubmit (code src : Nat) (body : Bytes) (s : State) : Out :=
  when (s.mor.vsec && listedCode code && decide (src ≤ 8) && bodyFits code body.length && (decide (1 < src) || coreRuns s)) s
    (done (emit code src body s))

/-- RECORD_DURABLE (R345, R359): the oldest record submitted becomes durable and gets its SEQ. -/
def execRecordDurable (s : State) : Out :=
  when (paOk s && !s.ev.inflight.isEmpty) s (done (highAlert (upEv (evDurable s.aot) s)))

/-- BLOCK_TIMED_CLOSE (R353): 60 s after the first record or entry of an open block. -/
def execBlockTimedClose (ring : Bool) (s : State) : Out :=
  match (if ring then s.ev.openRing else s.ev.openEv).bind (blockAt s.ev) with
  | some b => when (paOk s && decide (60000000 ≤ sinceAot s.aot b.openAt)) s (done (upEv (evClose ring 2) s))
  | none => notNow s

/-- CHAIN_DONE (R354, R355): the chain unit commits the oldest closed block; it needs its DGA context (R463, R467). -/
def execChainDone (s : State) : Out :=
  when (paOk s && !s.ev.chainQ.isEmpty && dgaHas s .chain) s (done (upEv (chainStep (devId s)) s))

/-- BOOT_RECORD_SIGNED (R374 to R376, R389): the blocks closed for it are chained, firmware runs, an engine is left and no
debug session withholds the Alias key. -/
def execBootRecordSigned (s : State) : Out :=
  match s.run.policy, s.run.bundle with
  | some p, some b =>
    when (decide (s.ev.brPhase = .closing) && s.ev.brHead.isSome && fwRuns s && (!keysHeld s || (!s.otp.debugWait.isEmpty && s.otp.debugBr)) && aliasOk s
        && sigIn s) s
      (let body := match s.ev.brStart with
         | some x => brRekey s (brUnsigned x)
         | none => brBody s p b
       let full := body ++ hybridSig s "FVX9-BOOTREC" body
       let s1 := upVault (fun v => { v with brDue := v.brDue ++ [(s.ev.epoch, full)] })
         (upEv (fun e => { e with br := full, brPhase := .signed }) (drawn s))
       let s2 := if s1.vault.state = .inService then writeBoot s.ev.epoch s1 else s1
       done (settle (debugGo (emitFw 0x0006 (le 4 s.ev.epoch ++ le 4 0 ++ sha384 full) s2))))
  | _, _ => notNow s

end Sys2Proof.Machine
end

