-- ==== Sys2Proof/Machine/Export.lean ====
section
/-!
DEFINITION. The journal commands of the management ports (R385, R386), with the identity requests and the bus events of
the ports (R125, R473 to R475, R491).
-/

namespace Sys2Proof.Machine

open Sys2Proof

/-- The response to a request of a COMMAND (R507): it echoes INSTANCE and the COMMAND, and DEVICE_STATUS follows FLOOR_CAUSE. -/
def vendorReply (cmd : Nat) (h : VendorHdr) (s : State) (result : Nat) (body : Bytes) : Bytes :=
  vendorResponse ((h.unlisted.map (·.toNat)).getD cmd) h.flags s.mor.floorCause result body

/-- A request is answered (R385, R507, R508). -/
def vendorAnswer (cmd : Nat) (b : Bool) (h : VendorHdr) (result : Nat) (body : Bytes) (s : State) : Out :=
  answer (.response (vendorReply cmd h s result body)) (mgtMsg b s)

/-- A COMMAND that R508 lists: REG_READ, REG_WRITE and the journal commands 0x20 to 0x25. -/
def cmdListed (c : Byte) : Bool := decide (0x10 ≤ c.toNat ∧ c.toNat ≤ 0x11 ∨ 0x20 ≤ c.toNat ∧ c.toNat ≤ 0x25)

/-- The header of a request holds values R507 permits, with a COMMAND of R508's list. -/
def hdrOk (h : VendorHdr) : Bool :=
  h.unlisted.all cmdListed && decide (h.version = 1) && decide (128 ≤ h.flags) && decide (h.flags < 160) && decide (h.status = 0) && decide (h.rsvd = 0)

/-- A journal command: FIELD for a header that R507 does not permit, NOT_READY in FLOOR (R508), else `o`. -/
def journalCmd (cmd : Nat) (b : Bool) (h : VendorHdr) (s : State) (o : Out) : Out :=
  when (mgtUp s b) s (if !hdrOk h then vendorAnswer cmd b h 1 [] s else if floorService s then vendorAnswer cmd b h 3 [] s else o)

/-- The lowest of a list of indices; all ones for none (R385). -/
def lowest (l : List Nat) : Nat := l.min?.getD (2 ^ 64 - 1)

/-- The CB_INDEX of every block in the archive. -/
def archIndices (v : Vault) : List Nat := v.arch.cells.filterMap (fun c => c.2.bind (fun b => b.index))

/-- JOURNAL_STATE (R385). -/
def execJournalState (b : Bool) (h : VendorHdr) (s : State) : Out :=
  journalCmd 0x20 b h s (vendorAnswer 0x20 b h 0
    (le 2 (fixUsed s.ev) ++ le 2 0 ++ le 4 s.ev.epoch ++ le 8 (lowest (fixIndices s.ev)) ++ le 8 (lowest (archIndices s.vault))
      ++ le 8 s.ev.lastIndex ++ le 8 (s.vault.exportAck.getD (2 ^ 64 - 1))
      ++ le 4 (b2n (archiving s) + 2 * b2n s.ev.isSealed + 4 * b2n (decide (288 ≤ fixUsed s.ev)) + 8 * b2n (stalled s))) s)

/-- A request for what the Vault holds: it is read there and answered as NVME_COMMAND_DONE says (R383, R385), which in a debug session waits
(R389). A Vault that is OUT holds nothing that can be read: ABSENT. -/
def vaultAsk (b : Bool) (h : VendorHdr) (q : VaultRead) (s : State) : Out :=
  if s.vault.state = .out then vendorAnswer (readCmd q) b h 2 [] s else done (nvmeIssue [.mgtRead b h.flags q] (mgtMsg b s))

/-- READ_BLOCK (R385): from the Fix Ring, or else from the archive. -/
def execReadBlock (b : Bool) (h : VendorHdr) (index offset length : Nat) (s : State) : Out :=
  journalCmd 0x21 b h s
    (if offset % 4096 ≠ 0 ∨ length = 0 ∨ 4096 < length ∨ 65536 < offset + length then vendorAnswer 0x21 b h 1 [] s
     else match slotOfIndex s.ev index with
       | some (_, k) => vendorAnswer 0x21 b h 0 ((blockBytes (devId s) k).drop offset |>.take length) s
       | none => vaultAsk b h (.block index offset length) s)

/-- HEAD of R386. -/
def headBytes (s : State) (nonce : Bytes) : Bytes :=
  fit 16 (devId s) ++ le 4 s.ev.epoch ++ le 4 0 ++ le 8 s.ev.lastIndex ++ fit 48 s.ev.headChain ++ le 8 s.ev.headSeq ++ fit 32 nonce

/-- The COMMAND of a request that can wait (R385). -/
def askCmd : MgtAsk → Nat
  | .closeBlock => 0x22
  | .signedHead _ => 0x23
  | .aliasCert _ _ _ => 0x25

/-- A request that can wait: its RESULT, its body and what it does, or none while it must wait (R353, R385, R386, R465, R467). CLOSE_BLOCK:
both open blocks close with cause 0x05 and are chained, and the newest CB_INDEX is answered. SIGNED_HEAD: NOT_READY during a debug session
and before the first block has closed. READ_ALIAS_CERT: from the Lake working space (R456), of which a Lake that is not in service holds
nothing; bytes past the end of the certificate are not returned (log entry 25). -/
def mgtTry (q : MgtAsk) (s : State) : Option (Nat × Bytes × State) :=
  match q with
  | .closeBlock =>
    if paOk s && dgaIn s then
      let s1 := upEv (fun e => chainAll (devId s) (evCloseBoth 5 e)) s
      some (if s1.ev.lastIndex = 2 ^ 64 - 1 then (2, [], s1) else (0, le 8 s1.ev.lastIndex, s1))
    else none
  | .signedHead nonce =>
    if s.otp.session.isSome ∨ s.ev.lastIndex = 2 ^ 64 - 1 then some (3, [], s)
    else if sigIn s && aliasOk s && !keysHeld s then
      some (0, headBytes s nonce ++ hybridSig s "FVX9-HEAD" (headBytes s nonce), drawn s)
    else none
  | .aliasCert alg offset length =>
    if s.lake.failover then none
    else some (match if lakeIn s then s.kld.certs else none with
      | some c => (0, (certRead s c (decide (alg ≠ 1))).drop offset |>.take length, s)
      | none => (3, [], s))

/-- A request is answered at once, or waits for the unit it needs and is answered later (R385, R465, R467, log entry 138). -/
def mgtAsk (b : Bool) (h : VendorHdr) (q : MgtAsk) (s : State) : Out :=
  match mgtTry q s with
  | some (r, body, t) => vendorAnswer (askCmd q) b h r body t
  | none => done (upMgt b (fun m => { m with asks := m.asks ++ [(h, q)] }) (mgtMsg b s))

/-- The oldest request of a port that need not wait any more is answered (log entry 138). -/
def mgtServe (b : Bool) (s : State) : State :=
  match (mgtOf s b).asks.find? (fun x => (mgtTry x.2 s).isSome) with
  | none => s
  | some x =>
    if fwRuns s then match mgtTry x.2 s with
      | some (r, body, t) => lateAnswer b (askCmd x.2) x.1.flags r body (upMgt b (fun m => { m with asks := m.asks.erase x }) t)
      | none => s
    else s

/-- CLOSE_BLOCK (R353, R385). -/
def execCloseBlock (b : Bool) (h : VendorHdr) (s : State) : Out := journalCmd 0x22 b h s (mgtAsk b h .closeBlock s)

/-- SIGNED_HEAD (R385, R386). -/
def execSignedHead (b : Bool) (h : VendorHdr) (nonce : Bytes) (s : State) : Out := journalCmd 0x23 b h s (mgtAsk b h (.signedHead nonce) s)

/-- READ_BOOT_RECORD (R375, R376, R385, R386): the current one once it is signed, an earlier one from the Vault. -/
def execReadBootRecord (b : Bool) (h : VendorHdr) (epoch offset length : Nat) (s : State) : Out :=
  journalCmd 0x24 b h s
    (if length = 0 ∨ 4096 < length ∨ 32768 < offset + length then vendorAnswer 0x24 b h 1 [] s
     else if epoch = 0 ∨ epoch = s.ev.epoch then
       if s.ev.brPhase = .signed then vendorAnswer 0x24 b h 0 (fit length (s.ev.br.drop offset)) s else vendorAnswer 0x24 b h 3 [] s
     else vaultAsk b h (.boot epoch offset length) s)

/-- READ_ALIAS_CERT (R385). -/
def execReadAliasCert (b : Bool) (h : VendorHdr) (alg offset length : Nat) (s : State) : Out :=
  journalCmd 0x25 b h s
    (if (alg ≠ 1 ∧ alg ≠ 2) ∨ h.pad ≠ 0 ∨ length = 0 ∨ 4096 < length then vendorAnswer 0x25 b h 1 [] s
     else mgtAsk b h (.aliasCert alg offset length) s)

/-! ### Identity requests on the management ports -/

/-- MCTP_CONTROL (R125). -/
def execMctpControl (b : Bool) (s : State) : Out := when (mgtUp s b) s (answer (.result 0) (mgtMsg b s))

/-- GET_VERSION (R125): SPDM, answered by the device's responder. -/
def execGetVersion (b : Bool) (s : State) : Out := when (mgtUp s b) s (answer (.result 0) (mgtMsg b s))

/-- GET_CAPABILITIES (R125): SPDM, answered by the device's responder. -/
def execGetCapabilities (b : Bool) (s : State) : Out := when (mgtUp s b) s (answer (.result 0) (mgtMsg b s))

/-- GET_CERTIFICATE (R125): a portion of the identity certificate chain, as free bytes; the manual gives no encoding of the
chain (log entry 25). -/
def execGetCertificate (b : Bool) (length : Nat) (s : State) : Out :=
  when (mgtUp s b) s (answer (.bytes (nextFree s length)) (mgtMsg b (drawn s)))

/-! ### Bus events of the management ports -/

/-- The management ports acknowledge on their buses (R34, R73): not without the main set, nor with Hold as the only service. -/
def busUp (s : State) : Bool := s.sc.mainGood && !s.sc.holdOnly

/-- ENTDAA (R491): the controller assigns the port a dynamic address. -/
def execEntdaa (b : Bool) (addr : BitVec 7) (s : State) : Out :=
  when (busUp s && decide ((mgtOf s b).mode = .i3c)) s (done (upMgt b (fun m => { m with dynAddr := some addr.toNat }) s))

/-- The strap address of a port (R97). -/
def strapAddr (s : State) (b : Bool) : Nat := (if b then 0x5c else 0x4c) + fieldOf s.mor.strap 4 2

/-- SETDASA (R491): the controller names the port by its static address, the strap address of R97. -/
def execSetdasa (b : Bool) (static addr : BitVec 7) (s : State) : Out :=
  when (busUp s && decide ((mgtOf s b).mode = .i3c) && decide (static.toNat = strapAddr s b)) s
    (done (upMgt b (fun m => { m with dynAddr := some addr.toNat }) s))

/-- IBI_RETRY (R474): t_IBIRTY after an attempt. An acknowledged IBI is over; after 8 retries ALERT_N goes low. -/
def execIbiRetry (b acked : Bool) (s : State) : Out :=
  match (mgtOf s b).ibi with
  | none => notNow s
  | some n =>
    when (fwRuns s) s
      (if acked then done (upMgt b (fun m => { m with ibi := none }) s)
       else if n ≤ 8 then done (upMgt b (fun m => { m with ibi := some (n + 1) }) s)
       else done (upMgt b (fun m => { m with ibi := none, alertLow := true }) s))

/-- SMBUS_ALERT_RESPONSE (R475): the device answers with its own address and releases ALERT_N. -/
def execSmbusAlertResponse (b : Bool) (s : State) : Out :=
  let m := mgtOf s b
  when (busUp s && decide (m.mode = .smbus) && m.alertLow) s
    (answer (.word (BitVec.ofNat 32 (strapAddr s b))) (upMgt b (fun m => { m with alertLow := false }) s))

/-- SMBUS_SCL_TIMEOUT (R491): the port releases the bus and discards the message in progress, which it does not answer. -/
def execSmbusSclTimeout (b : Bool) (s : State) : Out :=
  when (busUp s && decide ((mgtOf s b).mode = .smbus)) s (done s)

/-- TEMP_SENSOR_UPDATE (R496): a crossing sends the PLDM event and raises the alert, once firmware runs; nothing else follows. -/
def execTempSensorUpdate (reading : BitVec 10) (s : State) : Out :=
  when s.sc.mainGood s (done (tempAlert { s with temp := { s.temp with valid := true, reading := reading } }))

/-! ### CBUS -/

/-- The CBUS record of an index. -/
def cbusRec (s : State) (i : Nat) : Option CbusRec := s.run.policy.bind (fun p => p.cbus[i]?)

/-- A component is lost after the start (R176, R473): 0x0032, and for a REQUIRED one escalation source 0x04; unless
that holds its domain, the domain becomes a final hold if it is not released (R101). -/
def cbusLost (i : Nat) (r : CbusRec) (s : State) : State :=
  let s1 := emitFw 0x0032 (le 1 i ++ le 1 r.addr ++ le 1 2 ++ le 1 0) (upCbus i (fun c => { c with present := false, tries := 0 }) s)
  if r.flags.testBit 0 then
    match tripAction s1 4 i with
    | none => settle (markFinal 6 r.domain s1)
    | some 1 => escalateFw 4 i [r.domain] (markFinal 6 r.domain s1)
    | some _ => escalateFw 4 i [r.domain] s1
  else s1

/-- The device acknowledges an in-band interrupt of a component: not one of an absent component (R473). -/
def cbusIbiAck (s : State) (i : Nat) : Bool := fwRuns s && (cbusOf s i).present

/-- CBUS_POLL (R473): the first attempt of a poll; a private transfer fares in the same way. One that is not acknowledged begins the
retries. -/
def execCbusPoll (i : Nat) (ack : Bool) (s : State) : Out :=
  when (fwRuns s && (cbusOf s i).present && decide ((cbusOf s i).tries = 0)) s
    (if ack then done s else done (upCbus i (fun c => { c with tries := 1 }) s))

/-- CBUS_RETRY (R473): the attempt after a back-off; after the fourth that fails the component is absent. -/
def execCbusRetry (i : Nat) (ack : Bool) (s : State) : Out :=
  match cbusRec s i with
  | none => notNow s
  | some r =>
    when (fwRuns s && (cbusOf s i).present && decide ((cbusOf s i).tries ≠ 0)) s
      (if ack then done (upCbus i (fun c => { c with tries := 0 }) s)
       else if (cbusOf s i).tries < 3 then done (upCbus i (fun c => { c with tries := c.tries + 1 }) s)
       else done (cbusLost i r s))

end Sys2Proof.Machine
end

