-- ==== Sys2Proof/Machine/OtpCmd.lean ====
section
/-!
DEFINITION. The OTP controller's commands (R128 to R149).
-/

namespace Sys2Proof.Machine

open Sys2Proof

/-- A write of OTPC_CMD with GO and READ. -/
def otpGoRead (addr : BitVec 11) (s : State) : Out :=
  done (upOtp (fun o => otpBegin o 0 addr.toNat (.read addr.toNat)) s)

/-- OTP_READ: the READ operation of OTPC_CMD (R135); a command while BUSY is dropped (R137). -/
def execOtpRead (addr : BitVec 11) (s : State) : Out := when (coreRuns s) s (otpGoRead addr s)

/-- The other firmware slot's bundle, if it verifies (R143, R284). -/
def otherBundle (s : State) : Option Bundle :=
  (if s.run.fwSlot = 0 then s.cfg.fwB else s.cfg.fwA).filter (bundleOk s.otp)

/-- R143: the next unburned ratchet word may be programmed: the running bundle asks for it and its SVN is not reached,
the start has reached PARTIAL or RUN, and the other slot's bundle verifies with an SVN no lower than the one advanced to. -/
def ratchetAllowed (s : State) (a : Nat) : Bool :=
  match s.run.bundle, otherBundle s with
  | some b, some o =>
    fwRuns s && bundleRatchetReq b && decide (3 ≤ s.mor.phase) && decide (a = 516 + ratchetValue s.otp)
      && decide (a < 544) && decide (ratchetValue s.otp + 1 ≤ b.svn) && decide (b.svn ≤ o.svn)
  | _, _ => false

/-- Body of 0x0042 (R347). -/
def ratchetBody (s : State) (n : Nat) : Bytes :=
  le 1 n ++ le 1 (n + 1) ++ le 2 0 ++ fit 16 (match s.run.bundle with
    | some b => b.buildId
    | none => [])

/-- A command while the OTPC is BUSY is ignored, and DROPPED is set (R137). -/
def otpDropped (s : State) : State := upOtp (fun o => { o with dropped := true }) s

/-- The refusal of a command, which the controller reports when it ends (R129). -/
def otpRefuse (op addr : Nat) (s : State) : State := upOtp (fun o => otpBegin o op addr .refused) s

/-- An operation that was accepted and has waited for its record comes after the one in progress (R137, R148, log entry 133). -/
def otpAfter (p : OtpPend) (s : State) : State := upOtp (fun o => { o with due := o.due ++ [p] }) s

/-- The ratchet word n is programmed once its 0x0042 is durable (R143); it is refused if it is blank no more by then (R129). -/
def ratchetBurn (n : Nat) (s : State) : State :=
  if s.otp.busy.isSome then otpAfter (.program (516 + n) (ratchetPattern n)) s
  else if otpBlank (otpWord s.otp (516 + n)) then
    upOtp (fun o => otpBegin o 1 (516 + n) (.program (516 + n) (ratchetPattern n))) s
  else otpRefuse 1 (516 + n) s

/-- A write of OTPC_CMD with GO and PROGRAM. -/
def otpGoProgram (addr : BitVec 11) (data : BitVec 32) (s : State) : Out :=
  let a := addr.toNat
  if s.otp.busy.isSome then done (otpDropped s)
  else
    let s1 := upOtp (fun o => { o with data := data }) s
    if 516 ≤ a ∧ a < 544 then
      if ratchetAllowed s a && decide (data = ratchetPattern (a - 516)) && otpBlank (otpWord s.otp a) then
        done (gated 0x0042 1 (ratchetBody s (a - 516)) (.ratchet (a - 516)) (ratchetBurn (a - 516)) s1)
      else done (otpRefuse 1 a s1)
    else if otpProgramPermitted s.otp s.mor.lock a && otpBlank (otpWord s.otp a) then
      done (upOtp (fun o => otpBegin o 1 a (.program a data)) s1)
    else done (otpRefuse 1 a s1)

/-- OTP_PROGRAM: the PROGRAM operation with OTPC_DATA (R129 to R133, R143). A word with a bit that reads 1 at either
margin is refused; a ratchet word follows a durable 0x0042. -/
def execOtpProgram (addr : BitVec 11) (data : BitVec 32) (s : State) : Out := when (coreRuns s) s (otpGoProgram addr data s)

/-- A write of OTPC_CMD with GO and SCAN. -/
def otpGoScan (s : State) : Out :=
  done (upOtp (fun o => otpBegin o 2 0 .scan) s)

/-- OTP_SCAN: the integrity scan of all words (R140, R141). -/
def execOtpScan (s : State) : Out := when (coreRuns s) s (otpGoScan s)

/-- Body of 0x0041 LC_STEP (R347); AUTH is 0x03 with a token. -/
def lcStepBody (s : State) (auth : Nat) : Bytes :=
  let c := lcCount s.otp
  let before := compatVote s.otp
  let after := if c = 0 then (0x69 : BitVec 8) else if c = 1 then 0x6f else before
  le 1 c ++ le 1 (c + 1) ++ [before, after] ++ le 1 (if c % 2 = 1 then 3 else auth) ++ le 3 0
    ++ fit 48 (if c % 2 = 1 then s.otp.rmaOk.getD [] else [])

/-- The step begins once its 0x0041 is durable (R148); it is refused if R147 or R148 no longer permits it by then. -/
def lcStepBegin (s : State) : State :=
  if s.otp.busy.isSome then otpAfter .lcStep s
  else if lcStepPermitted s.otp then upOtp (fun o => otpBegin o 3 0 .lcStep) s else otpRefuse 3 0 s

/-- A life-cycle step: refused under R147 and R148, else 0x0041 and the step. -/
def lcStepGo (auth : Nat) (s : State) : State :=
  if lcStepPermitted s.otp then gated 0x0041 1 (lcStepBody s auth) .lcStep lcStepBegin s else otpRefuse 3 0 s

/-- A write of OTPC_CMD with GO and LC_STEP. -/
def otpGoLcStep (owner : Bool) (s : State) : Out :=
  if s.otp.busy.isSome then done (otpDropped s) else done (lcStepGo (if owner then 2 else 1) s)

/-- OTP_LC_STEP: the LC_STEP operation (R147, R148); `owner` says that the owner, not Kelnyx, signed the command. -/
def execOtpLcStep (owner : Bool) (s : State) : Out := when (coreRuns s) s (otpGoLcStep owner s)

/-- The oldest operation that has waited for the OTPC begins. -/
def otpNext (s : State) : State :=
  match s.otp.due with
  | [] => s
  | p :: r =>
    let s1 := upOtp (fun o => { o with due := r }) s
    match p with
    | .program a _ => ratchetBurn (a - 516) s1
    | .lcStep => lcStepBegin s1
    | _ => s1

/-- OTP_OP_DONE (R136): the operation in progress completes, and one that waits for it begins. The operands are the bits of a burn that read 0 at the low
and at the high margin. -/
def execOtpOpDone (weakLo weakHi : BitVec 39) (s : State) : Out :=
  when s.otp.busy.isSome s (done (otpNext (upOtp (fun o => otpDone o weakLo weakHi) s)))

end Sys2Proof.Machine
end

