-- ==== Sys2Proof/Machine/Mailbox.lean ====
section
/-!
DEFINITION. The signed-command mailbox, Hegus and RMA tokens, and JTAG (R120, R148, R151 to R156, R387, R509 to R511).
-/

namespace Sys2Proof.Machine

open Sys2Proof

/-! ### Tokens -/

/-- OWNER_OPT.DEBUG_CONSENT and RMA_CONSENT for a KIND (R154). -/
def consentNeeded (s : State) (kind : Nat) : Bool := (ownerOpt s.otp).getLsbD (if kind = 2 then 1 else 0)

/-- The fields and reserved values of a token (R153). -/
def tokenForm (t : Token) : Bool :=
  decide (t.magic = 0x53474548) && decide (t.version = 1) && (decide (t.kind = 1) || decide (t.kind = 2)) && decide (t.rsvd = 0)
    && decide (t.flags < 2) && decide (t.scope < (if t.kind = 2 then 1 else 16))

/-- The signatures of a token (R15, R154). -/
def tokenSigned (s : State) (t : Token) : Bool :=
  sigOk t.sig && (!consentNeeded s t.kind || (t.flags.testBit 0 && sigOk t.own))

/-- A token names this device, the latched count and the challenge in force. -/
def tokenCurrent (s : State) (t : Token) : Bool :=
  decide (t.deviceId = devId s) && decide (t.lcCount = s.otp.countLatched) && decide (s.otp.challenge = some t.challenge)

/-- The last check of a token: FEAT_CRIT.DEBUG_DIS for a debug token, and for an RMA token R148's rule that it carries owner halves only
where consent is needed (R154, R156, R511). -/
def tokenCondition (s : State) (t : Token) : Bool :=
  if t.kind = 1 then !s.otp.feat.getLsbD 20 else decide (t.flags = 0) || consentNeeded s 2

/-- RESULT of a token (R154, R156, R511). -/
def tokenResult (s : State) (t : Token) : Nat :=
  if !tokenForm t then 2
  else if !tokenSigned s t then 3
  else if !tokenCurrent s t then 4
  else if !tokenCondition s t then 5 else 1

/-- A token is checked: the challenge is consumed, and an accepted one acts (R148, R154, R155). A debug token waits for the
operations in progress that use a key-ladder output. -/
def tokenAct (t : Token) (s : State) : State :=
  let s1 := upOtp (fun o => { o with challenge := none }) s
  if tokenResult s t ≠ 1 then s1
  else if t.kind = 2 then upOtp (fun o => { o with rmaOk := some t.digest }) s1
  else debugGo (upOtp (fun o => { o with
    debugWait := o.debugWait ++ [(BitVec.ofNat 4 t.scope, fit 16 t.deviceId ++ fit 32 t.challenge ++ le 4 t.scope ++ le 4 0 ++ fit 48 t.digest)]
    debugBatches := if keysHeld s then o.debugBatches else (s.nrx.closing.take (nSig s)).map (fun b => (b.epoch, b.no))
    debugBr := if keysHeld s then o.debugBr else decide (s.ev.brPhase = .closing) && s.ev.brHead.isSome }) s1)

/-- The token can be dealt with now: an engine is left to check it (R467). -/
def tokenReady (s : State) : Bool := sigIn s

/-- A token as its bytes give it (R153), with what its signatures verify to. -/
def parseToken (b : Bytes) (sig own : Sig2) : Token :=
  let f := fun a n => unle (fit n (b.drop a))
  ⟨f 0 4, f 4 2, f 6 2, fit 16 (b.drop 8), fit 32 (b.drop 24), f 56 1, f 57 1, f 58 2, f 60 4, sig, own, sha384 b⟩

/-- A new Hegus challenge of 32 bytes (R152, R154). -/
def newChallenge (s : State) : State := upOtp (fun o => { o with challenge := some (nextFree s 32) }) (drawn s)

/-! ### The mailbox -/

/-- The message a port has submitted (R509). -/
def mbxMessage (s : State) (b : Bool) : Bytes := match s.mbxQueue.find? (fun m => decide (m.port = b)) with
  | some m => m.bytes
  | none => []

/-- n bytes of the message from an offset, as a number. -/
def mbxField (m : Bytes) (a n : Nat) : Nat := unle (fit n (m.drop a))

/-- The port's message is the one being processed (R509). -/
def mbxFront (s : State) (b : Bool) : Bool := fwRuns s && (match s.mbxQueue with
  | m :: _ => decide (m.port = b)
  | [] => false)

/-- The KIND values of R510. -/
def mbxKinds : List Nat := [1, 2, 3, 0x10, 0x11]

/-- This row deals with the message at the front: its KIND is the row's, or no row's, which is FORMAT (R511). -/
def mbxMine (s : State) (b : Bool) (kind : Nat) : Bool :=
  mbxFront s b && (decide (mbxField (mbxMessage s b) 4 2 = kind) || !mbxKinds.contains (mbxField (mbxMessage s b) 4 2))

/-- MAGIC, KIND and LEN (R510, R511). -/
def mbxHeader (m : Bytes) (kind : Nat) (lens : List Nat) : Bool :=
  decide (mbxField m 0 4 = 0x424d5946) && decide (mbxField m 4 2 = kind) && lens.contains m.length

/-- Processing ends with RESULT and KIND. -/
def mbxFinish (b : Bool) (result : Nat) (s : State) : State :=
  upMgt b (fun m => { m with result := result, kind := mbxField (mbxMessage s b) 4 2 }) { s with mbxQueue := s.mbxQueue.tail }
def mbxEnd (b : Bool) (result : Nat) (s : State) : Out := answer (.result result) (mbxFinish b result s)

/-- The signer named in the header holds a role and both halves verify (R178, R511). -/
def mbxSigned (s : State) (m : Bytes) (role : Nat) (sig : Sig2) : Bool :=
  sigOk sig && (match s.run.policy with
    | some p => signerHas p (mbxField m 6 2) role
    | none => false)

/-- No source of R120 is active. -/
def noTripSource (s : State) : Bool := decide (s.mor.tampLow = 0) && !s.mor.aocDis && !s.mor.brown

/-- The trip clears, once 0x0008 is durable (R120): TRIP_HELD domains are HELD; it stays if a source is active again. -/
def tripClear (s : State) : State :=
  if s.mor.trip && noTripSource s then
    settle (upMor (fun m => { m with trip := false, asyncTrip := false, dom := ⟨m.dom.cells.filter (fun c => decide (c.2 ≠ .tripHeld))⟩ }) s)
  else s

/-- TRIP_CLEAR (R120, R511). A trip whose TRIP_RECORD is still to come has not got its TRIP_SEQ yet. -/
def execTripClear (b : Bool) (sig : Sig2) (s : State) : Out :=
  let m := mbxMessage s b
  when (mbxMine s b 1 && sigIn s && s.mor.tripNotes.isEmpty) s
    (if !mbxHeader m 1 [4763] ∨ mbxField m 32 8 ≠ 0 then mbxEnd b 2 s
     else if !mbxSigned s m 3 sig then mbxEnd b 3 s
     else if fit 16 (m.drop 8) ≠ devId s ∨ mbxField m 24 8 ≠ s.ev.tripSeq then mbxEnd b 4 s
     else if !s.mor.trip || !noTripSource s then mbxEnd b 5 s
     else mbxEnd b 1 (gated 0x0008 1 (le 2 (mbxField m 6 2) ++ le 6 0 ++ le 8 s.ev.tripSeq) .tripClear tripClear s))

/-- Blocks up to an index leave the Fix Ring; 0x0F06 names the first and the last freed (R360, R362, R387). -/
def exportFree (i : Nat) (s : State) : State :=
  let l := (fixIndices s.ev).filter (fun k => decide (k ≤ i))
  let s1 := l.foldl (fun s k => match slotOfIndex s.ev k with
    | some (n, _) => upEv (freeSlot n) s
    | none => s) s
  if l = [] then s1 else emit 0x0f06 8 (le 8 (l.min?.getD 0) ++ le 8 (l.max?.getD 0)) s1

/-- The CB_INDEX that an EXPORT_ACK names. -/
def ackIndex (s : State) (b : Bool) : Nat := mbxField (mbxMessage s b) 24 8

/-- An EXPORT_ACK whose block has this CHAIN, none where it is not held: one that differs is STALE, a block that is not held CONDITION
(R387, R511). EXPORT_ACK never decreases. -/
def ackResult (s : State) (b : Bool) (chain : Option Bytes) : Nat := match chain with
  | none => 5
  | some c => if c ≠ fit 48 ((mbxMessage s b).drop 32) then 4 else 1
def ackAccept (i : Nat) (s : State) : State :=
  let a := match s.vault.exportAck with
    | some x => max x i
    | none => i
  settle (exportFree a (upVault (fun v => { v with exportAck := some a }) s))
def ackEnd (b : Bool) (chain : Option Bytes) (s : State) : State :=
  mbxFinish b (ackResult s b chain) (if ackResult s b chain = 1 then ackAccept (ackIndex s b) s else s)

/-- The archive of a Vault that is not OUT lists a block (R382). -/
def archHolds (s : State) (i : Nat) : Bool :=
  decide (s.vault.state ≠ .out) && decide ((tabGet none s.vault.arch (i % vaultArch s.vault.ns)).bind (fun b => b.index) = some i)

/-- EXPORT_ACK (R387, R511). A block that is no longer in the Fix Ring is read from the archive first, as NVME_COMMAND_DONE says; the message
stays in processing until then (R383, R389). -/
def execExportAck (b : Bool) (sig : Sig2) (s : State) : Out :=
  let m := mbxMessage s b
  when (mbxMine s b 2 && sigIn s && !s.vault.nvme.any (fun c => decide (c.use = .ackRead b))) s
    (if !mbxHeader m 2 [4811] ∨ mbxField m 80 8 ≠ 0 then mbxEnd b 2 s
     else if !mbxSigned s m 4 sig then mbxEnd b 3 s
     else if fit 16 (m.drop 8) ≠ devId s then mbxEnd b 4 s
     else match slotOfIndex s.ev (ackIndex s b) with
       | some (_, k) => answer (.result (ackResult s b (some k.chain))) (ackEnd b (some k.chain) s)
       | none => if archHolds s (ackIndex s b) then done (nvmeIssue [.ackRead b] s) else mbxEnd b 5 s)

/-- LC_CLOSE (R148, R510, R511): an Open-to-Closed step, under a MAILBOX key or the Kelnyx RMA root. -/
def execLcClose (b : Bool) (sig : Sig2) (s : State) : Out :=
  let m := mbxMessage s b
  let kelnyx := decide (mbxField m 6 2 = 0xffff)
  when (mbxMine s b 3 && sigIn s) s
    (if !mbxHeader m 3 [if kelnyx then 7443 else 4755] ∨ mbxField m 25 7 ≠ 0 then mbxEnd b 2 s
     else if !(if kelnyx then sigOk sig && decide (sha384 (fit 2688 (m.drop 32)) = otpBytes s.otp 180 12) else mbxSigned s m 4 sig) then mbxEnd b 3 s
     else if fit 16 (m.drop 8) ≠ devId s ∨ mbxField m 24 1 ≠ lcCount s.otp then mbxEnd b 4 s
     else if lcCount s.otp % 2 = 1 || !lcStepPermitted s.otp || s.otp.busy.isSome then mbxEnd b 5 s
     else mbxEnd b 1 (lcStepGo (if kelnyx then 1 else 2) s))

/-- CHALLENGE (R152, R510): a new challenge, once the random source gives it (R459). -/
def execChallenge (b : Bool) (s : State) : Out :=
  let m := mbxMessage s b
  when (mbxMine s b 0x10 && !s.kld.rngFail) s
    (if !mbxHeader m 0x10 [8] ∨ mbxField m 6 2 ≠ 0 then mbxEnd b 2 s else mbxEnd b 1 (newChallenge s))

/-- TOKEN (R153 to R156, R510, R511). A message of a KIND that R510 does not list ends FORMAT and
leaves the challenge (log entry 71). -/
def execToken (b : Bool) (sig own : Sig2) (s : State) : Out :=
  let m := mbxMessage s b
  let t := parseToken (m.drop 8) sig own
  when (mbxMine s b 0x11 && tokenReady s) s
    (if !mbxHeader m 0x11 [if t.flags.testBit 0 then 9518 else 4795] ∨ mbxField m 6 2 ≠ 0 then
       mbxEnd b 2 (if mbxField m 4 2 = 0x11 then upOtp (fun o => { o with challenge := none }) s else s)
     else mbxEnd b (tokenResult s t) (tokenAct t s))

/-! ### JTAG -/

/-- JTAG_TOKEN_SUBMIT (R154): as TOKEN, through the JTAG token registers. It is dealt with while firmware runs (log entry 72). -/
def execJtagTokenSubmit (t : Token) (s : State) : Out :=
  when (fwRuns s && tokenReady s) s (answer (.result (tokenResult s t)) (tokenAct t s))

end Sys2Proof.Machine
end

