-- ==== Sys2Proof/Machine/Reset.lean ====
section
/-!
DEFINITION. The reset events S, H, C and P (R11 to R13, and what each chapter says of them).
-/

namespace Sys2Proof.Machine

open Sys2Proof

/-- A channel at an S event: the firmware queue and its completions are gone; a frame of firmware or of a verify stream runs whole,
and a WIP poll goes on, but for no entry and no stream any more; commits and scrub go on (R45, R205, R206, R249, R264). The
CCH_QPUSH words are no state of class S (R12). -/
def chanS (c : Channel) : Channel :=
  let drop := fun (x : Option WipWait) => x.map (fun w => { w with entry := none, tail := none })
  { c with
    fwq := []
    cq := []
    dropped := false
    contBroken := false
    wip0 := drop c.wip0
    wip1 := drop c.wip1
    frame := c.frame.map (fun f =>
      if f.client = .firmware ∨ f.client = .verify then { f with entries := [], tail := none, ended := true } else f) }

/-- An image at an S event: its stream ends, and a slot with no pair is judged again (R264); a recovery action starts again
from its beginning (R270). -/
def imgS (i : Img) : Img := { i with stream := none, waitVault := decide (i.st = .recovering) && decide (i.action = 2) }

/-- An endpoint at an S event: a check that had written no result starts again from GET_VERSION (R305). -/
def epS (e : Ep) : Ep :=
  match e.att with
  | some a => { e with att := some (newAtt a.kind) }
  | none => e

/-- A Signature Engine at an S event: the CORE operation is aborted, its registers return to 0 (R454). -/
def sigS (g : SigEng) : SigEng := { sigEng0 with inService := g.inService, failover := g.failover, kemKey := g.kemKey }

/-- The Digest Array at an S event: contexts of the CORE and RING classes close and their waiting opens are discarded (R452); those of
the judgements close with them (R264). -/
def dgaS (d : Dga) : Dga :=
  let stays := fun (o : DgaOwner) => decide (o = .window) || decide (2 ≤ dgaClass o ∧ dgaClass o ≤ 3)
  { dga0 with engines := d.engines, failover := d.failover, units := ⟨d.units.cells.filter (fun c => c.2.any stays)⟩, waits := d.waits.filter stays, turn := d.turn }

/-- A management port at an S event: its mailbox is cleared and an IBI sequence is abandoned (R474, R509). -/
def mgtS (m : Mgt) : Mgt := { m with asks := [], ibi := none, len := 0, kind := 0, result := 0, data := tabEmpty }

/-- The watchdog as it starts after an S event (R442, R444). -/
def wdtS (aocA : Bool) (w : Wdt) : Wdt :=
  { w with st := .running, graceStep := 0, clkSel := !aocA, load := 0x01000000, count := 0x01000000, keyStep := false }

/-- The completions whose ring context was not written when an S event came: of those at risk, each as a free value says, and every later
one of its ring with it (R420, R421, log entry 124). -/
def lostPosts (s : State) : List RingCmd :=
  let l := ((s.nrx.unsaved.filter (fun u => decide (u.1 = s.ev.ringCloses))).map (fun u => u.2)).zipIdx
  (l.filter (fun x => l.all (fun y => !(decide (y.1.part = x.1.part) && decide (y.1.ring = x.1.ring) && decide (x.2 ≤ y.2))
    || (freeWord (s.freeCtr + y.2)).getLsbD 0))).map (fun x => x.1)

/-- A journaled command after an S event: a SEAL or UNSEAL is to be carried out again (R420). -/
def jobS (j : RingCmd) : RingCmd :=
  if sealOp j.op && decide (j.status = 0) && !j.orphan then { j with applied := true, ready := false, again := true, buf := [], result := [], out := [] } else j

/-- The rings at an S event: fetched entries are discarded, lost counts go back and their completions are to be written again; SEAL_NO goes
on from the stored end (R366, R409, R420). -/
def nrxS (s : State) : Rings :=
  let l := lostPosts s
  { s.nrx with
    capsuleWait := []
    accesses := []
    heldCmds := []
    unsaved := []
    sealNo := s.nrx.sealEnd
    jobs := (l ++ s.nrx.jobs).map jobS
    rings := l.foldl (fun t j => tabSet ring0 t (262144 * j.part + j.ring) (let r := tabGet ring0 t (262144 * j.part + j.ring); { r with posted := r.posted - 1 })) s.nrx.rings }

/-- The Vault at an S event: BLOCK_NO goes on from the stored end (R366), and what was read for firmware alone has no user any more
(log entry 139). -/
def vaultS (v : Vault) : Vault :=
  { v with blockNo := v.runEnd, nvme := v.nvme.map (fun c => match c.use with
    | .ackRead _ | .capsuleRead | .svnRead _ _ => { c with use := .dropped }
    | _ => c) }

/-- An S event (R11, R104): firmware stops until it restarts; streams, contexts and core operations end; custody state,
links, writes, chaining and armed tables stay (R45). -/
def sState (s : State) : State :=
  { s with
    mor := { s.mor with selOut := 0, selSlot := 0, selDom := 0 }
    otp := otpS s.otp
    ev := { evS s.ev with brPhase := if s.ev.brPhase = .closing then .none else s.ev.brPhase }
    vault := vaultS s.vault
    chans := ⟨s.chans.cells.map (fun c => (c.1, chanS c.2))⟩
    xip := { s.xip with fill := s.xip.fill.map (fun f => { f with demand := none }) }
    imgs := ⟨s.imgs.cells.map (fun c => (c.1, imgS c.2))⟩
    grant := none
    capsules := []
    pldmUpdate := none
    fab := { s.fab with portSel := 0, partSel := 0, eps := ⟨s.fab.eps.cells.map (fun c => (c.1, epS c.2))⟩ }
    nrx := nrxS s
    freeCtr := s.freeCtr + s.nrx.unsaved.length
    sc := { s.sc with running := false, fault := false, halted := false, switching := false, restartDue := s.sc.mainGood && !s.sc.selfTestDue && !s.sc.holdOnly }
    sic := { s.sic with pend := s.sic.lines, en := 0, retention := false }
    wdt := wdtS s.mor.aocA s.wdt
    dga := dgaS s.dga
    sig0 := sigS s.sig0
    sig1 := sigS s.sig1
    mgtA := mgtS s.mgtA
    mgtB := mgtS s.mgtB
    mbxQueue := []
    temp := { s.temp with told := 0 }
    cbus := ⟨s.cbus.cells.map (fun c => (c.1, { c.2 with tries := 0 }))⟩ }

/-- An S event. The stored end that BLOCK_NO goes on from may be at its limit, where a new epoch begins at once (R366, R367). -/
def sEvent (s : State) : State := blockNoLimit (sState s)

/-- The endpoints of a partition, on its DOWNSTREAM ports. -/
def partEps (s : State) (p : Nat) : List Nat := (epsAll s).filter (fun j => decide (epPart s j = p))

/-- An endpoint of a partition at an H event (R292, R298, R306, R310): the hot reset is propagated to it if it is OPEN,
RECHECK or CONTAINED; OPEN goes to RECHECK with cause HOTRESET, and its re-check waits for the link and for t_EPWAIT. -/
def epHot (j : Nat) (s : State) : State :=
  let e := epOf s j
  let s1 := if sealSet e.st then s else linkDrop (epPort s j) (endMediation (epPort s j) s)
  match e.st with
  | .opened => upEp j (fun e => { e with link := false, epWait := false }) (epRecheck (fun c => { c with hotReset := true }) true j s1)
  | .recheck => upEp j (fun e => { e with causes := { e.causes with hotReset := true }, link := false, epWait := false, att := none, recheckPair := 0 }) s1
  | .contained => upEp j (fun e => { e with causes := { e.causes with hotReset := true }, link := false, relink := true }) s1
  | _ => s1

/-- Resist and CSF state of a partition at an H event (R327, R414): everything returns to reset but for the violation count, which
is no state of class H (R12, R331); an arming whose record still waits arms nothing. -/
def partHot (p : Nat) (s : State) : State :=
  let x := tabGet part0 s.fab.parts p
  upEv (fun e => { e with waiting := e.waiting.map (fun w => if w.gate = .resistArm p then { w with gate := .none } else w) })
    (upFab (fun g => { g with parts := tabSet part0 g.parts p { part0 with viol := x.viol, escalated := x.escalated } }) s)

/-- TLPs of a partition that are held end as PCIe prescribes for link down, and half-received messages with them (R43, R342). -/
def dropPart (p : Nat) (s : State) : State :=
  upFab (fun g => { g with heldTlps := g.heldTlps.filter (fun t => decide (portPart s t.ingress ≠ p)), mctpOpen := g.mctpOpen.filter (fun c => decide (c.part ≠ p)) }) s

/-- The upstream link of a partition is out of L0. -/
def upstreamDown (p : Nat) (s : State) : State :=
  match s.run.policy.bind (fun q => polUpstream q p) with
  | some u => linkDrop u.port s
  | none => s

/-- An H event of a partition (R11, R292): the upstream link leaves L0, rings reset, Resist cleared, endpoints re-checked. No PERST_N moves. -/
def hEvent (p : Nat) (s : State) : State :=
  settle (each (partEps s p) epHot (upstreamDown p (dropPart p (partHot p (ringsReset p s)))))

/-- Accepted MUTABLE writes that are still to be committed at the next start, in order (R43, R248). -/
def toReplay (s : State) : List JEntry :=
  let mark := fun (e : JEntry) => match s.chans.cells.findSome? (fun c => match c.2.commit with
      | some j => if j.entry.id = e.id then some j.kept else none
      | none => none) with
    | some k => { e with kept := k }
    | none => e
  s.replay.map mark ++ ((s.ports.cells.map (fun p => p.2.journal)).flatten.filter (fun e => decide (e.cls = 3))).map mark

/-- The Fix Ring keeps the WRITE entries that are replayed and frees the others (R42, R248, R360). -/
def keepWrites (ids : List Nat) (e : Evid) : Evid :=
  (e.fix.cells.map (fun c => match c.2 with
    | .write l => (l.map (fun x => x.1)).filter (fun i => !ids.contains i)
    | _ => [])).flatten.foldl (fun e i => evRetireWrite i e) { e with openWrite := none }

/-- The Mordant at a C event (R101, R105, R121): domains not TRIP_HELD are held, Verdicts, configuration lock and phase
cleared; a trip stays shown. -/
def mordantC (m : Mordant) : Mordant :=
  { m with dom := ⟨m.dom.cells.filter (fun c => decide (c.2 = .tripHeld))⟩, phase := if m.latched then 1 else 0, floorCause := 0, lock := false, final := tabEmpty, heldCause := tabEmpty, relReq := 0, attr := tabEmpty, prereq := tabEmpty, outMap := tabEmpty, vslotMap := tabEmpty, vslot := tabEmpty, allDecided := false, selOut := 0, selSlot := 0, selDom := 0 }

/-- The Vault engine at a C event: out of service until its endpoint is OPEN again; what the drive holds stays (R377). -/
def vaultC (v : Vault) : Vault :=
  { v with state := .out, cause := 0, failed := false, accepted := false, blockNo := v.runEnd, brDue := [], ckpt := none, nvme := [], resetting := false, sbBack := [] }

/-- The rings at a C event: counters with their owners stand, ledgers are cleared (R43, R46, R47, R392). -/
def nrxC (n : Rings) : Rings := { rings0 with counters := n.counters, counterRuns := n.counterRuns, sealNo := n.sealEnd, sealEnd := n.sealEnd }

/-- What a C event leaves, once the effects of the S and H events it is have taken place (R11, R12). -/
def cState (s : State) : State :=
  let rep := toReplay s
  { State.reset with
    mor := mordantC s.mor
    otp := otpC s.otp
    ev := { keepWrites (rep.map (fun e => e.id) ++ rep.filterMap (fun e => e.kept.map (fun x => x.1))) (evC s.ev) with startCause := 2 }
    vault := vaultC s.vault
    activeHalf := s.activeHalf
    staged := s.staged
    polFloor := s.polFloor
    replay := rep
    nextWriteId := s.nextWriteId
    cfg := s.cfg
    nrx := nrxC s.nrx
    sic := { s.sic with pend := s.sic.lines, en := 0, retention := false }
    wdt := { wdtS s.mor.aocA s.wdt with lock := false }
    aot := s.aot
    mgtA := { mgt0 with mode := s.mgtA.mode }
    mgtB := { mgt0 with mode := s.mgtB.mode }
    temp := ⟨false, 0, 0⟩
    reply := s.reply
    freeCtr := s.freeCtr
    pending := s.pending }

/-- A C event (R11, R86): an S event, an H event for every partition, and everything of class C. -/
def cEvent (s : State) : State := settle (cState (each [0, 1, 2, 3] ringsReset (sState s)))

/-- A P event (R11, R87, R93): a C event and everything of class P; persistent stores stay, the trip is cleared (R120),
and the inputs read what their pins hold; VIO_RST is sensed afresh (R515). -/
def pEvent (s : State) : State :=
  let c := cEvent s
  { c with
    mor := { mordant0 with aocA := s.mor.aocA, aocB := s.mor.aocB, tampLow := s.mor.tampLow }
    otp := otpP c.otp
    ev := { evP c.ev with startCause := 1, waiting := [] }
    wdt := wdtS s.mor.aocA wdt0
    aot := 0
    mgtA := mgt0
    mgtB := mgt0 }

end Sys2Proof.Machine
end

