-- ==== Sys2Proof/Machine/LinkOps.lean ====
section
/-!
DEFINITION. What the link and attestation commands share: which ports train, the end of an attestation or re-check, and
the end of a containment (chapter 09).
-/

namespace Sys2Proof.Machine

open Sys2Proof

/-- The link of a port. -/
def linkOf (s : State) (port : Nat) : Link := tabGet link0 s.fab.links port

/-- The role of a listed port (R170): 1 UPSTREAM, 2 DOWNSTREAM, 3 VAULT; 0 for a port not listed. -/
def portRole (s : State) (port : Nat) : Nat :=
  match portRec s port with
  | some r => r.role
  | none => 0

/-- A port may train (R286, R289, R298, R311, R118): the microcode is loaded, its bay is in service, and on a downstream or
VAULT port the endpoint's PERST_N is high and no trip holds the transmitter idle. -/
def portTrains (s : State) (port : Nat) : Bool :=
  s.run.microcode && bayUp s (port / 4) && decide (portRole s port ≠ 0) &&
  (decide (portRole s port = 1) ||
    (!s.mor.trip && (match epAt s port with
      | some j => outLevel s (48 + j)
      | none => false)))

/-- A link within what FABRIC gives the port (R286 to R288). -/
def linkFits (r : FabricRec) (rate width : Nat) (flit l0p : Bool) : Bool :=
  decide (1 ≤ rate) && decide (rate ≤ r.maxRate) && [1, 2, 4, 8, 16].contains width && decide (width ≤ r.width)
    && (flit || decide (rate < 6)) && (!l0p || (flit && r.flags.testBit 1))

/-- The upstream link of a partition in L0: the arming deadline starts to count (R325). -/
def partUp (s : State) (p : Nat) : State :=
  let dl := match s.run.policy.bind (fun q => polResist q p) with
    | some r => decide (r.armDeadlineMs ≠ 0)
    | none => false
  upFab (fun g => { g with parts := tabSet part0 g.parts p { tabGet part0 g.parts p with up := true, deadlineRuns := dl && decide ((tabGet part0 g.parts p).armed = 0) } }) s

/-- The link of an endpoint in L0: in VAT, and in RECHECK after a hot reset, t_EPWAIT starts (R302, R306). -/
def epUp (j : Nat) (s : State) : State :=
  upEp j (fun e => { e with link := true, epWait := decide (e.st = .vat) || (decide (e.st = .recheck) && e.att.isNone && decide (e.recheckPair = 0)) }) s

/-- t_EPWAIT is over: the first configuration request in VAT, the held re-check in RECHECK. -/
def epWaitEnd (j : Nat) (s : State) : State :=
  let s1 := upEp j (fun e => { e with epWait := false, configuring := decide (e.st = .vat) }) s
  if (epOf s j).st = .recheck then startRecheck .heldCheck j s1 else s1

/-- KIND of record 0x0201. -/
def attCode : AttKind → Nat
  | .initial => 1
  | .periodic => 2
  | .heldCheck => 3

/-- Record 0x0201 ENDPOINT_ATTESTED (R348). -/
def emitAttested (j : Nat) (kind result cause ver : Nat) (digest : Bytes) (s : State) : State :=
  emit 0x0201 3 (le 1 j ++ le 1 (epPort s j) ++ le 1 kind ++ le 1 result ++ le 1 cause ++ le 1 ver ++ le 2 0 ++ fit 48 digest) s

/-- The endpoint fails before its Release: FAIL in its slot, PERST_N low, 0x0201, and its domain is a final hold with CAUSE
0x05 unless it carries UNVERIFIED_OK (R298, R301, R347). -/
def epFail (cause : Nat) (digest : Bytes) (j : Nat) (s : State) : State :=
  let s1 := emitAttested j 1 2 cause (epOf s j).spdmVer digest (epRefuse j (setPair (256 + j) failPair s))
  match outDom s (48 + j) with
  | some d => if unverOk s d then s1 else markFinal 5 d s1
  | none => s1

/-- The end of a containment, once 0x0207 is durable (R298): the re-check pair must still read PASS, with no cause CHANGED;
a new containment has cleared it (R310). -/
def epLift (j : Nat) (s : State) : State :=
  let e := epOf s j
  if e.st = .recheck ∧ e.recheckPair = passPair ∧ e.att = none ∧ e.causes.changed = false then
    upEp j (fun e => { e with st := .opened, causes := noCauses, hostDpc := false }) s
  else s

/-- Escalation source 0x03 of an endpoint (R177). -/
def escalateEp (j : Nat) (s : State) : State :=
  escalateFw 3 j (match outDom s (48 + j) with
    | some d => [d]
    | none => []) s

/-- An attestation or re-check ends (R298, R304, R306), with CAUSE 0 for PASS and with the digest computed. -/
def attEnd (cause : Nat) (digest : Bytes) (j : Nat) (s : State) : State :=
  let pass := decide (cause = 0)
  match (epOf s j).att with
  | none => s
  | some a =>
    let ver := a.version
    let s1 := upEp j (fun e => { e with att := none, spdmVer := ver, measDigest := if digest = [] then e.measDigest else digest }) s
    match a.kind with
    | .initial =>
      if pass then
        emitAttested j 1 1 0 ver digest (upEp j (fun e => { e with st := .attested }) (setPair (256 + j) passPair s1))
      else epFail cause digest j s1
    | k =>
      let s2 := emitAttested j (attCode k) (if pass then 1 else 2) cause ver digest
        (upEp j (fun e => { e with recheckPair := if pass then passPair else failPair }) s1)
      if !pass then escalateEp j (epChanged digest j s2)
      else if k = .periodic then s2
      else gated 0x0207 6 (le 1 j ++ le 1 (epPort s2 j) ++ le 1 (causesByte (epOf s2 j).causes) ++ le 1 0) (.lift j) (epLift j) s2

/-- The verdict path's SPDM exchange with an endpoint is under way: firmware runs (R305), the link is in L0 (R310), a crossbar
plane is in service (R32) and the Mordant has a clock to take the result (R514). -/
def attRuns (s : State) (j : Nat) : Bool :=
  (epOf s j).att.isSome && (epOf s j).link && fwRuns s && decide (s.fab.planes ≠ 0) && aocRuns s

/-- The exchange under way is the given one. -/
def spdmAt (s : State) (j : Nat) (t : SpdmStep) : Bool :=
  attRuns s j && (match (epOf s j).att with
    | some a => decide (a.step = t)
    | none => false)

/-- The attestation in progress changed. -/
def upAtt (j : Nat) (f : Att → Att) (s : State) : State := upEp j (fun e => { e with att := e.att.map f }) s

/-- The device's SPDM requester (R303): the DataTransferSize and the MaxSPDMmsgSize it offers. -/
def spdmTransfer : Nat := 4224
def spdmMessage : Nat := 65536

/-- The largest message the endpoint can send: more than one transfer only in chunks (R303). -/
def spdmLimit (a : Att) : Nat := if a.chunk then spdmMessage else spdmTransfer

/-- The last GET_MEASUREMENTS carries a fresh nonce of 32 bytes; it waits while the random source is stopped (R303, R459). -/
def drawNonce (j : Nat) (s : State) : State :=
  match (epOf s j).att with
  | some a => if a.left.length ≤ 1 ∧ s.kld.rngFail = false then drawn (upAtt j (fun a => { a with nonce := nextFree s 32 }) s) else s
  | none => s

/-- Non-posted requests of the device that are outstanding at an endpoint: its configuration request and its DOE exchange, far
below the 256 of R316. -/
def deviceOutstanding (s : State) (j : Nat) : Nat := b2n (epOf s j).configuring + b2n (epOf s j).att.isSome
def maxOutstanding : Nat := 256

/-- The next exchange of R303 begins with its first send. -/
def spdmNext (t : SpdmStep) (j : Nat) (s : State) : State := upAtt j (fun a => { a with step := t, sends := 0 }) s

/-- SPDM_MIN, MEAS_SEL, MEAS_DIGEST and ROOT_DIGEST of an endpoint. -/
def spdmMin (s : State) (j : Nat) : Nat := match epRec s j with
  | some e => e.spdmMin
  | none => 0
def measSel (s : State) (j : Nat) : List Nat := match epRec s j with
  | some e => bitsOf e.measSel
  | none => []
def measWant (s : State) (j : Nat) : Bytes := match epRec s j with
  | some e => e.measDigest
  | none => []
def rootWant (s : State) (j : Nat) : Bytes := match epRec s j with
  | some e => e.rootDigest
  | none => []

/-- A port in bounds of a containment or re-check request: its endpoint. -/
def epsOfMask (s : State) (mask : BitVec 32) : List Nat := (bitsOf mask).filterMap (epAt s)

/-- A firmware containment request on an endpoint (R49, R298). -/
def epFirmware (j : Nat) (s : State) : State :=
  let e := epOf s j
  if e.st = .opened ∨ e.st = .recheck then epContain (fun c => { c with firmware := true }) j s
  else upEp j (fun e => { e with causes := { e.causes with firmware := true } }) s

/-- The partition requires link IDE and its stream is not in Secure: only configuration requests and DOE pass (R296). -/
def ideBlocked (s : State) (p : Nat) : Bool :=
  match s.run.policy.bind (fun q => polUpstream q p) with
  | some u => u.flags.testBit 0 && !(linkOf s u.port).ideSecure
  | none => true

end Sys2Proof.Machine
end

