-- ==== Sys2Proof/Machine/GateOps.lean ====
section
/-!
DEFINITION. The gate datapath (R312 to R342): which units are in service, forwarding sequence numbers, screening, and
violations.
-/

namespace Sys2Proof.Machine

open Sys2Proof

/-- A partition's Resist and CSF state, and one changed. -/
def partOf (s : State) (p : Nat) : Part := tabGet part0 s.fab.parts p
def upPart (p : Nat) (f : Part → Part) (s : State) : State :=
  upFab (fun g => { g with parts := tabSet part0 g.parts p (f (tabGet part0 g.parts p)) }) s

/-- The RESIST record of a partition. -/
def resistRec (s : State) (p : Nat) : Option ResistRec := s.run.policy.bind (fun q => polResist q p)

/-- Planes in service that do not fail, lowest first; the first two are active (R462). -/
def planesGood (f : Fabric) : List Nat := (bitsOf f.planes).filter (fun n => !f.planeFail.getLsbD n)

/-- Slices of bay b in service that do not fail, by their index in the bay. -/
def slicesGood (f : Fabric) (b : Nat) : List Nat :=
  [0, 1, 2].filter (fun i => f.slices.getLsbD (3 * b + i) && !f.sliceFail.getLsbD (3 * b + i))

/-- The bay still screens (R340). -/
def bayScreens (s : State) (b : Nat) : Bool := [0, 1, 2].any (fun i => s.fab.slices.getLsbD (3 * b + i))

/-- The key of an (ingress, egress) pair. -/
def pairKey (i e : Nat) : Nat := 32 * i + e

/-- A slice of BAY_b that still takes lookups fails (R336, R340, R462): an active one is replaced by the spare, if there is one; any
other is removed at once, and with the last of them the bay stops screening. -/
def sliceFault (b i : Nat) (s : State) : State :=
  let n := 3 * b + i
  let g := slicesGood s.fab b
  if !g.contains i then s
  else
    let s1 := upFab (fun f => { f with sliceFail := putBit f.sliceFail n true }) s
    if g.length = 3 ∧ (g.take 2).contains i then s1
    else if g.length = 1 then upFab (fun f => { f with slices := [0, 1, 2].foldl (fun w m => putBit w (3 * b + m) false) f.slices }) s1
    else upFab (fun f => { f with slices := putBit f.slices n false }) s1

/-- The plane a pair is pinned to, from 1: the one it has, or one of the active planes by the sum of the ports (log entry
21). -/
def pinPlane (f : Fabric) (i e : Nat) : Nat :=
  let p := tabGet 0 f.pinned (pairKey i e)
  if p ≠ 0 then p
  else
    let a := (planesGood f).take 2
    (a.getD ((i + e) % a.length) 0) + 1

/-- A TLP is dispatched: it gets the pair's next FSN, and its ingress port holds it until its delivery is reported
(R337). -/
def dispatchTlp (i e : Nat) (t : Tlp) (s : State) : State :=
  upFab (fun f =>
    let k := pairKey i e
    let n := tabGet 0 f.fsnNext k
    { f with pinned := tabSet 0 f.pinned k (pinPlane f i e), fsnNext := tabSet 0 f.fsnNext k ((n + 1) % 2 ^ 32), heldTlps := f.heldTlps ++ [⟨i, e, n, t⟩] }) s

/-- The plane of a pair fails, and that of a held TLP. -/
def pairFails (f : Fabric) (i e : Nat) : Bool := f.planeFail.getLsbD (tabGet 0 f.pinned (pairKey i e) - 1)
def heldFails (f : Fabric) (t : HeldTlp) : Bool := pairFails f t.ingress t.egress

/-- The egress has delivered an FSN: it is at or below the highest delivered, in the 32-bit order (R337, R338). -/
def fsnDelivered (f : Fabric) (t : HeldTlp) : Bool :=
  decide ((tabGet 0 f.fsnDone (pairKey t.ingress t.egress) + 2 ^ 32 - 1 - t.fsn) % 2 ^ 32 < 2 ^ 31)

/-- Held TLPs are delivered in FSN order and reported; one already delivered is discarded at the egress (R338). -/
def deliver (l : List HeldTlp) (f : Fabric) : Fabric :=
  l.foldl (fun f t =>
    { creditsBack [t] f with fsnDone := if fsnDelivered f t then f.fsnDone else tabSet 0 f.fsnDone (pairKey t.ingress t.egress) ((t.fsn + 1) % 2 ^ 32), heldTlps := f.heldTlps.filter (fun u => decide (u ≠ t)) }) f

/-- What time brings to the TLPs under way: those on planes that do not fail are delivered and reported (R312, R337). -/
def deliverDue (s : State) : State :=
  upFab (fun f => deliver (f.heldTlps.filter (fun t => !heldFails f t)) f) s

/-- A request that is not let through completes with Unsupported Request; posted ones and completions are dropped, which AER
of the downstream port bridge reports (R299, R329, R340). -/
def turnAway (k : TlpKind) : Disposition :=
  match k with
  | .memWrite | .message | .completion => .dropped
  | _ => .unsupported

/-- A TLP goes to its egress port; on a plane that fails it waits (R338). -/
def forwardTlp (i e : Nat) (t : Tlp) (s : State) : State × Disposition :=
  let s1 := dispatchTlp i e t s
  (s1, if pairFails s1.fab i e then .waiting else .forwarded e)

/-- A TLP is not let through at the bridge of DOWNSTREAM port q: a posted request is dropped with a report through its AER
(R299, R329, R340). -/
def away (q : Nat) (k : TlpKind) (s : State) : State × Disposition :=
  (if tlpPosted k then aerReport q 1 s else s, turnAway k)

/-- The upstream port of a partition. -/
def upPort' (s : State) (p : Nat) : Nat := match s.run.policy.bind (fun q => polUpstream q p) with
  | some u => u.port
  | none => 0

/-- The TLP of a request whose command does not spell its header: requester, tag, attributes, prefixes, ECRC and poison are free values
(log entry 119). -/
def freeTlp (s : State) (k : TlpKind) (len : Nat) (d : TlpDest) : Tlp :=
  let b := nextFree s 12
  let x := (b.getD 5 0).toNat
  ⟨k, .untranslated, 0, len, unle (b.take 2), none,
    ⟨unle ((b.drop 2).take 2) % 2 ^ 14, (b.getD 4 0).toNat % 8, (b.drop 10).take (x % 3), if x.testBit 6 then some (BitVec.ofNat 32 (unle ((b.drop 6).take 4))) else none, x.testBit 7⟩,
    false, false, d⟩

/-! ### Credits (R315) -/

/-- The dedicated credits of a port, data in units of 16 bytes: posted, non-posted and completion headers and data. The port has
VC0 alone, and its shared pool is zero. -/
structure Credits where
  ph : Nat
  pd : Nat
  nph : Nat
  npd : Nat
  cplh : Nat
  cpld : Nat
deriving DecidableEq, Repr

/-- The credits a port of a width advertises. -/
def creditsOf (width : Nat) : Credits := ⟨16 * width, 256 * width, 16 * width, 16 * width, 16 * width, 256 * width⟩

/-- The classes of credits: 0 posted, 1 non-posted, 2 completion. -/
def creditClass (k : TlpKind) : Nat := if tlpPosted k then 0 else if k = .completion then 2 else 1

/-- The header and data credits of a class. -/
def creditPair (c : Credits) (class' : Nat) : Nat × Nat :=
  if class' = 0 then (c.ph, c.pd) else if class' = 1 then (c.nph, c.npd) else (c.cplh, c.cpld)

/-- A mediated message travels towards the endpoint. -/
def medToEndpoint : MedMsg → Bool
  | .requestData _ _ => false
  | .other _ r => r
  | _ => true

/-- The port a mediated packet to or from the endpoint of a port comes in at. -/
def medIngress (s : State) (port : Nat) (m : MedMsg) : Nat := if medToEndpoint m then upPort' s (portPart s port) else port

/-- The data credits of the ActivateFirmware requests that are held (R334), which came in at a port. -/
def heldActs (s : State) (port : Nat) : List Nat := s.fab.meds.cells.filterMap (fun c =>
  if upPort' s (portPart s c.1) = port then (c.2.bind (fun m => m.heldAct)).map tlpUnits else none)

/-- The credits of a class that a port's TLPs hold until they are delivered or end: those held for delivery, intercepted ones that firmware
has not been given, packets in the mediation buffer or before it, held ActivateFirmware requests, and those kept back (R315, R335). -/
def creditsUsed (s : State) (port class' : Nat) : Nat × Nat :=
  let l := s.fab.heldTlps.filter (fun t => decide (t.ingress = port) && decide (creditClass t.tlp.kind = class'))
  let w := if class' = 0 then ((s.fab.medBuf ++ s.fab.medWait).filter (fun m => decide (m.ingress = port))).map (fun m => (m.size + 15) / 16)
      ++ (s.fab.medTlps.filter (fun x => decide (x.2.1 = port))).map (fun x => tlpUnits x.2.2) ++ heldActs s port
      ++ (s.fab.keptCredits.filter (fun x => decide (x.1 = port))).map (fun x => x.2) else []
  (l.length + w.length, (l.map (fun t => tlpUnits t.tlp)).sum + w.sum)

/-- The sender has credits for one more TLP of a class with so many data units. -/
def creditOk (s : State) (port class' units : Nat) : Bool :=
  match portRec s port with
  | none => false
  | some r =>
    let c := creditPair (creditsOf r.width) class'
    let u := creditsUsed s port class'
    decide (u.1 + 1 ≤ c.1) && decide (u.2 + units ≤ c.2)

/-- The sender at a port has credits for a TLP. -/
def tlpCredit (s : State) (port : Nat) (t : Tlp) : Bool := creditOk s port (creditClass t.kind) (tlpUnits t)

/-! ### MCTP packets (R332) -/

/-- An MCTP packet: message code 0x7F and vendor ID 0x1AB4. -/
def mctpOf (t : Tlp) : Option Vdm :=
  if t.kind = .message then
    match t.vdm with
    | some v => if v.code = 0x7f ∧ v.vendor = 0x1ab4 then some v else none
    | none => none
  else none

/-- The message a packet belongs to. -/
def flowOf (p : Nat) (v : Vdm) : MctpFlow := ⟨p, v.srcEid, v.dstEid, v.tag, v.owner⟩

/-- The gate intercepts a packet: the first packet of a message of MCTP type 0x01 and PLDM Type 5, and every later packet of it
to the end of the message. -/
def intercepts (s : State) (p : Nat) (t : Tlp) : Bool :=
  match mctpOf t with
  | none => false
  | some v => if v.som then decide (v.mctpType = 1) && decide (v.pldmType = 5) else s.fab.mctpOpen.contains (flowOf p v)

/-- A packet of a message has been dealt with: one that is intercepted is followed to its end. -/
def mctpTrack (p : Nat) (t : Tlp) (s : State) : State :=
  match mctpOf t with
  | none => s
  | some v =>
    let go := intercepts s p t && !v.eom
    upFab (fun g => { g with mctpOpen := g.mctpOpen.filter (fun c => decide (c ≠ flowOf p v)) ++ (if go then [flowOf p v] else []) }) s

/-- Downstream port r is one of partition p and its endpoint is OPEN. -/
def portOpen (s : State) (p r : Nat) : Bool :=
  decide (portRole s r = 2) && decide (portPart s r = p) && (match epAt s r with
    | some j => decide ((epOf s j).st = .opened)
    | none => false)

/-- The function whose AER reports a TLP that is turned away: the bridge it came in at, or for a host's TLP the downstream bridge it is
addressed through (R299), the CSF, or the upstream bridge (R294, log entry 118). -/
def awayAt (i p : Nat) (t : Tlp) (s : State) : State × Disposition :=
  if portRole s i = 2 then away i t.kind s
  else match t.dest with
    | .port r => away (if portRole s r = 2 ∧ portPart s r = p then r else i) t.kind s
    | .csf => away (32 + p) t.kind s
    | _ => away i t.kind s

/-- A TLP of a partition goes where the hierarchy leads it (R290, R291). -/
def routeTlp (i p : Nat) (t : Tlp) (s : State) : State × Disposition :=
  match t.dest with
  | .up => if ideBlocked s p ∧ t.kind ≠ .completion then awayAt i p t s else forwardTlp i (upPort' s p) t s
  | .port r => if portOpen s p r then forwardTlp i r t s else awayAt i p t s
  | .csf => if (partOf s p).tdi = .run ∧ t.bound = false then awayAt i p t s else (s, .toCsf)
  | .outside => awayAt i p t s

/-- KIND of record 0x0203 (R348). -/
inductive Viol where
  | range
  | p2p
  | perm
  | unarmed
  | noAts
deriving DecidableEq, Repr

/-- Its codes. -/
def violCode : Viol → Nat
  | .range => 1
  | .p2p => 2
  | .perm => 3
  | .unarmed => 4
  | .noAts => 5

/-- OP of record 0x0203. -/
def opCode (t : Tlp) : Nat :=
  if t.at' = .translationRequest then 4 else match t.kind with
  | .memWrite => 2
  | .atomic => 3
  | _ => 1

/-- The bit of PERM an operation needs (R317, R322). -/
def permBit (t : Tlp) : Nat := match t.kind with
  | .memWrite => 1
  | .atomic => 2
  | _ => 0

/-- The ACS controls of a downstream port bridge, as hardware keeps them under the Policy Image (R294): Source Validation,
Translation Blocking, P2P Request Redirect, P2P Completion Redirect, Upstream Forwarding, P2P Egress Control (the ports a request
may reach), and Direct Translated P2P. -/
structure Acs where
  sourceValidation : Bool
  translationBlocking : Bool
  requestRedirect : Bool
  completionRedirect : Bool
  upstreamForwarding : Bool
  egress : BitVec 32
  directTranslated : Bool
deriving DecidableEq, Repr

/-- What screening decides (R317), `blocked` where an ACS control of the host's stops the request. -/
inductive Screen where
  | route
  | mediate
  | upstream
  | peer (r : Nat)
  | violation (k : Viol)
  | blocked
deriving DecidableEq, Repr

/-- ATS pass-through is permitted to the endpoint of a port (R171). -/
def atsOk (s : State) (q : Nat) : Bool := match s.run.policy.bind (fun p => polEndpointAt p q) with
  | some e => e.flags.testBit 0
  | none => false

/-- P2P_ALLOW of a partition lets port q reach port r (R172). -/
def p2pOk (s : State) (p q r : Nat) : Bool := match resistRec s p with
  | some x => (x.p2pAllow.getD q 0).getLsbD r
  | none => false

/-- What the host has written to the ACS registers of the bridge of port q: the control and the egress control vector. -/
def acsHostOf (s : State) (p q : Nat) : Option (BitVec 32 × BitVec 32) := tabGet none (partOf s p).acsHost q

/-- The controls in force at port q of partition p (R171, R172, R317, R318). Completions are routed by requester ID, so their
redirect is off (log entry 87). A host's write only tightens them (R294): with a bit of the control it turns on Translation Blocking (1),
P2P Completion Redirect (3) and, for the ports its vector names, P2P Egress Control (5), and without bit 6 Direct Translated P2P is off
(log entry 93). -/
def acsInForce (s : State) (q p : Nat) : Acs :=
  let w := match resistRec s p with
    | some x => x.p2pAllow.getD q 0
    | none => 0
  match acsHostOf s p q with
  | none => ⟨true, !atsOk s q, true, false, true, w, decide (w ≠ 0)⟩
  | some h => ⟨true, !atsOk s q || h.1.getLsbD 1, true, h.1.getLsbD 3, true, if h.1.getLsbD 5 then w &&& ~~~h.2 else w, decide (w ≠ 0) && h.1.getLsbD 6⟩

/-- ACS Source Validation: a request comes from a bus of the bridge's own, from its secondary to its subordinate bus number (R294, log entry
142). -/
def acsSource (s : State) (q p : Nat) (t : Tlp) : Bool :=
  let b := tabGet 0 (partOf s p).buses q
  decide (t.kind = .completion) || (decide (fieldOf b 8 8 ≤ t.reqId / 256) && decide (t.reqId / 256 ≤ fieldOf b 16 8))

/-- What screening decides, under the ACS controls in force. -/
def acsScreen (s : State) (q p : Nat) (t : Tlp) (x : Screen) : Screen :=
  let a := acsInForce s q p
  if a.sourceValidation && !acsSource s q p t then (match x with
    | .violation k => .violation k
    | _ => .blocked)
  else match x with
  | .upstream => if t.at' ≠ .untranslated ∧ a.translationBlocking then .blocked else .upstream
  | .peer r => if a.translationBlocking || !a.egress.getLsbD r then .blocked else if a.directTranslated then .peer r else .upstream
  | .route => match t.kind, t.dest with
    | .completion, .port _ => if a.completionRedirect then .upstream else .route
    | _, _ => .route
  | y => y

/-- The address of the last byte a request touches. -/
def lastByte (t : Tlp) : Nat := t.addr + max t.len 1 - 1

/-- A range covers the request for the source port. -/
def rangeCovers (q : Nat) (t : Tlp) (g : Range) : Bool :=
  g.src.getLsbD q && decide (g.base ≤ t.addr) && decide (lastByte t ≤ g.limit)

/-- The screening algorithm of R317. -/
def screen (s : State) (q p : Nat) (t : Tlp) : Screen :=
  if t.kind = .completion then .route
  else if intercepts s p t then .mediate
  else if t.kind = .message then .route
  else if t.kind = .ioRequest then redirect
  else if t.at' = .untranslated then .upstream
  else if !atsOk s q then .violation .noAts
  else if t.at' = .translationRequest then .upstream
  else match t.dest with
    | .csf | .outside => .violation .range
    | .port r => if r ≠ q then (if p2pOk s p q r then .peer r else .violation .p2p) else rangeCheck
    | .up => rangeCheck
where
  /-- ACS P2P Request Redirect: an untranslated request to a peer goes upstream (R318). -/
  redirect : Screen := match t.dest with
    | .port _ => .upstream
    | _ => .route
  rangeCheck : Screen :=
    if (partOf s p).armed = 0 then .violation .unarmed
    else if (partOf s p).ranges.any (fun g => rangeCovers q t g && g.perm.testBit (permBit t)) then .upstream
    else if (partOf s p).ranges.any (rangeCovers q t) then .violation .perm
    else .violation .range

/-- VIOL_THRESHOLD is exceeded for the first time in the window: the Resist escalation (R331). -/
def violEscalate (j p : Nat) (s : State) : State :=
  match resistRec s p with
  | none => s
  | some r =>
    let x := partOf s p
    if r.violThreshold ≠ 0 ∧ r.violThreshold < x.viol ∧ x.escalated = false then
      escalateNow 7 1 p (match outDom s (48 + j) with
        | some d => [d]
        | none => []) (upPart p (fun x => { x with escalated := true }) s)
    else s

/-- A violation of port q of partition p (R329 to R331): counted, recorded, and the source port contained where the ACTION
says so. Of a partition without a RESIST record it is blocked alone (log entry 149). -/
def violate (j q p : Nat) (k : Viol) (t : Tlp) (s : State) : State × Disposition :=
  let s1 := emit 0x0203 6 (le 1 p ++ le 1 q ++ le 1 (violCode k) ++ le 1 (opCode t) ++ le 2 t.reqId ++ le 2 0 ++ le 4 t.len ++ le 8 t.addr)
    (upPart p (fun x => { x with viol := x.viol + 1 }) s)
  let s2 := match resistRec s p with
    | some r => if r.action = 2 then epFirmware j s1 else s1
    | none => s1
  let s3 := if k ≠ .noAts ∧ tlpPosted t.kind then aerReport q 1 s2 else s2
  (settle (violEscalate j p s3), if k = .noAts then .unsupported else turnAway t.kind)

/-- An intercepted TLP to or from the endpoint of a port waits until firmware is given the packet (R332). -/
def medTake (port i : Nat) (t : Tlp) (s : State) : State := upFab (fun g => { g with medTlps := g.medTlps ++ [(port, i, t)] }) s

/-- An endpoint's TLP at its DOWNSTREAM port (R293, R296, R299, R311, R317, R320, R332, R340). An intercepted packet to the host
is taken for mediation; one to another endpoint is dropped. -/
def endpointTlp (j q p : Nat) (t : Tlp) (s : State) : State × Disposition :=
  if (epOf s j).st ≠ .opened ∨ s.fab.planes = 0 ∨ (partOf s p).up = false then away q t.kind s
  else if bayScreens s (q / 4) = false ∧ t.kind ≠ .completion then away q t.kind s
  else if (mctpOf t).isSome ∧ t.ide then away q t.kind s
  else match acsScreen s q p t (screen s q p t) with
    | .route => routeTlp q p t (mctpTrack p t s)
    | .mediate => if t.dest = .up ∧ ideBlocked s p = false then (medTake q q t (mctpTrack p t s), .mediated) else away q t.kind (mctpTrack p t s)
    | .upstream => routeTlp q p { t with dest := .up } s
    | .peer r => routeTlp q p { t with dest := .port r } s
    | .violation k => violate j q p k t s
    | .blocked => away q t.kind s

/-- A packet that R332 intercepts on its way to an OPEN endpoint of the partition. -/
def hostMediates (s : State) (p : Nat) (t : Tlp) : Bool :=
  intercepts s p t && (match t.dest with
    | .port r => portOpen s p r
    | _ => false)

/-- A host's TLP at the upstream port of its partition (R291, R293, R296, R297, R299, R319, R320, R332, R340). -/
def hostTlp (p : Nat) (t : Tlp) (s : State) : State × Disposition :=
  if s.fab.planes = 0 ∨ ideBlocked s p then awayAt (upPort' s p) p t s
  else if (mctpOf t).isSome ∧ t.ide then awayAt (upPort' s p) p t s
  else if hostMediates s p t then (match t.dest with
    | .port r => medTake r (upPort' s p) t (mctpTrack p t s)
    | _ => s, .mediated)
  else routeTlp (upPort' s p) p (if t.dest = .up then { t with dest := .outside } else t) (mctpTrack p t s)

/-- A range record as CSF_RES_REC_0 to 7 hold it (R322). -/
def recRange (w : List (BitVec 32)) : Range :=
  let x := fun i => (w.getD i 0).toNat
  ⟨x 0 + 2 ^ 32 * x 1, x 2 + 2 ^ 32 * x 3, w.getD 4 0, x 5, x 6⟩

/-- The DOWNSTREAM ports of a partition as a mask. -/
def partMask (s : State) (p : Nat) : BitVec 32 := match s.run.policy with
  | some q => maskOf 32 ((q.fabric.filter (fun r => decide (r.role = 2) && decide (r.part = p))).map (fun r => r.port))
  | none => 0

/-- Every field of the record holds a value R322 permits. -/
def rangeOk (s : State) (p : Nat) (w : List (BitVec 32)) : Bool :=
  let g := recRange w
  decide (g.base % 4096 = 0) && decide ((g.limit + 1) % 4096 = 0) && decide (g.base ≤ g.limit)
    && decide (g.src ≠ 0) && decide (g.src &&& ~~~ partMask s p = 0) && decide (g.perm ≠ 0) && decide (g.perm < 8)
    && decide (w.getD 7 0 = 0)

/-- The conditions of R323 in order; 1 is ACCEPTED. A partition whose arming waits for its 0x0205 counts as armed: the model's choice (log entry
147). -/
def declareCheck (s : State) (p : Nat) : Nat :=
  let x := partOf s p
  let g := recRange x.recWords
  if x.armed ≠ 0 ∨ x.pendArm.isSome then 2
  else if !rangeOk s p x.recWords then 5
  else match resistRec s p with
    | none => 4
    | some r =>
      if !(r.windows.take r.windowCount).any (fun w => decide (w.1 ≤ g.base) && decide (g.limit ≤ w.2)) then 4
      else if r.maxRanges ≤ x.ranges.length then 3 else 1

/-- The 32 bytes of a range record. -/
def rangeBytes (g : Range) : Bytes := le 8 g.base ++ le 8 g.limit ++ le 4 g.src.toNat ++ le 4 g.perm ++ le 4 g.label ++ le 4 0

/-- CSF_RES_STATUS.PENDING. -/
def csfPending (x : Part) : Bool := x.pendDeclare.isSome || x.armCmd

/-- 0x0205 is durable: the armed table may take effect. -/
def armReady (p : Nat) (s : State) : State := upPart p (fun x => { x with pendArm := x.pendArm.map (fun a => (a.1, true)) }) s

/-- Arming begins with its record (R325). -/
def armBegin (p src : Nat) (s : State) : State :=
  let x := partOf s p
  gated 0x0205 6 (le 1 p ++ le 1 src ++ le 2 x.ranges.length ++ le 4 0 ++ fit 48 x.digest) (.resistArm p) (armReady p)
    (upPart p (fun x => { x with pendArm := some (src, false), deadlineRuns := false }) s)

/-- A host's access to BAR0, BAR2 or BAR4 of the CSF reaches it: the link is up, no IDE blocking, and in RUN the request comes
on the bound stream with the T bit (R296, R297). -/
def csfReach (s : State) (p : Nat) (bound : Bool) : Bool :=
  (partOf s p).up && decide (s.fab.planes ≠ 0) && !ideBlocked s p && (bound || decide ((partOf s p).tdi ≠ .run))

end Sys2Proof.Machine
end

