-- ==== Sys2Proof/Machine/MedOps.lean ====
section
/-!
DEFINITION. Firmware-update mediation (R332 to R335).
-/

namespace Sys2Proof.Machine

open Sys2Proof

/-- The PLDM Type 5 command code of a message; those of DSP0267 for the messages the manual names (log entry 22). -/
def medCode : MedMsg → Nat
  | .requestUpdate => 0x10
  | .updateComponent _ _ _ => 0x14
  | .requestData _ _ => 0x15
  | .data _ => 0x15
  | .activate => 0x1a
  | .cancel => 0x1d
  | .other c _ => c

/-- The message is a request of the host. -/
def medFromHost : MedMsg → Bool
  | .requestData _ _ => false
  | .data _ => false
  | .other _ r => r
  | _ => true

/-- The session of a port, and one changed. -/
def medOf (s : State) (port : Nat) : Option Mediation := tabGet none s.fab.meds port
def upMed (port : Nat) (f : Mediation → Mediation) (s : State) : State :=
  upFab (fun g => { g with meds := tabSet none g.meds port ((tabGet none g.meds port).map f) }) s

/-- The component being transferred, the last one named, changed. -/
def upComp (f : MedComp → MedComp) (m : Mediation) : Mediation :=
  match m.comps.getLast? with
  | none => m
  | some c => { m with comps := m.comps.dropLast ++ [f c] }

/-- Data of a RequestFirmwareData response (R334), which answers the oldest request that waits for one (log entry 137): the next offset in
ascending order is hashed, the answer to a repeat must carry the bytes of the one before, and any other pattern makes the digest absent. -/
def compData (d : Bytes) (c : MedComp) : MedComp :=
  match c.asks with
  | [] => if d = c.lastData ∧ c.nextOffset ≠ 0 then c else { c with absent := true }
  | (o, n) :: r =>
    let c1 := { c with asks := r }
    if d.length ≠ n then { c1 with absent := true }
    else if o = c.nextOffset then { c1 with nextOffset := o + n, lastOffset := o, lastData := d, data := c.data ++ d }
    else if o = c.lastOffset ∧ d = c.lastData ∧ c.nextOffset ≠ 0 then c1
    else { c1 with absent := true }

/-- A RequestFirmwareData request (R334): the next in ascending order, which waits for its response behind those before it; a repeat of
the request just before it, which waits for one of its own only where that has had its response; any other makes the digest absent. -/
def compAsk (o n : Nat) (c : MedComp) : MedComp :=
  if o = c.askNext then { c with askNext := o + n, askLast := some (o, n), asks := c.asks ++ [(o, n)] }
  else if c.askLast = some (o, n) then (if c.asks = [] then { c with asks := [(o, n)] } else c)
  else { c with absent := true }

/-- One entry of record 0x0208 (R348). -/
def compEntry (c : MedComp) : Bytes :=
  le 2 c.classification ++ le 2 c.identifier ++ le 1 (b2n c.absent) ++ le 1 c.versionLen ++ le 2 0 ++ le 4 c.nextOffset
    ++ fit 32 c.version ++ (if c.absent then zeros 48 else sha384 c.data)

/-- The 0x0208 records of a session, 43 components in each; the forward of ActivateFirmware waits for the last (R334). A session without a
component has no record, since COUNT is 1 or more, and so nothing to wait for (R348, log entry 86). -/
def updateRecords (j port : Nat) (eff : State → State) : Nat → List MedComp → State → State
  | 0, _, s => eff s
  | n + 1, l, s =>
    let body := fun (more : Nat) => le 1 j ++ le 1 port ++ le 1 (min 43 l.length) ++ le 1 more ++ ((l.take 43).map compEntry).flatten
    if l = [] then eff s else if l.length ≤ 43 then gated 0x0208 6 (body 0) (.activate port) eff s
    else updateRecords j port eff n (l.drop 43) (gated 0x0208 6 (body 1) .none id s)

/-- 0x0208 is durable: the held request may be forwarded. -/
def activateReady (port : Nat) (s : State) : State :=
  upMed port (fun m => { m with activateReady := m.activateReady || m.heldAct.isSome }) s

/-- A session with nothing in it yet. -/
def med0 : Mediation := ⟨[], none, false, false, false⟩

/-- The 0x0208 records of a session with a held ActivateFirmware, once the digest of its last component is finished, for which that has had its
DGA context (R334, R446). -/
def medRecords (j port : Nat) (s : State) : State :=
  match medOf s port with
  | none => s
  | some x =>
    if (x.comps.getLast?.any (fun c => !c.absent)) && !dgaHas s (.component port) then s
    else updateRecords j port (activateReady port) (x.comps.length + 1) x.comps (upMed port (fun y => { y with recorded := true }) s)

/-- The TLP that carries a mediated packet on: as it came in (R316, R334). -/
def medTlp (m : MedPkt) : Tlp := { m.tlp with dest := if medToEndpoint m.msg then .port m.port else .up }

/-- What a forwarded message does to the session. An ActivateFirmware that no RequestUpdate came before opens one, so that it too
is held until its 0x0208 is durable (log entry 86). -/
def medTrack (j : Nat) (m : MedPkt) (s : State) : State :=
  let port := m.port
  match m.msg with
  | .requestUpdate => upFab (fun g => { g with meds := tabSet none g.meds port (some med0) }) s
  | .updateComponent c i v => dgaServe (upMed port (fun x => { x with comps := x.comps ++ [⟨c, i, v.take 32, v.length, 0, none, [], 0, 0, [], false, []⟩] }) s)
  | .requestData o n => upMed port (upComp (compAsk o n)) s
  | .data d => upMed port (upComp (compData d)) s
  | .activate =>
    medRecords j port (upFab (fun g => { g with meds := tabSet none g.meds port (some { (medOf s port).getD med0 with heldAct := some (medTlp m), activateReady := false, recorded := false }) }) s)
  | .cancel => upFab (fun g => { g with meds := tabSet none g.meds port none }) s
  | .other _ _ => s

/-- The endpoint permits mediated updates (R171). -/
def medOk (s : State) (port : Nat) : Bool := match s.run.policy.bind (fun p => polEndpointAt p port) with
  | some e => e.flags.testBit 1
  | none => false

/-- A mediated packet goes on, in order with the other TLPs of its pair (R334, R337). -/
def medForward (m : MedPkt) (s : State) : State × Disposition :=
  let u := upPort' s (portPart s m.port)
  if medToEndpoint m.msg then forwardTlp u m.port (medTlp m) s else forwardTlp m.port u (medTlp m) s

/-- Firmware handles an intercepted packet: refused, held or forwarded unchanged (R333, R334). -/
def medHandle (j : Nat) (m : MedPkt) (s : State) : State × MedReply :=
  if !medOk s m.port then
    (emit 0x0209 6 (le 1 j ++ le 1 m.port ++ le 1 (medCode m.msg) ++ le 1 0) s,
      ⟨m.port, .dropped, if medFromHost m.msg then some 5 else none⟩)
  else
    let s1 := medTrack j m s
    if m.msg = .activate then (s1, ⟨m.port, .waiting, none⟩)
    else
      let r := medForward m s1
      (r.1, ⟨m.port, r.2, none⟩)

/-- The mediation buffer has a place for so many bytes more (R335). -/
def medFits (s : State) (size : Nat) : Bool := decide ((s.fab.medBuf.map (fun x => x.size)).sum + size ≤ 1048576)

/-- A packet waits in the buffer, or before it where it is full or others wait (R335). -/
def medEnq (m : MedPkt) (s : State) : State :=
  upFab (fun g => if medFits s m.size && g.medWait.isEmpty then { g with medBuf := g.medBuf ++ [m] } else { g with medWait := g.medWait ++ [m] }) s

/-- A packet must wait so that the order is kept (R334): behind a held ActivateFirmware, or behind an earlier packet of its endpoint and
direction that waits. -/
def medBlocked (m : MedPkt) (s : State) : Bool :=
  (medToEndpoint m.msg && (match medOf s m.port with
    | some x => x.heldAct.isSome
    | none => false))
  || (s.fab.medBuf ++ s.fab.medWait).any (fun x => decide (x.port = m.port) && decide (x.ingress = m.ingress))

/-- A packet of the buffer meets firmware that runs; one whose endpoint is no longer OPEN, or whose partition is blocked, ends as any
other message to it (R296, R299). -/
def medOne (m : MedPkt) (s : State) : State × List MedReply :=
  match epAt s m.port with
  | none => (s, [])
  | some j =>
    if medBlocked m s then (medEnq m s, [])
    else if (epOf s j).st = .opened ∧ ideBlocked s (portPart s m.port) = false ∧ s.fab.planes ≠ 0 then
      let r := medHandle j m s
      (r.1, [r.2])
    else (aerReport m.port 1 s, [⟨m.port, .dropped, none⟩])

/-- Firmware goes on with the packets of the buffer, then with those that waited for a place in it; what becomes of each is answered in
order, and those that must go on waiting keep their order (R334, R335). All credits kept back return then (log entry 150). -/
def medResume (s : State) : State × List MedReply :=
  (s.fab.medBuf ++ s.fab.medWait).foldl (fun a m =>
    let r := medOne m a.1
    (r.1, a.2 ++ r.2)) (upFab (fun g => { g with medBuf := [], medWait := [], keptCredits := [] }) s, [])

/-- What a command that starts firmware again says of the packets that waited. -/
def resumedReply (l : List MedReply) : Reply := if l = [] then .none else .resumed l

end Sys2Proof.Machine
end

