-- ==== Sys2Proof/Machine/Power.lean ====
section
/-!
DEFINITION. Supplies, oscillators, tamper inputs, and the core's requests to the Mordant (chapters 02 and 03).
-/

namespace Sys2Proof.Machine

open Sys2Proof

/-- VSEC_POWER_ON (R87, R93): a P event; every custody output is driven low. -/
def execVsecPowerOn (s : State) : Out := done (pEvent s)

/-- The trip sources that are active when they arm, as SRC codes (R516, and R95 for a disagreement that stands). -/
def armedSources (s : State) : List Nat :=
  (bitsOf s.mor.tampLow).map (fun i => i + 1) ++ (if s.mor.aocDis then [5] else [])

/-- CRITICAL_FUSE_LATCH_COMPLETE (R96, R97, R101, R516): critical wires latched, straps by majority of three samples, the
start phase HOLD, trip sources armed. The straps are sampled on AOC cycles, so not while no oscillator toggles (R97, R514). -/
def execCriticalFuseLatchComplete (strap0 strap1 strap2 : BitVec 8) (s : State) : Out :=
  when (s.mor.vsec && !s.mor.latched && aocRuns s) s
    (let st := majority strap0 strap1 strap2
     let mode := fun (b : Bool) => if b then MgtMode.smbus else MgtMode.i3c
     let s0 := { s with mgtA := { s.mgtA with mode := mode (st.getLsbD 2) }, mgtB := { s.mgtB with mode := mode (st.getLsbD 3) } }
     let s1 := upMor (fun m => { m with latched := true, strap := st, phase := 1 }) (upOtp otpLatch s0)
     done (each (armedSources s) custodyTrip s1))

/-- VSEC_BROWNOUT (R87): a Custody Trip once HOLD has been reached. -/
def execVsecBrownout (s : State) : Out :=
  when (s.mor.vsec && s.mor.latched && !s.mor.brown) s (done (custodyTrip 6 (upMor (fun m => { m with brown := true }) s)))

/-- VSEC_OFF (R87): the Mordant resets; the device holds the values of the P event that the next rise is (log entry 17). -/
def execVsecOff (s : State) : Out :=
  when s.mor.vsec s (done (upMor (fun m => { m with vsec := false }) (pEvent s)))

/-- MAIN_SET_GOOD (R76, R83, R85): the start begins with self-test; every bank is sensed and classed. `mgt` is the class of
VIO_MGT; `cch` and `prs` give the class of each other bank that lies in one. -/
def execMainSetGood (mgt : VioClass) (cch prs : List (Nat × VioClass)) (s : State) : Out :=
  when (s.mor.vsec && s.mor.latched && !s.mor.brown && !s.sc.mainGood && decide (s.mor.phase = 1)
      && decide (s.mor.floorCause = 0) && cch.any (fun c => decide (c.1 = 0))) s
    (let s1 := upSc (fun c => { c with mainGood := true, selfTestDue := true, vioMgt := some mgt }) s
     let s2 := (cch.filter (fun c => decide (c.1 < 17))).foldl (fun s c => upChan c.1 (fun ch => { ch with vio := some c.2 }) s) s1
     let s3 := (prs.filter (fun c => decide (1 ≤ c.1) && decide (c.1 ≤ 16))).foldl
       (fun s c => upPort c.1 (fun p => { p with vio := some c.2 }) s) s2
     done (upChan 0 (fun ch => { ch with st := .selftest }) s3))

/-- MAIN_RAIL_FAIL (R86): a rail of the main set that was good fails, before or after all of them are good: a C event. -/
def execMainRailFail (s : State) : Out := when s.mor.vsec s (done (cEvent s))

/-- PLL_LOSS_OF_LOCK (R488): a failure of the main set. -/
def execPllLossOfLock (s : State) : Out := when (s.mor.vsec && s.sc.mainGood) s (done (cEvent s))

/-- VIO_RST_GOOD (R94, R515): VIO_RST is good, in a class. -/
def execVioRstGood (cls : VioClass) (s : State) : Out :=
  when (s.mor.vsec && s.mor.vioRst.isNone) s (done (settle (upMor (fun m => { m with vioRst := some cls }) s)))

/-- VIO_RST_LOST (R81, R515): every RELEASED domain is held in the next AOC cycle, also one that comes after an oscillator has
resumed. -/
def execVioRstLost (s : State) : Out :=
  when (s.mor.vsec && s.mor.vioRst.isSome) s (done (settle (upMor (fun m => { m with vioRst := none, vioLost := true }) s)))

/-- VIO_BANK_LOW (R77): the bank, once classed, stops its port until the next C event: its custody channel, or the devices of its
presentation port, wherever the start has come to. VIO_CCH_00 belongs to the main set (R82, R83) and is not meant here. -/
def execVioBankLow (prs : Bool) (k : Nat) (s : State) : Out :=
  if prs then when (portOf s k).vio.isSome s (done (portFail k s))
  else when (decide (k ≠ 0) && (chanOf s k).vio.isSome) s (done (romResume (settle (bankStop k s))))

/-- HOT_RESET (R292): an H event for the partition of the upstream port. -/
def execHotReset (part : Nat) (s : State) : Out :=
  when (s.run.policy.bind (fun p => polUpstream p part)).isSome s (done (hEvent part s))

/-- UPSTREAM_LINK_DOWN (R292): an H event for the partition, whose upstream link is out of L0. -/
def execUpstreamLinkDown (part : Nat) (s : State) : Out :=
  when (s.run.policy.bind (fun p => polUpstream p part)).isSome s (done (hEvent part s))

/-- AOC_DISAGREEMENT (R95): a Custody Trip source; the Mordant runs from AOC_A while it toggles, from AOC_B otherwise. -/
def execAocDisagreement (s : State) : Out :=
  when (s.mor.vsec && !s.mor.aocDis) s
    (done (custodyTrip 5 (upMor (fun m => { m with aocDis := true, aocSel := !m.aocA }) s)))

/-- The oscillator the Mordant runs from once one has stopped (R95): after a disagreement AOC_A while it toggles, AOC_B otherwise. -/
def aocPick (m : Mordant) : Mordant :=
  if m.aocDis && (m.aocA || m.aocB) && (!m.aocA || !m.aocB) then { m with aocSel := !m.aocA } else m

/-- AOC_STOPPED (R514): an oscillator (true is AOC_B) is declared stopped; with both stopped the disagreement source is
asserted through the asynchronous path, and SRC reads 5. -/
def execAocStopped (b : Bool) (s : State) : Out :=
  when (s.mor.vsec && (if b then s.mor.aocB else s.mor.aocA)) s
    (let s1 := upMor (fun m => aocPick (if b then { m with aocB := false } else { m with aocA := false })) s
     if aocRuns s1 then done s1
     else done (custodyTrip 5 (upMor (fun m => { m with aocDis := true, tripSrc := if m.latched then 5 else m.tripSrc }) s1)))

/-- AOC_RESUMED (R514): an oscillator toggles again. After both were stopped, the Mordant runs on that one, the trip's
domains move, every Vat grant is withdrawn and the standing release requests are acted on. -/
def execAocResumed (b : Bool) (s : State) : Out :=
  when (s.mor.vsec && !(if b then s.mor.aocB else s.mor.aocA)) s
    (let both := !s.mor.aocA && !s.mor.aocB
     let s1 := upMor (fun m => if b then { m with aocB := true } else { m with aocA := true }) s
     if both then
       let s2 := upMor (fun m => { m with aocSel := b, asyncTrip := false }) s1
       done (settle (if s2.mor.trip then each (tripList s2) tripDom s2 else s2))
     else done s1)

/-- AOC_AGREEMENT (R95): the oscillators agree again, and the Mordant runs from AOC_A. Until then it stays on the oscillator it
runs from, also when the other resumes (log entry 68). -/
def execAocAgreement (s : State) : Out :=
  when (s.mor.vsec && s.mor.aocDis && s.mor.aocA && s.mor.aocB) s
    (done (upMor (fun m => { m with aocDis := false, aocSel := false }) s))

/-- TAMPER_ASSERT (R116): TAMP_N_n falls and passes the filter. -/
def execTamperAssert (n : BitVec 2) (s : State) : Out :=
  when (s.mor.vsec && !s.mor.tampLow.getLsbD n.toNat) s
    (done (custodyTrip (n.toNat + 1) (upMor (fun m => { m with tampLow := putBit m.tampLow n.toNat true }) s)))

/-- TAMPER_RELEASE (R516): TAMP_N_n is high again and is no active source. -/
def execTamperRelease (n : BitVec 2) (s : State) : Out :=
  when (s.mor.vsec && s.mor.tampLow.getLsbD n.toNat) s
    (done (upMor (fun m => { m with tampLow := putBit m.tampLow n.toNat false }) s))

/-- VSEC_ABOVE_V_BOD (R87, R120): the brownout condition ends. -/
def execVsecAboveVBod (s : State) : Out :=
  when (s.mor.vsec && s.mor.brown) s (done (upMor (fun m => { m with brown := false }) s))

/-- TRIP_RECORD (R119): TRIP_SEQ rises for the source that set the trip, MORDANT_TRIP_CAUSE.SRC is written and 0x0007 is
emitted, once the Service Complex can read the Mordant. -/
def execTripRecord (s : State) : Out :=
  match s.mor.tripNotes with
  | [] => notNow s
  | n :: r =>
    when (s.sc.mainGood && !s.sc.selfTestDue && !s.sc.holdOnly && (s.mor.aocA || s.mor.aocB)) s
      (let s1 := upMor (fun m => { m with tripNotes := r, tripSrc := n.src }) s
       let s2 := if n.first then upEv (fun e => { e with tripSeq := e.tripSeq + 1 }) s1 else s1
       done (emit 0x0007 2 (le 1 n.src ++ le 3 0 ++ le 4 n.heldMask.toNat ++ le 8 s2.ev.tripSeq) s2))

/-- A write of MORDANT_TRIP_REQ. -/
def tripReq (value : BitVec 32) (s : State) : Out :=
  mordantAccess s (if value = 0x54524950 then done (custodyTrip 8 s) else done s)

/-- TRIP_REQ_WRITE: MORDANT_TRIP_REQ raises a Custody Trip on its key alone (R49, R116). -/
def execTripReqWrite (value : BitVec 32) (s : State) : Out := when (coreRuns s) s (tripReq value s)

/-- A write of MORDANT_HOLD_REQ. -/
def holdReq (mask : BitVec 32) (s : State) : Out :=
  mordantAccess s (done (settle (each (bitsOf mask) (holdDom 1 false) s)))

/-- HOLD_REQUEST: MORDANT_HOLD_REQ holds every domain whose bit is 1 (R105, R106). -/
def execHoldRequest (mask : BitVec 32) (s : State) : Out := when (coreRuns s) s (holdReq mask s)

/-- Body of 0x0004 DOMAIN_RELEASED (R347). -/
def releasedBody (s : State) (d : Nat) : Bytes :=
  let outs := (s.mor.outMap.cells.map (fun c => c.1)).filter (fun o => decide (outDom s o = some d))
  le 1 d ++ le 1 (b2n (unverOk s d)) ++ le 2 0
    ++ le 8 (maskOf 64 (outs.filter (fun o => decide (o < 48)))).toNat
    ++ le 4 (maskOf 32 ((outs.filter (fun o => decide (48 ≤ o))).map (fun o => o - 48))).toNat

/-- A bit of MORDANT_REL_REQ is set. -/
def relReqBit (d : Nat) (s : State) : State := upMor (fun m => { m with relReq := putBit m.relReq d true }) s

/-- The Interlock evaluates, and each requested Release that is not granted is recorded with CAUSE 0x09 (R111, R347). -/
def relEvaluate (l : List Nat) (s : State) : State :=
  let s1 := settle s
  each (l.filter (fun d => s.mor.relReq.getLsbD d && decide (domSt s1 d ≠ .released))) (fun d => heldRecord d 9 false) s1

/-- A release request whose 0x0004 has become durable (R31): firmware writes its bit. -/
def relReqSet (d : Nat) (s : State) : State := mordantWrite (fun s => relEvaluate [d] (relReqBit d s)) s

/-- A write of MORDANT_REL_REQ, with the records before it. -/
def releaseReq (mask : BitVec 32) (s : State) : Out :=
  mordantAccess s
   (let l := (bitsOf mask).filter (fun d => !s.mor.relReq.getLsbD d && relAble s d)
    done (relEvaluate l
     (each l (fun d s => gated 0x0004 1 (releasedBody s d) (.relReq d) (relReqBit d) s) s)))

/-- RELEASE_REQUEST: firmware makes 0x0004 durable for each domain and sets its bit in MORDANT_REL_REQ (R31, R111). A bit
that is 1 already is left; a domain whose Release is not available (R32, R35) is not asked for. -/
def execReleaseRequest (mask : BitVec 32) (s : State) : Out := when (fwRuns s) s (releaseReq mask s)

end Sys2Proof.Machine
end

