-- ==== Sys2Proof/Machine/Gates.lean ====
section
/-!
DEFINITION. The records that wait (R358, R362): when space returns they are written in the order of submission, and each
effect that waited follows.
-/

namespace Sys2Proof.Machine

open Sys2Proof

/-- The effect that waits on a record. -/
def gateEffect (g : Gate) (s : State) : State :=
  match g with
  | .none => s
  | .relReq d => relReqSet d s
  | .epRelease j => epOpen j s
  | .lift j => epLift j s
  | .recovery k f => recoveryGo k f s
  | .capsuleSwitch k => switchHalves k s
  | .capsuleStaged => capsuleAccept s
  | .svnAdvance i n => svnRaise i n s
  | .policySvn n => polFloorRaise n s
  | .ratchet n => ratchetBurn n s
  | .lcStep => lcStepBegin s
  | .tripClear => tripClear s
  | .debugOpen scope => debugOpen scope s
  | .resistArm p => armReady p s
  | .activate port => activateReady port s
  | .promotion pol cleared => promotionGo pol cleared s

/-- The oldest waiting record that the Fix Ring lets in is written, and its effect follows. -/
def writeWaiting (s : State) : State :=
  match s.ev.waiting.find? (fun w => evAdmits s.ev w.code) with
  | none => s
  | some w =>
    let r := evWrite s.aot w.code w.src w.body s.ev
    if r.2 then gateEffect w.gate (upEv (fun _ => { r.1 with waiting := r.1.waiting.erase w }) s) else s

/-- Every waiting record that fits is written, oldest first. -/
def writeAllWaiting (s : State) : State := (List.range s.ev.waiting.length).foldl (fun s _ => writeWaiting s) s

/-- WAITING_RECORD_WRITE (R362): space has returned. -/
def execWaitingRecordWrite (s : State) : Out :=
  when (paOk s && s.ev.waiting.any (fun w => evAdmits s.ev w.code)) s
    (done (settle (writeAllWaiting (upEv (evDrain s.aot) s))))

end Sys2Proof.Machine
end

