-- ==== Sys2Proof/Machine/Xip.lean ====
section
/-!
DEFINITION. The direct-execution window of CCH_00 (R217 to R222).
-/

namespace Sys2Proof.Machine

open Sys2Proof

/-- Blocks the window maps: LEN_BLK of 1 to 4,096, other values map nothing (XIP_MAP). -/
def xipLen (x : Xip) : Nat := if x.lenBlk ≤ 4096 then x.lenBlk else 0

/-- The line that holds a block. -/
def xipLine (x : Xip) (b : Nat) : Option XipLine := x.lines.find? (fun l => decide (l.block = b))

/-- A line used by a fetch: it is no unused prefetched line any more, and the most recently used. -/
def xipTouch (l : XipLine) (x : Xip) : Xip :=
  { x with lines := x.lines.filter (fun m => decide (m.block ≠ l.block)) ++ [{ l with prefetched := false }] }

/-- A line enters the buffer of 16; with no room, a prefetched line not yet used is replaced first, and otherwise the least
recently used line (R219). -/
def xipInsert (l : XipLine) (x : Xip) : Xip :=
  let old := x.lines.filter (fun m => decide (m.block ≠ l.block))
  let kept := if old.length < 16 then old
    else match old.find? (fun m => m.prefetched) with
      | some v => old.filter (fun m => decide (m.block ≠ v.block))
      | none => old.drop 1
  { x with lines := kept ++ [l] }

/-- A fill begins. On a channel that is stopped or failed its reads end STOPPED (R213), so it has failed (R217). -/
def xipFill (s : State) (b : Nat) (demand : Option Nat) : XipFill :=
  if (chanOf s 0).st = .stopped ∨ (chanOf s 0).st = .failed then ⟨b, 2, demand, true, false⟩ else ⟨b, 0, demand, false, false⟩

/-- XIP_FETCH: a core fetch of the word at `offset` of the window (R217, R218). A fetch before LOCK or above the mapped
length ends in a bus error; one that hits a line gets its word; any other starts a fill, or waits for the one in progress. -/
def execXipFetch (offset : BitVec 29) (s : State) : Out :=
  when (coreRuns s) s
    (let o := offset.toNat
     let b := o / 4096
     if !s.xip.lock || decide (xipLen s.xip ≤ b) then busError s
     else match xipLine s.xip b with
       | some l => answer (.word (wordAt l.data (o % 4096 / 4))) (upXip (xipTouch l) s)
       | none =>
         match s.xip.fill with
         | none => done (dgaServe (upXip (fun x => { x with fill := some (xipFill s b (some o)) }) s))
         | some f =>
           if f.block = b then done (upXip (fun x => { x with fill := some { f with demand := some o } }) s) else notNow s)

/-- The block check of a fill: CMP_RESULT 0b10 against the block's entry of the table RAM, where a fault turns the rails `bad` over (R217,
R450). -/
def xipMatch (x : Xip) (b : Nat) (data : Bytes) (bad : BitVec 2) : Bool :=
  decide (ctxCompare (sha384 (fit 4096 data)) (memRead 0 x.table (48 * b) 48) bad = 2)

/-- The prefetch that follows a demand fill of block b (R219). -/
def xipNext (s : State) (b : Nat) (x : Xip) : Option XipFill :=
  if x.prefetch && decide (b + 1 < xipLen x) && (xipLine x (b + 1)).isNone then some (xipFill s (b + 1) none) else none

/-- XIP_FILL_DONE: the frame of the fill has ended and its block check with it (R217); `data` is what the frame read. A
third failure ends the fetch that waits in a bus error. Without its DGA context the block check waits (R463, R467). -/
def execXipFillDone (data : Bytes) (bad : BitVec 2) (s : State) : Out :=
  match s.xip.fill with
  | none => notNow s
  | some f =>
    when (f.arrived && (!f.readOk || dgaHas s .window)) s
      (if f.readOk && xipMatch s.xip f.block data bad then
         let l : XipLine := ⟨f.block, f.demand.isNone, fit 4096 data⟩
         let s1 := upXip (fun x => let y := xipInsert l x; { y with fill := if f.demand.isSome then xipNext s f.block y else none }) s
         match f.demand with
         | some o => answer (.word (wordAt l.data (o % 4096 / 4))) s1
         | none => done s1
       else if f.fails < 2 then
         done (upXip (fun x => { x with fill := some { f with fails := f.fails + 1, arrived := false, readOk := false } }) s)
       else if f.demand.isSome then busError (upXip (fun x => { x with fill := none, failBlock := some f.block }) s)
       else done (upXip (fun x => { x with fill := none }) s))

end Sys2Proof.Machine
end

