-- ==== Sys2Proof/Machine/Failover.lean ====
section
/-!
DEFINITION. Runtime failover of DGA engines, Signature Engines and Persistence banks (R465 to R467).
-/

namespace Sys2Proof.Machine

open Sys2Proof

/-- A frame in progress for a client whose read is abandoned gives it nothing. -/
def frameAbandon (k : Nat) (cl : Client) (s : State) : State :=
  upChan k (fun c => { c with frame := c.frame.map (fun f => if f.client = cl then { f with ended := true } else f) }) s

/-- A judgement whose context was on the engine restarts from the first frame of the same source (R264, R466): nothing of what it had read
counts, and the Vault is read again. -/
def restartStream (k : Nat) (s : State) : State :=
  match imgRec s k, (imgOf s k).stream with
  | some r, some t =>
    let s1 := if isFlash t.src then frameAbandon r.channel .verify s else s
    streamGo k t.src (if t.src = .vault then upVault (fun v => { v with nvme := v.nvme.filter (fun c => decide (c.use ≠ .restore k)) }) s1 else s1)
  | _, _ => s

/-- The digest of the component a session is transferring is absent (R334, R466). -/
def medLost (port : Nat) (s : State) : State := upMed port (upComp (fun c => { c with absent := true })) s

/-- The hardware clients with a context on an engine. -/
def dgaOn (d : Dga) (e : Nat) : List DgaOwner := (tabRange d.units (8 * e) (8 * e + 8)).filterMap (fun c => c.2)

/-- DGA engine e is removed (R466): core contexts on it close, and each hardware client with a context on it goes on as the table gives. The
chain unit, the ring dispatcher and a declaration ask for a new context and do their work again in it. -/
def dgaRemove (e : Nat) (s0 : State) : State :=
  let s := dgaServe s0
  let on := dgaOn s.dga e
  let s1 := upDga (fun d => { d with engines := putBit d.engines e false, failover := decide (putBit d.engines e false ≠ 0), lost := d.lost ++ (tabRange d.ctxs (8 * e) (8 * e + 8)).map (fun c => c.1), ctxs := tabClearRange d.ctxs (8 * e) (8 * e + 8), units := tabClearRange d.units (8 * e) (8 * e + 8) }) s
  on.foldl (fun s o => match o with
    | .stream k => restartStream k s
    | .component p => medLost p s
    | .window => frameAbandon 0 .xip s
    | _ => s) s1

/-- DGA_KNOWN_ANSWER_CHECK (R465 to R467): the 1 ms check of engine e, or a RAIL_FAULT on a compare. Which contexts the engine held the state
says; the last three operands, lists of them, play no part. -/
def execDgaKnownAnswerCheck (e : Nat) (ok : Bool) (_slots : List Nat) (_xip : Bool) (_meds : List Nat) (s : State) : Out :=
  when (decide (e < 24) && s.dga.engines.getLsbD e) s
    (if ok then done s
     else
       let s1 := dgaRemove e s
       match s.xip.fill with
       | some f =>
         if !(dgaOn (dgaNow s) e).contains .window then done s1
         else if f.fails < 2 then done (upXip (fun x => { x with fill := some { f with fails := f.fails + 1, arrived := false, readOk := false } }) s1)
         else if f.demand.isSome then busError (upXip (fun x => { x with fill := none, failBlock := some f.block }) s1)
         else done (upXip (fun x => { x with fill := none }) s1)
       | none => done s1)

/-- DGA_FAILOVER_DONE (R465, R466): clients have new contexts. -/
def execDgaFailoverDone (s : State) : Out := when s.dga.failover s (done (dgaServe (upDga (fun d => { d with failover := false }) s)))

/-- SIG_KNOWN_ANSWER_CHECK (R465, R467): the 1 ms check of an engine. -/
def execSigKnownAnswerCheck (e ok : Bool) (s : State) : Out :=
  when (sigOf s e).inService s (if ok then done s else done (sigRemove e s))

/-- SIG_FAILOVER_DONE (R465): the operation in progress starts again on the other engine. -/
def execSigFailoverDone (s : State) : Out :=
  when (s.sig0.failover || s.sig1.failover) s
    (done { s with sig0 := { s.sig0 with failover := false }, sig1 := { s.sig1 with failover := false } })

/-- PERSIST_BANK_FAULT (R465, R467): a bank is removed; its mirror carries on after the failover, and without one the array
is OUT. -/
def execPersistBankFault (b : BitVec 2) (s : State) : Out :=
  when (s.pa.bank.getLsbD b.toNat) s
    (let s1 := upPa (fun p => { p with bank := putBit p.bank b.toNat false }) s
     done (upPa (fun p => { p with failover := paUp s1 }) s1))

/-- PERSIST_FAILOVER_DONE (R465): entries not yet durable become durable on the surviving bank, and acknowledgements
resume. -/
def execPersistFailoverDone (s : State) : Out :=
  when s.pa.failover s
    (let s1 := upPa (fun p => { p with failover := false }) s
     done (settle (writeAllWaiting (upEv (evDrain s.aot) s1))))

end Sys2Proof.Machine
end

