-- ==== Sys2Proof/Machine/Hierarchy.lean ====
section
/-!
DEFINITION. The PCI functions a host sees (R290 to R294): their identity, what each supports, and what a bridge reports.
-/

namespace Sys2Proof.Machine

open Sys2Proof

/-- The kinds of function in the hierarchy of a partition. -/
inductive FnKind where
  | upstreamBridge
  | csf
  | downstreamBridge
deriving DecidableEq, Repr

/-- A PCI function: its kind, the port it stands for (0 for the CSF), and its device number on the internal bus; the upstream
bridge lies on the bus the host assigns. -/
structure PciFn where
  kind : FnKind
  port : Nat
  device : Nat
deriving DecidableEq, Repr

/-- Vendor ID and Device ID (R290). -/
def vendorId : Nat := 0x4b58
def deviceIdOf : FnKind → Nat
  | .upstreamBridge => 0x9f00
  | .csf => 0x9f10
  | .downstreamBridge => 0x9f01

/-- A function is an endpoint with a Type 0 header; the bridges have Type 1. -/
def headerType : FnKind → Nat
  | .csf => 0
  | _ => 1

/-- The DOWNSTREAM ports of a partition, in ascending PORT order. -/
def partPorts (s : State) (p : Nat) : List Nat :=
  (List.range 32).filter (fun r => decide (portRole s r = 2) && decide (portPart s r = p))

/-- The hierarchy of a partition, and nothing else (R290): the upstream port bridge, the CSF at device 0, and the downstream port
bridges from device 1. Without its upstream port, or with the bay of that removed, the partition has none (R311). -/
def hierarchy (s : State) (p : Nat) : List PciFn :=
  if !hasUpstream s p then []
  else
    let l := partPorts s p
    [⟨.upstreamBridge, upPort' s p, 0⟩, ⟨.csf, 0, 0⟩]
      ++ (List.range l.length).map (fun i => ⟨.downstreamBridge, l.getD i 0, i + 1⟩)

/-- The Slot Capabilities of a downstream port bridge (R290): Slot Implemented, Hot-Plug Capable, Physical Slot Number. -/
def slotImplemented : Bool := true
def hotPlugCapable : Bool := false
def slotNumber (f : PciFn) : Nat := f.port

/-- Data Link Layer Link Active of the bridge of a port: 0 while the endpoint is not OPEN (R293). -/
def bridgeLinkActive (s : State) (port : Nat) : Bool := match epAt s port with
  | some j => decide ((epOf s j).st = .opened) && (linkOf s port).dllActive
  | none => false

/-- DPC Trigger Status of the bridge of a port, as the host reads it: 1 while the endpoint is CONTAINED (R294, R298, R299). -/
def dpcStatus (s : State) (port : Nat) : Bool := match epAt s port with
  | some j => decide ((epOf s j).st = .contained)
  | none => false

/-- What AER has reported of the bridge of a port, or of the CSF of partition p at 32 + p. -/
def aerReports (s : State) (port : Nat) : Nat := tabGet 0 s.fab.aer port

/-- The PCI Express capabilities of the gate (R294). -/
inductive PcieCap where
  | aer
  | acs
  | dpc
  | ats
  | doe
  | ide
  | tdisp
  | tags
  | flit
deriving DecidableEq, Repr

/-- What each kind of function holds; the gate supports no other. ATS is pass-through in the bridge of an endpoint it is permitted
to; IDE is link IDE on the upstream port and selective streams that end at the CSF; one DOE mailbox and TDISP are the CSF's. -/
def capsOfFn : FnKind → List PcieCap
  | .upstreamBridge => [.aer, .ide, .tags, .flit]
  | .csf => [.aer, .doe, .ide, .tdisp, .tags]
  | .downstreamBridge => [.aer, .acs, .dpc, .ats, .tags, .flit]

/-! ### The BARs of the CSF (R500) -/

/-- The distance between the doorbell pairs of two rings in BAR2 (R394). -/
def dbStride (s : State) (p : Nat) : Nat := match ringsRec s p with
  | some r => if r.stride = 1 then 4096 else 8
  | none => 8

/-- The size of BAR n, each of 64 bits, memory and non-prefetchable; there is no other BAR and no expansion ROM (R394, R396, R499, R500). -/
def barSize (s : State) (p n : Nat) : Nat :=
  if n = 0 then 65536 else if n = 2 then 262144 * dbStride s p else if n = 4 then 131072 else 0

/-- BAR register i of the CSF as the host reads it: the even ones hold the lower half of an address with the type of a 64-bit,
non-prefetchable memory BAR, the odd ones the upper half. -/
def csfBarReg (s : State) (p i : Nat) : Word :=
  let v := tabGet 0 (partOf s p).csfBars i
  if i % 2 = 0 then BitVec.ofNat 32 (v.toNat / barSize s p i * barSize s p i + 4) else v

/-- The address BAR n begins at. -/
def barBase (s : State) (p n : Nat) : Nat :=
  (tabGet 0 (partOf s p).csfBars n).toNat / barSize s p n * barSize s p n + 2 ^ 32 * (tabGet 0 (partOf s p).csfBars (n + 1)).toNat

/-- The BAR an address of a host's request lies in, and its offset there; of BARs the host has laid over each other the first (log entry
118). -/
def barAt (s : State) (p a : Nat) : Option (Nat × Nat) :=
  ([0, 2, 4].find? (fun n => decide (barBase s p n ≤ a) && decide (a < barBase s p n + barSize s p n))).map (fun n => (n, a - barBase s p n))

/-- A host's write to a register of configuration space (R294, R500). -/
def writeCfg (p : Nat) (r : CfgReg) (v : BitVec 32) (s : State) : State :=
  match r with
  | .csfBar i => if i < 6 then upPart p (fun x => { x with csfBars := tabSet 0 x.csfBars i v }) s else s
  | .acsControl q => if (partPorts s p).contains q then upPart p (fun x => { x with acsHost := tabSet none x.acsHost q (some (v, ((tabGet none x.acsHost q).getD (0x40, 0)).2)) }) s else s
  | .bridgeBus q => if (partPorts s p).contains q then upPart p (fun x => { x with buses := tabSet 0 x.buses q v }) s else s
  | .acsEgress q => if (partPorts s p).contains q then upPart p (fun x => { x with acsHost := tabSet none x.acsHost q (some (((tabGet none x.acsHost q).getD (0x40, 0)).1, v)) }) s else s

end Sys2Proof.Machine
end

