-- ==== Sys2Proof/Machine/NrxOps.lean ====
section
/-!
DEFINITION. How the Norxel dispatcher checks and journals a submission entry (R397 to R419).
-/

namespace Sys2Proof.Machine

open Sys2Proof

/-- The fields of a submission entry (R397). -/
def entField (e : Bytes) (a n : Nat) : Nat := unle (fit n (e.drop a))
def entOp (e : Bytes) : Nat := entField e 0 1
def entArg (e : Bytes) : Nat := entField e 1 1
def entCid (e : Bytes) : Nat := entField e 2 2
def entHandle (e : Bytes) : Nat := entField e 4 4
def entAddr (e : Bytes) : Nat := entField e 8 8

/-- n bytes of PAYLOAD from offset a, as a number. -/
def entPay (e : Bytes) (a n : Nat) : Nat := entField e (16 + a) n

/-- The opcodes of R401 by the kind of their ring. -/
def tenantOps : List Nat := [0x01, 0x02, 0x10, 0x11, 0x20, 0x21, 0x30, 0x31, 0x40]
def adminOps : List Nat := [0x70, 0x71, 0x72, 0x73, 0x74, 0x75]

/-- The mutating opcodes (R402). -/
def mutatingOp (op : Nat) : Bool := [0x01, 0x20, 0x40].contains op || adminOps.contains op

/-- The opcodes with an input buffer. -/
def inputOp (op : Nat) : Bool := [0x30, 0x31, 0x75].contains op

/-- COUNT of an entry: ledgers of a quote or seal, objects of a run. -/
def entCount (e : Bytes) : Nat := if entOp e = 0x10 ∨ entOp e = 0x11 then entArg e else entArg e % 16

/-- The first ledger and COUNT of a quote or seal are permitted. -/
def spanOk (e : Bytes) : Bool := decide (entCount e ≤ 8) && (decide (entCount e ≠ 0) || decide (entHandle e = 0))

/-- Every field holds a value that R401 permits, and every unused byte is 0. -/
def fieldsOk (s : State) (p : Nat) (e : Bytes) : Bool :=
  let arg := entArg e
  let hdl := entHandle e
  let addr := entAddr e
  let padFrom := fun a => decide (entPay e a (48 - a) = 0)
  let plain := decide (arg = 0) && decide (addr = 0)
  match entOp e with
  | 0x01 => plain
  | 0x02 => decide (arg = 0) && decide (addr % 64 = 0) && padFrom 0
  | 0x10 | 0x11 => spanOk e && decide (addr % 4096 = 0) && padFrom 32
  | 0x20 | 0x21 => plain && padFrom 0
  | 0x30 => spanOk e && decide (arg < 64) && decide (addr % 4096 = 0) && decide (1 ≤ entPay e 0 4)
      && decide (entPay e 0 4 ≤ 4000) && padFrom 4
  | 0x31 => decide (hdl = 0) && decide (arg = 0) && decide (addr % 4096 = 0) && padFrom 0
  | 0x40 => decide (hdl = 0) && plain
  | 0x70 => decide (hdl < 262144) && !isAdmin s p hdl && decide (addr % 4096 = 0) && decide (entPay e 0 8 % 4096 = 0)
      && decide (entPay e 8 4 ≠ 0) && (decide (entPay e 12 2 < 2048) || decide (entPay e 12 2 = 0xffff)) && padFrom 14
  | 0x71 => decide (hdl < 262144) && !isAdmin s p hdl && plain && padFrom 0
  | 0x72 => decide (hdl = 0) && plain && decide (entPay e 0 4 ≠ 0) && padFrom 16
  | 0x73 | 0x74 => decide (1 ≤ arg % 16) && decide (arg % 16 ≤ 8) && decide (arg / 16 % 8 = 0)
      && (arg.testBit 7 || decide (hdl = 0)) && decide (addr = 0) && decide (entPay e 0 4 ≠ 0) && padFrom 4
  | 0x75 => decide (hdl = 0) && decide (arg = 0) && decide (addr % 4096 = 0) && padFrom 4
  | _ => false

/-- The counters command of an allocation opcode. -/
def countersOp (op : Nat) : Bool := decide (op = 0x74)

/-- The run an allocation opcode releases. -/
def entRun (p : Nat) (e : Bytes) : Run := ⟨entHandle e, entArg e % 16, p, entPay e 0 4⟩

/-- Every handle, and every object of a run, belongs to the ring's tenant; the index of a new ring is not in use, and that
of a ring to destroy names one that is ACTIVE or in ERROR (R390, R402, R414). -/
def ownerOk (s : State) (p tenant : Nat) (e : Bytes) : Bool :=
  match entOp e with
  | 0x01 | 0x02 => owns s false p tenant (entHandle e)
  | 0x10 | 0x11 | 0x30 => ownsRun s false p tenant (entHandle e) (entCount e)
  | 0x20 | 0x21 => owns s true p tenant (entHandle e)
  | 0x70 => decide ((ringOf s p (entHandle e)).st = .absent)
  | 0x71 => decide ((ringOf s p (entHandle e)).st = .active) || decide ((ringOf s p (entHandle e)).st = .error)
  | 0x73 | 0x74 => !(entArg e).testBit 7 || (runsOf s (countersOp (entOp e))).contains (entRun p e)
  | _ => true

/-- The tenant rings of a partition that are not ABSENT. -/
def tenantRingsAll (s : State) (p : Nat) : Nat := countIf (fun c : Nat × Ring => !isAdmin s p (c.1 % 262144)) (partRings s p)

/-- The bounds of R2, R173, R174 and R393. -/
def quotaOk (s : State) (p : Nat) (r : RingsRec) (e : Bytes) : Bool :=
  match entOp e with
  | 0x70 =>
    decide (entArg e ≤ r.maxDepthLog2) && decide (tenantRingsAll s p < r.maxRings) && decide ((partRings s p).length < 262144)
      && decide (s.nrx.rings.cells.length < ringTotal s.otp.feat)
      && (match quotaOf s p (entPay e 8 4) with
        | some q => decide (tenantRings s p (entPay e 8 4) < q.rings)
        | none => true)
  | 0x72 => decide (entPay e 4 4 ≤ r.maxRings) && decide (entPay e 8 4 ≤ r.maxLedgers) && decide (entPay e 12 4 ≤ r.maxCounters)
  | 0x73 | 0x74 =>
    let c := countersOp (entOp e)
    let runs := runsOf s c
    let n := entArg e % 16
    (entArg e).testBit 7 ||
      (decide (usedBy runs p + n ≤ (if c then r.maxCounters else r.maxLedgers))
        && (match quotaOf s p (entPay e 0 4) with
          | some q => decide (usedByTenant runs p (entPay e 0 4) + n ≤ (if c then q.counters else q.ledgers))
          | none => true)
        && (firstFit runs (objLo c) (objHi s c) n).isSome)
  | _ => true

/-- The debug session and the Boot Record a command needs (R402). -/
def readyOk (s : State) (op : Nat) : Bool :=
  (!([0x10, 0x11, 0x30, 0x31].contains op) || s.otp.session.isNone) && (decide (op ≠ 0x11) || decide (s.ev.brPhase = .signed))

/-- The checks of R402 in their order, but for the input buffer; 0 is SUCCESS. -/
def checkEntry (s : State) (p g tenant : Nat) (r : RingsRec) (e : Bytes) : Nat :=
  let op := entOp e
  if !(if isAdmin s p g then adminOps else tenantOps).contains op then 1
  else if !fieldsOk s p e then 2
  else if !ownerOk s p tenant e then 3
  else if !quotaOk s p r e then 4
  else if !readyOk s op then 8
  else if mutatingOp op && s.ev.isSealed then 0x0a
  else if decide (op = 0x20) && decide (2 ^ 64 - 1 ≤ tabGet 0 s.nrx.counters (entHandle e)) then 5
  else 0

/-- The header fields of a blob (R409). -/
def blobLedger (b : Bytes) : Nat := entField b 12 4
def blobCount (b : Bytes) : Nat := entField b 6 1
def blobPtLen (b : Bytes) : Nat := entField b 16 4
def blobBind (b : Bytes) : Bytes := fit 48 (b.drop 32)

/-- The header of a blob is well formed. -/
def blobOk (b : Bytes) : Bool :=
  decide (entField b 0 4 = 0x4c535946) && decide (entField b 4 1 = 1) && decide (entField b 5 1 < 4) && decide (blobCount b ≤ 8)
    && (decide (blobCount b ≠ 0) || decide (blobLedger b = 0)) && decide (1 ≤ blobPtLen b) && decide (blobPtLen b ≤ 4000)

/-- UNSEAL's own checks (R410): NOT_OWNER where the ledgers named are not the tenant's, SEAL_MISMATCH for every other failure. -/
def unsealStatus (s : State) (p tenant : Nat) (b : Bytes) : Nat :=
  if !ownsRun s false p tenant (blobLedger b) (blobCount b) then 3
  else if !blobOk b then 9
  else if entField b 7 1 = p ∧ entField b 8 4 = tenant
      ∧ blobBind b = sealBind s (blobLedger b) (blobCount b) (entField b 5 1) ∧ (sealOpen s p tenant b (blobPtLen b)).isSome then 0
  else 9

/-- The base an allocation hands out. -/
def allocBase (s : State) (e : Bytes) : Nat :=
  (firstFit (runsOf s (countersOp (entOp e))) (objLo (countersOp (entOp e))) (objHi s (countersOp (entOp e))) (entArg e % 16)).getD 0

/-- HANDLE of the command and of its journal entry: the base handed out by an allocation (R416). -/
def entHandle' (s : State) (e : Bytes) (status : Nat) : Nat :=
  if (entOp e = 0x73 ∨ entOp e = 0x74) ∧ (entArg e).testBit 7 = false ∧ status = 0 then allocBase s e else entHandle e

/-- The NONCE of a seal (R409). -/
def sealNonce (s : State) : Bytes := le 4 s.ev.epoch ++ le 8 s.nrx.sealNo

/-- The body of a successful command's entry (R417). -/
def entryBody (s : State) (j : RingCmd) (tenant : Nat) : Bytes :=
  match j.op with
  | 0x01 | 0x40 => j.payload
  | 0x02 => (ledgerOf s j.handle).value ++ le 8 (ledgerOf s j.handle).extCount
  | 0x10 | 0x11 => leafHash (quoteLeaf s j tenant)
  | 0x20 => le 8 (tabGet 0 s.nrx.counters j.handle + 1)
  | 0x21 => le 8 (tabGet 0 s.nrx.counters j.handle)
  | 0x30 => fit 12 j.extra ++ fit 4 j.payload
  | 0x31 => le 4 (blobPtLen j.buf) ++ zeros 4 ++ blobBind j.buf
  | 0x70 => le 8 j.addr ++ fit 12 j.payload ++ le 1 j.arg ++ zeros 1 ++ fit 2 (j.payload.drop 12)
  | 0x71 => le 4 (ringAborts s j.part j.handle) ++ zeros 4
  | 0x72 => fit 16 j.payload
  | 0x73 | 0x74 => fit 4 j.payload ++ le 1 (j.arg % 16) ++ le 1 (j.arg / 128) ++ zeros 2
  | _ => []

/-- A command's entry is made durable in the open RING block, the head advances, and the command waits for its effect; a
rejected one has none (R37, R416). -/
def journalCmdEntry (j : RingCmd) (body : Bytes) (s : State) : State :=
  let entry := ringEntry j.op j.status j.cid j.part j.ring j.rseq j.handle (if j.status = 0 then body else [])
  upNrx (fun n => { n with jobs := n.jobs ++ [j] })
    (upRing j.part j.ring (fun r => { r with journaled := r.journaled + 1 }) (upEv (fun e => (evWriteEntry s.aot entry e).1) s))

/-- The command of an entry before its checks. -/
def entCmd (p g : Nat) (r : Ring) (e : Bytes) (buf : Bytes) : RingCmd :=
  ⟨p, g, r.journaled % 2 ^ 32, entCid e, entOp e, entArg e, entHandle e, entAddr e, fit 48 (e.drop 16), 0, buf, [], false, false, [], [], r.tenant, false, false⟩

/-- A rejected or aborted command: it has no effect and can be completed at once. -/
def rejected (j : RingCmd) (status : Nat) : RingCmd := { j with status := status, applied := true, ready := true }

/-- Command slots in use on the device and on one ring (R418). -/
def slotsUsed (n : Rings) : Nat := n.jobs.length + n.capsuleWait.length + n.heldCmds.length
def ringSlots (n : Rings) (p g : Nat) : Nat :=
  countIf (fun j : RingCmd => decide (j.part = p) && decide (j.ring = g)) (n.jobs ++ n.capsuleWait)
    + countIf (fun h : HeldCmd => decide (h.part = p) && decide (h.ring = g)) n.heldCmds

/-- The entry of the command of a ring that has been fetched and waits (R418). -/
def heldOf (n : Rings) (p g : Nat) : Option Bytes :=
  (n.heldCmds.find? (fun h => decide (h.part = p) && decide (h.ring = g))).map (fun h => h.entry)

/-- A fetched command waits before its journaling, and its ring behind it. -/
def holdCmd (p g : Nat) (e : Bytes) (s : State) : State :=
  if (heldOf s.nrx p g).isSome then s else upNrx (fun n => { n with heldCmds := n.heldCmds ++ [⟨p, g, e⟩] }) s

/-- R418 makes a fetched command wait: every one in RESERVE, or with the Persistence Array out, and a mutating one under STALL. -/
def commandWaits (s : State) (e : Bytes) : Bool := !entryFits s || (mutatingOp (entOp e) && stalled s)

/-- The failed access sequence of a ring for a use. -/
def accessOf (n : Rings) (p g : Nat) (u : AccessUse) : Option Access :=
  n.accesses.find? (fun a => decide (a.part = p) && decide (a.ring = g) && decide (a.use = u))

/-- t_RRETRY runs for an access of the ring. -/
def accessWaits (n : Rings) (p g : Nat) (u : AccessUse) : Bool := match accessOf n p g u with
  | some a => a.waits
  | none => false

/-- Three issues of a buffer access have failed. -/
def accessLost (n : Rings) (p g : Nat) (u : AccessUse) : Bool := match accessOf n p g u with
  | some a => decide (3 ≤ a.fails)
  | none => false

/-- The access sequence is over. -/
def accessEnd (p g : Nat) (u : AccessUse) (s : State) : State :=
  upNrx (fun n => { n with accesses := n.accesses.filter (fun a => !(decide (a.part = p) && decide (a.ring = g) && decide (a.use = u))) }) s

/-- A queue access of a ring that cannot succeed: an ACTIVE ring goes to ERROR; one that is being destroyed aborts nothing more
(R412, R414, R419). -/
def queueFails (p g : Nat) (s : State) : State :=
  if (ringOf s p g).st = .destroying then ringErrorRecord p 1 g (ringGone p g s) else ringError p g 1 s

/-- An issue of an access fails: it is issued again after t_RRETRY, up to three issues in all (R419). -/
def accessFail (p g : Nat) (u : AccessUse) (s : State) : State :=
  let fails := (match accessOf s.nrx p g u with
    | some a => a.fails
    | none => 0) + 1
  let s1 := accessEnd p g u s
  if fails < 3 then upNrx (fun n => { n with accesses := n.accesses ++ [⟨p, g, u, fails, true⟩] }) s1
  else if u = .fetch ∨ u = .post then queueFails p g s1
  else upNrx (fun n => { n with accesses := n.accesses ++ [⟨p, g, u, 3, false⟩] }) s1

/-- The dispatcher runs: firmware's processor is up and the Lake holds the ring contexts (R254, R420). -/
def nrxRuns (s : State) : Bool := fwRuns s && lakeUp s

/-- The rings of a partition are served (R32): its upstream bay and a crossbar plane are in service. -/
def nrxServes (s : State) (p : Nat) : Bool := nrxRuns s && bayUp s (upPort' s p / 4) && decide (s.fab.planes ≠ 0)

/-- The SEAL or UNSEAL of a ring that is to be carried out again, the oldest first (R420). -/
def againOf (n : Rings) (p g : Nat) : Option RingCmd :=
  n.jobs.find? (fun j => decide (j.part = p) && decide (j.ring = g) && j.again && !j.orphan)

/-- The input buffer of such a command may be read. -/
def againOk (s : State) (p g : Nat) : Bool :=
  nrxServes s p && decide ((ringOf s p g).st ≠ .error) && (againOf s.nrx p g).isSome && !accessWaits s.nrx p g .input

/-- A ring has an entry the dispatcher may fetch now, or has fetched (R412, R414, R416, R418, R420). -/
def fetchOk (s : State) (p g : Nat) : Bool :=
  let r := ringOf s p g
  nrxServes s p && (ringsRec s p).isSome && decide (r.resumeTo ≤ r.posted)
    && ((decide (r.st = .active) && ((heldOf s.nrx p g).isSome || decide (0 < ringWaiting r))) || (decide (r.st = .destroying) && decide (r.journaled < r.abortTo)))
    && !s.nrx.capsuleWait.any (fun j => decide (j.part = p) && decide (j.ring = g))
    && ((heldOf s.nrx p g).isSome || (decide (slotsUsed s.nrx < 65536) && decide (ringSlots s.nrx p g < min (ringDepth r) 256)))
    && !accessWaits s.nrx p g .fetch && !accessWaits s.nrx p g .input

/-- A completion entry (R398, R400). A completion that is not SUCCESS has RESULT 0. -/
def completion (r : Ring) (j : RingCmd) (status : Nat) : Bytes :=
  le 2 j.cid ++ le 1 status ++ le 1 (1 - j.rseq / ringDepth r % 2) ++ le 4 j.rseq ++ fit 16 (if status = 0 then j.result else [])
    ++ le 2 ((j.rseq + 1) % ringDepth r) ++ zeros 6

/-- The vector is masked in its entry of the MSI-X table: bit 0 of Vector Control (log entry 88). -/
def vectorMasked (s : State) (p v : Nat) : Bool := (tabGet 0 s.nrx.msix (8192 * p + 4 * v + 3)).getLsbD 0

/-- The message of a vector after a completion: none within t_IRQGAP of its last one, which the next message then covers, and none
while the vector is masked, which leaves it pending (R396). -/
def vectorSend (p v : Nat) (s : State) : State × Option Nat :=
  if v = 0xffff then (s, none)
  else if vectorMasked s p v then (upNrx (fun n => { n with gaps := tabSet none n.gaps (2048 * p + v) (some true) }) s, none)
  else match tabGet none s.nrx.gaps (2048 * p + v) with
    | none => (upNrx (fun n => { n with gaps := tabSet none n.gaps (2048 * p + v) (some false) }) s, some v)
    | some _ => (upNrx (fun n => { n with gaps := tabSet none n.gaps (2048 * p + v) (some true) }) s, none)

/-- The header of a batch (R407). -/
def batchHeader (s : State) (b : Batch) : Bytes :=
  le 4 0x42515946 ++ le 2 1 ++ zeros 2 ++ fit 16 (devId s) ++ le 4 b.epoch ++ zeros 4 ++ le 8 b.no ++ le 4 b.leaves.length
    ++ zeros 4 ++ le 8 b.closeUs ++ fit 48 b.root ++ zeros 24

/-- The quote buffer of leaf m (R408). -/
def quoteBuffer (b : Batch) (m : Nat) (leaf header sig : Bytes) : Bytes :=
  let path := treePath 13 m (b.leaves.map (fun x => leafHash x.bytes))
  fit 8192 (fit 488 leaf ++ le 2 m ++ le 1 path.length ++ zeros 5 ++ fit 576 path.flatten ++ header ++ fit 4723 sig)

/-- The quotes of a signed batch can be completed: each gets its buffer. -/
def batchAnswer (b : Batch) (header sig : Bytes) (jobs : List RingCmd) : List RingCmd :=
  jobs.map (fun j => match (b.leaves.zipIdx).find? (fun x => quoteOf x.1 j) with
    | some (l, m) => { j with ready := true, out := [(j.addr, quoteBuffer b m l.bytes header sig)] }
    | none => j)

end Sys2Proof.Machine
end

