-- ==== Sys2Proof/Machine/Rings.lean ====
section
/-!
DEFINITION. The commands of the Norxel rings (chapter 12): doorbells, fetches, the effect of each opcode, completions,
batches, host-memory accesses, and the enable bit of the admin rings.
-/

namespace Sys2Proof.Machine

open Sys2Proof

/-- The host's access to the rings of a partition reaches the CSF and the ring contexts. -/
def hostRings (s : State) (p : Nat) (bound : Bool) : Bool := csfReach s p bound && (ringsRec s p).isSome && lakeIn s

/-- A RING_DESTROY of the ring has been journaled and has not had its effect: no later doorbell counts. -/
def destroyFirst (p g : Nat) (s : State) : State :=
  if s.nrx.jobs.any (fun j => decide (j.part = p) && decide (j.op = 0x71) && decide (j.handle = g) && !j.applied) then applyAll s else s

/-- What a doorbell of a submission ring does (R394, R395). -/
def sqDoorbellGo (p : BitVec 2) (g : BitVec 18) (value : BitVec 32) (bound : Bool) (s : State) : State :=
  if !hostRings s p.toNat bound then s
  else
    let s1 := destroyFirst p.toNat g.toNat s
    let r := ringOf s1 p.toNat g.toNat
    if r.st ≠ .active then s1
    else if ringDepth r ≤ value.toNat then ringError p.toNat g.toNat 2 s1
    else upRing p.toNat g.toNat (fun r => { r with tail := value.toNat }) s1

/-- What a doorbell of a completion queue does: the host has taken completions up to its new head (R394, R395, R400). -/
def cqDoorbellGo (p : BitVec 2) (g : BitVec 18) (value : BitVec 32) (bound : Bool) (s : State) : State :=
  if !hostRings s p.toNat bound then s
  else
    let r := ringOf s p.toNat g.toNat
    if r.st ≠ .active then s
    else if ringDepth r ≤ value.toNat then ringError p.toNat g.toNat 2 s
    else upRing p.toNat g.toNat (fun r => { r with cqHead := value.toNat, taken := r.taken + (value.toNat + ringDepth r - r.cqHead) % ringDepth r }) s

/-- A doorbell, which in a failover interruption waits for the Lake that holds the ring contexts (R256). -/
def doorbell (p : BitVec 2) (bound : Bool) (q : LakeReq) (go : State → State) (s : State) : Out :=
  when (hostRings s p.toNat bound) s
    (if s.lake.failover then done (upLake (fun l => { l with held := l.held ++ [q] }) s) else done (go s))

/-- DOORBELL_SQ (R394, R395). -/
def execDoorbellSq (p : BitVec 2) (g : BitVec 18) (value : BitVec 32) (bound : Bool) (s : State) : Out :=
  doorbell p bound (.sqDoorbell p g value bound) (sqDoorbellGo p g value bound) s

/-- DOORBELL_CQ (R394, R395, R400). -/
def execDoorbellCq (p : BitVec 2) (g : BitVec 18) (value : BitVec 32) (bound : Bool) (s : State) : Out :=
  doorbell p bound (.cqDoorbell p g value bound) (cqDoorbellGo p g value bound) s

/-- A SEAL takes a SEAL_NO, in reserved runs of 65,536 (R366, R409). -/
def takeSealNo (s : State) : State :=
  upNrx (fun n => { n with sealNo := n.sealNo + 1, sealEnd := max n.sealEnd (roundUp (n.sealNo + 1) 65536) }) s

/-- A command that passed its checks is journaled; CAPSULE_SUBMIT waits for its staging first (R413, R416). -/
def fetchGood (p g : Nat) (r : Ring) (f : Fetched) (s : State) : State :=
  let c := entCmd p g r f.entry f.buf
  let j := { c with handle := entHandle' s f.entry 0, extra := if c.op = 0x30 then sealNonce s else if c.op = 0x31 then (sealOpen s p r.tenant f.buf (blobPtLen f.buf)).getD [] else [] }
  if c.op = 0x75 then
    match f.cap with
    | some k => { (upNrx (fun n => { n with capsuleWait := n.capsuleWait ++ [{ c with extra := le 2 (capSlot k) ++ le 1 (capKind k) ++ le 4 (capLen k) }] }) s) with capsules := s.capsules ++ [⟨{ k with total := entPay f.entry 0 4 }, .ring p g c.rseq, 0⟩] }
    | none => s
  else if c.op = 0x30 then takeSealNo (journalCmdEntry j (entryBody s j r.tenant) s)
  else journalCmdEntry j (entryBody s j r.tenant) s

/-- A command is rejected with a status (R402). -/
def fetchBad (p g : Nat) (r : Ring) (f : Fetched) (status : Nat) (s : State) : State :=
  journalCmdEntry (rejected (entCmd p g r f.entry []) status) [] s

/-- A fetched command is dealt with: it waits no longer, and the read of its input buffer is over. -/
def fetchTaken (p g : Nat) (s : State) : State :=
  accessEnd p g .input (upNrx (fun n => { n with heldCmds := n.heldCmds.filter (fun h => !(decide (h.part = p) && decide (h.ring = g))) }) s)

/-- A fetched command that has to wait does so; one that waits already goes on waiting (R418). -/
def fetchHold (p g : Nat) (e : Bytes) (s : State) : Out :=
  if (heldOf s.nrx p g).isSome then notNow s else done (holdCmd p g e s)

/-- The entry of an ACTIVE ring, once every command before it has had its effect (R402, R404); s0 is the state the dispatcher
found. A quote waits for its batch to have room and for the Signature Engines, a seal for them too (R406, R467), and while an
accepted debug token waits, which holds new operations back (R155). -/
def fetchActive (p g : Nat) (rec' : RingsRec) (f : Fetched) (s0 s : State) : Out :=
  let r := ringOf s p g
  let op := entOp f.entry
  let st := checkEntry s p g r.tenant rec' f.entry
  if r.st ≠ .active then notNow s0
  else if s.nrx.jobs.any (fun j => !j.applied) || commandWaits s f.entry then fetchHold p g f.entry s0
  else if st ≠ 0 then done (fetchBad p g r f st (fetchTaken p g s))
  else if ([0x10, 0x11, 0x30, 0x31].contains op && !sigIn s) || (sealOp op && keysHeld s) || ((decide (op = 0x10) || decide (op = 0x11)) && decide (4096 ≤ s.nrx.batch.length)) then
    fetchHold p g f.entry s0
  else if inputOp op then
    if accessLost s.nrx p g .input then done (fetchBad p g r f 6 (fetchTaken p g s))
    else if !f.bufOk then done (accessFail p g .input (holdCmd p g f.entry s))
    else
      let s1 := fetchTaken p g s
      let u := unsealStatus s1 p r.tenant f.buf
      if op = 0x31 ∧ u ≠ 0 then done (fetchBad p g r f u s1)
      else if op = 0x75 ∧ f.cap = none then notNow s0
      else done (fetchGood p g r f s1)
  else done (fetchGood p g r f (fetchTaken p g s))

/-- A fetched entry: a DESTROYING ring aborts it (R412). -/
def fetchGo (p g : Nat) (rec' : RingsRec) (f : Fetched) (s : State) : Out :=
  let r := ringOf s p g
  if r.st = .destroying then
    if commandWaits s f.entry then fetchHold p g f.entry s else done (fetchBad p g r f 7 (fetchTaken p g s))
  else fetchActive p g rec' f s (applyAll s)

/-- A command that is carried out again is done, with a status (R420). -/
def againEnd (j : RingCmd) (status : Nat) (result : Bytes) (out : List (Nat × Bytes)) (s : State) : State :=
  debugGo (accessEnd j.part j.ring .input (upNrx (fun n => { n with
    jobs := n.jobs.map (fun k => if k = j then { j with again := false, ready := true, status := status, result := result, out := out } else k) }) s))

/-- A SEAL or UNSEAL is carried out again from its entry and the buffer that is read again (R420). Where that gives another outcome, its
completion says so: HOST_MEMORY_ERROR, SEAL_MISMATCH, or NOT_READY in a debug session (log entry 134). -/
def againGo (j : RingCmd) (bufOk : Bool) (buf : Bytes) (s : State) : Out :=
  if accessLost s.nrx j.part j.ring .input then done (againEnd j 6 [] [] s)
  else if s.otp.session.isSome then done (againEnd j 8 [] [] s)
  else if !sigIn s then notNow s
  else if !bufOk then done (accessFail j.part j.ring .input s)
  else if j.op = 0x30 then
    let r := jobEffect { j with buf := buf } s
    done (againEnd j 0 r.2.result r.2.out s)
  else match sealOpen s j.part j.tenant buf (blobPtLen buf) with
    | some pt => done (againEnd j 0 (le 4 pt.length) [(j.addr + 4096, pt)] s)
    | none => done (againEnd j 9 [] [] s)

/-- COMMAND_FETCH (R402, R404, R412, R416 to R419): the entry at the head is read, checked and journaled; `ok` false is a read
of the queue that ends in an error. On a ring with a command that waits, that command is taken up again and the queue is not read; on
one with a SEAL or UNSEAL to be carried out again, its buffer is read (R420). -/
def execCommandFetch (p : BitVec 2) (g : BitVec 18) (ok : Bool) (f : Fetched) (s : State) : Out :=
  match ringsRec s p.toNat with
  | none => notNow s
  | some rec' =>
    match (againOf s.nrx p.toNat g.toNat).filter (fun _ => againOk s p.toNat g.toNat) with
    | some j => againGo j f.bufOk f.buf s
    | none =>
    when (fetchOk s p.toNat g.toNat) s
      (match heldOf s.nrx p.toNat g.toNat with
       | some e => fetchGo p.toNat g.toNat rec' { f with entry := e } s
       | none =>
         if !ok then done (accessFail p.toNat g.toNat .fetch s)
         else fetchGo p.toNat g.toNat rec' f (accessEnd p.toNat g.toNat .fetch s))

/-- The oldest journaled command without its effect is one of these, and the engine it needs is in service (R467). -/
def opcodeTurn (s : State) (test : RingCmd → Bool) : Bool := nrxRuns s && (match s.nrx.jobs.find? (fun j => !j.applied) with
  | some j => test j && opEngines s j.op
  | none => false)

/-- The effect of an opcode, when its entry is the next in the journal (R404, R416); an accepted debug token that waited for it goes on
(R155). -/
def opcodeEffect (s : State) (test : RingCmd → Bool) : Out := when (opcodeTurn s test) s (done (debugGo (applyNext s)))

/-- LEDGER_EXTEND (R403). -/
def execLedgerExtend (s : State) : Out := opcodeEffect s (fun j => decide (j.op = 0x01))

/-- LEDGER_READ (R403). -/
def execLedgerRead (s : State) : Out := opcodeEffect s (fun j => decide (j.op = 0x02))

/-- QUOTE (R405): its leaf joins the open batch. -/
def execQuote (s : State) : Out := opcodeEffect s (fun j => decide (j.op = 0x10))

/-- QUOTE_PLATFORM (R405). -/
def execQuotePlatform (s : State) : Out := opcodeEffect s (fun j => decide (j.op = 0x11))

/-- COUNTER_INCREMENT (R403). -/
def execCounterIncrement (s : State) : Out := opcodeEffect s (fun j => decide (j.op = 0x20))

/-- COUNTER_READ (R403). -/
def execCounterRead (s : State) : Out := opcodeEffect s (fun j => decide (j.op = 0x21))

/-- SEAL (R409). -/
def execSeal (s : State) : Out := opcodeEffect s (fun j => decide (j.op = 0x30))

/-- UNSEAL (R410). -/
def execUnseal (s : State) : Out := opcodeEffect s (fun j => decide (j.op = 0x31))

/-- JOURNAL_NOTE (R401): the note is in the journal. -/
def execJournalNote (s : State) : Out := opcodeEffect s (fun j => decide (j.op = 0x40))

/-- RING_CREATE (R414). -/
def execRingCreate (s : State) : Out := opcodeEffect s (fun j => decide (j.op = 0x70))

/-- RING_DESTROY (R412). -/
def execRingDestroy (s : State) : Out := opcodeEffect s (fun j => decide (j.op = 0x71))

/-- QUOTA_SET (R393). -/
def execQuotaSet (s : State) : Out := opcodeEffect s (fun j => decide (j.op = 0x72))

/-- LEDGER_ALLOC (R391, R392). -/
def execLedgerAlloc (s : State) : Out := opcodeEffect s (fun j => decide (j.op = 0x73) && !j.arg.testBit 7)

/-- LEDGER_ALLOC with RELEASE (R401). -/
def execLedgerRelease (s : State) : Out := opcodeEffect s (fun j => decide (j.op = 0x73) && j.arg.testBit 7)

/-- COUNTER_ALLOC (R391, R392). -/
def execCounterAlloc (s : State) : Out := opcodeEffect s (fun j => decide (j.op = 0x74) && !j.arg.testBit 7)

/-- COUNTER_ALLOC with RELEASE (R392, R401). -/
def execCounterRelease (s : State) : Out := opcodeEffect s (fun j => decide (j.op = 0x74) && j.arg.testBit 7)

/-- CAPSULE_SUBMIT (R413, R416, R417): its capsule is staged or refused, and its entry is journaled with the REASON. -/
def execCapsuleSubmit (s : State) : Out :=
  match s.nrx.capsuleWait.find? (fun j => j.ready) with
  | none => notNow s
  | some j =>
    when (nrxRuns s && entryFits s && !stalled s) s
      (done (upNrx (fun n => { n with capsuleWait := n.capsuleWait.filter (fun w => decide (w ≠ j)) })
        (journalCmdEntry { j with applied := true } (j.extra.take 3 ++ fit 1 j.result ++ j.extra.drop 3) s)))

/-- A completion is written and its command is done with; the write of the ring's context with the new count can still be lost (R420, R421). -/
def completionWritten (p g : Nat) (j : RingCmd) (s : State) : State :=
  upNrx (fun n => { n with
      jobs := n.jobs.filter (fun k => decide (k ≠ j))
      unsaved := n.unsaved.filter (fun u => decide (u.1 = s.ev.ringCloses)) ++ [(s.ev.ringCloses, j)] })
    (upRing p g (fun r => { r with posted := r.posted + 1 }) s)

/-- COMPLETION_POST (R396, R398, R400, R408, R419): the oldest command of a ring is completed once the host has freed its slot;
`ok` and `outOk` false are a write of the completion, or of the command's buffer, that ends in an error. -/
def execCompletionPost (p : BitVec 2) (g : BitVec 18) (ok outOk : Bool) (s : State) : Out :=
  let P := p.toNat
  let G := g.toNat
  let r := ringOf s P G
  match s.nrx.jobs.find? (fun j => decide (j.part = P) && decide (j.ring = G) && !j.orphan) with
  | none => notNow s
  | some j =>
    when (nrxServes s P && (decide (r.st = .active) || decide (r.st = .destroying)) && j.applied && j.ready
        && decide (r.posted - r.taken < ringDepth r) && !accessWaits s.nrx P G .post && !accessWaits s.nrx P G .output) s
      (let lost := accessLost s.nrx P G .output
       if !j.out.isEmpty && !lost && !outOk then done (accessFail P G .output s)
       else if !ok then done (accessFail P G .post s)
       else
         let status := if lost then 6 else j.status
         let s1 := accessEnd P G .post (accessEnd P G .output s)
         let s2 := completionWritten P G j s1
         let m := vectorSend P r.vector s2
         let writes := (if lost then [] else j.out) ++ [(r.cqBase + 32 * (j.rseq % ringDepth r), completion r j status)]
         answer (.dma writes m.2) (ringDestroyed P G m.1))

/-- MSIX_GAP_END (R396): t_IRQGAP of a vector ends; completions written in it are covered by one message, which begins the next
gap. A vector that is pending while masked sends once it is not (log entry 88). -/
def execMsixGapEnd (p : BitVec 2) (v : BitVec 11) (s : State) : Out :=
  let k := 2048 * p.toNat + v.toNat
  match tabGet none s.nrx.gaps k with
  | none => notNow s
  | some true =>
    when (!vectorMasked s p.toNat v.toNat) s <| answer (.dma [] (some v.toNat)) (upNrx (fun n => { n with gaps := tabSet none n.gaps k (some false) }) s)
  | some false => done (upNrx (fun n => { n with gaps := tabSet none n.gaps k none }) s)

/-- BATCH_CLOSE (R406, R417): the open batch closes with its 0xF0 entry. -/
def execBatchClose (s : State) : Out :=
  when (nrxRuns s && entryFits s && dgaIn s && !s.nrx.batch.isEmpty) s (done (batchClose s))

/-- A quote of the batch has a completion that is to be written, or written again (R420). -/
def batchNeeded (n : Rings) (b : Batch) : Bool :=
  b.leaves.any (fun x => (n.jobs ++ n.unsaved.map (fun u => u.2)).any (quoteOf x))

/-- BATCH_SIGNED (R406 to R408): one of the batches under signature, one on each engine; its quotes can be completed. A debug
session withholds the Alias key (R155). -/
def execBatchSigned (second : Bool) (s : State) : Out :=
  match s.nrx.closing[b2n second]? with
  | none => notNow s
  | some b =>
    when (nrxRuns s && (!keysHeld s || (!s.otp.debugWait.isEmpty && s.otp.debugBatches.contains (b.epoch, b.no))) && aliasOk s && sigIn s && decide (b2n second < nSig s)) s
      (let h := batchHeader s b
       done (debugGo (upNrx (fun n => { n with closing := n.closing.filter (fun x => decide (x ≠ b)), signed := (n.signed ++ [b]).filter (batchNeeded n), jobs := batchAnswer b h (hybridSig s "FVX9-QUOTE" h) n.jobs }) (drawn s))))

/-- HOST_MEMORY_RETRY (R419): t_RRETRY ends and the access is issued again. -/
def execHostMemoryRetry (p : BitVec 2) (g : BitVec 18) (u : AccessUse) (s : State) : Out :=
  when (nrxRuns s && accessWaits s.nrx p.toNat g.toNat u) s
    (done (upNrx (fun n => { n with accesses := n.accesses.map (fun a => if decide (a.part = p.toNat) && decide (a.ring = g.toNat) && decide (a.use = u) then { a with waits := false } else a) }) s))

/-- An access of the ring may be under way: its queue is read or written, or the buffer of the command it deals with. -/
def accessUnderWay (s : State) (p g : Nat) (u : AccessUse) : Bool :=
  let r := ringOf s p g
  nrxRuns s && (decide (r.st = .active) || decide (r.st = .destroying)) && !accessWaits s.nrx p g u && !accessLost s.nrx p g u
    && (match u with
      | .fetch => fetchOk s p g && (heldOf s.nrx p g).isNone
      | .input => againOk s p g || (fetchOk s p g && (heldOf s.nrx p g).any (fun e => inputOp (entOp e)))
      | .post => s.nrx.jobs.any (fun j => decide (j.part = p) && decide (j.ring = g) && !j.orphan && j.ready)
      | .output => s.nrx.jobs.any (fun j => decide (j.part = p) && decide (j.ring = g) && !j.orphan && j.ready && !j.out.isEmpty))

/-- DMA_TIMEOUT (R419): an access meets t_DMATO, which is a failed issue. -/
def execDmaTimeout (p : BitVec 2) (g : BitVec 18) (u : AccessUse) (s : State) : Out :=
  when (accessUnderWay s p.toNat g.toNat u) s (done (accessFail p.toNat g.toNat u s))

/-- RING_WATCHDOG (R413, R419): an access sequence has not succeeded within t_RWDOG; the buffer of a CAPSULE_SUBMIT, the one
input an admin ring has, is not subject to it. -/
def execRingWatchdog (p : BitVec 2) (g : BitVec 18) (u : AccessUse) (s : State) : Out :=
  when ((accessOf s.nrx p.toNat g.toNat u).isSome && !accessLost s.nrx p.toNat g.toNat u
      && (decide (u ≠ .input) || !isAdmin s p.toNat g.toNat)) s
    (done (queueFails p.toNat g.toNat (accessEnd p.toNat g.toNat u s)))

/-! ### Admin rings -/

/-- The registers of admin ring a of a partition, and those changed. -/
def admOf (s : State) (p a : Nat) : AdmRegs := tabGet adm0 s.nrx.adm (4 * p + a)
def upAdm (p a : Nat) (f : AdmRegs → AdmRegs) (s : State) : State :=
  upNrx (fun n => { n with adm := tabSet adm0 n.adm (4 * p + a) (f (tabGet adm0 n.adm (4 * p + a))) }) s

/-- NRX_ADM_SEL of a partition. -/
def admSel (s : State) (p : Nat) : Nat := tabGet 0 s.nrx.admSel p

/-- VECTOR, POLL and DEPTH_LOG2 of a write of NRX_ADM_CTRL; VECTOR is ignored while ENABLE is 1. -/
def admFields (v : BitVec 32) (a : AdmRegs) : AdmRegs :=
  { a with vector := if a.enable then a.vector else fieldOf v 16 11, poll := v.getLsbD 12, depthLog2 := fieldOf v 8 4 }

/-- A write of those fields. POLL acts on a ring that exists; a ring keeps the depth it was created with (log entry 123). -/
def admWrite (p a : Nat) (v : BitVec 32) (s : State) : State :=
  let s1 := upAdm p a (admFields v) s
  let x := admOf s1 p a
  if (ringOf s p a).st = .absent ∨ x.enable = false then s1
  else upRing p a (fun r => { r with vector := if x.poll then 0xffff else x.vector }) s1

/-- An admin ring may be created (R411, R414): its depth is permitted, the TDI is not in ERROR, and it is ABSENT, or in ERROR with ENABLE
cleared before. -/
def admOk (s : State) (p a : Nat) (depthLog2 : Nat) : Bool :=
  decide (a < adminRings s p) && decide (4 ≤ depthLog2) && decide (depthLog2 ≤ 12)
    && (decide ((ringOf s p a).st = .absent) || decide ((ringOf s p a).st = .error)) && decide ((partOf s p).tdi ≠ .error)

/-- ADMIN_RING_ENABLE (R411, R414): a write of NRX_ADM_CTRL with ENABLE 1. -/
def execAdminRingEnable (p : BitVec 2) (value : BitVec 32) (bound : Bool) (s : State) : Out :=
  let P := p.toNat
  let a := admSel s P
  when (hostRings s P bound && value.getLsbD 0) s
    (if (admOf s P a).enable then done (admWrite P a value s)
     else
       let s1 := admWrite P a value s
       let x := admOf s1 P a
       if admOk s P a x.depthLog2 then
         done (ringCreate P a x.depthLog2 (x.sqLo.toNat + 2 ^ 32 * x.sqHi.toNat) (x.cqLo.toNat + 2 ^ 32 * x.cqHi.toNat) 0
           (if x.poll then 0xffff else x.vector) (upAdm P a (fun x => { x with enable := true }) (ringGone P a s1)))
       else done s1)

/-- ADMIN_RING_DISABLE (R411, R412): a write of NRX_ADM_CTRL with ENABLE 0 destroys the ring; with ENABLE 0 already it writes the
other fields. -/
def execAdminRingDisable (p : BitVec 2) (value : BitVec 32) (bound : Bool) (s : State) : Out :=
  let P := p.toNat
  let a := admSel s P
  when (hostRings s P bound && !value.getLsbD 0) s
    (if (admOf s P a).enable then done (ringDestroy P a none (upAdm P a (fun x => { x with enable := false }) (admWrite P a value s)))
     else done (admWrite P a value s))

end Sys2Proof.Machine
end

