-- ==== Sys2Proof/Machine/RegOps.lean ====
section
/-!
DEFINITION. What every register reads as (chapter 16 and the register tables of the other chapters): the identity block, CSF
BAR0, the management window and the internal space.
-/

namespace Sys2Proof.Machine

open Sys2Proof

/-- Word i of a number. -/
def numWord (n i : Nat) : Word := BitVec.ofNat 32 (n / 2 ^ (32 * i))

/-! ### The identity block -/

/-- Some slot holds a reserved pair (R109). -/
def verdictOdd (s : State) : Bool := s.mor.vslot.cells.any (fun c => decide (c.2 ≠ 0) && decide (c.2 ≠ passPair) && decide (c.2 ≠ failPair))

/-- MORDANT_STATE. -/
def mordantState (s : State) : Word :=
  packWord [(16, s.mor.floorCause), (15, b2n (verdictOdd s)), (14, b2n s.mor.lock), (13, b2n s.mor.vioRst.isSome), (12, b2n s.mor.aocB),
    (11, b2n s.mor.aocA), (10, b2n s.mor.aocSel), (5, s.mor.phase), (0, custStat s)]

/-- The identity block at an offset below 0x100, but for CSF_INFO (R503). -/
def identWord (s : State) (info : Word) (a : Nat) : Word :=
  match a with
  | 0x00 => idRev
  | 0x04 => caps s
  | 0x08 => mordantState s
  | 0x0c => capsExt s
  | 0x10 => info
  | 0x14 => BitVec.ofNat 32 s.ev.epoch
  | 0x18 => numWord s.ev.tripSeq 0
  | 0x1c => numWord s.ev.tripSeq 1
  | 0x20 | 0x24 | 0x28 | 0x2c => wordAt (devId s) ((a - 0x20) / 4)
  | _ => 0

/-! ### CSF BAR0 -/

/-- ARM_SRC, ARMED and COUNT of a partition. -/
def resWord (x : Part) (rest : Nat) (countAt : Nat) : Word :=
  packWord [(31, b2n (decide (x.armed ≠ 0))), (28, x.armed), (countAt, x.ranges.length), (0, rest)]

/-- CSF_RES_WIN_BASE and CSF_RES_WIN_LIMIT of the selected window. -/
def winWord (s : State) (p i : Nat) : Word :=
  match resistRec s p with
  | none => 0
  | some r => match (r.windows.take r.windowCount)[(partOf s p).winSel]? with
    | none => 0
    | some w => if i < 2 then numWord w.1 i else numWord w.2 (i - 2)

/-- STATE of NRX_ADM_CTRL. -/
def ringStateCode (r : Ring) : Nat := match r.st with
  | .absent => 0
  | .active => 1
  | .error => 2
  | .destroying => 3

/-- NRX_CAPS, NRX_LIM_LEDGERS and NRX_LIM_COUNTERS. -/
def nrxLimit (s : State) (p i : Nat) : Word := match ringsRec s p with
  | none => 0
  | some r => match i with
    | 0 => packWord [(31, r.stride), (27, r.maxDepthLog2), (24, r.adminRings), (0, r.maxRings)]
    | 1 => BitVec.ofNat 32 r.maxLedgers
    | _ => BitVec.ofNat 32 r.maxCounters

/-- NRX_STATUS. -/
def nrxStatus (s : State) : Word :=
  packWord [(4, b2n (decide (s.ev.brPhase = .signed))), (3, b2n s.otp.session.isSome), (2, b2n s.ev.isSealed), (1, b2n (stalled s)),
    (0, b2n (decide (65536 ≤ slotsUsed s.nrx)))]

/-- NRX_ADM_CTRL of the selected admin ring. -/
def admCtrl (s : State) (p : Nat) : Word :=
  let x := admOf s p (admSel s p)
  packWord [(30, ringStateCode (ringOf s p (admSel s p))), (16, x.vector), (12, b2n x.poll), (8, x.depthLog2), (0, b2n x.enable)]

/-- NRX_RING_STATE of the selected ring. -/
def ringStateWord (s : State) (p : Nat) : Word :=
  let g := tabGet 0 s.nrx.ringSel p
  let r := ringOf s p g
  packWord [(30, ringStateCode r), (26, r.depthLog2), (16, ringSlots s.nrx p g), (0, ringHead r)]

/-- A word of CSF BAR0 from 0x0200 to 0x0FFF (R506). -/
def readBar0 (s : State) (p a : Nat) : Word :=
  let x := partOf s p
  if 0x200 ≤ a ∧ a < 0x220 then x.recWords.getD ((a - 0x200) / 4) 0
  else if 0x230 ≤ a ∧ a < 0x240 then winWord s p ((a - 0x230) / 4)
  else if 0x240 ≤ a ∧ a < 0x270 then wordAt x.digest ((a - 0x240) / 4)
  else match a with
  | 0x224 => resWord x x.result 3 ||| (if csfPending x then 0x40000000 else 0)
  | 0x228 => match resistRec s p with
    | some r => packWord [(16, r.windowCount), (0, r.maxRanges)]
    | none => 0
  | 0x22c => BitVec.ofNat 32 x.winSel
  | 0x400 => nrxLimit s p 0
  | 0x404 => nrxLimit s p 1
  | 0x408 => nrxLimit s p 2
  | 0x40c => nrxStatus s
  | 0x410 => BitVec.ofNat 32 (admSel s p)
  | 0x414 => (admOf s p (admSel s p)).sqLo
  | 0x418 => (admOf s p (admSel s p)).sqHi
  | 0x41c => (admOf s p (admSel s p)).cqLo
  | 0x420 => (admOf s p (admSel s p)).cqHi
  | 0x424 => admCtrl s p
  | 0x430 => BitVec.ofNat 32 (tabGet 0 s.nrx.ringSel p)
  | 0x434 => ringStateWord s p
  | _ => 0

/-! ### The management window -/

/-- A port's mailbox has a message waiting or being processed. -/
def mbxBusy (s : State) (b : Bool) : Bool := s.mbxQueue.any (fun m => decide (m.port = b))

/-- A word of the sender's own mailbox (R509). -/
def readMailbox (s : State) (b : Bool) (a : Nat) : Word :=
  let m := mgtOf s b
  if 0x1020 ≤ a ∧ a < 0x1040 then (match s.otp.challenge with
    | some c => wordAt c ((a - 0x1020) / 4)
    | none => 0)
  else if 0x4000 ≤ a ∧ a < 0x7000 then BitVec.ofNat 32 (unle (memRead 0 m.data (a - 0x4000) 4))
  else match a with
  | 0x1000 => BitVec.ofNat 32 m.len
  | 0x1004 => packWord [(31, b2n (mbxBusy s b)), (8, m.kind % 256), (0, m.result)]
  | _ => 0

/-- A word of the management window (R502, R506, R508). -/
def readMgmt (s : State) (b : Bool) (p a : Nat) : Word :=
  if a < 0x100 then identWord s (BitVec.ofNat 32 (256 + p)) a
  else if 0x200 ≤ a ∧ a < 0x1000 then (if hasUpstream s p then readBar0 s p a else 0)
  else if 0x1000 ≤ a ∧ a < 0x7000 then readMailbox s b a
  else 0

/-! ### The internal space -/

/-- The word whose bit i is f i. -/
def bitWord (f : Nat → Bool) : Word := maskOf 32 ((List.range 32).filter f)

/-- TRIP_CAUSE.SRC_NOW; bit 11 is a pulse that no read of a settled state meets. -/
def srcNow (s : State) : Nat := b2n (decide (s.mor.tampLow ≠ 0)) + 2 * b2n s.mor.aocDis + 4 * b2n s.mor.brown

/-- The registers of the Mordant. -/
def readMordant (s : State) (a : Nat) : Word :=
  match a with
  | 0x00 => mordantState s
  | 0x04 => s.mor.strap.setWidth 32
  | 0x08 => BitVec.ofNat 32 (b2n s.mor.lock)
  | 0x10 => bitWord (fun d => decide (domSt s d = .released))
  | 0x14 => bitWord (fun d => decide (domSt s d = .tripHeld))
  | 0x18 => s.mor.relReq
  | 0x20 => bitWord (outLevel s)
  | 0x24 => bitWord (fun i => decide (i < 16) && outLevel s (32 + i))
  | 0x28 => bitWord (fun i => outLevel s (48 + i))
  | 0x2c => bitWord (fun j => underVat s j)
  | 0x30 => packWord [(8, srcNow s), (0, s.mor.tripSrc)]
  | 0x34 => numWord s.ev.tripSeq 0
  | 0x38 => numWord s.ev.tripSeq 1
  | 0x40 => packWord [(16, s.mor.selOut), (7, s.mor.selSlot), (0, s.mor.selDom)]
  | 0x44 => (domAttr s s.mor.selDom).setWidth 32
  | 0x48 => tabGet 0 s.mor.prereq s.mor.selDom
  | 0x4c => (tabGet 0 s.mor.outMap s.mor.selOut).setWidth 32
  | 0x50 => if s.mor.selSlot < 256 then (tabGet 0 s.mor.vslotMap s.mor.selSlot).setWidth 32
      else if s.mor.selSlot < 288 then (tabGet 0 s.mor.outMap (48 + (s.mor.selSlot - 256))).setWidth 32 else 0
  | 0x54 => pairOf s s.mor.selSlot
  | _ => 0

/-- The registers of the OTP controller. -/
def readOtpc (s : State) (a : Nat) : Word :=
  let o := s.otp
  match a with
  | 0x00 => packWord [(16, o.op), (0, o.addr)]
  | 0x04 => packWord [(5, b2n o.dropped), (4, b2n o.busy.isSome), (0, o.result)]
  | 0x08 => o.data
  | 0x0c => packWord [(16, o.alarm.firstWord), (0, o.alarm.flags.toNat)]
  | 0x10 => packWord [(2, b2n o.keyClosed), (1, b2n o.ownerFinal), (0, b2n o.lockVendor)]
  | 0x14 => packWord [(25, b2n o.rmaOk.isSome), (24, b2n o.closed), (16, o.compatVoted.toNat), (8, o.countLatched), (0, o.countBurned)]
  | 0x18 => BitVec.ofNat 32 o.ratchet
  | 0x1c => packWord [(5, b2n (o.feat.getLsbD 20)), (4, b2n o.session.isSome), (0, (o.session.getD 0).toNat)]
  | _ => 0

/-- STATE of CCH_STATUS and its VIO_CLASS. -/
def chanCode (c : ChanState) : Nat := match c with
  | .off => 0
  | .selftest => 1
  | .replay => 2
  | .ready => 3
  | .stopped => 4
  | .failed => 5
def vioCode (v : Option VioClass) : Nat := match v with
  | none => 0
  | some .v18 => 1
  | some .v25 => 2
  | some .v33 => 3

/-- The registers of a custody channel, and of the window on CCH_00. A read of CCH_QDONE is a command of its own. -/
def readChan (s : State) (k a : Nat) : Word :=
  let c := chanOf s k
  match a with
  | 0x00 => c.cfg
  | 0x04 => c.ops
  | 0x08 => c.geom
  | 0x0c => packWord [(16, c.fwq.length), (12, b2n c.dropped), (11, b2n (match s.grant with
      | some g => decide (g.channel = k)
      | none => false)), (10, b2n c.calOk), (8, vioCode c.vio), (0, chanCode c.st)]
  | 0x10 => packWord [(8, c.window), (0, c.tap)]
  | 0x34 => packWord [(31, b2n c.scrubLate), (30, b2n c.scrubActive), (0, c.scrubSkipped)]
  | 0x100 => if k = 0 then packWord [(1, b2n s.xip.prefetch), (0, b2n s.xip.lock)] else 0
  | 0x104 => if k = 0 then packWord [(16, s.xip.lenBlk), (0, s.xip.baseBlk)] else 0
  | 0x10c => if k = 0 then (match s.xip.failBlock with
      | some b => packWord [(31, 1), (0, b)]
      | none => 0) else 0
  | _ => 0

/-- PRS_DEV_0 and PRS_DEV_1. -/
def readEmDev (s : State) (port dev : Nat) : Word :=
  let e := emOf s (emKey port dev)
  let st := match e.st with
    | .off => 0
    | .loading => 1
    | .serving => 2
    | .failed => 3
  let pr := match e.proto with
    | .p1s => 0
    | .p8s => 1
    | .p8d => 2
  match s.run.policy, prsRec s port dev with
  | some p, some r => packWord [(19, r.channel), (18, r.srcDevice), (16, st), (14, pr), (13, b2n e.addr4), (12, b2n e.wel), (11, b2n e.pend.isSome), (0, hotLen p r / 4096)]
  | _, _ => 0

/-- A write waits at a step (R245). -/
def prsWaits (s : State) (port dev : Nat) (st : WriteStep) : Bool := match (emOf s (emKey port dev)).pend with
  | some w => decide (w.step = st)
  | none => false

/-- PRS_STATUS. -/
def prsStatus (s : State) (port : Nat) : Word :=
  let n := (portOf s port).journal.length
  packWord [(12, n), (11, b2n (prsWaits s port 0 .durable || prsWaits s port 1 .durable)), (10, b2n (decide (2048 ≤ n)))]

/-- LAKE_STATUS, LAKE_FAULT_NOW and LAKE_IMG. -/
def readLake (s : State) (a : Nat) : Word :=
  match a with
  | 0x00 => packWord [(8, s.lake.active.toNat), (4, s.lake.lost), (0, lakeModeCode s)]
  | 0x04 => packWord [(8, b2n s.lake.failover), (0, s.lake.failing.toNat)]
  | 0x08 => match s.run.policy with
    | some p => BitVec.ofNat 32 (ceilDiv (p.presents.map (prsSize p)).sum 1048576)
    | none => 0
  | _ => 0

/-- PAIR_0 and PAIR_1 of PA_STATUS: 0 until self-test has found the banks. -/
def pairCode (s : State) (i : Nat) : Nat := if !s.sc.mainGood || s.sc.selfTestDue then 0 else match (bitsOf (s.pa.bank.extractLsb' (2 * i) 2)).length with
  | 2 => 0
  | 1 => 1
  | _ => 2

/-- The registers of the PERSIST block. -/
def readPersist (s : State) (a : Nat) : Word :=
  let used := fixUsed s.ev
  match a with
  | 0x000 => packWord [(8, b2n s.pa.failover), (6, pairCode s 1), (4, pairCode s 0), (0, s.pa.bank.toNat)]
  | 0x100 => packWord [(15, b2n s.ev.isSealed), (14, b2n (archiving s)), (13, b2n (decide (384 ≤ used))), (12, b2n (decide (368 ≤ used))),
      (11, b2n (stalled s)), (10, b2n (decide (288 ≤ used))), (0, used)]
  | 0x104 => BitVec.ofNat 32 s.ev.epoch
  | 0x108 => numWord s.ev.lastIndex 0
  | 0x10c => numWord s.ev.lastIndex 1
  | 0x110 => packWord [(8, s.vault.cause), (0, match s.vault.state with
      | .inService => 1
      | .out => 2
      | .readOnly => 4)]
  | _ => 0

/-- GATE_LINK of a port (R286). -/
def gateLink (s : State) (port : Nat) : Word :=
  let l := linkOf s port
  packWord [(19, b2n l.ideSecure), (18, b2n l.flit), (17, b2n l.l0p), (16, b2n l.dllActive), (8, l.width), (0, l.rate)]

/-- GATE_EP_STATE of a port (R298). -/
def gateEpState (s : State) (port : Nat) : Word :=
  match epAt s port with
  | none => 0x10
  | some j =>
    let e := epOf s j
    packWord [(16, b2n e.causes.changed), (15, b2n e.causes.firmware), (14, b2n e.causes.trip), (13, b2n e.causes.link),
      (12, b2n e.causes.hotReset), (5, b2n (epBlocked e.st)), (4, b2n (sealSet e.st)), (0, epCode e.st)]

/-- A failover of a slice or plane is in progress. -/
def gateFailover (s : State) : Bool := decide (s.fab.slices &&& s.fab.sliceFail ≠ 0) || decide (s.fab.planes &&& s.fab.planeFail ≠ 0)

/-- The registers of the GATE block. -/
def readGate (s : State) (a : Nat) : Word :=
  let f := s.fab
  match a with
  | 0x000 => packWord [(24, f.planes.toNat), (0, f.slices.toNat)]
  | 0x004 => packWord [(31, b2n (gateFailover s)), (24, f.planeFail.toNat), (0, f.sliceFail.toNat)]
  | 0x010 => BitVec.ofNat 32 f.partSel
  | 0x014 => resWord (partOf s f.partSel) 0 0
  | 0x018 => BitVec.ofNat 32 (partOf s f.partSel).viol
  | 0x01c => bitWord (fun q => (tabGet none f.meds q).isSome)
  | 0x800 => BitVec.ofNat 32 f.portSel
  | 0x804 => gateLink s f.portSel
  | 0x808 => gateEpState s f.portSel
  | 0x814 => match epAt s f.portSel with
    | some j => (epOf s j).recheckPair
    | none => 0
  | _ => 0

/-- FAULT_NOW. The Policy Image names the channels of its CHANNELS section, and CCH_00 never (R164). -/
def faultNow (s : State) : Word :=
  let named := match s.run.policy with
    | some p => p.channels.map (fun (c : ChannelRec) => c.channel)
    | none => []
  let rail := s.dga.ctxs.cells.any (fun c => match c.2 with
      | some x => x.finished && (decide (x.cmp = 0) || decide (x.cmp = 3))
      | none => false) || s.sig0.railFault || s.sig1.railFault
  packWord [(14, b2n s.mor.aocDis), (13, b2n (!s.mor.vioRst.isSome)),
    (12, b2n (named.any (fun k => decide ((chanOf s k).st = .stopped) || decide ((chanOf s k).st = .failed)))), (11, b2n (!paUp s)),
    (10, b2n (decide (s.lake.mode = .out))), (8, b2n s.kld.rngFail), (7, b2n rail), (6, b2n (gateFailover s)), (5, b2n s.pa.failover),
    (4, b2n s.lake.failover), (3, b2n s.sig1.failover), (2, b2n s.sig0.failover), (1, b2n s.dga.failover), (0, b2n s.sc.switching)]

/-- The SIC and SC block. -/
def readSic (s : State) (a : Nat) : Word :=
  let word := fun (v : BitVec 512) (i : Nat) => v.extractLsb' (32 * i) 32
  if a < 0x40 then word s.sic.pend (a / 4)
  else if a < 0x80 then word s.sic.en (a / 4 % 16)
  else if a < 0xc0 then word sicEdge (a / 4 % 16)
  else match a with
  | 0x100 => bitWord (fun n => decide (n < 16) && decide (word (s.sic.pend &&& s.sic.en) n ≠ 0))
  | 0x200 => packWord [(2, b2n s.sc.active), (1, b2n s.sc.pairB), (0, b2n s.sc.pairA)]
  | 0x204 => BitVec.ofNat 32 (s.sc.sramLimit.getD 0)
  | 0x300 => faultNow s
  | 0x304 => packWord [(1, b2n s.sig1.inService), (0, b2n s.sig0.inService)]
  | _ => 0

/-- The watchdog block. -/
def readWdt (s : State) (a : Nat) : Word :=
  let w := s.wdt
  match a with
  | 0x00 => packWord [(4, match w.st with
      | .running => 0
      | .grace => 1
      | .disabled => 2), (2, w.graceStep), (1, b2n w.clkSel), (0, b2n (decide (w.st ≠ .disabled)))]
  | 0x04 => BitVec.ofNat 32 w.load
  | 0x08 => BitVec.ofNat 32 w.count
  | 0x14 => BitVec.ofNat 32 (b2n w.lock)
  | 0x18 => BitVec.ofNat 32 w.capCause
  | 0x20 => w.capPc.setWidth 32
  | 0x24 => w.capPc.extractLsb' 32 32
  | 0x28 => numWord w.capServe 0
  | 0x2c => numWord w.capServe 1
  | _ => 0

/-- The key ladder. A read of KLD_RAND is a command of its own. -/
def readKld (s : State) (a : Nat) : Word :=
  if 0x40 ≤ a ∧ a < 0x70 then (tabGet none s.kld.fwid ((a - 0x40) / 4)).getD 0
  else match a with
  | 0x00 => packWord [(5, b2n s.kld.rngFail), (4, b2n s.otp.session.isSome), (3, b2n s.kld.devidOff), (2, b2n (aliasOk s)), (1, b2n s.kld.lake.isSome), (0, b2n s.kld.cdi0.isSome)]
  | 0x04 => BitVec.ofNat 32 (s.kld.svn.getD 0)
  | _ => 0

/-- An access to the selected context ends in a bus error (R447, R466, DGA_SEL): the selector is a reserved one, the context is another
client's, or it was the core's and is lost. DGA_DATA, DGA_LAST, DGA_CTX_STATUS, DGA_EXPECT and DGA_DIGEST are such accesses. -/
def dgaRefuses (s : State) (a : Nat) : Bool :=
  ([0x0c, 0x14, 0x1c].contains a || (decide (0x40 ≤ a) && decide (a < 0xc0)))
    && (decide (192 ≤ s.dga.sel) || (tabGet none (dgaNow s).units s.dga.sel).isSome || s.dga.lost.contains s.dga.sel)

/-- DGA_CTX_STATUS of a CORE context, and of a free one. -/
def dgaCtxWord (s : State) (c : Nat) : Word :=
  match tabGet none s.dga.ctxs c with
  | some x => packWord [(29, 5), (24, x.alg), (16, if x.finished then 2 else 1), (8, x.cmp.toNat),
      (7, b2n (x.finished && (decide (x.cmp = 0) || decide (x.cmp = 3)))), (0, c / 8)]
  | none => BitVec.ofNat 32 (c / 8)

/-- The Digest Array. -/
def readDga (s : State) (a : Nat) : Word :=
  let d := s.dga
  if 0x80 ≤ a ∧ a < 0xc0 then (match tabGet none d.ctxs d.sel with
    | some x => if x.finished then wordAt (fit 64 x.digest) ((a - 0x80) / 4) else 0
    | none => 0)
  else match a with
  | 0x04 => packWord [(31, b2n d.pending), (30, b2n d.granted), (29, b2n d.refused), (0, d.openCtx)]
  | 0x08 => BitVec.ofNat 32 d.sel
  | 0x10 => BitVec.ofNat 32 d.lastCnt
  | 0x1c => dgaCtxWord s d.sel
  | 0x100 => d.engines.setWidth 32
  | _ => 0

/-- A Signature Engine. -/
def readSig (g : SigEng) (a : Nat) : Word :=
  match a with
  | 0x00 => packWord [(16, g.ctxId), (8, g.keySrc), (0, g.op)]
  | 0x04 => packWord [(31, b2n g.busy.isSome), (28, g.error), (2, b2n g.railFault), (0, g.result.toNat)]
  | 0x10 => g.msg
  | 0x14 => g.mlen
  | 0x18 => g.key
  | 0x1c => g.sig
  | 0x20 => g.out
  | _ => 0

/-- A word of SRAM at an address has an error that SEC-DED cannot correct (R429). -/
def sramWordBad (s : State) (a : Nat) : Bool := s.sc.sramBad.any (fun w => overlaps (0x10000000 + 8 * w) 8 a 4)

/-- A register of peripheral block n (R429, R512). -/
def readBlock (s : State) (n a : Nat) : Word :=
  if 9 ≤ n ∧ n ≤ 25 then readChan s (n - 9) a
  else if 26 ≤ n ∧ n ≤ 41 then (match a with
    | 0x00 => prsStatus s (n - 25)
    | 0x04 => readEmDev s (n - 25) 0
    | 0x08 => readEmDev s (n - 25) 1
    | _ => 0)
  else match n with
  | 0 => readSic s a
  | 1 => readWdt s a
  | 2 => if a = 0 then numWord s.aot 0 else if a = 4 then numWord s.aot 1 else 0
  | 3 => readOtpc s a
  | 4 => readKld s a
  | 5 => readDga s a
  | 6 => readSig s.sig0 a
  | 7 => readSig s.sig1 a
  | 8 => readMordant s a
  | 42 => readLake s a
  | 43 => readPersist s a
  | 44 => readGate s a
  | 46 => if a = 0x100 then packWord [(31, b2n s.temp.valid), (18, b2n (decide (2 < tempLevel s.temp))), (17, b2n (decide (1 < tempLevel s.temp))),
      (16, b2n (decide (0 < tempLevel s.temp))), (0, s.temp.reading.toNat)] else 0
  | _ => 0

/-- Byte k of a word. -/
def wordByte (w : Word) (k : Nat) : Byte := w.extractLsb' (8 * (k % 4)) 8

/-- A byte of the internal space outside the peripheral blocks, as a core or JTAG reads it (R429, R502): the identity block, ROM, SRAM, the
window's lines and working space; none is a bus error. The Mordant cannot be read while no oscillator toggles (R514). A line of the window that
is not filled is XIP_FETCH's. -/
def internalByte (s : State) (a : Nat) : Option Byte :=
  if a < 0x100 then
    (if [2, 6, 7].contains (a / 4) ∧ aocRuns s = false then none else some (wordByte (identWord s 0 (a / 4 * 4)) a))
  else if a < 0x80000 then some (wordByte (romWord (a / 4 * 4)) a)
  else if 0x10000000 ≤ a ∧ a < 0x10800000 then
    if s.sc.sramBad.contains ((a - 0x10000000) / 8) then none else some (tabGet 0 s.sc.sram (a - 0x10000000))
  else if 0x20000000 ≤ a ∧ a < 0x21000000 then
    (s.xip.lines.find? (fun l => decide (l.block = (a - 0x20000000) / 4096))).map (fun l => l.data.getD (a % 4096) 0)
  else if 0x80000000 ≤ a ∧ a < 0x80000000 + workSize then
    if lakeIn s then some (tabGet 0 s.sc.work (a - 0x80000000)) else none
  else none

/-- An access of the internal space that a peripheral block bars (R447, R501, R514): not 32 bits at a multiple of 4, in the Mordant while no
oscillator toggles, of a context that is not the core's. -/
def blockBars (s : State) (a len : Nat) : Bool :=
  let n := (a - 0x40000000) / 0x10000
  decide (a % 4 ≠ 0) || decide (len ≠ 4) || (decide (n = 8) && !aocRuns s) || (decide (n = 5) && dgaRefuses s (a % 0x10000))

/-- A read of `len` bytes of the internal space (R429, R501). -/
def readInternal (s : State) (a len : Nat) : Option Bytes :=
  if 0x40000000 ≤ a ∧ a < 0x402f0000 then
    if blockBars s a len then none else some (le 4 (readBlock s ((a - 0x40000000) / 0x10000) (a % 0x10000)).toNat)
  else (List.range len).mapM (fun i => internalByte s (a + i))

end Sys2Proof.Machine
end

