-- ==== Sys2Proof/Machine/Service.lean ====
section
/-!
DEFINITION. The Service Complex: core pairs, S events and firmware restart, bus errors, the SIC and the watchdog
(R422 to R444).
-/

namespace Sys2Proof.Machine

open Sys2Proof

/-- LOCKSTEP_MISMATCH (R424, R426): the active pair is fenced and removed and the switch to the spare begins; with no
spare, an S event, in the middle of a switch too. -/
def execLockstepMismatch (s : State) : Out :=
  when (pairRuns s) s
    (if s.sc.pairA && s.sc.pairB then
       done (upSc (fun c => { c with pairA := c.active, pairB := !c.active, active := !c.active, switching := true }) s)
     else done (sEvent s))

/-- SPARE_MISMATCH (R423): the spare is removed and nothing is interrupted. -/
def execSpareMismatch (s : State) : Out :=
  when (pairRuns s && s.sc.pairA && s.sc.pairB) s
    (done (upSc (fun c => { c with pairA := !c.active, pairB := c.active }) s))

/-- A write of SC_RESET. -/
def scReset (value : BitVec 32) (s : State) : Out :=
  if value = 0x53435253 then done (sEvent s) else done s

/-- SC_RESET_WRITE (R104): the key causes an S event; other values are ignored. -/
def execScResetWrite (value : BitVec 32) (s : State) : Out := when (coreRuns s) s (scReset value s)

/-- Records of ROM and firmware that an S event dropped, or that met firmware stopped, are submitted (R389, R437). -/
def resubmitAll (s : State) : State :=
  s.ev.resubmit.foldl (fun s w => if w.gate = .none then emit w.code w.src w.body s else upEv (fun e => { e with waiting := e.waiting ++ [w] }) s) (upEv (fun e => { e with resubmit := [] }) s)

/-- Escalations that firmware meets after its restart (R470). -/
def escalateAll (s : State) : State :=
  s.sc.escalations.foldl (fun s e => escalateNow 8 e.1 e.2.1 e.2.2 s) (upSc (fun c => { c with escalations := [] }) s)

/-- PAIR_SWITCH_DONE (R424): the spare's outputs are enabled and firmware goes on. -/
def execPairSwitchDone (s : State) : Out :=
  when s.sc.switching s
    (let r := medResume (lakeOutHold (escalateAll (resubmitAll (upSc (fun c => { c with switching := false }) s))))
     answer (resumedReply r.2) (tempAlert (settle r.1)))

/-- The headers of the signed batches that a completion still needs are signed again (R420). -/
def batchesAgain (n : Rings) : Rings :=
  let due := n.signed.filter (fun b => b.leaves.any (fun x => n.jobs.any (quoteOf x)))
  { n with
    closing := due ++ n.closing
    signed := []
    jobs := n.jobs.map (fun j => if due.any (fun b => b.leaves.any (fun x => quoteOf x j)) then { j with ready := false, out := [] } else j) }

/-- R420: journaled effects are applied, the batches signed before are signed again, and the leaves after the last closed batch close at
once; no ring is fetched from before its completions up to its journaled count are written. -/
def ringResume (s : State) : State :=
  let s1 := upNrx (fun n => batchesAgain { n with rings := ⟨n.rings.cells.map (fun c => (c.1, { c.2 with resumeTo := c.2.journaled }))⟩ }) (applyAll s)
  if s1.nrx.batch.isEmpty || !entryFits s1 || !dgaIn s1 then s1 else batchClose s1

/-- Where firmware restarts (R427): the first word of SRAM under write protection, or FW_ENTRY through the window. -/
def restartEntry (s : State) : Option Nat :=
  if s.sc.sramLimit.getD 0 ≠ 0 then some 0x10000000 else s.run.bundle.map (fun b => 0x20000000 + b.fwEntry)

/-- Firmware runs after a restart (R427): it had started, which is when ROM set MORDANT_CFG_LOCK.LOCK. Else ROM goes on where it was, in
FLOOR or before that step. -/
def restartsFirmware (s : State) : Bool := s.mor.lock && decide (s.mor.floorCause = 0)

/-- FIRMWARE_RESTART (R420, R426, R427): each pair in service has run its known-answer check, with result `okA` and `okB`;
firmware restarts on the pair that is left. -/
def execFirmwareRestart (okA okB : Bool) (s : State) : Out :=
  when (s.sc.mainGood && s.sc.restartDue && !s.sc.running) s
    (let a := s.sc.pairA && okA
     let b := s.sc.pairB && okB
     let s1 := upSc (fun c => { c with pairA := a, pairB := b, active := !a && b, restartDue := false, running := (a || b) && restartsFirmware s }) s
     if !(a || b) then done s1
     else if restartsFirmware s then
       let r := medResume (lakeOutHold (escalateAll (resubmitAll (ringResume s1))))
       answer (resumedReply r.2) (tempAlert (settle r.1))
     else done (romResume s1))

/-- A write of SC_SRAM_WP. -/
def sramWp (limit : BitVec 8) (s : State) : Out :=
  if s.sc.sramLimit.isNone && decide (limit.toNat ≤ 128) then
    done (upSc (fun c => { c with sramLimit := some limit.toNat }) s)
  else done s

/-- SRAM_WP_WRITE (R428): SC_SRAM_WP.LIMIT is written once; 129 to 255 are ignored. -/
def execSramWpWrite (limit : BitVec 8) (s : State) : Out := when (coreRuns s) s (sramWp limit s)

/-- BUS_TIMEOUT (R428, R430): a transaction without a response in t_BUSTO ends in a bus error. -/
def execBusTimeout (s : State) : Out := when (coreRuns s) s (busError s)

/-! ### The Service Interrupt Controller -/

/-- The blocks of the SIC's sources. -/
inductive SicBlock where
  | wdtTimer
  | mordant
  | otpcKld
  | dga
  | sig0
  | sig1
  | cch
  | prs
  | lake
  | persist
  | gate
  | cbus
  | mgt
deriving DecidableEq, Repr

/-- The block of a source (R433); 480 to 511 are reserved. -/
def sicBlock (n : Nat) : Option SicBlock :=
  ([(16, SicBlock.wdtTimer), (32, .mordant), (48, .otpcKld), (240, .dga), (248, .sig0), (256, .sig1), (273, .cch), (289, .prs), (296, .lake),
    (304, .persist), (432, .gate), (448, .cbus), (480, .mgt)].find? (fun r => decide (n < r.1))).map (fun r => r.2)

/-- The interrupt input of the active pair (R435). -/
def sicInt (s : State) : Bool := decide (s.sic.pend &&& s.sic.en ≠ 0)

/-- The bits of register nn of a 512-bit set, at their places. -/
def sicWord (nn : Nat) (v : BitVec 32) : BitVec 512 := (v.setWidth 512) <<< (32 * nn)

/-- A write of SIC_DONE_nn. -/
def sicDone (nn : BitVec 4) (value : BitVec 32) (s : State) : Out :=
  let m := sicWord nn.toNat value
  done (upSic (fun c => { c with pend := (c.pend &&& ~~~m) ||| (c.lines &&& m) }) s)

/-- SIC_DONE_WRITE (R434): pending bits written 1 clear; a level source that is asserted stays pending. -/
def execSicDoneWrite (nn : BitVec 4) (value : BitVec 32) (s : State) : Out := when (coreRuns s) s (sicDone nn value s)

/-- WAIT_FOR_INTERRUPT (R436): the SIC goes into retention while no enabled pending bit is set. -/
def execWaitForInterrupt (s : State) : Out :=
  when (coreRuns s && !sicInt s) s
    (done (upSic (fun c => { c with retention := true }) s))

/-- SIC_WAKE (R434, R436): an event of a source makes it pending and wakes a SIC in retention; `on` false is a level source
that deasserts. Which sources are edge sources, the hardware fixes. -/
def execSicWake (src : Nat) (on : Bool) (s : State) : Out :=
  when (s.sc.mainGood && decide (src < 480)) s
    (if on then
       done (upSic (fun c => { c with pend := putBit c.pend src true, lines := if sicEdge.getLsbD src then c.lines else putBit c.lines src true, retention := false }) s)
     else done (upSic (fun c => { c with lines := putBit c.lines src false }) s))

/-! ### The watchdog -/

/-- A write of WDT_SERVE. -/
def wdtServe (value : BitVec 32) (s : State) : Out :=
  if value = 0xa55a3cc3 then done (wdtServed s) else done s

/-- WDT_SERVE (R438): the key reloads the counter and records the serve time. Firmware that has trapped does not serve (R430), and a serve
that meets the counter at zero is late (R460). -/
def execWdtServe (value : BitVec 32) (s : State) : Out := when (coreRuns s && !(s.sc.fault && (s.sc.running || decide (s.mor.floorCause = 0)))) s (wdtServe value s)

/-- A write of WDT_KEY. -/
def wdtKey (value : BitVec 32) (inTime : Bool) (s : State) : Out :=
  done (upWdt (fun w =>
   if w.lock || decide (w.st = .grace) then { w with keyStep := false }
   else if value = 0x6e0f then { w with keyStep := true }
   else if decide (value = 0xf06e) && w.keyStep && inTime then { w with keyStep := false, st := .disabled }
   else { w with keyStep := false }) s)

/-- WDT_KEY_WRITE (R441, R460): the sequence of two writes; `inTime` says the write comes within 64 core cycles of the
first. -/
def execWdtKeyWrite (value : BitVec 32) (inTime : Bool) (s : State) : Out := when (coreRuns s) s (wdtKey value inTime s)

/-- A write of WDT_CTRL: EN enables a DISABLED watchdog and loads its counter (R444); GRACE and CLKSEL are written unless
locked, GRACE not on KXF9-F2601. -/
def wdtCtrlWrite (v : BitVec 32) (s : State) : State :=
  upWdt (fun w =>
    let w1 := if w.lock then w else { w with clkSel := v.getLsbD 1, graceStep := if variantCode s.otp.feat = 3 then w.graceStep else fieldOf v 2 2 }
    if v.getLsbD 0 && decide (w1.st = .disabled) then { w1 with st := .running, count := w1.load } else w1) s

/-- WDT_ENABLE_WRITE (R444): a write of WDT_CTRL with EN 1. -/
def execWdtEnableWrite (value : BitVec 32) (s : State) : Out :=
  when (coreRuns s && value.getLsbD 0) s (done (wdtCtrlWrite value s))

/-- The capture of R443. -/
def wdtCapture (cause : Nat) (pc : BitVec 64) (s : State) : State :=
  upWdt (fun w => { w with capCause := cause, capPc := pc, capServe := w.lastServe }) s

/-- The non-maskable interrupt of the active pair: the watchdog's, from the expiry to the end of GRACE (R435, R439). -/
def nmi (s : State) : Bool := decide (s.wdt.st = .grace)

/-- WDT_EXPIRY (R439): the counter reaches zero while the pair is at `pc`. The NMI reaches a pair that waits for an interrupt, and wakes it
(R435, R436, log entry 125). -/
def execWdtExpiry (pc : BitVec 64) (s : State) : Out :=
  when (pairRuns s && decide (s.wdt.st = .running) && decide (s.wdt.count = 0)) s
    (if variantCode s.otp.feat = 3 then done (sEvent (wdtCapture 2 pc s))
     else done (upSic (fun c => { c with retention := false }) (upWdt (fun w => { w with st := .grace, keyStep := false, hardFrom := s.aot }) (wdtCapture 1 pc s))))

/-- WDT_GRACE in units of TIMER_AOT: 32,000 × 2^GRACE AOC cycles (R439). -/
def wdtGrace (w : Wdt) : Nat := 1000 * 2 ^ w.graceStep

/-- WDT_HARD_TIMER_END (R439): WDT_GRACE after the expiry, the S event that ends GRACE. -/
def execWdtHardTimerEnd (s : State) : Out :=
  when (decide (s.wdt.st = .grace) && (s.mor.aocA || s.mor.aocB) && decide (wdtGrace s.wdt ≤ sinceAot s.aot s.wdt.hardFrom)) s (done (sEvent s))

/-- WDT_CLOCK_MONITOR (R442): the selected watchdog clock has stopped. -/
def execWdtClockMonitor (pc : BitVec 64) (s : State) : Out :=
  when (pairRuns s && (s.wdt.clkSel || !s.mor.aocA)) s (done (sEvent (wdtCapture 3 pc s)))

end Sys2Proof.Machine
end

