-- ==== Sys2Proof/Machine/Regs.lean ====
section
/-!
DEFINITION. The vendor register commands (R507 to R509) and the write of a register that has no command of its own (R9, R10,
R501, R502, and the register tables).
-/

namespace Sys2Proof.Machine

open Sys2Proof

/-! ### REG_READ and REG_WRITE -/

/-- The request body of REG_READ holds values R508 permits. -/
def regReadOk (part rsvd : Byte) (count : BitVec 16) (offset : BitVec 32) : Bool :=
  decide (part.toNat < 4) && decide (rsvd = 0) && decide (1 ≤ count.toNat) && decide (count.toNat ≤ 64) && decide (offset.toNat % 4 = 0)
    && decide (offset.toNat + 4 * count.toNat ≤ 0x10000)

/-- In FLOOR only ID_REV, CAPS and MORDANT_STATE can be read (R125, R508). -/
def regFloorOk (s : State) (count offset : Nat) : Bool := !floorService s || decide (offset + 4 * count ≤ 0x0c)

/-- REG_READ (R507, R508). -/
def execRegRead (b : Bool) (h : VendorHdr) (part rsvd : Byte) (count : BitVec 16) (offset : BitVec 32) (s : State) : Out :=
  when (mgtUp s b) s
    (if !hdrOk h || !regReadOk part rsvd count offset then vendorAnswer 0x10 b h 1 [] s
     else if !regFloorOk s count.toNat offset.toNat then vendorAnswer 0x10 b h 3 [] s
     else vendorAnswer 0x10 b h 0 (((List.range count.toNat).map (fun i => le 4 (readMgmt s b part.toNat (offset.toNat + 4 * i)).toNat)).flatten) s)

/-- The request body of REG_WRITE holds values R508 permits, and every word lies in the mailbox. -/
def regWriteOk (offset : BitVec 32) (count rsvd : BitVec 16) (words : List (BitVec 32)) : Bool :=
  decide (rsvd = 0) && decide (1 ≤ count.toNat) && decide (count.toNat ≤ 64) && decide (words.length = count.toNat)
    && decide (offset.toNat % 4 = 0) && decide (0x1000 ≤ offset.toNat) && decide (offset.toNat + 4 * count.toNat ≤ 0x7000)

/-- GO (R509, MBX_CTRL): ignored while BUSY; a LEN outside 8 to 12,288 is FORMAT at once. -/
def mbxGo (b : Bool) (s : State) : State :=
  let m := mgtOf s b
  if mbxBusy s b then s
  else if m.len < 8 ∨ 12288 < m.len then upMgt b (fun m => { m with result := 2 }) s
  else { s with mbxQueue := s.mbxQueue ++ [⟨b, memRead 0 m.data 0 m.len⟩] }

/-- A word written to a mailbox (R509). -/
def writeMailbox (b : Bool) (a : Nat) (w : BitVec 32) (s : State) : State :=
  if a = 0x1000 then
    let s1 := upMgt b (fun m => { m with len := fieldOf w 0 14 }) s
    if w.getLsbD 31 then mbxGo b s1 else s1
  else if 0x4000 ≤ a ∧ a < 0x7000 then upMgt b (fun m => { m with data := memWrite 0 m.data (a - 0x4000) (le 4 w.toNat) }) s
  else s

/-- REG_WRITE (R508, R509): in FLOOR there is no mailbox, and the answer is NOT_READY (log entry 27). -/
def execRegWrite (b : Bool) (h : VendorHdr) (offset : BitVec 32) (count rsvd : BitVec 16) (words : List (BitVec 32)) (s : State) : Out :=
  when (mgtUp s b) s
    (if !hdrOk h || !regWriteOk offset count rsvd words then vendorAnswer 0x11 b h 1 [] s
     else if floorService s then vendorAnswer 0x11 b h 3 [] s
     else vendorAnswer 0x11 b h 0 [] (words.zipIdx.foldl (fun s x => writeMailbox b (offset.toNat + 4 * x.2) x.1 s) s))

/-! ### CSF BARs -/

/-- A register of CSF BAR0 is written (R10, R506). DECLARE, ARM, ADMIN_RING_ENABLE and ADMIN_RING_DISABLE are commands of their
own; an OP of CSF_RES_CMD that is neither DECLARE nor ARM gives FIELD. -/
def writeBar0 (p a : Nat) (v : BitVec 32) (s : State) : State :=
  let k := admSel s p
  let adm := fun (f : AdmRegs → AdmRegs) => if (admOf s p k).enable then s else upAdm p k f s
  if 0x200 ≤ a ∧ a < 0x220 then upPart p (fun x => { x with recWords := x.recWords.set ((a - 0x200) / 4) v }) s
  else match a with
  | 0x220 => if (fieldOf v 0 2 = 0 ∨ fieldOf v 0 2 = 3) ∧ csfPending (partOf s p) = false then upPart p (fun x => { x with result := 5 }) s else s
  | 0x22c => upPart p (fun x => { x with winSel := fieldOf v 0 3 }) s
  | 0x410 => upNrx (fun n => { n with admSel := tabSet 0 n.admSel p (fieldOf v 0 2) }) s
  | 0x414 => adm (fun x => { x with sqLo := v &&& 0xfffff000 })
  | 0x418 => adm (fun x => { x with sqHi := v })
  | 0x41c => adm (fun x => { x with cqLo := v &&& 0xfffff000 })
  | 0x420 => adm (fun x => { x with cqHi := v })
  | 0x430 => upNrx (fun n => { n with ringSel := tabSet 0 n.ringSel p (fieldOf v 0 18) }) s
  | _ => s

/-- A host's write to a BAR of the CSF that is no command of its own (R395, R396, R501, R502): anything but four bytes at a
multiple of 4 is dropped. -/
def writeBar (n p a len : Nat) (v : BitVec 32) (s : State) : State :=
  if len ≠ 4 ∨ a % 4 ≠ 0 then s
  else if n = 0 then writeBar0 p a v s
  else if n = 4 ∧ a < 0x8000 then upNrx (fun r => { r with msix := tabSet 0 r.msix (8192 * p + a / 4) v }) s
  else s

/-- An 8-byte write of the MSI-X table, at a multiple of 8 (R501). -/
def writeMsix8 (p a : Nat) (low high : BitVec 32) (s : State) : State :=
  if a % 8 = 0 then writeBar 4 p (a + 4) 4 high (writeBar 4 p a 4 low s) else s

/-- A host's write to BAR2: the doorbells of ring g lie at g × STRIDE (R394, R501, R502). -/
def writeDoorbell (p : BitVec 2) (a len : Nat) (v : BitVec 32) (bound : Bool) (s : State) : Out :=
  let st := dbStride s p.toNat
  let g := BitVec.ofNat 18 (a / st)
  if len ≠ 4 ∨ a % 4 ≠ 0 ∨ barSize s p.toNat 2 ≤ a ∨ !hostRings s p.toNat bound then done s
  else if a % st = 0 then execDoorbellSq p g v bound s
  else if a % st = 4 then execDoorbellCq p g v bound s
  else done s

/-- The bytes a host reads from a BAR of the CSF; none for a read that breaks R501, which is Unsupported Request or, in BAR4, a
malformed TLP. BAR0 reads of 1 to 64 bytes stay inside 64 bytes, as those of BAR2, which give zeros (R395); those of BAR4 inside
4 KiB: the MSI-X table, the pending bits and the Boot Record window (R376, R396); reserved offsets read 0 (R502). -/
def csfRead (s : State) (n p a len : Nat) : Option Bytes :=
  let span := if n = 4 then 4096 else 64
  if len = 0 ∨ span < a % span + len then none
  else if n = 0 then some ((List.range len).map (fun i => (le 4 (readCsf0 s p ((a + i) / 4 * 4)).toNat).getD ((a + i) % 4) 0))
  else if n = 2 then some (zeros len)
  else some ((List.range len).map (fun i => bar4Byte s p (a + i)))
where
  /-- A word of BAR0: the identity block, then the registers of R506. -/
  readCsf0 (s : State) (p a : Nat) : Word := if a < 0x100 then identWord s (BitVec.ofNat 32 p) a else readBar0 s p a
  /-- A byte of BAR4. -/
  bar4Byte (s : State) (p a : Nat) : Byte :=
    if a < 0x8000 then (le 4 (tabGet 0 s.nrx.msix (8192 * p + a / 4)).toNat).getD (a % 4) 0
    else if a < 0x8100 then
      BitVec.ofNat 8 (((List.range 8).map (fun i => 2 ^ i * b2n (tabGet none s.nrx.gaps (2048 * p + (8 * (a - 0x8000) + i)) = some true))).sum)
    else if 0x10000 ≤ a ∧ a < 0x18000 then (if s.ev.brPhase = .signed then s.ev.br.getD (a - 0x10000) 0 else 0)
    else 0

/-! ### The internal space -/

/-- A write to the Mordant's registers: the configuration is open until LOCK is set (R101, R110). -/
def writeMordant (a : Nat) (v : BitVec 32) (s : State) : State :=
  let cfg := fun (f : Mordant → Mordant) => if s.mor.lock then s else upMor f s
  match a with
  | 0x08 => if v.getLsbD 0 then settle (upMor (fun m => { m with lock := true }) s) else s
  | 0x40 => upMor (fun m => { m with selOut := fieldOf v 16 7, selSlot := fieldOf v 7 9, selDom := fieldOf v 0 5 }) s
  | 0x44 => cfg (fun m => { m with attr := tabSet 0 m.attr m.selDom (v.setWidth 4) })
  | 0x48 => cfg (fun m => { m with prereq := tabSet 0 m.prereq m.selDom v })
  | 0x4c => cfg (fun m => if m.selOut < 80 then { m with outMap := tabSet 0 m.outMap m.selOut (v.setWidth 6) } else m)
  | 0x50 => cfg (fun m => if m.selSlot < 256 then { m with vslotMap := tabSet 0 m.vslotMap m.selSlot (v.setWidth 6) } else m)
  | _ => s

/-- A write to a custody channel's registers, and to those of the window on CCH_00 (R190, R211, R218, R220).
XIP_TBL_DATA past the last entry of the table goes on at entry 0 (log entry 89). -/
def writeChan (k a : Nat) (v : BitVec 32) (s : State) : State :=
  let cfg := fun (f : Channel → Channel) => if s.mor.lock || decide (k = 0) then s else upChan k f s
  let win := fun (f : Xip → Xip) => if s.xip.lock || decide (k ≠ 0) then s else upXip f s
  match a with
  | 0x00 => cfg (fun c => { c with cfg := v &&& 0x00ffffef })
  | 0x04 => cfg (fun c => { c with ops := v &&& 0x00ffffff })
  | 0x08 => cfg (fun c => { c with geom := v &&& 0x3f1f3f3f })
  | 0x20 => upChan k (fun c => { c with push0 := v }) s
  | 0x24 => upChan k (fun c => { c with push1 := v }) s
  | 0x28 => upChan k (fun c => { c with push2 := v }) s
  | 0x100 => if k = 0 then
      upKld (fun q => { q with devidOff := q.devidOff || v.getLsbD 0 }) (upXip (fun x => { x with prefetch := v.getLsbD 1, lock := x.lock || v.getLsbD 0 }) s)
    else s
  | 0x104 => win (fun x => { x with lenBlk := fieldOf v 16 13, baseBlk := fieldOf v 0 16 })
  | 0x108 => win (fun x => { x with table := memWrite 0 x.table (x.wptr % 196608) (le 4 v.toNat), wptr := x.wptr + 4 })
  | _ => s

/-- A write to the OTP controller's registers: OTPC_CMD without GO, or with GO and a reserved OP, which is REFUSED; OTPC_DATA;
LOCK_VENDOR (R131, R137). -/
def writeOtpc (a : Nat) (v : BitVec 32) (s : State) : State :=
  let op := fieldOf v 16 3
  match a with
  | 0x00 =>
    if v.getLsbD 31 then (if 4 ≤ op then otpRefuse op (fieldOf v 0 11) s else s)
    else upOtp (fun o => { o with op := op, addr := fieldOf v 0 11 }) s
  | 0x08 => upOtp (fun o => { o with data := v }) s
  | 0x10 => if v.getLsbD 0 then upOtp (fun o => { o with lockVendor := true }) s else s
  | _ => s

/-- A write to a Signature Engine's registers: SIG_CMD without GO, or with GO and a reserved OP, which gives ERROR OP. -/
def writeSig (e : Bool) (a : Nat) (v : BitVec 32) (s : State) : State :=
  let op := fieldOf v 0 8
  match a with
  | 0x00 =>
    if v.getLsbD 31 then
      if (op = 0 ∨ 11 < op) ∧ (sigOf s e).busy = none then
        upSig e (fun g => { g with op := op, ctxId := fieldOf v 16 8, keySrc := fieldOf v 8 8, error := 1, result := 0, railFault := false }) s
      else s
    else upSig e (fun g => { g with op := op, ctxId := fieldOf v 16 8, keySrc := fieldOf v 8 8 }) s
  | 0x10 => upSig e (fun g => { g with msg := v }) s
  | 0x14 => upSig e (fun g => { g with mlen := v }) s
  | 0x18 => upSig e (fun g => { g with key := v }) s
  | 0x1c => upSig e (fun g => { g with sig := v }) s
  | 0x20 => upSig e (fun g => { g with out := v }) s
  | _ => s

/-- A write to the remaining blocks that hold a writable register: SIC, WDT, DGA and GATE. -/
def writeSic (a : Nat) (v : BitVec 32) (s : State) : State :=
  if 0x40 ≤ a ∧ a < 0x80 then
    upSic (fun c => { c with en := (c.en &&& ~~~(sicWord (a / 4 % 16) 0xffffffff)) ||| sicWord (a / 4 % 16) v }) s
  else s
def writeWdt (a : Nat) (v : BitVec 32) (s : State) : State :=
  match a with
  | 0x00 => if v.getLsbD 0 then s else wdtCtrlWrite v s
  | 0x04 => if 256 ≤ v.toNat ∧ v.toNat ≤ 0x04000000 then upWdt (fun w => { w with load := v.toNat }) s else s
  | 0x14 => if v.getLsbD 0 then upWdt (fun w => { w with lock := true }) s else s
  | _ => s
def writeDga (a : Nat) (v : BitVec 32) (s : State) : State :=
  match a with
  | 0x08 => upDga (fun d => { d with sel := fieldOf v 0 8 }) s
  | 0x10 => if fieldOf v 0 3 ≤ 4 then upDga (fun d => { d with lastCnt := fieldOf v 0 3 }) s else s
  | _ => s
def writeGate (a : Nat) (v : BitVec 32) (s : State) : State :=
  match a with
  | 0x010 => upFab (fun f => { f with partSel := fieldOf v 0 2 }) s
  | 0x800 => upFab (fun f => { f with portSel := fieldOf v 0 5 }) s
  | _ => s

/-- A write to a register of peripheral block n (R429, R512). -/
def writeBlock (n a : Nat) (v : BitVec 32) (s : State) : State :=
  if 9 ≤ n ∧ n ≤ 25 then writeChan (n - 9) a v s
  else match n with
  | 0 => writeSic a v s
  | 1 => writeWdt a v s
  | 3 => writeOtpc a v s
  | 5 => writeDga a v s
  | 6 => writeSig false a v s
  | 7 => writeSig true a v s
  | 8 => writeMordant a v s
  | 44 => writeGate a v s
  | _ => s

end Sys2Proof.Machine
end

