-- ==== Sys2Proof/Machine/Gate.lean ====
section
/-!
DEFINITION. The commands of the gate datapath, Resist, IDE and TDISP (R296, R297, R309, R317 to R342).
-/

namespace Sys2Proof.Machine

open Sys2Proof

/-- ENDPOINT_TLP (R315, R317, R321, R336): a TLP for which its sender has credits enters at DOWNSTREAM port q. Its lookup gives a
pair of words from two copies of the match logic of a slice; bit i of `bad` says that the pair of slice i of the bay is invalid,
so that this slice is faulty and the lookup runs again in the next. Only the result of a valid pair lets the TLP pass. -/
def execEndpointTlp (q : Nat) (t : Tlp) (bad : BitVec 3) (s : State) : Out :=
  match epAt s q with
  | none => notNow s
  | some j =>
    when (decide (portRole s q = 2) && (epOf s j).link && tlpCredit s q t) s
      (let r := endpointTlp j q (portPart s q) t (each (bitsOf bad) (sliceFault (q / 4)) s)
       answer (.tlp r.2) r.1)

/-- A host's memory read of the CSF (R296, R297, R499 to R502): Unsupported Request where it is not let through, lies in no BAR or
breaks R501; in BAR4 one that is too long is a Malformed TLP, which the port it comes in at discards and reports. -/
def csfHostRead (p : Nat) (t : Tlp) (s : State) : State × Disposition :=
  if !csfReach s p t.bound then awayAt (upPort' s p) p t s
  else match barAt s p t.addr with
    | none => (s, .unsupported)
    | some x => match csfRead s x.1 p x.2 t.len with
      | some b => (s, .data b)
      | none => if x.1 = 4 ∧ t.len ≠ 0 then (aerReport (upPort' s p) 1 s, .dropped) else (s, .unsupported)

/-- HOST_TLP (R315, R319): a TLP for which the host has credits enters at the upstream port of partition p; configuration requests
are HOST_CONFIG_REQUEST, and a write of the CSF takes effect by REGISTER_WRITE and the commands of its registers. -/
def execHostTlp (p : Nat) (t : Tlp) (s : State) : Out :=
  when ((partOf s p).up && tlpCredit s (upPort' s p) t) s
    (let r := if t.kind = .memRead ∧ t.dest = .csf then csfHostRead p t s else hostTlp p t s
     answer (.tlp r.2) r.1)

/-- VAULT_DRIVE_REQUEST (R309, R315, R337, R340): a request of the drive to memory. One to the Vault buffers crosses a plane to the device,
which the pair of the port with itself stands for (log entry 119). Every one outside them is turned away and contains the port with cause
FIRMWARE, as a containment request does in each state of R298. -/
def execVaultDriveRequest (inside posted : Bool) (s : State) : Out :=
  match vaultEp s with
  | none => notNow s
  | some j =>
    let q := epPort s j
    let t := freeTlp s (if posted then .memWrite else .memRead) 4 .csf
    when ((epOf s j).link && tlpCredit s q t) s
      (let away : Disposition := if posted then .dropped else .unsupported
       if inside then
         if (epOf s j).st = .opened ∧ s.fab.planes ≠ 0 then
           let r := forwardTlp q q t (drawn s)
           answer (.tlp r.2) r.1
         else answer (.tlp away) s
       else answer (.tlp (if (epOf s j).st = .opened then .unsupported else away)) (settle (epFirmware j s)))

/-- IDE_STREAM_SECURE (R296, R297): the link IDE stream of the upstream port, or a selective stream to the CSF, reaches
Secure under programmed keys. -/
def execIdeStreamSecure (p : Nat) (selective : Bool) (s : State) : Out :=
  when ((partOf s p).up && (partOf s p).ideKeys) s
    (if selective then done (upPart p (fun x => { x with selSecure := true }) s)
     else done (upFab (fun g => { g with links := tabSet link0 g.links (upPort' s p) { tabGet link0 g.links (upPort' s p) with ideSecure := true } }) s))

/-- IDE_STREAM_LEAVE_SECURE (R296, R310): the same blocking applies again; endpoint states are unchanged. -/
def execIdeStreamLeaveSecure (p : Nat) (selective : Bool) (s : State) : Out :=
  if selective then when (partOf s p).selSecure s (done (upPart p (fun x => { x with selSecure := false }) s))
  else when (linkOf s (upPort' s p)).ideSecure s
    (done (upFab (fun g => { g with links := tabSet link0 g.links (upPort' s p) { tabGet link0 g.links (upPort' s p) with ideSecure := false } }) s))

/-- SPDM_SECURED_SESSION (R296): a host sets up a session with the responder of the CSF. It authenticates with the alias
certificates, so firmware runs, no debug session blanks the key ladder and a Signature Engine signs; its nonce and its ephemeral key wait
for the random source (R459, R467). -/
def execSpdmSecuredSession (p : Nat) (s : State) : Out :=
  when ((partOf s p).up && fwRuns s && s.kld.certs.isSome && !keysHeld s && sigIn s && !s.kld.rngFail) s
    (done (upPart p (fun x => { x with session := true }) s))

/-- IDE_KM_REQUEST (R296): IDE keys are programmed over the secured session. -/
def execIdeKmRequest (p : Nat) (s : State) : Out :=
  when ((partOf s p).up && (partOf s p).session) s (done (upPart p (fun x => { x with ideKeys := true }) s))

/-- TDISP_LOCK_INTERFACE (R297): accepted only while a selective stream to the CSF is in Secure; that stream is bound. -/
def execTdispLockInterface (p : Nat) (s : State) : Out :=
  let x := partOf s p
  when (x.up && x.session && x.selSecure && decide (x.tdi = .unlocked)) s
    (done (upPart p (fun x => { x with tdi := .locked, bound := true }) s))

/-- TDISP_START_INTERFACE (R297): the locked TDI goes to RUN. -/
def execTdispStartInterface (p : Nat) (s : State) : Out :=
  let x := partOf s p
  when (x.up && x.session && decide (x.tdi = .locked)) s (done (upPart p (fun x => { x with tdi := .run }) s))

/-- TDISP_STOP_INTERFACE (R414): the TDI is unlocked, out of ERROR too. -/
def execTdispStopInterface (p : Nat) (s : State) : Out :=
  let x := partOf s p
  when (x.up && x.session && decide (x.tdi ≠ .unlocked)) s
    (done (upPart p (fun x => { x with tdi := .unlocked, bound := false }) s))

/-- TDI_ERROR (R297, R414): the TDI goes to ERROR and every ring of the partition that is not ABSENT with it, under one 0x0301
with CAUSE 0x03. -/
def execTdiError (p : Nat) (s : State) : Out :=
  when ((partOf s p).up && decide ((partOf s p).tdi ≠ .error)) s
    (let s1 := upPart p (fun x => { x with tdi := .error }) s
     let l := (partRings s1 p).map (fun c => c.1 % 262144)
     done (if l = [] then s1 else ringErrorRecord p 3 0xffffffff (each l (ringFail p) s1)))

/-- DECLARE (R323, and the KEY of CSF_RES_CMD): ignored while PENDING; an accepted range waits for its digest. -/
def execDeclare (p : Nat) (key : BitVec 16) (bound : Bool) (s : State) : Out :=
  when (csfReach s p bound) s
    (if csfPending (partOf s p) then done s
     else
       let c := if key ≠ 0 then 5 else declareCheck s p
       if c = 1 then done (dgaServe (upPart p (fun x => { x with pendDeclare := some (recRange x.recWords) }) s))
       else done (upPart p (fun x => { x with result := c }) s))

/-- DECLARE_RESULT (R323, R324): the range enters the table, the digest is extended, RESULT is ACCEPTED. It waits
for the gate's DGA context; an arming that came between makes the result ARMED. -/
def execDeclareResult (p : Nat) (s : State) : Out :=
  match (partOf s p).pendDeclare with
  | none => notNow s
  | some g =>
    when (dgaHas s (.declare p)) s
      (if (partOf s p).armed ≠ 0 ∨ (partOf s p).pendArm.isSome then
         done (upPart p (fun x => { x with pendDeclare := none, result := 2 }) s)
       else done (upPart p (fun x => { x with pendDeclare := none, result := 1, ranges := x.ranges ++ [g], digest := sha384 (x.digest ++ rangeBytes g) }) s))

/-- ARM (R325, R326). One that comes while a deadline arming waits joins that: the model's choice (log entry 148). -/
def execArm (p : Nat) (key : BitVec 16) (bound : Bool) (s : State) : Out :=
  when (csfReach s p bound) s
    (let x := partOf s p
     if csfPending x then done s
     else if key ≠ 0xa4e5 then done (upPart p (fun x => { x with result := 5 }) s)
     else if x.armed ≠ 0 then done (upPart p (fun x => { x with result := 2 }) s)
     else
       let s1 := upPart p (fun x => { x with armCmd := true }) s
       done (if x.pendArm.isSome then s1 else armBegin p 1 s1))

/-- ARM_DEADLINE (R325, R326): ARM_DEADLINE_MS after upstream L0; RESULT is unchanged. -/
def execArmDeadline (p : Nat) (s : State) : Out :=
  let x := partOf s p
  when (x.up && x.deadlineRuns && decide (x.armed = 0) && x.pendArm.isNone) s (done (armBegin p 2 s))

/-- RESIST_ARM_EFFECT (R325, R326): the table is in effect in every slice at once. -/
def execResistArmEffect (p : Nat) (s : State) : Out :=
  match (partOf s p).pendArm with
  | some (src, true) =>
    done (upPart p (fun x => { x with armed := src, pendArm := none, deadlineRuns := false, result := if x.armCmd then 6 else x.result, armCmd := false }) s)
  | _ => notNow s

/-- VIOL_WINDOW_END (R331). -/
def execViolWindowEnd (p : Nat) (s : State) : Out :=
  when (s.run.policy.bind (fun q => polUpstream q p)).isSome s
    (done (upPart p (fun x => { x with viol := 0, escalated := false }) s))

/-- SLICE_CHECK (R336, R340, R462): the known-answer check of slice i of BAY_b. -/
def execSliceCheck (b i : Nat) (ok : Bool) (s : State) : Out :=
  when ((slicesGood s.fab b).contains i) s (done (if ok then s else sliceFault b i s))

/-- SLICE_FAILOVER_DONE (R336): the spare of BAY_b has taken the place of its failing slice, which is removed. -/
def execSliceFailoverDone (b : Nat) (s : State) : Out :=
  let l := [0, 1, 2].filter (fun i => s.fab.slices.getLsbD (3 * b + i) && s.fab.sliceFail.getLsbD (3 * b + i))
  when (decide (l ≠ [])) s
    (done (upFab (fun f => { f with slices := l.foldl (fun w i => putBit w (3 * b + i) false) f.slices }) s))

/-- PLANE_FAULT (R338, R340, R462): plane n fails. `more` lists, for pairs pinned to it, how many further TLPs the egress had
delivered without the ingress learning of it. A failing active plane is replaced; without another plane every TLP it held
ends, in the way log entry 151 says. -/
def execPlaneFault (n : Nat) (more : List (Nat × Nat × Nat)) (s : State) : Out :=
  let g := planesGood s.fab
  when (g.contains n) s
    (let s1 := upFab (fun f => more.foldl (fun f m =>
        let l := (f.heldTlps.filter (fun t => decide (t.ingress = m.1) && decide (t.egress = m.2.1)
          && decide (tabGet 0 f.pinned (pairKey m.1 m.2.1) = n + 1) && !fsnDelivered f t)).take m.2.2
        { deliver l f with heldTlps := f.heldTlps }) { f with planeFail := putBit f.planeFail n true }) s
     if g.length = 1 then
       done (each ((s1.fab.heldTlps.filter (fun t => heldFails s1.fab t && tlpPosted t.tlp.kind)).map (fun t => t.egress)) (fun q => aerReport q 1)
         (upFab (fun f => { endTlps (heldFails f) f with planes := 0 }) s1))
     else if (g.take 2).contains n then done s1
     else done (upFab (fun f => { f with planes := putBit f.planes n false }) s1))

/-- PLANE_FAILOVER_DONE (R338): the pairs of the failing plane move to the plane that takes its place, and the TLPs not yet
reported are dispatched again in FSN order; the egress discards those it had. -/
def execPlaneFailoverDone (s : State) : Out :=
  let bad := (bitsOf s.fab.planes).filter (fun n => s.fab.planeFail.getLsbD n)
  let tk := ((planesGood s.fab).take 2).getLastD 0
  when (decide (bad ≠ [])) s
    (done (upFab (fun f =>
      { deliver (f.heldTlps.filter (heldFails f)) f with planes := bad.foldl (fun w n => putBit w n false) f.planes, pinned := ⟨f.pinned.cells.map (fun c => (c.1, if bad.contains (c.2 - 1) then tk + 1 else c.2))⟩ }) s))

end Sys2Proof.Machine
end

