-- ==== Sys2Proof/Machine/Jtag.lean ====
section
/-!
DEFINITION. JTAG: the boundary scan, the tests of a part that is not Closed, and what the scopes of a debug session open (R18, R151 to
R155).
-/

namespace Sys2Proof.Machine

open Sys2Proof

/-- A scope of the debug session is granted (R153, R155). -/
def scopeOpen (s : State) (b : Nat) : Bool := s.sc.mainGood && (match s.otp.session with
  | some sc => sc.getLsbD b
  | none => false)

/-- A read of the internal space through the debug port (R153, R499, R512): KLD_RAND and CCH_QDONE read as they do for a core, the others have
no effect. -/
def debugRead (a len : Nat) (s : State) : Out :=
  if a = 0x40040080 ∧ len = 4 then (if s.kld.rngFail then answer .busError s else answer (.word (nextFreeWord s)) (drawn s))
  else if 0x40090000 ≤ a ∧ a < 0x401a0000 ∧ a % 0x10000 = 0x30 ∧ len = 4 then qdoneRead (a / 0x10000 - 0x4009) s
  else match readInternal s a len with
    | some b => answer (.bytes b) s
    | none => answer .busError s

/-- A byte of SRAM or of the Lake as a debug session reads it (R153). -/
def debugByte (s : State) (a : Nat) : Byte :=
  if a < 0x80000000 then tabGet 0 s.sc.sram (a - 0x10000000) else tabGet 0 s.sc.work (a - 0x80000000)

/-- JTAG_INSTRUCTION (R18, R151 to R155): the life-cycle state opens the memory test instructions and the OTP test mode; in Closed
they are unreachable. A mandatory instruction sets what the boundary-scan cells of the custody outputs drive low, and every other
one ends that. An operation of the OTP test mode while the OTPC is BUSY is dropped (R137, log entry 132). The 'Lake read' of SCOPE bit 1 reaches the working space, the only part of the Lake that R429 gives an address (log entry
103). The manual gives no value of IDCODE or of the trace and no effect of a memory test on the contents (log entry 26). -/
def execJtagInstruction (i : JtagOp) (s0 : State) : Out :=
  let s := upMor (fun m => { m with bscan := 0 }) s0
  when (s0.mor.vsec && s0.mor.latched) s0
    (match i with
     | .mandatory d => done (upMor (fun m => { m with bscan := d }) s0)
     | .idcode => answer (.word (nextFreeWord s)) (drawn s)
     | .challenge => when (s.sc.mainGood && !s.kld.rngFail) s (answer (.bytes (nextFree s 32)) (newChallenge s))
     | .memoryTest => if s.otp.closed then notNow s else done s
     | .otpRead a =>
       if s.otp.closed ∨ 2048 ≤ a then notNow s
       else if s.otp.busy.isSome then done (otpDropped s)
       else if 544 ≤ a ∧ a < 1024 then answer (.result (otpResultCode (otpReadRaw s.otp a).1)) s
       else answer (.bytes (le 4 (otpData s.otp a).toNat ++ le 1 (otpResultCode (otpReadRaw s.otp a).1))) s
     | .halt on => when (scopeOpen s 0 && s.sc.running) s
         (let s1 := upSc (fun c => { c with halted := on }) s
          if s.sc.halted && fwRuns s1 then
            let r := medResume s1
            answer (resumedReply r.2) (tempAlert (settle r.1))
          else done s1)
     | .step => when (scopeOpen s 0 && s.sc.halted) s (done s)
     | .memRead a =>
       when (scopeOpen s 1 && (inSram a 4 || (decide (0x80000000 ≤ a) && decide (a + 4 ≤ 0x80000000 + 1408 * 1048576) && lakeUp s))) s
         (if sramWordBad s a then answer .busError s
          else answer (.word (BitVec.ofNat 32 (unle ((List.range 4).map (fun i => debugByte s (a + i)))))) s)
     | .regRead a len => when (scopeOpen s 2 && !(decide (0x80000000 ≤ a) && s.lake.failover)) s (debugRead a len s)
     | .trace => when (scopeOpen s 3) s (answer (.word (nextFreeWord s)) (drawn s))
     | .otpProgram a data weakLo weakHi =>
       if s.otp.closed then notNow s
       else if s.otp.busy.isSome then done (otpDropped s)
       else if a < 1024 ∧ otpProgramPermitted s.otp s.mor.lock a ∧ otpBlank (otpWord s.otp a) then
         answer (.result 0) (upOtp (fun o => otpBurn o a (hamEncode data) weakLo weakHi) s)
       else answer (.result 4) s)

end Sys2Proof.Machine
end

