-- ==== Sys2Proof/Machine/Lake.lean ====
section
/-!
DEFINITION. Failures of the Image Lake (R254 to R256).
-/

namespace Sys2Proof.Machine

open Sys2Proof

/-- A held request ends in error (R254): a stream whose write it was fails (R262), a scrub frame compares with nothing. -/
def lakeReqFail (q : LakeReq) (s : State) : State :=
  match q with
  | .image k _ _ _ => streamFail k s
  | .scrub k f _ => scrubResult k f [] s
  | _ => s

/-- The Lake is OUT (R254): requests end in error, those held too, and domains with images become final holds. A core's write that
ends in error is a trap (R430). -/
def lakeOut (s : State) : State :=
  let trap := s.lake.held.any (fun q => match q with
    | .work _ _ => true
    | _ => false)
  let s := s.lake.held.foldl (fun s q => lakeReqFail q s) s
  settle (lakeOutHold (upLake (fun l => { l with mode := .out, failover := false, failing := 0, held := [] })
    (if trap then upSc (fun c => { c with fault := true }) s else s)))

/-- Channel n is removed (R254): failover to PARITY begins, or the Lake is OUT with a second one lost. -/
def lakeRemove (n : Nat) (s : State) : State :=
  let s1 := upLake (fun l => { l with active := putBit l.active n false, lost := n, failing := putBit l.failing n true }) s
  if decide (s.lake.mode = .normal) && !s.lake.failover then upLake (fun l => { l with failover := true }) s1 else lakeOut s1

/-- LAKE_INTEGRITY_FAIL: a line of channel n does not match its MAC (R254). `reread` says the second read matches; otherwise
the line is rebuilt from its stripe, which needs the seven others, and `rebuilt` says that one verifies. A channel that
needs a rebuild on two lines within 1 s is removed: two rebuilds of the channel within 1 s are counted so, whichever lines they are of
(log entry 113). -/
def execLakeIntegrityFail (n : BitVec 3) (reread rebuilt : Bool) (s : State) : Out :=
  when (lakeIn s && s.lake.active.getLsbD n.toNat) s
    (if reread then done s
     else if !rebuilt || decide (s.lake.mode = .parity) || s.lake.failover then done (lakeOut s)
     else
       let s1 := upLake (fun l => { l with rebuilt := tabSet none l.rebuilt n.toNat (some s.aot) }) s
       match tabGet none s.lake.rebuilt n.toNat with
       | some t => if sinceAot s.aot t ≤ 1000000 then done (lakeRemove n.toNat s1) else done s1
       | none => done s1)

/-- LAKE_CHANNEL_FAULT: channel n fails its link check (R254). -/
def execLakeChannelFault (n : BitVec 3) (s : State) : Out :=
  when (lakeIn s && s.lake.active.getLsbD n.toNat) s (done (lakeRemove n.toNat s))

/-- A request that was held completes (R256). -/
def lakeReqGo (q : LakeReq) (s : State) : State :=
  match q with
  | .work a v => workWrite a v s
  | .sqDoorbell p g v b => sqDoorbellGo p g v b s
  | .cqDoorbell p g v b => cqDoorbellGo p g v b s
  | .image k base n cells => imageWriteGo k base n cells s
  | .scrub k f data => scrubResult k f (scrubDiffer s k f data) s

/-- LAKE_FAILOVER_DONE: service goes on in PARITY; held requests complete in their order of issue (R256). -/
def execLakeFailoverDone (s : State) : Out :=
  when s.lake.failover s
    (done (s.lake.held.foldl (fun s q => lakeReqGo q s)
      (upLake (fun l => { l with failover := false, mode := .parity, failing := 0, held := [] }) s)))

end Sys2Proof.Machine
end

