-- ==== Sys2Proof/Machine/Links.lean ====
section
/-!
DEFINITION. Links, endpoint readiness, attestation and re-checks, and containment requests (R286 to R310).
-/

namespace Sys2Proof.Machine

open Sys2Proof

/-- LINK_UP (R286 to R289): a port that may train reaches L0 with what was negotiated. -/
def execLinkUp (port rate width : Nat) (flit l0p : Bool) (s : State) : Out :=
  match portRec s port with
  | none => notNow s
  | some r =>
    when (portTrains s port && linkFits r rate width flit l0p && decide ((linkOf s port).rate = 0)) s
      (let s1 := upFab (fun g => { g with links := tabSet link0 g.links port ⟨rate, width, flit, l0p, true, false⟩ }) s
       if r.role = 1 then done (partUp s1 r.part)
       else match epAt s port with
         | some j => done (settle (epUp j s1))
         | none => done s1)

/-- LINK_DOWN (R298, R308, R310): a downstream link leaves L0 with no hot reset; OPEN and RECHECK are contained with cause
LINK, and the seal of the others is untouched. -/
def execLinkDown (port : Nat) (s : State) : Out :=
  match epAt s port with
  | none => notNow s
  | some j =>
    when (epOf s j).link s
      (let s1 := upEp j (fun e => { e with link := false, epWait := false, relink := e.relink || decide (e.st = .contained) }) (linkDrop port s)
       if (epOf s j).st = .opened ∨ (epOf s j).st = .recheck then
         done (settle (epContain (fun c => { c with link := true }) j s1))
       else done s1)

/-- ENDPOINT_LINK_TIMEOUT (R298, R302): t_EPLINK expires in VAT. Time runs on the AOCs, so with both stopped no limit of R302
expires (R514). -/
def execEndpointLinkTimeout (j : Nat) (s : State) : Out :=
  let e := epOf s j
  when (decide (e.st = .vat) && !e.link && !e.configuring && !e.releaseDue && s.run.microcode && aocRuns s) s (done (settle (epFail 1 [] j s)))

/-- ENDPOINT_READY_WAIT_END (R302, R306): t_EPWAIT has passed since L0. -/
def execEndpointReadyWaitEnd (j : Nat) (s : State) : Out :=
  when ((epOf s j).epWait && (epOf s j).link) s (done (epWaitEnd j s))

/-- DEVICE_READINESS_STATUS (R302): the message shortens t_EPWAIT to 0. -/
def execDeviceReadinessStatus (j : Nat) (s : State) : Out :=
  when ((epOf s j).epWait && (epOf s j).link) s (done (epWaitEnd j s))

/-- CONFIG_RETRY (R302): the endpoint answered RRS; the request is sent again. -/
def execConfigRetry (j : Nat) (s : State) : Out :=
  let e := epOf s j
  when (decide (e.st = .vat) && e.configuring && e.link) s (done s)

/-- ENDPOINT_CONFIG_SUCCESS (R298, R303): VAT goes to ATTESTING and TIMEOUT_MS starts. `mailbox` is whether DOE discovery
reports a mailbox of function 0 for SPDM; an endpoint without one fails. -/
def execEndpointConfigSuccess (j : Nat) (mailbox : Bool) (s : State) : Out :=
  let e := epOf s j
  when (decide (e.st = .vat) && e.configuring && e.link && aocRuns s) s
    (let s1 := upEp j (fun e => { e with st := .attesting, configuring := false, att := some (newAtt .initial) }) s
     done (if mailbox then s1 else settle (attEnd 3 [] j s1)))

/-- ENDPOINT_READY_TIMEOUT (R298, R302): t_EPRDY expires in VAT. -/
def execEndpointReadyTimeout (j : Nat) (s : State) : Out :=
  let e := epOf s j
  when (decide (e.st = .vat) && e.configuring && !e.releaseDue && aocRuns s) s (done (settle (epFail 1 [] j s)))

/-- SPDM_VERSION (R303): `best` is the highest version the endpoint and the device have in common, 0 for none. -/
def execSpdmVersion (j best : Nat) (s : State) : Out :=
  when (spdmAt s j .version) s
    (if spdmMin s j ≤ best ∧ (best = 0x12 ∨ best = 0x13) then
       done (spdmNext .capabilities j (upAtt j (fun a => { a with version := best }) s))
     else done (settle (attEnd 3 [] j s)))

/-- SPDM_CAPABILITIES (R303): CERT_CAP, and MEAS_CAP = 0b10; CHUNK_CAP is honoured if set. -/
def execSpdmCapabilities (j : Nat) (cert : Bool) (meas : BitVec 2) (chunk : Bool) (s : State) : Out :=
  when (spdmAt s j .capabilities) s
    (if cert ∧ meas = 2 then done (spdmNext .algorithms j (upAtt j (fun a => { a with chunk := chunk }) s)) else done (settle (attEnd 3 [] j s)))

/-- SPDM_ALGORITHMS (R303): ECDSA P-384, SHA-384, SHA-384 measurements, the DMTF measurement specification. -/
def execSpdmAlgorithms (j : Nat) (asym hash measHash dmtf : Bool) (s : State) : Out :=
  when (spdmAt s j .algorithms) s
    (if asym ∧ hash ∧ measHash ∧ dmtf then done (spdmNext .digests j s) else done (settle (attEnd 3 [] j s)))

/-- SPDM_DIGESTS (R303): slot 0 must be populated. -/
def execSpdmDigests (j : Nat) (slot0 : Bool) (s : State) : Out :=
  when (spdmAt s j .digests) s
    (if slot0 then done (spdmNext .certificate j s) else done (settle (attEnd 3 [] j s)))

/-- SPDM_CERTIFICATE (R303, R304): a portion of at most 4,096 bytes with what remains. With the last, `root` is the first
certificate of the chain and `chainOk` whether every certificate verifies under the one before it; the check waits for an engine (R467). -/
def execSpdmCertificate (j portion remainder : Nat) (root : Bytes) (chainOk : Bool) (s : State) : Out :=
  when (spdmAt s j .certificate) s
    (if portion = 0 ∨ 4096 < portion then done (settle (attEnd 3 [] j s))
     else if remainder ≠ 0 then done (upAtt j (fun a => { a with chain := a.chain + portion, sends := 0 }) s)
     else if !(sigIn s && dgaIn s) then notNow s
     else if sha384 root ≠ rootWant s j then done (settle (attEnd 4 [] j s))
     else if !chainOk then done (settle (attEnd 5 [] j s))
     else done (drawNonce j (spdmNext .measurements j (upAtt j (fun a => { a with chain := a.chain + portion, left := measSel s j, blocks := [] }) s))))

/-- The request for measurements has been sent: the last one waits for its nonce (R459). -/
def measSent (s : State) (j : Nat) : Bool := match (epOf s j).att with
  | some a => decide (1 < a.left.length) || decide (a.nonce ≠ [])
  | none => false

/-- SPDM_MEASUREMENTS (R303, R304): the block of the index asked for, within what the endpoint can send, and on the last one
the signature over the transcript with the device's nonce. -/
def execSpdmMeasurements (j : Nat) (block : Option Bytes) (sig : Half) (s : State) : Out :=
  when (spdmAt s j .measurements && measSent s j) s
    (match (epOf s j).att, block with
     | some a, some b =>
       if spdmLimit a < b.length then done (settle (attEnd 3 [] j s))
       else if 1 < a.left.length then
         done (drawNonce j (upAtt j (fun a => { a with left := a.left.drop 1, blocks := a.blocks ++ b, sends := 0 }) s))
       else if sig ≠ .missing ∧ (sigIn s && dgaIn s) = false then notNow s
       else if sig = .missing then done (settle (attEnd 3 [] j s))
       else if sig = .bad then done (settle (attEnd 6 [] j s))
       else
         let d := sha384 (a.blocks ++ b)
         if d = measWant s j then done (settle (attEnd 0 d j s)) else done (settle (attEnd 7 d j s))
     | _, _ => done (settle (attEnd 3 [] j s)))

/-- SPDM_ERROR (R303): ResponseNotReady is answered with RESPOND_IF_READY within the same window; any other is FAIL. -/
def execSpdmError (j : Nat) (notReady : Bool) (s : State) : Out :=
  when (attRuns s j) s (if notReady then done s else done (settle (attEnd 3 [] j s)))

/-- SPDM_SEND_TIMEOUT (R302): TIMEOUT_MS / 16 without a response, the link in L0; after the third send the exchange fails. -/
def execSpdmSendTimeout (j : Nat) (s : State) : Out :=
  when (attRuns s j) s
    (match (epOf s j).att with
     | some a => if a.sends < 2 then done (upAtt j (fun a => { a with sends := a.sends + 1 }) s) else done (settle (attEnd 2 [] j s))
     | none => notNow s)

/-- ATTESTATION_TIMEOUT (R302, R304): TIMEOUT_MS expires. -/
def execAttestationTimeout (j : Nat) (s : State) : Out :=
  when ((epOf s j).att.isSome && fwRuns s && aocRuns s) s (done (settle (attEnd 2 [] j s)))

/-- RECHECK_DUE (R306, R310): a periodic re-check of an OPEN endpoint starts; in RECHECK or CONTAINED it does not. -/
def execRecheckDue (j : Nat) (s : State) : Out :=
  let e := epOf s j
  when (fwRuns s && decide (e.st = .opened) && e.att.isNone) s (done (startRecheck .periodic j s))

/-- A write of GATE_CONTAIN_REQ. -/
def gateContain (mask : BitVec 32) (s : State) : Out :=
  done (settle (each (epsOfMask s mask) epFirmware s))

/-- GATE_CONTAIN_REQ (R49, R298): bits of ports without an endpoint are ignored. -/
def execGateContainReq (mask : BitVec 32) (s : State) : Out := when (coreRuns s) s (gateContain mask s)

/-- A write of GATE_RECHK_REQ. -/
def gateRecheck (mask : BitVec 32) (s : State) : Out :=
  done (settle (each ((epsOfMask s mask).filter (fun j => decide ((epOf s j).st = .opened)))
   (epRecheck (fun c => { c with firmware := true }) false) s))

/-- GATE_RECHK_REQ (R298): OPEN endpoints go to RECHECK with cause FIRMWARE; others are ignored. -/
def execGateRechkReq (mask : BitVec 32) (s : State) : Out := when (coreRuns s) s (gateRecheck mask s)

/-- HOST_CONFIG_REQUEST (R293, R296, R340): a configuration request of the host to the secondary side of the bridge of a
DOWNSTREAM port. -/
def execHostConfigRequest (port : Nat) (s : State) : Out :=
  match epAt s port with
  | none => notNow s
  | some j =>
    let p := portPart s port
    when (decide (portRole s port = 2) && (tabGet part0 s.fab.parts p).up) s
      (if s.fab.planes = 0 ∨ ideBlocked s p then answer (.tlp .unsupported) s
       else match (epOf s j).st with
         | .opened =>
           let t := freeTlp s .config 4 (.port port)
           when (tlpCredit s (upPort' s p) t) s
             (let r := forwardTlp (upPort' s p) port t (drawn s)
              answer (.tlp r.2) r.1)
         | .refused => answer (.tlp .unsupported) s
         | .contained => answer (.tlp (if (epOf s j).causes.changed then .unsupported else .retry)) s
         | _ => answer (.tlp .retry) s)

/-- HOST_DPC_TRIGGER_WRITE (R299): the host triggers a containment through DPC of its downstream port bridge, or writes its
DPC Trigger Status, which clears only a containment the host triggered. -/
def execHostDpcTriggerWrite (port : Nat) (trigger : Bool) (s : State) : Out :=
  match epAt s port with
  | none => notNow s
  | some j =>
    let e := epOf s j
    when (decide (portRole s port = 2) && (tabGet part0 s.fab.parts (portPart s port)).up) s
      (if trigger then
         if e.st = .opened then done (epContain id j (upEp j (fun e => { e with hostDpc := true }) s)) else done s
       else done (settle (upEp j (fun e => { e with hostDpc := false }) s)))

/-- ALT_PROTOCOL_NEGOTIATION (R294, R295): answered with no protocol selected. -/
def execAltProtocolNegotiation (port : Nat) (s : State) : Out :=
  when (portTrains s port) s (answer (.result 0) s)

end Sys2Proof.Machine
end

