-- ==== Sys2Proof/Machine/Mediate.lean ====
section
/-!
DEFINITION. The commands of firmware-update mediation (R307, R332 to R335).
-/

namespace Sys2Proof.Machine

open Sys2Proof

/-- The oldest intercepted TLP of a message's endpoint and direction that firmware has not been given. -/
def medNext (s : State) (port : Nat) (m : MedMsg) : Option (Nat × Nat × Tlp) :=
  s.fab.medTlps.find? (fun x => decide (x.1 = port) && decide (x.2.1 = medIngress s port m))

/-- PLDM_MEDIATED_PACKET (R332 to R335): an intercepted packet between the host and the endpoint of a port, `size` its bytes in
the buffer. It is the oldest TLP intercepted there in its direction, or with none one that comes in now, with a header of free values and
its sender's credits. While firmware is stopped, or an earlier one must wait, it waits in the buffer; one that finds that full, or others
waiting, waits before it and keeps its sender's posted credits. -/
def execPldmMediatedPacket (port : Nat) (m : MedMsg) (size : Nat) (s : State) : Out :=
  match epAt s port with
  | none => notNow s
  | some j =>
    when (decide (portRole s port = 2) && decide ((epOf s j).st = .opened) && decide (s.fab.planes ≠ 0)
        && (partOf s (portPart s port)).up && !ideBlocked s (portPart s port)
        && ((medNext s port m).isSome || creditOk s (medIngress s port m) 0 ((size + 15) / 16))) s
      (let k : MedPkt := ⟨port, m, size, medIngress s port m, ((medNext s port m).map (fun x => x.2.2)).getD (freeTlp s .message size .up)⟩
       let s1 := match medNext s port m with
         | some x => upFab (fun g => { g with medTlps := g.medTlps.erase x }) s
         | none => drawn s
       if fwRuns s && !medBlocked k s then
         let r := medHandle j k s1
         answer (.mediation r.2) r.1
       else answer (.mediation ⟨port, .waiting, none⟩) (medEnq k s1))

/-- A message may pass between the host and the OPEN endpoint of a port (R296, R299, R340). -/
def medPasses (s : State) (port : Nat) : Bool :=
  portOpen s (portPart s port) port && !ideBlocked s (portPart s port) && decide (s.fab.planes ≠ 0)

/-- ACTIVATE_FIRMWARE_RELEASE (R299, R334): where a digest had to wait for its DGA context, 0x0208 is submitted first; the held request is forwarded once 0x0208 is durable, and after it what waited behind it; to a port that is blocked it ends
like any posted request, and the session with it. -/
def execActivateFirmwareRelease (port : Nat) (s : State) : Out :=
  match medOf s port with
  | none => notNow s
  | some m =>
    match m.heldAct with
    | none => notNow s
    | some t =>
      if !m.recorded then (match epAt s port with
        | some j => when (!m.comps.getLast?.any (fun c => !c.absent) || dgaHas s (.component port)) s (done (medRecords j port s))
        | none => notNow s)
      else when m.activateReady s
        (if medPasses s port then
           let r := forwardTlp (upPort' s (portPart s port)) port t
             (upMed port (fun m => { m with heldAct := none, activateReady := false, activated := true }) s)
           answer (.tlp r.2) (if fwRuns s then (medResume r.1).1 else r.1)
         else answer (.tlp .dropped) (aerReport port 1 (endMediation port s)))

/-- ACTIVATE_FIRMWARE_RESPONSE (R307, R334): the response reaches the host; the session ends and the endpoint enters
RECHECK. It comes from an OPEN endpoint, and no IDE blocking stands in its way (R296). -/
def execActivateFirmwareResponse (port : Nat) (s : State) : Out :=
  match medOf s port, epAt s port with
  | some m, some j =>
    when (m.activated && medPasses s port && decide ((epOf s j).st = .opened)) s
      (done (settle (epRecheck (fun c => { c with firmware := true }) false j (endMediation port s))))
  | _, _ => notNow s

end Sys2Proof.Machine
end

