-- ==== Sys2Proof/Machine/Present.lean ====
section
/-!
DEFINITION. Frames on the presentation ports and the steps of an emulated write (R223 to R250).
-/

namespace Sys2Proof.Machine

open Sys2Proof

/-! ### Reads -/

/-- PRS_READ: 0x03 or 0x13 (R231): served only from the effective hot range at no more than 50 MHz, else 0xFF with 0x0113. -/
def execPrsRead (f : PrsFrame) (q : PrsRead) (s : State) : Out :=
  prsFrame f (fun p r e s =>
    prsListed (decide (e.proto = .p1s)) r e (prsOp f 0x03 0x13) q.len s
      (let a := prsAddr f e
       if inHot p r a && decide (q.mhz ≤ 50) then prsServe p r a q true s
       else answer (.dq (List.replicate q.len 0xff) q.len) (underrunRecord r 3 a s))) s

/-- PRS_FAST_READ: 0x0B or 0x0C with 8 dummy cycles, up to 60 MHz (R229, R231). -/
def execPrsFastRead (f : PrsFrame) (q : PrsRead) (s : State) : Out :=
  prsFrame f (fun p r e s =>
    prsListed (decide (e.proto = .p1s)) r e (prsOp f 0x0b 0x0c) q.len s (prsServe p r (prsAddr f e) q (clkOk r 8 q.mhz) s)) s

/-- A 1S read of a mode, listed when the WIDTH allows it and the SFDP lists it (R229). -/
def prsModeRead (f : PrsFrame) (q : PrsRead) (m : ReadMode) (cond : PresentRec → Bool) (op3 op4 : Byte) (s : State) : Out :=
  prsFrame f (fun p r e s =>
    prsListed (decide (e.proto = .p1s) && cond r && (modeDummy r m).isSome) r e (prsOp f op3 op4) q.len s
      (prsServe p r (prsAddr f e) q (clkOk r ((modeDummy r m).getD 0) q.mhz) s)) s

/-- PRS_READ_DUAL: 1-1-2, or 1-2-2 when `wide` (R229). -/
def execPrsReadDual (f : PrsFrame) (q : PrsRead) (wide : Bool) (s : State) : Out :=
  prsModeRead f q (if wide then .m122 else .m112) (fun r => decide (2 ≤ r.width)) (if wide then 0xbb else 0x3b) (if wide then 0xbc else 0x3c) s

/-- PRS_READ_QUAD: 1-1-4, or 1-4-4 when `wide` (R229). -/
def execPrsReadQuad (f : PrsFrame) (q : PrsRead) (wide : Bool) (s : State) : Out :=
  prsModeRead f q (if wide then .m144 else .m114) (fun r => decide (4 ≤ r.width)) (if wide then 0xeb else 0x6b) (if wide then 0xec else 0x6c) s

/-- PRS_READ_QUAD_DTR: 1S-4D-4D (R229). -/
def execPrsReadQuadDtr (f : PrsFrame) (q : PrsRead) (s : State) : Out :=
  prsModeRead f q .m1s4d4d (fun r => decide (4 ≤ r.width) && r.flags.testBit 0) 0xed 0xee s

/-- PRS_READ_OCTAL: 8-8-8 in protocol 8S (R229). -/
def execPrsReadOctal (f : PrsFrame) (q : PrsRead) (s : State) : Out :=
  prsFrame f (fun p r e s =>
    prsListed (decide (e.proto = .p8s)) r e 0xec q.len s
      (prsServe p r (prsAddr f e) q (clkOk r (r.facts.xspi8s.getD 0) q.mhz) s)) s

/-- PRS_READ_OCTAL_DTR: 8D-8D-8D in protocol 8D (R229). -/
def execPrsReadOctalDtr (f : PrsFrame) (q : PrsRead) (s : State) : Out :=
  prsFrame f (fun p r e s =>
    prsListed (decide (e.proto = .p8d)) r e 0xee q.len s
      (prsServe p r (prsAddr f e) q (clkOk r (r.facts.xspi8d.getD 0) q.mhz) s)) s

/-! ### Programs and erases -/

/-- PRS_PAGE_PROGRAM (R233, R244, R245): 0x02 or 0x12 in 1S, 0x12 with its complement in an octal protocol, where 0x02 is unknown
(R229, R230). A frame with no data byte, or that ends inside a 2-byte word in 8D, is rejected (R232). -/
def execPrsPageProgram (f : PrsFrame) (data : Bytes) (s : State) : Out :=
  prsFrame f (fun p r e s =>
    prsListed (decide (e.proto = .p1s) || f.form4) r e (prsOp f 0x02 0x12) 0 s
      (if data.isEmpty || (decide (e.proto = .p8d) && decide (data.length % 2 = 1)) then done s
       else
         let w := programSpan r (prsAddr f e) data
         prsWrite p r e 1 w.1 w.2.length false w.2 s)) s

/-- PRS_PAGE_PROGRAM_QUAD: 1-1-4, with WIDTH 4 or more (R229, R245). -/
def execPrsPageProgramQuad (f : PrsFrame) (data : Bytes) (s : State) : Out :=
  prsFrame f (fun p r e s =>
    prsListed (decide (e.proto = .p1s) && decide (4 ≤ r.width)) r e (prsOp f 0x32 0x34) 0 s
      (if data.isEmpty then done s
       else
         let w := programSpan r (prsAddr f e) data
         prsWrite p r e 1 w.1 w.2.length false w.2 s)) s

/-- The 4-byte form of an erase opcode: the SFDP's, or with no such table 0x21, 0x5C and 0xDC for 0x20, 0x52 and 0xD8 (R229). -/
def erase4 (r : PresentRec) (op : Nat) : Option Nat :=
  match r.facts.erases4 with
  | some t => (t.find? (fun x => decide (x.1 = op))).map (fun x => x.2)
  | none => if op = 0x20 then some 0x21 else if op = 0x52 then some 0x5c else if op = 0xd8 then some 0xdc else none

/-- The erase type an opcode selects, of 2^12 to 2^18 bytes, as the log2 of its size, and whether it is the 4-byte form, which is the
only one in an octal protocol (R229). -/
def eraseType (r : PresentRec) (e : EmDev) (form4 : Bool) (op : Byte) : Option (Nat × Bool) :=
  let sized := r.facts.erases.filter (fun t => decide (12 ≤ t.2) && decide (t.2 ≤ 18))
  let three := if e.proto = .p1s ∧ !form4 then sized.find? (fun t => decide (t.1 = op.toNat)) else none
  match three with
  | some t => some (t.2, false)
  | none => (sized.find? (fun t => decide (erase4 r t.1 = some op.toNat))).map (fun t => (t.2, true))

/-- PRS_SECTOR_ERASE: the erase type of the SFDP whose opcode is `op` (R229, R245): the block of that size that holds the address. -/
def execPrsSectorErase (f : PrsFrame) (op : Byte) (s : State) : Out :=
  prsFrame f (fun p r e s =>
    match eraseType r e f.form4 op with
    | none => prsUnknown r e op (~~~op) 0 s
    | some t => prsWrite p r e 2 (prsAddr { f with form4 := t.2 } e / 2 ^ t.1 * 2 ^ t.1) (2 ^ t.1) true [] s) s

/-- PRS_CHIP_ERASE: 0x60 or 0xC7, the whole device (R229, R245). -/
def execPrsChipErase (f : PrsFrame) (s : State) : Out :=
  prsFrame f (fun p r e s => prsWrite p r e 3 0 (prsSize p r) true [] s) s

/-! ### Registers, identification and protocol -/

/-- PRS_WRITE_ENABLE: 0x06 sets WEL. -/
def execPrsWriteEnable (f : PrsFrame) (s : State) : Out :=
  prsFrame f (fun _ r _ s => done (upEm (recKey r) (fun e => { e with wel := true }) s)) s

/-- PRS_WRITE_DISABLE: 0x04 clears WEL. -/
def execPrsWriteDisable (f : PrsFrame) (s : State) : Out :=
  prsFrame f (fun _ r _ s => done (upEm (recKey r) (fun e => { e with wel := false }) s)) s

/-- PRS_READ_STATUS: SR1, repeated: WIP, WEL, zeros (R229). -/
def execPrsReadStatus (f : PrsFrame) (len : Nat) (s : State) : Out :=
  prsFrame f (fun _ _ e s =>
    answer (.dq (List.replicate len (BitVec.ofNat 8 (b2n e.pend.isSome + 2 * b2n e.wel))) len) s) s

/-- PRS_WRITE_STATUS: the data is consumed, WEL is cleared (R229). -/
def execPrsWriteStatus (f : PrsFrame) (s : State) : Out :=
  prsFrame f (fun _ r _ s => done (upEm (recKey r) (fun e => { e with wel := false }) s)) s

/-- PRS_READ_ID: the ID_LEN bytes of the record, then 0xFF (R229). -/
def execPrsReadId (f : PrsFrame) (len : Nat) (s : State) : Out :=
  prsFrame f (fun _ r _ s =>
    answer (.dq (((r.id.take r.idLen) ++ List.replicate len 0xff).take len) len) s) s

/-- PRS_READ_SFDP: the record's SFDP bytes below SFDP_LEN, then 0xFF (R229). The address is 3 bytes in 1S, 4 in octal. -/
def execPrsReadSfdp (f : PrsFrame) (len : Nat) (s : State) : Out :=
  prsFrame f (fun _ r e s =>
    let a := if e.proto = .p1s then f.addr.toNat % 16777216 else f.addr.toNat
    answer (.dq ((List.range len).map (fun i => if a + i < r.sfdpLen then r.sfdp.getD (a + i) 0xff else 0xff)) len) s) s

/-- 0xB7 and 0xE9 (R228): a device of 16 MiB or less ignores them. -/
def prsAddrMode (f : PrsFrame) (op : Byte) (on : Bool) (s : State) : Out :=
  prsFrame f (fun p r e s =>
    prsListed (decide (e.proto = .p1s)) r e op 0 s
      (if 16777216 < prsSize p r then done (upEm (recKey r) (fun e => { e with addr4 := on }) s) else done s)) s

/-- PRS_ENTER_4B: 0xB7 (R228). -/
def execPrsEnter4b (f : PrsFrame) (s : State) : Out := prsAddrMode f 0xb7 true s
/-- PRS_EXIT_4B: 0xE9 (R228). -/
def execPrsExit4b (f : PrsFrame) (s : State) : Out := prsAddrMode f 0xe9 false s

/-- The protocol a 0x81 data byte selects, when it is honoured (R227). -/
def protoFor (r : PresentRec) (data : Byte) : Option Proto :=
  if data = 0xff then some .p1s
  else if data = 0xb7 ∧ r.width = 8 then some .p8s
  else if data = 0xe7 ∧ r.width = 8 ∧ r.flags.testBit 0 then some .p8d
  else none

/-- PRS_PROTOCOL_SELECT: 0x81 (R227): honoured with WEL 1, address 0 and a value that is honoured; WEL is cleared. -/
def execPrsProtocolSelect (f : PrsFrame) (data : Byte) (s : State) : Out :=
  prsFrame f (fun _ r e s =>
    if !e.wel then done s
    else
      let v := if prsAddr f e = 0 then protoFor r data else none
      done (upEm (recKey r) (fun e => { e with wel := false, proto := v.getD e.proto }) s)) s

/-- PRS_RESET_ENABLE: 0x66 (R226). -/
def execPrsResetEnable (f : PrsFrame) (s : State) : Out :=
  prsFrame f (fun _ r _ s => done (upEm (recKey r) (fun e => { e with rstEn := true }) s)) s

/-- PRS_RESET: 0x99 directly after 0x66 resets the protocol (R226). -/
def execPrsReset (f : PrsFrame) (s : State) : Out :=
  prsFrame f (fun _ r e s => if e.rstEn then done (upEm (recKey r) protoReset s) else done s) s

/-- PRS_POWER_DOWN: 0xB9, no effect (R229). -/
def execPrsPowerDown (f : PrsFrame) (s : State) : Out :=
  prsFrame f (fun _ r e s => prsListed (decide (e.proto = .p1s)) r e 0xb9 0 s (done s)) s

/-- PRS_RELEASE_POWER_DOWN: 0xAB, no effect (R229). -/
def execPrsReleasePowerDown (f : PrsFrame) (s : State) : Out :=
  prsFrame f (fun _ r e s => prsListed (decide (e.proto = .p1s)) r e 0xab 0 s (done s)) s

/-- PRS_UNKNOWN_OPCODE (R230). -/
def execPrsUnknownOpcode (f : PrsFrame) (op second : Byte) (len : Nat) (s : State) : Out :=
  prsFrame f (fun _ r e s => prsUnknown r e op second len s) s

/-- PRS_FRAME_REJECT: a frame whose select rises mid-field writes nothing and changes no protocol state (R232). -/
def execPrsFrameReject (f : PrsFrame) (s : State) : Out := prsFrame f (fun _ _ _ s => done s) s

/-! ### The steps of a write -/

/-- Entries of a port's write journal that are taken (R245, R246). -/
def journalTaken (s : State) (port : Nat) : Nat :=
  (portOf s port).journal.length + countIf (fun k => match (emOf s k).pend with
    | some w => decide (w.step ≠ .journal)
    | none => false) [emKey port 0, emKey port 1]

/-- WRITE_JOURNAL_ENTRY: step 1 of R245, while fewer than 2,048 entries are taken. -/
def execWriteJournalEntry (port : Nat) (dev : Bool) (s : State) : Out :=
  let k := emKey port (b2n dev)
  match (emOf s k).pend with
  | none => notNow s
  | some w =>
    when (decide (w.step = .journal) && decide (journalTaken s port < 2048)) s
      (done (upEm k (fun e => { e with pend := some { w with step := .durable } }) s))

/-- WRITE_DURABLE: step 2 of R245, while the Fix Ring has space beyond its reserve. -/
def execWriteDurable (port : Nat) (dev : Bool) (s : State) : Out :=
  let k := emKey port (b2n dev)
  match (emOf s k).pend with
  | none => notNow s
  | some w =>
    when (decide (w.step = .durable) && entryFits s) s
      (done (upEm k (fun e => { e with pend := some { w with step := .apply } }) (upEv (fun v => (evWriteJournal w.entry.id w.entry.data.length v).1) s)))

/-- The bytes of a write as cells of the device: programs clear bits, an erase sets 0xFF (R233, R245). -/
def writeCells (s : State) (base : Nat) (j : JEntry) : List (Nat × Byte) :=
  (List.range j.len).map (fun i =>
    (j.addr + i, if j.erase then 0xff else tabGet 0xff s.lake.bytes (base + j.addr + i) &&& j.data.getD i 0xff))

/-- A write reaches the Lake copy and, in the hot range, the Hot Window (R242, R245). -/
def applyWrite (p : PolicyImage) (r : PresentRec) (j : JEntry) (s : State) : State :=
  let cells := writeCells s (lakeBase p r) j
  upLake (fun l => lakeTouch (lakeBase p r + j.addr) j.len { l with hot := tabSetAll 0xff l.hot ((cells.filter (fun c => inHot p r c.1)).map (fun c => (hotAt p r c.1, c.2))) })
    (lakeStore (lakeBase p r) cells s)

/-- WRITE_APPLY: steps 3 and 4 of R245: applied, WIP and WEL clear, accepted; a SHADOW entry is retired at once (R246).
With the Lake OUT the write stays where it is, WIP set: the model's choice (log entry 145). -/
def execWriteApply (port : Nat) (dev : Bool) (s : State) : Out :=
  let k := emKey port (b2n dev)
  match (emOf s k).pend, s.run.policy, prsRec s port (b2n dev) with
  | some w, some p, some r =>
    when (decide (w.step = .apply) && lakeUp s) s
      (let s1 := upEm k (fun e => { e with pend := none, wel := false }) (applyWrite p r w.entry s)
       if w.entry.cls = 3 then done (upPort port (fun q => { q with journal := q.journal ++ [w.entry] }) s1)
       else done (upEv (evRetireWrite w.entry.id) s1))
  | _, _, _ => notNow s

/-! ### Loads -/

/-- Every image of the backing device has been judged (R260). -/
def devJudged (s : State) (p : PolicyImage) (r : PresentRec) : Bool :=
  p.images.all (fun i => decide (i.channel ≠ r.channel) || decide (i.device ≠ r.srcDevice) ||
    (match (imgOf s i.slot).st with
     | .passed => true
     | .finalHold => true
     | .flagged => true
     | _ => false))

/-- The Lake address that a flash address of the load goes to: in the halves of an updatable slot whose image range holds HALF_1 the
two are exchanged (R276). -/
def loadTo (s : State) (p : PolicyImage) (r : PresentRec) (a : Nat) : Nat :=
  match slotAt p r.channel r.srcDevice a with
  | some i => if updatable p i && runHalf1 s i.slot then a + i.length else a
  | none => match slotAfter p r.channel r.srcDevice a with
    | some i => if runHalf1 s i.slot then a - i.length else a
    | none => a

/-- The cells of a load, by Lake address: those that lie outside the image ranges and are not HIDDEN (R260). -/
def loadCells (s : State) (p : PolicyImage) (r : PresentRec) (content : List (Nat × Byte)) : List (Nat × Byte) :=
  (content.map (fun c => (loadTo s p r c.1, c.2))).filter (fun c => decide (c.1 < prsSize p r) && decide (pageClass p r c.1 ≠ 5)
    && (slotAt p r.channel r.srcDevice c.1).isNone)

/-- DEVICE_LOAD_DONE: the load of the non-image ranges of the backing device ends (R225, R260): the device serves, with
its Hot Window filled and its protocol reset, or fails. `content` is what the load read, by flash address. On a channel that is STOPPED or
FAILED its frames end STOPPED (R213); before READY there is no load, and in a failover interruption it waits (R256). A device whose
ranges have been loaded in this start is not loaded again: they hold accepted writes (log entry 84); with the Lake OUT it fails all the same, and a failed
load discards a write that was pending: both are the model's choice (log entry 146). -/
def execDeviceLoadDone (port : Nat) (dev : Bool) (content : List (Nat × Byte)) (ok : Bool) (s : State) : Out :=
  let k := emKey port (b2n dev)
  match s.run.policy, prsRec s port (b2n dev) with
  | some p, some r =>
    let st := (chanOf s r.channel).st
    let loaded := (emOf s k).loaded
    when (decide ((emOf s k).st = .loading) && devJudged s p r && (loaded || decide (st = .ready) || decide (st = .stopped) || decide (st = .failed))
        && !s.lake.failover) s
      (if lakeIn s && (loaded || (ok && decide (st = .ready))) then
         let s1 := if loaded then s else upLake (lakeTouch (lakeBase p r) (prsSize p r)) (lakeStore (lakeBase p r) (loadCells s p r content) s)
         done (upEm k (fun e => protoReset { e with st := .serving, loaded := true }) (hotFill p r s1))
       else done (upEm k (fun e => { e with st := .failed, pend := none }) s))
  | _, _ => notNow s

end Sys2Proof.Machine
end

