-- ==== Sys2Proof/Machine/RegWrite.lean ====
section
/-!
DEFINITION. A write of a register, in every space that has registers (R9, R10, R429, R499 to R502).
-/

namespace Sys2Proof.Machine

open Sys2Proof

/-- A write of the bytes `b` in the internal space; none is a bus error (R428 to R430, R501, R514). A write of working space waits in a
failover interruption (R256). -/
def writeInternal (a : Nat) (b : Bytes) (s : State) : Option State :=
  if 0x10000000 ≤ a ∧ a + b.length ≤ 0x10800000 then
    if a < sramProtected s then none else some (upSc (fun c => { c with sram := memWrite 0 c.sram (a - 0x10000000) b }) s)
  else if 0x80000000 ≤ a ∧ a + b.length ≤ 0x80000000 + workSize then
    if lakeIn s then some (workPut a b s) else none
  else if 0x40000000 ≤ a ∧ a < 0x402f0000 then
    if blockBars s a b.length then none
    else some (writeBlock ((a - 0x40000000) / 0x10000) (a % 0x10000) (BitVec.ofNat 32 (unle b)) s)
  else none

/-- A write of a register of a peripheral block that is a command of its own when a core makes it (R429, R512); none of any other. A JTAG
write is never the second write of the key sequence in time (R441, log entry 143). -/
def ownWrite (n a : Nat) (v : BitVec 32) (s : State) : Option Out :=
  if 9 ≤ n ∧ n ≤ 25 ∧ a = 0x2c then some (cchQpush (n - 9) v s)
  else if n = 0 ∧ 0xc0 ≤ a ∧ a < 0x100 then some (sicDone (BitVec.ofNat 4 ((a - 0xc0) / 4)) v s)
  else if n = 4 ∧ 0x40 ≤ a ∧ a < 0x70 then some (kldFwid (BitVec.ofNat 4 ((a - 0x40) / 4)) v s)
  else if n = 5 ∧ 0x40 ≤ a ∧ a < 0x80 then some (dgaExpect (BitVec.ofNat 4 ((a - 0x40) / 4)) v s)
  else match n, a with
  | 0, 0x204 => some (sramWp (v.setWidth 8) s)
  | 0, 0x208 => some (scReset v s)
  | 1, 0x0c => some (wdtServe v s)
  | 1, 0x10 => some (wdtKey v false s)
  | 1, 0x00 => if v.getLsbD 0 then some (done (wdtCtrlWrite v s)) else none
  | 3, 0x00 =>
    if v.getLsbD 31 then match fieldOf v 16 3 with
      | 0 => some (otpGoRead (v.setWidth 11) s)
      | 1 => some (otpGoProgram (v.setWidth 11) s.otp.data s)
      | 2 => some (otpGoScan s)
      | 3 => some (otpGoLcStep false s)
      | _ => none
    else none
  | 4, 0x04 => some (kldSvn (v.setWidth 5) s)
  | 5, 0x00 => if v.getLsbD 31 then some (dgaOpen (v.setWidth 3) s) else none
  | 5, 0x0c => some (dgaData v s)
  | 5, 0x14 => some (dgaLast ⟨v, 0⟩ s)
  | 5, 0x18 => some (dgaClose (v.setWidth 8) s)
  | 6, 0x00 | 7, 0x00 =>
    if v.getLsbD 31 && decide (1 ≤ fieldOf v 0 8) && decide (fieldOf v 0 8 ≤ 11) then
      some (sigStart (fieldOf v 0 8) (decide (n = 7)) (v.extractLsb' 16 8) (v.extractLsb' 8 8) s)
    else none
  | 8, 0x18 => some (releaseReq v s)
  | 8, 0x1c => some (holdReq v s)
  | 8, 0x3c => some (tripReq v s)
  | 44, 0x80c => some (gateContain v s)
  | 44, 0x810 => some (gateRecheck v s)
  | _, _ => none

/-- JTAG reaches the internal registers: a session with SCOPE bit 2 (R153, R499). -/
def jtagReach (s : State) : Bool := s.sc.mainGood && (match s.otp.session with
  | some sc => sc.getLsbD 2
  | none => false)

/-- A JTAG access that meets a bus error raises no trap in a core and has no other effect (R430, R501). -/
def jtagOut (s : State) (o : Out) : Out :=
  match o with
  | .next t => if t.reply = .busError then answer .busError s else o
  | _ => o

/-- A JTAG write of a register (R153, R499): what a core's write of it does. -/
def jtagWrite (a len : Nat) (v : BitVec 32) (s : State) : Out :=
  if 0x402f0000 ≤ a ∨ blockBars s a len then answer .busError s
  else match ownWrite ((a - 0x40000000) / 0x10000) (a % 0x10000) v s with
  | some o => jtagOut s o
  | none => done (writeBlock ((a - 0x40000000) / 0x10000) (a % 0x10000) v s)

/-- REGISTER_WRITE (R9, R10, R499): a core's write that is no command of its own, and any write by the host or by JTAG. -/
def execRegisterWrite (sp : RegSpace) (a : Nat) (v : BitVec 32) (s : State) : Out :=
  match sp with
  | .bar n p len bound =>
    when (csfReach s p.toNat bound) s (if n = 2 then writeDoorbell p a len v bound s else done (writeBar n p.toNat a len v s))
  | .msix8 p high bound => when (csfReach s p.toNat bound) s (done (writeMsix8 p.toNat a v high s))
  | .config p r => when (partOf s p.toNat).up s (done (writeCfg p.toNat r v s))
  | .internal false len high =>
    when (coreRuns s) s
      (match writeInternal a ((le 4 v.toNat ++ le 4 high.toNat).take len) s with
       | some s1 => done s1
       | none => busError s)
  | .internal true len _ => when (jtagReach s && decide (0x40000000 ≤ a) && decide (a < 0x80000000)) s (jtagWrite a len v s)

end Sys2Proof.Machine
end

