-- ==== Sys2Proof/Machine/Rom.lean ====
section
/-!
DEFINITION. Self-test and the ROM stage (R122, R461).
-/

namespace Sys2Proof.Machine

open Sys2Proof

/-! ### Self-test -/

/-- The core set of the Service Floor passes (R31 to R34, R461, R488), with CCH_00 READY after its own self-test. -/
def coreSetOk (t : SelfTest) (s : State) : Bool :=
  (t.pairA || t.pairB) && t.pll && t.romSram && t.otpc && decide (t.dga ≠ 0) && (t.sig0 || t.sig1)
    && decide (t.banks.extractLsb' 0 2 ≠ 0) && decide ((chanOf s 0).st = .ready)

/-- The bays in service after self-test (R33, R461, R464). -/
def baysAfter (s : State) (t : SelfTest) : BitVec 8 :=
  maskOf 8 ((List.range 8).filter (fun b => bayEnabled s.otp.feat b && t.bays.getLsbD b && [0, 1, 2].any (fun i => t.slices.getLsbD (3 * b + i))))

/-- The slices of enabled bays that failed (R341). -/
def slicesBad (s : State) (t : SelfTest) : BitVec 24 :=
  maskOf 24 ((List.range 24).filter (fun i => bayEnabled s.otp.feat (i / 3) && !t.slices.getLsbD i))

/-- The Lake after self-test (R255), out of service when its key was not drawn (R459). -/
def lakeAfter (s : State) (t : SelfTest) : Lake :=
  let bad := bitsOf (~~~ t.lake)
  { s.lake with active := t.lake, lost := bad.headD 0, mode := if s.kld.rngFail then .off else match bad.length with
      | 0 => .normal
      | 1 => .parity
      | _ => .out }

/-- CCH_00 after its self-test, with the configuration of CFG_MODE (R213, R214, R220). -/
def cch00After (s : State) (t : SelfTest) (c : Channel) : Channel :=
  let w := cfg00Words (cfgMode s)
  let c1 := { c with cfg := w.1, ops := w.2.1, geom := w.2.2 }
  let c2 := if calibrates c1 then calibrate t.cch00.cal c1 else c1
  { c2 with st := if selfTestOk 0 c1 t.cch00 then .ready else .failed }

/-- Every unit that failed is removed before anything uses it (R461, R462). -/
def unitsAfter (t : SelfTest) (s : State) : State :=
  let s1 := upChan 0 (cch00After s t) (upSc (fun c => { c with pairA := t.pairA, pairB := t.pairB, active := !t.pairA && t.pairB, selfTestDue := false }) s)
  { s1 with
    dga := { s1.dga with engines := t.dga }
    sig0 := { s1.sig0 with inService := t.sig0 }
    sig1 := { s1.sig1 with inService := t.sig1 }
    pa := ⟨t.banks, false⟩
    xip := { s1.xip with contSupport := t.cch00.cont }
    lake := lakeAfter s t
    kld := { s1.kld with cdi0 := some (cdi0Of s.otp), lake := if s1.kld.rngFail then none else some (kdf (cdi0Of s.otp) (ascii "LAKE") (nextFree s 48)) }
    freeCtr := s.freeCtr + 1
    fab := if fabricEn s then { s1.fab with planes := t.planes, slices := t.slices, bays := baysAfter s t, planeFail := ~~~t.planes, sliceFail := slicesBad s t } else s1.fab }

/-- The gate's units once the integrity scan has turned enables of FEAT_CRIT off (R139, R140). -/
def unitsScanned (s : State) : State :=
  upFab (fun g => if fabricEn s then { g with bays := maskOf 8 ((bitsOf g.bays).filter (bayEnabled s.otp.feat)) }
    else { g with planes := 0, slices := 0, bays := 0 }) s

/-! ### The ROM stage -/

/-- The start ends in FLOOR (R103). -/
def romFloor (cause : Nat) (s : State) : State := upMor (fun m => { m with floorCause := cause }) s

/-- Step 2: an interrupted life-cycle step is completed once, the array is scanned, OTP_LOCK_VENDOR is set (R131, R140,
R149). -/
def romFuses (t : SelfTest) (s : State) : State :=
  upOtp (fun o =>
    let o1 := if lcNeedsReburn o && t.reburnOk then lcBurnCell o (lcLowest o) else o
    { otpScan o1 with lockVendor := true }) s

/-- The scan decided FLOOR (R140). -/
def fusesBad (s : State) : Bool := s.otp.alarm.flags.getLsbD 0

/-- Step 4: the first firmware slot that verifies, in the order of STRAP_6 (R99, R122, R284). -/
def romBundle (s : State) : Option (Bool × Bundle) :=
  let first := fwPrimary s
  match (fwSlotOf s first).filter (bundleOk s.otp) with
  | some b => some (first, b)
  | none => ((fwSlotOf s (!first)).filter (bundleOk s.otp)).map (fun b => (!first, b))

/-- The accepted bundle: KLD_FWID, KLD_SVN and the alias certificates, which go to working space (R370, R456, R457), the window's map and table (R218), and
a new epoch (R364). -/
def romTake (slot : Bool) (b : Bundle) (s : State) : State :=
  let fwid := tabSetAll none tabEmpty ((List.range 12).map (fun i => (i, some (wordAt (fwDigest b) i))))
  let table := memWrite 0 tabEmpty 0 ((b.blockDigests.map (fit 48)).flatten)
  let s0 := upKld (fun k => { k with svn := some b.svn, fwid := fwid }) s
  let s1 := workPut certAt ((aliasCerts s0).1 ++ (aliasCerts s0).2) (upKld (fun k => { k with certs := some (aliasCerts s0), devidOff := true }) (drawn (drawn s0)))
  let s2 := upXip (fun x => { x with lock := true, lenBlk := b.totalBlks, baseBlk := if slot then 0x1100 else 0x0100, table := table, wptr := 48 * b.blockDigests.length }) s1
  let s3 := { s2 with run := { s2.run with bundle := some b, fwSlot := b2n slot } }
  let s4 := upEv (evBeginEpoch s.aot 1 s.otp.countLatched (devId s)) s3
  if s4.ev.isSealed then s4
  else upNrx (fun n => { n with sealNo := 0, sealEnd := 0 }) (upVault (fun v => { v with blockNo := 0, runEnd := 0 }) s4)

/-- Body of 0x0043 OWNER_BOUND (R347). -/
def ownerBoundBody (p : PolicyImage) : Bytes := fit 16 p.hdr.ownerId ++ le 4 p.hdr.ownerOpt ++ zeros 4 ++ fit 48 (polKeyDigest p)

/-- Step 5 for one slot (R134, R180): whether its image is accepted; a binding that reads back bad ends the start in FLOOR, with
OTPC_ALARM.FIRST_WORD left as the scan found it (log entry 104). -/
def romSlot (t : SelfTest) (slot : Bool) (s : State) : State :=
  if s.run.policy.isSome ∨ s.mor.floorCause ≠ 0 then s
  else match polSlotOf s slot with
  | none => s
  | some p =>
    let take := fun (s : State) => { s with run := { s.run with policy := some p, polSlot := b2n slot } }
    match polVerdict s.otp (runFormats s) s.polFloor p with
    | .refused => s
    | .accepted => take s
    | .bind =>
      let s1 := upOtp (fun o => bindOwner o p.hdr.ownerId p.hdr.ownerOpt (polKeyDigest p) t.bindOk) s
      if bindReadsBack s1.otp p.hdr.ownerId p.hdr.ownerOpt (polKeyDigest p) then take (emit 0x0043 0 (ownerBoundBody p) s1)
      else romFloor 3 (upOtp (fun o => { o with alarm := { o.alarm with flags := o.alarm.flags ||| 9 } }) s1)

/-- Step 5: slot A, then slot B (R180). -/
def romPolicy (t : SelfTest) (s : State) : State := romSlot t true (romSlot t false s)

/-- No slot holds an acceptable image (R140, R180): NO_POLICY, or FUSE_INTEGRITY with DECISION_FLOOR where a partial owner binding
was left uncompleted. -/
def romNoPolicy (s : State) : State :=
  if ownerClass s.otp = .part then
    romFloor 3 (upOtp (fun o => { o with alarm := { o.alarm with flags := o.alarm.flags ||| 1 } }) s)
  else romFloor 2 s

/-- SELF_TEST_DONE (R34, R122, R461): the units are removed that failed, and the ROM stage runs to its end, to FLOOR, or stays
in HOLD; while accepted writes are still to be replayed it waits with the lock (R214). ROM serves the watchdog (R438). With no
oscillator toggling, its first access to the Mordant ends in a bus error, and ROM goes no further (R428, R430, R514, log entry 105). -/
def execSelfTestDone (t : SelfTest) (s : State) : Out :=
  when (s.sc.mainGood && s.sc.selfTestDue) s
    (let s0 := unitsAfter t s
     if !coreSetOk t s0 then done (upSc (fun c => { c with holdOnly := true }) s0)
     else
       let s1 := wdtServed (unitsScanned (romFuses t s0))
       if !aocRuns s1 then done (upSc (fun c => { c with fault := true }) s1)
       else if fusesBad s1 then done (romFloor 3 s1)
       else if !paUp s1 then done s1
       else if (bootDir s1.cfg).isNone then done (romFloor 1 s1)
       else match romBundle s1 with
       | none => done (romFloor 1 s1)
       | some (slot, b) =>
         let s2 := romPolicy t (romTake slot b s1)
         if s2.mor.floorCause ≠ 0 then done s2
         else match s2.run.policy with
         | none => done (romNoPolicy s2)
         | some p => done (romGo t.cbus (romPrepare p s2)))

/-- MICROCODE_LOAD_DONE (R285): every word was checked through the window; links may train. -/
def execMicrocodeLoadDone (s : State) : Out :=
  when (fwRuns s && fabricEn s && !s.run.microcode) s (done { s with run := { s.run with microcode := true } })

end Sys2Proof.Machine
end

