-- ==== Sys2Proof/Machine/LakeMap.lean ====
section
/-!
DEFINITION. How the Image Lake lays out, protects and checks its lines (R251 to R253).
-/

namespace Sys2Proof.Machine

open Sys2Proof

/-! ### Stripes -/

/-- The stripe of usable line L, its row in each channel, and the channels of its parity line and of the line itself (R251). -/
def lineStripe (l : Nat) : Nat := l / 7
def stripeParity (s : Nat) : Nat := s % 8
def lineChannel (l : Nat) : Nat := (stripeParity (lineStripe l) + 1 + l % 7) % 8

/-- The usable lines of a stripe. -/
def stripeLines (s : Nat) : List Nat := (List.range 7).map (fun i => 7 * s + i)

/-- Usable lines: 14 GiB of 64 bytes (R251). -/
def lakeLines : Nat := 14 * 2 ^ 30 / 64

/-! ### Regions -/

/-- The regions of the usable space (R252). -/
inductive LakeRegion where
  | image
  | ledgers
  | ringContexts
  | integrity
  | working
deriving DecidableEq, Repr

/-- Usable offset and size of a region (R252). -/
def regionSpan : LakeRegion → Nat × Nat
  | .image => (0x000000000, 12288 * 2 ^ 20)
  | .ledgers => (0x300000000, 320 * 2 ^ 20)
  | .ringContexts => (0x314000000, 64 * 2 ^ 20)
  | .integrity => (0x318000000, 256 * 2 ^ 20)
  | .working => (0x328000000, 1408 * 2 ^ 20)

/-- The region of a usable offset. -/
def lakeRegion (a : Nat) : Option LakeRegion :=
  [LakeRegion.image, .ledgers, .ringContexts, .integrity, .working].find? (fun r =>
    decide ((regionSpan r).1 ≤ a) && decide (a < (regionSpan r).1 + (regionSpan r).2))

/-! ### Encryption and integrity -/

/-- The Lake's keys: the encryption key and the MAC key, both made of the key the ladder derives at every C or P event (R253, R456).
How the one makes the two is the standard's and the manual's silence (log entry 73). In a debug session the ladder's output reads zero
(R155, R458). -/
def lakeKey (s : State) (label : Bytes) : Bytes := if s.otp.session.isSome then zeros 64 else kdf (s.kld.lake.getD []) label []
def lakeEncKey (s : State) : Bytes := lakeKey s (ascii "LAKE-ENC")
def lakeMacKey (s : State) : Bytes := lakeKey s (ascii "LAKE-MAC")

/-- The version counter of a usable line: its writes since the start (R253). -/
def lineVer (s : State) (l : Nat) : Nat := tabGet 0 s.lake.ver l + tabGet 0 s.nrx.ctxVer l

/-- The counter block of a line, 64 version counters, and the counters in one (R253). -/
def counterBlockOf (l : Nat) : Nat := l / 64
def counterBlock (s : State) (b : Nat) : List Nat := (List.range 64).map (fun i => lineVer s (64 * b + i))

/-- A counter block as the metadata region stores it, a byte for each counter (log entry 117). -/
def counterBytes (s : State) (b : Nat) : Bytes := (counterBlock s b).map (fun v => BitVec.ofNat 8 v)

/-- A digest of the tree (log entry 117). -/
def treeDigest (s : State) (b : Bytes) : Bytes := fit 8 (kdf (lakeMacKey s) (ascii "LAKE-TREE") b)

/-- A node of the tree of arity 8 over the counter blocks (R253): at level 0 the counter block itself, above it the digests of the eight
nodes below. -/
def treeNode (s : State) : Nat → Nat → Bytes
  | 0, i => counterBytes s i
  | n + 1, i => (List.range 8).flatMap (fun j => treeDigest s (treeNode s n (8 * i + j)))

/-- The levels above the counter blocks up to the root, whose value is held in SRAM: 8^8 is the least power of 8 that covers every
counter block. -/
def treeHeight : Nat := 8
def lakeRoot (s : State) : Bytes := treeNode s treeHeight 0

/-- The levels held on-die: of the levels above the counter blocks a read fetches one node off-die, so level 1 is in the metadata region
and every level above it is on-die (log entry 117). -/
def treeOnDie (level : Nat) : Bool := decide (2 ≤ level)

/-- A line of the metadata region: the counter blocks, and after them the nodes of level 1 (log entry 117). -/
def metaLine (s : State) (i : Nat) : Bytes :=
  if i < lakeLines / 64 then treeNode s 0 i
  else if i < lakeLines / 64 + lakeLines / 512 then treeNode s 1 (i - lakeLines / 64)
  else fit 64 (freeBytes i)

/-- A ledger as its Lake line holds it: value, extend count, and the (RING, RSEQ) of the last extend (R391, R392, R420), in a layout of
the model's (log entry 117). -/
def ledgerLine (l : Ledger) : Bytes := fit 48 l.value ++ le 8 l.extCount ++ le 4 (ringKey l.lastPart l.lastRing) ++ le 4 l.lastRseq

/-- A ring context as its Lake line holds it, with the counts j and c (R420), in a layout of the model's (log entry 117). -/
def ringLine (r : Ring) : Bytes :=
  fit 64 (le 8 r.journaled ++ le 8 r.posted ++ le 8 r.taken ++ le 8 r.sqBase ++ le 8 r.cqBase ++ le 4 r.tail ++ le 4 r.cqHead
    ++ le 4 r.tenant ++ le 2 r.vector ++ le 1 r.depthLog2)

/-- The plain bytes of a usable line: line i of the ledgers is that of handle i + 1, line i of the ring contexts that of the ring with key
i (log entry 117). -/
def lineData (s : State) (l : Nat) : Bytes :=
  let i := fun r => l - (regionSpan r).1 / 64
  match lakeRegion (64 * l) with
  | some .image => memRead 0xff s.lake.bytes (64 * l) 64
  | some .working => memRead 0 s.sc.work (64 * l - (regionSpan .working).1) 64
  | some .ledgers => ledgerLine (ledgerOf s (i .ledgers + 1))
  | some .ringContexts => ringLine (tabGet ring0 s.nrx.rings (i .ringContexts))
  | some .integrity => metaLine s (i .integrity)
  | none => zeros 64

/-- The line as it is stored: AES-256-XTS with the line as the data unit and its channel and row as the tweak (R253). -/
def lineStored (s : State) (l : Nat) : Bytes := fit 64 (cipherOf (lakeEncKey s) (8 * lineStripe l + lineChannel l) (lineData s l))

/-- The 8-byte MAC of a line with a stored content: over the ciphertext, the physical address and the version counter (R253). -/
def macOf (s : State) (l : Nat) (stored : Bytes) : Bytes :=
  fit 8 (kdf (lakeMacKey s) stored (le 8 (8 * lineStripe l + lineChannel l) ++ le 8 (lineVer s l)))

/-- The sideband of a line. -/
def lineMac (s : State) (l : Nat) : Bytes := macOf s l (lineStored s l)

/-- The check of a read (R253): of the line, its sideband, its counter block and the node over that as they were fetched, in sequence: the
MAC, the block against the node, the node against the level on-die. A line that fails it is what LAKE_INTEGRITY_FAIL reports (R254). -/
def lineCheck (s : State) (l : Nat) (stored mac block node : Bytes) : Bool :=
  let b := counterBlockOf l
  decide (mac = macOf s l stored) && decide (block.getD (l % 64) 0 = BitVec.ofNat 8 (lineVer s l))
  && decide ((node.drop (8 * (b % 8))).take 8 = treeDigest s block)
  && decide (((treeNode s 2 (b / 64)).drop (8 * (b / 8 % 8))).take 8 = treeDigest s node)

/-- The bytes and the sideband of a stripe's parity line: the XOR of its seven data lines and their sidebands (R251). -/
def stripeXor (s : State) (n : Nat) : Bytes :=
  (stripeLines n).foldl (fun b l => xorBytes b (lineStored s l ++ lineMac s l)) (zeros 72)

/-- A line rebuilt from the other seven lines of its stripe (R254). -/
def lineRebuilt (s : State) (l : Nat) : Bytes :=
  ((stripeLines (lineStripe l)).filter (fun m => decide (m ≠ l))).foldl (fun b m => xorBytes b (lineStored s m ++ lineMac s m))
    (stripeXor s (lineStripe l))

end Sys2Proof.Machine
end

