-- ==== Sys2Proof/Machine/Vault.lean ====
section
/-!
DEFINITION. The Vault's commands: archiving, NVMe completions, checkpoints (R377 to R384).
-/

namespace Sys2Proof.Machine

open Sys2Proof

/-- The command in progress may end: no controller reset runs and no debug session makes it wait (R383, R389). -/
def nvmeRuns (s : State) : Bool := !s.vault.resetting && s.otp.session.isNone

/-- The drive can be reached: a crossbar plane is in service (R32). Without one its commands time out. -/
def nvmeReaches (s : State) : Bool := nvmeRuns s && decide (s.fab.planes ≠ 0)

/-- ARCHIVE_BLOCK (R361, R382): the 16 writes of the next closed block begin. -/
def execArchiveBlock (s : State) : Out :=
  when (archiving s && (slotOfIndex s.ev (nextArch s)).isSome) s
    (done (nvmeWrite (.archive (nextArch s)) 16 kindJournal (lbaArch s.vault.ns (nextArch s % vaultArch s.vault.ns)) 16 s))

/-- The bytes n from an offset of the blocks from one on, as the device reads them. -/
def vaultBytes (back : List DriveBlock) (s : State) (lba offset n : Nat) : Bytes :=
  (((List.range ((offset + n + 4095) / 4096 - offset / 4096)).flatMap (fun i => (vaultFetch back s (lba + offset / 4096 + i)).getD (zeros 4096))).drop (offset % 4096)).take n

/-- The answer to a read of a management port (R385): ABSENT for what is no longer held or is unreadable. -/
def vaultAnswer (back : List DriveBlock) (q : VaultRead) (s : State) : Nat × Bytes :=
  match q with
  | .block i offset n =>
    let pos := i % vaultArch s.vault.ns
    match tabGet none s.vault.arch pos with
    | some b => if b.index = some i ∧ vaultReadableN back s (lbaArch s.vault.ns pos) 16 then (0, vaultBytes back s (lbaArch s.vault.ns pos) offset n) else (2, [])
    | none => (2, [])
  | .boot e offset n =>
    match tabGet none s.vault.bootRecs (e % 65536) with
    | some r => if r.1 = e ∧ vaultReadableN back s (lbaBoot e) 8 then (0, vaultBytes back s (lbaBoot e) offset n) else (2, [])
    | none => (2, [])

/-- The CHAIN of an archived block as it is read, none where it is not held or is unreadable (R387). -/
def archChain (back : List DriveBlock) (s : State) (i : Nat) : Option Bytes :=
  let a := lbaArch s.vault.ns (i % vaultArch s.vault.ns)
  if archHolds s i && vaultReadableN back s a 16 then some (vaultBytes back s a 65408 48) else none

/-- The bytes of an object as they are read, none where a block of it is unreadable (R379, R381): those written, but for the blocks that the
drive returned otherwise. -/
def vaultCells (back : List DriveBlock) (s : State) (o : VaultObj) : Option (List (Nat × Byte)) :=
  let n := ceilDiv o.length 4096
  if vaultReadableN back s o.firstLba n then
    some (back.foldl (fun c b => if o.firstLba ≤ b.lba ∧ b.lba < o.firstLba + n then
      (memWrite 0xff ⟨c⟩ (4096 * (b.lba - o.firstLba)) (((vaultFetch back s b.lba).getD []).take (o.length - 4096 * (b.lba - o.firstLba)))).cells else c) o.content)
  else none

/-- The object of the slot of the capsule in progress is as the capsule gives it (R278, step 5). -/
def capsuleBack (back : List DriveBlock) (s : State) (c : Capsule) : Bool :=
  match ((recRec s (capSlot c)).bind (fun q => tabGet none s.vault.objects q.vaultObject)).bind (vaultCells back s) with
  | some b => decide (sha384 (cellBytes b 0 (capLen c)) = capDigest c)
  | none => false

/-- Every VAULT source of a counter has been read as it was written, so that its manifest is the object's own (R272). -/
def sourcesRead (back : List DriveBlock) (s : State) (idx : Nat) : Bool :=
  (vaultSources s idx).all (fun o => decide (vaultCells back s o = some o.content))

/-- An empty Vault (R380): its directory is empty, and nothing earlier is left. -/
def vaultEmpty (v : Vault) : Vault :=
  { v with arch := tabEmpty, objects := tabEmpty, bootRecs := tabEmpty, ckptSlot := none, ckpts := tabEmpty }

/-- The commands of a use are complete and have their effect (R376, R377, R380 to R382, R384). -/
def nvmeEffect (back : List DriveBlock) (u : NvmeUse) (s : State) : State :=
  match u with
  | .identify | .setQueues | .createCq | .createSq | .dropped => s
  | .readSuper 0 => upVault (fun v => { v with sbBack := back }) s
  | .readSuper _ => vaultAccept (s.vault.sbBack ++ back) (upVault (fun v => { v with sbBack := [] }) s)
  | .format => upVault (fun v => { vaultEmpty v with ns := vaultFormat v.ns, sb0 := none, sb1 := none, runs := [] }) s
  | .writeDirs => upVault vaultEmpty s
  | .writeSuper k => upVault (fun v => if k = 0 then { v with sb0 := some (sbOwn s) } else { v with sb1 := some (sbOwn s) }) s
  | .flush => vaultServe (vaultSet .out 3 4 (upVault (fun v => { v with accepted := true }) s))
  | .archive i =>
    match slotOfIndex s.ev i with
    | some (k, b) => upEv (freeSlot k) (upVault (fun v => { v with arch := tabSet none v.arch (i % vaultArch v.ns) (some b) }) s)
    | none => s
  | .bootRecord e =>
    match s.vault.brDue.find? (fun x => decide (x.1 = e)) with
    | some x => brStore e x.2 s
    | none => s
  | .checkpoint => upVault (fun v => match v.ckpt with
    | some c => { v with ckpts := tabSet none v.ckpts c.slot (some c.copy) }
    | none => v) s
  | .restore k =>
    match (imgOf s k).stream, (recRec s k).bind (fun q => tabGet none s.vault.objects q.vaultObject) with
    | some t, some o =>
      if t.src = .vault then match vaultCells back s o with
        | some c => streamAll k c s
        | none => upImg k vaultStreamFail s
      else s
    | _, _ => s
  | .objData obj o => nvmeWrite (.objDir obj o) 1 kindDir (lbaDir obj) 1 s
  | .objDir obj o =>
    let s1 := upVault (fun v => { v with objects := tabSet none v.objects obj (some o) }) s
    if s.ev.isSealed then s1 else emitFw 0x000c (le 2 o.slot ++ le 2 0 ++ le 4 obj ++ o.digest) (upImg o.slot (fun i => { i with storeDue := false }) s1)
  | .mgtRead b f q =>
    let a := vaultAnswer back q s
    lateAnswer b (readCmd q) f a.1 a.2 s
  | .ackRead b => if mbxMine s b 2 then ackEnd b (archChain back s (ackIndex s b)) s else s
  | .capsuleRead => match s.capsules with
    | j :: _ => if j.step ≠ 5 then s else if capsuleBack back s j.cap then capsuleRecord j s else capsuleRefuse j 6 s
    | [] => s
  | .svnRead slot goldens => match imgRec s slot, (imgOf s slot).manifest with
    | some r, some m => if svnAdvanceOk s slot r.svnIndex m.svn goldens && sourcesRead back s r.svnIndex then svnRecord r.svnIndex m.svn s else s
    | _, _ => s

/-- NVME_COMMAND_DONE (R377, R383): the command in progress completes; with the last of its use the blocks it wrote hold what was
written, and the use has its effect. `back` gives the blocks that a read returned otherwise than they were last written (R379). -/
def execNvmeCommandDone (back : List DriveBlock) (s : State) : Out :=
  match s.vault.nvme with
  | [] => notNow s
  | c :: r =>
    when (nvmeReaches s) s
      (if 1 < c.left then done (upVault (fun v => { v with nvme := { c with issues := 1, afterReset := false, left := c.left - 1 } :: r }) s)
       else done (settle (nvmeEffect back c.use (upVault (fun v => { v with nvme := r, runs := match c.run with
         | some x => putRun x v.runs
         | none => v.runs }) s))))

/-- The Vault is OUT by command failure until the next C event (R383). -/
def nvmeFail (s : State) : State :=
  vaultSet .out 2 2 (upVault (fun v => { v with failed := true }) (nvmeDrop s))

/-- NVME_COMMAND_TIMEOUT (R383): a command times out or fails; three issues, then one controller reset, then three more. -/
def execNvmeCommandTimeout (s : State) : Out :=
  match s.vault.nvme with
  | [] => notNow s
  | c :: r =>
    when (nvmeRuns s) s
      (if c.issues < 3 then done (upVault (fun v => { v with nvme := { c with issues := c.issues + 1 } :: r }) s)
       else if c.afterReset then done (settle (nvmeFail s))
       else done (upVault (fun v => { v with resetting := true }) s))

/-- NVME_CONTROLLER_READY (R383): the reset controller reports ready within t_NVRST; the command is issued again, and it alone: the model's
choice (log entry 155). -/
def execNvmeControllerReady (s : State) : Out :=
  match s.vault.nvme with
  | [] => notNow s
  | c :: r =>
    when s.vault.resetting s
      (done (upVault (fun v => { v with resetting := false, nvme := { c with issues := 1, afterReset := true } :: r }) s))

/-- NVME_RESET_TIMEOUT (R383). -/
def execNvmeResetTimeout (s : State) : Out := when s.vault.resetting s (done (settle (nvmeFail s)))

/-- The owner of a counter as a number: none 0, the device's own 1, else 2 and more by partition and tenant (R391, R392). -/
def counterOwner (s : State) (i : Nat) : Nat :=
  if i < 4096 then 1 else match s.nrx.counterRuns.find? (fun r => decide (r.base ≤ i) && decide (i < r.base + r.count)) with
    | some r => 2 + r.part + 4 * r.tenant
    | none => 0

/-- The value of a counter of the Counter Bank, the device's own among them: EPOCH and TRIP_SEQ stand at two indices above those of the
image SVNs (R47, R272, log entry 24). -/
def counterValue (s : State) (i : Nat) : Nat := if i = 256 then s.ev.epoch else if i = 257 then s.ev.tripSeq else tabGet 0 s.nrx.counters i

/-- The copy a checkpoint takes (R384): the line of every ledger, and the cell of every counter with its owner (log entries 24 and 117). -/
def ckptCopy (s : State) : CkptCopy :=
  ⟨⟨s.nrx.ledgers.cells.map (fun c => (c.1 - 1, ledgerLine c.2))⟩, ⟨(List.range 262144).map (fun i => (i, counterCell (counterValue s i) (counterOwner s i)))⟩⟩

/-- CHECKPOINT (R384): the 600 s timer fires; with the Vault IN_SERVICE and a ledger allocated the copy is taken, the RING
block closes with cause 0x04 and the writes begin. Journaled commands that have not had their effect have it first, so that
the copy stands at the block's end. In a debug session only the writes wait (R389). -/
def execCheckpoint (s : State) : Out :=
  when (decide (s.vault.state = .inService) && !s.nrx.ledgerRuns.isEmpty && paOk s && fwRuns s
      && s.vault.ckpt.isNone && lakeUp s) s
    (let s1 := applyAll s
     let k := if s1.vault.ckptSlot = some 0 then 1 else 0
     let queued := s1.ev.chainQ.length
     let has := s1.ev.openRing.isSome
     let idx := if has then (s1.ev.lastIndex + queued + 1) % 2 ^ 64 else (s1.ev.lastIndex + queued) % 2 ^ 64
     let n := (s1.nrx.ledgerRuns.map (fun r => r.count)).sum
     let s2 := upVault (fun v => { v with ckpt := some ⟨k, n, idx, ckptCopy s1, sha384 (ckptBytes (ckptCopy s1))⟩ }) (upEv (evClose true 4) s1)
     done (nvmeWrite .checkpoint 82432 kindCkpt (lbaCkpt k) 82432 s2))

/-- CHECKPOINT_DONE (R384): the writes are complete; 0x0F03 follows. -/
def execCheckpointDone (s : State) : Out :=
  match s.vault.ckpt with
  | none => notNow s
  | some c =>
    when (!s.vault.nvme.any (fun x => decide (x.use = .checkpoint))) s
      (done (emit 0x0f03 8 (le 1 c.slot ++ le 3 0 ++ le 4 c.ledgers ++ le 8 c.cbIndex ++ c.digest)
        (upVault (fun v => { v with ckpt := none, ckptSlot := some c.slot }) s)))

end Sys2Proof.Machine
end

