-- ==== Sys2Proof/Machine/Dispatch.lean ====
section
/-!
DEFINITION. One arm for each command.
-/

namespace Sys2Proof.Machine

open Sys2Proof

/-- The effect of a command on everything but the queue. -/
def exec (i : Instr) (s : State) : Host.Outcome State Fault Refusal :=
  match i with
  | .vsecPowerOn => Sys2Proof.Machine.execVsecPowerOn s
  | .criticalFuseLatchComplete strap0 strap1 strap2 => Sys2Proof.Machine.execCriticalFuseLatchComplete strap0 strap1 strap2 s
  | .vsecBrownout => Sys2Proof.Machine.execVsecBrownout s
  | .vsecOff => Sys2Proof.Machine.execVsecOff s
  | .mainSetGood mgt cch prs => Sys2Proof.Machine.execMainSetGood mgt cch prs s
  | .mainRailFail => Sys2Proof.Machine.execMainRailFail s
  | .pllLossOfLock => Sys2Proof.Machine.execPllLossOfLock s
  | .vioRstGood cls => Sys2Proof.Machine.execVioRstGood cls s
  | .vioRstLost => Sys2Proof.Machine.execVioRstLost s
  | .vioBankLow prs k => Sys2Proof.Machine.execVioBankLow prs k s
  | .hotReset part => Sys2Proof.Machine.execHotReset part s
  | .upstreamLinkDown part => Sys2Proof.Machine.execUpstreamLinkDown part s
  | .aocDisagreement => Sys2Proof.Machine.execAocDisagreement s
  | .aocStopped b => Sys2Proof.Machine.execAocStopped b s
  | .aocResumed b => Sys2Proof.Machine.execAocResumed b s
  | .tamperAssert n => Sys2Proof.Machine.execTamperAssert n s
  | .tripRecord => Sys2Proof.Machine.execTripRecord s
  | .tripReqWrite value => Sys2Proof.Machine.execTripReqWrite value s
  | .holdRequest mask => Sys2Proof.Machine.execHoldRequest mask s
  | .releaseRequest mask => Sys2Proof.Machine.execReleaseRequest mask s
  | .tripClear b sig => Sys2Proof.Machine.execTripClear b sig s
  | .registerWrite sp a v => Sys2Proof.Machine.execRegisterWrite sp a v s
  | .selfTestDone t => Sys2Proof.Machine.execSelfTestDone t s
  | .microcodeLoadDone => Sys2Proof.Machine.execMicrocodeLoadDone s
  | .otpRead addr => Sys2Proof.Machine.execOtpRead addr s
  | .otpProgram addr data => Sys2Proof.Machine.execOtpProgram addr data s
  | .otpScan => Sys2Proof.Machine.execOtpScan s
  | .otpLcStep owner => Sys2Proof.Machine.execOtpLcStep owner s
  | .otpOpDone weakLo weakHi => Sys2Proof.Machine.execOtpOpDone weakLo weakHi s
  | .challenge b => Sys2Proof.Machine.execChallenge b s
  | .token b sig own => Sys2Proof.Machine.execToken b sig own s
  | .jtagTokenSubmit t => Sys2Proof.Machine.execJtagTokenSubmit t s
  | .lcClose b sig => Sys2Proof.Machine.execLcClose b sig s
  | .exportAck b sig => Sys2Proof.Machine.execExportAck b sig s
  | .jtagInstruction idx => Sys2Proof.Machine.execJtagInstruction idx s
  | .pldmRequestUpdate b => Sys2Proof.Machine.execPldmRequestUpdate b s
  | .pldmComponentPush b c copied last => Sys2Proof.Machine.execPldmComponentPush b c copied last s
  | .pldmCapsulePush b cap last => Sys2Proof.Machine.execPldmCapsulePush b cap last s
  | .cchQpush k buf => Sys2Proof.Machine.execCchQpush k buf s
  | .cchQdoneRead k => Sys2Proof.Machine.execCchQdoneRead k s
  | .cchFrameStart k => Sys2Proof.Machine.execCchFrameStart k s
  | .cchFrameEnd k ok cal data => Sys2Proof.Machine.execCchFrameEnd k ok cal data s
  | .cchWipPoll k dev clear => Sys2Proof.Machine.execCchWipPoll k dev clear s
  | .cchWipTimeout k dev => Sys2Proof.Machine.execCchWipTimeout k dev s
  | .cchContTimeout k => Sys2Proof.Machine.execCchContTimeout k s
  | .cchPeriodicCalibration k cal => Sys2Proof.Machine.execCchPeriodicCalibration k cal s
  | .cchSelftestDone k t => Sys2Proof.Machine.execCchSelftestDone k t s
  | .scrubPassStart k => Sys2Proof.Machine.execScrubPassStart k s
  | .xipFetch offset => Sys2Proof.Machine.execXipFetch offset s
  | .xipFillDone data bad => Sys2Proof.Machine.execXipFillDone data bad s
  | .prsRead f q => Sys2Proof.Machine.execPrsRead f q s
  | .prsFastRead f q => Sys2Proof.Machine.execPrsFastRead f q s
  | .prsReadDual f q wide => Sys2Proof.Machine.execPrsReadDual f q wide s
  | .prsReadQuad f q wide => Sys2Proof.Machine.execPrsReadQuad f q wide s
  | .prsReadQuadDtr f q => Sys2Proof.Machine.execPrsReadQuadDtr f q s
  | .prsReadOctal f q => Sys2Proof.Machine.execPrsReadOctal f q s
  | .prsReadOctalDtr f q => Sys2Proof.Machine.execPrsReadOctalDtr f q s
  | .prsPageProgram f data => Sys2Proof.Machine.execPrsPageProgram f data s
  | .prsPageProgramQuad f data => Sys2Proof.Machine.execPrsPageProgramQuad f data s
  | .prsSectorErase f op => Sys2Proof.Machine.execPrsSectorErase f op s
  | .prsChipErase f => Sys2Proof.Machine.execPrsChipErase f s
  | .prsWriteEnable f => Sys2Proof.Machine.execPrsWriteEnable f s
  | .prsWriteDisable f => Sys2Proof.Machine.execPrsWriteDisable f s
  | .prsReadStatus f len => Sys2Proof.Machine.execPrsReadStatus f len s
  | .prsWriteStatus f => Sys2Proof.Machine.execPrsWriteStatus f s
  | .prsReadId f len => Sys2Proof.Machine.execPrsReadId f len s
  | .prsReadSfdp f len => Sys2Proof.Machine.execPrsReadSfdp f len s
  | .prsEnter4b f => Sys2Proof.Machine.execPrsEnter4b f s
  | .prsExit4b f => Sys2Proof.Machine.execPrsExit4b f s
  | .prsProtocolSelect f data => Sys2Proof.Machine.execPrsProtocolSelect f data s
  | .prsResetEnable f => Sys2Proof.Machine.execPrsResetEnable f s
  | .prsReset f => Sys2Proof.Machine.execPrsReset f s
  | .prsPowerDown f => Sys2Proof.Machine.execPrsPowerDown f s
  | .prsReleasePowerDown f => Sys2Proof.Machine.execPrsReleasePowerDown f s
  | .prsUnknownOpcode f op second len => Sys2Proof.Machine.execPrsUnknownOpcode f op second len s
  | .prsFrameReject f => Sys2Proof.Machine.execPrsFrameReject f s
  | .writeJournalEntry port dev => Sys2Proof.Machine.execWriteJournalEntry port dev s
  | .writeDurable port dev => Sys2Proof.Machine.execWriteDurable port dev s
  | .writeApply port dev => Sys2Proof.Machine.execWriteApply port dev s
  | .commitEntryStart k => Sys2Proof.Machine.execCommitEntryStart k s
  | .deviceLoadDone port dev content ok => Sys2Proof.Machine.execDeviceLoadDone port dev content ok s
  | .lakeIntegrityFail n reread rebuilt => Sys2Proof.Machine.execLakeIntegrityFail n reread rebuilt s
  | .lakeChannelFault n => Sys2Proof.Machine.execLakeChannelFault n s
  | .lakeFailoverDone => Sys2Proof.Machine.execLakeFailoverDone s
  | .judgeStart slot src => Sys2Proof.Machine.execJudgeStart slot src s
  | .judgementDone slot sig bad => Sys2Proof.Machine.execJudgementDone slot sig bad s
  | .verifyDeadlineExpiry slot sig => Sys2Proof.Machine.execVerifyDeadlineExpiry slot sig s
  | .restoreVaultBegin slot => Sys2Proof.Machine.execRestoreVaultBegin slot s
  | .vaultWaitExpiry slot => Sys2Proof.Machine.execVaultWaitExpiry slot s
  | .goldenStore slot read => Sys2Proof.Machine.execGoldenStore slot read s
  | .imageSvnAdvance slot goldens => Sys2Proof.Machine.execImageSvnAdvance slot goldens s
  | .policySvnAdvance => Sys2Proof.Machine.execPolicySvnAdvance s
  | .capsuleStage back bad => Sys2Proof.Machine.execCapsuleStage back bad s
  | .linkUp port rate width flit l0p => Sys2Proof.Machine.execLinkUp port rate width flit l0p s
  | .linkDown port => Sys2Proof.Machine.execLinkDown port s
  | .endpointLinkTimeout j => Sys2Proof.Machine.execEndpointLinkTimeout j s
  | .endpointReadyWaitEnd j => Sys2Proof.Machine.execEndpointReadyWaitEnd j s
  | .deviceReadinessStatus j => Sys2Proof.Machine.execDeviceReadinessStatus j s
  | .configRetry j => Sys2Proof.Machine.execConfigRetry j s
  | .endpointConfigSuccess j mailbox => Sys2Proof.Machine.execEndpointConfigSuccess j mailbox s
  | .endpointReadyTimeout j => Sys2Proof.Machine.execEndpointReadyTimeout j s
  | .spdmVersion j best => Sys2Proof.Machine.execSpdmVersion j best s
  | .spdmCapabilities j cert meas chunk => Sys2Proof.Machine.execSpdmCapabilities j cert meas chunk s
  | .spdmAlgorithms j asym hash measHash dmtf => Sys2Proof.Machine.execSpdmAlgorithms j asym hash measHash dmtf s
  | .spdmDigests j slot0 => Sys2Proof.Machine.execSpdmDigests j slot0 s
  | .spdmCertificate j portion remainder root chainOk => Sys2Proof.Machine.execSpdmCertificate j portion remainder root chainOk s
  | .spdmMeasurements j block sig => Sys2Proof.Machine.execSpdmMeasurements j block sig s
  | .spdmError j notReady => Sys2Proof.Machine.execSpdmError j notReady s
  | .spdmSendTimeout j => Sys2Proof.Machine.execSpdmSendTimeout j s
  | .attestationTimeout j => Sys2Proof.Machine.execAttestationTimeout j s
  | .recheckDue j => Sys2Proof.Machine.execRecheckDue j s
  | .gateContainReq mask => Sys2Proof.Machine.execGateContainReq mask s
  | .gateRechkReq mask => Sys2Proof.Machine.execGateRechkReq mask s
  | .hostConfigRequest port => Sys2Proof.Machine.execHostConfigRequest port s
  | .hostDpcTriggerWrite port trigger => Sys2Proof.Machine.execHostDpcTriggerWrite port trigger s
  | .endpointTlp q t bad => Sys2Proof.Machine.execEndpointTlp q t bad s
  | .hostTlp p t => Sys2Proof.Machine.execHostTlp p t s
  | .vaultDriveRequest inside posted => Sys2Proof.Machine.execVaultDriveRequest inside posted s
  | .ideStreamSecure p selective => Sys2Proof.Machine.execIdeStreamSecure p selective s
  | .ideStreamLeaveSecure p selective => Sys2Proof.Machine.execIdeStreamLeaveSecure p selective s
  | .ideKmRequest p => Sys2Proof.Machine.execIdeKmRequest p s
  | .tdispLockInterface p => Sys2Proof.Machine.execTdispLockInterface p s
  | .tdiError p => Sys2Proof.Machine.execTdiError p s
  | .altProtocolNegotiation port => Sys2Proof.Machine.execAltProtocolNegotiation port s
  | .declare p key bound => Sys2Proof.Machine.execDeclare p key bound s
  | .declareResult p => Sys2Proof.Machine.execDeclareResult p s
  | .arm p key bound => Sys2Proof.Machine.execArm p key bound s
  | .armDeadline p => Sys2Proof.Machine.execArmDeadline p s
  | .resistArmEffect p => Sys2Proof.Machine.execResistArmEffect p s
  | .violWindowEnd p => Sys2Proof.Machine.execViolWindowEnd p s
  | .sliceCheck b idx ok => Sys2Proof.Machine.execSliceCheck b idx ok s
  | .sliceFailoverDone b => Sys2Proof.Machine.execSliceFailoverDone b s
  | .planeFault n more => Sys2Proof.Machine.execPlaneFault n more s
  | .planeFailoverDone => Sys2Proof.Machine.execPlaneFailoverDone s
  | .pldmMediatedPacket port m size => Sys2Proof.Machine.execPldmMediatedPacket port m size s
  | .activateFirmwareRelease port => Sys2Proof.Machine.execActivateFirmwareRelease port s
  | .activateFirmwareResponse port => Sys2Proof.Machine.execActivateFirmwareResponse port s
  | .recordSubmit code src body => Sys2Proof.Machine.execRecordSubmit code src body s
  | .recordDurable => Sys2Proof.Machine.execRecordDurable s
  | .blockTimedClose ring => Sys2Proof.Machine.execBlockTimedClose ring s
  | .chainDone => Sys2Proof.Machine.execChainDone s
  | .waitingRecordWrite => Sys2Proof.Machine.execWaitingRecordWrite s
  | .bootRecordSigned => Sys2Proof.Machine.execBootRecordSigned s
  | .archiveBlock => Sys2Proof.Machine.execArchiveBlock s
  | .nvmeCommandDone back => Sys2Proof.Machine.execNvmeCommandDone back s
  | .nvmeCommandTimeout => Sys2Proof.Machine.execNvmeCommandTimeout s
  | .nvmeControllerReady => Sys2Proof.Machine.execNvmeControllerReady s
  | .nvmeResetTimeout => Sys2Proof.Machine.execNvmeResetTimeout s
  | .checkpoint => Sys2Proof.Machine.execCheckpoint s
  | .checkpointDone => Sys2Proof.Machine.execCheckpointDone s
  | .journalState b h => Sys2Proof.Machine.execJournalState b h s
  | .readBlock b h index offset length => Sys2Proof.Machine.execReadBlock b h index offset length s
  | .closeBlock b h => Sys2Proof.Machine.execCloseBlock b h s
  | .signedHead b h nonce => Sys2Proof.Machine.execSignedHead b h nonce s
  | .readBootRecord b h epoch offset length => Sys2Proof.Machine.execReadBootRecord b h epoch offset length s
  | .readAliasCert b h alg offset length => Sys2Proof.Machine.execReadAliasCert b h alg offset length s
  | .doorbellSq p g value bound => Sys2Proof.Machine.execDoorbellSq p g value bound s
  | .doorbellCq p g value bound => Sys2Proof.Machine.execDoorbellCq p g value bound s
  | .commandFetch p g ok f => Sys2Proof.Machine.execCommandFetch p g ok f s
  | .ledgerExtend => Sys2Proof.Machine.execLedgerExtend s
  | .ledgerRead => Sys2Proof.Machine.execLedgerRead s
  | .quote => Sys2Proof.Machine.execQuote s
  | .quotePlatform => Sys2Proof.Machine.execQuotePlatform s
  | .counterIncrement => Sys2Proof.Machine.execCounterIncrement s
  | .counterRead => Sys2Proof.Machine.execCounterRead s
  | .seal => Sys2Proof.Machine.execSeal s
  | .unseal => Sys2Proof.Machine.execUnseal s
  | .journalNote => Sys2Proof.Machine.execJournalNote s
  | .ringCreate => Sys2Proof.Machine.execRingCreate s
  | .ringDestroy => Sys2Proof.Machine.execRingDestroy s
  | .quotaSet => Sys2Proof.Machine.execQuotaSet s
  | .ledgerAlloc => Sys2Proof.Machine.execLedgerAlloc s
  | .ledgerRelease => Sys2Proof.Machine.execLedgerRelease s
  | .counterAlloc => Sys2Proof.Machine.execCounterAlloc s
  | .counterRelease => Sys2Proof.Machine.execCounterRelease s
  | .capsuleSubmit => Sys2Proof.Machine.execCapsuleSubmit s
  | .completionPost p g ok outOk => Sys2Proof.Machine.execCompletionPost p g ok outOk s
  | .msixGapEnd p v => Sys2Proof.Machine.execMsixGapEnd p v s
  | .batchClose => Sys2Proof.Machine.execBatchClose s
  | .batchSigned second => Sys2Proof.Machine.execBatchSigned second s
  | .hostMemoryRetry p g u => Sys2Proof.Machine.execHostMemoryRetry p g u s
  | .dmaTimeout p g u => Sys2Proof.Machine.execDmaTimeout p g u s
  | .ringWatchdog p g u => Sys2Proof.Machine.execRingWatchdog p g u s
  | .adminRingEnable p value bound => Sys2Proof.Machine.execAdminRingEnable p value bound s
  | .adminRingDisable p value bound => Sys2Proof.Machine.execAdminRingDisable p value bound s
  | .lockstepMismatch => Sys2Proof.Machine.execLockstepMismatch s
  | .spareMismatch => Sys2Proof.Machine.execSpareMismatch s
  | .pairSwitchDone => Sys2Proof.Machine.execPairSwitchDone s
  | .scResetWrite value => Sys2Proof.Machine.execScResetWrite value s
  | .firmwareRestart okA okB => Sys2Proof.Machine.execFirmwareRestart okA okB s
  | .sramWpWrite limit => Sys2Proof.Machine.execSramWpWrite limit s
  | .busTimeout => Sys2Proof.Machine.execBusTimeout s
  | .sicDoneWrite nn value => Sys2Proof.Machine.execSicDoneWrite nn value s
  | .waitForInterrupt => Sys2Proof.Machine.execWaitForInterrupt s
  | .sicWake src on => Sys2Proof.Machine.execSicWake src on s
  | .wdtServe value => Sys2Proof.Machine.execWdtServe value s
  | .wdtKeyWrite value inTime => Sys2Proof.Machine.execWdtKeyWrite value inTime s
  | .wdtEnableWrite value => Sys2Proof.Machine.execWdtEnableWrite value s
  | .wdtExpiry pc => Sys2Proof.Machine.execWdtExpiry pc s
  | .wdtHardTimerEnd => Sys2Proof.Machine.execWdtHardTimerEnd s
  | .wdtClockMonitor pc => Sys2Proof.Machine.execWdtClockMonitor pc s
  | .dgaOpen alg => Sys2Proof.Machine.execDgaOpen alg s
  | .dgaOpenGrant => Sys2Proof.Machine.execDgaOpenGrant s
  | .dgaDataWrite word => Sys2Proof.Machine.execDgaDataWrite word s
  | .dgaLastWrite word => Sys2Proof.Machine.execDgaLastWrite word s
  | .dgaClose ctx => Sys2Proof.Machine.execDgaClose ctx s
  | .dgaExpectWrite idx word => Sys2Proof.Machine.execDgaExpectWrite idx word s
  | .ecdsaP384Verify e ctx key => Sys2Proof.Machine.execEcdsaP384Verify e ctx key s
  | .ecdsaP384Sign e ctx key => Sys2Proof.Machine.execEcdsaP384Sign e ctx key s
  | .mlDsa65Verify e ctx key => Sys2Proof.Machine.execMlDsa65Verify e ctx key s
  | .mlDsa65Sign e ctx key => Sys2Proof.Machine.execMlDsa65Sign e ctx key s
  | .mlDsa87Verify e ctx key => Sys2Proof.Machine.execMlDsa87Verify e ctx key s
  | .mlDsa87Sign e ctx key => Sys2Proof.Machine.execMlDsa87Sign e ctx key s
  | .hssVerify e ctx key => Sys2Proof.Machine.execHssVerify e ctx key s
  | .ecdhP384 e ctx key => Sys2Proof.Machine.execEcdhP384 e ctx key s
  | .mlKem1024Keygen e ctx key => Sys2Proof.Machine.execMlKem1024Keygen e ctx key s
  | .mlKem1024Encaps e ctx key => Sys2Proof.Machine.execMlKem1024Encaps e ctx key s
  | .mlKem1024Decaps e ctx key => Sys2Proof.Machine.execMlKem1024Decaps e ctx key s
  | .sigOpDone e rails => Sys2Proof.Machine.execSigOpDone e rails s
  | .kldFwidWrite idx word => Sys2Proof.Machine.execKldFwidWrite idx word s
  | .kldSvnWrite svn => Sys2Proof.Machine.execKldSvnWrite svn s
  | .kldRandRead => Sys2Proof.Machine.execKldRandRead s
  | .rngHealthFail => Sys2Proof.Machine.execRngHealthFail s
  | .dgaKnownAnswerCheck e ok slots xip meds => Sys2Proof.Machine.execDgaKnownAnswerCheck e ok slots xip meds s
  | .dgaFailoverDone => Sys2Proof.Machine.execDgaFailoverDone s
  | .sigKnownAnswerCheck e ok => Sys2Proof.Machine.execSigKnownAnswerCheck e ok s
  | .sigFailoverDone => Sys2Proof.Machine.execSigFailoverDone s
  | .persistBankFault b => Sys2Proof.Machine.execPersistBankFault b s
  | .persistFailoverDone => Sys2Proof.Machine.execPersistFailoverDone s
  | .cbusPoll idx ack => Sys2Proof.Machine.execCbusPoll idx ack s
  | .cbusRetry idx ack => Sys2Proof.Machine.execCbusRetry idx ack s
  | .ibiRetry b acked => Sys2Proof.Machine.execIbiRetry b acked s
  | .smbusAlertResponse b => Sys2Proof.Machine.execSmbusAlertResponse b s
  | .smbusSclTimeout b => Sys2Proof.Machine.execSmbusSclTimeout b s
  | .tempSensorUpdate reading => Sys2Proof.Machine.execTempSensorUpdate reading s
  | .regRead b h part rsvd count offset => Sys2Proof.Machine.execRegRead b h part rsvd count offset s
  | .regWrite b h offset count rsvd words => Sys2Proof.Machine.execRegWrite b h offset count rsvd words s
  | .mctpControl b => Sys2Proof.Machine.execMctpControl b s
  | .getVersion b => Sys2Proof.Machine.execGetVersion b s
  | .getCapabilities b => Sys2Proof.Machine.execGetCapabilities b s
  | .getCertificate b length => Sys2Proof.Machine.execGetCertificate b length s
  | .tamperRelease n => Sys2Proof.Machine.execTamperRelease n s
  | .vsecAboveVBod => Sys2Proof.Machine.execVsecAboveVBod s
  | .aocAgreement => Sys2Proof.Machine.execAocAgreement s
  | .spdmSecuredSession p => Sys2Proof.Machine.execSpdmSecuredSession p s
  | .tdispStartInterface p => Sys2Proof.Machine.execTdispStartInterface p s
  | .tdispStopInterface p => Sys2Proof.Machine.execTdispStopInterface p s
  | .pldmCancelUpdate b => Sys2Proof.Machine.execPldmCancelUpdate b s
  | .entdaa b addr => Sys2Proof.Machine.execEntdaa b addr s
  | .setdasa b static addr => Sys2Proof.Machine.execSetdasa b static addr s

end Sys2Proof.Machine
end

