-- ==== Sys2Proof/Machine/Tick.lean ====
section
/-!
DEFINITION. What a tick of the device's own time brings: 1 µs (log entry 4).
-/

namespace Sys2Proof.Machine

open Sys2Proof

/-- TIMER_AOT counts while VSEC stands and an oscillator toggles (R93, R514). -/
def tickTimer (s : State) : State :=
  if s.mor.vsec && (s.mor.aocA || s.mor.aocB) then { s with aot := (s.aot + 1) % 2 ^ 48 } else s

/-- The watchdog counts (R438): not with Hold as the only service, nor with no service pair in service. -/
def wdtCounts (s : State) : Bool :=
  s.sc.mainGood && !s.sc.holdOnly && (s.sc.pairA || s.sc.pairB) && decide (s.wdt.st = .running) && (if s.wdt.clkSel then true else s.mor.aocA)

/-- Cycles of the watchdog clock in 1 µs: 32 of AOC_A, 25 of CLK25 (R93, R438). -/
def wdtCycles (w : Wdt) : Nat := if w.clkSel then 25 else 32

/-- WDT_COUNT counts down (R438). -/
def tickWdt (s : State) : State :=
  if wdtCounts s then upWdt (fun w => { w with count := w.count - wdtCycles w }) s else s

/-- One tick: the timer and the watchdog count, TLPs under way are delivered (R337), the alert of HIGH is raised (R361), and a
management request that waited is answered on each port (R385). -/
def tick (s : State) : State := mgtServe true (mgtServe false (highAlert (deliverDue (tickWdt (tickTimer s)))))

end Sys2Proof.Machine
end

