-- ==== Sys2Proof/Machine/Step.lean ====
section
/-!
DEFINITION. One step of the device: the command at the front of the queue, or a tick of its own time on an empty queue.
-/

namespace Sys2Proof.Machine

open Sys2Proof

/-- The state with a queue. -/
def withPending (q : List Instr) (s : State) : State := { s with pending := q }

/-- One step. -/
def step (s : State) : Host.Outcome State Fault Refusal :=
  match s.pending with
  | [] => .next (tick s)
  | c :: r => exec c (withPending r s)

/-- The state with the command a table word spells at the front of its queue. -/
def State.withFetchWord (s : State) (nbits w : Nat) : State :=
  match decodeTableWord nbits w with
  | none => s
  | some c => withPending (c :: s.pending) s

end Sys2Proof.Machine
end

