-- ==== Sys2Proof/Safety.lean ====
section
/-!
DEFINITION. What a safe run is, in the terms the claims use: nothing burned is lost, the write of a table keeps its one form,
what the Custody Trip holds stays held, and a release rests on a locked configuration.
-/

namespace Sys2Proof.Machine

open Sys2Proof

/-- The command completes in this state, and what its next state holds. -/
def Runs (c : Instr) (s : State) (P : State → Prop) : Prop := ∃ t, exec c s = .next t ∧ P t

/-- A record on which an effect waits becomes durable as it is submitted (R31, R358, R362). -/
def durableNow (s : State) (code src : Nat) (body : Bytes) (g : Gate) : Bool :=
  paOk s && (evGated s.aot (rateOf s) code src body g s.ev).2

/-- The state with such a record durable. -/
def recorded (s : State) (code src : Nat) (body : Bytes) (g : Gate) : State :=
  { s with ev := (evGated s.aot (rateOf s) code src body g s.ev).1 }

/-- Bit b of OTP word a reads 1 at the low (`hi = false`) or at the high margin. -/
def otpBitOn (s : State) (hi : Bool) (a b : Nat) : Bool :=
  if hi then (otpWord s.otp a).hi.getLsbD b else (otpWord s.otp a).lo.getLsbD b

/-- Nothing that reads 1 in the OTP array of s reads 0 in that of t (R129: programming is one-way). -/
def OtpKept (s t : State) : Prop := ∀ hi a b, otpBitOn s hi a b = true → otpBitOn t hi a b = true

/-- The OTP array is in its one canonical form. -/
def OtpCanonical (s : State) : Prop := tabWf ⟨0, 0⟩ s.otp.words = true

/-- While TRIP is shown and has acted on the domains, no TRIP_HOLD domain is RELEASED (R118). -/
def TripHolds (s : State) : Prop :=
  s.mor.trip = true → s.mor.asyncTrip = false → ∀ d, tripHold s d = true → domSt s d ≠ .released

/-- A RELEASED domain rests on a locked configuration (R111). -/
def ReleaseLocked (s : State) : Prop := ∀ d, domSt s d = .released → s.mor.lock = true

/-- A Hold shows on the wires: an output of a domain that is neither RELEASED nor under Vat custody is low (R23). -/
def HoldsLow (s : State) : Prop :=
  ∀ o d, outDom s o = some d → domSt s d ≠ .released → (o < 48 ∨ inVat (epOf s (o - 48)).st = false) → outLevel s o = false

end Sys2Proof.Machine
end

