-- ==== Sys2Proof/Certificates/Slice0/Obligations.lean ====
section
/-!
DEFINITION. The statements for the provers. A witness for the hypotheses of each stands in Sys2Proof/Tests/Slice0.lean.
-/

open Sys2Proof Sys2Proof.Machine

/-- With a command at the front of the queue, a step is exec of that command on the state with the queue's rest, and
nothing else of the state differs; on an empty queue a step is one tick of the device's own time, which always answers
(the model's choice, log entry 4). (00_scope.md: what the device does with commands) Derived. -/
def Obligations.StepTakesTheFront : Prop :=
  (∀ (c : Instr) (r : List Instr) (s : State), s.pending = c :: r →
      step s = exec c { s with pending := r }) ∧
  (∀ (s : State), s.pending = [] →
      step s = .next (tick s))

/-- For every state a step answers a next state: no command of the table ends in a fault or a refusal, and an idle
step does not either. Where the spec leaves a case open this is the model's choice (log entry 28). (00_scope.md,
14_faults_degradation_time_budgets.md: failures are effects on the state) Derived. -/
def Obligations.EveryStepAnswersNext : Prop :=
  (∀ (s : State), ∃ t, step s = .next t)

/-- For every command and state, if exec answers a next state its queue is the queue of the state before (the queue is
the model's own field). (00_scope.md) Derived. -/
def Obligations.CommandsLeaveTheQueue : Prop :=
  (∀ (c : Instr) (s t : State), exec c s = .next t →
      t.pending = s.pending)

/-- For every state and every step that answers a next state, each bit of each OTP word that reads 1 at a margin reads
1 at that margin afterwards, whatever the command: reset events, programs, life-cycle steps, the owner binding, test
mode and ticks. (04_fuses_life_cycle_debug.md: the OTP array, programming in one direction, R11, R12) Derived. -/
def Obligations.BurnedFusesStayBurned : Prop :=
  (∀ (s t : State), step s = .next t →
      OtpKept s t)

/-- If the OTP array of a state is a table in canonical form, so is the array of every next state of a step.
(04_fuses_life_cycle_debug.md: the OTP array of 2,048 words) Derived. -/
def Obligations.OtpArrayStaysCanonical : Prop :=
  (∀ (s t : State), OtpCanonical s ∧ step s = .next t →
      OtpCanonical t)

/-- The OTP array of the reset state is in its canonical form. After a P event CUST_STAT shows POWER_ON, no trip is
shown, the configuration lock is clear, every domain is HELD, every custody output is low, TIMER_AOT is 0, no channel
serves, no endpoint is released, no ring exists, the window is not locked and the watchdog holds its reload value. No
domain is RELEASED without the lock or under a trip. Where the spec leaves a case open this is the model's choice (log
entries 3, 6, 65). (03_start_hold_and_release.md: POWER_ON, 13_service_complex.md: WDT_LOAD, 06_custody_channels.md:
XIP_CTRL, 12_norxel_service_rings.md: ring states) Derived. -/
def Obligations.ResetState : Prop :=
  (OtpCanonical State.reset) ∧
  (custStat State.reset = 0 ∧ State.reset.mor.trip = false ∧ State.reset.mor.lock = false ∧ State.reset.aot = 0 ∧ State.reset.xip.lock = false ∧ State.reset.wdt.load = 0x01000000 ∧ State.reset.wdt.count = 0x01000000) ∧
  (∀ (d : Nat), domSt State.reset d = .held) ∧
  (∀ (o : Nat), outLevel State.reset o = false) ∧
  (∀ (k : Nat), (chanOf State.reset k).st = .off ∧ (epOf State.reset k).st = .isSealed) ∧
  (∀ (p g : Nat), (ringOf State.reset p g).st = .absent) ∧
  (ReleaseLocked State.reset ∧ TripHolds State.reset ∧ tabWf .held State.reset.mor.dom = true)

/-- For every state and every output that MORDANT_OUT_MAP assigns to no domain, the driven level is low; an output has
at most one domain. (R23) -/
def Obligations.UnassignedOutputsStayLow : Prop :=
  (∀ (s : State) (o : Nat), outDom s o = none →
      outLevel s o = false) ∧
  (∀ (s : State) (o d e : Nat), outDom s o = some d ∧ outDom s o = some e →
      d = e)

/-- VSEC_POWER_ON and VSEC_OFF leave every domain HELD, every output low, no trip, no lock, the timer at 0 and the
fuses as they were but for a burn that the event interrupts; MAIN_RAIL_FAIL (also before every rail was good, R86) and
PLL_LOSS_OF_LOCK leave no domain RELEASED, the lock clear, the main set off, the trip as it was and the fuses as they
were but for such a burn. Each of these answers a next state under conditions on the state and operands alone:
vsecPowerOn, vsecOff, mainRailFail, pllLossOfLock. Where the spec leaves a case open this is the model's choice (log
entries 17, 70). (R11, R86, R488, 02_balls_supplies_package.md: VSEC) Derived. -/
def Obligations.SupplyEvents : Prop :=
  (∀ (s : State), (∃ t, exec .vsecPowerOn s = .next t ∧ t.mor.vsec = true ∧ t.mor.latched = false ∧ t.mor.trip = false ∧ t.mor.lock = false ∧ t.mor.phase = 0 ∧ t.aot = 0 ∧ (∀ d, domSt t d = .held) ∧ (∀ o, outLevel t o = false) ∧ t.otp.words = (otpInterrupt s.otp).words ∧ t.pending = s.pending)) ∧
  (∀ (s : State), s.mor.vsec = true →
      (∃ t, exec .vsecOff s = .next t ∧ t.mor.vsec = false ∧ t.mor.latched = false ∧ t.mor.trip = false ∧ t.mor.lock = false ∧ t.mor.phase = 0 ∧ t.aot = 0 ∧ (∀ d, domSt t d = .held) ∧ (∀ o, outLevel t o = false) ∧ t.otp.words = (otpInterrupt s.otp).words ∧ t.pending = s.pending)) ∧
  (∀ (s : State), s.mor.vsec = true →
      (∃ t, exec .mainRailFail s = .next t ∧ t.sc.mainGood = false ∧ t.mor.lock = false ∧ (∀ d, domSt t d ≠ .released) ∧ t.mor.trip = s.mor.trip ∧ t.otp.words = (otpInterrupt s.otp).words ∧ t.aot = s.aot)) ∧
  (∀ (s : State), s.mor.vsec = true ∧ s.sc.mainGood = true →
      (∃ t, exec .pllLossOfLock s = .next t ∧ t.sc.mainGood = false ∧ t.mor.lock = false ∧ (∀ d, domSt t d ≠ .released) ∧ t.mor.trip = s.mor.trip ∧ t.otp.words = (otpInterrupt s.otp).words ∧ t.aot = s.aot))

/-- With no trip source active, CRITICAL_FUSE_LATCH_COMPLETE latches the critical wires of the OTP array and the
straps by majority, sets the phase to HOLD and the modes of the management ports, and changes nothing else; with a
TAMP_N input low it ends with a trip shown. MAIN_SET_GOOD, in HOLD with every condition of the start, brings the main
set up with VIO_MGT in its class and CCH_00 in self-test and leaves the Mordant, the OTP and the evidence as they
were. Each of these answers a next state under conditions on the state and operands alone: criticalFuseLatchComplete,
mainSetGood. (R96, R516, R85, 03_start_hold_and_release.md: straps) Derived. -/
def Obligations.LatchAndStart : Prop :=
  (∀ (a b c : BitVec 8) (s : State), s.mor.vsec = true ∧ s.mor.latched = false ∧ s.mor.tampLow = 0 ∧ s.mor.aocDis = false →
      exec (.criticalFuseLatchComplete a b c) s = .next { s with otp := otpLatch s.otp, mor := { s.mor with latched := true, strap := majority a b c, phase := 1 }, mgtA := { s.mgtA with mode := if (majority a b c).getLsbD 2 then .smbus else .i3c }, mgtB := { s.mgtB with mode := if (majority a b c).getLsbD 3 then .smbus else .i3c }, reply := .none }) ∧
  (∀ (a b c : BitVec 8) (s : State) (i : Nat), s.mor.vsec = true ∧ s.mor.latched = false ∧ i < 4 ∧ s.mor.tampLow.getLsbD i = true →
      (∃ t, exec (.criticalFuseLatchComplete a b c) s = .next t ∧ t.mor.trip = true ∧ t.mor.latched = true)) ∧
  (∀ (mg : VioClass) (cch prs : List (Nat × VioClass)) (v : VioClass) (s : State), s.mor.vsec = true ∧ s.mor.latched = true ∧ s.mor.brown = false ∧ s.sc.mainGood = false ∧ s.mor.phase = 1 ∧ s.mor.floorCause = 0 ∧ (0, v) ∈ cch →
      (∃ t, exec (.mainSetGood mg cch prs) s = .next t ∧ t.sc.mainGood = true ∧ t.sc.vioMgt = some mg ∧ t.sc.selfTestDue = true ∧ (chanOf t 0).st = .selftest ∧ t.mor = s.mor ∧ t.otp = s.otp ∧ t.ev = s.ev))

/-- What each of these events leaves in the Mordant: the ones that are no trip source change their own field and
nothing else; the trip sources end, once the critical wires are latched, with the trip shown. Each of these answers a
next state under conditions on the state and operands alone: vsecBrownout, vsecAboveVBod, tamperAssert, tamperRelease,
aocDisagreement, aocAgreement, aocStopped, aocResumed. Where the spec leaves a case open this is the model's choice
(log entries 67, 68). (03_start_hold_and_release.md: AOC and trip sources, R516, 15_electrical_and_timing.md:
oscillators, 02_balls_supplies_package.md: brownout) Derived. -/
def Obligations.OscillatorsAndTamper : Prop :=
  (∀ (s : State), s.mor.vsec = true ∧ s.mor.latched = true ∧ s.mor.brown = false →
      (∃ t, exec .vsecBrownout s = .next t ∧ t.mor.brown = true ∧ t.mor.trip = true)) ∧
  (∀ (s : State), s.mor.vsec = true ∧ s.mor.brown = true →
      exec .vsecAboveVBod s = .next (say .none (upMor (fun m => { m with brown := false }) s))) ∧
  (∀ (n : BitVec 2) (s : State), s.mor.vsec = true ∧ s.mor.latched = true ∧ s.mor.tampLow.getLsbD n.toNat = false →
      (∃ t, exec (.tamperAssert n) s = .next t ∧ t.mor.tampLow = putBit s.mor.tampLow n.toNat true ∧ t.mor.trip = true)) ∧
  (∀ (n : BitVec 2) (s : State), s.mor.vsec = true ∧ s.mor.latched = false ∧ s.mor.tampLow.getLsbD n.toNat = false →
      exec (.tamperAssert n) s = .next (say .none (upMor (fun m => { m with tampLow := putBit m.tampLow n.toNat true }) s))) ∧
  (∀ (n : BitVec 2) (s : State), s.mor.vsec = true ∧ s.mor.tampLow.getLsbD n.toNat = true →
      exec (.tamperRelease n) s = .next (say .none (upMor (fun m => { m with tampLow := putBit m.tampLow n.toNat false }) s))) ∧
  (∀ (s : State), s.mor.vsec = true ∧ s.mor.latched = true ∧ s.mor.aocDis = false →
      (∃ t, exec .aocDisagreement s = .next t ∧ t.mor.aocDis = true ∧ t.mor.aocSel = !s.mor.aocA ∧ t.mor.trip = true)) ∧
  (∀ (s : State), s.mor.vsec = true ∧ s.mor.aocDis = true ∧ s.mor.aocA = true ∧ s.mor.aocB = true →
      exec .aocAgreement s = .next (say .none (upMor (fun m => { m with aocDis := false, aocSel := false }) s))) ∧
  (∀ (s : State), s.mor.vsec = true ∧ s.mor.aocA = true ∧ s.mor.aocB = true ∧ s.mor.aocDis = false →
      exec (.aocStopped false) s = .next (say .none (upMor (fun m => { m with aocA := false }) s)) ∧ exec (.aocStopped true) s = .next (say .none (upMor (fun m => { m with aocB := false }) s))) ∧
  (∀ (s : State), s.mor.vsec = true ∧ s.mor.aocA = true ∧ s.mor.aocB = true ∧ s.mor.aocDis = true →
      (∃ t, exec (.aocStopped false) s = .next t ∧ t.mor.aocA = false ∧ t.mor.aocSel = true ∧ t.mor.aocDis = true ∧ t.mor.trip = s.mor.trip)) ∧
  (∀ (s : State), s.mor.vsec = true ∧ s.mor.latched = true ∧ s.mor.aocA = true ∧ s.mor.aocB = false →
      (∃ t, exec (.aocStopped false) s = .next t ∧ t.mor.aocA = false ∧ t.mor.aocDis = true ∧ t.mor.trip = true)) ∧
  (∀ (s : State), s.mor.vsec = true ∧ s.mor.aocA = false ∧ s.mor.aocB = true →
      exec (.aocResumed false) s = .next (say .none (upMor (fun m => { m with aocA := true }) s))) ∧
  (∀ (b : Bool) (s : State), s.mor.vsec = true ∧ s.mor.aocA = false ∧ s.mor.aocB = false →
      (∃ t, exec (.aocResumed b) s = .next t ∧ t.mor.aocB = b ∧ t.mor.aocA = !b ∧ t.mor.aocSel = b ∧ t.mor.asyncTrip = false ∧ t.mor.trip = s.mor.trip))

/-- VIO_RST_GOOD records the class of VIO_RST, VIO_RST_LOST leaves it not good with every custody output low; a low
bank of a custody channel in service stops the channel, and a low bank of a presentation port fails the devices that
load or serve. Without VSEC, or with VIO_RST not good, an output is at high impedance; a boundary-scan cell that
drives low makes its output low; an output of a domain that is neither RELEASED nor under Vat custody is low. Each of
these answers a next state under conditions on the state and operands alone: vioRstGood, vioRstLost, vioBankLow. Where
the spec leaves a case open this is the model's choice (log entry 91). (R18, R77, R80, R94,
03_start_hold_and_release.md: the custody outputs, 07_presentation_ports_and_image_lake.md: states of an emulated
device, 06_custody_channels.md: CCH_STATUS) Derived. -/
def Obligations.BankEvents : Prop :=
  (∀ (v : VioClass) (s : State), s.mor.vsec = true ∧ s.mor.vioRst = none →
      (∃ t, exec (.vioRstGood v) s = .next t ∧ t.mor.vioRst = some v ∧ t.mor.trip = s.mor.trip ∧ t.mor.lock = s.mor.lock ∧ t.otp = s.otp)) ∧
  (∀ (s : State), s.mor.vsec = true ∧ s.mor.vioRst.isSome = true →
      (∃ t, exec .vioRstLost s = .next t ∧ t.mor.vioRst = none ∧ (∀ o, outLevel t o = false) ∧ t.mor.trip = s.mor.trip ∧ t.otp = s.otp)) ∧
  (∀ (k : Nat) (s : State), k ≠ 0 ∧ (chanOf s k).vio.isSome = true ∧ (chanOf s k).st = .ready →
      (∃ t, exec (.vioBankLow false k) s = .next t ∧ (chanOf t k).st = .stopped ∧ (chanOf t k).frame = none ∧ (chanOf t k).vio = (chanOf s k).vio)) ∧
  (∀ (k d : Nat) (s : State), (portOf s k).vio.isSome = true ∧ d < 2 ∧ (emOf s (emKey k d)).st = .serving →
      (∃ t, exec (.vioBankLow true k) s = .next t ∧ (emOf t (emKey k d)).st = .failed ∧ (emOf t (emKey k d)).pend = none ∧ (portOf t k).vio = none ∧ t.mor = s.mor ∧ t.chans = s.chans)) ∧
  (∀ (s : State) (o : Nat), s.mor.vsec = false ∨ s.mor.vioRst = none →
      pad s o = .hiZ) ∧
  (∀ (s : State) (o : Nat), s.mor.vsec = true ∧ s.mor.vioRst.isSome = true ∧ s.mor.bscan.getLsbD o = true →
      pad s o = .low ∧ outLevel s o = false) ∧
  (∀ (s : State), HoldsLow s)

/-- For every state whose released domains have an attribute word, with a clock that toggles, VIO_RST_LOST leaves no
domain RELEASED. Each of these answers a next state under conditions on the state and operands alone: vioRstLost.
(02_balls_supplies_package.md: VIO_RST, R80) Derived. -/
def Obligations.VioRstLossHoldsEverything : Prop :=
  (∀ (s : State), clocked s = true ∧ s.mor.vioRst.isSome = true ∧ (∀ d, domSt s d = .released → d ∈ domsListed s) →
      (∃ t, exec .vioRstLost s = .next t ∧ (∀ d, domSt t d ≠ .released)))

/-- HOT_RESET and UPSTREAM_LINK_DOWN of a partition that exists leave its rings ABSENT and its Resist and CSF state as
after reset (the count of violations of the running window stays), and change no state of Resist of another partition,
no channel, no fuse and no trip. Each of these answers a next state under conditions on the state and operands alone:
hotReset, upstreamLinkDown. Where the spec leaves a case open this is the model's choice (log entries 48, 60). (R11,
R292, 09_fabric_links_and_endpoint_custody.md: H events, 12_norxel_service_rings.md: reset of rings) Derived. -/
def Obligations.HotResetOfAPartition : Prop :=
  (∀ (p : Nat) (s : State), (s.run.policy.bind (fun q => polUpstream q p)).isSome = true ∧ p < 4 ∧ s.nrx.jobs = [] →
      (∃ t, exec (.hotReset p) s = .next t ∧ partRings t p = [] ∧ tabGet part0 t.fab.parts p = { part0 with viol := (tabGet part0 s.fab.parts p).viol, escalated := (tabGet part0 s.fab.parts p).escalated } ∧ (∀ q, q ≠ p → tabGet part0 t.fab.parts q = tabGet part0 s.fab.parts q) ∧ t.chans = s.chans ∧ t.otp = s.otp ∧ t.mor.trip = s.mor.trip)) ∧
  (∀ (p : Nat) (s : State), (s.run.policy.bind (fun q => polUpstream q p)).isSome = true ∧ p < 4 ∧ s.nrx.jobs = [] →
      (∃ t, exec (.upstreamLinkDown p) s = .next t ∧ partRings t p = [] ∧ tabGet part0 t.fab.parts p = { part0 with viol := (tabGet part0 s.fab.parts p).viol, escalated := (tabGet part0 s.fab.parts p).escalated } ∧ (∀ q, q ≠ p → tabGet part0 t.fab.parts q = tabGet part0 s.fab.parts q) ∧ t.chans = s.chans ∧ t.otp = s.otp ∧ t.mor.trip = s.mor.trip))

/-- From every state with the critical wires latched, a clock that toggles and no trip shown, the trip key written to
MORDANT_TRIP_REQ leaves the trip shown, every domain with TRIP_HOLD in TRIP_HELD and each of its outputs low, and no
downstream link up; any other value written changes nothing. A trip that came with no clock acts on the domains when a
clock resumes. Each of these answers a next state under conditions on the state and operands alone: tripReqWrite,
aocResumed. Where the spec leaves a case open this is the model's choice (log entries 55, 66, 101).
(03_start_hold_and_release.md: Custody Trip, R49, 09_fabric_links_and_endpoint_custody.md: trip at the gate) Derived.
-/
def Obligations.TripActs : Prop :=
  (∀ (s : State), coreRuns s = true ∧ clocked s = true ∧ s.mor.trip = false →
      (∃ t, exec (.tripReqWrite 0x54524950) s = .next t ∧ t.mor.trip = true ∧ (∀ d, tripHold s d = true → domSt t d = .tripHeld ∧ ∀ o, outDom s o = some d → outLevel t o = false) ∧ (∀ j, j ∈ epsAll s → (epOf t j).link = false))) ∧
  (∀ (v : BitVec 32) (s : State), coreRuns s = true ∧ (s.mor.aocA = true ∨ s.mor.aocB = true) ∧ v ≠ 0x54524950 →
      exec (.tripReqWrite v) s = .next (say .none s)) ∧
  (∀ (b : Bool) (s : State), s.mor.vsec = true ∧ s.mor.latched = true ∧ s.mor.aocA = false ∧ s.mor.aocB = false ∧ s.mor.trip = true →
      (∃ t, exec (.aocResumed b) s = .next t ∧ t.mor.trip = true ∧ TripHolds t))

/-- TRIP_RECORD takes the oldest trip note, writes its source to MORDANT_TRIP_CAUSE and raises TRIP_SEQ exactly when
the note set the trip. A held request for a released domain leaves that domain not RELEASED. A release request for a
domain with no final hold, whose channels and the Lake are in service, makes 0x0004 durable and sets its request bit
before the Interlock evaluates; for any other domain it writes nothing. Each of these answers a next state under
conditions on the state and operands alone: tripRecord, holdRequest, releaseRequest. Where the spec leaves a case open
this is the model's choice (log entries 58, 100). (03_start_hold_and_release.md: TRIP_SEQ, MORDANT_HOLD_REQ,
MORDANT_REL_REQ, R31) Derived. -/
def Obligations.TripRecordAndRequests : Prop :=
  (∀ (s : State) (n : TripNote) (r : List TripNote), s.mor.tripNotes = n :: r ∧ s.sc.mainGood = true ∧ s.sc.selfTestDue = false ∧ s.sc.holdOnly = false ∧ s.mor.aocA = true ∧ paUp s = true →
      (∃ t, exec .tripRecord s = .next t ∧ t.mor = { s.mor with tripNotes := r, tripSrc := n.src } ∧ t.ev.tripSeq = s.ev.tripSeq + (if n.first then 1 else 0) ∧ t.otp = s.otp ∧ t.fab = s.fab)) ∧
  (∀ (m : BitVec 32) (s : State) (d : Nat), coreRuns s = true ∧ clocked s = true ∧ d < 32 ∧ m.getLsbD d = true ∧ domSt s d = .released →
      (∃ t, exec (.holdRequest m) s = .next t ∧ domSt t d ≠ .released ∧ t.mor.relReq.getLsbD d = false ∧ t.otp = s.otp)) ∧
  (∀ (d : Nat) (s : State), fwRuns s = true ∧ s.mor.aocA = true ∧ d < 32 ∧ s.mor.relReq.getLsbD d = false ∧ relAble s d = true ∧ durableNow s 0x0004 1 (releasedBody s d) (.relReq d) →
      exec (.releaseRequest (BitVec.ofNat 32 1 <<< d)) s = .next (say .none (relEvaluate [d] (relReqBit d (recorded s 0x0004 1 (releasedBody s d) (.relReq d)))))) ∧
  (∀ (d : Nat) (s : State), fwRuns s = true ∧ s.mor.aocA = true ∧ relAble s d = false →
      exec (.releaseRequest (BitVec.ofNat 32 1 <<< d)) s = .next (say .none (relEvaluate [] s)) ∧ relEvaluate [] s = settle s)

/-- For every state in which a RELEASED domain implies the configuration lock and the table of domain states is in its
one canonical form, the same holds after every step, whatever the command. For every state, mask and domain: if a
domain is RELEASED after a release request and was not before, then the configuration lock is set, VIO_RST is good,
the domain is in use, the trip does not hold it, every prerequisite is RELEASED, and either the domain is
UNVERIFIED_OK or every slot mapped to it held PASS. Where the spec leaves a case open this is the model's choice (log
entry 100). (R110, R111, R80, 03_start_hold_and_release.md: the Release Interlock) Derived. -/
def Obligations.ReleaseNeedsTheInterlock : Prop :=
  (∀ (m : BitVec 32) (s t : State) (d : Nat), exec (.releaseRequest m) s = .next t ∧ domSt t d = .released ∧ domSt s d ≠ .released →
      s.mor.lock = true ∧ s.mor.vioRst.isSome = true ∧ inUse s d = true ∧ (s.mor.trip && tripHold s d) = false ∧ (∀ p, p ∈ prereqs s d → domSt t p = .released) ∧ (unverOk s d = true ∨ slotsPass s d = true)) ∧
  (∀ (s t : State), ReleaseLocked s ∧ tabWf .held s.mor.dom = true ∧ step s = .next t →
      ReleaseLocked t ∧ tabWf .held t.mor.dom = true)

/-- A READ, SCAN, permitted PROGRAM or refused PROGRAM becomes the operation in progress and changes only the OTP
controller; a command while BUSY only sets DROPPED; OTP_OP_DONE ends the operation and leaves the controller idle, or
begins the life-cycle step that waited for it. A read of a KEY word ends with 0 and REFUSED. Each of these answers a
next state under conditions on the state and operands alone: otpRead, otpScan, otpProgram, otpLcStep, otpOpDone. Where
the spec leaves a case open this is the model's choice (log entries 69, 70, 133). (04_fuses_life_cycle_debug.md:
OTPC_CMD, OTPC_STATUS, R132) Derived. -/
def Obligations.OtpOperations : Prop :=
  (∀ (a : BitVec 11) (s : State), coreRuns s = true ∧ s.otp.busy = none →
      exec (.otpRead a) s = .next (say .none (upOtp (fun o => { o with op := 0, addr := a.toNat, dropped := false, busy := some (.read a.toNat) }) s))) ∧
  (∀ (s : State), coreRuns s = true ∧ s.otp.busy = none →
      exec .otpScan s = .next (say .none (upOtp (fun o => { o with op := 2, addr := 0, dropped := false, busy := some .scan }) s))) ∧
  (∀ (a : BitVec 11) (d : BitVec 32) (s : State), coreRuns s = true ∧ s.otp.busy = none ∧ (a.toNat < 516 ∨ 544 ≤ a.toNat) ∧ otpProgramPermitted s.otp s.mor.lock a.toNat = true ∧ otpBlank (otpWord s.otp a.toNat) = true →
      exec (.otpProgram a d) s = .next (say .none (upOtp (fun o => { o with data := d, op := 1, addr := a.toNat, dropped := false, busy := some (.program a.toNat d) }) s))) ∧
  (∀ (a : BitVec 11) (d : BitVec 32) (s : State), coreRuns s = true ∧ s.otp.busy = none ∧ (a.toNat < 516 ∨ 544 ≤ a.toNat) ∧ (otpProgramPermitted s.otp s.mor.lock a.toNat = false ∨ otpBlank (otpWord s.otp a.toNat) = false) →
      exec (.otpProgram a d) s = .next (say .none (upOtp (fun o => { o with data := d, op := 1, addr := a.toNat, dropped := false, busy := some .refused }) s))) ∧
  (∀ (a : BitVec 11) (d : BitVec 32) (s : State), coreRuns s = true ∧ s.otp.busy.isSome = true →
      exec (.otpRead a) s = .next (say .none (upOtp (fun o => { o with dropped := true }) s)) ∧ exec (.otpProgram a d) s = .next (say .none (upOtp (fun o => { o with dropped := true }) s)) ∧ exec .otpScan s = .next (say .none (upOtp (fun o => { o with dropped := true }) s)) ∧ exec (.otpLcStep false) s = .next (say .none (upOtp (fun o => { o with dropped := true }) s))) ∧
  (∀ (wl wh : BitVec 39) (s : State), s.otp.busy.isSome = true ∧ s.otp.due = [] →
      (∃ t, exec (.otpOpDone wl wh) s = .next t ∧ t.otp.busy = none ∧ t = { s with otp := t.otp, reply := .none })) ∧
  (∀ (wl wh : BitVec 39) (s : State) (a : Nat), s.otp.busy = some (.read a) ∧ s.otp.due = [] ∧ 544 ≤ a ∧ a ≤ 1023 →
      exec (.otpOpDone wl wh) s = .next (say .none (upOtp (fun o => { o with busy := none, data := 0, result := 4 }) s))) ∧
  (∀ (wl wh : BitVec 39) (s : State) (r : List OtpPend), s.otp.busy.isSome = true ∧ s.otp.due = .lcStep :: r →
      exec (.otpOpDone wl wh) s = .next (say .none (lcStepBegin (upOtp (fun o => { otpDone o wl wh with due := r }) s)))) ∧
  (∀ (s : State), s.otp.busy = none ∧ lcStepPermitted s.otp = true →
      lcStepBegin s = upOtp (fun o => { o with op := 3, addr := 0, dropped := false, busy := some .lcStep }) s) ∧
  (∀ (ow : Bool) (s : State), coreRuns s = true ∧ s.otp.busy = none ∧ lcStepPermitted s.otp = false →
      exec (.otpLcStep ow) s = .next (say .none (upOtp (fun o => { o with op := 3, addr := 0, dropped := false, busy := some .refused }) s)))

/-- A permitted OTP_LC_STEP whose 0x0041 record is durable at once becomes the operation in progress; its end burns
the lowest blank cell, so that the LC count after a step on a thermometer array below 31 is one more, and no OTP word
outside 512 to 514 changes. Each of these answers a next state under conditions on the state and operands alone:
otpLcStep, otpOpDone. Where the spec leaves a case open this is the model's choice (log entries 70, 106).
(04_fuses_life_cycle_debug.md: life-cycle step, R31) Derived. -/
def Obligations.LifeCycleSteps : Prop :=
  (∀ (ow : Bool) (s : State), coreRuns s = true ∧ s.otp.busy = none ∧ lcStepPermitted s.otp = true ∧ durableNow s 0x0041 1 (lcStepBody s (if ow then 2 else 1)) .lcStep = true →
      exec (.otpLcStep ow) s = .next (say .none (upOtp (fun o => { o with op := 3, addr := 0, dropped := false, busy := some .lcStep }) (recorded s 0x0041 1 (lcStepBody s (if ow then 2 else 1)) .lcStep)))) ∧
  (∀ (s : State), s.otp.busy = some .lcStep ∧ s.otp.due = [] ∧ lcThermometer s.otp = true ∧ lcCount s.otp < 31 →
      (∃ t, exec (.otpOpDone 0 0) s = .next t ∧ (lcCount t.otp = lcCount s.otp + 1 ∧ ∀ a, (a < 512 ∨ 514 < a) → otpWord t.otp a = otpWord s.otp a)))

/-- For every OTP word outside the ratchet words and 512 to 515, after OTP_PROGRAM becomes the operation in progress
the word was blank at both margins and its region was open to programs: the VENDOR region not locked, never a KEY word
once Closed, never an OWNER word under LOCK. (R131, R133, 04_fuses_life_cycle_debug.md: OTP regions) Derived. -/
def Obligations.ProgramsOnlyBlankWords : Prop :=
  (∀ (a : BitVec 11) (d : BitVec 32) (s t : State), s.otp.busy = none ∧ exec (.otpProgram a d) s = .next t ∧ t.otp.busy = some (.program a.toNat d) ∧ (a.toNat < 516 ∨ 544 ≤ a.toNat) →
      otpBlank (otpWord s.otp a.toNat) = true ∧ (a.toNat < 512 → s.otp.lockVendor = false) ∧ ¬ (512 ≤ a.toNat ∧ a.toNat < 544) ∧ (544 ≤ a.toNat ∧ a.toNat < 1024 → s.otp.closed = false) ∧ (1024 ≤ a.toNat → s.mor.lock = false))

/-- A push to a full queue sets DROPPED and changes nothing else; an entry pushed while a firmware frame of a READY
channel runs waits at the end of the queue; a read of CCH_QDONE answers the oldest completion and removes it, and
answers 0 with none. Each of these answers a next state under conditions on the state and operands alone: cchQpush,
cchQdoneRead. Where the spec leaves a case open this is the model's choice (log entries 76, 77, 110).
(06_custody_channels.md: CCH_QPUSH, CCH_QDONE) Derived. -/
def Obligations.ChannelQueue : Prop :=
  (∀ (k : Nat) (b : BitVec 32) (s : State), coreRuns s = true ∧ k < 17 ∧ 64 ≤ (chanOf s k).fwq.length →
      exec (.cchQpush k b) s = .next (say .none (upChan k (fun c => { c with dropped := true }) s))) ∧
  (∀ (k : Nat) (b : BitVec 32) (s : State), coreRuns s = true ∧ k < 17 ∧ (chanOf s k).fwq.length < 64 ∧ (chanOf s k).st = .ready ∧ frameFw (chanOf s k) ≠ [] →
      (∃ t, exec (.cchQpush k b) s = .next t ∧ (chanOf t k).fwq = (chanOf s k).fwq ++ [⟨(chanOf s k).push0, (chanOf s k).push1, (chanOf s k).push2, b⟩] ∧ (chanOf t k).dropped = false ∧ (∀ j, j ≠ k → chanOf t j = chanOf s j) ∧ t = { s with chans := t.chans, reply := .none })) ∧
  (∀ (k : Nat) (s : State), coreRuns s = true ∧ k < 17 ∧ (chanOf s k).cq = [] →
      exec (.cchQdoneRead k) s = .next (say (.word 0) s)) ∧
  (∀ (k : Nat) (s : State) (d : QDone) (r : List QDone), coreRuns s = true ∧ k < 17 ∧ (chanOf s k).cq = d :: r ∧ (chanOf s k).fwq = [] →
      exec (.cchQdoneRead k) s = .next (say (.word (packWord [(31, 1), (8, d.status), (0, d.tag.toNat)])) (upChan k (fun c => { c with cq := r }) s)))

/-- At a frame boundary the client the arbiter of R206 chooses gets its frame; a firmware frame that ends good
completes its entries with status 0 unless it waits for WIP; a read that fails below three attempts is read again;
CONT that times out ends the frame. A pushed entry joins the queue and waits there while the channel is neither READY,
STOPPED nor FAILED, while a firmware frame or a status poll of an entry runs, or while the completion queue has no
free place; an entry that reaches the front of a READY channel stays there if it is admitted and completes at once
with its status if it is rejected; a read of CCH_QDONE answers the oldest completion and removes it, and answers 0
with none. Each of these answers a next state under conditions on the state and operands alone: cchFrameStart,
cchFrameEnd, cchContTimeout, cchQpush, cchQdoneRead. Where the spec leaves a case open this is the model's choice (log
entries 56, 74, 76, 77, 81, 82). (06_custody_channels.md: arbitration, frames, CCH_QPUSH, CCH_QDONE, CCH_QDONE.STATUS,
R203, R204) Derived. -/
def Obligations.ChannelFrames : Prop :=
  (∀ (k : Nat) (s : State) (cl : Client), (chanOf s k).st = .ready ∧ (chanOf s k).frame = none ∧ arbiter s k = some cl →
      exec (.cchFrameStart k) s = .next (say .none (grantFrame k cl (upChan k (passedOver (waitingClients s k) cl) s)))) ∧
  (∀ (k : Nat) (cal : Cal) (data : Bytes) (s : State) (f : Frame) (e : QEntry), (chanOf s k).frame = some f ∧ f.client = .firmware ∧ f.kind = .register ∧ f.entries = [e] ∧ qCont e = false ∧ qDir e = true ∧ f.waitWip = false ∧ f.tail = none ∧ (chanOf s k).fwq = [] →
      exec (.cchFrameEnd k true cal data) s = .next (say .none (settle (upChan k (fun c => { c with frame := none, cq := c.cq ++ [⟨qTag e, 0⟩] }) s)))) ∧
  (∀ (k : Nat) (cal : Cal) (data : Bytes) (s : State) (f : Frame), (chanOf s k).frame = some f ∧ f.client = .verify ∧ f.kind = .read ∧ f.entries = [] ∧ f.attempt < 3 ∧ chClk (chanOf s k) ≤ 50 →
      exec (.cchFrameEnd k false cal data) s = .next (say .none (upChan k (fun c => { c with frame := some { f with attempt := f.attempt + 1, omitOp := false, exitFirst := false } }) s))) ∧
  (∀ (k : Nat) (s : State) (f : Frame) (e : QEntry), (chanOf s k).frame = some f ∧ f.entries.getLast? = some e ∧ qCont e = true ∧ f.ended = false →
      exec (.cchContTimeout k) s = .next (say .none (upChan k (fun c => { c with contBroken := true, frame := some { f with ended := true } }) s))) ∧
  (∀ (k : Nat) (b : BitVec 32) (s : State), coreRuns s = true ∧ k < 17 ∧ (chanOf s k).fwq.length < 64 ∧ (((chanOf s k).st ≠ .ready ∧ (chanOf s k).st ≠ .stopped ∧ (chanOf s k).st ≠ .failed) ∨ ((chanOf s k).st = .ready ∧ (frameFw (chanOf s k) ≠ [] ∨ fwPolls (chanOf s k) = true)) ∨ placeFree (chanOf s k) = false) →
      exec (.cchQpush k b) s = .next (say .none (upChan k (fun c => { c with dropped := false, fwq := c.fwq ++ [⟨c.push0, c.push1, c.push2, b⟩] }) s))) ∧
  (∀ (k : Nat) (b : BitVec 32) (s : State), coreRuns s = true ∧ k < 17 ∧ (chanOf s k).fwq = [] ∧ (chanOf s k).st = .ready ∧ frameFw (chanOf s k) = [] ∧ (chanOf s k).contBroken = false ∧ entryReject s k .first ⟨(chanOf s k).push0, (chanOf s k).push1, (chanOf s k).push2, b⟩ = none →
      exec (.cchQpush k b) s = .next (say .none (upChan k (fun c => { c with dropped := false, fwq := [⟨(chanOf s k).push0, (chanOf s k).push1, (chanOf s k).push2, b⟩] }) s))) ∧
  (∀ (k : Nat) (b : BitVec 32) (s : State) (n : Nat), coreRuns s = true ∧ k < 17 ∧ (chanOf s k).fwq = [] ∧ (chanOf s k).st = .ready ∧ frameFw (chanOf s k) = [] ∧ fwPolls (chanOf s k) = false ∧ placeFree (chanOf s k) = true ∧ (chanOf s k).contBroken = false ∧ entryReject s k .first ⟨(chanOf s k).push0, (chanOf s k).push1, (chanOf s k).push2, b⟩ = some n →
      exec (.cchQpush k b) s = .next (say .none (upChan k (fun c => { c with dropped := false, fwq := [], cq := c.cq ++ [⟨qTag ⟨(chanOf s k).push0, (chanOf s k).push1, (chanOf s k).push2, b⟩, n⟩], contBroken := qCont ⟨(chanOf s k).push0, (chanOf s k).push1, (chanOf s k).push2, b⟩ }) s))) ∧
  (∀ (k : Nat) (s : State), coreRuns s = true ∧ k < 17 ∧ (chanOf s k).cq = [] →
      exec (.cchQdoneRead k) s = .next (say (.word 0) s)) ∧
  (∀ (k : Nat) (s : State) (d : QDone) (r : List QDone), coreRuns s = true ∧ k < 17 ∧ (chanOf s k).cq = d :: r ∧ ((chanOf s k).fwq = [] ∨ ((chanOf s k).st = .ready ∧ frameFw (chanOf s k) ≠ [])) →
      exec (.cchQdoneRead k) s = .next (say (.word (packWord [(31, 1), (8, d.status), (0, d.tag.toNat)])) (upChan k (fun c => { c with cq := r }) s)))

/-- A poll that reads WIP set changes nothing, one that reads it clear completes the entry with status 0 and then the
rejected continuation entry that ended the frame, and t_WIPTO completes it WIP_TIMEOUT; a periodic calibration whose
first or second sweep has 8 passing taps in a run sets the tap to the centre of the widest run and the window to its
width, one without stops the channel; a good self-test with no replay makes the channel READY; the commit engine takes
the next entry, and of an erase of part of a block the bytes to preserve are read first; a scrub pass starts from the
first block or is marked overdue. Each of these answers a next state under conditions on the state and operands alone:
cchWipPoll, cchWipTimeout, cchPeriodicCalibration, cchSelftestDone, commitEntryStart, scrubPassStart. Where the spec
leaves a case open this is the model's choice (log entries 74, 75, 78, 81, 111). (06_custody_channels.md: status
polls, calibration, CCH_STATUS, scrub, 07_presentation_ports_and_image_lake.md: commits) Derived. -/
def Obligations.ChannelPollsAndTests : Prop :=
  (∀ (k : Nat) (s : State) (e : QEntry), (chanOf s k).wip0 = some ⟨.firmware, some e, none⟩ ∧ (chanOf s k).fwq = [] →
      exec (.cchWipPoll k false false) s = .next (say .none s) ∧ exec (.cchWipPoll k false true) s = .next (say .none (upChan k (fun c => { c with wip0 := none, cq := c.cq ++ [⟨qTag e, 0⟩] }) s)) ∧ exec (.cchWipTimeout k false) s = .next (say .none (upChan k (fun c => { c with wip0 := none, cq := c.cq ++ [⟨qTag e, 7⟩] }) s))) ∧
  (∀ (k : Nat) (s : State) (e x : QEntry) (n : Nat), (chanOf s k).wip1 = some ⟨.firmware, some e, some (x, n)⟩ ∧ (chanOf s k).fwq = [] →
      exec (.cchWipPoll k true true) s = .next (say .none (upChan k (fun c => { c with wip1 := none, cq := c.cq ++ [⟨qTag e, 0⟩, ⟨qTag x, n⟩] }) s))) ∧
  (∀ (k : Nat) (s : State) (cal : Cal) (v : BitVec 64), k ≠ 0 ∧ (chanOf s k).st = .ready ∧ (chanOf s k).frame = none ∧ 50 < chClk (chanOf s k) ∧ ((8 ≤ (tapRun cal.first).2 ∧ v = cal.first) ∨ ((tapRun cal.first).2 < 8 ∧ 8 ≤ (tapRun cal.again).2 ∧ v = cal.again)) →
      exec (.cchPeriodicCalibration k cal) s = .next (say .none (upChan k (fun c => { c with calOk := true, tap := (tapRun v).1 + ((tapRun v).2 - 1) / 2, window := (tapRun v).2, calDue := false }) s))) ∧
  (∀ (v : BitVec 64) (i : Nat), i < 64 ∧ (tapRun v).1 ≤ i ∧ i < (tapRun v).1 + (tapRun v).2 →
      v.getLsbD i = true) ∧
  (∀ (k : Nat) (s : State) (cal : Cal), (chanOf s k).st = .ready ∧ (chanOf s k).frame = none ∧ 50 < chClk (chanOf s k) ∧ (tapRun cal.first).2 < 8 ∧ (tapRun cal.again).2 < 8 →
      (∃ t, exec (.cchPeriodicCalibration k cal) s = .next t ∧ (chanOf t k).st = .stopped ∧ (chanOf t k).calOk = false)) ∧
  (∀ (k d0 d1 : Nat) (cal : Cal) (cont : Bool) (s : State), k ≠ 0 ∧ (chanOf s k).st = .selftest ∧ chConfigOk (chanOf s k) = true ∧ chClk (chanOf s k) ≤ 50 ∧ (chanOf s k).geom.getLsbD 28 = true ∧ fieldOf (chanOf s k).geom 0 6 ≤ d0 ∧ (chanOf s k).geom.getLsbD 29 = false ∧ (s.replay.any (fun e => decide (e.channel = k))) = false →
      (∃ t, exec (.cchSelftestDone k ⟨true, d0, d1, cal, true, cont⟩) s = .next t ∧ (chanOf t k).st = .ready ∧ (∀ i, i ∈ imgsOn s k → (imgOf t i).st ≠ .waiting) ∧ t.mor = s.mor)) ∧
  (∀ (k : Nat) (s : State) (e : JEntry), (chanOf s k).st = .ready ∧ (chanOf s k).commit = none ∧ nextCommit s k = some (e, false) →
      exec (.commitEntryStart k) s = .next (say .none (upChan k (fun c => { c with commit := some (if commitPartial (chanOf s k) e = true ∧ e.kept = none then ⟨e, commitReads (chanOf s k) e, false, none, []⟩ else ⟨e, commitFrames (chanOf s k) e, false, e.kept, []⟩) }) s))) ∧
  (∀ (k : Nat) (s : State) (r : ChannelRec), (chanOf s k).st = .ready ∧ s.run.policy.bind (fun p => polChannel p k) = some r ∧ r.scrubPeriod ≠ 0 ∧ ((imgsOn s k).all (imgSettled s)) = true →
      (∃ t, exec (.scrubPassStart k) s = .next t ∧ (chanOf t k).scrubActive = true ∧ ((chanOf s k).scrubActive = true → (chanOf t k).scrubLate = true) ∧ ((chanOf s k).scrubActive = false → (chanOf t k).scrubNext = 0 ∧ (chanOf t k).scrubSkipped = 0) ∧ t = { s with chans := t.chans, reply := .none }))

/-- For every channel in service, when its bank falls low the channel is STOPPED with no frame, no status poll and no
commit in progress, no pass active, and the other channels are as they were. Each of these answers a next state under
conditions on the state and operands alone: vioBankLow. (R77, 06_custody_channels.md: STOPPED) Derived. -/
def Obligations.StoppedChannelIsEmptied : Prop :=
  (∀ (k : Nat) (s : State), k ≠ 0 ∧ (chanOf s k).vio.isSome = true ∧ ((chanOf s k).st = .ready ∨ (chanOf s k).st = .replay) →
      (∃ t, exec (.vioBankLow false k) s = .next t ∧ ((chanOf t k).st = .stopped ∧ (chanOf t k).frame = none ∧ (chanOf t k).wip0 = none ∧ (chanOf t k).wip1 = none ∧ (chanOf t k).commit = none ∧ (chanOf t k).scrubActive = false ∧ ∀ j, j ≠ k → chanOf t j = chanOf s j)))

/-- For every first entry of a frame whose length and fields are in form: one that the list of R208 does not hold is
rejected with status 3 on every channel, and on a channel other than CCH_00 an allowed erase entry, or an allowed
program entry, whose range the Lock Map or the update grant does not open is rejected with status 4; so no entry that
erases or programs a byte is admitted with no grant, or with any byte outside the grant, or in a range that touches a
class other than 2, or before the configuration lock, and an admitted entry is in the list. The classes of a range are
those of the Lock Map ranges it meets, and class 1 where a byte lies in none; an admitted program or erase lies in
class 2 only. (06_custody_channels.md: REJECT, 08_verification_recovery_update.md: update grant, R208, R209, R210)
Derived. -/
def Obligations.RejectedOpcodesNeverRun : Prop :=
  (∀ (s : State) (k : Nat) (e : QEntry), fwOpOk (chanOf s k) k e = false →
      entryReject s k .first e ≠ none) ∧
  (∀ (s : State) (k : Nat) (e : QEntry), k ≠ 0 ∧ qProto e = 1 ∧ s.grant = none →
      entryReject s k .first e ≠ none) ∧
  (∀ (s : State) (k : Nat) (e : QEntry), e.len.toNat % 4 = 0 ∧ e.len.toNat ≤ 16777216 ∧ e.ctrl.getLsbD 23 = false ∧ qProto e ≠ 3 ∧ qDummy e ≤ 32 ∧ qAddrMode e ≠ 3 ∧ (0 < e.len.toNat → e.buf.toNat % 4 = 0 ∧ inSram e.buf.toNat e.len.toNat = true) ∧ (qCont e = true → qProto e = 0 ∧ qDir e = false) ∧ fwOpOk (chanOf s k) k e = false →
      entryReject s k .first e = some 3) ∧
  (∀ (s : State) (k : Nat) (e : QEntry), k ≠ 0 ∧ e.len.toNat % 4 = 0 ∧ e.len.toNat ≤ 16777216 ∧ e.ctrl.getLsbD 23 = false ∧ qProto e ≠ 3 ∧ qDummy e ≤ 32 ∧ qAddrMode e ≠ 3 ∧ (0 < e.len.toNat → e.buf.toNat % 4 = 0 ∧ inSram e.buf.toNat e.len.toNat = true) ∧ (qCont e = true → qProto e = 0 ∧ qDir e = false) ∧ fwOpOk (chanOf s k) k e = true ∧ qIsErase (chanOf s k) k e = true ∧ fwLockOk s k (qDev e) e.addr.toNat (qEraseLen (chanOf s k) k e) = false →
      entryReject s k .first e = some 4) ∧
  (∀ (s : State) (k : Nat) (e : QEntry), k ≠ 0 ∧ e.len.toNat % 4 = 0 ∧ e.len.toNat ≤ 16777216 ∧ e.ctrl.getLsbD 23 = false ∧ qProto e ≠ 3 ∧ qDummy e ≤ 32 ∧ qAddrMode e ≠ 3 ∧ (0 < e.len.toNat → e.buf.toNat % 4 = 0 ∧ inSram e.buf.toNat e.len.toNat = true) ∧ (qCont e = true → qProto e = 0 ∧ qDir e = false) ∧ fwOpOk (chanOf s k) k e = true ∧ qProto e = 1 ∧ fwLockOk s k (qDev e) e.addr.toNat e.len.toNat = false →
      entryReject s k .first e = some 4) ∧
  (∀ (s : State) (k dev addr len : Nat), 0 < len ∧ (s.mor.lock = false ∨ s.grant = none ∨ (∃ g, s.grant = some g ∧ (g.channel ≠ k ∨ g.device ≠ dev ∨ addr < g.base ∨ g.base + g.length < addr + len))) →
      fwLockOk s k dev addr len = false) ∧
  (∀ (s : State) (k : Nat) (e : QEntry) (a : Nat), k ≠ 0 ∧ entryReject s k .first e = none ∧ ((qProto e = 1 ∧ e.addr.toNat ≤ a ∧ a < e.addr.toNat + e.len.toNat) ∨ (qIsErase (chanOf s k) k e = true ∧ e.addr.toNat ≤ a ∧ a < e.addr.toNat + qEraseLen (chanOf s k) k e)) →
      fwOpOk (chanOf s k) k e = true ∧ s.mor.lock = true ∧ ∃ g, s.grant = some g ∧ g.channel = k ∧ g.device = qDev e ∧ g.base ≤ a ∧ a < g.base + g.length) ∧
  (∀ (s : State) (p : PolicyImage) (k dev addr len c : Nat), s.run.policy = some p ∧ c ∈ classesOf p k dev addr len ∧ c ≠ 2 →
      fwLockOk s k dev addr len = false) ∧
  (∀ (s : State) (p : PolicyImage) (k c : Nat) (e : QEntry), k ≠ 0 ∧ s.run.policy = some p ∧ entryReject s k .first e = none ∧ ((qProto e = 1 ∧ c ∈ classesOf p k (qDev e) e.addr.toNat e.len.toNat) ∨ (qIsErase (chanOf s k) k e = true ∧ c ∈ classesOf p k (qDev e) e.addr.toNat (qEraseLen (chanOf s k) k e))) →
      c = 2) ∧
  (∀ (p : PolicyImage) (k dev addr len : Nat) (r : Nat × Nat × Nat), r ∈ lockRanges p k dev ∧ addr < r.1 + r.2.1 ∧ r.1 < addr + len →
      r.2.2 ∈ classesOf p k dev addr len) ∧
  (∀ (p : PolicyImage) (k dev addr len a : Nat), addr ≤ a ∧ a < addr + len ∧ (∀ r ∈ lockRanges p k dev, a < r.1 ∨ r.1 + r.2.1 ≤ a) →
      1 ∈ classesOf p k dev addr len)

/-- A mismatch in the active pair with a spare removes that pair and begins a switch; a mismatch in the spare removes
the spare only; with no spare, and on the reset key, an S event stops firmware and leaves the domains, the
configuration lock, the trip, the partitions and their armed tables, and the links or ledgers as they were; a restart
of a locked device outside FLOOR runs firmware on a pair whose check passed. Each of these answers a next state under
conditions on the state and operands alone: lockstepMismatch, spareMismatch, scResetWrite, firmwareRestart,
pairSwitchDone. Where the spec leaves a case open this is the model's choice (log entry 63). (R423, R45, R104,
13_service_complex.md: pair switch, FIRMWARE_RESTART) Derived. -/
def Obligations.CorePairs : Prop :=
  (∀ (s : State), pairRuns s = true ∧ s.sc.switching = false ∧ s.sc.pairA = true ∧ s.sc.pairB = true →
      exec .lockstepMismatch s = .next (say .none (upSc (fun c => { c with pairA := c.active, pairB := !c.active, active := !c.active, switching := true }) s))) ∧
  (∀ (s : State), pairRuns s = true ∧ s.sc.switching = false ∧ (s.sc.pairA && s.sc.pairB) = false →
      (∃ t, exec .lockstepMismatch s = .next t ∧ t.sc.running = false ∧ t.sc.restartDue = (s.sc.mainGood && !s.sc.selfTestDue && !s.sc.holdOnly) ∧ (∀ d, domSt t d = domSt s d) ∧ t.mor.lock = s.mor.lock ∧ t.mor.trip = s.mor.trip ∧ t.fab.parts = s.fab.parts ∧ t.fab.links = s.fab.links ∧ t.kld = s.kld ∧ t.lake = s.lake)) ∧
  (∀ (s : State), pairRuns s = true ∧ s.sc.pairA = true ∧ s.sc.pairB = true →
      exec .spareMismatch s = .next (say .none (upSc (fun c => { c with pairA := !c.active, pairB := c.active }) s))) ∧
  (∀ (s : State), coreRuns s = true →
      (∃ t, exec (.scResetWrite 0x53435253) s = .next t ∧ t.sc.running = false ∧ (∀ d, domSt t d = domSt s d) ∧ t.mor.lock = s.mor.lock ∧ t.mor.phase = s.mor.phase ∧ t.fab.parts = s.fab.parts ∧ t.nrx.ledgers = s.nrx.ledgers ∧ t.nrx.counters = s.nrx.counters ∧ t.xip.lock = s.xip.lock) ∧ ∀ v, v ≠ 0x53435253 → exec (.scResetWrite v) s = .next (say .none s)) ∧
  (∀ (a b : Bool) (s : State), s.sc.mainGood = true ∧ s.sc.restartDue = true ∧ s.sc.running = false ∧ restartsFirmware s = true →
      (∃ t, exec (.firmwareRestart a b) s = .next t ∧ t.sc.pairA = (s.sc.pairA && a) ∧ t.sc.pairB = (s.sc.pairB && b) ∧ t.sc.running = ((s.sc.pairA && a) || (s.sc.pairB && b)) ∧ t.sc.restartDue = false)) ∧
  (∀ (s : State), s.sc.switching = true →
      (∃ t, exec .pairSwitchDone s = .next t ∧ t.sc.switching = false ∧ t.sc.pairA = s.sc.pairA ∧ t.sc.pairB = s.sc.pairB ∧ t.otp.words = s.otp.words))

/-- SC_SRAM_WP takes the first limit up to 128 and ignores every later one and every larger value; a bus time-out is a
bus error that leaves firmware at fault; SIC_DONE clears the pending bits written 1 except for asserted level sources;
a wait with no enabled source pending puts the SIC into retention, and an event of a source makes it pending and wakes
it. A mismatch in the active pair with a spare removes that pair and begins the switch, and without one is an S event;
a mismatch in the spare removes the spare; the end of a switch leaves the pairs as they are; the reset key is an S
event and no other value does anything; the restart of firmware runs it on a pair whose check passed, and with no such
pair nothing runs. Each of these answers a next state under conditions on the state and operands alone: sramWpWrite,
busTimeout, sicDoneWrite, waitForInterrupt, sicWake, lockstepMismatch, spareMismatch, pairSwitchDone, scResetWrite,
firmwareRestart. (13_service_complex.md: SC_SRAM_WP, SIC registers, pair switch, SC_RESET, FIRMWARE_RESTART, R430,
R423, R426) Derived. -/
def Obligations.CoreRegistersAndInterrupts : Prop :=
  (∀ (l : BitVec 8) (s : State), coreRuns s = true ∧ s.sc.sramLimit = none ∧ l.toNat ≤ 128 →
      exec (.sramWpWrite l) s = .next (say .none (upSc (fun c => { c with sramLimit := some l.toNat }) s))) ∧
  (∀ (l : BitVec 8) (s : State), coreRuns s = true ∧ (s.sc.sramLimit.isSome = true ∨ 128 < l.toNat) →
      exec (.sramWpWrite l) s = .next (say .none s)) ∧
  (∀ (s : State), coreRuns s = true →
      exec .busTimeout s = .next (say .busError (upSc (fun c => { c with fault := true }) s))) ∧
  (∀ (n : BitVec 4) (v : BitVec 32) (s : State), coreRuns s = true →
      exec (.sicDoneWrite n v) s = .next (say .none (upSic (fun c => { c with pend := (c.pend &&& ~~~ (v.setWidth 512 <<< (32 * n.toNat))) ||| (c.lines &&& (v.setWidth 512 <<< (32 * n.toNat))) }) s))) ∧
  (∀ (s : State), coreRuns s = true ∧ s.sic.pend &&& s.sic.en = 0 →
      exec .waitForInterrupt s = .next (say .none (upSic (fun c => { c with retention := true }) s))) ∧
  (∀ (src : Nat) (s : State), s.sc.mainGood = true ∧ src < 480 →
      (∃ t, exec (.sicWake src true) s = .next t ∧ t.sic.pend = putBit s.sic.pend src true ∧ t.sic.retention = false ∧ t.sic.en = s.sic.en ∧ t = { s with sic := t.sic, reply := .none }) ∧ exec (.sicWake src false) s = .next (say .none (upSic (fun c => { c with lines := putBit c.lines src false }) s))) ∧
  (∀ (s : State), pairRuns s = true ∧ s.sc.pairA = true ∧ s.sc.pairB = true →
      exec .lockstepMismatch s = .next (say .none (upSc (fun c => { c with pairA := c.active, pairB := !c.active, active := !c.active, switching := true }) s))) ∧
  (∀ (s : State), pairRuns s = true ∧ (s.sc.pairA && s.sc.pairB) = false →
      exec .lockstepMismatch s = .next (say .none (sEvent s)) ∧ (sEvent s).sc.running = false) ∧
  (∀ (s : State), pairRuns s = true ∧ s.sc.pairA = true ∧ s.sc.pairB = true →
      exec .spareMismatch s = .next (say .none (upSc (fun c => { c with pairA := !c.active, pairB := c.active }) s))) ∧
  (∀ (s : State), s.sc.switching = true →
      (∃ t, exec .pairSwitchDone s = .next t ∧ t.sc.switching = false ∧ t.sc.pairA = s.sc.pairA ∧ t.sc.pairB = s.sc.pairB ∧ t.sc.active = s.sc.active)) ∧
  (∀ (v : BitVec 32) (s : State), coreRuns s = true →
      exec (.scResetWrite 0x53435253) s = .next (say .none (sEvent s)) ∧ (v ≠ 0x53435253 → exec (.scResetWrite v) s = .next (say .none s))) ∧
  (∀ (a b : Bool) (s : State), s.sc.mainGood = true ∧ s.sc.restartDue = true ∧ s.sc.running = false ∧ restartsFirmware s = true →
      (∃ t, exec (.firmwareRestart a b) s = .next t ∧ t.sc.pairA = (s.sc.pairA && a) ∧ t.sc.pairB = (s.sc.pairB && b) ∧ t.sc.running = ((s.sc.pairA && a) || (s.sc.pairB && b)) ∧ t.sc.restartDue = false)) ∧
  (∀ (a b : Bool) (s : State), s.sc.mainGood = true ∧ s.sc.restartDue = true ∧ s.sc.running = false ∧ (s.sc.pairA && a) = false ∧ (s.sc.pairB && b) = false →
      exec (.firmwareRestart a b) s = .next (say .none (upSc (fun c => { c with pairA := false, pairB := false, active := false, restartDue := false }) s)))

/-- The serve key reloads a counter that has not run out and records the time, and no other value does; a serve that
comes with the expiry changes nothing; the two keys in time disable an unlocked watchdog; WDT_CTRL.EN loads a DISABLED
one; an expiry, at a count of 0, takes the capture with cause 1, enters GRACE and starts the hard timer of 1 ms times
2 to GRACE_STEP, or on KXF9-F2601 is an S event with cause 2; the hard timer and the clock monitor end in an S event,
after which the watchdog runs from its reset reload with CLKSEL as the oscillator says. Each of these answers a next
state under conditions on the state and operands alone: wdtServe, wdtKeyWrite, wdtEnableWrite, wdtExpiry,
wdtHardTimerEnd, wdtClockMonitor. Where the spec leaves a case open this is the model's choice (log entries 98, 125).
(R441, R442, R443, 13_service_complex.md: WDT registers) Derived. -/
def Obligations.Watchdog : Prop :=
  (∀ (s : State), coreRuns s = true ∧ (s.sc.fault = false ∨ (s.sc.running = false ∧ s.mor.floorCause ≠ 0)) ∧ (s.wdt.st ≠ .running ∨ s.wdt.count ≠ 0) →
      exec (.wdtServe 0xa55a3cc3) s = .next (say .none (upWdt (fun w => { w with count := w.load, lastServe := s.aot }) s)) ∧ ∀ v, v ≠ 0xa55a3cc3 → exec (.wdtServe v) s = .next (say .none s)) ∧
  (∀ (v : BitVec 32) (s : State), coreRuns s = true ∧ (s.sc.fault = false ∨ (s.sc.running = false ∧ s.mor.floorCause ≠ 0)) ∧ s.wdt.st = .running ∧ s.wdt.count = 0 →
      exec (.wdtServe v) s = .next (say .none s)) ∧
  (∀ (b : Bool) (s : State), coreRuns s = true ∧ s.wdt.lock = false ∧ s.wdt.st = .running →
      exec (.wdtKeyWrite 0x6e0f b) s = .next (say .none (upWdt (fun w => { w with keyStep := true }) s)) ∧ exec (.wdtKeyWrite 0xf06e true) (upWdt (fun w => { w with keyStep := true }) s) = .next (say .none (upWdt (fun w => { w with keyStep := false, st := .disabled }) s))) ∧
  (∀ (v : BitVec 32) (b : Bool) (s : State), coreRuns s = true ∧ s.wdt.lock = true →
      exec (.wdtKeyWrite v b) s = .next (say .none (upWdt (fun w => { w with keyStep := false }) s))) ∧
  (∀ (v : BitVec 32) (s : State), coreRuns s = true ∧ v.getLsbD 0 = true ∧ s.wdt.lock = true ∧ s.wdt.st = .disabled →
      exec (.wdtEnableWrite v) s = .next (say .none (upWdt (fun w => { w with st := .running, count := w.load }) s))) ∧
  (∀ (pc : BitVec 64) (s : State), pairRuns s = true ∧ s.wdt.st = .running ∧ s.wdt.count = 0 ∧ variantCode s.otp.feat ≠ 3 →
      exec (.wdtExpiry pc) s = .next (say .none (upWdt (fun w => { w with st := .grace, keyStep := false, hardFrom := s.aot, capCause := 1, capPc := pc, capServe := w.lastServe }) s))) ∧
  (∀ (pc : BitVec 64) (s : State), pairRuns s = true ∧ s.wdt.st = .running ∧ s.wdt.count = 0 ∧ variantCode s.otp.feat = 3 →
      (∃ t, exec (.wdtExpiry pc) s = .next t ∧ t.sc.running = false ∧ t.wdt.capCause = 2 ∧ t.wdt.capPc = pc ∧ t.wdt.capServe = s.wdt.lastServe ∧ t.wdt.st = .running)) ∧
  (∀ (s : State), s.wdt.st = .grace ∧ (s.mor.aocA = true ∨ s.mor.aocB = true) ∧ 1000 * 2 ^ s.wdt.graceStep ≤ (s.aot + 2 ^ 48 - s.wdt.hardFrom) % 2 ^ 48 →
      (∃ t, exec .wdtHardTimerEnd s = .next t ∧ t.sc.running = false ∧ t.wdt.st = .running ∧ t.wdt.count = 0x01000000 ∧ t.wdt.capCause = s.wdt.capCause ∧ t.mor.lock = s.mor.lock)) ∧
  (∀ (pc : BitVec 64) (s : State), pairRuns s = true ∧ (s.wdt.clkSel = true ∨ s.mor.aocA = false) →
      (∃ t, exec (.wdtClockMonitor pc) s = .next t ∧ t.sc.running = false ∧ t.wdt.capCause = 3 ∧ t.wdt.capPc = pc ∧ t.wdt.clkSel = !s.mor.aocA))

/-- An open waits as PENDING, a reserved algorithm is refused, and a grant, when the arbiter of the classes comes to
the CORE open, binds the lowest free slot of the engine with the fewest contexts; data written to a context the core
owns is appended, the last write gives the digest of everything written and the compare of the expected value, a write
of DGA_DATA or DGA_LAST to a DONE context restarts it with the written bytes as the first of a new message; the
compare reads 0b10 only where both values are the same and no comparator is at fault; a close frees the slot, and an
access to a slot the core does not own is a bus error that leaves every context as it was. Each of these answers a
next state under conditions on the state and operands alone: dgaOpen, dgaOpenGrant, dgaDataWrite, dgaLastWrite,
dgaClose, dgaExpectWrite. Where the spec leaves a case open this is the model's choice (log entry 156). (R445, R447,
R448, R450, 13_service_complex.md: DGA registers) Derived. -/
def Obligations.DigestContexts : Prop :=
  (∀ (a : BitVec 3) (s : State), coreRuns s = true ∧ s.dga.pending = false ∧ 1 ≤ a.toNat ∧ a.toNat ≤ 5 →
      exec (.dgaOpen a) s = .next (say .none (upDga (fun d => { d with pending := true, openAlg := a.toNat, granted := false, refused := false, waits := d.waits ++ [.core] }) (dgaServe s)))) ∧
  (∀ (a : BitVec 3) (s : State), coreRuns s = true ∧ s.dga.pending = false ∧ (a.toNat = 0 ∨ 5 < a.toNat) →
      exec (.dgaOpen a) s = .next (say .none (upDga (fun d => { d with granted := false, refused := true }) s))) ∧
  (∀ (s : State) (c : Nat), (dgaNow s).pending = true ∧ dgaNext (dgaNow s) = some .core ∧ dgaPlace (dgaNow s) = some c →
      (∃ t, exec .dgaOpenGrant s = .next t ∧ t.dga.granted = true ∧ t.dga.pending = false ∧ t.dga.openCtx = c ∧ tabGet none t.dga.ctxs c = some ⟨s.dga.openAlg, false, [], [], [], 0⟩ ∧ (∀ x, x ≠ c → tabGet none t.dga.ctxs x = tabGet none s.dga.ctxs x) ∧ t = { s with dga := t.dga, reply := .none })) ∧
  (∀ (w : BitVec 32) (s : State) (x : DgaCtx), coreRuns s = true ∧ tabGet none s.dga.ctxs s.dga.sel = some x ∧ x.finished = false →
      exec (.dgaDataWrite w) s = .next (say .none (upDga (fun d => { d with ctxs := tabSet none d.ctxs d.sel (some { x with data := x.data ++ le 4 w.toNat }) }) s))) ∧
  (∀ (w : DgaLast) (s : State) (x : DgaCtx), coreRuns s = true ∧ tabGet none s.dga.ctxs s.dga.sel = some x ∧ x.finished = false →
      exec (.dgaLastWrite w) s = .next (say .none (upDga (fun d => { d with ctxs := tabSet none d.ctxs d.sel (some { x with finished := true, data := x.data ++ (le 4 w.word.toNat).take d.lastCnt, digest := digestOf x.alg (x.data ++ (le 4 w.word.toNat).take d.lastCnt), cmp := ctxCompare (digestOf x.alg (x.data ++ (le 4 w.word.toNat).take d.lastCnt)) x.expect w.badRails }) }) s))) ∧
  (∀ (w : BitVec 32) (s : State) (x : DgaCtx), coreRuns s = true ∧ tabGet none s.dga.ctxs s.dga.sel = some x ∧ x.finished = true →
      exec (.dgaDataWrite w) s = .next (say .none (upDga (fun d => { d with ctxs := tabSet none d.ctxs d.sel (some ⟨x.alg, false, le 4 w.toNat, [], x.expect, 0⟩) }) s))) ∧
  (∀ (w : DgaLast) (s : State) (x : DgaCtx) (m : Bytes), coreRuns s = true ∧ tabGet none s.dga.ctxs s.dga.sel = some x ∧ x.finished = true ∧ m = (le 4 w.word.toNat).take s.dga.lastCnt →
      exec (.dgaLastWrite w) s = .next (say .none (upDga (fun d => { d with ctxs := tabSet none d.ctxs d.sel (some ⟨x.alg, true, m, digestOf x.alg m, x.expect, ctxCompare (digestOf x.alg m) x.expect w.badRails⟩) }) s))) ∧
  (∀ (d e : Bytes) (r : BitVec 2), (ctxCompare d e r = 2 ↔ r = 0 ∧ fit 64 e = fit 64 d) ∧ (ctxCompare d e r = 1 ↔ r = 0 ∧ fit 64 e ≠ fit 64 d)) ∧
  (∀ (c : BitVec 8) (s : State), coreRuns s = true ∧ (tabGet none s.dga.ctxs c.toNat).isSome = true →
      exec (.dgaClose c) s = .next (say .none (upDga (fun d => { d with ctxs := tabSet none d.ctxs c.toNat none }) s))) ∧
  (∀ (i : BitVec 4) (w : BitVec 32) (s : State) (x : DgaCtx), coreRuns s = true ∧ tabGet none s.dga.ctxs s.dga.sel = some x →
      exec (.dgaExpectWrite i w) s = .next (say .none (upDga (fun d => { d with ctxs := tabSet none d.ctxs d.sel (some { x with expect := (fit 64 x.expect).take (4 * i.toNat) ++ le 4 w.toNat ++ (fit 64 x.expect).drop (4 * i.toNat + 4) }) }) s))) ∧
  (∀ (c : BitVec 8) (w : BitVec 32) (s : State), coreRuns s = true ∧ tabGet none s.dga.ctxs c.toNat = none ∧ tabGet none s.dga.ctxs s.dga.sel = none →
      (∃ t, exec (.dgaClose c) s = .next t ∧ t.reply = .busError ∧ t.sc.fault = true ∧ t.dga.ctxs = s.dga.ctxs) ∧ (∃ t, exec (.dgaDataWrite w) s = .next t ∧ t.reply = .busError ∧ t.sc.fault = true ∧ t.dga.ctxs = s.dga.ctxs))

/-- With the engine idle, the operands whole in SRAM, a message of at most 256 KiB, context 0 and the key source its
row of the operation table allows, each of the eleven operations becomes the one in progress (queued while the VERDICT
or EVIDENCE operations of the device take the engine) with result 0, and nothing else of the device changes. With any
other context and key source each of them begins in the same way where no error is found, and where one is found sets
its code in ERROR and begins nothing; a write while BUSY changes nothing. Each of these answers a next state under
conditions on the state and operands alone: ecdsaP384Verify, ecdsaP384Sign, mlDsa65Verify, mlDsa65Sign, mlDsa87Verify,
mlDsa87Sign, hssVerify, ecdhP384, mlKem1024Keygen, mlKem1024Encaps, mlKem1024Decaps. Where the spec leaves a case open
this is the model's choice (log entries 18, 45, 129). (13_service_complex.md: Signature Engine operations, SIG_CMD)
Derived. -/
def Obligations.SignatureOperationsStart : Prop :=
  (∀ (e : Bool) (s : State), coreRuns s = true ∧ (sigOf s e).busy = none ∧ (sigOf s e).mlen.toNat ≤ 262144 ∧ sramAddr (sigOf s e).msg (sigOf s e).mlen.toNat = true ∧ sramAddr (sigOf s e).key (sigKeyLen 1 0) = true ∧ sramAddr (sigOf s e).sig (sigSigLen 1) = true ∧ sramAddr (sigOf s e).out (sigOutLen 1) = true →
      exec (.ecdsaP384Verify e 0 0) s = .next (say .none (upSig e (fun g => { g with op := 1, ctxId := 0, keySrc := 0, error := 0, result := 0, railFault := false, busy := some ⟨1, 0, 0, g.msg.toNat, g.mlen.toNat, g.key.toNat, g.sig.toNat, g.out.toNat, false, coreTurn s e⟩ }) s))) ∧
  (∀ (e : Bool) (s : State), coreRuns s = true ∧ (sigOf s e).busy = none ∧ (sigOf s e).mlen.toNat ≤ 262144 ∧ sramAddr (sigOf s e).msg (sigOf s e).mlen.toNat = true ∧ sramAddr (sigOf s e).key (sigKeyLen 2 1) = true ∧ sramAddr (sigOf s e).sig (sigSigLen 2) = true ∧ sramAddr (sigOf s e).out (sigOutLen 2) = true →
      exec (.ecdsaP384Sign e 0 1) s = .next (say .none (upSig e (fun g => { g with op := 2, ctxId := 0, keySrc := 1, error := 0, result := 0, railFault := false, busy := some ⟨2, 0, 1, g.msg.toNat, g.mlen.toNat, g.key.toNat, g.sig.toNat, g.out.toNat, false, coreTurn s e⟩ }) s))) ∧
  (∀ (e : Bool) (s : State), coreRuns s = true ∧ (sigOf s e).busy = none ∧ (sigOf s e).mlen.toNat ≤ 262144 ∧ sramAddr (sigOf s e).msg (sigOf s e).mlen.toNat = true ∧ sramAddr (sigOf s e).key (sigKeyLen 3 0) = true ∧ sramAddr (sigOf s e).sig (sigSigLen 3) = true ∧ sramAddr (sigOf s e).out (sigOutLen 3) = true →
      exec (.mlDsa65Verify e 0 0) s = .next (say .none (upSig e (fun g => { g with op := 3, ctxId := 0, keySrc := 0, error := 0, result := 0, railFault := false, busy := some ⟨3, 0, 0, g.msg.toNat, g.mlen.toNat, g.key.toNat, g.sig.toNat, g.out.toNat, false, coreTurn s e⟩ }) s))) ∧
  (∀ (e : Bool) (s : State), coreRuns s = true ∧ (sigOf s e).busy = none ∧ (sigOf s e).mlen.toNat ≤ 262144 ∧ sramAddr (sigOf s e).msg (sigOf s e).mlen.toNat = true ∧ sramAddr (sigOf s e).key (sigKeyLen 4 1) = true ∧ sramAddr (sigOf s e).sig (sigSigLen 4) = true ∧ sramAddr (sigOf s e).out (sigOutLen 4) = true →
      exec (.mlDsa65Sign e 0 1) s = .next (say .none (upSig e (fun g => { g with op := 4, ctxId := 0, keySrc := 1, error := 0, result := 0, railFault := false, busy := some ⟨4, 0, 1, g.msg.toNat, g.mlen.toNat, g.key.toNat, g.sig.toNat, g.out.toNat, false, coreTurn s e⟩ }) s))) ∧
  (∀ (e : Bool) (s : State), coreRuns s = true ∧ (sigOf s e).busy = none ∧ (sigOf s e).mlen.toNat ≤ 262144 ∧ sramAddr (sigOf s e).msg (sigOf s e).mlen.toNat = true ∧ sramAddr (sigOf s e).key (sigKeyLen 5 0) = true ∧ sramAddr (sigOf s e).sig (sigSigLen 5) = true ∧ sramAddr (sigOf s e).out (sigOutLen 5) = true →
      exec (.mlDsa87Verify e 0 0) s = .next (say .none (upSig e (fun g => { g with op := 5, ctxId := 0, keySrc := 0, error := 0, result := 0, railFault := false, busy := some ⟨5, 0, 0, g.msg.toNat, g.mlen.toNat, g.key.toNat, g.sig.toNat, g.out.toNat, false, coreTurn s e⟩ }) s))) ∧
  (∀ (e : Bool) (s : State), coreRuns s = true ∧ (sigOf s e).busy = none ∧ (sigOf s e).mlen.toNat ≤ 262144 ∧ sramAddr (sigOf s e).msg (sigOf s e).mlen.toNat = true ∧ sramAddr (sigOf s e).key (sigKeyLen 6 1) = true ∧ sramAddr (sigOf s e).sig (sigSigLen 6) = true ∧ sramAddr (sigOf s e).out (sigOutLen 6) = true →
      exec (.mlDsa87Sign e 0 1) s = .next (say .none (upSig e (fun g => { g with op := 6, ctxId := 0, keySrc := 1, error := 0, result := 0, railFault := false, busy := some ⟨6, 0, 1, g.msg.toNat, g.mlen.toNat, g.key.toNat, g.sig.toNat, g.out.toNat, false, coreTurn s e⟩ }) s))) ∧
  (∀ (e : Bool) (s : State), coreRuns s = true ∧ (sigOf s e).busy = none ∧ (sigOf s e).mlen.toNat ≤ 262144 ∧ sramAddr (sigOf s e).msg (sigOf s e).mlen.toNat = true ∧ sramAddr (sigOf s e).key (sigKeyLen 7 0) = true ∧ sramAddr (sigOf s e).sig (sigSigLen 7) = true ∧ sramAddr (sigOf s e).out (sigOutLen 7) = true →
      exec (.hssVerify e 0 0) s = .next (say .none (upSig e (fun g => { g with op := 7, ctxId := 0, keySrc := 0, error := 0, result := 0, railFault := false, busy := some ⟨7, 0, 0, g.msg.toNat, g.mlen.toNat, g.key.toNat, g.sig.toNat, g.out.toNat, false, coreTurn s e⟩ }) s))) ∧
  (∀ (e : Bool) (s : State), coreRuns s = true ∧ (sigOf s e).busy = none ∧ (sigOf s e).mlen.toNat ≤ 262144 ∧ sramAddr (sigOf s e).msg (sigOf s e).mlen.toNat = true ∧ sramAddr (sigOf s e).key (sigKeyLen 8 0) = true ∧ sramAddr (sigOf s e).sig (sigSigLen 8) = true ∧ sramAddr (sigOf s e).out (sigOutLen 8) = true →
      exec (.ecdhP384 e 0 0) s = .next (say .none (upSig e (fun g => { g with op := 8, ctxId := 0, keySrc := 0, error := 0, result := 0, railFault := false, busy := some ⟨8, 0, 0, g.msg.toNat, g.mlen.toNat, g.key.toNat, g.sig.toNat, g.out.toNat, false, coreTurn s e⟩ }) s))) ∧
  (∀ (e : Bool) (s : State), coreRuns s = true ∧ (sigOf s e).busy = none ∧ (sigOf s e).mlen.toNat ≤ 262144 ∧ sramAddr (sigOf s e).msg (sigOf s e).mlen.toNat = true ∧ sramAddr (sigOf s e).key (sigKeyLen 9 0) = true ∧ sramAddr (sigOf s e).sig (sigSigLen 9) = true ∧ sramAddr (sigOf s e).out (sigOutLen 9) = true →
      exec (.mlKem1024Keygen e 0 0) s = .next (say .none (upSig e (fun g => { g with op := 9, ctxId := 0, keySrc := 0, error := 0, result := 0, railFault := false, busy := some ⟨9, 0, 0, g.msg.toNat, g.mlen.toNat, g.key.toNat, g.sig.toNat, g.out.toNat, false, coreTurn s e⟩ }) s))) ∧
  (∀ (e : Bool) (s : State), coreRuns s = true ∧ (sigOf s e).busy = none ∧ (sigOf s e).mlen.toNat ≤ 262144 ∧ sramAddr (sigOf s e).msg (sigOf s e).mlen.toNat = true ∧ sramAddr (sigOf s e).key (sigKeyLen 10 0) = true ∧ sramAddr (sigOf s e).sig (sigSigLen 10) = true ∧ sramAddr (sigOf s e).out (sigOutLen 10) = true →
      exec (.mlKem1024Encaps e 0 0) s = .next (say .none (upSig e (fun g => { g with op := 10, ctxId := 0, keySrc := 0, error := 0, result := 0, railFault := false, busy := some ⟨10, 0, 0, g.msg.toNat, g.mlen.toNat, g.key.toNat, g.sig.toNat, g.out.toNat, false, coreTurn s e⟩ }) s))) ∧
  (∀ (e : Bool) (s : State), coreRuns s = true ∧ (sigOf s e).busy = none ∧ (sigOf s e).mlen.toNat ≤ 262144 ∧ sramAddr (sigOf s e).msg (sigOf s e).mlen.toNat = true ∧ sramAddr (sigOf s e).key (sigKeyLen 11 0) = true ∧ sramAddr (sigOf s e).sig (sigSigLen 11) = true ∧ sramAddr (sigOf s e).out (sigOutLen 11) = true ∧ (sigOf s e).kemKey.isSome = true →
      exec (.mlKem1024Decaps e 0 0) s = .next (say .none (upSig e (fun g => { g with op := 11, ctxId := 0, keySrc := 0, error := 0, result := 0, railFault := false, busy := some ⟨11, 0, 0, g.msg.toNat, g.mlen.toNat, g.key.toNat, g.sig.toNat, g.out.toNat, false, coreTurn s e⟩ }) s))) ∧
  (∀ (i : Instr) (op : Nat) (e : Bool) (c k : BitVec 8) (s : State), coreRuns s = true ∧ (sigOf s e).busy = none ∧ sigError s (sigOf s e) op c.toNat k.toNat = 0 ∧ (i, op) ∈ [(Instr.ecdsaP384Verify e c k, 1), (.ecdsaP384Sign e c k, 2), (.mlDsa65Verify e c k, 3), (.mlDsa65Sign e c k, 4), (.mlDsa87Verify e c k, 5), (.mlDsa87Sign e c k, 6), (.hssVerify e c k, 7), (.ecdhP384 e c k, 8), (.mlKem1024Keygen e c k, 9), (.mlKem1024Encaps e c k, 10), (.mlKem1024Decaps e c k, 11)] →
      exec i s = .next (say .none (upSig e (fun g => { g with op := op, ctxId := c.toNat, keySrc := k.toNat, error := 0, result := 0, railFault := false, busy := some ⟨op, c.toNat, k.toNat, g.msg.toNat, g.mlen.toNat, g.key.toNat, g.sig.toNat, g.out.toNat, usesAlias op k.toNat && keysHeld s, coreTurn s e⟩ }) s))) ∧
  (∀ (i : Instr) (op : Nat) (e : Bool) (c k : BitVec 8) (s : State), coreRuns s = true ∧ (sigOf s e).busy = none ∧ sigError s (sigOf s e) op c.toNat k.toNat ≠ 0 ∧ (i, op) ∈ [(Instr.ecdsaP384Verify e c k, 1), (.ecdsaP384Sign e c k, 2), (.mlDsa65Verify e c k, 3), (.mlDsa65Sign e c k, 4), (.mlDsa87Verify e c k, 5), (.mlDsa87Sign e c k, 6), (.hssVerify e c k, 7), (.ecdhP384 e c k, 8), (.mlKem1024Keygen e c k, 9), (.mlKem1024Encaps e c k, 10), (.mlKem1024Decaps e c k, 11)] →
      exec i s = .next (say .none (upSig e (fun g => { g with op := op, ctxId := c.toNat, keySrc := k.toNat, error := sigError s (sigOf s e) op c.toNat k.toNat, result := 0, railFault := false, busy := none }) s))) ∧
  (∀ (i : Instr) (op : Nat) (e : Bool) (c k : BitVec 8) (s : State), coreRuns s = true ∧ (sigOf s e).busy.isSome = true ∧ (i, op) ∈ [(Instr.ecdsaP384Verify e c k, 1), (.ecdsaP384Sign e c k, 2), (.mlDsa65Verify e c k, 3), (.mlDsa65Sign e c k, 4), (.mlDsa87Verify e c k, 5), (.mlDsa87Sign e c k, 6), (.hssVerify e c k, 7), (.ecdhP384 e c k, 8), (.mlKem1024Keygen e c k, 9), (.mlKem1024Encaps e c k, 10), (.mlKem1024Decaps e c k, 11)] →
      exec i s = .next (say .none s))

/-- A verify whose rails read 0b10 or 0b01 ends with that result; rails 0b00 and 0b11 set RAIL_FAULT and remove the
engine that served it, and the operation is not finished; an ECDSA signing operation outside the protected region of
SRAM writes its output, over the message and made with the alias key of the ladder where it names that key, and ends,
and one inside it ends with a bus error; every other operation with an output writes it outside that region in the
same way, on either engine, and key generation leaves its key in the engine; a write while BUSY is ignored; a key
source the operation does not take ends with ERROR KEY and starts nothing. Each of these answers a next state under
conditions on the state and operands alone: sigOpDone, hssVerify, mlDsa65Sign. Where the spec leaves a case open this
is the model's choice (log entries 18, 126, 129). (R455, 13_service_complex.md: SIG_STATUS.ERROR) Derived. -/
def Obligations.SignatureResults : Prop :=
  (∀ (e : Bool) (r : BitVec 2) (s : State) (o : SigOp), (sigOf s e).busy = some o ∧ sigIsVerify o.op = true ∧ (sigOf s e).inService = true ∧ (sigOf s e).failover = false ∧ (sigOf s (!e)).failover = false ∧ o.held = false ∧ o.started = true ∧ (r = 2 ∨ r = 1) →
      exec (.sigOpDone e r) s = .next (say .none (upSig e (fun g => { g with busy := none, result := r, railFault := false }) s))) ∧
  (∀ (e : Bool) (r : BitVec 2) (s : State) (o : SigOp), (sigOf s e).busy = some o ∧ sigIsVerify o.op = true ∧ (sigOf s e).inService = true ∧ (sigOf s e).failover = false ∧ (sigOf s (!e)).failover = false ∧ o.held = false ∧ o.started = true ∧ (r = 0 ∨ r = 3) →
      (∃ t, exec (.sigOpDone e r) s = .next t ∧ (sigOf t e).railFault = true ∧ (sigOf t e).inService = false ∧ (sigOf t e).busy = some o ∧ (sigOf t e).result = (sigOf s e).result)) ∧
  (∀ (r : BitVec 2) (s : State) (o : SigOp), s.sig0.busy = some o ∧ o.op = 2 ∧ s.sig0.inService = true ∧ s.sig0.failover = false ∧ s.sig1.failover = false ∧ o.held = false ∧ o.started = true ∧ sramHits s o.sig 96 = false ∧ s.otp.debugWait = [] →
      exec (.sigOpDone false r) s = .next (say .none (drawn (sramWrite o.sig (fit 96 (if o.keySrc = 16 then signedBy (aliasKey s false) (sigMessage s o) s.freeCtr else freeBytes s.freeCtr)) { s with sig0 := { s.sig0 with busy := none } })))) ∧
  (∀ (r : BitVec 2) (s : State) (o : SigOp), s.sig0.busy = some o ∧ o.op = 2 ∧ s.sig0.inService = true ∧ s.sig0.failover = false ∧ s.sig1.failover = false ∧ o.held = false ∧ o.started = true ∧ sramHits s o.sig 96 = true →
      (∃ t, exec (.sigOpDone false r) s = .next t ∧ t.reply = .busError ∧ t.sig0.busy = none)) ∧
  (∀ (e : Bool) (r : BitVec 2) (s : State) (o : SigOp) (a n : Nat), (sigOf s e).busy = some o ∧ sigOutput o = some (a, n) ∧ ((sigOf s e).inService = true ∨ (sigOf s (!e)).inService = true) ∧ (sigOf s e).failover = false ∧ (sigOf s (!e)).failover = false ∧ (o.held = true → keysHeld s = false) ∧ (o.started = true ∨ coreTurn s e = true) ∧ (s.kld.rngFail = true → o.op ≠ 8 ∧ o.op ≠ 9 ∧ o.op ≠ 10) ∧ sramHits s a n = false ∧ s.otp.debugWait = [] →
      exec (.sigOpDone e r) s = .next (say .none (drawn (sramWrite a (fit n (if usesAlias o.op o.keySrc then signedBy (aliasKey s (sigIsMlDsa o.op)) (sigMessage s o) s.freeCtr else freeBytes s.freeCtr)) (upSig e (fun g => { g with busy := none, kemKey := if o.op = 9 then some s.freeCtr else g.kemKey }) s))))) ∧
  (∀ (e : Bool) (c k : BitVec 8) (s : State), coreRuns s = true ∧ (sigOf s e).busy.isSome = true →
      exec (.hssVerify e c k) s = .next (say .none s)) ∧
  (∀ (e : Bool) (s : State), coreRuns s = true ∧ (sigOf s e).busy = none →
      (∃ t, exec (.mlDsa65Sign e 0 16) s = .next t ∧ (sigOf t e).error = 2 ∧ (sigOf t e).busy = none ∧ (sigOf t (!e)) = sigOf s (!e)))

/-- KLD_FWID and KLD_SVN take their first write and ignore later ones; a random read answers the next free word and
draws it, or is a bus error once the source has stopped; a health failure stops it. Each of these answers a next state
under conditions on the state and operands alone: kldFwidWrite, kldSvnWrite, kldRandRead, rngHealthFail. (R457,
13_service_complex.md: KLD_RAND) Derived. -/
def Obligations.KeyLadderAndRandom : Prop :=
  (∀ (i : BitVec 4) (w : BitVec 32) (s : State), coreRuns s = true ∧ i.toNat < 12 ∧ tabGet none s.kld.fwid i.toNat = none →
      exec (.kldFwidWrite i w) s = .next (say .none (upKld (fun k => { k with fwid := tabSet none k.fwid i.toNat (some w) }) s))) ∧
  (∀ (i : BitVec 4) (w : BitVec 32) (s : State), coreRuns s = true ∧ i.toNat < 12 ∧ (tabGet none s.kld.fwid i.toNat).isSome = true →
      exec (.kldFwidWrite i w) s = .next (say .none s)) ∧
  (∀ (v : BitVec 5) (s : State), coreRuns s = true ∧ s.kld.svn = none →
      exec (.kldSvnWrite v) s = .next (say .none (upKld (fun k => { k with svn := some v.toNat }) s))) ∧
  (∀ (v : BitVec 5) (s : State), coreRuns s = true ∧ s.kld.svn.isSome = true →
      exec (.kldSvnWrite v) s = .next (say .none s)) ∧
  (∀ (s : State), coreRuns s = true ∧ s.kld.rngFail = false →
      exec .kldRandRead s = .next (say (.word (freeWord s.freeCtr)) { s with freeCtr := s.freeCtr + 1 })) ∧
  (∀ (s : State), coreRuns s = true ∧ s.kld.rngFail = true →
      exec .kldRandRead s = .next (say .busError (upSc (fun c => { c with fault := true }) s))) ∧
  (∀ (s : State), s.sc.mainGood = true →
      exec .rngHealthFail s = .next (say .none (upKld (fun k => { k with rngFail := true }) s)))

/-- A fetch before LOCK or past the mapped length is a bus error; a fetch that hits a line answers its word; a fetch
of another block starts a fill, which with CCH_00 STOPPED has already failed; a fill whose frame was good and whose
digest matches the table answers the word and leaves the line in the buffer; one whose read fails, or whose digest
does not match the table or meets a comparator at fault, is read again and leaves no line; a third failure is a bus
error that records the block, or ends a prefetch. Each of these answers a next state under conditions on the state and
operands alone: xipFetch, xipFillDone. Where the spec leaves a case open this is the model's choice (log entries 97,
99, 156). (R217, R450, 06_custody_channels.md: the direct-execution window) Derived. -/
def Obligations.ExecutionWindow : Prop :=
  (∀ (o : BitVec 29) (s : State), coreRuns s = true ∧ (s.xip.lock = false ∨ xipLen s.xip ≤ o.toNat / 4096) →
      exec (.xipFetch o) s = .next (say .busError (upSc (fun c => { c with fault := true }) s))) ∧
  (∀ (o : BitVec 29) (s : State) (l : XipLine), coreRuns s = true ∧ s.xip.lock = true ∧ o.toNat / 4096 < xipLen s.xip ∧ xipLine s.xip (o.toNat / 4096) = some l →
      exec (.xipFetch o) s = .next (say (.word (wordAt l.data (o.toNat % 4096 / 4))) (upXip (xipTouch l) s))) ∧
  (∀ (o : BitVec 29) (s : State), coreRuns s = true ∧ s.xip.lock = true ∧ o.toNat / 4096 < xipLen s.xip ∧ xipLine s.xip (o.toNat / 4096) = none ∧ s.xip.fill = none ∧ (chanOf s 0).st = .ready →
      exec (.xipFetch o) s = .next (say .none (dgaServe (upXip (fun x => { x with fill := some ⟨o.toNat / 4096, 0, some o.toNat, false, false⟩ }) s)))) ∧
  (∀ (o : BitVec 29) (s : State), coreRuns s = true ∧ s.xip.lock = true ∧ o.toNat / 4096 < xipLen s.xip ∧ xipLine s.xip (o.toNat / 4096) = none ∧ s.xip.fill = none ∧ (chanOf s 0).st = .stopped →
      exec (.xipFetch o) s = .next (say .none (dgaServe (upXip (fun x => { x with fill := some ⟨o.toNat / 4096, 2, some o.toNat, true, false⟩ }) s)))) ∧
  (∀ (d : Bytes) (b : BitVec 2) (s : State) (f : XipFill) (o : Nat), s.xip.fill = some f ∧ f.arrived = true ∧ f.readOk = true ∧ dgaHas s .window = true ∧ xipMatch s.xip f.block d b = true ∧ f.demand = some o →
      (∃ t, exec (.xipFillDone d b) s = .next t ∧ t.reply = .word (wordAt (fit 4096 d) (o % 4096 / 4)) ∧ (xipLine t.xip f.block) = some ⟨f.block, false, fit 4096 d⟩ ∧ t.sc = s.sc)) ∧
  (∀ (d : Bytes) (b : BitVec 2) (s : State) (f : XipFill), s.xip.fill = some f ∧ f.arrived = true ∧ (f.readOk = false ∨ (dgaHas s .window = true ∧ xipMatch s.xip f.block d b = false)) ∧ f.fails < 2 →
      exec (.xipFillDone d b) s = .next (say .none (upXip (fun x => { x with fill := some { f with fails := f.fails + 1, arrived := false, readOk := false } }) s))) ∧
  (∀ (d : Bytes) (b : BitVec 2) (s : State) (f : XipFill), s.xip.fill = some f ∧ f.arrived = true ∧ (f.readOk = false ∨ (dgaHas s .window = true ∧ xipMatch s.xip f.block d b = false)) ∧ 2 ≤ f.fails ∧ f.demand.isSome = true →
      exec (.xipFillDone d b) s = .next (say .busError (upSc (fun c => { c with fault := true }) (upXip (fun x => { x with fill := none, failBlock := some f.block }) s)))) ∧
  (∀ (d : Bytes) (b : BitVec 2) (s : State) (f : XipFill), s.xip.fill = some f ∧ f.arrived = true ∧ f.readOk = true ∧ dgaHas s .window = true ∧ b ≠ 0 ∧ f.fails < 2 →
      exec (.xipFillDone d b) s = .next (say .none (upXip (fun x => { x with fill := some { f with fails := f.fails + 1, arrived := false, readOk := false } }) s))) ∧
  (∀ (d : Bytes) (b : BitVec 2) (s : State) (f : XipFill), s.xip.fill = some f ∧ f.arrived = true ∧ (f.readOk = false ∨ (dgaHas s .window = true ∧ xipMatch s.xip f.block d b = false)) ∧ 2 ≤ f.fails ∧ f.demand = none →
      exec (.xipFillDone d b) s = .next (say .none (upXip (fun x => { x with fill := none }) s))) ∧
  (∀ (x : Xip) (d : Bytes) (b : BitVec 2) (n : Nat), xipMatch x n d b = true ↔ b = 0 ∧ fit 64 (memRead 0 x.table (48 * n) 48) = fit 64 (sha384 (fit 4096 d)))

/-- With the port's other select high, the device SERVING, the Lake in service, no uncorrectable word and CK within
what the record allows, each read opcode the protocol and the SFDP list answers the bytes of the Lake or the Hot
Window and changes neither; 0x03 outside the hot range, or above 50 MHz, answers 0xFF on every byte. Each of these
answers a next state under conditions on the state and operands alone: prsRead, prsFastRead, prsReadDual, prsReadQuad,
prsReadQuadDtr, prsReadOctal, prsReadOctalDtr. Where the spec leaves a case open this is the model's choice (log entry
112). (07_presentation_ports_and_image_lake.md: opcode catalogue and reads) Derived. -/
def Obligations.PresentedReads : Prop :=
  (∀ (f : PrsFrame) (q : PrsRead) (s : State) (p : PolicyImage) (r : PresentRec), s.run.policy = some p ∧ prsRec s f.port (b2n f.dev) = some r ∧ prsAnswers s f = true ∧ lakeUp s = true ∧ q.bad = none ∧ (emOf s (emKey f.port (b2n f.dev))).proto = .p1s ∧ inHot p r (prsAddr f (emOf s (emKey f.port (b2n f.dev)))) = true ∧ q.mhz ≤ 50 →
      (∃ t, exec (.prsRead f q) s = .next t ∧ t.reply = .dq (prsBytes s p r (prsAddr f (emOf s (emKey f.port (b2n f.dev)))) q.len) q.len ∧ t.lake = s.lake ∧ t.ev = s.ev ∧ t.mor = s.mor ∧ t.chans = s.chans)) ∧
  (∀ (f : PrsFrame) (q : PrsRead) (s : State) (p : PolicyImage) (r : PresentRec), s.run.policy = some p ∧ prsRec s f.port (b2n f.dev) = some r ∧ prsAnswers s f = true ∧ (emOf s (emKey f.port (b2n f.dev))).proto = .p1s ∧ (inHot p r (prsAddr f (emOf s (emKey f.port (b2n f.dev)))) = false ∨ 50 < q.mhz) →
      (∃ t, exec (.prsRead f q) s = .next t ∧ t.reply = .dq (List.replicate q.len 0xff) q.len ∧ t.lake = s.lake)) ∧
  (∀ (f : PrsFrame) (q : PrsRead) (s : State) (p : PolicyImage) (r : PresentRec), s.run.policy = some p ∧ prsRec s f.port (b2n f.dev) = some r ∧ prsAnswers s f = true ∧ lakeUp s = true ∧ q.bad = none ∧ (emOf s (emKey f.port (b2n f.dev))).proto = .p1s ∧ clkOk r 8 q.mhz = true →
      (∃ t, exec (.prsFastRead f q) s = .next t ∧ t.reply = .dq (prsBytes s p r (prsAddr f (emOf s (emKey f.port (b2n f.dev)))) q.len) q.len ∧ t.lake = s.lake ∧ t.ev = s.ev ∧ t.mor = s.mor ∧ t.chans = s.chans)) ∧
  (∀ (f : PrsFrame) (q : PrsRead) (s : State) (p : PolicyImage) (r : PresentRec) (d : Nat), s.run.policy = some p ∧ prsRec s f.port (b2n f.dev) = some r ∧ prsAnswers s f = true ∧ lakeUp s = true ∧ q.bad = none ∧ (emOf s (emKey f.port (b2n f.dev))).proto = .p1s ∧ 2 ≤ r.width ∧ modeDummy r .m112 = some d ∧ clkOk r d q.mhz = true →
      (∃ t, exec (.prsReadDual f q false) s = .next t ∧ t.reply = .dq (prsBytes s p r (prsAddr f (emOf s (emKey f.port (b2n f.dev)))) q.len) q.len ∧ t.lake = s.lake ∧ t.ev = s.ev ∧ t.mor = s.mor ∧ t.chans = s.chans)) ∧
  (∀ (f : PrsFrame) (q : PrsRead) (s : State) (p : PolicyImage) (r : PresentRec) (d : Nat), s.run.policy = some p ∧ prsRec s f.port (b2n f.dev) = some r ∧ prsAnswers s f = true ∧ lakeUp s = true ∧ q.bad = none ∧ (emOf s (emKey f.port (b2n f.dev))).proto = .p1s ∧ 2 ≤ r.width ∧ modeDummy r .m122 = some d ∧ clkOk r d q.mhz = true →
      (∃ t, exec (.prsReadDual f q true) s = .next t ∧ t.reply = .dq (prsBytes s p r (prsAddr f (emOf s (emKey f.port (b2n f.dev)))) q.len) q.len ∧ t.lake = s.lake ∧ t.ev = s.ev ∧ t.mor = s.mor ∧ t.chans = s.chans)) ∧
  (∀ (f : PrsFrame) (q : PrsRead) (s : State) (p : PolicyImage) (r : PresentRec) (d : Nat), s.run.policy = some p ∧ prsRec s f.port (b2n f.dev) = some r ∧ prsAnswers s f = true ∧ lakeUp s = true ∧ q.bad = none ∧ (emOf s (emKey f.port (b2n f.dev))).proto = .p1s ∧ 4 ≤ r.width ∧ modeDummy r .m114 = some d ∧ clkOk r d q.mhz = true →
      (∃ t, exec (.prsReadQuad f q false) s = .next t ∧ t.reply = .dq (prsBytes s p r (prsAddr f (emOf s (emKey f.port (b2n f.dev)))) q.len) q.len ∧ t.lake = s.lake ∧ t.ev = s.ev ∧ t.mor = s.mor ∧ t.chans = s.chans)) ∧
  (∀ (f : PrsFrame) (q : PrsRead) (s : State) (p : PolicyImage) (r : PresentRec) (d : Nat), s.run.policy = some p ∧ prsRec s f.port (b2n f.dev) = some r ∧ prsAnswers s f = true ∧ lakeUp s = true ∧ q.bad = none ∧ (emOf s (emKey f.port (b2n f.dev))).proto = .p1s ∧ 4 ≤ r.width ∧ modeDummy r .m144 = some d ∧ clkOk r d q.mhz = true →
      (∃ t, exec (.prsReadQuad f q true) s = .next t ∧ t.reply = .dq (prsBytes s p r (prsAddr f (emOf s (emKey f.port (b2n f.dev)))) q.len) q.len ∧ t.lake = s.lake ∧ t.ev = s.ev ∧ t.mor = s.mor ∧ t.chans = s.chans)) ∧
  (∀ (f : PrsFrame) (q : PrsRead) (s : State) (p : PolicyImage) (r : PresentRec) (d : Nat), s.run.policy = some p ∧ prsRec s f.port (b2n f.dev) = some r ∧ prsAnswers s f = true ∧ lakeUp s = true ∧ q.bad = none ∧ (emOf s (emKey f.port (b2n f.dev))).proto = .p1s ∧ 4 ≤ r.width ∧ r.flags.testBit 0 = true ∧ modeDummy r .m1s4d4d = some d ∧ clkOk r d q.mhz = true →
      (∃ t, exec (.prsReadQuadDtr f q) s = .next t ∧ t.reply = .dq (prsBytes s p r (prsAddr f (emOf s (emKey f.port (b2n f.dev)))) q.len) q.len ∧ t.lake = s.lake ∧ t.ev = s.ev ∧ t.mor = s.mor ∧ t.chans = s.chans)) ∧
  (∀ (f : PrsFrame) (q : PrsRead) (s : State) (p : PolicyImage) (r : PresentRec) (d : Nat), s.run.policy = some p ∧ prsRec s f.port (b2n f.dev) = some r ∧ prsAnswers s f = true ∧ lakeUp s = true ∧ q.bad = none ∧ (emOf s (emKey f.port (b2n f.dev))).proto = .p8s ∧ r.facts.xspi8s = some d ∧ clkOk r d q.mhz = true →
      (∃ t, exec (.prsReadOctal f q) s = .next t ∧ t.reply = .dq (prsBytes s p r (prsAddr f (emOf s (emKey f.port (b2n f.dev)))) q.len) q.len ∧ t.lake = s.lake ∧ t.ev = s.ev ∧ t.mor = s.mor ∧ t.chans = s.chans)) ∧
  (∀ (f : PrsFrame) (q : PrsRead) (s : State) (p : PolicyImage) (r : PresentRec) (d : Nat), s.run.policy = some p ∧ prsRec s f.port (b2n f.dev) = some r ∧ prsAnswers s f = true ∧ lakeUp s = true ∧ q.bad = none ∧ (emOf s (emKey f.port (b2n f.dev))).proto = .p8d ∧ r.facts.xspi8d = some d ∧ clkOk r d q.mhz = true →
      (∃ t, exec (.prsReadOctalDtr f q) s = .next t ∧ t.reply = .dq (prsBytes s p r (prsAddr f (emOf s (emKey f.port (b2n f.dev)))) q.len) q.len ∧ t.lake = s.lake ∧ t.ev = s.ev ∧ t.mor = s.mor ∧ t.chans = s.chans))

/-- With WEL set and no write in progress, a program or erase frame over pages of one class MUTABLE or SHADOW becomes
the device's pending write with its span and bytes, and the Lake, the journal and the evidence are as they were; the
write then takes its journal place, becomes durable and is applied, when a MUTABLE write joins the port's journal and
WIP and WEL clear. In the octal protocols and for a 4-byte frame only a 4-byte erase opcode is listed; an 8D program
of an odd number of bytes is rejected, and in the octal protocols a 3-byte page program is an unknown opcode. Each of
these answers a next state under conditions on the state and operands alone: prsPageProgram, prsPageProgramQuad,
prsSectorErase, prsChipErase, writeJournalEntry, writeDurable, writeApply. Where the spec leaves a case open this is
the model's choice (log entries 40, 41, 114). (07_presentation_ports_and_image_lake.md: writes, R42, R38) Derived. -/
def Obligations.PresentedWrites : Prop :=
  (∀ (f : PrsFrame) (d : Bytes) (s : State) (p : PolicyImage) (r : PresentRec), s.run.policy = some p ∧ prsRec s f.port (b2n f.dev) = some r ∧ prsAnswers s f = true ∧ (emOf s (emKey f.port (b2n f.dev))).wel = true ∧ (emOf s (emKey f.port (b2n f.dev))).pend = none ∧ r.port = f.port ∧ r.device = b2n f.dev ∧ d ≠ [] ∧ ((emOf s (emKey f.port (b2n f.dev))).proto = .p1s ∨ f.form4 = true) ∧ ((emOf s (emKey f.port (b2n f.dev))).proto = .p8d → d.length % 2 = 0) ∧ refusingClass (pageClasses p r (programSpan r (prsAddr f (emOf s (emKey f.port (b2n f.dev)))) d).1 (programSpan r (prsAddr f (emOf s (emKey f.port (b2n f.dev)))) d).2.length) = none →
      (∃ t, exec (.prsPageProgram f d) s = .next t ∧ (∃ c, (c = 3 ∨ c = 4) ∧ (emOf t (emKey f.port (b2n f.dev))).pend = some ⟨⟨s.nextWriteId, r.port, r.device, r.channel, r.srcDevice, false, (programSpan r (prsAddr f (emOf s (emKey f.port (b2n f.dev)))) d).1, (programSpan r (prsAddr f (emOf s (emKey f.port (b2n f.dev)))) d).2.length, (programSpan r (prsAddr f (emOf s (emKey f.port (b2n f.dev)))) d).2, c, none⟩, .journal⟩ ∧ t.nextWriteId = s.nextWriteId + 1 ∧ t.lake = s.lake ∧ t.ports = s.ports ∧ t.ev = s.ev))) ∧
  (∀ (f : PrsFrame) (d : Bytes) (s : State) (p : PolicyImage) (r : PresentRec), s.run.policy = some p ∧ prsRec s f.port (b2n f.dev) = some r ∧ prsAnswers s f = true ∧ (emOf s (emKey f.port (b2n f.dev))).wel = true ∧ (emOf s (emKey f.port (b2n f.dev))).pend = none ∧ r.port = f.port ∧ r.device = b2n f.dev ∧ d ≠ [] ∧ (emOf s (emKey f.port (b2n f.dev))).proto = .p1s ∧ 4 ≤ r.width ∧ refusingClass (pageClasses p r (programSpan r (prsAddr f (emOf s (emKey f.port (b2n f.dev)))) d).1 (programSpan r (prsAddr f (emOf s (emKey f.port (b2n f.dev)))) d).2.length) = none →
      (∃ t, exec (.prsPageProgramQuad f d) s = .next t ∧ (∃ c, (c = 3 ∨ c = 4) ∧ (emOf t (emKey f.port (b2n f.dev))).pend = some ⟨⟨s.nextWriteId, r.port, r.device, r.channel, r.srcDevice, false, (programSpan r (prsAddr f (emOf s (emKey f.port (b2n f.dev)))) d).1, (programSpan r (prsAddr f (emOf s (emKey f.port (b2n f.dev)))) d).2.length, (programSpan r (prsAddr f (emOf s (emKey f.port (b2n f.dev)))) d).2, c, none⟩, .journal⟩ ∧ t.nextWriteId = s.nextWriteId + 1 ∧ t.lake = s.lake ∧ t.ports = s.ports ∧ t.ev = s.ev))) ∧
  (∀ (f : PrsFrame) (op : Byte) (g : Nat) (x : Bool) (s : State) (p : PolicyImage) (r : PresentRec), s.run.policy = some p ∧ prsRec s f.port (b2n f.dev) = some r ∧ prsAnswers s f = true ∧ (emOf s (emKey f.port (b2n f.dev))).wel = true ∧ (emOf s (emKey f.port (b2n f.dev))).pend = none ∧ r.port = f.port ∧ r.device = b2n f.dev ∧ eraseType r (emOf s (emKey f.port (b2n f.dev))) f.form4 op = some (g, x) ∧ refusingClass (pageClasses p r ((prsAddr { f with form4 := x } (emOf s (emKey f.port (b2n f.dev)))) / 2 ^ g * 2 ^ g) (2 ^ g)) = none →
      (∃ t, exec (.prsSectorErase f op) s = .next t ∧ (∃ c, (c = 3 ∨ c = 4) ∧ (emOf t (emKey f.port (b2n f.dev))).pend = some ⟨⟨s.nextWriteId, r.port, r.device, r.channel, r.srcDevice, true, ((prsAddr { f with form4 := x } (emOf s (emKey f.port (b2n f.dev)))) / 2 ^ g * 2 ^ g), (2 ^ g), [], c, none⟩, .journal⟩ ∧ t.nextWriteId = s.nextWriteId + 1 ∧ t.lake = s.lake ∧ t.ports = s.ports ∧ t.ev = s.ev))) ∧
  (∀ (r : PresentRec) (e : EmDev) (x : Bool) (op : Byte) (g : Nat) (b : Bool), eraseType r e x op = some (g, b) ∧ (e.proto ≠ .p1s ∨ x = true) →
      b = true) ∧
  (∀ (f : PrsFrame) (d : Bytes) (s : State) (p : PolicyImage) (r : PresentRec), s.run.policy = some p ∧ prsRec s f.port (b2n f.dev) = some r ∧ prsAnswers s f = true ∧ (emOf s (emKey f.port (b2n f.dev))).wel = true ∧ (emOf s (emKey f.port (b2n f.dev))).pend = none ∧ (emOf s (emKey f.port (b2n f.dev))).proto = .p8d ∧ f.form4 = true ∧ d.length % 2 = 1 →
      exec (.prsPageProgram f d) s = .next (say .none (upEm (emKey f.port (b2n f.dev)) (fun e => { e with rstEn := false }) s))) ∧
  (∀ (f : PrsFrame) (d : Bytes) (s : State) (p : PolicyImage) (r : PresentRec), s.run.policy = some p ∧ prsRec s f.port (b2n f.dev) = some r ∧ prsAnswers s f = true ∧ (emOf s (emKey f.port (b2n f.dev))).wel = true ∧ (emOf s (emKey f.port (b2n f.dev))).pend = none ∧ (emOf s (emKey f.port (b2n f.dev))).proto ≠ .p1s ∧ f.form4 = false →
      (∃ t, exec (.prsPageProgram f d) s = .next t ∧ t.reply = .dq [] 0 ∧ (emOf t (emKey f.port (b2n f.dev))).pend = none ∧ (emOf t (emKey f.port (b2n f.dev))).wel = true ∧ t.lake = s.lake ∧ t.ports = s.ports ∧ t.chans = s.chans)) ∧
  (∀ (f : PrsFrame) (s : State) (p : PolicyImage) (r : PresentRec), s.run.policy = some p ∧ prsRec s f.port (b2n f.dev) = some r ∧ prsAnswers s f = true ∧ (emOf s (emKey f.port (b2n f.dev))).wel = true ∧ (emOf s (emKey f.port (b2n f.dev))).pend = none ∧ r.port = f.port ∧ r.device = b2n f.dev ∧ refusingClass (pageClasses p r 0 (prsSize p r)) = none →
      (∃ t, exec (.prsChipErase f) s = .next t ∧ (∃ c, (c = 3 ∨ c = 4) ∧ (emOf t (emKey f.port (b2n f.dev))).pend = some ⟨⟨s.nextWriteId, r.port, r.device, r.channel, r.srcDevice, true, 0, (prsSize p r), [], c, none⟩, .journal⟩ ∧ t.nextWriteId = s.nextWriteId + 1 ∧ t.lake = s.lake ∧ t.ports = s.ports ∧ t.ev = s.ev))) ∧
  (∀ (port : Nat) (dev : Bool) (s : State) (w : PendWrite), (emOf s (emKey port (b2n dev))).pend = some w ∧ w.step = .journal ∧ journalTaken s port < 2048 →
      exec (.writeJournalEntry port dev) s = .next (say .none (upEm (emKey port (b2n dev)) (fun e => { e with pend := some { w with step := .durable } }) s))) ∧
  (∀ (port : Nat) (dev : Bool) (s : State) (w : PendWrite), (emOf s (emKey port (b2n dev))).pend = some w ∧ w.step = .durable ∧ entryFits s = true →
      (∃ t, exec (.writeDurable port dev) s = .next t ∧ (emOf t (emKey port (b2n dev))).pend = some { w with step := .apply } ∧ t.ev = (evWriteJournal w.entry.id w.entry.data.length s.ev).1 ∧ t.lake = s.lake ∧ t.ports = s.ports)) ∧
  (∀ (port : Nat) (dev : Bool) (s : State) (w : PendWrite) (p : PolicyImage) (r : PresentRec), (emOf s (emKey port (b2n dev))).pend = some w ∧ w.step = .apply ∧ lakeUp s = true ∧ s.run.policy = some p ∧ prsRec s port (b2n dev) = some r ∧ w.entry.cls = 3 →
      (∃ t, exec (.writeApply port dev) s = .next t ∧ (emOf t (emKey port (b2n dev))).pend = none ∧ (emOf t (emKey port (b2n dev))).wel = false ∧ (portOf t port).journal = (portOf s port).journal ++ [w.entry] ∧ t.lake = (applyWrite p r w.entry s).lake ∧ t.ev = s.ev))

/-- For every program or erase frame of a serving device (page, quad, sector and chip) whose pages have a class other
than MUTABLE or SHADOW, or mixed classes, or that comes without WEL, no write becomes pending, WEL is clear, and the
Lake, the journal and the flash channels are as they were; one that comes during a write leaves the pending write and
all of these as they were. Each of these answers a next state under conditions on the state and operands alone:
prsPageProgram, prsPageProgramQuad, prsSectorErase, prsChipErase. Where the spec leaves a case open this is the
model's choice (log entry 40). (07_presentation_ports_and_image_lake.md: Lock Map refusal, R42) Derived. -/
def Obligations.WritesOutsideTheLockMapDoNothing : Prop :=
  (∀ (f : PrsFrame) (d : Bytes) (s : State) (p : PolicyImage) (r : PresentRec), s.run.policy = some p ∧ prsRec s f.port (b2n f.dev) = some r ∧ prsAnswers s f = true ∧ r.port = f.port ∧ r.device = b2n f.dev ∧ (emOf s (emKey f.port (b2n f.dev))).pend = none ∧ d ≠ [] ∧ ((emOf s (emKey f.port (b2n f.dev))).proto = .p1s ∨ f.form4 = true) ∧ ((emOf s (emKey f.port (b2n f.dev))).proto = .p8d → d.length % 2 = 0) ∧ ((emOf s (emKey f.port (b2n f.dev))).wel = false ∨ refusingClass (pageClasses p r (programSpan r (prsAddr f (emOf s (emKey f.port (b2n f.dev)))) d).1 (programSpan r (prsAddr f (emOf s (emKey f.port (b2n f.dev)))) d).2.length) ≠ none) →
      (∃ t, exec (.prsPageProgram f d) s = .next t ∧ (emOf t (emKey f.port (b2n f.dev))).pend = none ∧ (emOf t (emKey f.port (b2n f.dev))).wel = false ∧ t.lake = s.lake ∧ t.ports = s.ports ∧ t.chans = s.chans ∧ t.nextWriteId = s.nextWriteId)) ∧
  (∀ (f : PrsFrame) (d : Bytes) (s : State) (p : PolicyImage) (r : PresentRec), s.run.policy = some p ∧ prsRec s f.port (b2n f.dev) = some r ∧ prsAnswers s f = true ∧ r.port = f.port ∧ r.device = b2n f.dev ∧ (emOf s (emKey f.port (b2n f.dev))).pend = none ∧ d ≠ [] ∧ (emOf s (emKey f.port (b2n f.dev))).proto = .p1s ∧ 4 ≤ r.width ∧ ((emOf s (emKey f.port (b2n f.dev))).wel = false ∨ refusingClass (pageClasses p r (programSpan r (prsAddr f (emOf s (emKey f.port (b2n f.dev)))) d).1 (programSpan r (prsAddr f (emOf s (emKey f.port (b2n f.dev)))) d).2.length) ≠ none) →
      (∃ t, exec (.prsPageProgramQuad f d) s = .next t ∧ (emOf t (emKey f.port (b2n f.dev))).pend = none ∧ (emOf t (emKey f.port (b2n f.dev))).wel = false ∧ t.lake = s.lake ∧ t.ports = s.ports ∧ t.chans = s.chans ∧ t.nextWriteId = s.nextWriteId)) ∧
  (∀ (f : PrsFrame) (op : Byte) (g : Nat) (x : Bool) (s : State) (p : PolicyImage) (r : PresentRec), s.run.policy = some p ∧ prsRec s f.port (b2n f.dev) = some r ∧ prsAnswers s f = true ∧ r.port = f.port ∧ r.device = b2n f.dev ∧ (emOf s (emKey f.port (b2n f.dev))).pend = none ∧ eraseType r (emOf s (emKey f.port (b2n f.dev))) f.form4 op = some (g, x) ∧ ((emOf s (emKey f.port (b2n f.dev))).wel = false ∨ refusingClass (pageClasses p r ((prsAddr { f with form4 := x } (emOf s (emKey f.port (b2n f.dev)))) / 2 ^ g * 2 ^ g) (2 ^ g)) ≠ none) →
      (∃ t, exec (.prsSectorErase f op) s = .next t ∧ (emOf t (emKey f.port (b2n f.dev))).pend = none ∧ (emOf t (emKey f.port (b2n f.dev))).wel = false ∧ t.lake = s.lake ∧ t.ports = s.ports ∧ t.chans = s.chans ∧ t.nextWriteId = s.nextWriteId)) ∧
  (∀ (f : PrsFrame) (s : State) (p : PolicyImage) (r : PresentRec), s.run.policy = some p ∧ prsRec s f.port (b2n f.dev) = some r ∧ prsAnswers s f = true ∧ r.port = f.port ∧ r.device = b2n f.dev ∧ (emOf s (emKey f.port (b2n f.dev))).pend = none ∧ ((emOf s (emKey f.port (b2n f.dev))).wel = false ∨ refusingClass (pageClasses p r 0 (prsSize p r)) ≠ none) →
      (∃ t, exec (.prsChipErase f) s = .next t ∧ (emOf t (emKey f.port (b2n f.dev))).pend = none ∧ (emOf t (emKey f.port (b2n f.dev))).wel = false ∧ t.lake = s.lake ∧ t.ports = s.ports ∧ t.chans = s.chans ∧ t.nextWriteId = s.nextWriteId)) ∧
  (∀ (f : PrsFrame) (op : Byte) (d : Bytes) (s : State) (w : PendWrite), (emOf s (emKey f.port (b2n f.dev))).pend = some w →
      (∃ t, exec (.prsPageProgram f d) s = .next t ∧ (emOf t (emKey f.port (b2n f.dev))).pend = some w ∧ (emOf t (emKey f.port (b2n f.dev))).wel = (emOf s (emKey f.port (b2n f.dev))).wel ∧ t.lake = s.lake ∧ t.ports = s.ports ∧ t.chans = s.chans ∧ t.nextWriteId = s.nextWriteId) ∧ (∃ t, exec (.prsPageProgramQuad f d) s = .next t ∧ (emOf t (emKey f.port (b2n f.dev))).pend = some w ∧ (emOf t (emKey f.port (b2n f.dev))).wel = (emOf s (emKey f.port (b2n f.dev))).wel ∧ t.lake = s.lake ∧ t.ports = s.ports ∧ t.chans = s.chans ∧ t.nextWriteId = s.nextWriteId) ∧ (∃ t, exec (.prsSectorErase f op) s = .next t ∧ (emOf t (emKey f.port (b2n f.dev))).pend = some w ∧ (emOf t (emKey f.port (b2n f.dev))).wel = (emOf s (emKey f.port (b2n f.dev))).wel ∧ t.lake = s.lake ∧ t.ports = s.ports ∧ t.chans = s.chans ∧ t.nextWriteId = s.nextWriteId) ∧ (∃ t, exec (.prsChipErase f) s = .next t ∧ (emOf t (emKey f.port (b2n f.dev))).pend = some w ∧ (emOf t (emKey f.port (b2n f.dev))).wel = (emOf s (emKey f.port (b2n f.dev))).wel ∧ t.lake = s.lake ∧ t.ports = s.ports ∧ t.chans = s.chans ∧ t.nextWriteId = s.nextWriteId))

/-- Write enable and disable set and clear WEL; the status read answers WIP and WEL; a status write clears WEL; the
identification and SFDP reads answer the bytes of the PRESENT_ID record and 0xFF beyond them; 0xB7 and 0xE9 set the
address mode of a device above 16 MiB; 0x81 honours 0xFF; 0x66 then 0x99 resets the protocol; power-down opcodes and
rejected frames change nothing; an unknown opcode answers 0xFF with no DQS edge. Each of these answers a next state
under conditions on the state and operands alone: prsWriteEnable, prsWriteDisable, prsWriteStatus, prsReadStatus,
prsReadId, prsReadSfdp, prsEnter4b, prsExit4b, prsProtocolSelect, prsResetEnable, prsReset, prsPowerDown,
prsReleasePowerDown, prsFrameReject, prsUnknownOpcode. (07_presentation_ports_and_image_lake.md: opcode catalogue)
Derived. -/
def Obligations.PresentedRegisters : Prop :=
  (∀ (f : PrsFrame) (s : State) (p : PolicyImage) (r : PresentRec), s.run.policy = some p ∧ prsRec s f.port (b2n f.dev) = some r ∧ prsAnswers s f = true ∧ r.port = f.port ∧ r.device = b2n f.dev →
      exec (.prsWriteEnable f) s = .next (say .none (upEm (emKey f.port (b2n f.dev)) (fun e => { e with rstEn := false, wel := true }) s))) ∧
  (∀ (f : PrsFrame) (s : State) (p : PolicyImage) (r : PresentRec), s.run.policy = some p ∧ prsRec s f.port (b2n f.dev) = some r ∧ prsAnswers s f = true ∧ r.port = f.port ∧ r.device = b2n f.dev →
      exec (.prsWriteDisable f) s = .next (say .none (upEm (emKey f.port (b2n f.dev)) (fun e => { e with rstEn := false, wel := false }) s))) ∧
  (∀ (f : PrsFrame) (s : State) (p : PolicyImage) (r : PresentRec), s.run.policy = some p ∧ prsRec s f.port (b2n f.dev) = some r ∧ prsAnswers s f = true ∧ r.port = f.port ∧ r.device = b2n f.dev →
      exec (.prsWriteStatus f) s = .next (say .none (upEm (emKey f.port (b2n f.dev)) (fun e => { e with rstEn := false, wel := false }) s))) ∧
  (∀ (f : PrsFrame) (n : Nat) (s : State) (p : PolicyImage) (r : PresentRec), s.run.policy = some p ∧ prsRec s f.port (b2n f.dev) = some r ∧ prsAnswers s f = true →
      (∃ t, exec (.prsReadStatus f n) s = .next t ∧ t.reply = .dq (List.replicate n (BitVec.ofNat 8 (b2n (emOf s (emKey f.port (b2n f.dev))).pend.isSome + 2 * b2n (emOf s (emKey f.port (b2n f.dev))).wel))) n ∧ t.lake = s.lake)) ∧
  (∀ (f : PrsFrame) (n : Nat) (s : State) (p : PolicyImage) (r : PresentRec), s.run.policy = some p ∧ prsRec s f.port (b2n f.dev) = some r ∧ prsAnswers s f = true →
      (∃ t, exec (.prsReadId f n) s = .next t ∧ t.reply = .dq (((r.id.take r.idLen) ++ List.replicate n 0xff).take n) n ∧ t.lake = s.lake)) ∧
  (∀ (f : PrsFrame) (n i : Nat) (s : State) (p : PolicyImage) (r : PresentRec), s.run.policy = some p ∧ prsRec s f.port (b2n f.dev) = some r ∧ prsAnswers s f = true ∧ (emOf s (emKey f.port (b2n f.dev))).proto = .p1s ∧ i < n →
      (∃ t, exec (.prsReadSfdp f n) s = .next t ∧ (∃ b k, t.reply = .dq b k ∧ b.getD i 0 = if f.addr.toNat % 16777216 + i < r.sfdpLen then r.sfdp.getD (f.addr.toNat % 16777216 + i) 0xff else 0xff))) ∧
  (∀ (f : PrsFrame) (s : State) (p : PolicyImage) (r : PresentRec), s.run.policy = some p ∧ prsRec s f.port (b2n f.dev) = some r ∧ prsAnswers s f = true ∧ r.port = f.port ∧ r.device = b2n f.dev ∧ (emOf s (emKey f.port (b2n f.dev))).proto = .p1s ∧ 16777216 < prsSize p r →
      exec (.prsEnter4b f) s = .next (say .none (upEm (emKey f.port (b2n f.dev)) (fun e => { e with rstEn := false, addr4 := true }) s))) ∧
  (∀ (f : PrsFrame) (s : State) (p : PolicyImage) (r : PresentRec), s.run.policy = some p ∧ prsRec s f.port (b2n f.dev) = some r ∧ prsAnswers s f = true ∧ r.port = f.port ∧ r.device = b2n f.dev ∧ (emOf s (emKey f.port (b2n f.dev))).proto = .p1s ∧ 16777216 < prsSize p r →
      exec (.prsExit4b f) s = .next (say .none (upEm (emKey f.port (b2n f.dev)) (fun e => { e with rstEn := false, addr4 := false }) s))) ∧
  (∀ (f : PrsFrame) (s : State) (p : PolicyImage) (r : PresentRec), s.run.policy = some p ∧ prsRec s f.port (b2n f.dev) = some r ∧ prsAnswers s f = true ∧ r.port = f.port ∧ r.device = b2n f.dev ∧ (emOf s (emKey f.port (b2n f.dev))).wel = true ∧ prsAddr f (emOf s (emKey f.port (b2n f.dev))) = 0 →
      exec (.prsProtocolSelect f 0xff) s = .next (say .none (upEm (emKey f.port (b2n f.dev)) (fun e => { e with rstEn := false, wel := false, proto := .p1s }) s))) ∧
  (∀ (f : PrsFrame) (s : State) (p : PolicyImage) (r : PresentRec), s.run.policy = some p ∧ prsRec s f.port (b2n f.dev) = some r ∧ prsAnswers s f = true ∧ r.port = f.port ∧ r.device = b2n f.dev →
      exec (.prsResetEnable f) s = .next (say .none (upEm (emKey f.port (b2n f.dev)) (fun e => { e with rstEn := true }) s))) ∧
  (∀ (f : PrsFrame) (s : State) (p : PolicyImage) (r : PresentRec), s.run.policy = some p ∧ prsRec s f.port (b2n f.dev) = some r ∧ prsAnswers s f = true ∧ r.port = f.port ∧ r.device = b2n f.dev ∧ (emOf s (emKey f.port (b2n f.dev))).rstEn = true →
      exec (.prsReset f) s = .next (say .none (upEm (emKey f.port (b2n f.dev)) protoReset s))) ∧
  (∀ (f : PrsFrame) (s : State) (p : PolicyImage) (r : PresentRec), s.run.policy = some p ∧ prsRec s f.port (b2n f.dev) = some r ∧ prsAnswers s f = true ∧ (emOf s (emKey f.port (b2n f.dev))).proto = .p1s →
      exec (.prsPowerDown f) s = .next (say .none (upEm (emKey f.port (b2n f.dev)) (fun e => { e with rstEn := false }) s)) ∧ exec (.prsReleasePowerDown f) s = .next (say .none (upEm (emKey f.port (b2n f.dev)) (fun e => { e with rstEn := false }) s))) ∧
  (∀ (f : PrsFrame) (s : State) (p : PolicyImage) (r : PresentRec), s.run.policy = some p ∧ prsRec s f.port (b2n f.dev) = some r ∧ prsAnswers s f = true →
      exec (.prsFrameReject f) s = .next (say .none (upEm (emKey f.port (b2n f.dev)) (fun e => { e with rstEn := false }) s))) ∧
  (∀ (f : PrsFrame) (op b : Byte) (n : Nat) (s : State) (p : PolicyImage) (r : PresentRec), s.run.policy = some p ∧ prsRec s f.port (b2n f.dev) = some r ∧ prsAnswers s f = true →
      (∃ t, exec (.prsUnknownOpcode f op b n) s = .next t ∧ t.reply = .dq (List.replicate n 0xff) 0 ∧ t.lake = s.lake ∧ t.ports = s.ports ∧ (emOf t (emKey f.port (b2n f.dev))).pend = (emOf s (emKey f.port (b2n f.dev))).pend)) ∧
  (∀ (f : PrsFrame) (s : State), prsAnswers s f = false →
      exec (.prsWriteEnable f) s = .next (say .none s) ∧ exec (.prsReset f) s = .next (say .none s))

/-- A good load of a device whose images are judged makes it SERVE with its protocol reset; a failed one leaves it
FAILED. A line that matches on the second read changes nothing; a channel that fails its link check in NORMAL is
removed and failover begins, whose end is PARITY; one that fails in PARITY leaves the Lake OUT. During failover a
write of working space waits and is done when failover ends. The seven lines of a stripe and its parity line lie in
eight different channels, and a line lost is rebuilt from the other seven with its sideband. Each of these answers a
next state under conditions on the state and operands alone: deviceLoadDone, lakeIntegrityFail, lakeChannelFault,
lakeFailoverDone, registerWrite. Where the spec leaves a case open this is the model's choice (log entries 41, 84,
113). (07_presentation_ports_and_image_lake.md: states of an emulated device, the Image Lake) Derived. -/
def Obligations.DeviceLoadAndLake : Prop :=
  (∀ (port : Nat) (dev : Bool) (c : List (Nat × Byte)) (s : State) (p : PolicyImage) (r : PresentRec), s.run.policy = some p ∧ prsRec s port (b2n dev) = some r ∧ (emOf s (emKey port (b2n dev))).st = .loading ∧ devJudged s p r = true ∧ lakeIn s = true ∧ s.lake.failover = false ∧ (emOf s (emKey port (b2n dev))).loaded = false ∧ (chanOf s r.channel).st = .ready →
      (∃ t, exec (.deviceLoadDone port dev c true) s = .next t ∧ (emOf t (emKey port (b2n dev))).st = .serving ∧ (emOf t (emKey port (b2n dev))).proto = .p1s ∧ (emOf t (emKey port (b2n dev))).wel = false ∧ t.mor = s.mor) ∧ (∃ t, exec (.deviceLoadDone port dev c false) s = .next t ∧ (emOf t (emKey port (b2n dev))).st = .failed ∧ t.lake = s.lake)) ∧
  (∀ (port : Nat) (dev : Bool) (c : List (Nat × Byte)) (ok : Bool) (s : State) (p : PolicyImage) (r : PresentRec), s.run.policy = some p ∧ prsRec s port (b2n dev) = some r ∧ (emOf s (emKey port (b2n dev))).st = .loading ∧ devJudged s p r = true ∧ s.lake.failover = false ∧ (emOf s (emKey port (b2n dev))).loaded = false ∧ ((chanOf s r.channel).st = .stopped ∨ (chanOf s r.channel).st = .failed) →
      (∃ t, exec (.deviceLoadDone port dev c ok) s = .next t ∧ (emOf t (emKey port (b2n dev))).st = .failed ∧ t.lake = s.lake)) ∧
  (∀ (n : BitVec 3) (b : Bool) (s : State), lakeIn s = true ∧ s.lake.active.getLsbD n.toNat = true →
      exec (.lakeIntegrityFail n true b) s = .next (say .none s)) ∧
  (∀ (n : BitVec 3) (s : State), s.lake.mode = .normal ∧ s.lake.failover = false ∧ s.lake.active.getLsbD n.toNat = true →
      exec (.lakeChannelFault n) s = .next (say .none (upLake (fun l => { l with active := putBit l.active n.toNat false, lost := n.toNat, failing := putBit l.failing n.toNat true, failover := true }) s))) ∧
  (∀ (n : BitVec 3) (s : State), s.lake.mode = .parity ∧ s.lake.failover = false ∧ s.lake.active.getLsbD n.toNat = true →
      (∃ t, exec (.lakeChannelFault n) s = .next t ∧ t.lake.mode = .out ∧ t.lake.bytes = s.lake.bytes)) ∧
  (∀ (s : State), s.lake.failover = true ∧ s.lake.held = [] →
      exec .lakeFailoverDone s = .next (say .none (upLake (fun l => { l with failover := false, mode := .parity, failing := 0, held := [] }) s))) ∧
  (∀ (a : Nat) (v : BitVec 32) (s : State), coreRuns s = true ∧ lakeIn s = true ∧ s.lake.failover = true ∧ 0x80000000 ≤ a ∧ a + 4 ≤ 0xd8000000 →
      (∃ t, exec (.registerWrite (.internal false 4 0) a v) s = .next t ∧ t.lake.held = s.lake.held ++ [.work a (le 4 v.toNat)] ∧ t.sc = s.sc ∧ t.lake.bytes = s.lake.bytes)) ∧
  (∀ (s : State) (a : Nat) (b : Bytes), s.lake.failover = true ∧ s.lake.held = [.work a b] →
      exec .lakeFailoverDone s = .next (say .none (workWrite a b (upLake (fun l => { l with failover := false, mode := .parity, failing := 0, held := [] }) s)))) ∧
  (∀ (n : Nat), ((stripeLines n).map lineChannel ++ [stripeParity n]).Nodup ∧ ∀ c ∈ (stripeLines n).map lineChannel ++ [stripeParity n], c < 8) ∧
  (∀ (s : State) (l : Nat), lineRebuilt s l = lineStored s l ++ lineMac s l)

/-- A judgement of a slot that waits for one, from the source that is due, starts its stream from the first byte; a
source the slot lacks, and a slot that holds PASS, is refused with nothing changed; an ended stream writes the verdict
the algorithm gives, which is PASS only where the digests are the same and no comparator is at fault, and a deadline
writes FAIL with cause 0x06. Each of these answers a next state under conditions on the state and operands alone:
judgeStart, judgementDone, verifyDeadlineExpiry. Where the spec leaves a case open this is the model's choice (log
entries 42, 83, 97, 156). (08_verification_recovery_update.md: judgements, deadlines) Derived. -/
def Obligations.Judgements : Prop :=
  (∀ (k : Nat) (s : State) (r : ImageRec), fwRuns s = true ∧ imgRec s k = some r ∧ sourceExists s k .half0 = true ∧ pairOf s k ≠ passPair ∧ (imgOf s k).st = .judging ∧ (imgOf s k).stream = none ∧ dueSource s k = .half0 ∧ streamTurn s k = true ∧ (chanOf s r.channel).st = .ready →
      (∃ t, exec (.judgeStart k .half0) s = .next t ∧ (imgOf t k).stream = some ⟨.half0, 0, r.length, false, []⟩ ∧ (imgOf t k).lastSrc = some .half0 ∧ pairOf t k ≠ failPair ∧ t.chans = s.chans ∧ t.ev = s.ev ∧ t.otp = s.otp)) ∧
  (∀ (k : Nat) (x : Source) (s : State), fwRuns s = true ∧ (imgRec s k).isSome = true ∧ (sourceExists s k x = false ∨ pairOf s k = passPair) →
      exec (.judgeStart k x) s = .next (say .none s)) ∧
  (∀ (k : Nat) (sig : Sig2) (b : BitVec 2) (s : State) (r : ImageRec) (st u : Stream), imgRec s k = some r ∧ (imgOf s k).stream = some st ∧ (st.left = 0 ∨ st.failed = true ∨ st.src = .lake) ∧ dgaHas s (.stream k) = true ∧ sigIn s = true ∧ (s.mor.aocA = true ∨ s.mor.aocB = true) ∧ s.lake.failover = false ∧ u = judgedStream s k st ∧ (imgPresent s k = none ∨ lakeIn s = true) →
      exec (.judgementDone k sig b) s = .next (say .none (settle (writeVerdict k st.src (judgedManifest u sig) (judgeCause s r (judgedManifest u sig) u.got (!u.failed) b).2 (decide ((judgeCause s r (judgedManifest u sig) u.got (!u.failed) b).1 = 0)) (judgeCause s r (judgedManifest u sig) u.got (!u.failed) b).1 s)))) ∧
  (∀ (s : State) (r : ImageRec) (m : Option Manifest) (c : List (Nat × Byte)) (g : Bool) (b : BitVec 2), r.mode = 1 ∧ (judgeCause s r m c g b).1 = 0 →
      g = true ∧ b = 0 ∧ fit 64 (digestOf r.hash (cellBytes c 0 r.length)) = fit 64 r.refDigest) ∧
  (∀ (s : State) (r : ImageRec) (sig : Sig2) (c : List (Nat × Byte)) (g : Bool) (b : BitVec 2), r.mode ≠ 1 ∧ (judgeCause s r (some (manifestOf c sig)) c g b).1 = 0 →
      g = true ∧ b = 0 ∧ sigOk sig = true ∧ manifestFieldsOk r (manifestOf c sig) = true ∧ (r.svnIndex ≠ 0xffff → tabGet 0 s.nrx.counters r.svnIndex ≤ (manifestOf c sig).svn) ∧ fit 64 (digestOf r.hash (cellBytes c 8192 (r.length - 8192))) = fit 64 (manifestOf c sig).payloadDigest) ∧
  (∀ (k : Nat) (sig : Sig2) (s : State) (r : ImageRec) (st : Stream), imgRec s k = some r ∧ (imgOf s k).stream = some st ∧ (s.mor.aocA = true ∨ s.mor.aocB = true) ∧ (st.left ≠ 0 ∨ st.failed = true) →
      exec (.verifyDeadlineExpiry k sig) s = .next (say .none (settle (writeVerdict k st.src (judgedManifest st sig) (zeros 64) false 6 s)))) ∧
  (∀ (k : Nat) (sig : Sig2) (s : State) (r : ImageRec) (st : Stream), imgRec s k = some r ∧ (imgOf s k).stream = some st ∧ (s.mor.aocA = true ∨ s.mor.aocB = true) ∧ st.left = 0 ∧ st.failed = false →
      exec (.verifyDeadlineExpiry k sig) s = .next (say .none (settle (writeVerdict k st.src (judgedManifest st sig) (judgeCause s r (judgedManifest st sig) st.got true 0).2 false 6 s))))

/-- For every command, state and slot: a Verdict pair that holds PASS after the command held it before, unless the
command is JUDGEMENT_DONE of that image slot or an SPDM response of the endpoint of that slot; no register write, host
request, message or reset sets one. (R30, 03_start_hold_and_release.md: Verdict slots) Derived. -/
def Obligations.VerdictsComeFromTheVerdictPath : Prop :=
  (∀ (c : Instr) (s t : State) (k : Nat), exec c s = .next t ∧ pairOf t k = passPair →
      pairOf s k = passPair ∨ (∃ sig b, c = .judgementDone k sig b) ∨ (∃ j b g, c = .spdmMeasurements j b g ∧ k = 256 + j))

/-- A restore that waits for the Vault begins to judge the slot's object once the Vault serves, and fails its action
when the object is empty or the wait ends; a passed image due for storing begins to be written to the Vault, with the
bytes of its image range in the Lake or, for a device that is not presented, the bytes read again that hash to what
passed: its data first, and after them its directory entry, with which it is the slot's object; an advance that is
permitted, with its record durable, raises the floor of its counter, or of the policy, and never lowers it; one that
rests on an object of the Vault first reads it. Each of these answers a next state under conditions on the state and
operands alone: restoreVaultBegin, vaultWaitExpiry, goldenStore, imageSvnAdvance, policySvnAdvance. Where the spec
leaves a case open this is the model's choice (log entries 97, 120, 121, 140). (08_verification_recovery_update.md:
recovery, SVN counters, R48, 05_policy_image.md: policy SVN floor) Derived. -/
def Obligations.RecoveryAndSvn : Prop :=
  (∀ (k : Nat) (s : State) (q : RecoveryRec) (o : VaultObj) (r : ImageRec), fwRuns s = true ∧ (imgOf s k).st = .recovering ∧ (imgOf s k).action = 2 ∧ (imgOf s k).waitVault = true ∧ s.vault.state ≠ .out ∧ recRec s k = some q ∧ tabGet none s.vault.objects q.vaultObject = some o ∧ imgRec s k = some r →
      (∃ t, exec (.restoreVaultBegin k) s = .next t ∧ (imgOf t k).stream = some ⟨.vault, 0, r.length, false, []⟩ ∧ (imgOf t k).waitVault = false ∧ (imgOf t k).st = .recovering ∧ t.vault.objects = s.vault.objects)) ∧
  (∀ (k : Nat) (s : State) (q : RecoveryRec), fwRuns s = true ∧ (imgOf s k).st = .recovering ∧ (imgOf s k).action = 2 ∧ (imgOf s k).waitVault = true ∧ s.vault.state ≠ .out ∧ recRec s k = some q ∧ tabGet none s.vault.objects q.vaultObject = none →
      exec (.restoreVaultBegin k) s = .next (say .none (settle (actionFails k s)))) ∧
  (∀ (k : Nat) (s : State), (imgOf s k).st = .recovering ∧ (imgOf s k).action = 2 ∧ (imgOf s k).waitVault = true ∧ s.vault.state = .out →
      exec (.vaultWaitExpiry k) s = .next (say .none (settle (actionFails k s)))) ∧
  (∀ (k a : Nat) (read : List (Nat × Byte)) (s : State) (r : ImageRec) (q : RecoveryRec) (p : PolicyImage) (e : PresentRec), imgRec s k = some r ∧ recRec s k = some q ∧ s.run.policy = some p ∧ imgPresent s k = some e ∧ lakeUp s = true ∧ fwRuns s = true ∧ (imgOf s k).storeDue = true ∧ (imgOf s k).st = .passed ∧ s.vault.state = .inService ∧ s.otp.session = none ∧ tabGet none s.vault.objects q.vaultObject = none ∧ objPending s.vault q.vaultObject = false ∧ vaultPlace s (ceilDiv r.length 4096) = some a →
      exec (.goldenStore k read) s = .next (say .none (nvmeWrite (.objData q.vaultObject ⟨k, r.length, a, sha384 (cellBytes (lakeCells s (lakeBase p e + r.offset) r.length) 0 r.length), lakeCells s (lakeBase p e + r.offset) r.length, (imgOf s k).manifest⟩) (ceilDiv r.length 4096) kindGolden a (ceilDiv r.length 4096) s))) ∧
  (∀ (k a : Nat) (read : List (Nat × Byte)) (s : State) (r : ImageRec) (q : RecoveryRec), imgRec s k = some r ∧ recRec s k = some q ∧ imgPresent s k = none ∧ passedBytes s r read = true ∧ fwRuns s = true ∧ (imgOf s k).storeDue = true ∧ (imgOf s k).st = .passed ∧ s.vault.state = .inService ∧ s.otp.session = none ∧ tabGet none s.vault.objects q.vaultObject = none ∧ objPending s.vault q.vaultObject = false ∧ vaultPlace s (ceilDiv r.length 4096) = some a →
      exec (.goldenStore k read) s = .next (say .none (nvmeWrite (.objData q.vaultObject ⟨k, r.length, a, sha384 (cellBytes read 0 r.length), read, (imgOf s k).manifest⟩) (ceilDiv r.length 4096) kindGolden a (ceilDiv r.length 4096) s))) ∧
  (∀ (b : Nat) (o : VaultObj) (d : List DriveBlock) (s : State), nvmeEffect d (.objData b o) s = nvmeWrite (.objDir b o) 1 kindDir (lbaDir b) 1 s ∧ tabGet none (nvmeEffect d (.objDir b o) s).vault.objects b = some o ∧ (∀ c, c ≠ b → tabGet none (nvmeEffect d (.objDir b o) s).vault.objects c = tabGet none s.vault.objects c)) ∧
  (∀ (k : Nat) (g : List (Nat × Manifest)) (s : State) (r : ImageRec) (m : Manifest), imgRec s k = some r ∧ (imgOf s k).manifest = some m ∧ fwRuns s = true ∧ sigIn s = true ∧ r.mode = 2 ∧ r.svnIndex ≠ 0xffff ∧ svnAdvanceOk s k r.svnIndex m.svn g = true ∧ vaultSources s r.svnIndex = [] ∧ durableNow s 0x0009 1 (le 2 r.svnIndex ++ le 2 0 ++ le 8 (tabGet 0 s.nrx.counters r.svnIndex) ++ le 8 m.svn) (.svnAdvance r.svnIndex m.svn) = true →
      (∃ t, exec (.imageSvnAdvance k g) s = .next t ∧ tabGet 0 t.nrx.counters r.svnIndex = m.svn ∧ tabGet 0 s.nrx.counters r.svnIndex < m.svn ∧ (∀ i, i ≠ r.svnIndex → tabGet 0 t.nrx.counters i = tabGet 0 s.nrx.counters i) ∧ t.ev = (recorded s 0x0009 1 (le 2 r.svnIndex ++ le 2 0 ++ le 8 (tabGet 0 s.nrx.counters r.svnIndex) ++ le 8 m.svn) (.svnAdvance r.svnIndex m.svn)).ev)) ∧
  (∀ (s : State) (p o : PolicyImage), s.run.policy = some p ∧ otherPolicy s = some o ∧ fwRuns s = true ∧ sigIn s = true ∧ dgaIn s = true ∧ polSvnAdvance p = true ∧ s.polFloor < p.hdr.svn ∧ 3 ≤ s.mor.phase ∧ polVerdict s.otp (fwFormats s) s.polFloor o = .accepted ∧ p.hdr.svn ≤ o.hdr.svn ∧ durableNow s 0x0044 1 (le 4 s.polFloor ++ le 4 p.hdr.svn ++ polDigest p) (.policySvn p.hdr.svn) = true →
      exec .policySvnAdvance s = .next (say .none { recorded s 0x0044 1 (le 4 s.polFloor ++ le 4 p.hdr.svn ++ polDigest p) (.policySvn p.hdr.svn) with polFloor := p.hdr.svn })) ∧
  (∀ (k : Nat) (g : List (Nat × Manifest)) (s : State) (r : ImageRec) (m : Manifest), imgRec s k = some r ∧ (imgOf s k).manifest = some m ∧ fwRuns s = true ∧ sigIn s = true ∧ r.mode = 2 ∧ r.svnIndex ≠ 0xffff ∧ svnAdvanceOk s k r.svnIndex m.svn g = true ∧ vaultSources s r.svnIndex ≠ [] ∧ s.vault.state ≠ .out ∧ s.vault.nvme.any (fun c => decide (c.use = .svnRead k g)) = false →
      exec (.imageSvnAdvance k g) s = .next (say .none (nvmeIssue [.svnRead k g] s))) ∧
  (∀ (k : Nat) (g : List (Nat × Manifest)) (d : List DriveBlock) (s : State) (r : ImageRec) (m : Manifest), imgRec s k = some r ∧ (imgOf s k).manifest = some m →
      nvmeEffect d (.svnRead k g) s = if (svnAdvanceOk s k r.svnIndex m.svn g && sourcesRead d s r.svnIndex) = true then svnRecord r.svnIndex m.svn s else s) ∧
  (∀ (k n idx : Nat) (g : List (Nat × Manifest)) (s : State), svnAdvanceOk s k idx n g = true →
      tabGet 0 s.nrx.counters idx < n ∧ (imgOf s k).st = .passed)

/-- A capsule with a reason against it is refused: its turn ends and no grant, half or stage flag changes. One that is
accepted for writing raises the grant; a read-back that does not match ends the grant and refuses it. An update
request takes the one place and a second is answered with a code of its own; a cancel of that port ends it; a capsule
pushed in an update joins the queue, and when it is done the port learns the result, the last one ending the update; a
component that is not accepted leaves the other slot and the directory as they were, one whose frames fail leaves
nothing readable in its slot, and with CCH_00 out of service nothing is written. Each of these answers a next state
under conditions on the state and operands alone: capsuleStage, pldmRequestUpdate, pldmCancelUpdate, pldmCapsulePush,
pldmComponentPush. Where the spec leaves a case open this is the model's choice (log entries 20, 50, 115, 122).
(08_verification_recovery_update.md: capsules, R279, 05_policy_image.md: component updates) Derived. -/
def Obligations.CapsulesAndUpdates : Prop :=
  (∀ (b : Option (List (Nat × Byte))) (y : BitVec 2) (s : State) (j : CapsuleJob) (r : List CapsuleJob), fwRuns s = true ∧ dgaIn s = true ∧ sigIn s = true ∧ s.capsules = j :: r ∧ j.step = 0 ∧ capsuleReason s j.cap y ≠ 0 →
      (∃ t, exec (.capsuleStage b y) s = .next t ∧ t.capsules = r ∧ t.grant = none ∧ t.staged = s.staged ∧ t.activeHalf = s.activeHalf ∧ t.vault = s.vault ∧ t.imgs = s.imgs)) ∧
  (∀ (x : Option (List (Nat × Byte))) (y : BitVec 2) (s : State) (j : CapsuleJob) (r : List CapsuleJob) (b : Bool) (l : Bool), fwRuns s = true ∧ dgaIn s = true ∧ sigIn s = true ∧ s.capsules = j :: r ∧ j.origin = .pldm (b2n b) l ∧ j.step = 0 ∧ capsuleReason s j.cap y ≠ 0 →
      (∃ t, exec (.capsuleStage x y) s = .next t ∧ (mgtOf t b).applied = some 1 ∧ (l = true → s.pldmUpdate = some (b2n b) → t.pldmUpdate = none) ∧ (l = false → t.pldmUpdate = s.pldmUpdate))) ∧
  (∀ (b : Option (List (Nat × Byte))) (y : BitVec 2) (s : State) (j : CapsuleJob) (r : List CapsuleJob), fwRuns s = true ∧ dgaIn s = true ∧ sigIn s = true ∧ s.capsules = j :: r ∧ j.step = 0 ∧ capsuleReason s j.cap y = 0 ∧ capsuleBusy s j.cap = false ∧ capKind j.cap ≠ 3 →
      (∃ t, exec (.capsuleStage b y) s = .next t ∧ t.capsules = { j with step := 4 } :: r ∧ t.grant = capsuleGrant s j.cap ∧ (capKind j.cap = 1 → tabGet false t.staged (capSlot j.cap) = false) ∧ t.ev = s.ev)) ∧
  (∀ (y : BitVec 2) (s : State) (j : CapsuleJob) (r : List CapsuleJob), fwRuns s = true ∧ dgaIn s = true ∧ sigIn s = true ∧ s.capsules = j :: r ∧ j.step = 4 ∧ capKind j.cap ≠ 3 →
      (∃ t, exec (.capsuleStage none y) s = .next t ∧ t.capsules = r ∧ t.grant = none ∧ t.staged = s.staged)) ∧
  (∀ (b : Bool) (s : State), mgtUp s b = true ∧ s.pldmUpdate = none →
      exec (.pldmRequestUpdate b) s = .next (say (.result 0) { mgtMsg b s with pldmUpdate := some (b2n b) })) ∧
  (∀ (b : Bool) (s : State), mgtUp s b = true ∧ s.pldmUpdate = some (b2n b) →
      exec (.pldmRequestUpdate b) s = .next (say (.result 0x81) (mgtMsg b s)) ∧ exec (.pldmCancelUpdate b) s = .next (say (.result 0) { mgtMsg b s with pldmUpdate := none })) ∧
  (∀ (b l : Bool) (c : Capsule) (s : State), fwRuns s = true ∧ mgtUp s b = true ∧ s.pldmUpdate = some (b2n b) →
      exec (.pldmCapsulePush b c l) s = .next (say .none { mgtMsg b s with capsules := s.capsules ++ [⟨c, .pldm (b2n b) l, 0⟩] })) ∧
  (∀ (b l : Bool) (f : PushFrames) (c : Component) (s : State), mgtUp s b = true ∧ s.pldmUpdate = some (b2n b) ∧ sigIn s = true ∧ dgaIn s = true ∧ paOk s = true ∧ evFree s.ev 0x000e = true ∧ fixUsed s.ev < 383 ∧ cfgUp s = true ∧ floorService s = false ∧ pushAccepted s c = false →
      (∃ t, exec (.pldmComponentPush b c f l) s = .next t ∧ t.reply = .result 1 ∧ t.cfg = (if f.written = true then (putComponent c (pushSlot s c) s).cfg else (dropComponent c (pushSlot s c) s).cfg) ∧ t.pldmUpdate = (if l then none else s.pldmUpdate) ∧ t.polFloor = s.polFloor ∧ t.run = s.run)) ∧
  (∀ (b l : Bool) (f : PushFrames) (c : Component) (s : State), mgtUp s b = true ∧ s.pldmUpdate = some (b2n b) ∧ sigIn s = true ∧ dgaIn s = true ∧ paOk s = true ∧ evFree s.ev 0x000e = true ∧ fixUsed s.ev < 383 ∧ cfgUp s = false →
      (∃ t, exec (.pldmComponentPush b c f l) s = .next t ∧ t.reply = .result 1 ∧ t.cfg = s.cfg ∧ t.run = s.run ∧ t.ev = s.ev)) ∧
  (∀ (b l : Bool) (f : PushFrames) (c : Component) (s : State) (d : BootDir), mgtUp s b = true ∧ s.pldmUpdate = some (b2n b) ∧ sigIn s = true ∧ dgaIn s = true ∧ paOk s = true ∧ evFree s.ev 0x000e = true ∧ fixUsed s.ev < 383 ∧ cfgUp s = true ∧ floorService s = false ∧ pushAccepted s c = true ∧ bootDir s.cfg = some d ∧ pushSlot s c = primarySlot s c →
      (∃ t, exec (.pldmComponentPush b c f l) s = .next t ∧ t.reply = .result (if f.written = true then 0 else 1) ∧ t.cfg = (if f.written = true then (putComponent c (pushSlot s c) s).cfg else (dropComponent c (pushSlot s c) s).cfg) ∧ t.run = s.run))

/-- A port that may train, with what FABRIC permits, reaches L0 with the rate, width and modes negotiated, and its
partition is up; a downstream link that leaves L0 leaves the endpoint sealed or, if it was OPEN or in RECHECK,
contained with cause LINK; t_EPLINK and t_EPRDY refuse the endpoint; readiness ends t_EPWAIT, a retry is repeated with
no change, and a configuration success starts the attestation from GET_VERSION, or without an SPDM mailbox fails it. A
link that a CONTAINED endpoint loses is remembered for its next link up. An endpoint that is sealed has no link and no
readings of its port's last one. Each of these answers a next state under conditions on the state and operands alone:
linkUp, linkDown, endpointLinkTimeout, endpointReadyWaitEnd, deviceReadinessStatus, configRetry,
endpointConfigSuccess, endpointReadyTimeout. Where the spec leaves a case open this is the model's choice (log entries
31, 60, 95). (R286, R287, R288, R298, R302, R310) Derived. -/
def Obligations.LinksAndReadiness : Prop :=
  (∀ (port rate width : Nat) (flit l0p : Bool) (s : State) (r : FabricRec), portRec s port = some r ∧ r.role = 1 ∧ portTrains s port = true ∧ linkFits r rate width flit l0p = true ∧ (linkOf s port).rate = 0 →
      (∃ t, exec (.linkUp port rate width flit l0p) s = .next t ∧ linkOf t port = ⟨rate, width, flit, l0p, true, false⟩ ∧ (partOf t r.part).up = true ∧ (∀ j, epOf t j = epOf s j) ∧ t.mor = s.mor ∧ t.ev = s.ev)) ∧
  (∀ (port rate width : Nat) (flit l0p : Bool) (s : State) (r : FabricRec) (j : Nat), portRec s port = some r ∧ r.role = 2 ∧ epAt s port = some j ∧ portTrains s port = true ∧ linkFits r rate width flit l0p = true ∧ (linkOf s port).rate = 0 →
      exec (.linkUp port rate width flit l0p) s = .next (say .none (settle (epUp j (upFab (fun g => { g with links := tabSet link0 g.links port ⟨rate, width, flit, l0p, true, false⟩ }) s))))) ∧
  (∀ (port : Nat) (s : State) (j : Nat), epAt s port = some j ∧ (epOf s j).link = true ∧ ((epOf s j).st = .opened ∨ (epOf s j).st = .recheck) →
      exec (.linkDown port) s = .next (say .none (settle (epContain (fun c => { c with link := true }) j (upEp j (fun e => { e with link := false, epWait := false }) (linkDrop port s)))))) ∧
  (∀ (port : Nat) (s : State) (j : Nat), epAt s port = some j ∧ (epOf s j).link = true ∧ (epOf s j).st ≠ .opened ∧ (epOf s j).st ≠ .recheck →
      (∃ t, exec (.linkDown port) s = .next t ∧ (epOf t j).link = false ∧ (epOf t j).st = (epOf s j).st ∧ (epOf t j).causes = (epOf s j).causes ∧ ((epOf s j).st = .contained → (epOf t j).relink = true) ∧ linkOf t port = link0 ∧ t.mor = s.mor ∧ t.ev = s.ev)) ∧
  (∀ (j : Nat) (s : State), (epOf s j).st = .vat ∧ (epOf s j).link = false ∧ (epOf s j).configuring = false ∧ (epOf s j).releaseDue = false ∧ s.run.microcode = true ∧ aocRuns s = true →
      exec (.endpointLinkTimeout j) s = .next (say .none (settle (epFail 1 [] j s)))) ∧
  (∀ (j : Nat) (s : State), (epOf s j).epWait = true ∧ (epOf s j).link = true ∧ (epOf s j).st = .vat →
      (∃ t, exec (.endpointReadyWaitEnd j) s = .next t ∧ (epOf t j).epWait = false ∧ (epOf t j).configuring = true ∧ (epOf t j).st = .vat ∧ t.mor = s.mor) ∧ exec (.deviceReadinessStatus j) s = exec (.endpointReadyWaitEnd j) s) ∧
  (∀ (j : Nat) (s : State), (epOf s j).epWait = true ∧ (epOf s j).link = true ∧ (epOf s j).st = .recheck →
      (∃ t, exec (.deviceReadinessStatus j) s = .next t ∧ (epOf t j).epWait = false ∧ (epOf t j).att = some ⟨.heldCheck, .version, 0, 0, 0, [], [], false, []⟩ ∧ (epOf t j).recheckPair = 0)) ∧
  (∀ (j : Nat) (s : State), (epOf s j).st = .vat ∧ (epOf s j).configuring = true ∧ (epOf s j).link = true ∧ aocRuns s = true →
      exec (.configRetry j) s = .next (say .none s) ∧ (∃ t, exec (.endpointConfigSuccess j true) s = .next t ∧ (epOf t j).st = .attesting ∧ (epOf t j).configuring = false ∧ (epOf t j).att = some ⟨.initial, .version, 0, 0, 0, [], [], false, []⟩ ∧ pairOf t (256 + j) = pairOf s (256 + j))) ∧
  (∀ (j : Nat) (s : State), (epOf s j).st = .vat ∧ (epOf s j).configuring = true ∧ (epOf s j).link = true ∧ aocRuns s = true →
      (∃ t, exec (.endpointConfigSuccess j false) s = .next t ∧ (epOf t j).att = none ∧ (epOf t j).st ≠ .attested ∧ pairOf t (256 + j) ≠ passPair)) ∧
  (∀ (j : Nat) (s : State), linkOf (epSealIt j s) (epPort s j) = link0 ∧ (epOf (epSealIt j s) j).st = .isSealed ∧ (epOf (epSealIt j s) j).link = false ∧ medOf (epSealIt j s) (epPort s j) = none ∧ (aocRuns s = true → pairOf (epSealIt j s) (256 + j) = 0)) ∧
  (∀ (j : Nat) (s : State), (epOf s j).st = .vat ∧ (epOf s j).configuring = true ∧ (epOf s j).releaseDue = false ∧ aocRuns s = true →
      exec (.endpointReadyTimeout j) s = .next (say .none (settle (epFail 1 [] j s)))) ∧
  (∀ (j cause : Nat) (digest : Bytes) (s : State), (aocRuns s = true → pairOf (epFail cause digest j s) (256 + j) = failPair) ∧ (aocRuns s = false → pairOf (epFail cause digest j s) (256 + j) = pairOf s (256 + j)) ∧ (epOf (epFail cause digest j s) j).st = .refused ∧ (∀ k, k ≠ 256 + j → pairOf (epFail cause digest j s) k = pairOf s k))

/-- Each response that meets its condition goes on to the next exchange with its first send, and changes no slot and
no seal; a response that does not ends the attestation with its cause: 0x02 for time, 0x03 for the protocol, 0x04 for
the root, 0x05 for the chain, 0x06 for the signature, 0x07 for the measurements. An ended initial attestation writes
its Verdict pair while an oscillator runs, and one that failed refuses the endpoint; a re-check, periodic or held,
that failed contains it with cause CHANGED and leaves the other endpoints as they were, and then the trip rule of that
endpoint acts; a periodic one that passed leaves the endpoint as it was, and what lifts a containment opens it only
where its re-check passed. Each of these answers a next state under conditions on the state and operands alone:
spdmVersion, spdmCapabilities, spdmAlgorithms, spdmDigests, spdmCertificate, spdmMeasurements, spdmError,
attestationTimeout, spdmSendTimeout. Where the spec leaves a case open this is the model's choice (log entries 31, 95,
96, 97). (R298, R302, R303, R304, R306) Derived. -/
def Obligations.Attestation : Prop :=
  (∀ (j best : Nat) (s : State), spdmAt s j .version = true ∧ spdmMin s j ≤ best ∧ (best = 0x12 ∨ best = 0x13) →
      (∃ t, exec (.spdmVersion j best) s = .next t ∧ spdmAt t j .capabilities = true ∧ (epOf t j).st = (epOf s j).st ∧ t.mor = s.mor ∧ t.ev = s.ev)) ∧
  (∀ (j best : Nat) (s : State), spdmAt s j .version = true ∧ ¬ (spdmMin s j ≤ best ∧ (best = 0x12 ∨ best = 0x13)) →
      exec (.spdmVersion j best) s = .next (say .none (settle (attEnd 3 [] j s)))) ∧
  (∀ (j : Nat) (s : State), spdmAt s j .capabilities = true →
      (∀ h, (∃ t, exec (.spdmCapabilities j true 2 h) s = .next t ∧ spdmAt t j .algorithms = true ∧ (∀ a, (epOf t j).att = some a → a.chunk = h) ∧ t.mor = s.mor)) ∧ (∀ c m h, ¬ (c = true ∧ m = 2) → exec (.spdmCapabilities j c m h) s = .next (say .none (settle (attEnd 3 [] j s))))) ∧
  (∀ (j : Nat) (s : State), spdmAt s j .algorithms = true →
      (∃ t, exec (.spdmAlgorithms j true true true true) s = .next t ∧ spdmAt t j .digests = true ∧ t.mor = s.mor) ∧ (∀ a b c d, ¬ (a = true ∧ b = true ∧ c = true ∧ d = true) → exec (.spdmAlgorithms j a b c d) s = .next (say .none (settle (attEnd 3 [] j s))))) ∧
  (∀ (j : Nat) (s : State), spdmAt s j .digests = true →
      (∃ t, exec (.spdmDigests j true) s = .next t ∧ spdmAt t j .certificate = true ∧ t.mor = s.mor) ∧ exec (.spdmDigests j false) s = .next (say .none (settle (attEnd 3 [] j s)))) ∧
  (∀ (j portion remainder : Nat) (root : Bytes) (ok : Bool) (s : State) (a : Att), spdmAt s j .certificate = true ∧ (epOf s j).att = some a ∧ 0 < portion ∧ portion ≤ 4096 ∧ remainder ≠ 0 →
      (∃ t, exec (.spdmCertificate j portion remainder root ok) s = .next t ∧ (epOf t j).att = some { a with chain := a.chain + portion, sends := 0 } ∧ t.mor = s.mor)) ∧
  (∀ (j portion : Nat) (root : Bytes) (ok : Bool) (s : State), spdmAt s j .certificate = true ∧ sigIn s = true ∧ dgaIn s = true ∧ 0 < portion ∧ portion ≤ 4096 ∧ sha384 root ≠ rootWant s j →
      exec (.spdmCertificate j portion 0 root ok) s = .next (say .none (settle (attEnd 4 [] j s)))) ∧
  (∀ (j portion : Nat) (root : Bytes) (s : State), spdmAt s j .certificate = true ∧ sigIn s = true ∧ dgaIn s = true ∧ 0 < portion ∧ portion ≤ 4096 ∧ sha384 root = rootWant s j →
      exec (.spdmCertificate j portion 0 root false) s = .next (say .none (settle (attEnd 5 [] j s)))) ∧
  (∀ (j portion : Nat) (root : Bytes) (s : State) (a : Att), spdmAt s j .certificate = true ∧ (epOf s j).att = some a ∧ sigIn s = true ∧ dgaIn s = true ∧ 0 < portion ∧ portion ≤ 4096 ∧ sha384 root = rootWant s j →
      (∃ t, exec (.spdmCertificate j portion 0 root true) s = .next t ∧ (∃ n, (epOf t j).att = some { a with step := .measurements, sends := 0, chain := a.chain + portion, left := measSel s j, blocks := [], nonce := n } ∧ ((measSel s j).length ≤ 1 → s.kld.rngFail = false → n = nextFree s 32 ∧ t.freeCtr = s.freeCtr + 1) ∧ t.mor = s.mor))) ∧
  (∀ (j : Nat) (b : Bytes) (sig : Half) (s : State) (a : Att), spdmAt s j .measurements = true ∧ (epOf s j).att = some a ∧ b.length ≤ spdmLimit a ∧ 1 < a.left.length →
      (∃ t, exec (.spdmMeasurements j (some b) sig) s = .next t ∧ (∃ n, (epOf t j).att = some { a with left := a.left.drop 1, blocks := a.blocks ++ b, sends := 0, nonce := n } ∧ (a.left.length = 2 → s.kld.rngFail = false → n = nextFree s 32) ∧ t.mor = s.mor))) ∧
  (∀ (j : Nat) (b : Bytes) (s : State) (a : Att), spdmAt s j .measurements = true ∧ (epOf s j).att = some a ∧ a.nonce ≠ [] ∧ b.length ≤ spdmLimit a ∧ sigIn s = true ∧ dgaIn s = true ∧ a.left.length ≤ 1 →
      exec (.spdmMeasurements j (some b) .missing) s = .next (say .none (settle (attEnd 3 [] j s))) ∧ exec (.spdmMeasurements j (some b) .bad) s = .next (say .none (settle (attEnd 6 [] j s))) ∧ exec (.spdmMeasurements j (some b) .good) s = .next (say .none (settle (attEnd (if sha384 (a.blocks ++ b) = measWant s j then 0 else 7) (sha384 (a.blocks ++ b)) j s)))) ∧
  (∀ (j : Nat) (b : Bytes) (sig : Half) (s : State) (a : Att), spdmAt s j .measurements = true ∧ measSent s j = true ∧ (epOf s j).att = some a ∧ spdmLimit a < b.length →
      exec (.spdmMeasurements j (some b) sig) s = .next (say .none (settle (attEnd 3 [] j s))) ∧ exec (.spdmMeasurements j none sig) s = .next (say .none (settle (attEnd 3 [] j s)))) ∧
  (∀ (j : Nat) (s : State) (a : Att), attRuns s j = true ∧ aocRuns s = true ∧ (epOf s j).att = some a →
      exec (.spdmError j true) s = .next (say .none s) ∧ exec (.spdmError j false) s = .next (say .none (settle (attEnd 3 [] j s))) ∧ exec (.attestationTimeout j) s = .next (say .none (settle (attEnd 2 [] j s)))) ∧
  (∀ (j : Nat) (s : State) (a : Att), attRuns s j = true ∧ (epOf s j).att = some a ∧ a.sends < 2 →
      (∃ t, exec (.spdmSendTimeout j) s = .next t ∧ (epOf t j).att = some { a with sends := a.sends + 1 } ∧ t.mor = s.mor)) ∧
  (∀ (j : Nat) (s : State) (a : Att), attRuns s j = true ∧ (epOf s j).att = some a ∧ 2 ≤ a.sends →
      exec (.spdmSendTimeout j) s = .next (say .none (settle (attEnd 2 [] j s)))) ∧
  (∀ (j cause : Nat) (d : Bytes) (s : State) (a : Att), (epOf s j).att = some a ∧ a.kind = .initial →
      (aocRuns s = true → pairOf (attEnd cause d j s) (256 + j) = if cause = 0 then passPair else failPair) ∧ (aocRuns s = false → pairOf (attEnd cause d j s) (256 + j) = pairOf s (256 + j)) ∧ (epOf (attEnd cause d j s) j).st = if cause = 0 then .attested else .refused) ∧
  (∀ (j cause : Nat) (d : Bytes) (s : State) (a : Att), (epOf s j).att = some a ∧ a.kind ≠ .initial ∧ cause ≠ 0 →
      (∃ u, attEnd cause d j s = escalateEp j u ∧ (epOf u j).st = .contained ∧ (epOf u j).causes.changed = true ∧ (epOf u j).recheckPair = failPair ∧ (epOf u j).att = none ∧ (∀ k, k ≠ j → epOf u k = epOf s k)) ∧ ((tripAction s 3 j ≠ some 1 ∧ tripAction s 3 j ≠ some 2) → (epOf (attEnd cause d j s) j).st = .contained ∧ (epOf (attEnd cause d j s) j).causes.changed = true)) ∧
  (∀ (j : Nat) (d : Bytes) (s : State) (a : Att), (epOf s j).att = some a ∧ a.kind = .periodic →
      (epOf (attEnd 0 d j s) j).st = (epOf s j).st ∧ (epOf (attEnd 0 d j s) j).causes = (epOf s j).causes ∧ (epOf (attEnd 0 d j s) j).recheckPair = passPair ∧ (epOf (attEnd 0 d j s) j).att = none) ∧
  (∀ (j : Nat) (s : State), (epOf s j).st = .recheck ∧ (epOf s j).recheckPair = passPair ∧ (epOf s j).att = none ∧ (epOf s j).causes.changed = false →
      (epOf (epLift j s) j).st = .opened ∧ (epOf (epLift j s) j).causes = noCauses ∧ (∀ k, k ≠ j → epOf (epLift j s) k = epOf s k))

/-- A periodic re-check starts from an OPEN endpoint and leaves it OPEN; a containment request contains OPEN endpoints
and those in RECHECK and only marks the others; a re-check request takes OPEN endpoints to RECHECK. A host
configuration request reaches an OPEN endpoint only: a sealed port answers retry, as one CONTAINED with nothing
changed does, a refused or changed one Unsupported Request; the bridge of a port that is not OPEN reads Data Link
Layer Link Active 0. A host that triggers DPC contains an OPEN endpoint; one that clears it lifts nothing else. A link
that trains offers no alternate protocol. Each of these answers a next state under conditions on the state and
operands alone: recheckDue, gateContainReq, gateRechkReq, hostConfigRequest, hostDpcTriggerWrite,
altProtocolNegotiation. Where the spec leaves a case open this is the model's choice (log entries 31, 60, 119). (R49,
R293, R294, R296, R298, R299, R306, R340) Derived. -/
def Obligations.RechecksAndContainment : Prop :=
  (∀ (j : Nat) (s : State), fwRuns s = true ∧ (epOf s j).st = .opened ∧ (epOf s j).att = none →
      (∃ t, exec (.recheckDue j) s = .next t ∧ (epOf t j).st = .opened ∧ (epOf t j).att = some ⟨.periodic, .version, 0, 0, 0, [], [], false, []⟩ ∧ (epOf t j).recheckPair = 0 ∧ t.mor = s.mor)) ∧
  (∀ (m : BitVec 32) (s : State), coreRuns s = true →
      exec (.gateContainReq m) s = .next (say .none (settle (each (epsOfMask s m) epFirmware s))) ∧ exec (.gateRechkReq m) s = .next (say .none (settle (each ((epsOfMask s m).filter (fun j => decide ((epOf s j).st = .opened))) (epRecheck (fun c => { c with firmware := true }) false) s)))) ∧
  (∀ (j : Nat) (s : State), (((epOf s j).st = .opened ∨ (epOf s j).st = .recheck) → (epOf (epFirmware j s) j).st = .contained) ∧ (((epOf s j).st ≠ .opened ∧ (epOf s j).st ≠ .recheck) → (epOf (epFirmware j s) j).st = (epOf s j).st) ∧ (epOf (epFirmware j s) j).causes.firmware = true ∧ (∀ k, k ≠ j → epOf (epFirmware j s) k = epOf s k)) ∧
  (∀ (port j : Nat) (s : State), epAt s port = some j ∧ portRole s port = 2 ∧ (partOf s (portPart s port)).up = true ∧ s.fab.planes ≠ 0 ∧ ideBlocked s (portPart s port) = false ∧ (epOf s j).st = .opened ∧ s.fab.planeFail = 0 ∧ tlpCredit s (upPort' s (portPart s port)) (freeTlp s .config 4 (.port port)) = true →
      (∃ t, exec (.hostConfigRequest port) s = .next t ∧ t.reply = .tlp (.forwarded port) ∧ t.fab.eps = s.fab.eps ∧ t.mor = s.mor ∧ t.ev = s.ev)) ∧
  (∀ (port j : Nat) (s : State), epAt s port = some j ∧ portRole s port = 2 ∧ (partOf s (portPart s port)).up = true ∧ s.fab.planes ≠ 0 ∧ ideBlocked s (portPart s port) = false ∧ ((epOf s j).st = .refused ∨ ((epOf s j).st = .contained ∧ (epOf s j).causes.changed = true)) →
      exec (.hostConfigRequest port) s = .next (say (.tlp .unsupported) s)) ∧
  (∀ (port j : Nat) (s : State), epAt s port = some j ∧ portRole s port = 2 ∧ (partOf s (portPart s port)).up = true ∧ s.fab.planes ≠ 0 ∧ ideBlocked s (portPart s port) = false ∧ ((epOf s j).st = .isSealed ∨ (epOf s j).st = .vat ∨ (epOf s j).st = .attesting ∨ (epOf s j).st = .attested ∨ (epOf s j).st = .recheck ∨ ((epOf s j).st = .contained ∧ (epOf s j).causes.changed = false)) →
      exec (.hostConfigRequest port) s = .next (say (.tlp .retry) s)) ∧
  (∀ (port j : Nat) (s : State), epAt s port = some j ∧ (epOf s j).st ≠ .opened →
      bridgeLinkActive s port = false) ∧
  (∀ (port j : Nat) (s : State), epAt s port = some j ∧ portRole s port = 2 ∧ (partOf s (portPart s port)).up = true ∧ (s.fab.planes = 0 ∨ ideBlocked s (portPart s port) = true) →
      exec (.hostConfigRequest port) s = .next (say (.tlp .unsupported) s)) ∧
  (∀ (port j : Nat) (s : State), epAt s port = some j ∧ portRole s port = 2 ∧ (partOf s (portPart s port)).up = true ∧ (epOf s j).st = .opened →
      (∃ t, exec (.hostDpcTriggerWrite port true) s = .next t ∧ (epOf t j).st = .contained ∧ (epOf t j).hostDpc = true ∧ (epOf t j).causes = (epOf s j).causes ∧ t.mor = s.mor) ∧ exec (.hostDpcTriggerWrite port false) s = .next (say .none (settle (upEp j (fun e => { e with hostDpc := false }) s)))) ∧
  (∀ (port : Nat) (s : State), portTrains s port = true →
      exec (.altProtocolNegotiation port) s = .next (say (.result 0) s))

/-- For every TLP of an endpoint and every state: it is forwarded only if the endpoint is OPEN, a plane is in service
and its upstream link is up, and a request only with a requester ID of the buses behind its port; a translated memory
access that is forwarded goes to a peer that P2P_ALLOW permits and that is OPEN, or up under an armed table by a range
that names its port, covers all its bytes and permits its operation. Where the spec leaves a case open this is the
model's choice (log entry 142). (R293, R294, R299, R311, R317, R320, R340) Derived. -/
def Obligations.EndpointRequestsAreScreened : Prop :=
  (∀ (q j e : Nat) (t : Tlp) (bad : BitVec 3) (s : State), epAt s q = some j ∧ (∃ u, exec (.endpointTlp q t bad) s = .next u ∧ u.reply = .tlp (.forwarded e)) →
      (epOf s j).st = .opened ∧ s.fab.planes ≠ 0 ∧ (partOf s (portPart s q)).up = true ∧ (t.kind = .completion ∨ bayScreens s (q / 4) = true) ∧ acsSource s q (portPart s q) t = true) ∧
  (∀ (q e : Nat) (t : Tlp) (bad : BitVec 3) (s : State), (t.kind = .memRead ∨ t.kind = .memWrite ∨ t.kind = .atomic) ∧ t.at' = .translated ∧ (∃ u, exec (.endpointTlp q t bad) s = .next u ∧ u.reply = .tlp (.forwarded e)) →
      atsOk s q = true ∧ ((∃ r, t.dest = .port r ∧ r ≠ q ∧ e = r ∧ p2pOk s (portPart s q) q r = true ∧ portOpen s (portPart s q) r = true) ∨ (e = upPort' s (portPart s q) ∧ (partOf s (portPart s q)).armed ≠ 0 ∧ ∃ g, g ∈ (partOf s (portPart s q)).ranges ∧ rangeCovers q t g = true ∧ g.perm.testBit (permBit t) = true)))

/-- An endpoint's untranslated request goes up through the upstream port; without an armed table a translated one is
counted as a violation and is not forwarded; an endpoint that is not OPEN has every request turned away with nothing
changed, and so has one whose requester ID is not of the buses behind its port. A host's request to an OPEN port of
its partition is forwarded there, one to any other is turned away. A posted request turned away raises the report of
its port's bridge; without credit at its port a request does not start. The first packet of a PLDM Type 5 message of
an OPEN port goes to the mediation and is not forwarded; at a port that is not OPEN it is dropped. The Vault drive
reaches the Vault buffers alone: outside them it is contained, in every state of the port. Each of these answers a
next state under conditions on the state and operands alone: endpointTlp, hostTlp, vaultDriveRequest. Where the spec
leaves a case open this is the model's choice (log entries 34, 60, 85, 94, 118, 119, 142). (R293, R294, R299, R309,
R317, R319, R329, R330) Derived. -/
def Obligations.GateTraffic : Prop :=
  (∀ (q j : Nat) (t : Tlp) (s : State), epAt s q = some j ∧ portRole s q = 2 ∧ (epOf s j).link = true ∧ tlpCredit s q t = true ∧ (epOf s j).st = .opened ∧ s.fab.planes ≠ 0 ∧ (partOf s (portPart s q)).up = true ∧ bayScreens s (q / 4) = true ∧ t.kind = .memRead ∧ t.at' = .untranslated ∧ ideBlocked s (portPart s q) = false ∧ s.fab.planeFail = 0 ∧ acsSource s q (portPart s q) t = true →
      (∃ u, exec (.endpointTlp q t 0) s = .next u ∧ u.reply = .tlp (.forwarded (upPort' s (portPart s q))) ∧ u.mor = s.mor ∧ u.ev = s.ev ∧ u.fab.eps = s.fab.eps)) ∧
  (∀ (q j : Nat) (t : Tlp) (s : State), epAt s q = some j ∧ portRole s q = 2 ∧ (epOf s j).link = true ∧ tlpCredit s q t = true ∧ (epOf s j).st = .opened ∧ s.fab.planes ≠ 0 ∧ (partOf s (portPart s q)).up = true ∧ bayScreens s (q / 4) = true ∧ t.kind = .memWrite ∧ t.at' = .translated ∧ t.dest = .up ∧ atsOk s q = true ∧ (partOf s (portPart s q)).armed = 0 →
      exec (.endpointTlp q t 0) s = .next (say (.tlp .dropped) (violate j q (portPart s q) .unarmed t s).1)) ∧
  (∀ (q j : Nat) (t : Tlp) (s : State), epAt s q = some j ∧ portRole s q = 2 ∧ (epOf s j).link = true ∧ tlpCredit s q t = true ∧ (epOf s j).st ≠ .opened →
      exec (.endpointTlp q t 0) s = .next (say (.tlp (turnAway t.kind)) (if tlpPosted t.kind = true then aerReport q 1 s else s))) ∧
  (∀ (q j : Nat) (t : Tlp) (s : State), epAt s q = some j ∧ portRole s q = 2 ∧ (epOf s j).link = true ∧ tlpCredit s q t = true ∧ t.kind = .memRead ∧ t.at' = .untranslated ∧ acsSource s q (portPart s q) t = false →
      exec (.endpointTlp q t 0) s = .next (say (.tlp (turnAway t.kind)) s)) ∧
  (∀ (q j : Nat) (t : Tlp) (bad : BitVec 3) (s : State), epAt s q = some j ∧ tlpCredit s q t = false →
      exec (.endpointTlp q t bad) s = .next (say .notNow s)) ∧
  (∀ (q j : Nat) (v : Vdm) (t : Tlp) (s : State), epAt s q = some j ∧ portRole s q = 2 ∧ (epOf s j).link = true ∧ tlpCredit s q t = true ∧ (epOf s j).st = .opened ∧ s.fab.planes ≠ 0 ∧ (partOf s (portPart s q)).up = true ∧ bayScreens s (q / 4) = true ∧ v.code = 0x7f ∧ v.vendor = 0x1ab4 ∧ v.som = true ∧ v.mctpType = 1 ∧ v.pldmType = 5 ∧ t.kind = .message ∧ t.vdm = some v ∧ t.ide = false ∧ t.dest = .up ∧ ideBlocked s (portPart s q) = false ∧ acsSource s q (portPart s q) t = true →
      (∃ u, exec (.endpointTlp q t 0) s = .next u ∧ u.reply = .tlp .mediated ∧ u.fab.eps = s.fab.eps ∧ u.fab.heldTlps = s.fab.heldTlps ∧ u.mor = s.mor)) ∧
  (∀ (p r : Nat) (t : Tlp) (s : State), (partOf s p).up = true ∧ tlpCredit s (upPort' s p) t = true ∧ s.fab.planes ≠ 0 ∧ ideBlocked s p = false ∧ t.dest = .port r ∧ mctpOf t = none ∧ portOpen s p r = false →
      exec (.hostTlp p t) s = .next (say (.tlp (turnAway t.kind)) (awayAt (upPort' s p) p t s).1)) ∧
  (∀ (p r : Nat) (t : Tlp) (s : State), (partOf s p).up = true ∧ tlpCredit s (upPort' s p) t = true ∧ s.fab.planes ≠ 0 ∧ ideBlocked s p = false ∧ t.dest = .port r ∧ mctpOf t = none ∧ portOpen s p r = true ∧ s.fab.planeFail = 0 →
      (∃ u, exec (.hostTlp p t) s = .next u ∧ u.reply = .tlp (.forwarded r) ∧ u.mor = s.mor ∧ u.ev = s.ev ∧ u.fab.eps = s.fab.eps)) ∧
  (∀ (p r : Nat) (v : Vdm) (t : Tlp) (s : State), (partOf s p).up = true ∧ tlpCredit s (upPort' s p) t = true ∧ s.fab.planes ≠ 0 ∧ ideBlocked s p = false ∧ t.dest = .port r ∧ v.code = 0x7f ∧ v.vendor = 0x1ab4 ∧ v.som = true ∧ v.mctpType = 1 ∧ v.pldmType = 5 ∧ t.kind = .message ∧ t.vdm = some v ∧ t.ide = false ∧ portOpen s p r = true →
      (∃ u, exec (.hostTlp p t) s = .next u ∧ u.reply = .tlp .mediated ∧ u.fab.heldTlps = s.fab.heldTlps ∧ u.fab.eps = s.fab.eps)) ∧
  (∀ (p r : Nat) (v : Vdm) (t : Tlp) (s : State), (partOf s p).up = true ∧ tlpCredit s (upPort' s p) t = true ∧ s.fab.planes ≠ 0 ∧ ideBlocked s p = false ∧ t.dest = .port r ∧ v.code = 0x7f ∧ v.vendor = 0x1ab4 ∧ v.som = true ∧ v.mctpType = 1 ∧ v.pldmType = 5 ∧ t.kind = .message ∧ t.vdm = some v ∧ t.ide = false ∧ portOpen s p r = false →
      (∃ u, exec (.hostTlp p t) s = .next u ∧ u.reply = .tlp .dropped ∧ u.fab.heldTlps = s.fab.heldTlps ∧ u.fab.eps = s.fab.eps)) ∧
  (∀ (posted : Bool) (j : Nat) (s : State), vaultEp s = some j ∧ (epOf s j).link = true ∧ (epOf s j).st = .opened ∧ s.fab.planes ≠ 0 ∧ s.fab.planeFail = 0 ∧ tlpCredit s (epPort s j) (freeTlp s (if posted then .memWrite else .memRead) 4 .csf) = true →
      (∃ t, exec (.vaultDriveRequest true posted) s = .next t ∧ t.reply = .tlp (.forwarded (epPort s j)) ∧ t.fab.eps = s.fab.eps ∧ t.mor = s.mor ∧ t.ev = s.ev) ∧ exec (.vaultDriveRequest false posted) s = .next (say (.tlp .unsupported) (settle (epFirmware j s)))) ∧
  (∀ (posted : Bool) (j : Nat) (s : State), vaultEp s = some j ∧ (epOf s j).link = true ∧ (epOf s j).st ≠ .opened ∧ tlpCredit s (epPort s j) (freeTlp s (if posted then .memWrite else .memRead) 4 .csf) = true →
      exec (.vaultDriveRequest true posted) s = .next (say (.tlp (if posted then .dropped else .unsupported)) s) ∧ exec (.vaultDriveRequest false posted) s = .next (say (.tlp (if posted then .dropped else .unsupported)) (settle (epFirmware j s))))

/-- A stream is put into Secure only with its keys programmed, keys are programmed only over a secured session, which
is set up only while firmware runs with its keys, a Signature Engine and the random source, and leaving Secure changes
no endpoint. The interface is locked only with a selective stream in Secure, started only from the locked state,
stopped from any state but the unlocked one; an error of the TDI of a partition without rings changes nothing but the
TDI. Each of these answers a next state under conditions on the state and operands alone: ideStreamSecure,
ideStreamLeaveSecure, spdmSecuredSession, ideKmRequest, tdispLockInterface, tdispStartInterface, tdispStopInterface,
tdiError. Where the spec leaves a case open this is the model's choice (log entry 35). (R296, R297, R310, R414)
Derived. -/
def Obligations.SecuredStreams : Prop :=
  (∀ (p : Nat) (s : State), (partOf s p).up = true ∧ (partOf s p).ideKeys = true →
      (∃ t, exec (.ideStreamSecure p true) s = .next t ∧ (partOf t p).selSecure = true ∧ t.fab.eps = s.fab.eps ∧ t.fab.links = s.fab.links ∧ t.mor = s.mor) ∧ (∃ t, exec (.ideStreamSecure p false) s = .next t ∧ (linkOf t (upPort' s p)).ideSecure = true ∧ t.fab.eps = s.fab.eps ∧ t.fab.parts = s.fab.parts ∧ t.mor = s.mor)) ∧
  (∀ (p : Nat) (s : State), (partOf s p).selSecure = true →
      (∃ t, exec (.ideStreamLeaveSecure p true) s = .next t ∧ (partOf t p).selSecure = false ∧ (partOf t p).tdi = (partOf s p).tdi ∧ t.fab.eps = s.fab.eps ∧ t.mor = s.mor)) ∧
  (∀ (p : Nat) (s : State), (linkOf s (upPort' s p)).ideSecure = true →
      (∃ t, exec (.ideStreamLeaveSecure p false) s = .next t ∧ (linkOf t (upPort' s p)).ideSecure = false ∧ t.fab.eps = s.fab.eps ∧ t.fab.parts = s.fab.parts ∧ t.mor = s.mor)) ∧
  (∀ (p : Nat) (s : State), (partOf s p).up = true ∧ fwRuns s = true ∧ s.kld.certs.isSome = true ∧ keysHeld s = false ∧ sigIn s = true ∧ s.kld.rngFail = false →
      (∃ t, exec (.spdmSecuredSession p) s = .next t ∧ (partOf t p).session = true ∧ (partOf t p).ideKeys = (partOf s p).ideKeys ∧ t.mor = s.mor)) ∧
  (∀ (p : Nat) (s : State), (partOf s p).up = true ∧ (partOf s p).session = true →
      (∃ t, exec (.ideKmRequest p) s = .next t ∧ (partOf t p).ideKeys = true ∧ (partOf t p).selSecure = (partOf s p).selSecure ∧ t.mor = s.mor)) ∧
  (∀ (p : Nat) (s : State), (partOf s p).up = true ∧ (partOf s p).session = true ∧ (partOf s p).selSecure = true ∧ (partOf s p).tdi = .unlocked →
      (∃ t, exec (.tdispLockInterface p) s = .next t ∧ (partOf t p).tdi = .locked ∧ (partOf t p).bound = true ∧ t.mor = s.mor)) ∧
  (∀ (p : Nat) (s : State), (partOf s p).selSecure = false →
      exec (.tdispLockInterface p) s = .next (say .notNow s)) ∧
  (∀ (p : Nat) (sel : Bool) (s : State), (partOf s p).ideKeys = false →
      exec (.ideStreamSecure p sel) s = .next (say .notNow s)) ∧
  (∀ (p : Nat) (s : State), (partOf s p).session = false →
      exec (.ideKmRequest p) s = .next (say .notNow s) ∧ exec (.tdispLockInterface p) s = .next (say .notNow s) ∧ exec (.tdispStartInterface p) s = .next (say .notNow s) ∧ exec (.tdispStopInterface p) s = .next (say .notNow s)) ∧
  (∀ (p : Nat) (s : State), fwRuns s = false ∨ keysHeld s = true ∨ sigIn s = false ∨ s.kld.rngFail = true →
      exec (.spdmSecuredSession p) s = .next (say .notNow s)) ∧
  (∀ (p : Nat) (s : State), (partOf s p).tdi ≠ .locked →
      exec (.tdispStartInterface p) s = .next (say .notNow s)) ∧
  (∀ (p : Nat) (s : State), (partOf s p).tdi ≠ .unlocked →
      exec (.tdispLockInterface p) s = .next (say .notNow s)) ∧
  (∀ (p : Nat) (s : State), (partOf s p).tdi = .unlocked →
      exec (.tdispStopInterface p) s = .next (say .notNow s)) ∧
  (∀ (p : Nat) (s : State), (partOf s p).up = true ∧ (partOf s p).session = true ∧ (partOf s p).tdi = .locked →
      (∃ t, exec (.tdispStartInterface p) s = .next t ∧ (partOf t p).tdi = .run ∧ (partOf t p).bound = (partOf s p).bound)) ∧
  (∀ (p : Nat) (s : State), (partOf s p).up = true ∧ (partOf s p).session = true ∧ (partOf s p).tdi ≠ .unlocked →
      (∃ t, exec (.tdispStopInterface p) s = .next t ∧ (partOf t p).tdi = .unlocked ∧ (partOf t p).bound = false ∧ t.nrx = s.nrx)) ∧
  (∀ (p : Nat) (s : State), (partOf s p).up = true ∧ (partOf s p).tdi ≠ .error →
      (∃ t, exec (.tdiError p) s = .next t ∧ (partOf t p).tdi = .error ∧ t.fab.eps = s.fab.eps ∧ (∀ q, q ≠ p → partOf t q = partOf s q))) ∧
  (∀ (p : Nat) (s : State), (partOf s p).up = true ∧ (partOf s p).tdi ≠ .error ∧ partRings s p = [] →
      exec (.tdiError p) s = .next (say .none (upPart p (fun x => { x with tdi := .error }) s)))

/-- A range whose record is right is pending until its digest is extended over it; then it is the last of the table
with RESULT ACCEPTED. One that is not is answered with the first reason that holds and changes nothing else. While a
declaration is pending a command is ignored. Arming needs its key and happens once: later ARM commands answer ARMED;
with the record durable the whole table takes effect at once. The deadline arms the table without the host and leaves
RESULT as it was. A window's end clears the count of violations. Each of these answers a next state under conditions
on the state and operands alone: declare, arm, declareResult, armDeadline, resistArmEffect, violWindowEnd. Where the
spec leaves a case open this is the model's choice (log entry 36). (R322, R323, R324, R325, R326, R331) Derived. -/
def Obligations.ResistTable : Prop :=
  (∀ (p : Nat) (b : Bool) (s : State), csfReach s p b = true ∧ csfPending (partOf s p) = false ∧ declareCheck s p = 1 →
      (∃ t, exec (.declare p 0 b) s = .next t ∧ (partOf t p).pendDeclare = some (recRange (partOf s p).recWords) ∧ (partOf t p).ranges = (partOf s p).ranges ∧ (partOf t p).digest = (partOf s p).digest ∧ (partOf t p).result = (partOf s p).result)) ∧
  (∀ (p : Nat) (b : Bool) (s : State), csfReach s p b = true ∧ csfPending (partOf s p) = false ∧ declareCheck s p ≠ 1 →
      exec (.declare p 0 b) s = .next (say .none (upPart p (fun x => { x with result := declareCheck s p }) s))) ∧
  (∀ (p : Nat) (key : BitVec 16) (b : Bool) (s : State), csfReach s p b = true ∧ csfPending (partOf s p) = false ∧ key ≠ 0 →
      exec (.declare p key b) s = .next (say .none (upPart p (fun x => { x with result := 5 }) s))) ∧
  (∀ (p : Nat) (key : BitVec 16) (b : Bool) (s : State), csfReach s p b = true ∧ csfPending (partOf s p) = true →
      exec (.declare p key b) s = .next (say .none s) ∧ exec (.arm p key b) s = .next (say .none s)) ∧
  (∀ (p : Nat) (g : Range) (s : State), (partOf s p).pendDeclare = some g ∧ s.dga.engines ≠ 0 ∧ (partOf s p).armed = 0 ∧ (partOf s p).pendArm = none →
      (∃ t, exec (.declareResult p) s = .next t ∧ (partOf t p).ranges = (partOf s p).ranges ++ [g] ∧ (partOf t p).digest = sha384 ((partOf s p).digest ++ rangeBytes g) ∧ (partOf t p).result = 1 ∧ (partOf t p).pendDeclare = none ∧ (partOf t p).armed = 0 ∧ t.mor = s.mor)) ∧
  (∀ (p : Nat) (b : Bool) (s : State), csfReach s p b = true ∧ csfPending (partOf s p) = false ∧ (partOf s p).armed = 0 ∧ (partOf s p).pendArm = none →
      exec (.arm p 0xa4e5 b) s = .next (say .none (armBegin p 1 (upPart p (fun x => { x with armCmd := true }) s)))) ∧
  (∀ (p : Nat) (key : BitVec 16) (b : Bool) (s : State), csfReach s p b = true ∧ csfPending (partOf s p) = false ∧ key ≠ 0xa4e5 →
      exec (.arm p key b) s = .next (say .none (upPart p (fun x => { x with result := 5 }) s))) ∧
  (∀ (p : Nat) (b : Bool) (s : State), csfReach s p b = true ∧ csfPending (partOf s p) = false ∧ (partOf s p).armed ≠ 0 →
      exec (.arm p 0xa4e5 b) s = .next (say .none (upPart p (fun x => { x with result := 2 }) s))) ∧
  (∀ (p : Nat) (s : State), (partOf s p).up = true ∧ (partOf s p).deadlineRuns = true ∧ (partOf s p).armed = 0 ∧ (partOf s p).pendArm = none →
      exec (.armDeadline p) s = .next (say .none (armBegin p 2 s))) ∧
  (∀ (p src : Nat) (s : State), (partOf s p).pendArm = some (src, true) →
      (∃ t, exec (.resistArmEffect p) s = .next t ∧ (partOf t p).armed = src ∧ (partOf t p).pendArm = none ∧ (partOf t p).ranges = (partOf s p).ranges ∧ (partOf t p).digest = (partOf s p).digest ∧ (partOf t p).result = (if (partOf s p).armCmd then 6 else (partOf s p).result))) ∧
  (∀ (p : Nat) (s : State), (s.run.policy.bind (fun q => polUpstream q p)).isSome = true →
      (∃ t, exec (.violWindowEnd p) s = .next t ∧ (partOf t p).viol = 0 ∧ (partOf t p).escalated = false ∧ (partOf t p).ranges = (partOf s p).ranges ∧ (partOf t p).armed = (partOf s p).armed ∧ t.mor = s.mor))

/-- While firmware runs an intercepted message is handled; where the endpoint does not permit mediated updates a
host's request is answered with an error and nothing reaches the endpoint. While firmware is stopped the message waits
in the buffer, or behind it with its credits kept. An ActivateFirmware of a session is held, released only when its
records are durable and dropped where its port no longer passes requests, and its response ends the session and takes
the endpoint to RECHECK. Each of these answers a next state under conditions on the state and operands alone:
pldmMediatedPacket, activateFirmwareRelease, activateFirmwareResponse. Where the spec leaves a case open this is the
model's choice (log entries 31, 59, 86). (R307, R332, R333, R334, R335) Derived. -/
def Obligations.MediatedUpdates : Prop :=
  (∀ (port size j : Nat) (m : MedMsg) (k : MedPkt) (s : State), epAt s port = some j ∧ portRole s port = 2 ∧ (epOf s j).st = .opened ∧ s.fab.planes ≠ 0 ∧ (partOf s (portPart s port)).up = true ∧ ideBlocked s (portPart s port) = false ∧ medNext s port m = none ∧ creditOk s (medIngress s port m) 0 ((size + 15) / 16) = true ∧ k = ⟨port, m, size, medIngress s port m, freeTlp s .message size .up⟩ ∧ medBlocked k s = false ∧ fwRuns s = true ∧ medOk s port = true ∧ m ≠ .activate →
      exec (.pldmMediatedPacket port m size) s = .next (say (.mediation ⟨port, (medForward k (medTrack j k (drawn s))).2, none⟩) (medForward k (medTrack j k (drawn s))).1)) ∧
  (∀ (port size j : Nat) (m : MedMsg) (k : MedPkt) (s : State), epAt s port = some j ∧ portRole s port = 2 ∧ (epOf s j).st = .opened ∧ s.fab.planes ≠ 0 ∧ (partOf s (portPart s port)).up = true ∧ ideBlocked s (portPart s port) = false ∧ medNext s port m = none ∧ creditOk s (medIngress s port m) 0 ((size + 15) / 16) = true ∧ k = ⟨port, m, size, medIngress s port m, freeTlp s .message size .up⟩ ∧ medBlocked k s = false ∧ fwRuns s = true ∧ medOk s port = true ∧ m = .activate →
      exec (.pldmMediatedPacket port m size) s = .next (say (.mediation ⟨port, .waiting, none⟩) (medTrack j k (drawn s)))) ∧
  (∀ (port size j : Nat) (m : MedMsg) (k : MedPkt) (s : State), epAt s port = some j ∧ portRole s port = 2 ∧ (epOf s j).st = .opened ∧ s.fab.planes ≠ 0 ∧ (partOf s (portPart s port)).up = true ∧ ideBlocked s (portPart s port) = false ∧ medNext s port m = none ∧ creditOk s (medIngress s port m) 0 ((size + 15) / 16) = true ∧ k = ⟨port, m, size, medIngress s port m, freeTlp s .message size .up⟩ ∧ medBlocked k s = false ∧ fwRuns s = true ∧ medOk s port = false →
      (∃ t, exec (.pldmMediatedPacket port m size) s = .next t ∧ t.reply = .mediation ⟨port, .dropped, if medFromHost m then some 5 else none⟩ ∧ t.fab = s.fab ∧ t.mor = s.mor)) ∧
  (∀ (port size j : Nat) (m : MedMsg) (k : MedPkt) (s : State), epAt s port = some j ∧ portRole s port = 2 ∧ (epOf s j).st = .opened ∧ s.fab.planes ≠ 0 ∧ (partOf s (portPart s port)).up = true ∧ ideBlocked s (portPart s port) = false ∧ medNext s port m = none ∧ creditOk s (medIngress s port m) 0 ((size + 15) / 16) = true ∧ k = ⟨port, m, size, medIngress s port m, freeTlp s .message size .up⟩ ∧ medBlocked k s = false ∧ fwRuns s = false ∧ medFits s size = true ∧ s.fab.medWait = [] →
      (∃ t, exec (.pldmMediatedPacket port m size) s = .next t ∧ t.reply = .mediation ⟨port, .waiting, none⟩ ∧ t.fab.medBuf = s.fab.medBuf ++ [k] ∧ t.fab.medWait = [] ∧ t.mor = s.mor ∧ t.ev = s.ev)) ∧
  (∀ (port size j : Nat) (m : MedMsg) (k : MedPkt) (s : State), epAt s port = some j ∧ portRole s port = 2 ∧ (epOf s j).st = .opened ∧ s.fab.planes ≠ 0 ∧ (partOf s (portPart s port)).up = true ∧ ideBlocked s (portPart s port) = false ∧ medNext s port m = none ∧ creditOk s (medIngress s port m) 0 ((size + 15) / 16) = true ∧ k = ⟨port, m, size, medIngress s port m, freeTlp s .message size .up⟩ ∧ medBlocked k s = false ∧ fwRuns s = false ∧ (medFits s size = false ∨ s.fab.medWait ≠ []) →
      (∃ t, exec (.pldmMediatedPacket port m size) s = .next t ∧ t.reply = .mediation ⟨port, .waiting, none⟩ ∧ t.fab.medBuf = s.fab.medBuf ∧ t.fab.medWait = s.fab.medWait ++ [k] ∧ t.mor = s.mor ∧ t.ev = s.ev)) ∧
  (∀ (port : Nat) (x : Mediation) (y : Tlp) (s : State), medOf s port = some x ∧ x.heldAct = some y ∧ x.recorded = true ∧ x.activateReady = true ∧ medPasses s port = true ∧ s.fab.planeFail = 0 ∧ s.fab.medBuf = [] ∧ s.fab.medWait = [] →
      (∃ t, exec (.activateFirmwareRelease port) s = .next t ∧ t.reply = .tlp (.forwarded port) ∧ medOf t port = some { x with heldAct := none, activateReady := false, activated := true } ∧ t.fab.eps = s.fab.eps)) ∧
  (∀ (port : Nat) (x : Mediation) (y : Tlp) (s : State), medOf s port = some x ∧ x.heldAct = some y ∧ x.recorded = true ∧ x.activateReady = true ∧ medPasses s port = false →
      exec (.activateFirmwareRelease port) s = .next (say (.tlp .dropped) (aerReport port 1 (endMediation port s)))) ∧
  (∀ (port : Nat) (x : Mediation) (s : State), medOf s port = some x ∧ (x.heldAct = none ∨ (x.recorded = true ∧ x.activateReady = false)) →
      exec (.activateFirmwareRelease port) s = .next (say .notNow s)) ∧
  (∀ (port j : Nat) (x : Mediation) (y : Tlp) (s : State), medOf s port = some x ∧ epAt s port = some j ∧ x.heldAct = some y ∧ x.recorded = false ∧ x.comps.getLast?.any (fun c => !c.absent) = false →
      exec (.activateFirmwareRelease port) s = .next (say .none (medRecords j port s))) ∧
  (∀ (port j : Nat) (x : Mediation) (s : State), medOf s port = some x ∧ epAt s port = some j ∧ x.activated = true ∧ medPasses s port = true ∧ (epOf s j).st = .opened →
      exec (.activateFirmwareResponse port) s = .next (say .none (settle (epRecheck (fun c => { c with firmware := true }) false j (endMediation port s)))))

/-- A submitted record of the length of its code, of a code without a rate, joins the end of those under way; the
oldest becomes durable first and takes the next SEQ. An open block that is 60 s old closes and waits for the chain
unit, which takes the oldest closed block, numbers it with the next CB_INDEX and extends the head by it. The Boot
Record is signed once and is then the one the ports read. None of it raises or clears a trip. The waiting records that
fit are written when space returns. Each of these answers a next state under conditions on the state and operands
alone: recordSubmit, recordDurable, blockTimedClose, chainDone, bootRecordSigned, waitingRecordWrite. (R344, R345,
R353, R354, R355, R362, R374) Derived. -/
def Obligations.EvidenceCommands : Prop :=
  (∀ (code src : Nat) (body : Bytes) (s : State), s.mor.vsec = true ∧ listedCode code = true ∧ src ≤ 8 ∧ bodyFits code body.length = true ∧ (1 < src ∨ coreRuns s = true) ∧ paUp s = true ∧ limitedCode code = false ∧ evFree s.ev code = true →
      (∃ t, exec (.recordSubmit code src body) s = .next t ∧ t.ev.inflight = s.ev.inflight ++ [⟨code, src, body, .none, 0⟩] ∧ t.ev.seq = s.ev.seq ∧ t.mor = s.mor ∧ t.otp = s.otp)) ∧
  (∀ (code src : Nat) (body : Bytes) (s : State), s.mor.vsec = true ∧ listedCode code = true ∧ src ≤ 8 ∧ bodyFits code body.length = true ∧ (1 < src ∨ coreRuns s = true) →
      exec (.recordSubmit code src body) s = .next (say .none (emit code src body s))) ∧
  (∀ (s : State) (w : Waiting) (r : List Waiting), paOk s = true ∧ s.ev.inflight = w :: r →
      (∃ t, exec .recordDurable s = .next t ∧ t.ev.inflight = r ∧ ((evAdmits { s.ev with inflight := r } w.code = true ∧ (evWrite s.aot w.code w.src w.body { s.ev with inflight := r }).2 = true) → t.ev.seq = s.ev.seq + 1) ∧ t.mor = s.mor)) ∧
  (∀ (ring : Bool) (s : State) (b : Block), (if ring then s.ev.openRing else s.ev.openEv).bind (blockAt s.ev) = some b ∧ paOk s = true ∧ b.openAt + 60000000 ≤ s.aot →
      (∃ t, exec (.blockTimedClose ring) s = .next t ∧ (if ring then t.ev.openRing else t.ev.openEv) = none ∧ (∃ k, t.ev.chainQ = s.ev.chainQ ++ [k]) ∧ t.ev.seq = s.ev.seq ∧ t.mor = s.mor)) ∧
  (∀ (s : State) (k : Nat) (r : List Nat) (b : Block), paOk s = true ∧ dgaHas s .chain = true ∧ s.ev.chainQ = k :: r ∧ blockAt s.ev k = some b ∧ (s.ev.lastIndex + 1) % 2 ^ 64 ≠ 0 →
      (∃ t, exec .chainDone s = .next t ∧ t.ev.chainQ = r ∧ t.ev.lastIndex = (s.ev.lastIndex + 1) % 2 ^ 64 ∧ t.ev.headChain = sha384 (s.ev.headChain ++ blockHead (devId s) { b with index := some t.ev.lastIndex }) ∧ t.ev.seq = s.ev.seq ∧ t.mor = s.mor)) ∧
  (∀ (s : State) (p : PolicyImage) (b : Bundle), s.run.policy = some p ∧ s.run.bundle = some b ∧ s.ev.brPhase = .closing ∧ s.ev.brHead.isSome = true ∧ fwRuns s = true ∧ keysHeld s = false ∧ aliasOk s = true ∧ (s.sig0.inService || s.sig1.inService) = true →
      (∃ t, exec .bootRecordSigned s = .next t ∧ t.ev.brPhase = .signed ∧ t.ev.br = (match s.ev.brStart with | some x => brRekey s (brUnsigned x) | none => brBody s p b) ++ hybridSig s "FVX9-BOOTREC" (match s.ev.brStart with | some x => brRekey s (brUnsigned x) | none => brBody s p b) ∧ t.freeCtr = s.freeCtr + 1 ∧ t.mor.lock = s.mor.lock ∧ t.mor.trip = s.mor.trip)) ∧
  (∀ (s : State), paOk s = true ∧ s.ev.waiting.any (fun w => evAdmits s.ev w.code) = true →
      exec .waitingRecordWrite s = .next (say .none (settle (writeAllWaiting (upEv (evDrain s.aot) s)))))

/-- An archivable block has its writes issued, and each command of an operation that completes leaves the next, and
the last has the operation's effect. A command that times out is issued again, three times; then one controller reset,
after which it has three more; then the Vault is OUT. A checkpoint names a slot that is not the latest, and is the
latest once its writes are complete. A written block reads back in the same life-cycle count; its metadata opens it at
its own LBA and at no other, and a block the drive returns with another LBA in its metadata is not readable. Each of
these answers a next state under conditions on the state and operands alone: archiveBlock, nvmeCommandDone,
nvmeCommandTimeout, nvmeControllerReady, nvmeResetTimeout, checkpoint, checkpointDone. Where the spec leaves a case
open this is the model's choice (log entries 5, 24, 120, 140). (R377, R381, R382, R383, R384) Derived. -/
def Obligations.VaultCommands : Prop :=
  (∀ (s : State), archiving s = true ∧ (slotOfIndex s.ev (nextArch s)).isSome = true →
      exec .archiveBlock s = .next (say .none (nvmeWrite (.archive (nextArch s)) 16 kindJournal (lbaArch s.vault.ns (nextArch s % vaultArch s.vault.ns)) 16 s))) ∧
  (∀ (s : State), archiving s = true ∧ (slotOfIndex s.ev (nextArch s)).isSome = true ∧ s.ev.isSealed = false ∧ s.vault.blockNo + 16 < 2 ^ 64 - 2 ^ 20 →
      (∃ t, exec .archiveBlock s = .next t ∧ t.vault.nvme = s.vault.nvme ++ [⟨.archive (nextArch s), 1, false, 16, some ⟨lbaArch s.vault.ns (nextArch s % vaultArch s.vault.ns), 16, s.ev.epoch, kindJournal, s.vault.blockNo, s.otp.countLatched⟩⟩] ∧ t.vault.blockNo = s.vault.blockNo + 16 ∧ t.ev = s.ev ∧ t.mor = s.mor)) ∧
  (∀ (x : VRun) (a : Nat) (d : List DriveBlock) (s : State), x.lba ≤ a ∧ a < x.lba + x.count ∧ x.kind < 256 ∧ x.lc = s.otp.countLatched ∧ s.otp.session = none ∧ (∀ y ∈ d, y.lba ≠ a) →
      vaultReadable d (upVault (fun v => { v with runs := putRun x v.runs }) s) a = true) ∧
  (∀ (d : List DriveBlock) (y : DriveBlock) (a : Nat) (s : State), d.find? (fun x => decide (x.lba = a)) = some y ∧ ((fit 64 y.info).drop 16).take 8 ≠ le 8 a →
      vaultReadable d s a = false) ∧
  (∀ (key : Bytes) (e k n l m : Nat) (b : Bytes), k < 256 →
      vaultOpenBlock key l (vaultBlock key e k n l b) = some b ∧ (le 8 m ≠ le 8 l → vaultOpenBlock key m (vaultBlock key e k n l b) = none)) ∧
  (∀ (d : List DriveBlock) (s : State) (c : NvmeCmd) (r : List NvmeCmd), s.vault.nvme = c :: r ∧ nvmeReaches s = true ∧ c.left ≤ 1 →
      exec (.nvmeCommandDone d) s = .next (say .none (settle (nvmeEffect d c.use (upVault (fun v => { v with nvme := r, runs := match c.run with | some x => putRun x v.runs | none => v.runs }) s))))) ∧
  (∀ (d : List DriveBlock) (s : State) (c : NvmeCmd) (r : List NvmeCmd), s.vault.nvme = c :: r ∧ nvmeReaches s = true ∧ 1 < c.left →
      exec (.nvmeCommandDone d) s = .next (say .none (upVault (fun v => { v with nvme := { c with issues := 1, afterReset := false, left := c.left - 1 } :: r }) s))) ∧
  (∀ (s : State) (c : NvmeCmd) (r : List NvmeCmd), s.vault.nvme = c :: r ∧ nvmeRuns s = true ∧ c.issues < 3 →
      (∃ t, exec .nvmeCommandTimeout s = .next t ∧ t.vault.nvme = { c with issues := c.issues + 1 } :: r ∧ t.vault.resetting = s.vault.resetting ∧ t.vault.state = s.vault.state)) ∧
  (∀ (s : State) (c : NvmeCmd) (r : List NvmeCmd), s.vault.nvme = c :: r ∧ nvmeRuns s = true ∧ 3 ≤ c.issues ∧ c.afterReset = false →
      (∃ t, exec .nvmeCommandTimeout s = .next t ∧ t.vault.nvme = c :: r ∧ t.vault.resetting = true ∧ t.vault.state = s.vault.state)) ∧
  (∀ (s : State) (c : NvmeCmd) (r : List NvmeCmd), s.vault.nvme = c :: r ∧ nvmeRuns s = true ∧ 3 ≤ c.issues ∧ c.afterReset = true →
      exec .nvmeCommandTimeout s = .next (say .none (settle (nvmeFail s)))) ∧
  (∀ (s : State) (c : NvmeCmd) (r : List NvmeCmd), s.vault.nvme = c :: r ∧ s.vault.resetting = true →
      (∃ t, exec .nvmeControllerReady s = .next t ∧ t.vault.nvme = { c with issues := 1, afterReset := true } :: r ∧ t.vault.resetting = false) ∧ exec .nvmeResetTimeout s = .next (say .none (settle (nvmeFail s)))) ∧
  (∀ (s : State), (nvmeFail s).vault.state = .out ∧ (nvmeFail s).vault.failed = true ∧ (nvmeFail s).vault.nvme = [] ∧ (nvmeFail s).mor = s.mor) ∧
  (∀ (s : State), s.vault.state = .inService ∧ s.nrx.ledgerRuns ≠ [] ∧ paOk s = true ∧ fwRuns s = true ∧ s.vault.ckpt = none ∧ lakeUp s = true →
      (∃ t, exec .checkpoint s = .next t ∧ (∃ c, t.vault.ckpt = some c ∧ c.copy = ckptCopy (applyAll s) ∧ c.digest = sha384 (ckptBytes (ckptCopy (applyAll s))) ∧ some c.slot ≠ (applyAll s).vault.ckptSlot))) ∧
  (∀ (s : State) (c : Ckpt), s.vault.ckpt = some c ∧ s.vault.nvme.any (fun x => decide (x.use = .checkpoint)) = false →
      (∃ t, exec .checkpointDone s = .next t ∧ t.vault.ckpt = none ∧ t.vault.ckptSlot = some c.slot ∧ t.nrx = s.nrx ∧ t.mor = s.mor))

/-- A command whose vendor header is not as R507 has it answers FIELD; in FLOOR every journal command answers
NOT_READY. Outside it JOURNAL_STATE answers with the number of blocks used first; READ_BLOCK answers FIELD for a bad
portion, the portion of a block in the Fix Ring at once, that of an archived one when the drive has been read, and
ABSENT where the Vault is out or does not hold it; CLOSE_BLOCK closes both blocks and answers the newest index;
SIGNED_HEAD and READ_BOOT_RECORD answer NOT_READY before there is anything to sign or read; a certificate is read once
the alias certificates are issued. A request whose unit is out or fails over waits and is answered when the unit
serves it. A response starts with the bytes R507 gives. Each of these answers a next state under conditions on the
state and operands alone: journalState, readBlock, closeBlock, signedHead, readBootRecord, readAliasCert. Where the
spec leaves a case open this is the model's choice (log entries 25, 120, 138, 140). (R125, R353, R385, R386, R507,
R508) Derived. -/
def Obligations.JournalOverManagement : Prop :=
  (∀ (b : Bool) (h : VendorHdr) (i e o l a m : Nat) (n : Bytes) (s : State) (c : Instr), mgtUp s b = true ∧ hdrOk h = true ∧ floorService s = true ∧ ((c = .journalState b h ∧ m = 0x20) ∨ (c = .readBlock b h i o l ∧ m = 0x21) ∨ (c = .closeBlock b h ∧ m = 0x22) ∨ (c = .signedHead b h n ∧ m = 0x23) ∨ (c = .readBootRecord b h e o l ∧ m = 0x24) ∨ (c = .readAliasCert b h a o l ∧ m = 0x25)) →
      (∃ t, exec c s = .next t ∧ t.reply = .response (vendorReply m h s 3 []) ∧ t.ev = s.ev ∧ t.vault = s.vault ∧ t.mor = s.mor)) ∧
  (∀ (b : Bool) (h : VendorHdr) (i e o l a m : Nat) (n : Bytes) (s : State) (c : Instr), mgtUp s b = true ∧ hdrOk h = false ∧ ((c = .journalState b h ∧ m = 0x20) ∨ (c = .readBlock b h i o l ∧ m = 0x21) ∨ (c = .closeBlock b h ∧ m = 0x22) ∨ (c = .signedHead b h n ∧ m = 0x23) ∨ (c = .readBootRecord b h e o l ∧ m = 0x24) ∨ (c = .readAliasCert b h a o l ∧ m = 0x25)) →
      (∃ t, exec c s = .next t ∧ t.reply = .response (vendorReply m h s 1 []) ∧ t.ev = s.ev ∧ t.vault = s.vault ∧ t.mor = s.mor)) ∧
  (∀ (b : Bool) (h : VendorHdr) (s : State), mgtUp s b = true ∧ hdrOk h = true ∧ floorService s = false →
      (∃ t, exec (.journalState b h) s = .next t ∧ (∃ body, t.reply = .response (vendorReply 0x20 h s 0 body) ∧ body.length = 44 ∧ body.take 2 = le 2 (fixUsed s.ev) ∧ (body.drop 4).take 4 = le 4 s.ev.epoch) ∧ t.ev = s.ev ∧ t.mor = s.mor)) ∧
  (∀ (b : Bool) (h : VendorHdr) (i o l : Nat) (s : State), mgtUp s b = true ∧ hdrOk h = true ∧ floorService s = false ∧ (o % 4096 ≠ 0 ∨ l = 0 ∨ 4096 < l ∨ 65536 < o + l) →
      exec (.readBlock b h i o l) s = .next (say (.response (vendorReply 0x21 h s 1 [])) (mgtMsg b s))) ∧
  (∀ (b : Bool) (h : VendorHdr) (i o l : Nat) (s : State), mgtUp s b = true ∧ hdrOk h = true ∧ floorService s = false ∧ o % 4096 = 0 ∧ 0 < l ∧ l ≤ 4096 ∧ o + l ≤ 65536 ∧ slotOfIndex s.ev i = none ∧ s.vault.state = .out →
      exec (.readBlock b h i o l) s = .next (say (.response (vendorReply 0x21 h s 2 [])) (mgtMsg b s))) ∧
  (∀ (b : Bool) (h : VendorHdr) (i o l n : Nat) (k : Block) (s : State), mgtUp s b = true ∧ hdrOk h = true ∧ floorService s = false ∧ o % 4096 = 0 ∧ 0 < l ∧ l ≤ 4096 ∧ o + l ≤ 65536 ∧ slotOfIndex s.ev i = some (n, k) →
      exec (.readBlock b h i o l) s = .next (say (.response (vendorReply 0x21 h s 0 ((blockBytes (devId s) k).drop o |>.take l))) (mgtMsg b s))) ∧
  (∀ (b : Bool) (h : VendorHdr) (i o l : Nat) (s : State), mgtUp s b = true ∧ hdrOk h = true ∧ floorService s = false ∧ o % 4096 = 0 ∧ 0 < l ∧ l ≤ 4096 ∧ o + l ≤ 65536 ∧ slotOfIndex s.ev i = none ∧ s.vault.state ≠ .out →
      exec (.readBlock b h i o l) s = .next (say .none (nvmeIssue [.mgtRead b h.flags (.block i o l)] (mgtMsg b s)))) ∧
  (∀ (b : Bool) (f : Nat) (q : VaultRead) (d : List DriveBlock) (s : State), (mgtOf (nvmeEffect d (.mgtRead b f q) s) b).late = some (vendorResponse (readCmd q) f s.mor.floorCause (vaultAnswer d q s).1 (vaultAnswer d q s).2) ∧ (nvmeEffect d (.mgtRead b f q) s).vault = s.vault) ∧
  (∀ (m f x r : Nat) (b : Bytes), m < 256 ∧ x < 256 ∧ r < 256 →
      (vendorResponse m f x r b).take 12 = [0x7e, 0x4b, 0x58, 1, BitVec.ofNat 8 (f % 32), BitVec.ofNat 8 m, BitVec.ofNat 8 x, 0, BitVec.ofNat 8 r, 0, 0, 0] ∧ (vendorResponse m f x r b).drop 12 = b) ∧
  (∀ (b : Bool) (h : VendorHdr) (s : State), mgtUp s b = true ∧ hdrOk h = true ∧ floorService s = false ∧ (paOk s = false ∨ dgaIn s = false) →
      exec (.closeBlock b h) s = .next (say .none (upMgt b (fun m => { m with asks := m.asks ++ [(h, .closeBlock)] }) (mgtMsg b s)))) ∧
  (∀ (b : Bool) (h : VendorHdr) (n : Bytes) (s : State), mgtUp s b = true ∧ hdrOk h = true ∧ floorService s = false ∧ s.otp.session = none ∧ s.ev.lastIndex ≠ 2 ^ 64 - 1 ∧ (sigIn s = false ∨ aliasOk s = false ∨ keysHeld s = true) →
      exec (.signedHead b h n) s = .next (say .none (upMgt b (fun m => { m with asks := m.asks ++ [(h, .signedHead n)] }) (mgtMsg b s)))) ∧
  (∀ (b : Bool) (h : VendorHdr) (q : MgtAsk) (r : Nat) (y : Bytes) (s t : State), (mgtOf s b).asks = [(h, q)] ∧ fwRuns s = true ∧ mgtTry q s = some (r, y, t) →
      mgtServe b s = lateAnswer b (askCmd q) h.flags r y (upMgt b (fun m => { m with asks := m.asks.erase (h, q) }) t)) ∧
  (∀ (i o l : Nat) (d : List DriveBlock) (s : State), ((vaultAnswer d (.block i o l) s).1 = 0 ↔ ∃ k, tabGet none s.vault.arch (i % vaultArch s.vault.ns) = some k ∧ k.index = some i ∧ vaultReadableN d s (lbaArch s.vault.ns (i % vaultArch s.vault.ns)) 16 = true) ∧ ((vaultAnswer d (.block i o l) s).1 ≠ 0 → vaultAnswer d (.block i o l) s = (2, []))) ∧
  (∀ (b : Bool) (h : VendorHdr) (s : State), mgtUp s b = true ∧ hdrOk h = true ∧ floorService s = false ∧ paOk s = true ∧ dgaIn s = true →
      (∃ t, exec (.closeBlock b h) s = .next t ∧ t.ev = chainAll (devId s) (evCloseBoth 5 s.ev) ∧ t.reply = (if t.ev.lastIndex = 2 ^ 64 - 1 then .response (vendorReply 0x22 h s 2 []) else .response (vendorReply 0x22 h s 0 (le 8 t.ev.lastIndex))) ∧ t.mor = s.mor)) ∧
  (∀ (b : Bool) (h : VendorHdr) (n : Bytes) (s : State), mgtUp s b = true ∧ hdrOk h = true ∧ floorService s = false ∧ (s.otp.session ≠ none ∨ s.ev.lastIndex = 2 ^ 64 - 1) →
      exec (.signedHead b h n) s = .next (say (.response (vendorReply 0x23 h s 3 [])) (mgtMsg b s))) ∧
  (∀ (b : Bool) (h : VendorHdr) (n : Bytes) (s : State), mgtUp s b = true ∧ hdrOk h = true ∧ floorService s = false ∧ keysHeld s = false ∧ s.ev.lastIndex ≠ 2 ^ 64 - 1 ∧ sigIn s = true ∧ aliasOk s = true →
      (∃ t, exec (.signedHead b h n) s = .next t ∧ t.reply = .response (vendorReply 0x23 h s 0 (headBytes s n ++ hybridSig s "FVX9-HEAD" (headBytes s n))) ∧ t.freeCtr = s.freeCtr + 1 ∧ t.ev = s.ev ∧ t.mor = s.mor)) ∧
  (∀ (b : Bool) (h : VendorHdr) (e o l : Nat) (s : State), mgtUp s b = true ∧ hdrOk h = true ∧ floorService s = false ∧ 0 < l ∧ l ≤ 4096 ∧ o + l ≤ 32768 ∧ (e = 0 ∨ e = s.ev.epoch) ∧ s.ev.brPhase = .signed →
      exec (.readBootRecord b h e o l) s = .next (say (.response (vendorReply 0x24 h s 0 (fit l (s.ev.br.drop o)))) (mgtMsg b s))) ∧
  (∀ (b : Bool) (h : VendorHdr) (e o l : Nat) (s : State), mgtUp s b = true ∧ hdrOk h = true ∧ floorService s = false ∧ 0 < l ∧ l ≤ 4096 ∧ o + l ≤ 32768 ∧ (e = 0 ∨ e = s.ev.epoch) ∧ s.ev.brPhase ≠ .signed →
      exec (.readBootRecord b h e o l) s = .next (say (.response (vendorReply 0x24 h s 3 [])) (mgtMsg b s))) ∧
  (∀ (b : Bool) (h : VendorHdr) (o l : Nat) (c : Bytes × Bytes) (s : State), mgtUp s b = true ∧ hdrOk h = true ∧ floorService s = false ∧ h.pad = 0 ∧ 0 < l ∧ l ≤ 4096 ∧ s.lake.failover = false ∧ lakeIn s = true ∧ s.kld.certs = some c →
      exec (.readAliasCert b h 1 o l) s = .next (say (.response (vendorReply 0x25 h s 0 ((certRead s c false).drop o |>.take l))) (mgtMsg b s)) ∧ exec (.readAliasCert b h 2 o l) s = .next (say (.response (vendorReply 0x25 h s 0 ((certRead s c true).drop o |>.take l))) (mgtMsg b s))) ∧
  (∀ (b : Bool) (h : VendorHdr) (a o l : Nat) (s : State), mgtUp s b = true ∧ hdrOk h = true ∧ floorService s = false ∧ h.pad ≠ 0 →
      exec (.readAliasCert b h a o l) s = .next (say (.response (vendorReply 0x25 h s 1 [])) (mgtMsg b s)))

/-- The identity requests are answered on a served port and change nothing of custody; in Hold-only no port takes an
address. A dynamic address is taken in I3C mode alone, by SETDASA only at the strap address. An IBI that is not
acknowledged is tried again until the ninth attempt, after which ALERT_N is low; an SMBus alert response releases it.
A CBUS component that does not answer is tried four times before it is lost. The sensor's reading replaces the last
one, and while firmware runs a change of the thresholds reached raises the event of both ports. Each of these answers
a next state under conditions on the state and operands alone: mctpControl, getVersion, getCapabilities,
getCertificate, entdaa, setdasa, ibiRetry, smbusAlertResponse, smbusSclTimeout, tempSensorUpdate, cbusPoll, cbusRetry.
Where the spec leaves a case open this is the model's choice (log entries 25, 64). (R97, R125, R473, R474, R475, R491,
R496) Derived. -/
def Obligations.PortEvents : Prop :=
  (∀ (b : Bool) (s : State), mgtUp s b = true →
      exec (.mctpControl b) s = .next (say (.result 0) (mgtMsg b s)) ∧ exec (.getVersion b) s = .next (say (.result 0) (mgtMsg b s)) ∧ exec (.getCapabilities b) s = .next (say (.result 0) (mgtMsg b s)) ∧ (∀ n, (∃ t, exec (.getCertificate b n) s = .next t ∧ t.reply = .bytes (nextFree s n) ∧ t.freeCtr = s.freeCtr + 1 ∧ t.mor = s.mor))) ∧
  (∀ (b : Bool) (a : BitVec 7) (s : State), busUp s = true ∧ (mgtOf s b).mode = .i3c →
      (∃ t, exec (.entdaa b a) s = .next t ∧ (mgtOf t b).dynAddr = some a.toNat ∧ mgtOf t (!b) = mgtOf s (!b) ∧ t.mor = s.mor)) ∧
  (∀ (b : Bool) (a st : BitVec 7) (s : State), busUp s = true ∧ (mgtOf s b).mode = .i3c ∧ st.toNat = strapAddr s b →
      (∃ t, exec (.setdasa b st a) s = .next t ∧ (mgtOf t b).dynAddr = some a.toNat ∧ mgtOf t (!b) = mgtOf s (!b) ∧ t.mor = s.mor)) ∧
  (∀ (b : Bool) (a st : BitVec 7) (s : State), st.toNat ≠ strapAddr s b →
      exec (.setdasa b st a) s = .next (say .notNow s)) ∧
  (∀ (b : Bool) (a st : BitVec 7) (s : State), (mgtOf s b).mode = .smbus →
      exec (.entdaa b a) s = .next (say .notNow s) ∧ exec (.setdasa b st a) s = .next (say .notNow s)) ∧
  (∀ (b : Bool) (a st : BitVec 7) (s : State), s.sc.holdOnly = true →
      exec (.entdaa b a) s = .next (say .notNow s) ∧ exec (.setdasa b st a) s = .next (say .notNow s) ∧ exec (.smbusAlertResponse b) s = .next (say .notNow s)) ∧
  (∀ (b a : Bool) (n : Nat) (s : State), (mgtOf s b).ibi = some n ∧ fwRuns s = true ∧ a = true →
      (∃ t, exec (.ibiRetry b a) s = .next t ∧ (mgtOf t b).ibi = none ∧ (mgtOf t b).alertLow = (mgtOf s b).alertLow ∧ t.mor = s.mor)) ∧
  (∀ (b : Bool) (n : Nat) (s : State), (mgtOf s b).ibi = some n ∧ fwRuns s = true ∧ n ≤ 8 →
      (∃ t, exec (.ibiRetry b false) s = .next t ∧ (mgtOf t b).ibi = some (n + 1) ∧ (mgtOf t b).alertLow = (mgtOf s b).alertLow ∧ t.mor = s.mor)) ∧
  (∀ (b : Bool) (n : Nat) (s : State), (mgtOf s b).ibi = some n ∧ fwRuns s = true ∧ 8 < n →
      (∃ t, exec (.ibiRetry b false) s = .next t ∧ (mgtOf t b).ibi = none ∧ (mgtOf t b).alertLow = true ∧ t.mor = s.mor)) ∧
  (∀ (b : Bool) (s : State), busUp s = true ∧ (mgtOf s b).mode = .smbus ∧ (mgtOf s b).alertLow = true →
      (∃ t, exec (.smbusAlertResponse b) s = .next t ∧ (mgtOf t b).alertLow = false ∧ t.reply = .word (BitVec.ofNat 32 (strapAddr s b)) ∧ t.mor = s.mor)) ∧
  (∀ (b : Bool) (s : State), busUp s = true ∧ (mgtOf s b).mode = .smbus →
      exec (.smbusSclTimeout b) s = .next (say .none s)) ∧
  (∀ (r : BitVec 10) (s : State), s.sc.mainGood = true →
      (∃ t, exec (.tempSensorUpdate r) s = .next t ∧ t.temp.valid = true ∧ t.temp.reading = r ∧ t.mor = s.mor ∧ t.fab = s.fab ∧ ((fwRuns s = false ∨ tempLevel t.temp = s.temp.told) → t = say .none { s with temp := { s.temp with valid := true, reading := r } }) ∧ ((fwRuns s = true ∧ tempLevel t.temp ≠ s.temp.told) → t.temp.told = tempLevel t.temp ∧ t.mgtA.sensorEvent = some t.temp.told ∧ t.mgtB.sensorEvent = some t.temp.told))) ∧
  (∀ (i : Nat) (s : State), fwRuns s = true ∧ (cbusOf s i).present = true ∧ (cbusOf s i).tries = 0 →
      exec (.cbusPoll i true) s = .next (say .none s) ∧ (∃ t, exec (.cbusPoll i false) s = .next t ∧ cbusOf t i = { cbusOf s i with tries := 1 } ∧ t.mor = s.mor)) ∧
  (∀ (i : Nat) (r : CbusRec) (s : State), cbusRec s i = some r ∧ fwRuns s = true ∧ (cbusOf s i).present = true ∧ (cbusOf s i).tries ≠ 0 →
      (∃ t, exec (.cbusRetry i true) s = .next t ∧ cbusOf t i = { cbusOf s i with tries := 0 } ∧ t.mor = s.mor)) ∧
  (∀ (i : Nat) (r : CbusRec) (s : State), cbusRec s i = some r ∧ fwRuns s = true ∧ (cbusOf s i).present = true ∧ (cbusOf s i).tries ≠ 0 ∧ (cbusOf s i).tries < 3 →
      (∃ t, exec (.cbusRetry i false) s = .next t ∧ cbusOf t i = { cbusOf s i with tries := (cbusOf s i).tries + 1 } ∧ t.mor = s.mor)) ∧
  (∀ (i : Nat) (r : CbusRec) (s : State), cbusRec s i = some r ∧ fwRuns s = true ∧ (cbusOf s i).present = true ∧ 3 ≤ (cbusOf s i).tries →
      exec (.cbusRetry i false) s = .next (say .none (cbusLost i r s)) ∧ (r.flags.testBit 0 = false → (cbusOf (cbusLost i r s) i).present = false ∧ (cbusLost i r s).mor = s.mor))

/-- Each command leaves the queue with its RESULT. A message of the wrong form answers FORMAT and one without the
signature of a signer that may send it answers SIGNATURE, with custody, fuses and the Vault untouched. A trip clear
that meets every condition, with its record durable, clears the trip; an export acknowledgement raises the
acknowledged index, and of a block in the archive it first reads that block; a challenge replaces the one in force; a
token of any outcome consumes it, and a message of a KIND that is not listed does not. JTAG reaches the memory tests
and the OTP array in the Open state alone, of a KEY word only its margin and ECC status, a command while an OTP
operation is BUSY is dropped, and of the debug functions only what an open session's scope gives. While an accepted
debug token waits for the key ladder, no new operation of the ladder begins. Each of these answers a next state under
conditions on the state and operands alone: tripClear, exportAck, lcClose, challenge, token, jtagTokenSubmit,
jtagInstruction. Where the spec leaves a case open this is the model's choice (log entries 26, 37, 38, 71, 72, 91,
120, 132, 138). (R120, R148, R151, R152, R154, R387, R509, R511) Derived. -/
def Obligations.SignedMailboxCommands : Prop :=
  (∀ (b : Bool) (sig : Sig2) (s : State), mbxMine s b 1 = true ∧ sigIn s = true ∧ s.mor.tripNotes = [] ∧ mbxHeader (mbxMessage s b) 1 [4763] = false →
      (∃ t, exec (.tripClear b sig) s = .next t ∧ t.reply = .result 2 ∧ (mgtOf t b).result = 2 ∧ t.mbxQueue = s.mbxQueue.tail ∧ t.mor = s.mor)) ∧
  (∀ (b : Bool) (sig : Sig2) (s : State), mbxMine s b 1 = true ∧ sigIn s = true ∧ s.mor.tripNotes = [] ∧ mbxHeader (mbxMessage s b) 1 [4763] = true ∧ mbxField (mbxMessage s b) 32 8 = 0 ∧ mbxSigned s (mbxMessage s b) 3 sig = false →
      (∃ t, exec (.tripClear b sig) s = .next t ∧ t.reply = .result 3 ∧ t.mbxQueue = s.mbxQueue.tail ∧ t.mor = s.mor)) ∧
  (∀ (b : Bool) (sig : Sig2) (s : State), mbxMine s b 1 = true ∧ sigIn s = true ∧ s.mor.tripNotes = [] ∧ mbxHeader (mbxMessage s b) 1 [4763] = true ∧ mbxField (mbxMessage s b) 32 8 = 0 ∧ mbxSigned s (mbxMessage s b) 3 sig = true ∧ fit 16 ((mbxMessage s b).drop 8) = devId s ∧ mbxField (mbxMessage s b) 24 8 = s.ev.tripSeq ∧ s.mor.trip = true ∧ noTripSource s = true ∧ durableNow s 0x0008 1 (le 2 (mbxField (mbxMessage s b) 6 2) ++ le 6 0 ++ le 8 s.ev.tripSeq) .tripClear = true →
      (∃ t, exec (.tripClear b sig) s = .next t ∧ t.reply = .result 1 ∧ t.mor.trip = false ∧ t.mbxQueue = s.mbxQueue.tail)) ∧
  (∀ (b : Bool) (sig : Sig2) (n : Nat) (s : State) (k : Block), mbxMine s b 2 = true ∧ sigIn s = true ∧ mbxHeader (mbxMessage s b) 2 [4811] = true ∧ mbxField (mbxMessage s b) 80 8 = 0 ∧ mbxSigned s (mbxMessage s b) 4 sig = true ∧ fit 16 ((mbxMessage s b).drop 8) = devId s ∧ s.vault.nvme.any (fun c => decide (c.use = .ackRead b)) = false ∧ slotOfIndex s.ev (mbxField (mbxMessage s b) 24 8) = some (n, k) ∧ k.chain ≠ fit 48 ((mbxMessage s b).drop 32) →
      (∃ t, exec (.exportAck b sig) s = .next t ∧ t.reply = .result 4 ∧ t.vault = s.vault ∧ t.ev = s.ev ∧ t.mbxQueue = s.mbxQueue.tail)) ∧
  (∀ (b : Bool) (sig : Sig2) (s : State), mbxMine s b 2 = true ∧ sigIn s = true ∧ mbxHeader (mbxMessage s b) 2 [4811] = true ∧ mbxField (mbxMessage s b) 80 8 = 0 ∧ mbxSigned s (mbxMessage s b) 4 sig = true ∧ fit 16 ((mbxMessage s b).drop 8) = devId s ∧ s.vault.nvme.any (fun c => decide (c.use = .ackRead b)) = false ∧ slotOfIndex s.ev (mbxField (mbxMessage s b) 24 8) = none →
      (archHolds s (mbxField (mbxMessage s b) 24 8) = true → exec (.exportAck b sig) s = .next (say .none (nvmeIssue [.ackRead b] s))) ∧ (archHolds s (mbxField (mbxMessage s b) 24 8) = false → (∃ t, exec (.exportAck b sig) s = .next t ∧ t.reply = .result 5 ∧ t.vault = s.vault ∧ t.ev = s.ev ∧ t.mbxQueue = s.mbxQueue.tail))) ∧
  (∀ (b : Bool) (d : List DriveBlock) (s : State), mbxMine s b 2 = true →
      nvmeEffect d (.ackRead b) s = ackEnd b (archChain d s (mbxField (mbxMessage s b) 24 8)) s) ∧
  (∀ (b : Bool) (x : Option Bytes) (s : State), (mgtOf (ackEnd b x s) b).result = ackResult s b x ∧ (ackResult s b x = 1 ↔ x = some (fit 48 ((mbxMessage s b).drop 32))) ∧ (x = none → ackResult s b x = 5 ∧ (ackEnd b x s).vault = s.vault)) ∧
  (∀ (b : Bool) (sig : Sig2) (n : Nat) (s : State) (k : Block), mbxMine s b 2 = true ∧ sigIn s = true ∧ mbxHeader (mbxMessage s b) 2 [4811] = true ∧ mbxField (mbxMessage s b) 80 8 = 0 ∧ mbxSigned s (mbxMessage s b) 4 sig = true ∧ fit 16 ((mbxMessage s b).drop 8) = devId s ∧ s.vault.nvme.any (fun c => decide (c.use = .ackRead b)) = false ∧ slotOfIndex s.ev (mbxField (mbxMessage s b) 24 8) = some (n, k) ∧ k.chain = fit 48 ((mbxMessage s b).drop 32) →
      (∃ t, exec (.exportAck b sig) s = .next t ∧ t.reply = .result 1 ∧ t.vault.exportAck = some (max (mbxField (mbxMessage s b) 24 8) (s.vault.exportAck.getD 0)) ∧ t.mbxQueue = s.mbxQueue.tail ∧ t.otp.words = s.otp.words)) ∧
  (∀ (b : Bool) (sig : Sig2) (s : State), mbxMine s b 3 = true ∧ sigIn s = true ∧ mbxField (mbxMessage s b) 6 2 ≠ 0xffff ∧ mbxHeader (mbxMessage s b) 3 [4755] = true ∧ mbxField (mbxMessage s b) 25 7 = 0 ∧ mbxSigned s (mbxMessage s b) 4 sig = true ∧ fit 16 ((mbxMessage s b).drop 8) = devId s ∧ mbxField (mbxMessage s b) 24 1 = lcCount s.otp ∧ (lcCount s.otp % 2 = 1 ∨ lcStepPermitted s.otp = false ∨ s.otp.busy ≠ none) →
      (∃ t, exec (.lcClose b sig) s = .next t ∧ t.reply = .result 5 ∧ t.otp = s.otp ∧ t.mbxQueue = s.mbxQueue.tail)) ∧
  (∀ (b : Bool) (sig : Sig2) (s : State), mbxMine s b 3 = true ∧ sigIn s = true ∧ mbxField (mbxMessage s b) 6 2 ≠ 0xffff ∧ mbxHeader (mbxMessage s b) 3 [4755] = true ∧ mbxField (mbxMessage s b) 25 7 = 0 ∧ mbxSigned s (mbxMessage s b) 4 sig = true ∧ fit 16 ((mbxMessage s b).drop 8) = devId s ∧ mbxField (mbxMessage s b) 24 1 = lcCount s.otp ∧ lcCount s.otp % 2 = 0 ∧ lcStepPermitted s.otp = true ∧ s.otp.busy = none →
      (∃ t, exec (.lcClose b sig) s = .next t ∧ t.reply = .result 1 ∧ t.otp = (lcStepGo 2 s).otp ∧ t.mbxQueue = s.mbxQueue.tail)) ∧
  (∀ (s : State), lcStepPermitted s.otp = true ∧ durableNow s 0x0041 1 (lcStepBody s 2) .lcStep = true →
      (lcStepGo 2 s).otp.busy = some .lcStep ∧ (lcStepGo 2 s).otp.words = s.otp.words) ∧
  (∀ (b : Bool) (s : State), mbxMine s b 0x10 = true ∧ s.kld.rngFail = false ∧ mbxHeader (mbxMessage s b) 0x10 [8] = true ∧ mbxField (mbxMessage s b) 6 2 = 0 →
      (∃ t, exec (.challenge b) s = .next t ∧ t.reply = .result 1 ∧ t.otp.challenge = some (nextFree s 32) ∧ t.freeCtr = s.freeCtr + 1 ∧ t.otp.words = s.otp.words ∧ t.mor = s.mor)) ∧
  (∀ (b : Bool) (sig own : Sig2) (s : State) (t : Token), mbxMine s b 0x11 = true ∧ sigIn s = true ∧ t = parseToken ((mbxMessage s b).drop 8) sig own ∧ mbxField (mbxMessage s b) 4 2 = 0x11 ∧ (mbxHeader (mbxMessage s b) 0x11 [if t.flags.testBit 0 then 9518 else 4795] = false ∨ mbxField (mbxMessage s b) 6 2 ≠ 0) →
      (∃ u, exec (.token b sig own) s = .next u ∧ u.reply = .result 2 ∧ u.otp.challenge = none ∧ u.otp.session = s.otp.session ∧ u.mbxQueue = s.mbxQueue.tail ∧ u.otp.words = s.otp.words)) ∧
  (∀ (b : Bool) (sig own : Sig2) (s : State), mbxMine s b 0x11 = true ∧ sigIn s = true ∧ mbxField (mbxMessage s b) 4 2 ≠ 0x11 →
      (∃ u, exec (.token b sig own) s = .next u ∧ u.reply = .result 2 ∧ u.otp = s.otp ∧ u.mbxQueue = s.mbxQueue.tail ∧ u.mor = s.mor)) ∧
  (∀ (b : Bool) (sig own : Sig2) (s : State) (t : Token), mbxMine s b 0x11 = true ∧ sigIn s = true ∧ t = parseToken ((mbxMessage s b).drop 8) sig own ∧ mbxHeader (mbxMessage s b) 0x11 [if t.flags.testBit 0 then 9518 else 4795] = true ∧ mbxField (mbxMessage s b) 6 2 = 0 →
      (∃ u, exec (.token b sig own) s = .next u ∧ u.reply = .result (tokenResult s t) ∧ u.otp.challenge = none ∧ u.otp.words = s.otp.words ∧ u.mbxQueue = s.mbxQueue.tail ∧ u.otp = (tokenAct t s).otp)) ∧
  (∀ (t : Token) (s : State), fwRuns s = true ∧ sigIn s = true →
      (∃ u, exec (.jtagTokenSubmit t) s = .next u ∧ u.reply = .result (tokenResult s t) ∧ u.otp.challenge = none ∧ u.otp.words = s.otp.words ∧ (tokenResult s t ≠ 1 → u.otp.session = s.otp.session ∧ u.mor = s.mor))) ∧
  (∀ (t : Token) (s : State), tokenResult s t = 1 ∧ t.kind = 1 ∧ aliasBusy s = true →
      (tokenAct t s).otp.session = s.otp.session ∧ (tokenAct t s).otp.debugWait ≠ [] ∧ keysHeld (tokenAct t s) = true) ∧
  (∀ (d : BitVec 80) (s : State), s.mor.vsec = true ∧ s.mor.latched = true →
      exec (.jtagInstruction (.mandatory d)) s = .next (say .none (upMor (fun m => { m with bscan := d }) s)) ∧ (∃ t, exec (.jtagInstruction .idcode) s = .next t ∧ t.reply = .word (nextFreeWord s) ∧ t.freeCtr = s.freeCtr + 1 ∧ t.mor = { s.mor with bscan := 0 })) ∧
  (∀ (s : State), s.mor.vsec = true ∧ s.mor.latched = true ∧ s.sc.mainGood = true ∧ s.kld.rngFail = false →
      (∃ t, exec (.jtagInstruction .challenge) s = .next t ∧ t.otp.challenge = some (nextFree s 32) ∧ t.reply = .bytes (nextFree s 32) ∧ t.otp.words = s.otp.words)) ∧
  (∀ (a : Nat) (d : BitVec 32) (l h : BitVec 39) (s : State), s.mor.vsec = true ∧ s.mor.latched = true ∧ s.otp.closed = true →
      exec (.jtagInstruction .memoryTest) s = .next (say .notNow (upMor (fun m => { m with bscan := 0 }) s)) ∧ exec (.jtagInstruction (.otpProgram a d l h)) s = .next (say .notNow (upMor (fun m => { m with bscan := 0 }) s)) ∧ exec (.jtagInstruction (.otpRead a)) s = .next (say .notNow (upMor (fun m => { m with bscan := 0 }) s))) ∧
  (∀ (a : Nat) (s : State), s.mor.vsec = true ∧ s.mor.latched = true ∧ s.otp.closed = false ∧ 544 ≤ a ∧ a < 1024 →
      (s.otp.busy = none → (∃ t, exec (.jtagInstruction (.otpRead a)) s = .next t ∧ t.reply = .result (otpResultCode (otpReadRaw s.otp a).1) ∧ t.otp = s.otp)) ∧ (s.otp.busy.isSome = true → (∃ t, exec (.jtagInstruction (.otpRead a)) s = .next t ∧ t.otp = { s.otp with dropped := true }) ∧ (∀ d l h, (∃ t, exec (.jtagInstruction (.otpProgram a d l h)) s = .next t ∧ t.otp = { s.otp with dropped := true })))) ∧
  (∀ (a : Nat) (d : BitVec 32) (l h : BitVec 39) (s : State), s.mor.vsec = true ∧ s.mor.latched = true ∧ s.otp.closed = false ∧ s.otp.busy = none ∧ a < 1024 ∧ otpProgramPermitted s.otp s.mor.lock a = true ∧ otpBlank (otpWord s.otp a) = true →
      exec (.jtagInstruction .memoryTest) s = .next (say .none (upMor (fun m => { m with bscan := 0 }) s)) ∧ exec (.jtagInstruction (.otpProgram a d l h)) s = .next (say (.result 0) (upOtp (fun o => otpBurn o a (hamEncode d) l h) (upMor (fun m => { m with bscan := 0 }) s)))) ∧
  (∀ (on : Bool) (a : Nat) (s : State), s.mor.vsec = true ∧ s.mor.latched = true ∧ s.otp.session = none →
      exec (.jtagInstruction (.halt on)) s = .next (say .notNow (upMor (fun m => { m with bscan := 0 }) s)) ∧ exec (.jtagInstruction (.memRead a)) s = .next (say .notNow (upMor (fun m => { m with bscan := 0 }) s)) ∧ exec (.jtagInstruction (.regRead a 4)) s = .next (say .notNow (upMor (fun m => { m with bscan := 0 }) s)) ∧ exec (.jtagInstruction .trace) s = .next (say .notNow (upMor (fun m => { m with bscan := 0 }) s))) ∧
  (∀ (on : Bool) (x : BitVec 4) (s : State), s.mor.vsec = true ∧ s.mor.latched = true ∧ s.sc.mainGood = true ∧ s.otp.session = some x ∧ x.getLsbD 0 = true ∧ s.sc.running = true ∧ s.sc.halted = false →
      exec (.jtagInstruction (.halt on)) s = .next (say .none (upSc (fun c => { c with halted := on }) (upMor (fun m => { m with bscan := 0 }) s))))

/-- With DEBUG_DIS latched 1 no debug token has the RESULT accepted, and its submission opens no session. The RESULT
of an RMA token is the same whatever DEBUG_DIS is. (R156) -/
def Obligations.DebugTokensRefused : Prop :=
  (∀ (t : Token) (s : State), s.otp.feat.getLsbD 20 = true ∧ t.kind = 1 →
      tokenResult s t ≠ 1 ∧ (tokenAct t s).otp.session = s.otp.session ∧ ∀ c, c = .jtagTokenSubmit t → ∀ u, exec c s = .next u → u.otp.session = s.otp.session) ∧
  (∀ (b : Bool) (sig own : Sig2) (s u : State), s.otp.feat.getLsbD 20 = true ∧ (parseToken ((mbxMessage s b).drop 8) sig own).kind = 1 ∧ exec (.token b sig own) s = .next u →
      u.otp.session = s.otp.session) ∧
  (∀ (t : Token) (s : State) (v : Bool), t.kind = 2 →
      tokenResult (upOtp (fun o => { o with feat := putBit o.feat 20 v }) s) t = tokenResult s t)

/-- Whatever the state, a shown Custody Trip is still shown after the C event of a main rail that fails or of a PLL
that loses lock. Each of these answers a next state under conditions on the state and operands alone: mainRailFail,
pllLossOfLock. (R121) -/
def Obligations.TripSurvivesCEvents : Prop :=
  (∀ (s : State) (c : Instr), s.mor.trip = true ∧ (c = .mainRailFail ∨ c = .pllLossOfLock) →
      (∃ t, exec c s = .next t ∧ t.mor.trip = true))

/-- A good check changes nothing. A failing active slice that has a spare stays until the failover is done and is
removed then; one without a spare is removed at once. A failing plane that has a spare keeps what it held until the
failover, which delivers it and removes the plane; the last plane takes with it all that the failing planes held. A
failing DGA or Signature Engine, or Persistence bank, is out at once, and the failover's end lets its clients go on.
None of this changes custody. Each of these answers a next state under conditions on the state and operands alone:
sliceCheck, sliceFailoverDone, planeFault, planeFailoverDone, dgaKnownAnswerCheck, dgaFailoverDone,
sigKnownAnswerCheck, sigFailoverDone, persistBankFault, persistFailoverDone. Where the spec leaves a case open this is
the model's choice (log entry 33). (R336, R338, R340, R462, R465, R466, R467) Derived. -/
def Obligations.UnitsFailOver : Prop :=
  (∀ (b i : Nat) (s : State), (slicesGood s.fab b).contains i = true →
      exec (.sliceCheck b i true) s = .next (say .none s) ∧ (∃ t, exec (.sliceCheck b i false) s = .next t ∧ t.fab.sliceFail = putBit s.fab.sliceFail (3 * b + i) true ∧ t.fab.slices = (if (slicesGood s.fab b).length = 3 ∧ ((slicesGood s.fab b).take 2).contains i then s.fab.slices else if (slicesGood s.fab b).length = 1 then putBit (putBit (putBit s.fab.slices (3 * b) false) (3 * b + 1) false) (3 * b + 2) false else putBit s.fab.slices (3 * b + i) false) ∧ t.mor = s.mor ∧ t.fab.eps = s.fab.eps)) ∧
  (∀ (b : Nat) (s : State), [0, 1, 2].filter (fun i => s.fab.slices.getLsbD (3 * b + i) && s.fab.sliceFail.getLsbD (3 * b + i)) ≠ [] →
      (∃ t, exec (.sliceFailoverDone b) s = .next t ∧ t.fab.sliceFail = s.fab.sliceFail ∧ (∀ i, i < 3 → t.fab.slices.getLsbD (3 * b + i) = (s.fab.slices.getLsbD (3 * b + i) && !s.fab.sliceFail.getLsbD (3 * b + i))) ∧ (∀ n, n < 3 * b ∨ 3 * b + 3 ≤ n → t.fab.slices.getLsbD n = s.fab.slices.getLsbD n) ∧ t.fab.heldTlps = s.fab.heldTlps ∧ t.mor = s.mor ∧ t.fab.eps = s.fab.eps ∧ t.fab.planes = s.fab.planes)) ∧
  (∀ (n : Nat) (s : State), (planesGood s.fab).contains n = true →
      (∃ t, exec (.planeFault n []) s = .next t ∧ t.fab.planeFail = putBit s.fab.planeFail n true ∧ (((planesGood s.fab).take 2).contains n = true → (planesGood s.fab).length ≠ 1 → t.fab.planes = s.fab.planes ∧ t.fab.heldTlps = s.fab.heldTlps) ∧ ((planesGood s.fab).length = 1 → t.fab.planes = 0 ∧ (∀ x, x ∈ t.fab.heldTlps ↔ x ∈ s.fab.heldTlps ∧ heldFails { s.fab with planeFail := putBit s.fab.planeFail n true } x = false)) ∧ ((planesGood s.fab).length ≠ 1 → ((planesGood s.fab).take 2).contains n = false → t.fab.planes = putBit s.fab.planes n false ∧ t.fab.heldTlps = s.fab.heldTlps) ∧ t.mor = s.mor ∧ t.fab.eps = s.fab.eps)) ∧
  (∀ (s : State), (bitsOf s.fab.planes).filter (fun n => s.fab.planeFail.getLsbD n) ≠ [] →
      (∃ t, exec .planeFailoverDone s = .next t ∧ t.fab.planeFail = s.fab.planeFail ∧ (∀ n, t.fab.planes.getLsbD n = (s.fab.planes.getLsbD n && !s.fab.planeFail.getLsbD n)) ∧ (∀ x, x ∈ t.fab.heldTlps ↔ x ∈ s.fab.heldTlps ∧ heldFails s.fab x = false) ∧ t.mor = s.mor ∧ t.fab.eps = s.fab.eps)) ∧
  (∀ (e : Nat) (x : Bool) (ks ms : List Nat) (s : State), e < 24 ∧ s.dga.engines.getLsbD e = true →
      exec (.dgaKnownAnswerCheck e true ks x ms) s = .next (say .none s) ∧ (s.xip.fill = none → exec (.dgaKnownAnswerCheck e false ks x ms) s = .next (say .none (dgaRemove e s)))) ∧
  (∀ (e : Nat) (s : State), e < 24 →
      (dgaRemove e s).dga.engines = putBit s.dga.engines e false ∧ (∀ i, 8 * e ≤ i → i < 8 * e + 8 → tabGet none (dgaRemove e s).dga.ctxs i = none) ∧ (dgaRemove e s).mor.lock = s.mor.lock ∧ (dgaRemove e s).mor.trip = s.mor.trip ∧ (dgaRemove e s).otp = s.otp) ∧
  (∀ (s : State), s.dga.failover = true →
      (∃ t, exec .dgaFailoverDone s = .next t ∧ t.dga.failover = false ∧ t.dga.engines = s.dga.engines ∧ t.mor = s.mor)) ∧
  (∀ (e : Bool) (s : State), (sigOf s e).inService = true →
      exec (.sigKnownAnswerCheck e true) s = .next (say .none s) ∧ (∃ t, exec (.sigKnownAnswerCheck e false) s = .next t ∧ (sigOf t e).inService = false ∧ (sigOf t e).failover = (sigOf s !e).inService ∧ sigOf t (!e) = sigOf s (!e) ∧ t.mor = s.mor)) ∧
  (∀ (s : State), (s.sig0.failover || s.sig1.failover) = true →
      (∃ t, exec .sigFailoverDone s = .next t ∧ t.sig0.failover = false ∧ t.sig1.failover = false ∧ t.sig0.busy = s.sig0.busy ∧ t.sig1.busy = s.sig1.busy ∧ t.mor = s.mor)) ∧
  (∀ (b : BitVec 2) (s : State), s.pa.bank.getLsbD b.toNat = true →
      (∃ t, exec (.persistBankFault b) s = .next t ∧ t.pa.bank = putBit s.pa.bank b.toNat false ∧ t.pa.failover = paUp t ∧ t.ev = s.ev ∧ t.mor = s.mor)) ∧
  (∀ (s : State), s.pa.failover = true →
      exec .persistFailoverDone s = .next (say .none (settle (writeAllWaiting (upEv (evDrain s.aot) (upPa (fun p => { p with failover := false }) s))))))

/-- When it is the oldest journaled command without its effect: LEDGER_EXTEND extends its ledger alone and counts it,
the reads change no object and answer what it holds, the quotes add their leaf to the open batch, COUNTER_INCREMENT
raises its counter alone by 1, SEAL and UNSEAL change no object and leave what the buffer gets, a note changes nothing
but the journal, a new ring is ACTIVE from its beginning, a ring to destroy aborts what waits, a quota replaces the
tenant's, and runs are handed out and taken back; a released counter keeps its value. CAPSULE_SUBMIT is journaled when
its capsule is staged or refused. No other command than the one whose turn it is takes effect, and the ones that hash
wait while no DGA engine is in service. What SEAL leaves opens to the plaintext under the partition's key. Each of
these answers a next state under conditions on the state and operands alone: ledgerExtend, ledgerRead, quote,
quotePlatform, counterIncrement, counterRead, seal, unseal, journalNote, ringCreate, ringDestroy, quotaSet,
ledgerAlloc, ledgerRelease, counterAlloc, counterRelease, capsuleSubmit. Where the spec leaves a case open this is the
model's choice (log entries 47, 97). (R391, R392, R393, R401, R403, R404, R405, R409, R410, R412, R414, R416) Derived.
-/
def Obligations.RingCommandsTakeEffect : Prop :=
  (∀ (s : State) (j : RingCmd), nrxRuns s = true ∧ s.nrx.jobs.find? (fun x => !x.applied) = some j ∧ j.status = 0 ∧ j.orphan = false ∧ (ringOf s j.part j.ring).st = .active ∧ opEngines s j.op = true ∧ j.op = 0x01 →
      (∃ t, exec .ledgerExtend s = .next t ∧ ledgerOf t j.handle = ⟨sha384 ((ledgerOf s j.handle).value ++ fit 48 j.payload), (ledgerOf s j.handle).extCount + 1, j.part, j.ring, j.rseq⟩ ∧ (∀ h, h ≠ j.handle → ledgerOf t h = ledgerOf s h) ∧ t.nrx.counters = s.nrx.counters ∧ t.ev = s.ev ∧ t.mor = s.mor)) ∧
  (∀ (s : State) (j : RingCmd), nrxRuns s = true ∧ s.nrx.jobs.find? (fun x => !x.applied) = some j ∧ j.status = 0 ∧ j.orphan = false ∧ (ringOf s j.part j.ring).st = .active ∧ opEngines s j.op = true ∧ j.op = 0x02 →
      (∃ t, exec .ledgerRead s = .next t ∧ t.nrx.ledgers = s.nrx.ledgers ∧ t.nrx.counters = s.nrx.counters ∧ t.mor = s.mor ∧ (∃ k ∈ t.nrx.jobs, k.rseq = j.rseq ∧ k.part = j.part ∧ k.ring = j.ring ∧ k.applied = true ∧ k.ready = true ∧ k.out = [(j.addr, (ledgerOf s j.handle).value ++ le 8 (ledgerOf s j.handle).extCount ++ zeros 8)]))) ∧
  (∀ (s : State) (j : RingCmd), nrxRuns s = true ∧ s.nrx.jobs.find? (fun x => !x.applied) = some j ∧ j.status = 0 ∧ j.orphan = false ∧ (ringOf s j.part j.ring).st = .active ∧ opEngines s j.op = true ∧ j.op = 0x10 →
      (∃ t, exec .quote s = .next t ∧ t.nrx.ledgers = s.nrx.ledgers ∧ t.nrx.counters = s.nrx.counters ∧ t.mor = s.mor ∧ t.nrx.batch = s.nrx.batch ++ [⟨quoteLeaf s j j.tenant, j.part, j.ring, j.rseq, true⟩])) ∧
  (∀ (s : State) (j : RingCmd), nrxRuns s = true ∧ s.nrx.jobs.find? (fun x => !x.applied) = some j ∧ j.status = 0 ∧ j.orphan = false ∧ (ringOf s j.part j.ring).st = .active ∧ opEngines s j.op = true ∧ j.op = 0x11 →
      (∃ t, exec .quotePlatform s = .next t ∧ t.nrx.ledgers = s.nrx.ledgers ∧ t.nrx.counters = s.nrx.counters ∧ t.mor = s.mor ∧ t.nrx.batch = s.nrx.batch ++ [⟨quoteLeaf s j j.tenant, j.part, j.ring, j.rseq, true⟩])) ∧
  (∀ (s : State) (j : RingCmd), nrxRuns s = true ∧ s.nrx.jobs.find? (fun x => !x.applied) = some j ∧ j.status = 0 ∧ j.orphan = false ∧ (ringOf s j.part j.ring).st = .active ∧ opEngines s j.op = true ∧ j.op = 0x20 →
      (∃ t, exec .counterIncrement s = .next t ∧ tabGet 0 t.nrx.counters j.handle = tabGet 0 s.nrx.counters j.handle + 1 ∧ (∀ h, h ≠ j.handle → tabGet 0 t.nrx.counters h = tabGet 0 s.nrx.counters h) ∧ t.nrx.ledgers = s.nrx.ledgers ∧ t.ev = s.ev ∧ t.mor = s.mor ∧ (∃ k ∈ t.nrx.jobs, k.rseq = j.rseq ∧ k.part = j.part ∧ k.ring = j.ring ∧ k.applied = true ∧ k.ready = true ∧ k.result = le 8 (tabGet 0 s.nrx.counters j.handle + 1)))) ∧
  (∀ (s : State) (j : RingCmd), nrxRuns s = true ∧ s.nrx.jobs.find? (fun x => !x.applied) = some j ∧ j.status = 0 ∧ j.orphan = false ∧ (ringOf s j.part j.ring).st = .active ∧ opEngines s j.op = true ∧ j.op = 0x21 →
      (∃ t, exec .counterRead s = .next t ∧ t.nrx.ledgers = s.nrx.ledgers ∧ t.nrx.counters = s.nrx.counters ∧ t.mor = s.mor ∧ (∃ k ∈ t.nrx.jobs, k.rseq = j.rseq ∧ k.part = j.part ∧ k.ring = j.ring ∧ k.applied = true ∧ k.ready = true ∧ k.result = le 8 (tabGet 0 s.nrx.counters j.handle)))) ∧
  (∀ (s : State) (j : RingCmd), nrxRuns s = true ∧ s.nrx.jobs.find? (fun x => !x.applied) = some j ∧ j.status = 0 ∧ j.orphan = false ∧ (ringOf s j.part j.ring).st = .active ∧ opEngines s j.op = true ∧ j.op = 0x30 →
      (∃ t, exec .seal s = .next t ∧ t.nrx.ledgers = s.nrx.ledgers ∧ t.nrx.counters = s.nrx.counters ∧ t.mor = s.mor ∧ (∃ k ∈ t.nrx.jobs, k.rseq = j.rseq ∧ k.part = j.part ∧ k.ring = j.ring ∧ k.applied = true ∧ k.ready = true ∧ k.out = [(j.addr + 4096, sealHeader s j j.tenant ++ sealText s j.part j.tenant (fit 12 j.extra) (sealHeader s j j.tenant) (fit (unle (fit 4 (j.payload.drop 0))) j.buf))] ∧ k.result = le 4 (96 + unle (fit 4 (j.payload.drop 0)))))) ∧
  (∀ (s : State) (j : RingCmd), nrxRuns s = true ∧ s.nrx.jobs.find? (fun x => !x.applied) = some j ∧ j.status = 0 ∧ j.orphan = false ∧ (ringOf s j.part j.ring).st = .active ∧ opEngines s j.op = true ∧ j.op = 0x31 →
      (∃ t, exec .unseal s = .next t ∧ t.nrx.ledgers = s.nrx.ledgers ∧ t.nrx.counters = s.nrx.counters ∧ t.mor = s.mor ∧ (∃ k ∈ t.nrx.jobs, k.rseq = j.rseq ∧ k.part = j.part ∧ k.ring = j.ring ∧ k.applied = true ∧ k.ready = true ∧ k.out = [(j.addr + 4096, j.extra)] ∧ k.result = le 4 j.extra.length))) ∧
  (∀ (s : State) (j : RingCmd), nrxRuns s = true ∧ s.nrx.jobs.find? (fun x => !x.applied) = some j ∧ j.status = 0 ∧ j.orphan = false ∧ (ringOf s j.part j.ring).st = .active ∧ opEngines s j.op = true ∧ j.op = 0x40 →
      (∃ t, exec .journalNote s = .next t ∧ t.nrx.ledgers = s.nrx.ledgers ∧ t.nrx.counters = s.nrx.counters ∧ t.mor = s.mor ∧ t.ev = s.ev ∧ (∃ k ∈ t.nrx.jobs, k.rseq = j.rseq ∧ k.part = j.part ∧ k.ring = j.ring ∧ k.applied = true ∧ k.ready = true ∧ k.out = j.out))) ∧
  (∀ (s : State) (j : RingCmd), nrxRuns s = true ∧ s.nrx.jobs.find? (fun x => !x.applied) = some j ∧ j.status = 0 ∧ j.orphan = false ∧ (ringOf s j.part j.ring).st = .active ∧ opEngines s j.op = true ∧ j.op = 0x70 →
      (∃ t, exec .ringCreate s = .next t ∧ ringOf t j.part j.handle = ⟨.active, j.arg, j.addr, unle (fit 8 (j.payload.drop 0)), unle (fit 4 (j.payload.drop 8)), unle (fit 2 (j.payload.drop 12)), 0, 0, 0, 0, 0, 0, none, 0⟩ ∧ t.nrx.ledgers = s.nrx.ledgers ∧ t.nrx.counters = s.nrx.counters ∧ t.mor = s.mor)) ∧
  (∀ (s : State) (j : RingCmd), nrxRuns s = true ∧ s.nrx.jobs.find? (fun x => !x.applied) = some j ∧ j.status = 0 ∧ j.orphan = false ∧ (ringOf s j.part j.ring).st = .active ∧ opEngines s j.op = true ∧ j.op = 0x71 →
      (∃ t, exec .ringDestroy s = .next t ∧ ((ringOf s j.part j.handle).st = .active → ringWaiting (ringOf s j.part j.handle) ≠ 0 → (ringOf t j.part j.handle).st = .destroying ∧ (ringOf t j.part j.handle).abortTo = (ringOf s j.part j.handle).journaled + ringWaiting (ringOf s j.part j.handle)) ∧ ((ringOf s j.part j.handle).st = .error → j.handle ≠ j.ring → (ringOf t j.part j.handle).st = .absent) ∧ t.nrx.ledgers = s.nrx.ledgers ∧ t.nrx.counters = s.nrx.counters ∧ t.mor = s.mor)) ∧
  (∀ (s : State) (j : RingCmd), nrxRuns s = true ∧ s.nrx.jobs.find? (fun x => !x.applied) = some j ∧ j.status = 0 ∧ j.orphan = false ∧ (ringOf s j.part j.ring).st = .active ∧ opEngines s j.op = true ∧ j.op = 0x72 →
      (∃ t, exec .quotaSet s = .next t ∧ quotaOf t j.part (unle (fit 4 (j.payload.drop 0))) = some ⟨j.part, unle (fit 4 (j.payload.drop 0)), unle (fit 4 (j.payload.drop 4)), unle (fit 4 (j.payload.drop 8)), unle (fit 4 (j.payload.drop 12))⟩ ∧ (∀ p q, (p ≠ j.part ∨ q ≠ unle (fit 4 (j.payload.drop 0))) → quotaOf t p q = quotaOf s p q) ∧ t.nrx.ledgers = s.nrx.ledgers ∧ t.nrx.counters = s.nrx.counters ∧ t.mor = s.mor)) ∧
  (∀ (s : State) (j : RingCmd), nrxRuns s = true ∧ s.nrx.jobs.find? (fun x => !x.applied) = some j ∧ j.status = 0 ∧ j.orphan = false ∧ (ringOf s j.part j.ring).st = .active ∧ opEngines s j.op = true ∧ j.op = 0x73 ∧ j.arg.testBit 7 = false →
      (∃ t, exec .ledgerAlloc s = .next t ∧ t.nrx.ledgerRuns = s.nrx.ledgerRuns ++ [⟨j.handle, j.arg % 16, j.part, unle (fit 4 (j.payload.drop 0))⟩] ∧ (∀ h, j.handle ≤ h → h < j.handle + j.arg % 16 → ledgerOf t h = ledger0) ∧ t.nrx.counters = s.nrx.counters ∧ t.nrx.counterRuns = s.nrx.counterRuns)) ∧
  (∀ (s : State) (j : RingCmd), nrxRuns s = true ∧ s.nrx.jobs.find? (fun x => !x.applied) = some j ∧ j.status = 0 ∧ j.orphan = false ∧ (ringOf s j.part j.ring).st = .active ∧ opEngines s j.op = true ∧ j.op = 0x73 ∧ j.arg.testBit 7 = true →
      (∃ t, exec .ledgerRelease s = .next t ∧ t.nrx.ledgerRuns = s.nrx.ledgerRuns.filter (fun q => decide (q ≠ ⟨j.handle, j.arg % 16, j.part, unle (fit 4 (j.payload.drop 0))⟩)) ∧ t.nrx.counters = s.nrx.counters ∧ t.nrx.counterRuns = s.nrx.counterRuns)) ∧
  (∀ (s : State) (j : RingCmd), nrxRuns s = true ∧ s.nrx.jobs.find? (fun x => !x.applied) = some j ∧ j.status = 0 ∧ j.orphan = false ∧ (ringOf s j.part j.ring).st = .active ∧ opEngines s j.op = true ∧ j.op = 0x74 ∧ j.arg.testBit 7 = false →
      (∃ t, exec .counterAlloc s = .next t ∧ t.nrx.counterRuns = s.nrx.counterRuns ++ [⟨j.handle, j.arg % 16, j.part, unle (fit 4 (j.payload.drop 0))⟩] ∧ t.nrx.ledgers = s.nrx.ledgers ∧ t.nrx.counters = s.nrx.counters ∧ t.mor = s.mor ∧ t.nrx.ledgerRuns = s.nrx.ledgerRuns)) ∧
  (∀ (s : State) (j : RingCmd), nrxRuns s = true ∧ s.nrx.jobs.find? (fun x => !x.applied) = some j ∧ j.status = 0 ∧ j.orphan = false ∧ (ringOf s j.part j.ring).st = .active ∧ opEngines s j.op = true ∧ j.op = 0x74 ∧ j.arg.testBit 7 = true →
      (∃ t, exec .counterRelease s = .next t ∧ t.nrx.counterRuns = s.nrx.counterRuns.filter (fun q => decide (q ≠ ⟨j.handle, j.arg % 16, j.part, unle (fit 4 (j.payload.drop 0))⟩)) ∧ t.nrx.ledgers = s.nrx.ledgers ∧ t.nrx.counters = s.nrx.counters ∧ t.mor = s.mor ∧ t.nrx.ledgerRuns = s.nrx.ledgerRuns)) ∧
  (∀ (s : State) (j : RingCmd), s.nrx.capsuleWait.find? (fun x => x.ready) = some j ∧ nrxRuns s = true ∧ entryFits s = true ∧ stalled s = false →
      (∃ t, exec .capsuleSubmit s = .next t ∧ t.nrx.jobs = s.nrx.jobs ++ [{ j with applied := true }] ∧ t.nrx.capsuleWait = s.nrx.capsuleWait.filter (fun w => decide (w ≠ j)) ∧ t.nrx.ledgers = s.nrx.ledgers ∧ t.nrx.counters = s.nrx.counters ∧ t.mor = s.mor)) ∧
  (∀ (s : State) (c : Instr) (j : RingCmd), s.nrx.jobs.find? (fun x => !x.applied) = some j ∧ ((c = .ledgerExtend ∧ j.op ≠ 0x01) ∨ (c = .ledgerRead ∧ j.op ≠ 0x02) ∨ (c = .quote ∧ j.op ≠ 0x10) ∨ (c = .quotePlatform ∧ j.op ≠ 0x11) ∨ (c = .counterIncrement ∧ j.op ≠ 0x20) ∨ (c = .counterRead ∧ j.op ≠ 0x21) ∨ (c = .seal ∧ j.op ≠ 0x30) ∨ (c = .unseal ∧ j.op ≠ 0x31) ∨ (c = .journalNote ∧ j.op ≠ 0x40) ∨ (c = .ringCreate ∧ j.op ≠ 0x70) ∨ (c = .ringDestroy ∧ j.op ≠ 0x71) ∨ (c = .quotaSet ∧ j.op ≠ 0x72) ∨ (c = .ledgerAlloc ∧ (j.op ≠ 0x73 ∨ j.arg.testBit 7 = true)) ∨ (c = .ledgerRelease ∧ (j.op ≠ 0x73 ∨ j.arg.testBit 7 = false)) ∨ (c = .counterAlloc ∧ (j.op ≠ 0x74 ∨ j.arg.testBit 7 = true)) ∨ (c = .counterRelease ∧ (j.op ≠ 0x74 ∨ j.arg.testBit 7 = false))) →
      exec c s = .next (say .notNow s)) ∧
  (∀ (s : State) (c : Instr), s.dga.engines = 0 ∧ s.dga.units = tabEmpty ∧ (c = .ledgerExtend ∨ c = .quote ∨ c = .quotePlatform) →
      exec c s = .next (say .notNow s)) ∧
  (∀ (s : State), s.nrx.capsuleWait.find? (fun x => x.ready) = none →
      exec .capsuleSubmit s = .next (say .notNow s)) ∧
  (∀ (s : State) (c : Instr), s.nrx.jobs.find? (fun x => !x.applied) = none ∧ c ∈ [.ledgerExtend, .ledgerRead, .quote, .quotePlatform, .counterIncrement, .counterRead, .seal, .unseal, .journalNote, .ringCreate, .ringDestroy, .quotaSet, .ledgerAlloc, .ledgerRelease, .counterAlloc, .counterRelease] →
      exec c s = .next (say .notNow s)) ∧
  (∀ (s : State) (p tenant : Nat) (n h b : Bytes), (sealText s p tenant n h b).length = b.length + 16 ∧ xorBytes ((sealText s p tenant n h b).take b.length) (gcmStream (sealKey s p tenant) n) = b)

/-- A doorbell within the depth moves its index, one beyond it is a ring error, and both wait while the Lake fails
over. A fetched entry that passes its checks is journaled and has no effect yet; one that does not is journaled with
its status and can be completed, and one for which the journal has no room waits as fetched. A completion goes to the
slot of its sequence number and is counted. A batch closes with its leaves and is signed with a fresh signature. A
failed access is issued again after its wait, and the third failure of a queue access takes an ACTIVE ring to ERROR.
An admin ring is created by its enable bit from its registers, and destroyed by clearing it. Each of these answers a
next state under conditions on the state and operands alone: doorbellSq, doorbellCq, commandFetch, completionPost,
msixGapEnd, batchClose, batchSigned, hostMemoryRetry, dmaTimeout, ringWatchdog, adminRingEnable, adminRingDisable.
Where the spec leaves a case open this is the model's choice (log entries 46, 48, 49, 88, 122, 123). (R394, R395,
R396, R398, R400, R402, R406, R408, R411, R412, R416, R419) Derived. -/
def Obligations.RingsAndHosts : Prop :=
  (∀ (p : BitVec 2) (g : BitVec 18) (v : BitVec 32) (b : Bool) (s : State), hostRings s p.toNat b = true ∧ s.lake.failover = false ∧ (ringOf s p.toNat g.toNat).st = .active ∧ s.nrx.jobs = [] ∧ v.toNat < ringDepth (ringOf s p.toNat g.toNat) →
      (∃ t, exec (.doorbellSq p g v b) s = .next t ∧ ringOf t p.toNat g.toNat = { ringOf s p.toNat g.toNat with tail := v.toNat } ∧ t.nrx.jobs = s.nrx.jobs ∧ t.ev = s.ev)) ∧
  (∀ (p : BitVec 2) (g : BitVec 18) (v : BitVec 32) (b : Bool) (s : State), hostRings s p.toNat b = true ∧ s.lake.failover = false ∧ (ringOf s p.toNat g.toNat).st = .active ∧ s.nrx.jobs = [] ∧ ringDepth (ringOf s p.toNat g.toNat) ≤ v.toNat →
      exec (.doorbellSq p g v b) s = .next (say .none (ringError p.toNat g.toNat 2 s))) ∧
  (∀ (p : BitVec 2) (g : BitVec 18) (v : BitVec 32) (b : Bool) (s : State), hostRings s p.toNat b = true ∧ s.lake.failover = false ∧ (ringOf s p.toNat g.toNat).st = .active ∧ v.toNat < ringDepth (ringOf s p.toNat g.toNat) →
      (∃ t, exec (.doorbellCq p g v b) s = .next t ∧ (ringOf t p.toNat g.toNat).cqHead = v.toNat ∧ (ringOf t p.toNat g.toNat).taken = (ringOf s p.toNat g.toNat).taken + (v.toNat + ringDepth (ringOf s p.toNat g.toNat) - (ringOf s p.toNat g.toNat).cqHead) % ringDepth (ringOf s p.toNat g.toNat) ∧ (ringOf t p.toNat g.toNat).tail = (ringOf s p.toNat g.toNat).tail ∧ t.ev = s.ev)) ∧
  (∀ (p : BitVec 2) (g : BitVec 18) (v : BitVec 32) (b : Bool) (s : State), hostRings s p.toNat b = true ∧ s.lake.failover = false ∧ (ringOf s p.toNat g.toNat).st = .active ∧ ringDepth (ringOf s p.toNat g.toNat) ≤ v.toNat →
      exec (.doorbellCq p g v b) s = .next (say .none (ringError p.toNat g.toNat 2 s))) ∧
  (∀ (p : BitVec 2) (g : BitVec 18) (v : BitVec 32) (b : Bool) (s : State), hostRings s p.toNat b = true ∧ s.lake.failover = true →
      exec (.doorbellSq p g v b) s = .next (say .none (upLake (fun l => { l with held := l.held ++ [.sqDoorbell p g v b] }) s)) ∧ exec (.doorbellCq p g v b) s = .next (say .none (upLake (fun l => { l with held := l.held ++ [.cqDoorbell p g v b] }) s))) ∧
  (∀ (p : BitVec 2) (g : BitVec 18) (f : Fetched) (s : State) (r : RingsRec), ringsRec s p.toNat = some r ∧ fetchOk s p.toNat g.toNat = true ∧ heldOf s.nrx p.toNat g.toNat = none ∧ commandWaits s f.entry = false ∧ (ringOf s p.toNat g.toNat).st = .active ∧ s.nrx.jobs = [] ∧ checkEntry s p.toNat g.toNat (ringOf s p.toNat g.toNat).tenant r f.entry = 0 ∧ (entOp f.entry = 0x01 ∨ entOp f.entry = 0x02 ∨ entOp f.entry = 0x20 ∨ entOp f.entry = 0x21) →
      (∃ t, exec (.commandFetch p g true f) s = .next t ∧ (ringOf t p.toNat g.toNat).journaled = (ringOf s p.toNat g.toNat).journaled + 1 ∧ (∃ j, t.nrx.jobs = [j] ∧ j.op = entOp f.entry ∧ j.status = 0 ∧ j.applied = false ∧ j.cid = entCid f.entry ∧ j.rseq = (ringOf s p.toNat g.toNat).journaled % 2 ^ 32) ∧ t.nrx.ledgers = s.nrx.ledgers ∧ t.nrx.counters = s.nrx.counters ∧ t.mor = s.mor)) ∧
  (∀ (p : BitVec 2) (g : BitVec 18) (f : Fetched) (s : State) (r : RingsRec), ringsRec s p.toNat = some r ∧ fetchOk s p.toNat g.toNat = true ∧ heldOf s.nrx p.toNat g.toNat = none ∧ commandWaits s f.entry = false ∧ (ringOf s p.toNat g.toNat).st = .active ∧ s.nrx.jobs = [] ∧ checkEntry s p.toNat g.toNat (ringOf s p.toNat g.toNat).tenant r f.entry ≠ 0 →
      (∃ t, exec (.commandFetch p g true f) s = .next t ∧ (ringOf t p.toNat g.toNat).journaled = (ringOf s p.toNat g.toNat).journaled + 1 ∧ (∃ j, t.nrx.jobs = [j] ∧ j.status = checkEntry s p.toNat g.toNat (ringOf s p.toNat g.toNat).tenant r f.entry ∧ j.applied = true ∧ j.ready = true) ∧ t.nrx.ledgers = s.nrx.ledgers ∧ t.nrx.counters = s.nrx.counters ∧ t.mor = s.mor)) ∧
  (∀ (p : BitVec 2) (g : BitVec 18) (f : Fetched) (s : State) (r : RingsRec), ringsRec s p.toNat = some r ∧ fetchOk s p.toNat g.toNat = true ∧ heldOf s.nrx p.toNat g.toNat = none ∧ againOf s.nrx p.toNat g.toNat = none →
      exec (.commandFetch p g false f) s = .next (say .none (accessFail p.toNat g.toNat .fetch s))) ∧
  (∀ (p : BitVec 2) (g : BitVec 18) (f : Fetched) (s : State) (r : RingsRec), ringsRec s p.toNat = some r ∧ fetchOk s p.toNat g.toNat = true ∧ heldOf s.nrx p.toNat g.toNat = none ∧ commandWaits s f.entry = true ∧ (ringOf s p.toNat g.toNat).st = .active ∧ s.nrx.jobs = [] →
      (∃ t, exec (.commandFetch p g true f) s = .next t ∧ heldOf t.nrx p.toNat g.toNat = some f.entry ∧ t.nrx.jobs = [] ∧ t.nrx.rings = s.nrx.rings ∧ t.mor = s.mor)) ∧
  (∀ (p : BitVec 2) (g : BitVec 18) (s : State) (j : RingCmd), s.nrx.jobs.find? (fun x => decide (x.part = p.toNat) && decide (x.ring = g.toNat) && !x.orphan) = some j ∧ nrxServes s p.toNat = true ∧ (ringOf s p.toNat g.toNat).st = .active ∧ j.applied = true ∧ j.ready = true ∧ j.out = [] ∧ (ringOf s p.toNat g.toNat).posted - (ringOf s p.toNat g.toNat).taken < ringDepth (ringOf s p.toNat g.toNat) ∧ s.nrx.accesses = [] →
      (∃ t, exec (.completionPost p g true true) s = .next t ∧ (∃ m, t.reply = .dma [((ringOf s p.toNat g.toNat).cqBase + 32 * (j.rseq % ringDepth (ringOf s p.toNat g.toNat)), completion (ringOf s p.toNat g.toNat) j j.status)] m) ∧ (ringOf t p.toNat g.toNat).posted = (ringOf s p.toNat g.toNat).posted + 1 ∧ t.nrx.jobs = s.nrx.jobs.filter (fun k => decide (k ≠ j)) ∧ (s.ev.ringCloses, j) ∈ t.nrx.unsaved ∧ t.nrx.counters = s.nrx.counters) ∧ exec (.completionPost p g false true) s = .next (say .none (accessFail p.toNat g.toNat .post s))) ∧
  (∀ (p : BitVec 2) (v : BitVec 11) (s : State), tabGet none s.nrx.gaps (2048 * p.toNat + v.toNat) = some true ∧ vectorMasked s p.toNat v.toNat = false →
      (∃ t, exec (.msixGapEnd p v) s = .next t ∧ t.reply = .dma [] (some v.toNat) ∧ tabGet none t.nrx.gaps (2048 * p.toNat + v.toNat) = some false ∧ t.nrx.jobs = s.nrx.jobs)) ∧
  (∀ (p : BitVec 2) (v : BitVec 11) (s : State), tabGet none s.nrx.gaps (2048 * p.toNat + v.toNat) = some false →
      (∃ t, exec (.msixGapEnd p v) s = .next t ∧ t.reply = .none ∧ tabGet none t.nrx.gaps (2048 * p.toNat + v.toNat) = none ∧ t.nrx.jobs = s.nrx.jobs)) ∧
  (∀ (p : BitVec 2) (v : BitVec 11) (s : State), tabGet none s.nrx.gaps (2048 * p.toNat + v.toNat) = some true ∧ vectorMasked s p.toNat v.toNat = true →
      exec (.msixGapEnd p v) s = .next (say .notNow s)) ∧
  (∀ (s : State), nrxRuns s = true ∧ entryFits s = true ∧ dgaIn s = true ∧ s.nrx.batch ≠ [] →
      (∃ t, exec .batchClose s = .next t ∧ t.nrx.batch = [] ∧ t.nrx.closing = s.nrx.closing ++ [⟨s.nrx.batchEpoch, s.nrx.batchNo, s.nrx.batch, evUs s.aot s.ev, batchRoot s.nrx.batch⟩] ∧ t.nrx.batchNo = s.nrx.batchNo + 1 ∧ t.nrx.jobs = s.nrx.jobs ∧ t.mor = s.mor)) ∧
  (∀ (k : Bool) (s : State) (b : Batch), s.nrx.closing[b2n k]? = some b ∧ nrxRuns s = true ∧ keysHeld s = false ∧ aliasOk s = true ∧ sigIn s = true ∧ b2n k < nSig s →
      (∃ t, exec (.batchSigned k) s = .next t ∧ t.nrx.closing = s.nrx.closing.filter (fun x => decide (x ≠ b)) ∧ t.nrx.jobs = batchAnswer b (batchHeader s b) (hybridSig s "FVX9-QUOTE" (batchHeader s b)) s.nrx.jobs ∧ t.freeCtr = s.freeCtr + 1 ∧ t.mor = s.mor)) ∧
  (∀ (p : BitVec 2) (g : BitVec 18) (u : AccessUse) (s : State), nrxRuns s = true ∧ accessWaits s.nrx p.toNat g.toNat u = true →
      (∃ t, exec (.hostMemoryRetry p g u) s = .next t ∧ accessWaits t.nrx p.toNat g.toNat u = false ∧ t.nrx.rings = s.nrx.rings ∧ t.nrx.jobs = s.nrx.jobs)) ∧
  (∀ (p : BitVec 2) (g : BitVec 18) (u : AccessUse) (s : State), accessUnderWay s p.toNat g.toNat u = true →
      exec (.dmaTimeout p g u) s = .next (say .none (accessFail p.toNat g.toNat u s))) ∧
  (∀ (p g : Nat) (s : State) (a : Access), accessOf s.nrx p g .fetch = some a ∧ a.fails = 2 ∧ (ringOf s p g).st = .active →
      (ringOf (accessFail p g .fetch s) p g).st = .error ∧ (accessFail p g .fetch s).nrx.counters = s.nrx.counters) ∧
  (∀ (p : BitVec 2) (g : BitVec 18) (u : AccessUse) (s : State), (accessOf s.nrx p.toNat g.toNat u).isSome = true ∧ accessLost s.nrx p.toNat g.toNat u = false ∧ u ≠ .input →
      exec (.ringWatchdog p g u) s = .next (say .none (queueFails p.toNat g.toNat (accessEnd p.toNat g.toNat u s)))) ∧
  (∀ (p : BitVec 2) (v : BitVec 32) (b : Bool) (s : State), hostRings s p.toNat b = true ∧ v.getLsbD 0 = true ∧ (admOf s p.toNat (admSel s p.toNat)).enable = false ∧ admOk s p.toNat (admSel s p.toNat) (fieldOf v 8 4) = true →
      (∃ t, exec (.adminRingEnable p v b) s = .next t ∧ (ringOf t p.toNat (admSel s p.toNat)).st = .active ∧ (ringOf t p.toNat (admSel s p.toNat)).depthLog2 = fieldOf v 8 4 ∧ (ringOf t p.toNat (admSel s p.toNat)).journaled = 0 ∧ (admOf t p.toNat (admSel s p.toNat)).enable = true ∧ t.mor = s.mor)) ∧
  (∀ (p : BitVec 2) (v : BitVec 32) (b : Bool) (s : State), hostRings s p.toNat b = true ∧ v.getLsbD 0 = true ∧ (admOf s p.toNat (admSel s p.toNat)).enable = false ∧ admOk s p.toNat (admSel s p.toNat) (fieldOf v 8 4) = false →
      (∃ t, exec (.adminRingEnable p v b) s = .next t ∧ t.nrx.rings = s.nrx.rings ∧ (admOf t p.toNat (admSel s p.toNat)).enable = false)) ∧
  (∀ (p : BitVec 2) (v : BitVec 32) (b : Bool) (s : State), hostRings s p.toNat b = true ∧ v.getLsbD 0 = false ∧ (admOf s p.toNat (admSel s p.toNat)).enable = true →
      (∃ t, exec (.adminRingDisable p v b) s = .next t ∧ (ringOf t p.toNat (admSel s p.toNat)).st ≠ .active ∧ (admOf t p.toNat (admSel s p.toNat)).enable = false ∧ t.mor = s.mor)) ∧
  (∀ (p : BitVec 2) (v : BitVec 32) (b : Bool) (s : State), hostRings s p.toNat b = true ∧ v.getLsbD 0 = false ∧ (admOf s p.toNat (admSel s p.toNat)).enable = false →
      exec (.adminRingDisable p v b) s = .next (say .none (upAdm p.toNat (admSel s p.toNat) (admFields v) s)))

/-- REG_READ and REG_WRITE answer FIELD for a bad body, REG_READ NOT_READY in FLOOR for what is not readable there and
REG_WRITE there for every write, and REG_READ else the words; a write of BAR2 is the doorbell of ring offset / STRIDE;
REG_WRITE writes the words of the mailbox in order and nothing else of the device. A register write changes the
Mordant's configuration only while it is unlocked, and a write below the SRAM's protected end is a bus error. JTAG
writes a register only in a session that gives it, and then what that register's own command does is done; an access
the block bars is a bus error with no other effect. Self-test with a bad core set leaves Hold as the only service;
fuses that decide FLOOR end the start with cause 3, no directory or no bundle with cause 1; with a bundle and a policy
accepted the configuration is written, and once no channel has replay to do it is locked and firmware starts. The
microcode is loaded once. Each of these answers a next state under conditions on the state and operands alone:
regRead, regWrite, registerWrite, selfTestDone, microcodeLoadDone. Where the spec leaves a case open this is the
model's choice (log entries 15, 27, 44, 54, 89, 143). (R34, R110, R122, R285, R428, R461, R501, R507, R508, R509)
Derived. -/
def Obligations.RegistersAndTheStart : Prop :=
  (∀ (b : Bool) (h : VendorHdr) (part rsvd : Byte) (n : BitVec 16) (o : BitVec 32) (s : State), mgtUp s b = true ∧ (hdrOk h = false ∨ regReadOk part rsvd n o = false) →
      exec (.regRead b h part rsvd n o) s = .next (say (.response (vendorReply 0x10 h s 1 [])) (mgtMsg b s))) ∧
  (∀ (b : Bool) (h : VendorHdr) (part rsvd : Byte) (n : BitVec 16) (o : BitVec 32) (s : State), mgtUp s b = true ∧ hdrOk h = true ∧ regReadOk part rsvd n o = true ∧ regFloorOk s n.toNat o.toNat = false →
      exec (.regRead b h part rsvd n o) s = .next (say (.response (vendorReply 0x10 h s 3 [])) (mgtMsg b s))) ∧
  (∀ (b : Bool) (h : VendorHdr) (part rsvd : Byte) (n : BitVec 16) (o : BitVec 32) (s : State), mgtUp s b = true ∧ hdrOk h = true ∧ regReadOk part rsvd n o = true ∧ regFloorOk s n.toNat o.toNat = true →
      exec (.regRead b h part rsvd n o) s = .next (say (.response (vendorReply 0x10 h s 0 (((List.range n.toNat).map (fun i => le 4 (readMgmt s b part.toNat (o.toNat + 4 * i)).toNat)).flatten))) (mgtMsg b s))) ∧
  (∀ (b : Bool) (h : VendorHdr) (o : BitVec 32) (n rsvd : BitVec 16) (w : List (BitVec 32)) (s : State), mgtUp s b = true ∧ (hdrOk h = false ∨ regWriteOk o n rsvd w = false) →
      exec (.regWrite b h o n rsvd w) s = .next (say (.response (vendorReply 0x11 h s 1 [])) (mgtMsg b s))) ∧
  (∀ (b : Bool) (h : VendorHdr) (o : BitVec 32) (n rsvd : BitVec 16) (w : List (BitVec 32)) (s : State), mgtUp s b = true ∧ hdrOk h = true ∧ regWriteOk o n rsvd w = true ∧ floorService s = true →
      exec (.regWrite b h o n rsvd w) s = .next (say (.response (vendorReply 0x11 h s 3 [])) (mgtMsg b s))) ∧
  (∀ (b : Bool) (h : VendorHdr) (o : BitVec 32) (n rsvd : BitVec 16) (w : List (BitVec 32)) (s : State), mgtUp s b = true ∧ hdrOk h = true ∧ regWriteOk o n rsvd w = true ∧ floorService s = false →
      (∃ t, exec (.regWrite b h o n rsvd w) s = .next t ∧ t = say (.response (vendorReply 0x11 h s 0 [])) (mgtMsg b (w.zipIdx.foldl (fun s x => writeMailbox b (o.toNat + 4 * x.2) x.1 s) s)) ∧ t.mor = s.mor ∧ t.otp = s.otp ∧ t.ev = s.ev ∧ t.fab = s.fab ∧ t.nrx = s.nrx ∧ t.sc = s.sc ∧ mgtOf t (!b) = mgtOf s (!b))) ∧
  (∀ (n a len : Nat) (p : BitVec 2) (b : Bool) (v : BitVec 32) (s : State), csfReach s p.toNat b = true ∧ n ≠ 2 →
      (∃ t, exec (.registerWrite (.bar n p len b) a v) s = .next t ∧ t = say .none (writeBar n p.toNat a len v s) ∧ t.mor = s.mor ∧ t.otp = s.otp ∧ t.ev = s.ev ∧ t.fab.eps = s.fab.eps)) ∧
  (∀ (n a len : Nat) (p : BitVec 2) (b : Bool) (v : BitVec 32) (s : State), csfReach s p.toNat b = true ∧ (len ≠ 4 ∨ a % 4 ≠ 0) →
      exec (.registerWrite (.bar n p len b) a v) s = .next (say .none s)) ∧
  (∀ (a : Nat) (p : BitVec 2) (b : Bool) (v : BitVec 32) (s : State), csfReach s p.toNat b = true ∧ hostRings s p.toNat b = true ∧ a < barSize s p.toNat 2 ∧ dbStride s p.toNat % 4 = 0 →
      (a % dbStride s p.toNat = 0 → exec (.registerWrite (.bar 2 p 4 b) a v) s = exec (.doorbellSq p (BitVec.ofNat 18 (a / dbStride s p.toNat)) v b) s) ∧ (a % dbStride s p.toNat = 4 → exec (.registerWrite (.bar 2 p 4 b) a v) s = exec (.doorbellCq p (BitVec.ofNat 18 (a / dbStride s p.toNat)) v b) s)) ∧
  (∀ (a : Nat) (v : BitVec 32) (s : State), coreRuns s = true ∧ s.mor.aocA = true ∧ s.mor.lock = true ∧ a % 4 = 0 ∧ a < 0x10000 →
      (∃ t, exec (.registerWrite (.internal false 4 0) (0x40080000 + a) v) s = .next t ∧ t.mor.attr = s.mor.attr ∧ t.mor.prereq = s.mor.prereq ∧ t.mor.outMap = s.mor.outMap ∧ t.mor.vslotMap = s.mor.vslotMap ∧ t.mor.lock = true)) ∧
  (∀ (v : BitVec 32) (s : State), coreRuns s = true ∧ s.mor.aocA = true ∧ s.mor.lock = false →
      (∃ t, exec (.registerWrite (.internal false 4 0) 0x40080044 v) s = .next t ∧ tabGet 0 t.mor.attr s.mor.selDom = v.setWidth 4 ∧ (∀ d, d ≠ s.mor.selDom → domAttr t d = domAttr s d) ∧ t.mor.outMap = s.mor.outMap ∧ t.mor.dom = s.mor.dom)) ∧
  (∀ (a : Nat) (v : BitVec 32) (s : State), coreRuns s = true ∧ 0x10000000 ≤ a ∧ a + 4 ≤ 0x10800000 ∧ a < sramProtected s →
      (∃ t, exec (.registerWrite (.internal false 4 0) a v) s = .next t ∧ t.reply = .busError ∧ t.sc.sram = s.sc.sram ∧ t.sc.fault = true ∧ t.mor = s.mor)) ∧
  (∀ (a : Nat) (v : BitVec 32) (s : State), coreRuns s = true ∧ a + 4 ≤ 0x10800000 ∧ 0x10000000 ≤ a ∧ sramProtected s ≤ a →
      exec (.registerWrite (.internal false 4 0) a v) s = .next (say .none (upSc (fun c => { c with sram := memWrite 0 c.sram (a - 0x10000000) (le 4 v.toNat) }) s))) ∧
  (∀ (a len : Nat) (v h : BitVec 32) (s : State), s.otp.session = none →
      exec (.registerWrite (.internal true len h) a v) s = .next (say .notNow s)) ∧
  (∀ (a len : Nat) (v h : BitVec 32) (s : State), jtagReach s = true ∧ 0x40000000 ≤ a ∧ a < 0x80000000 ∧ blockBars s a len = true →
      exec (.registerWrite (.internal true len h) a v) s = .next (say .busError s)) ∧
  (∀ (v h : BitVec 32) (s : State), jtagReach s = true →
      exec (.registerWrite (.internal true 4 h) 0x4008003c v) s = jtagOut s (tripReq v s) ∧ exec (.registerWrite (.internal true 4 h) 0x4008001c v) s = jtagOut s (holdReq v s) ∧ exec (.registerWrite (.internal true 4 h) 0x40080018 v) s = jtagOut s (releaseReq v s)) ∧
  (∀ (t : SelfTest) (s : State), s.sc.mainGood = true ∧ s.sc.selfTestDue = true ∧ coreSetOk t (unitsAfter t s) = false →
      exec (.selfTestDone t) s = .next (say .none (upSc (fun c => { c with holdOnly := true }) (unitsAfter t s)))) ∧
  (∀ (t : SelfTest) (s : State), s.sc.mainGood = true ∧ s.sc.selfTestDue = true ∧ coreSetOk t (unitsAfter t s) = true ∧ aocRuns (wdtServed (unitsScanned (romFuses t (unitsAfter t s)))) = true ∧ fusesBad (wdtServed (unitsScanned (romFuses t (unitsAfter t s)))) = true →
      (∃ u, exec (.selfTestDone t) s = .next u ∧ u.mor.floorCause = 3 ∧ u.mor.lock = s.mor.lock ∧ u.sc.running = s.sc.running)) ∧
  (∀ (t : SelfTest) (s : State), s.sc.mainGood = true ∧ s.sc.selfTestDue = true ∧ coreSetOk t (unitsAfter t s) = true ∧ aocRuns (wdtServed (unitsScanned (romFuses t (unitsAfter t s)))) = true ∧ fusesBad (wdtServed (unitsScanned (romFuses t (unitsAfter t s)))) = false ∧ paUp (wdtServed (unitsScanned (romFuses t (unitsAfter t s)))) = true ∧ (bootDir s.cfg = none ∨ romBundle (wdtServed (unitsScanned (romFuses t (unitsAfter t s)))) = none) →
      (∃ u, exec (.selfTestDone t) s = .next u ∧ u.mor.floorCause = 1 ∧ u.mor.lock = s.mor.lock ∧ u.sc.running = s.sc.running)) ∧
  (∀ (t : SelfTest) (s : State) (k : Bool) (b : Bundle) (p : PolicyImage) (s1 s2 : State), s.sc.mainGood = true ∧ s.sc.selfTestDue = true ∧ coreSetOk t (unitsAfter t s) = true ∧ s1 = wdtServed (unitsScanned (romFuses t (unitsAfter t s))) ∧ aocRuns s1 = true ∧ fusesBad s1 = false ∧ paUp s1 = true ∧ (bootDir s1.cfg).isSome = true ∧ romBundle s1 = some (k, b) ∧ s2 = romPolicy t (romTake k b s1) ∧ s2.mor.floorCause = 0 ∧ s2.run.policy = some p →
      exec (.selfTestDone t) s = .next (say .none (romGo t.cbus (romPrepare p s2))) ∧ (replayWaits (romPrepare p s2) = true → (romGo t.cbus (romPrepare p s2)).mor.lock = s2.mor.lock ∧ (romGo t.cbus (romPrepare p s2)).sc = s2.sc) ∧ (replayWaits (romPrepare p s2) = false → romGo t.cbus (romPrepare p s2) = firmwareStart t.cbus (romLock p { romPrepare p s2 with run := { (romPrepare p s2).run with romWait := none } })) ∧ (romLock p (romPrepare p s2)).mor.lock = true ∧ (romLock p (romPrepare p s2)).mor.phase = 2 ∧ (∀ d, domSt (romPrepare p s2) d = domSt s2 d)) ∧
  (∀ (s : State), fwRuns s = true ∧ fabricEn s = true ∧ s.run.microcode = false →
      exec .microcodeLoadDone s = .next (say .none { s with run := { s.run with microcode := true } }))
end

