-- ==== Sys2Proof/Laws/Hash.lean ====
section
/-!
SUPPORT. The lengths of the digests (R165).
-/

namespace Sys2Proof

theorem le_length (k n : Nat) : (le k n).length = k := by simp [le]

theorem be_length (k n : Nat) : (be k n).length = k := by simp [be, le_length]

/-- A round keeps four words in each sequence. -/
theorem shaTurn_length {w : Nat} (k : ShaKind w) (x : BitVec w) (p : ShaPair w) (h : p.upper.length = 4 ∧ p.lower.length = 4) :
    (shaTurn k p x).upper.length = 4 ∧ (shaTurn k p x).lower.length = 4 := by
  unfold shaTurn
  split
  · exact ⟨rfl, rfl⟩
  · exact h

theorem shaTurns_length {w : Nat} (k : ShaKind w) (l : List (BitVec w)) : ∀ p : ShaPair w, p.upper.length = 4 ∧ p.lower.length = 4 →
    (l.foldl (shaTurn k) p).upper.length = 4 ∧ (l.foldl (shaTurn k) p).lower.length = 4 := by
  induction l with
  | nil => exact fun _ h => h
  | cons x l ih => exact fun p h => ih _ (shaTurn_length k x p h)

/-- A block keeps eight words of chaining value. -/
theorem shaAbsorb_length {w : Nat} (k : ShaKind w) (h : List (BitVec w)) (b : Bytes) (hl : h.length = 8) :
    (shaAbsorb k h b).length = 8 := by
  have := shaTurns_length k (List.zipWith (fun x y => x + y) (shaSchedule k k.rounds ((pieces (w / 8) 16 b).map (fun b => BitVec.ofNat w (unbe b))))
    (unpackTable w k.rounds k.constants)) ⟨h.take 4, h.drop 4⟩ (by simp [hl])
  simp only [shaAbsorb, List.length_zipWith, List.length_append, this.1, this.2, hl]
  rfl

theorem shaAbsorbs_length {w : Nat} (k : ShaKind w) (l : List Bytes) : ∀ h : List (BitVec w), h.length = 8 →
    (l.foldl (shaAbsorb k) h).length = 8 := by
  induction l with
  | nil => exact fun _ h => h
  | cons x l ih => exact fun h hl => ih _ (shaAbsorb_length k h x hl)

theorem sha2_length {w : Nat} (k : ShaKind w) (m : Bytes) : (sha2 k m).length = 8 * (w / 8) := by
  have hm : ∀ l : List (BitVec w), ((l.map (fun x => be (w / 8) x.toNat)).flatten).length = l.length * (w / 8) := by
    intro l
    induction l with
    | nil => simp
    | cons x l ih => simp [be_length, Nat.add_mul, Nat.add_comm, ih]
  simp only [sha2, hm]
  rw [shaAbsorbs_length _ _ _ (by simp [unpackTable])]

theorem sha256_length (m : Bytes) : (sha256 m).length = 32 := sha2_length kind256 m
theorem sha384_length (m : Bytes) : (sha384 m).length = 48 := by simp [sha384, sha2_length]
theorem sha512_length (m : Bytes) : (sha512 m).length = 64 := sha2_length kind512 m

end Sys2Proof
end

