-- ==== Sys2Proof/Laws/Table.lean ====
section
/-!
SUPPORT. The laws of tables and byte memories: read after write, and that every operation keeps the canonical form.
-/

namespace Sys2Proof

theorem cellsGet_cellsDrop {α : Type} (d : α) (i j : Nat) (l : List (Nat × α)) :
    cellsGet d j (cellsDrop i l) = if j = i then d else cellsGet d j l := by
  induction l with
  | nil => simp [cellsDrop, cellsGet]
  | cons c r ih =>
    obtain ⟨k, v⟩ := c
    by_cases h : k = i
    · subst h
      by_cases e : j = k
      · subst e; simpa [cellsDrop] using ih
      · simp [cellsDrop, cellsGet, ih, e, Ne.symm e]
    · by_cases e : k = j
      · subst e; simp [cellsDrop, cellsGet, h]
      · simp [cellsDrop, cellsGet, h, e, ih]

theorem cellsGet_cellsPut {α : Type} (d v : α) (i j : Nat) (l : List (Nat × α)) :
    cellsGet d j (cellsPut i v l) = if j = i then v else cellsGet d j l := by
  induction l with
  | nil =>
    by_cases h : j = i
    · simp [cellsPut, cellsGet, h]
    · simp [cellsPut, cellsGet, h, Ne.symm h]
  | cons c r ih =>
    obtain ⟨k, w⟩ := c
    by_cases h : j = i
    · subst h
      simp only [cellsPut]
      split
      · simp [cellsGet]
      · split
        · simp [cellsGet]
        · rename_i h2; simp [cellsGet, h2, ih]
    · simp only [cellsPut, h, if_false]
      split
      · simp [cellsGet, Ne.symm h]
      · split
        · rename_i h2; subst h2; simp [cellsGet, Ne.symm h]
        · simp [cellsGet, ih, h]

/-- Read after write: the key written holds the value, every other key what it held. -/
theorem tabGet_tabSet {α : Type} [DecidableEq α] (d v : α) (t : Tab α) (i j : Nat) :
    tabGet d (tabSet d t i v) j = if j = i then v else tabGet d t j := by
  unfold tabSet tabGet
  split
  · rename_i h; rw [cellsGet_cellsDrop, h]
  · rw [cellsGet_cellsPut]

@[simp] theorem tabGet_tabSet_self {α : Type} [DecidableEq α] (d v : α) (t : Tab α) (i : Nat) :
    tabGet d (tabSet d t i v) i = v := by simp [tabGet_tabSet]

@[simp] theorem tabGet_tabSet_ne {α : Type} [DecidableEq α] (d v : α) (t : Tab α) (i j : Nat) (h : j ≠ i) :
    tabGet d (tabSet d t i v) j = tabGet d t j := by simp [tabGet_tabSet, h]

@[simp] theorem tabGet_tabEmpty {α : Type} (d : α) (i : Nat) : tabGet d tabEmpty i = d := rfl

theorem cellsGet_filter {α : Type} (d : α) (p : Nat → Bool) (l : List (Nat × α)) (i : Nat) :
    cellsGet d i (l.filter (fun c => p c.1)) = if p i then cellsGet d i l else d := by
  induction l with
  | nil => simp [cellsGet]
  | cons c r ih =>
    obtain ⟨k, v⟩ := c
    by_cases e : k = i
    · subst e
      by_cases h : p k = true <;> simp [cellsGet, h, ih]
    · by_cases h : p k = true <;> simp [cellsGet, h, ih, e]

theorem tabGet_tabClearRange {α : Type} (d : α) (t : Tab α) (lo hi i : Nat) :
    tabGet d (tabClearRange t lo hi) i = if lo ≤ i ∧ i < hi then d else tabGet d t i := by
  unfold tabGet tabClearRange
  rw [cellsGet_filter d (fun k => !(decide (lo ≤ k) && decide (k < hi)))]
  by_cases h : lo ≤ i ∧ i < hi
  · simp [h]
  · rw [if_neg h, if_pos]
    simp only [Bool.not_eq_true', Bool.and_eq_false_iff, decide_eq_false_iff_not]
    omega

/-! ### The canonical form -/

theorem cellsWf_mono {α : Type} [DecidableEq α] (d : α) (a b : Nat) (l : List (Nat × α)) (h : a ≤ b)
    (w : cellsWf d (some b) l = true) : cellsWf d (some a) l = true := by
  cases l with
  | nil => rfl
  | cons c r =>
    simp only [cellsWf, Bool.and_eq_true, decide_eq_true_eq] at w ⊢
    exact ⟨⟨Nat.lt_of_le_of_lt h w.1.1, w.1.2⟩, w.2⟩

theorem cellsWf_none {α : Type} [DecidableEq α] (d : α) (a : Nat) (l : List (Nat × α)) (w : cellsWf d (some a) l = true) :
    cellsWf d none l = true := by
  cases l with
  | nil => rfl
  | cons c r =>
    simp only [cellsWf, Bool.and_eq_true, decide_eq_true_eq] at w ⊢
    exact ⟨⟨trivial, w.1.2⟩, w.2⟩

theorem cellsWf_drop {α : Type} [DecidableEq α] (d : α) (i : Nat) (l : List (Nat × α)) (lo : Option Nat)
    (w : cellsWf d lo l = true) : cellsWf d lo (cellsDrop i l) = true := by
  induction l generalizing lo with
  | nil => exact w
  | cons c r ih =>
    obtain ⟨k, v⟩ := c
    have hr : cellsWf d (some k) r = true := by
      cases lo <;> simp only [cellsWf, Bool.and_eq_true] at w <;> exact w.2
    simp only [cellsDrop]
    split
    · have hlo : cellsWf d lo r = true := by
        cases lo with
        | none => exact cellsWf_none d k r hr
        | some a =>
          simp only [cellsWf, Bool.and_eq_true, decide_eq_true_eq] at w
          exact cellsWf_mono d a k r (Nat.le_of_lt w.1.1) hr
      exact ih lo hlo
    · cases lo <;> simp only [cellsWf, Bool.and_eq_true] at w ⊢ <;> exact ⟨w.1, ih _ w.2⟩

theorem cellsWf_put {α : Type} [DecidableEq α] (d v : α) (i : Nat) (hv : v ≠ d) (l : List (Nat × α)) (lo : Option Nat)
    (hi : ∀ a, lo = some a → a < i) (w : cellsWf d lo l = true) : cellsWf d lo (cellsPut i v l) = true := by
  induction l generalizing lo with
  | nil =>
    cases lo with
    | none => simp [cellsPut, cellsWf, hv]
    | some a => simp [cellsPut, cellsWf, hv, hi a rfl]
  | cons c r ih =>
    obtain ⟨k, x⟩ := c
    have hr : cellsWf d (some k) r = true := by
      cases lo <;> simp only [cellsWf, Bool.and_eq_true] at w <;> exact w.2
    have hx : x ≠ d := by
      cases lo <;> simp only [cellsWf, Bool.and_eq_true, decide_eq_true_eq] at w <;> exact w.1.2
    simp only [cellsPut]
    split
    · rename_i h
      cases lo with
      | none => simp [cellsWf, hv, hx, h, hr]
      | some a => simp [cellsWf, hv, hx, h, hr, hi a rfl]
    · split
      · rename_i h; subst h
        cases lo with
        | none => simp [cellsWf, hv, hr]
        | some a => simp [cellsWf, hv, hr, hi a rfl]
      · rename_i h1 h2
        have := ih (some k) (by intro a e; cases e; omega) hr
        cases lo with
        | none => simp [cellsWf, hx, this]
        | some a =>
          simp only [cellsWf, Bool.and_eq_true, decide_eq_true_eq] at w
          simp [cellsWf, hx, this, w.1.1]

/-- A write keeps the canonical form. -/
theorem tabWf_tabSet {α : Type} [DecidableEq α] (d v : α) (t : Tab α) (i : Nat) (w : tabWf d t = true) :
    tabWf d (tabSet d t i v) = true := by
  unfold tabSet
  split
  · exact cellsWf_drop d i t.cells none w
  · rename_i h; exact cellsWf_put d v i h t.cells none (by simp) w

@[simp] theorem tabWf_tabEmpty {α : Type} [DecidableEq α] (d : α) : tabWf d (tabEmpty : Tab α) = true := rfl

/-- The write of a byte string keeps it too. -/
theorem tabWf_memWrite (d : Byte) (b : Bytes) (m : Tab Byte) (a : Nat) (w : tabWf d m = true) :
    tabWf d (memWrite d m a b) = true := by
  induction b generalizing m a with
  | nil => exact w
  | cons x r ih => exact ih _ _ (tabWf_tabSet d x m a w)

/-- A byte outside the string written reads as before. -/
theorem tabGet_memWrite_out (d : Byte) (b : Bytes) (m : Tab Byte) (a i : Nat) (h : i < a ∨ a + b.length ≤ i) :
    tabGet d (memWrite d m a b) i = tabGet d m i := by
  induction b generalizing m a with
  | nil => rfl
  | cons x r ih =>
    simp only [List.length_cons] at h
    rw [memWrite, ih _ _ (by omega), tabGet_tabSet_ne _ _ _ _ _ (by omega)]

/-- A byte of the string written reads as written. -/
theorem tabGet_memWrite_in (d : Byte) (b : Bytes) (m : Tab Byte) (a i : Nat) (h : i < b.length) :
    tabGet d (memWrite d m a b) (a + i) = b.getD i d := by
  induction b generalizing m a i with
  | nil => exact absurd h (by simp)
  | cons x r ih =>
    cases i with
    | zero => rw [memWrite, tabGet_memWrite_out _ _ _ _ _ (by omega)]; simp
    | succ k =>
      have e : a + (k + 1) = (a + 1) + k := by omega
      rw [memWrite, e, ih _ _ _ (by simpa using h)]; rfl

/-- A byte string written reads back. -/
theorem memRead_memWrite (d : Byte) (b : Bytes) (m : Tab Byte) (a : Nat) : memRead d (memWrite d m a b) a b.length = b := by
  induction b generalizing m a with
  | nil => rfl
  | cons x r ih =>
    have h := tabGet_memWrite_in d (x :: r) m a 0 (by simp)
    simp only [Nat.add_zero, List.getD_cons_zero] at h
    simp only [List.length_cons, memRead, h, List.cons.injEq, true_and]
    exact ih (tabSet d m a x) (a + 1)

end Sys2Proof
end

