-- ==== Sys2Proof/Laws/Formats.lean ====
section
/-!
SUPPORT. What is written in a layout reads back: the cells of a byte string (R261) and a Boot Directory copy (R185).
-/

namespace Sys2Proof.Machine

open Sys2Proof

theorem fit_length (k : Nat) (b : Bytes) : (fit k b).length = k := by simp [fit, zeros]

theorem zeros_length (n : Nat) : (zeros n).length = n := by simp [zeros]

/-- A short byte string is filled up with zeros. -/
theorem fit_short (k : Nat) (b : Bytes) (h : b.length ≤ k) : fit k b = b ++ zeros (k - b.length) := by
  simp [fit, zeros, List.take_append, List.take_of_length_le h]

/-- Bytes written read back as cells. -/
theorem cellBytes_memWrite_in (m : Tab Byte) (a : Nat) (b : Bytes) : cellBytes (memWrite 0xff m a b).cells a b.length = b := by
  refine List.ext_getElem (by simp [cellBytes]) (fun i h1 h2 => ?_)
  have h := tabGet_memWrite_in 0xff b m a i h2
  rw [List.getD_eq_getElem _ _ h2] at h
  simpa [cellBytes, tabGet] using h

/-- Cells outside the bytes written read as before. -/
theorem cellBytes_memWrite_out (m : Tab Byte) (a : Nat) (b : Bytes) (c n : Nat) (h : c + n ≤ a ∨ a + b.length ≤ c) :
    cellBytes (memWrite 0xff m a b).cells c n = cellBytes m.cells c n := by
  refine List.map_congr_left (fun i hi => ?_)
  have := List.mem_range.1 hi
  exact tabGet_memWrite_out 0xff b m a (c + i) (by omega)

/-- Zero bytes are zero. -/
theorem cellsZero_of_bytes (c : List (Nat × Byte)) (a n : Nat) (h : cellBytes c a n = zeros n) : cellsZero c a n = true := by
  simp only [cellsZero, List.all_eq_true, List.mem_range, decide_eq_true_eq]
  intro i hi
  have : cellsGet 0xff (a + i) c ∈ cellBytes c a n := List.mem_map.2 ⟨i, List.mem_range.2 hi, rfl⟩
  rw [h] at this
  exact List.eq_of_mem_replicate this

/-- What is written into a copy is what it says. -/
theorem dirRead_dirWrite (d : BootDir) (h : d.generation < 2 ^ 64) : dirRead (dirWrite d) = some d := by
  obtain ⟨g, a, b, c, e⟩ := d
  have hb : ∀ b : Bool, b2n b < 2 := by decide
  have h1 : ∀ b : Bool, decide (b2n b = 1) = b := by decide
  have h' : g < 18446744073709551616 := h
  have hd : (dirWrite ⟨g, a, b, c, e⟩).digest = sha384 (dirHead (dirWrite ⟨g, a, b, c, e⟩)) := rfl
  unfold dirRead
  rw [← hd]
  simp [dirWrite, hb, h']
  exact ⟨h1 a, h1 b, h1 c, h1 e⟩

/-- With copy 0 written and copy 1 unreadable, copy 0 is in use. -/
theorem bootDir_dirWrite (c : CfgFlash) (d : BootDir) (h : d.generation < 2 ^ 64) (h0 : c.dir0 = some (dirWrite d))
    (h1 : c.dir1 = none) : bootDir c = some d := by
  simp [bootDir, dirInUse, h0, h1, dirRead_dirWrite d h]

/-- The slot a pushed bundle is written to (R187). -/
theorem pushSlot_bundle (s : State) (b : Bundle) (d : BootDir) (h : bootDir s.cfg = some d) :
    pushSlot s (.bundle b) = d.fwInactive := by
  simp only [pushSlot, h]

end Sys2Proof.Machine
end

