-- ==== Sys2Proof/Laws/State.lean ====
section
/-!
SUPPORT. One lemma per component of State for each operation that changes one component.
-/

namespace Sys2Proof.Machine

open Sys2Proof

@[simp] theorem upMor_mor (f : Mordant → Mordant) (s : State) : (upMor f s).mor = f s.mor := rfl
@[simp] theorem upMor_otp (f : Mordant → Mordant) (s : State) : (upMor f s).otp = s.otp := rfl
@[simp] theorem upMor_ev (f : Mordant → Mordant) (s : State) : (upMor f s).ev = s.ev := rfl
@[simp] theorem upMor_vault (f : Mordant → Mordant) (s : State) : (upMor f s).vault = s.vault := rfl
@[simp] theorem upMor_chans (f : Mordant → Mordant) (s : State) : (upMor f s).chans = s.chans := rfl
@[simp] theorem upMor_xip (f : Mordant → Mordant) (s : State) : (upMor f s).xip = s.xip := rfl
@[simp] theorem upMor_ports (f : Mordant → Mordant) (s : State) : (upMor f s).ports = s.ports := rfl
@[simp] theorem upMor_ems (f : Mordant → Mordant) (s : State) : (upMor f s).ems = s.ems := rfl
@[simp] theorem upMor_lake (f : Mordant → Mordant) (s : State) : (upMor f s).lake = s.lake := rfl
@[simp] theorem upMor_imgs (f : Mordant → Mordant) (s : State) : (upMor f s).imgs = s.imgs := rfl
@[simp] theorem upMor_activeHalf (f : Mordant → Mordant) (s : State) : (upMor f s).activeHalf = s.activeHalf := rfl
@[simp] theorem upMor_staged (f : Mordant → Mordant) (s : State) : (upMor f s).staged = s.staged := rfl
@[simp] theorem upMor_polFloor (f : Mordant → Mordant) (s : State) : (upMor f s).polFloor = s.polFloor := rfl
@[simp] theorem upMor_replay (f : Mordant → Mordant) (s : State) : (upMor f s).replay = s.replay := rfl
@[simp] theorem upMor_nextWriteId (f : Mordant → Mordant) (s : State) : (upMor f s).nextWriteId = s.nextWriteId := rfl
@[simp] theorem upMor_grant (f : Mordant → Mordant) (s : State) : (upMor f s).grant = s.grant := rfl
@[simp] theorem upMor_capsules (f : Mordant → Mordant) (s : State) : (upMor f s).capsules = s.capsules := rfl
@[simp] theorem upMor_cfg (f : Mordant → Mordant) (s : State) : (upMor f s).cfg = s.cfg := rfl
@[simp] theorem upMor_run (f : Mordant → Mordant) (s : State) : (upMor f s).run = s.run := rfl
@[simp] theorem upMor_pldmUpdate (f : Mordant → Mordant) (s : State) : (upMor f s).pldmUpdate = s.pldmUpdate := rfl
@[simp] theorem upMor_fab (f : Mordant → Mordant) (s : State) : (upMor f s).fab = s.fab := rfl
@[simp] theorem upMor_nrx (f : Mordant → Mordant) (s : State) : (upMor f s).nrx = s.nrx := rfl
@[simp] theorem upMor_sc (f : Mordant → Mordant) (s : State) : (upMor f s).sc = s.sc := rfl
@[simp] theorem upMor_sic (f : Mordant → Mordant) (s : State) : (upMor f s).sic = s.sic := rfl
@[simp] theorem upMor_wdt (f : Mordant → Mordant) (s : State) : (upMor f s).wdt = s.wdt := rfl
@[simp] theorem upMor_aot (f : Mordant → Mordant) (s : State) : (upMor f s).aot = s.aot := rfl
@[simp] theorem upMor_dga (f : Mordant → Mordant) (s : State) : (upMor f s).dga = s.dga := rfl
@[simp] theorem upMor_sig0 (f : Mordant → Mordant) (s : State) : (upMor f s).sig0 = s.sig0 := rfl
@[simp] theorem upMor_sig1 (f : Mordant → Mordant) (s : State) : (upMor f s).sig1 = s.sig1 := rfl
@[simp] theorem upMor_kld (f : Mordant → Mordant) (s : State) : (upMor f s).kld = s.kld := rfl
@[simp] theorem upMor_pa (f : Mordant → Mordant) (s : State) : (upMor f s).pa = s.pa := rfl
@[simp] theorem upMor_mgtA (f : Mordant → Mordant) (s : State) : (upMor f s).mgtA = s.mgtA := rfl
@[simp] theorem upMor_mgtB (f : Mordant → Mordant) (s : State) : (upMor f s).mgtB = s.mgtB := rfl
@[simp] theorem upMor_mbxQueue (f : Mordant → Mordant) (s : State) : (upMor f s).mbxQueue = s.mbxQueue := rfl
@[simp] theorem upMor_cbus (f : Mordant → Mordant) (s : State) : (upMor f s).cbus = s.cbus := rfl
@[simp] theorem upMor_temp (f : Mordant → Mordant) (s : State) : (upMor f s).temp = s.temp := rfl
@[simp] theorem upMor_reply (f : Mordant → Mordant) (s : State) : (upMor f s).reply = s.reply := rfl
@[simp] theorem upMor_freeCtr (f : Mordant → Mordant) (s : State) : (upMor f s).freeCtr = s.freeCtr := rfl
@[simp] theorem upMor_pending (f : Mordant → Mordant) (s : State) : (upMor f s).pending = s.pending := rfl
@[simp] theorem upOtp_mor (f : Otp → Otp) (s : State) : (upOtp f s).mor = s.mor := rfl
@[simp] theorem upOtp_otp (f : Otp → Otp) (s : State) : (upOtp f s).otp = f s.otp := rfl
@[simp] theorem upOtp_ev (f : Otp → Otp) (s : State) : (upOtp f s).ev = s.ev := rfl
@[simp] theorem upOtp_vault (f : Otp → Otp) (s : State) : (upOtp f s).vault = s.vault := rfl
@[simp] theorem upOtp_chans (f : Otp → Otp) (s : State) : (upOtp f s).chans = s.chans := rfl
@[simp] theorem upOtp_xip (f : Otp → Otp) (s : State) : (upOtp f s).xip = s.xip := rfl
@[simp] theorem upOtp_ports (f : Otp → Otp) (s : State) : (upOtp f s).ports = s.ports := rfl
@[simp] theorem upOtp_ems (f : Otp → Otp) (s : State) : (upOtp f s).ems = s.ems := rfl
@[simp] theorem upOtp_lake (f : Otp → Otp) (s : State) : (upOtp f s).lake = s.lake := rfl
@[simp] theorem upOtp_imgs (f : Otp → Otp) (s : State) : (upOtp f s).imgs = s.imgs := rfl
@[simp] theorem upOtp_activeHalf (f : Otp → Otp) (s : State) : (upOtp f s).activeHalf = s.activeHalf := rfl
@[simp] theorem upOtp_staged (f : Otp → Otp) (s : State) : (upOtp f s).staged = s.staged := rfl
@[simp] theorem upOtp_polFloor (f : Otp → Otp) (s : State) : (upOtp f s).polFloor = s.polFloor := rfl
@[simp] theorem upOtp_replay (f : Otp → Otp) (s : State) : (upOtp f s).replay = s.replay := rfl
@[simp] theorem upOtp_nextWriteId (f : Otp → Otp) (s : State) : (upOtp f s).nextWriteId = s.nextWriteId := rfl
@[simp] theorem upOtp_grant (f : Otp → Otp) (s : State) : (upOtp f s).grant = s.grant := rfl
@[simp] theorem upOtp_capsules (f : Otp → Otp) (s : State) : (upOtp f s).capsules = s.capsules := rfl
@[simp] theorem upOtp_cfg (f : Otp → Otp) (s : State) : (upOtp f s).cfg = s.cfg := rfl
@[simp] theorem upOtp_run (f : Otp → Otp) (s : State) : (upOtp f s).run = s.run := rfl
@[simp] theorem upOtp_pldmUpdate (f : Otp → Otp) (s : State) : (upOtp f s).pldmUpdate = s.pldmUpdate := rfl
@[simp] theorem upOtp_fab (f : Otp → Otp) (s : State) : (upOtp f s).fab = s.fab := rfl
@[simp] theorem upOtp_nrx (f : Otp → Otp) (s : State) : (upOtp f s).nrx = s.nrx := rfl
@[simp] theorem upOtp_sc (f : Otp → Otp) (s : State) : (upOtp f s).sc = s.sc := rfl
@[simp] theorem upOtp_sic (f : Otp → Otp) (s : State) : (upOtp f s).sic = s.sic := rfl
@[simp] theorem upOtp_wdt (f : Otp → Otp) (s : State) : (upOtp f s).wdt = s.wdt := rfl
@[simp] theorem upOtp_aot (f : Otp → Otp) (s : State) : (upOtp f s).aot = s.aot := rfl
@[simp] theorem upOtp_dga (f : Otp → Otp) (s : State) : (upOtp f s).dga = s.dga := rfl
@[simp] theorem upOtp_sig0 (f : Otp → Otp) (s : State) : (upOtp f s).sig0 = s.sig0 := rfl
@[simp] theorem upOtp_sig1 (f : Otp → Otp) (s : State) : (upOtp f s).sig1 = s.sig1 := rfl
@[simp] theorem upOtp_kld (f : Otp → Otp) (s : State) : (upOtp f s).kld = s.kld := rfl
@[simp] theorem upOtp_pa (f : Otp → Otp) (s : State) : (upOtp f s).pa = s.pa := rfl
@[simp] theorem upOtp_mgtA (f : Otp → Otp) (s : State) : (upOtp f s).mgtA = s.mgtA := rfl
@[simp] theorem upOtp_mgtB (f : Otp → Otp) (s : State) : (upOtp f s).mgtB = s.mgtB := rfl
@[simp] theorem upOtp_mbxQueue (f : Otp → Otp) (s : State) : (upOtp f s).mbxQueue = s.mbxQueue := rfl
@[simp] theorem upOtp_cbus (f : Otp → Otp) (s : State) : (upOtp f s).cbus = s.cbus := rfl
@[simp] theorem upOtp_temp (f : Otp → Otp) (s : State) : (upOtp f s).temp = s.temp := rfl
@[simp] theorem upOtp_reply (f : Otp → Otp) (s : State) : (upOtp f s).reply = s.reply := rfl
@[simp] theorem upOtp_freeCtr (f : Otp → Otp) (s : State) : (upOtp f s).freeCtr = s.freeCtr := rfl
@[simp] theorem upOtp_pending (f : Otp → Otp) (s : State) : (upOtp f s).pending = s.pending := rfl
@[simp] theorem upEv_mor (f : Evid → Evid) (s : State) : (upEv f s).mor = s.mor := rfl
@[simp] theorem upEv_otp (f : Evid → Evid) (s : State) : (upEv f s).otp = s.otp := rfl
@[simp] theorem upEv_ev (f : Evid → Evid) (s : State) : (upEv f s).ev = f s.ev := rfl
@[simp] theorem upEv_vault (f : Evid → Evid) (s : State) : (upEv f s).vault = s.vault := rfl
@[simp] theorem upEv_chans (f : Evid → Evid) (s : State) : (upEv f s).chans = s.chans := rfl
@[simp] theorem upEv_xip (f : Evid → Evid) (s : State) : (upEv f s).xip = s.xip := rfl
@[simp] theorem upEv_ports (f : Evid → Evid) (s : State) : (upEv f s).ports = s.ports := rfl
@[simp] theorem upEv_ems (f : Evid → Evid) (s : State) : (upEv f s).ems = s.ems := rfl
@[simp] theorem upEv_lake (f : Evid → Evid) (s : State) : (upEv f s).lake = s.lake := rfl
@[simp] theorem upEv_imgs (f : Evid → Evid) (s : State) : (upEv f s).imgs = s.imgs := rfl
@[simp] theorem upEv_activeHalf (f : Evid → Evid) (s : State) : (upEv f s).activeHalf = s.activeHalf := rfl
@[simp] theorem upEv_staged (f : Evid → Evid) (s : State) : (upEv f s).staged = s.staged := rfl
@[simp] theorem upEv_polFloor (f : Evid → Evid) (s : State) : (upEv f s).polFloor = s.polFloor := rfl
@[simp] theorem upEv_replay (f : Evid → Evid) (s : State) : (upEv f s).replay = s.replay := rfl
@[simp] theorem upEv_nextWriteId (f : Evid → Evid) (s : State) : (upEv f s).nextWriteId = s.nextWriteId := rfl
@[simp] theorem upEv_grant (f : Evid → Evid) (s : State) : (upEv f s).grant = s.grant := rfl
@[simp] theorem upEv_capsules (f : Evid → Evid) (s : State) : (upEv f s).capsules = s.capsules := rfl
@[simp] theorem upEv_cfg (f : Evid → Evid) (s : State) : (upEv f s).cfg = s.cfg := rfl
@[simp] theorem upEv_run (f : Evid → Evid) (s : State) : (upEv f s).run = s.run := rfl
@[simp] theorem upEv_pldmUpdate (f : Evid → Evid) (s : State) : (upEv f s).pldmUpdate = s.pldmUpdate := rfl
@[simp] theorem upEv_fab (f : Evid → Evid) (s : State) : (upEv f s).fab = s.fab := rfl
@[simp] theorem upEv_nrx (f : Evid → Evid) (s : State) : (upEv f s).nrx = s.nrx := rfl
@[simp] theorem upEv_sc (f : Evid → Evid) (s : State) : (upEv f s).sc = s.sc := rfl
@[simp] theorem upEv_sic (f : Evid → Evid) (s : State) : (upEv f s).sic = s.sic := rfl
@[simp] theorem upEv_wdt (f : Evid → Evid) (s : State) : (upEv f s).wdt = s.wdt := rfl
@[simp] theorem upEv_aot (f : Evid → Evid) (s : State) : (upEv f s).aot = s.aot := rfl
@[simp] theorem upEv_dga (f : Evid → Evid) (s : State) : (upEv f s).dga = s.dga := rfl
@[simp] theorem upEv_sig0 (f : Evid → Evid) (s : State) : (upEv f s).sig0 = s.sig0 := rfl
@[simp] theorem upEv_sig1 (f : Evid → Evid) (s : State) : (upEv f s).sig1 = s.sig1 := rfl
@[simp] theorem upEv_kld (f : Evid → Evid) (s : State) : (upEv f s).kld = s.kld := rfl
@[simp] theorem upEv_pa (f : Evid → Evid) (s : State) : (upEv f s).pa = s.pa := rfl
@[simp] theorem upEv_mgtA (f : Evid → Evid) (s : State) : (upEv f s).mgtA = s.mgtA := rfl
@[simp] theorem upEv_mgtB (f : Evid → Evid) (s : State) : (upEv f s).mgtB = s.mgtB := rfl
@[simp] theorem upEv_mbxQueue (f : Evid → Evid) (s : State) : (upEv f s).mbxQueue = s.mbxQueue := rfl
@[simp] theorem upEv_cbus (f : Evid → Evid) (s : State) : (upEv f s).cbus = s.cbus := rfl
@[simp] theorem upEv_temp (f : Evid → Evid) (s : State) : (upEv f s).temp = s.temp := rfl
@[simp] theorem upEv_reply (f : Evid → Evid) (s : State) : (upEv f s).reply = s.reply := rfl
@[simp] theorem upEv_freeCtr (f : Evid → Evid) (s : State) : (upEv f s).freeCtr = s.freeCtr := rfl
@[simp] theorem upEv_pending (f : Evid → Evid) (s : State) : (upEv f s).pending = s.pending := rfl
@[simp] theorem upVault_mor (f : Vault → Vault) (s : State) : (upVault f s).mor = s.mor := rfl
@[simp] theorem upVault_otp (f : Vault → Vault) (s : State) : (upVault f s).otp = s.otp := rfl
@[simp] theorem upVault_ev (f : Vault → Vault) (s : State) : (upVault f s).ev = s.ev := rfl
@[simp] theorem upVault_vault (f : Vault → Vault) (s : State) : (upVault f s).vault = f s.vault := rfl
@[simp] theorem upVault_chans (f : Vault → Vault) (s : State) : (upVault f s).chans = s.chans := rfl
@[simp] theorem upVault_xip (f : Vault → Vault) (s : State) : (upVault f s).xip = s.xip := rfl
@[simp] theorem upVault_ports (f : Vault → Vault) (s : State) : (upVault f s).ports = s.ports := rfl
@[simp] theorem upVault_ems (f : Vault → Vault) (s : State) : (upVault f s).ems = s.ems := rfl
@[simp] theorem upVault_lake (f : Vault → Vault) (s : State) : (upVault f s).lake = s.lake := rfl
@[simp] theorem upVault_imgs (f : Vault → Vault) (s : State) : (upVault f s).imgs = s.imgs := rfl
@[simp] theorem upVault_activeHalf (f : Vault → Vault) (s : State) : (upVault f s).activeHalf = s.activeHalf := rfl
@[simp] theorem upVault_staged (f : Vault → Vault) (s : State) : (upVault f s).staged = s.staged := rfl
@[simp] theorem upVault_polFloor (f : Vault → Vault) (s : State) : (upVault f s).polFloor = s.polFloor := rfl
@[simp] theorem upVault_replay (f : Vault → Vault) (s : State) : (upVault f s).replay = s.replay := rfl
@[simp] theorem upVault_nextWriteId (f : Vault → Vault) (s : State) : (upVault f s).nextWriteId = s.nextWriteId := rfl
@[simp] theorem upVault_grant (f : Vault → Vault) (s : State) : (upVault f s).grant = s.grant := rfl
@[simp] theorem upVault_capsules (f : Vault → Vault) (s : State) : (upVault f s).capsules = s.capsules := rfl
@[simp] theorem upVault_cfg (f : Vault → Vault) (s : State) : (upVault f s).cfg = s.cfg := rfl
@[simp] theorem upVault_run (f : Vault → Vault) (s : State) : (upVault f s).run = s.run := rfl
@[simp] theorem upVault_pldmUpdate (f : Vault → Vault) (s : State) : (upVault f s).pldmUpdate = s.pldmUpdate := rfl
@[simp] theorem upVault_fab (f : Vault → Vault) (s : State) : (upVault f s).fab = s.fab := rfl
@[simp] theorem upVault_nrx (f : Vault → Vault) (s : State) : (upVault f s).nrx = s.nrx := rfl
@[simp] theorem upVault_sc (f : Vault → Vault) (s : State) : (upVault f s).sc = s.sc := rfl
@[simp] theorem upVault_sic (f : Vault → Vault) (s : State) : (upVault f s).sic = s.sic := rfl
@[simp] theorem upVault_wdt (f : Vault → Vault) (s : State) : (upVault f s).wdt = s.wdt := rfl
@[simp] theorem upVault_aot (f : Vault → Vault) (s : State) : (upVault f s).aot = s.aot := rfl
@[simp] theorem upVault_dga (f : Vault → Vault) (s : State) : (upVault f s).dga = s.dga := rfl
@[simp] theorem upVault_sig0 (f : Vault → Vault) (s : State) : (upVault f s).sig0 = s.sig0 := rfl
@[simp] theorem upVault_sig1 (f : Vault → Vault) (s : State) : (upVault f s).sig1 = s.sig1 := rfl
@[simp] theorem upVault_kld (f : Vault → Vault) (s : State) : (upVault f s).kld = s.kld := rfl
@[simp] theorem upVault_pa (f : Vault → Vault) (s : State) : (upVault f s).pa = s.pa := rfl
@[simp] theorem upVault_mgtA (f : Vault → Vault) (s : State) : (upVault f s).mgtA = s.mgtA := rfl
@[simp] theorem upVault_mgtB (f : Vault → Vault) (s : State) : (upVault f s).mgtB = s.mgtB := rfl
@[simp] theorem upVault_mbxQueue (f : Vault → Vault) (s : State) : (upVault f s).mbxQueue = s.mbxQueue := rfl
@[simp] theorem upVault_cbus (f : Vault → Vault) (s : State) : (upVault f s).cbus = s.cbus := rfl
@[simp] theorem upVault_temp (f : Vault → Vault) (s : State) : (upVault f s).temp = s.temp := rfl
@[simp] theorem upVault_reply (f : Vault → Vault) (s : State) : (upVault f s).reply = s.reply := rfl
@[simp] theorem upVault_freeCtr (f : Vault → Vault) (s : State) : (upVault f s).freeCtr = s.freeCtr := rfl
@[simp] theorem upVault_pending (f : Vault → Vault) (s : State) : (upVault f s).pending = s.pending := rfl
@[simp] theorem upChans_mor (f : (Tab Channel) → (Tab Channel)) (s : State) : (upChans f s).mor = s.mor := rfl
@[simp] theorem upChans_otp (f : (Tab Channel) → (Tab Channel)) (s : State) : (upChans f s).otp = s.otp := rfl
@[simp] theorem upChans_ev (f : (Tab Channel) → (Tab Channel)) (s : State) : (upChans f s).ev = s.ev := rfl
@[simp] theorem upChans_vault (f : (Tab Channel) → (Tab Channel)) (s : State) : (upChans f s).vault = s.vault := rfl
@[simp] theorem upChans_chans (f : (Tab Channel) → (Tab Channel)) (s : State) : (upChans f s).chans = f s.chans := rfl
@[simp] theorem upChans_xip (f : (Tab Channel) → (Tab Channel)) (s : State) : (upChans f s).xip = s.xip := rfl
@[simp] theorem upChans_ports (f : (Tab Channel) → (Tab Channel)) (s : State) : (upChans f s).ports = s.ports := rfl
@[simp] theorem upChans_ems (f : (Tab Channel) → (Tab Channel)) (s : State) : (upChans f s).ems = s.ems := rfl
@[simp] theorem upChans_lake (f : (Tab Channel) → (Tab Channel)) (s : State) : (upChans f s).lake = s.lake := rfl
@[simp] theorem upChans_imgs (f : (Tab Channel) → (Tab Channel)) (s : State) : (upChans f s).imgs = s.imgs := rfl
@[simp] theorem upChans_activeHalf (f : (Tab Channel) → (Tab Channel)) (s : State) : (upChans f s).activeHalf = s.activeHalf := rfl
@[simp] theorem upChans_staged (f : (Tab Channel) → (Tab Channel)) (s : State) : (upChans f s).staged = s.staged := rfl
@[simp] theorem upChans_polFloor (f : (Tab Channel) → (Tab Channel)) (s : State) : (upChans f s).polFloor = s.polFloor := rfl
@[simp] theorem upChans_replay (f : (Tab Channel) → (Tab Channel)) (s : State) : (upChans f s).replay = s.replay := rfl
@[simp] theorem upChans_nextWriteId (f : (Tab Channel) → (Tab Channel)) (s : State) : (upChans f s).nextWriteId = s.nextWriteId := rfl
@[simp] theorem upChans_grant (f : (Tab Channel) → (Tab Channel)) (s : State) : (upChans f s).grant = s.grant := rfl
@[simp] theorem upChans_capsules (f : (Tab Channel) → (Tab Channel)) (s : State) : (upChans f s).capsules = s.capsules := rfl
@[simp] theorem upChans_cfg (f : (Tab Channel) → (Tab Channel)) (s : State) : (upChans f s).cfg = s.cfg := rfl
@[simp] theorem upChans_run (f : (Tab Channel) → (Tab Channel)) (s : State) : (upChans f s).run = s.run := rfl
@[simp] theorem upChans_pldmUpdate (f : (Tab Channel) → (Tab Channel)) (s : State) : (upChans f s).pldmUpdate = s.pldmUpdate := rfl
@[simp] theorem upChans_fab (f : (Tab Channel) → (Tab Channel)) (s : State) : (upChans f s).fab = s.fab := rfl
@[simp] theorem upChans_nrx (f : (Tab Channel) → (Tab Channel)) (s : State) : (upChans f s).nrx = s.nrx := rfl
@[simp] theorem upChans_sc (f : (Tab Channel) → (Tab Channel)) (s : State) : (upChans f s).sc = s.sc := rfl
@[simp] theorem upChans_sic (f : (Tab Channel) → (Tab Channel)) (s : State) : (upChans f s).sic = s.sic := rfl
@[simp] theorem upChans_wdt (f : (Tab Channel) → (Tab Channel)) (s : State) : (upChans f s).wdt = s.wdt := rfl
@[simp] theorem upChans_aot (f : (Tab Channel) → (Tab Channel)) (s : State) : (upChans f s).aot = s.aot := rfl
@[simp] theorem upChans_dga (f : (Tab Channel) → (Tab Channel)) (s : State) : (upChans f s).dga = s.dga := rfl
@[simp] theorem upChans_sig0 (f : (Tab Channel) → (Tab Channel)) (s : State) : (upChans f s).sig0 = s.sig0 := rfl
@[simp] theorem upChans_sig1 (f : (Tab Channel) → (Tab Channel)) (s : State) : (upChans f s).sig1 = s.sig1 := rfl
@[simp] theorem upChans_kld (f : (Tab Channel) → (Tab Channel)) (s : State) : (upChans f s).kld = s.kld := rfl
@[simp] theorem upChans_pa (f : (Tab Channel) → (Tab Channel)) (s : State) : (upChans f s).pa = s.pa := rfl
@[simp] theorem upChans_mgtA (f : (Tab Channel) → (Tab Channel)) (s : State) : (upChans f s).mgtA = s.mgtA := rfl
@[simp] theorem upChans_mgtB (f : (Tab Channel) → (Tab Channel)) (s : State) : (upChans f s).mgtB = s.mgtB := rfl
@[simp] theorem upChans_mbxQueue (f : (Tab Channel) → (Tab Channel)) (s : State) : (upChans f s).mbxQueue = s.mbxQueue := rfl
@[simp] theorem upChans_cbus (f : (Tab Channel) → (Tab Channel)) (s : State) : (upChans f s).cbus = s.cbus := rfl
@[simp] theorem upChans_temp (f : (Tab Channel) → (Tab Channel)) (s : State) : (upChans f s).temp = s.temp := rfl
@[simp] theorem upChans_reply (f : (Tab Channel) → (Tab Channel)) (s : State) : (upChans f s).reply = s.reply := rfl
@[simp] theorem upChans_freeCtr (f : (Tab Channel) → (Tab Channel)) (s : State) : (upChans f s).freeCtr = s.freeCtr := rfl
@[simp] theorem upChans_pending (f : (Tab Channel) → (Tab Channel)) (s : State) : (upChans f s).pending = s.pending := rfl
@[simp] theorem upXip_mor (f : Xip → Xip) (s : State) : (upXip f s).mor = s.mor := rfl
@[simp] theorem upXip_otp (f : Xip → Xip) (s : State) : (upXip f s).otp = s.otp := rfl
@[simp] theorem upXip_ev (f : Xip → Xip) (s : State) : (upXip f s).ev = s.ev := rfl
@[simp] theorem upXip_vault (f : Xip → Xip) (s : State) : (upXip f s).vault = s.vault := rfl
@[simp] theorem upXip_chans (f : Xip → Xip) (s : State) : (upXip f s).chans = s.chans := rfl
@[simp] theorem upXip_xip (f : Xip → Xip) (s : State) : (upXip f s).xip = f s.xip := rfl
@[simp] theorem upXip_ports (f : Xip → Xip) (s : State) : (upXip f s).ports = s.ports := rfl
@[simp] theorem upXip_ems (f : Xip → Xip) (s : State) : (upXip f s).ems = s.ems := rfl
@[simp] theorem upXip_lake (f : Xip → Xip) (s : State) : (upXip f s).lake = s.lake := rfl
@[simp] theorem upXip_imgs (f : Xip → Xip) (s : State) : (upXip f s).imgs = s.imgs := rfl
@[simp] theorem upXip_activeHalf (f : Xip → Xip) (s : State) : (upXip f s).activeHalf = s.activeHalf := rfl
@[simp] theorem upXip_staged (f : Xip → Xip) (s : State) : (upXip f s).staged = s.staged := rfl
@[simp] theorem upXip_polFloor (f : Xip → Xip) (s : State) : (upXip f s).polFloor = s.polFloor := rfl
@[simp] theorem upXip_replay (f : Xip → Xip) (s : State) : (upXip f s).replay = s.replay := rfl
@[simp] theorem upXip_nextWriteId (f : Xip → Xip) (s : State) : (upXip f s).nextWriteId = s.nextWriteId := rfl
@[simp] theorem upXip_grant (f : Xip → Xip) (s : State) : (upXip f s).grant = s.grant := rfl
@[simp] theorem upXip_capsules (f : Xip → Xip) (s : State) : (upXip f s).capsules = s.capsules := rfl
@[simp] theorem upXip_cfg (f : Xip → Xip) (s : State) : (upXip f s).cfg = s.cfg := rfl
@[simp] theorem upXip_run (f : Xip → Xip) (s : State) : (upXip f s).run = s.run := rfl
@[simp] theorem upXip_pldmUpdate (f : Xip → Xip) (s : State) : (upXip f s).pldmUpdate = s.pldmUpdate := rfl
@[simp] theorem upXip_fab (f : Xip → Xip) (s : State) : (upXip f s).fab = s.fab := rfl
@[simp] theorem upXip_nrx (f : Xip → Xip) (s : State) : (upXip f s).nrx = s.nrx := rfl
@[simp] theorem upXip_sc (f : Xip → Xip) (s : State) : (upXip f s).sc = s.sc := rfl
@[simp] theorem upXip_sic (f : Xip → Xip) (s : State) : (upXip f s).sic = s.sic := rfl
@[simp] theorem upXip_wdt (f : Xip → Xip) (s : State) : (upXip f s).wdt = s.wdt := rfl
@[simp] theorem upXip_aot (f : Xip → Xip) (s : State) : (upXip f s).aot = s.aot := rfl
@[simp] theorem upXip_dga (f : Xip → Xip) (s : State) : (upXip f s).dga = s.dga := rfl
@[simp] theorem upXip_sig0 (f : Xip → Xip) (s : State) : (upXip f s).sig0 = s.sig0 := rfl
@[simp] theorem upXip_sig1 (f : Xip → Xip) (s : State) : (upXip f s).sig1 = s.sig1 := rfl
@[simp] theorem upXip_kld (f : Xip → Xip) (s : State) : (upXip f s).kld = s.kld := rfl
@[simp] theorem upXip_pa (f : Xip → Xip) (s : State) : (upXip f s).pa = s.pa := rfl
@[simp] theorem upXip_mgtA (f : Xip → Xip) (s : State) : (upXip f s).mgtA = s.mgtA := rfl
@[simp] theorem upXip_mgtB (f : Xip → Xip) (s : State) : (upXip f s).mgtB = s.mgtB := rfl
@[simp] theorem upXip_mbxQueue (f : Xip → Xip) (s : State) : (upXip f s).mbxQueue = s.mbxQueue := rfl
@[simp] theorem upXip_cbus (f : Xip → Xip) (s : State) : (upXip f s).cbus = s.cbus := rfl
@[simp] theorem upXip_temp (f : Xip → Xip) (s : State) : (upXip f s).temp = s.temp := rfl
@[simp] theorem upXip_reply (f : Xip → Xip) (s : State) : (upXip f s).reply = s.reply := rfl
@[simp] theorem upXip_freeCtr (f : Xip → Xip) (s : State) : (upXip f s).freeCtr = s.freeCtr := rfl
@[simp] theorem upXip_pending (f : Xip → Xip) (s : State) : (upXip f s).pending = s.pending := rfl
@[simp] theorem upPorts_mor (f : (Tab Port) → (Tab Port)) (s : State) : (upPorts f s).mor = s.mor := rfl
@[simp] theorem upPorts_otp (f : (Tab Port) → (Tab Port)) (s : State) : (upPorts f s).otp = s.otp := rfl
@[simp] theorem upPorts_ev (f : (Tab Port) → (Tab Port)) (s : State) : (upPorts f s).ev = s.ev := rfl
@[simp] theorem upPorts_vault (f : (Tab Port) → (Tab Port)) (s : State) : (upPorts f s).vault = s.vault := rfl
@[simp] theorem upPorts_chans (f : (Tab Port) → (Tab Port)) (s : State) : (upPorts f s).chans = s.chans := rfl
@[simp] theorem upPorts_xip (f : (Tab Port) → (Tab Port)) (s : State) : (upPorts f s).xip = s.xip := rfl
@[simp] theorem upPorts_ports (f : (Tab Port) → (Tab Port)) (s : State) : (upPorts f s).ports = f s.ports := rfl
@[simp] theorem upPorts_ems (f : (Tab Port) → (Tab Port)) (s : State) : (upPorts f s).ems = s.ems := rfl
@[simp] theorem upPorts_lake (f : (Tab Port) → (Tab Port)) (s : State) : (upPorts f s).lake = s.lake := rfl
@[simp] theorem upPorts_imgs (f : (Tab Port) → (Tab Port)) (s : State) : (upPorts f s).imgs = s.imgs := rfl
@[simp] theorem upPorts_activeHalf (f : (Tab Port) → (Tab Port)) (s : State) : (upPorts f s).activeHalf = s.activeHalf := rfl
@[simp] theorem upPorts_staged (f : (Tab Port) → (Tab Port)) (s : State) : (upPorts f s).staged = s.staged := rfl
@[simp] theorem upPorts_polFloor (f : (Tab Port) → (Tab Port)) (s : State) : (upPorts f s).polFloor = s.polFloor := rfl
@[simp] theorem upPorts_replay (f : (Tab Port) → (Tab Port)) (s : State) : (upPorts f s).replay = s.replay := rfl
@[simp] theorem upPorts_nextWriteId (f : (Tab Port) → (Tab Port)) (s : State) : (upPorts f s).nextWriteId = s.nextWriteId := rfl
@[simp] theorem upPorts_grant (f : (Tab Port) → (Tab Port)) (s : State) : (upPorts f s).grant = s.grant := rfl
@[simp] theorem upPorts_capsules (f : (Tab Port) → (Tab Port)) (s : State) : (upPorts f s).capsules = s.capsules := rfl
@[simp] theorem upPorts_cfg (f : (Tab Port) → (Tab Port)) (s : State) : (upPorts f s).cfg = s.cfg := rfl
@[simp] theorem upPorts_run (f : (Tab Port) → (Tab Port)) (s : State) : (upPorts f s).run = s.run := rfl
@[simp] theorem upPorts_pldmUpdate (f : (Tab Port) → (Tab Port)) (s : State) : (upPorts f s).pldmUpdate = s.pldmUpdate := rfl
@[simp] theorem upPorts_fab (f : (Tab Port) → (Tab Port)) (s : State) : (upPorts f s).fab = s.fab := rfl
@[simp] theorem upPorts_nrx (f : (Tab Port) → (Tab Port)) (s : State) : (upPorts f s).nrx = s.nrx := rfl
@[simp] theorem upPorts_sc (f : (Tab Port) → (Tab Port)) (s : State) : (upPorts f s).sc = s.sc := rfl
@[simp] theorem upPorts_sic (f : (Tab Port) → (Tab Port)) (s : State) : (upPorts f s).sic = s.sic := rfl
@[simp] theorem upPorts_wdt (f : (Tab Port) → (Tab Port)) (s : State) : (upPorts f s).wdt = s.wdt := rfl
@[simp] theorem upPorts_aot (f : (Tab Port) → (Tab Port)) (s : State) : (upPorts f s).aot = s.aot := rfl
@[simp] theorem upPorts_dga (f : (Tab Port) → (Tab Port)) (s : State) : (upPorts f s).dga = s.dga := rfl
@[simp] theorem upPorts_sig0 (f : (Tab Port) → (Tab Port)) (s : State) : (upPorts f s).sig0 = s.sig0 := rfl
@[simp] theorem upPorts_sig1 (f : (Tab Port) → (Tab Port)) (s : State) : (upPorts f s).sig1 = s.sig1 := rfl
@[simp] theorem upPorts_kld (f : (Tab Port) → (Tab Port)) (s : State) : (upPorts f s).kld = s.kld := rfl
@[simp] theorem upPorts_pa (f : (Tab Port) → (Tab Port)) (s : State) : (upPorts f s).pa = s.pa := rfl
@[simp] theorem upPorts_mgtA (f : (Tab Port) → (Tab Port)) (s : State) : (upPorts f s).mgtA = s.mgtA := rfl
@[simp] theorem upPorts_mgtB (f : (Tab Port) → (Tab Port)) (s : State) : (upPorts f s).mgtB = s.mgtB := rfl
@[simp] theorem upPorts_mbxQueue (f : (Tab Port) → (Tab Port)) (s : State) : (upPorts f s).mbxQueue = s.mbxQueue := rfl
@[simp] theorem upPorts_cbus (f : (Tab Port) → (Tab Port)) (s : State) : (upPorts f s).cbus = s.cbus := rfl
@[simp] theorem upPorts_temp (f : (Tab Port) → (Tab Port)) (s : State) : (upPorts f s).temp = s.temp := rfl
@[simp] theorem upPorts_reply (f : (Tab Port) → (Tab Port)) (s : State) : (upPorts f s).reply = s.reply := rfl
@[simp] theorem upPorts_freeCtr (f : (Tab Port) → (Tab Port)) (s : State) : (upPorts f s).freeCtr = s.freeCtr := rfl
@[simp] theorem upPorts_pending (f : (Tab Port) → (Tab Port)) (s : State) : (upPorts f s).pending = s.pending := rfl
@[simp] theorem upEms_mor (f : (Tab EmDev) → (Tab EmDev)) (s : State) : (upEms f s).mor = s.mor := rfl
@[simp] theorem upEms_otp (f : (Tab EmDev) → (Tab EmDev)) (s : State) : (upEms f s).otp = s.otp := rfl
@[simp] theorem upEms_ev (f : (Tab EmDev) → (Tab EmDev)) (s : State) : (upEms f s).ev = s.ev := rfl
@[simp] theorem upEms_vault (f : (Tab EmDev) → (Tab EmDev)) (s : State) : (upEms f s).vault = s.vault := rfl
@[simp] theorem upEms_chans (f : (Tab EmDev) → (Tab EmDev)) (s : State) : (upEms f s).chans = s.chans := rfl
@[simp] theorem upEms_xip (f : (Tab EmDev) → (Tab EmDev)) (s : State) : (upEms f s).xip = s.xip := rfl
@[simp] theorem upEms_ports (f : (Tab EmDev) → (Tab EmDev)) (s : State) : (upEms f s).ports = s.ports := rfl
@[simp] theorem upEms_ems (f : (Tab EmDev) → (Tab EmDev)) (s : State) : (upEms f s).ems = f s.ems := rfl
@[simp] theorem upEms_lake (f : (Tab EmDev) → (Tab EmDev)) (s : State) : (upEms f s).lake = s.lake := rfl
@[simp] theorem upEms_imgs (f : (Tab EmDev) → (Tab EmDev)) (s : State) : (upEms f s).imgs = s.imgs := rfl
@[simp] theorem upEms_activeHalf (f : (Tab EmDev) → (Tab EmDev)) (s : State) : (upEms f s).activeHalf = s.activeHalf := rfl
@[simp] theorem upEms_staged (f : (Tab EmDev) → (Tab EmDev)) (s : State) : (upEms f s).staged = s.staged := rfl
@[simp] theorem upEms_polFloor (f : (Tab EmDev) → (Tab EmDev)) (s : State) : (upEms f s).polFloor = s.polFloor := rfl
@[simp] theorem upEms_replay (f : (Tab EmDev) → (Tab EmDev)) (s : State) : (upEms f s).replay = s.replay := rfl
@[simp] theorem upEms_nextWriteId (f : (Tab EmDev) → (Tab EmDev)) (s : State) : (upEms f s).nextWriteId = s.nextWriteId := rfl
@[simp] theorem upEms_grant (f : (Tab EmDev) → (Tab EmDev)) (s : State) : (upEms f s).grant = s.grant := rfl
@[simp] theorem upEms_capsules (f : (Tab EmDev) → (Tab EmDev)) (s : State) : (upEms f s).capsules = s.capsules := rfl
@[simp] theorem upEms_cfg (f : (Tab EmDev) → (Tab EmDev)) (s : State) : (upEms f s).cfg = s.cfg := rfl
@[simp] theorem upEms_run (f : (Tab EmDev) → (Tab EmDev)) (s : State) : (upEms f s).run = s.run := rfl
@[simp] theorem upEms_pldmUpdate (f : (Tab EmDev) → (Tab EmDev)) (s : State) : (upEms f s).pldmUpdate = s.pldmUpdate := rfl
@[simp] theorem upEms_fab (f : (Tab EmDev) → (Tab EmDev)) (s : State) : (upEms f s).fab = s.fab := rfl
@[simp] theorem upEms_nrx (f : (Tab EmDev) → (Tab EmDev)) (s : State) : (upEms f s).nrx = s.nrx := rfl
@[simp] theorem upEms_sc (f : (Tab EmDev) → (Tab EmDev)) (s : State) : (upEms f s).sc = s.sc := rfl
@[simp] theorem upEms_sic (f : (Tab EmDev) → (Tab EmDev)) (s : State) : (upEms f s).sic = s.sic := rfl
@[simp] theorem upEms_wdt (f : (Tab EmDev) → (Tab EmDev)) (s : State) : (upEms f s).wdt = s.wdt := rfl
@[simp] theorem upEms_aot (f : (Tab EmDev) → (Tab EmDev)) (s : State) : (upEms f s).aot = s.aot := rfl
@[simp] theorem upEms_dga (f : (Tab EmDev) → (Tab EmDev)) (s : State) : (upEms f s).dga = s.dga := rfl
@[simp] theorem upEms_sig0 (f : (Tab EmDev) → (Tab EmDev)) (s : State) : (upEms f s).sig0 = s.sig0 := rfl
@[simp] theorem upEms_sig1 (f : (Tab EmDev) → (Tab EmDev)) (s : State) : (upEms f s).sig1 = s.sig1 := rfl
@[simp] theorem upEms_kld (f : (Tab EmDev) → (Tab EmDev)) (s : State) : (upEms f s).kld = s.kld := rfl
@[simp] theorem upEms_pa (f : (Tab EmDev) → (Tab EmDev)) (s : State) : (upEms f s).pa = s.pa := rfl
@[simp] theorem upEms_mgtA (f : (Tab EmDev) → (Tab EmDev)) (s : State) : (upEms f s).mgtA = s.mgtA := rfl
@[simp] theorem upEms_mgtB (f : (Tab EmDev) → (Tab EmDev)) (s : State) : (upEms f s).mgtB = s.mgtB := rfl
@[simp] theorem upEms_mbxQueue (f : (Tab EmDev) → (Tab EmDev)) (s : State) : (upEms f s).mbxQueue = s.mbxQueue := rfl
@[simp] theorem upEms_cbus (f : (Tab EmDev) → (Tab EmDev)) (s : State) : (upEms f s).cbus = s.cbus := rfl
@[simp] theorem upEms_temp (f : (Tab EmDev) → (Tab EmDev)) (s : State) : (upEms f s).temp = s.temp := rfl
@[simp] theorem upEms_reply (f : (Tab EmDev) → (Tab EmDev)) (s : State) : (upEms f s).reply = s.reply := rfl
@[simp] theorem upEms_freeCtr (f : (Tab EmDev) → (Tab EmDev)) (s : State) : (upEms f s).freeCtr = s.freeCtr := rfl
@[simp] theorem upEms_pending (f : (Tab EmDev) → (Tab EmDev)) (s : State) : (upEms f s).pending = s.pending := rfl
@[simp] theorem upLake_mor (f : Lake → Lake) (s : State) : (upLake f s).mor = s.mor := rfl
@[simp] theorem upLake_otp (f : Lake → Lake) (s : State) : (upLake f s).otp = s.otp := rfl
@[simp] theorem upLake_ev (f : Lake → Lake) (s : State) : (upLake f s).ev = s.ev := rfl
@[simp] theorem upLake_vault (f : Lake → Lake) (s : State) : (upLake f s).vault = s.vault := rfl
@[simp] theorem upLake_chans (f : Lake → Lake) (s : State) : (upLake f s).chans = s.chans := rfl
@[simp] theorem upLake_xip (f : Lake → Lake) (s : State) : (upLake f s).xip = s.xip := rfl
@[simp] theorem upLake_ports (f : Lake → Lake) (s : State) : (upLake f s).ports = s.ports := rfl
@[simp] theorem upLake_ems (f : Lake → Lake) (s : State) : (upLake f s).ems = s.ems := rfl
@[simp] theorem upLake_lake (f : Lake → Lake) (s : State) : (upLake f s).lake = f s.lake := rfl
@[simp] theorem upLake_imgs (f : Lake → Lake) (s : State) : (upLake f s).imgs = s.imgs := rfl
@[simp] theorem upLake_activeHalf (f : Lake → Lake) (s : State) : (upLake f s).activeHalf = s.activeHalf := rfl
@[simp] theorem upLake_staged (f : Lake → Lake) (s : State) : (upLake f s).staged = s.staged := rfl
@[simp] theorem upLake_polFloor (f : Lake → Lake) (s : State) : (upLake f s).polFloor = s.polFloor := rfl
@[simp] theorem upLake_replay (f : Lake → Lake) (s : State) : (upLake f s).replay = s.replay := rfl
@[simp] theorem upLake_nextWriteId (f : Lake → Lake) (s : State) : (upLake f s).nextWriteId = s.nextWriteId := rfl
@[simp] theorem upLake_grant (f : Lake → Lake) (s : State) : (upLake f s).grant = s.grant := rfl
@[simp] theorem upLake_capsules (f : Lake → Lake) (s : State) : (upLake f s).capsules = s.capsules := rfl
@[simp] theorem upLake_cfg (f : Lake → Lake) (s : State) : (upLake f s).cfg = s.cfg := rfl
@[simp] theorem upLake_run (f : Lake → Lake) (s : State) : (upLake f s).run = s.run := rfl
@[simp] theorem upLake_pldmUpdate (f : Lake → Lake) (s : State) : (upLake f s).pldmUpdate = s.pldmUpdate := rfl
@[simp] theorem upLake_fab (f : Lake → Lake) (s : State) : (upLake f s).fab = s.fab := rfl
@[simp] theorem upLake_nrx (f : Lake → Lake) (s : State) : (upLake f s).nrx = s.nrx := rfl
@[simp] theorem upLake_sc (f : Lake → Lake) (s : State) : (upLake f s).sc = s.sc := rfl
@[simp] theorem upLake_sic (f : Lake → Lake) (s : State) : (upLake f s).sic = s.sic := rfl
@[simp] theorem upLake_wdt (f : Lake → Lake) (s : State) : (upLake f s).wdt = s.wdt := rfl
@[simp] theorem upLake_aot (f : Lake → Lake) (s : State) : (upLake f s).aot = s.aot := rfl
@[simp] theorem upLake_dga (f : Lake → Lake) (s : State) : (upLake f s).dga = s.dga := rfl
@[simp] theorem upLake_sig0 (f : Lake → Lake) (s : State) : (upLake f s).sig0 = s.sig0 := rfl
@[simp] theorem upLake_sig1 (f : Lake → Lake) (s : State) : (upLake f s).sig1 = s.sig1 := rfl
@[simp] theorem upLake_kld (f : Lake → Lake) (s : State) : (upLake f s).kld = s.kld := rfl
@[simp] theorem upLake_pa (f : Lake → Lake) (s : State) : (upLake f s).pa = s.pa := rfl
@[simp] theorem upLake_mgtA (f : Lake → Lake) (s : State) : (upLake f s).mgtA = s.mgtA := rfl
@[simp] theorem upLake_mgtB (f : Lake → Lake) (s : State) : (upLake f s).mgtB = s.mgtB := rfl
@[simp] theorem upLake_mbxQueue (f : Lake → Lake) (s : State) : (upLake f s).mbxQueue = s.mbxQueue := rfl
@[simp] theorem upLake_cbus (f : Lake → Lake) (s : State) : (upLake f s).cbus = s.cbus := rfl
@[simp] theorem upLake_temp (f : Lake → Lake) (s : State) : (upLake f s).temp = s.temp := rfl
@[simp] theorem upLake_reply (f : Lake → Lake) (s : State) : (upLake f s).reply = s.reply := rfl
@[simp] theorem upLake_freeCtr (f : Lake → Lake) (s : State) : (upLake f s).freeCtr = s.freeCtr := rfl
@[simp] theorem upLake_pending (f : Lake → Lake) (s : State) : (upLake f s).pending = s.pending := rfl
@[simp] theorem upImgs_mor (f : (Tab Img) → (Tab Img)) (s : State) : (upImgs f s).mor = s.mor := rfl
@[simp] theorem upImgs_otp (f : (Tab Img) → (Tab Img)) (s : State) : (upImgs f s).otp = s.otp := rfl
@[simp] theorem upImgs_ev (f : (Tab Img) → (Tab Img)) (s : State) : (upImgs f s).ev = s.ev := rfl
@[simp] theorem upImgs_vault (f : (Tab Img) → (Tab Img)) (s : State) : (upImgs f s).vault = s.vault := rfl
@[simp] theorem upImgs_chans (f : (Tab Img) → (Tab Img)) (s : State) : (upImgs f s).chans = s.chans := rfl
@[simp] theorem upImgs_xip (f : (Tab Img) → (Tab Img)) (s : State) : (upImgs f s).xip = s.xip := rfl
@[simp] theorem upImgs_ports (f : (Tab Img) → (Tab Img)) (s : State) : (upImgs f s).ports = s.ports := rfl
@[simp] theorem upImgs_ems (f : (Tab Img) → (Tab Img)) (s : State) : (upImgs f s).ems = s.ems := rfl
@[simp] theorem upImgs_lake (f : (Tab Img) → (Tab Img)) (s : State) : (upImgs f s).lake = s.lake := rfl
@[simp] theorem upImgs_imgs (f : (Tab Img) → (Tab Img)) (s : State) : (upImgs f s).imgs = f s.imgs := rfl
@[simp] theorem upImgs_activeHalf (f : (Tab Img) → (Tab Img)) (s : State) : (upImgs f s).activeHalf = s.activeHalf := rfl
@[simp] theorem upImgs_staged (f : (Tab Img) → (Tab Img)) (s : State) : (upImgs f s).staged = s.staged := rfl
@[simp] theorem upImgs_polFloor (f : (Tab Img) → (Tab Img)) (s : State) : (upImgs f s).polFloor = s.polFloor := rfl
@[simp] theorem upImgs_replay (f : (Tab Img) → (Tab Img)) (s : State) : (upImgs f s).replay = s.replay := rfl
@[simp] theorem upImgs_nextWriteId (f : (Tab Img) → (Tab Img)) (s : State) : (upImgs f s).nextWriteId = s.nextWriteId := rfl
@[simp] theorem upImgs_grant (f : (Tab Img) → (Tab Img)) (s : State) : (upImgs f s).grant = s.grant := rfl
@[simp] theorem upImgs_capsules (f : (Tab Img) → (Tab Img)) (s : State) : (upImgs f s).capsules = s.capsules := rfl
@[simp] theorem upImgs_cfg (f : (Tab Img) → (Tab Img)) (s : State) : (upImgs f s).cfg = s.cfg := rfl
@[simp] theorem upImgs_run (f : (Tab Img) → (Tab Img)) (s : State) : (upImgs f s).run = s.run := rfl
@[simp] theorem upImgs_pldmUpdate (f : (Tab Img) → (Tab Img)) (s : State) : (upImgs f s).pldmUpdate = s.pldmUpdate := rfl
@[simp] theorem upImgs_fab (f : (Tab Img) → (Tab Img)) (s : State) : (upImgs f s).fab = s.fab := rfl
@[simp] theorem upImgs_nrx (f : (Tab Img) → (Tab Img)) (s : State) : (upImgs f s).nrx = s.nrx := rfl
@[simp] theorem upImgs_sc (f : (Tab Img) → (Tab Img)) (s : State) : (upImgs f s).sc = s.sc := rfl
@[simp] theorem upImgs_sic (f : (Tab Img) → (Tab Img)) (s : State) : (upImgs f s).sic = s.sic := rfl
@[simp] theorem upImgs_wdt (f : (Tab Img) → (Tab Img)) (s : State) : (upImgs f s).wdt = s.wdt := rfl
@[simp] theorem upImgs_aot (f : (Tab Img) → (Tab Img)) (s : State) : (upImgs f s).aot = s.aot := rfl
@[simp] theorem upImgs_dga (f : (Tab Img) → (Tab Img)) (s : State) : (upImgs f s).dga = s.dga := rfl
@[simp] theorem upImgs_sig0 (f : (Tab Img) → (Tab Img)) (s : State) : (upImgs f s).sig0 = s.sig0 := rfl
@[simp] theorem upImgs_sig1 (f : (Tab Img) → (Tab Img)) (s : State) : (upImgs f s).sig1 = s.sig1 := rfl
@[simp] theorem upImgs_kld (f : (Tab Img) → (Tab Img)) (s : State) : (upImgs f s).kld = s.kld := rfl
@[simp] theorem upImgs_pa (f : (Tab Img) → (Tab Img)) (s : State) : (upImgs f s).pa = s.pa := rfl
@[simp] theorem upImgs_mgtA (f : (Tab Img) → (Tab Img)) (s : State) : (upImgs f s).mgtA = s.mgtA := rfl
@[simp] theorem upImgs_mgtB (f : (Tab Img) → (Tab Img)) (s : State) : (upImgs f s).mgtB = s.mgtB := rfl
@[simp] theorem upImgs_mbxQueue (f : (Tab Img) → (Tab Img)) (s : State) : (upImgs f s).mbxQueue = s.mbxQueue := rfl
@[simp] theorem upImgs_cbus (f : (Tab Img) → (Tab Img)) (s : State) : (upImgs f s).cbus = s.cbus := rfl
@[simp] theorem upImgs_temp (f : (Tab Img) → (Tab Img)) (s : State) : (upImgs f s).temp = s.temp := rfl
@[simp] theorem upImgs_reply (f : (Tab Img) → (Tab Img)) (s : State) : (upImgs f s).reply = s.reply := rfl
@[simp] theorem upImgs_freeCtr (f : (Tab Img) → (Tab Img)) (s : State) : (upImgs f s).freeCtr = s.freeCtr := rfl
@[simp] theorem upImgs_pending (f : (Tab Img) → (Tab Img)) (s : State) : (upImgs f s).pending = s.pending := rfl
@[simp] theorem upFab_mor (f : Fabric → Fabric) (s : State) : (upFab f s).mor = s.mor := rfl
@[simp] theorem upFab_otp (f : Fabric → Fabric) (s : State) : (upFab f s).otp = s.otp := rfl
@[simp] theorem upFab_ev (f : Fabric → Fabric) (s : State) : (upFab f s).ev = s.ev := rfl
@[simp] theorem upFab_vault (f : Fabric → Fabric) (s : State) : (upFab f s).vault = s.vault := rfl
@[simp] theorem upFab_chans (f : Fabric → Fabric) (s : State) : (upFab f s).chans = s.chans := rfl
@[simp] theorem upFab_xip (f : Fabric → Fabric) (s : State) : (upFab f s).xip = s.xip := rfl
@[simp] theorem upFab_ports (f : Fabric → Fabric) (s : State) : (upFab f s).ports = s.ports := rfl
@[simp] theorem upFab_ems (f : Fabric → Fabric) (s : State) : (upFab f s).ems = s.ems := rfl
@[simp] theorem upFab_lake (f : Fabric → Fabric) (s : State) : (upFab f s).lake = s.lake := rfl
@[simp] theorem upFab_imgs (f : Fabric → Fabric) (s : State) : (upFab f s).imgs = s.imgs := rfl
@[simp] theorem upFab_activeHalf (f : Fabric → Fabric) (s : State) : (upFab f s).activeHalf = s.activeHalf := rfl
@[simp] theorem upFab_staged (f : Fabric → Fabric) (s : State) : (upFab f s).staged = s.staged := rfl
@[simp] theorem upFab_polFloor (f : Fabric → Fabric) (s : State) : (upFab f s).polFloor = s.polFloor := rfl
@[simp] theorem upFab_replay (f : Fabric → Fabric) (s : State) : (upFab f s).replay = s.replay := rfl
@[simp] theorem upFab_nextWriteId (f : Fabric → Fabric) (s : State) : (upFab f s).nextWriteId = s.nextWriteId := rfl
@[simp] theorem upFab_grant (f : Fabric → Fabric) (s : State) : (upFab f s).grant = s.grant := rfl
@[simp] theorem upFab_capsules (f : Fabric → Fabric) (s : State) : (upFab f s).capsules = s.capsules := rfl
@[simp] theorem upFab_cfg (f : Fabric → Fabric) (s : State) : (upFab f s).cfg = s.cfg := rfl
@[simp] theorem upFab_run (f : Fabric → Fabric) (s : State) : (upFab f s).run = s.run := rfl
@[simp] theorem upFab_pldmUpdate (f : Fabric → Fabric) (s : State) : (upFab f s).pldmUpdate = s.pldmUpdate := rfl
@[simp] theorem upFab_fab (f : Fabric → Fabric) (s : State) : (upFab f s).fab = f s.fab := rfl
@[simp] theorem upFab_nrx (f : Fabric → Fabric) (s : State) : (upFab f s).nrx = s.nrx := rfl
@[simp] theorem upFab_sc (f : Fabric → Fabric) (s : State) : (upFab f s).sc = s.sc := rfl
@[simp] theorem upFab_sic (f : Fabric → Fabric) (s : State) : (upFab f s).sic = s.sic := rfl
@[simp] theorem upFab_wdt (f : Fabric → Fabric) (s : State) : (upFab f s).wdt = s.wdt := rfl
@[simp] theorem upFab_aot (f : Fabric → Fabric) (s : State) : (upFab f s).aot = s.aot := rfl
@[simp] theorem upFab_dga (f : Fabric → Fabric) (s : State) : (upFab f s).dga = s.dga := rfl
@[simp] theorem upFab_sig0 (f : Fabric → Fabric) (s : State) : (upFab f s).sig0 = s.sig0 := rfl
@[simp] theorem upFab_sig1 (f : Fabric → Fabric) (s : State) : (upFab f s).sig1 = s.sig1 := rfl
@[simp] theorem upFab_kld (f : Fabric → Fabric) (s : State) : (upFab f s).kld = s.kld := rfl
@[simp] theorem upFab_pa (f : Fabric → Fabric) (s : State) : (upFab f s).pa = s.pa := rfl
@[simp] theorem upFab_mgtA (f : Fabric → Fabric) (s : State) : (upFab f s).mgtA = s.mgtA := rfl
@[simp] theorem upFab_mgtB (f : Fabric → Fabric) (s : State) : (upFab f s).mgtB = s.mgtB := rfl
@[simp] theorem upFab_mbxQueue (f : Fabric → Fabric) (s : State) : (upFab f s).mbxQueue = s.mbxQueue := rfl
@[simp] theorem upFab_cbus (f : Fabric → Fabric) (s : State) : (upFab f s).cbus = s.cbus := rfl
@[simp] theorem upFab_temp (f : Fabric → Fabric) (s : State) : (upFab f s).temp = s.temp := rfl
@[simp] theorem upFab_reply (f : Fabric → Fabric) (s : State) : (upFab f s).reply = s.reply := rfl
@[simp] theorem upFab_freeCtr (f : Fabric → Fabric) (s : State) : (upFab f s).freeCtr = s.freeCtr := rfl
@[simp] theorem upFab_pending (f : Fabric → Fabric) (s : State) : (upFab f s).pending = s.pending := rfl
@[simp] theorem upNrx_mor (f : Rings → Rings) (s : State) : (upNrx f s).mor = s.mor := rfl
@[simp] theorem upNrx_otp (f : Rings → Rings) (s : State) : (upNrx f s).otp = s.otp := rfl
@[simp] theorem upNrx_ev (f : Rings → Rings) (s : State) : (upNrx f s).ev = s.ev := rfl
@[simp] theorem upNrx_vault (f : Rings → Rings) (s : State) : (upNrx f s).vault = s.vault := rfl
@[simp] theorem upNrx_chans (f : Rings → Rings) (s : State) : (upNrx f s).chans = s.chans := rfl
@[simp] theorem upNrx_xip (f : Rings → Rings) (s : State) : (upNrx f s).xip = s.xip := rfl
@[simp] theorem upNrx_ports (f : Rings → Rings) (s : State) : (upNrx f s).ports = s.ports := rfl
@[simp] theorem upNrx_ems (f : Rings → Rings) (s : State) : (upNrx f s).ems = s.ems := rfl
@[simp] theorem upNrx_lake (f : Rings → Rings) (s : State) : (upNrx f s).lake = s.lake := rfl
@[simp] theorem upNrx_imgs (f : Rings → Rings) (s : State) : (upNrx f s).imgs = s.imgs := rfl
@[simp] theorem upNrx_activeHalf (f : Rings → Rings) (s : State) : (upNrx f s).activeHalf = s.activeHalf := rfl
@[simp] theorem upNrx_staged (f : Rings → Rings) (s : State) : (upNrx f s).staged = s.staged := rfl
@[simp] theorem upNrx_polFloor (f : Rings → Rings) (s : State) : (upNrx f s).polFloor = s.polFloor := rfl
@[simp] theorem upNrx_replay (f : Rings → Rings) (s : State) : (upNrx f s).replay = s.replay := rfl
@[simp] theorem upNrx_nextWriteId (f : Rings → Rings) (s : State) : (upNrx f s).nextWriteId = s.nextWriteId := rfl
@[simp] theorem upNrx_grant (f : Rings → Rings) (s : State) : (upNrx f s).grant = s.grant := rfl
@[simp] theorem upNrx_capsules (f : Rings → Rings) (s : State) : (upNrx f s).capsules = s.capsules := rfl
@[simp] theorem upNrx_cfg (f : Rings → Rings) (s : State) : (upNrx f s).cfg = s.cfg := rfl
@[simp] theorem upNrx_run (f : Rings → Rings) (s : State) : (upNrx f s).run = s.run := rfl
@[simp] theorem upNrx_pldmUpdate (f : Rings → Rings) (s : State) : (upNrx f s).pldmUpdate = s.pldmUpdate := rfl
@[simp] theorem upNrx_fab (f : Rings → Rings) (s : State) : (upNrx f s).fab = s.fab := rfl
@[simp] theorem upNrx_nrx (f : Rings → Rings) (s : State) : (upNrx f s).nrx = f s.nrx := rfl
@[simp] theorem upNrx_sc (f : Rings → Rings) (s : State) : (upNrx f s).sc = s.sc := rfl
@[simp] theorem upNrx_sic (f : Rings → Rings) (s : State) : (upNrx f s).sic = s.sic := rfl
@[simp] theorem upNrx_wdt (f : Rings → Rings) (s : State) : (upNrx f s).wdt = s.wdt := rfl
@[simp] theorem upNrx_aot (f : Rings → Rings) (s : State) : (upNrx f s).aot = s.aot := rfl
@[simp] theorem upNrx_dga (f : Rings → Rings) (s : State) : (upNrx f s).dga = s.dga := rfl
@[simp] theorem upNrx_sig0 (f : Rings → Rings) (s : State) : (upNrx f s).sig0 = s.sig0 := rfl
@[simp] theorem upNrx_sig1 (f : Rings → Rings) (s : State) : (upNrx f s).sig1 = s.sig1 := rfl
@[simp] theorem upNrx_kld (f : Rings → Rings) (s : State) : (upNrx f s).kld = s.kld := rfl
@[simp] theorem upNrx_pa (f : Rings → Rings) (s : State) : (upNrx f s).pa = s.pa := rfl
@[simp] theorem upNrx_mgtA (f : Rings → Rings) (s : State) : (upNrx f s).mgtA = s.mgtA := rfl
@[simp] theorem upNrx_mgtB (f : Rings → Rings) (s : State) : (upNrx f s).mgtB = s.mgtB := rfl
@[simp] theorem upNrx_mbxQueue (f : Rings → Rings) (s : State) : (upNrx f s).mbxQueue = s.mbxQueue := rfl
@[simp] theorem upNrx_cbus (f : Rings → Rings) (s : State) : (upNrx f s).cbus = s.cbus := rfl
@[simp] theorem upNrx_temp (f : Rings → Rings) (s : State) : (upNrx f s).temp = s.temp := rfl
@[simp] theorem upNrx_reply (f : Rings → Rings) (s : State) : (upNrx f s).reply = s.reply := rfl
@[simp] theorem upNrx_freeCtr (f : Rings → Rings) (s : State) : (upNrx f s).freeCtr = s.freeCtr := rfl
@[simp] theorem upNrx_pending (f : Rings → Rings) (s : State) : (upNrx f s).pending = s.pending := rfl
@[simp] theorem upSc_mor (f : Sc → Sc) (s : State) : (upSc f s).mor = s.mor := rfl
@[simp] theorem upSc_otp (f : Sc → Sc) (s : State) : (upSc f s).otp = s.otp := rfl
@[simp] theorem upSc_ev (f : Sc → Sc) (s : State) : (upSc f s).ev = s.ev := rfl
@[simp] theorem upSc_vault (f : Sc → Sc) (s : State) : (upSc f s).vault = s.vault := rfl
@[simp] theorem upSc_chans (f : Sc → Sc) (s : State) : (upSc f s).chans = s.chans := rfl
@[simp] theorem upSc_xip (f : Sc → Sc) (s : State) : (upSc f s).xip = s.xip := rfl
@[simp] theorem upSc_ports (f : Sc → Sc) (s : State) : (upSc f s).ports = s.ports := rfl
@[simp] theorem upSc_ems (f : Sc → Sc) (s : State) : (upSc f s).ems = s.ems := rfl
@[simp] theorem upSc_lake (f : Sc → Sc) (s : State) : (upSc f s).lake = s.lake := rfl
@[simp] theorem upSc_imgs (f : Sc → Sc) (s : State) : (upSc f s).imgs = s.imgs := rfl
@[simp] theorem upSc_activeHalf (f : Sc → Sc) (s : State) : (upSc f s).activeHalf = s.activeHalf := rfl
@[simp] theorem upSc_staged (f : Sc → Sc) (s : State) : (upSc f s).staged = s.staged := rfl
@[simp] theorem upSc_polFloor (f : Sc → Sc) (s : State) : (upSc f s).polFloor = s.polFloor := rfl
@[simp] theorem upSc_replay (f : Sc → Sc) (s : State) : (upSc f s).replay = s.replay := rfl
@[simp] theorem upSc_nextWriteId (f : Sc → Sc) (s : State) : (upSc f s).nextWriteId = s.nextWriteId := rfl
@[simp] theorem upSc_grant (f : Sc → Sc) (s : State) : (upSc f s).grant = s.grant := rfl
@[simp] theorem upSc_capsules (f : Sc → Sc) (s : State) : (upSc f s).capsules = s.capsules := rfl
@[simp] theorem upSc_cfg (f : Sc → Sc) (s : State) : (upSc f s).cfg = s.cfg := rfl
@[simp] theorem upSc_run (f : Sc → Sc) (s : State) : (upSc f s).run = s.run := rfl
@[simp] theorem upSc_pldmUpdate (f : Sc → Sc) (s : State) : (upSc f s).pldmUpdate = s.pldmUpdate := rfl
@[simp] theorem upSc_fab (f : Sc → Sc) (s : State) : (upSc f s).fab = s.fab := rfl
@[simp] theorem upSc_nrx (f : Sc → Sc) (s : State) : (upSc f s).nrx = s.nrx := rfl
@[simp] theorem upSc_sc (f : Sc → Sc) (s : State) : (upSc f s).sc = f s.sc := rfl
@[simp] theorem upSc_sic (f : Sc → Sc) (s : State) : (upSc f s).sic = s.sic := rfl
@[simp] theorem upSc_wdt (f : Sc → Sc) (s : State) : (upSc f s).wdt = s.wdt := rfl
@[simp] theorem upSc_aot (f : Sc → Sc) (s : State) : (upSc f s).aot = s.aot := rfl
@[simp] theorem upSc_dga (f : Sc → Sc) (s : State) : (upSc f s).dga = s.dga := rfl
@[simp] theorem upSc_sig0 (f : Sc → Sc) (s : State) : (upSc f s).sig0 = s.sig0 := rfl
@[simp] theorem upSc_sig1 (f : Sc → Sc) (s : State) : (upSc f s).sig1 = s.sig1 := rfl
@[simp] theorem upSc_kld (f : Sc → Sc) (s : State) : (upSc f s).kld = s.kld := rfl
@[simp] theorem upSc_pa (f : Sc → Sc) (s : State) : (upSc f s).pa = s.pa := rfl
@[simp] theorem upSc_mgtA (f : Sc → Sc) (s : State) : (upSc f s).mgtA = s.mgtA := rfl
@[simp] theorem upSc_mgtB (f : Sc → Sc) (s : State) : (upSc f s).mgtB = s.mgtB := rfl
@[simp] theorem upSc_mbxQueue (f : Sc → Sc) (s : State) : (upSc f s).mbxQueue = s.mbxQueue := rfl
@[simp] theorem upSc_cbus (f : Sc → Sc) (s : State) : (upSc f s).cbus = s.cbus := rfl
@[simp] theorem upSc_temp (f : Sc → Sc) (s : State) : (upSc f s).temp = s.temp := rfl
@[simp] theorem upSc_reply (f : Sc → Sc) (s : State) : (upSc f s).reply = s.reply := rfl
@[simp] theorem upSc_freeCtr (f : Sc → Sc) (s : State) : (upSc f s).freeCtr = s.freeCtr := rfl
@[simp] theorem upSc_pending (f : Sc → Sc) (s : State) : (upSc f s).pending = s.pending := rfl
@[simp] theorem upSic_mor (f : Sic → Sic) (s : State) : (upSic f s).mor = s.mor := rfl
@[simp] theorem upSic_otp (f : Sic → Sic) (s : State) : (upSic f s).otp = s.otp := rfl
@[simp] theorem upSic_ev (f : Sic → Sic) (s : State) : (upSic f s).ev = s.ev := rfl
@[simp] theorem upSic_vault (f : Sic → Sic) (s : State) : (upSic f s).vault = s.vault := rfl
@[simp] theorem upSic_chans (f : Sic → Sic) (s : State) : (upSic f s).chans = s.chans := rfl
@[simp] theorem upSic_xip (f : Sic → Sic) (s : State) : (upSic f s).xip = s.xip := rfl
@[simp] theorem upSic_ports (f : Sic → Sic) (s : State) : (upSic f s).ports = s.ports := rfl
@[simp] theorem upSic_ems (f : Sic → Sic) (s : State) : (upSic f s).ems = s.ems := rfl
@[simp] theorem upSic_lake (f : Sic → Sic) (s : State) : (upSic f s).lake = s.lake := rfl
@[simp] theorem upSic_imgs (f : Sic → Sic) (s : State) : (upSic f s).imgs = s.imgs := rfl
@[simp] theorem upSic_activeHalf (f : Sic → Sic) (s : State) : (upSic f s).activeHalf = s.activeHalf := rfl
@[simp] theorem upSic_staged (f : Sic → Sic) (s : State) : (upSic f s).staged = s.staged := rfl
@[simp] theorem upSic_polFloor (f : Sic → Sic) (s : State) : (upSic f s).polFloor = s.polFloor := rfl
@[simp] theorem upSic_replay (f : Sic → Sic) (s : State) : (upSic f s).replay = s.replay := rfl
@[simp] theorem upSic_nextWriteId (f : Sic → Sic) (s : State) : (upSic f s).nextWriteId = s.nextWriteId := rfl
@[simp] theorem upSic_grant (f : Sic → Sic) (s : State) : (upSic f s).grant = s.grant := rfl
@[simp] theorem upSic_capsules (f : Sic → Sic) (s : State) : (upSic f s).capsules = s.capsules := rfl
@[simp] theorem upSic_cfg (f : Sic → Sic) (s : State) : (upSic f s).cfg = s.cfg := rfl
@[simp] theorem upSic_run (f : Sic → Sic) (s : State) : (upSic f s).run = s.run := rfl
@[simp] theorem upSic_pldmUpdate (f : Sic → Sic) (s : State) : (upSic f s).pldmUpdate = s.pldmUpdate := rfl
@[simp] theorem upSic_fab (f : Sic → Sic) (s : State) : (upSic f s).fab = s.fab := rfl
@[simp] theorem upSic_nrx (f : Sic → Sic) (s : State) : (upSic f s).nrx = s.nrx := rfl
@[simp] theorem upSic_sc (f : Sic → Sic) (s : State) : (upSic f s).sc = s.sc := rfl
@[simp] theorem upSic_sic (f : Sic → Sic) (s : State) : (upSic f s).sic = f s.sic := rfl
@[simp] theorem upSic_wdt (f : Sic → Sic) (s : State) : (upSic f s).wdt = s.wdt := rfl
@[simp] theorem upSic_aot (f : Sic → Sic) (s : State) : (upSic f s).aot = s.aot := rfl
@[simp] theorem upSic_dga (f : Sic → Sic) (s : State) : (upSic f s).dga = s.dga := rfl
@[simp] theorem upSic_sig0 (f : Sic → Sic) (s : State) : (upSic f s).sig0 = s.sig0 := rfl
@[simp] theorem upSic_sig1 (f : Sic → Sic) (s : State) : (upSic f s).sig1 = s.sig1 := rfl
@[simp] theorem upSic_kld (f : Sic → Sic) (s : State) : (upSic f s).kld = s.kld := rfl
@[simp] theorem upSic_pa (f : Sic → Sic) (s : State) : (upSic f s).pa = s.pa := rfl
@[simp] theorem upSic_mgtA (f : Sic → Sic) (s : State) : (upSic f s).mgtA = s.mgtA := rfl
@[simp] theorem upSic_mgtB (f : Sic → Sic) (s : State) : (upSic f s).mgtB = s.mgtB := rfl
@[simp] theorem upSic_mbxQueue (f : Sic → Sic) (s : State) : (upSic f s).mbxQueue = s.mbxQueue := rfl
@[simp] theorem upSic_cbus (f : Sic → Sic) (s : State) : (upSic f s).cbus = s.cbus := rfl
@[simp] theorem upSic_temp (f : Sic → Sic) (s : State) : (upSic f s).temp = s.temp := rfl
@[simp] theorem upSic_reply (f : Sic → Sic) (s : State) : (upSic f s).reply = s.reply := rfl
@[simp] theorem upSic_freeCtr (f : Sic → Sic) (s : State) : (upSic f s).freeCtr = s.freeCtr := rfl
@[simp] theorem upSic_pending (f : Sic → Sic) (s : State) : (upSic f s).pending = s.pending := rfl
@[simp] theorem upWdt_mor (f : Wdt → Wdt) (s : State) : (upWdt f s).mor = s.mor := rfl
@[simp] theorem upWdt_otp (f : Wdt → Wdt) (s : State) : (upWdt f s).otp = s.otp := rfl
@[simp] theorem upWdt_ev (f : Wdt → Wdt) (s : State) : (upWdt f s).ev = s.ev := rfl
@[simp] theorem upWdt_vault (f : Wdt → Wdt) (s : State) : (upWdt f s).vault = s.vault := rfl
@[simp] theorem upWdt_chans (f : Wdt → Wdt) (s : State) : (upWdt f s).chans = s.chans := rfl
@[simp] theorem upWdt_xip (f : Wdt → Wdt) (s : State) : (upWdt f s).xip = s.xip := rfl
@[simp] theorem upWdt_ports (f : Wdt → Wdt) (s : State) : (upWdt f s).ports = s.ports := rfl
@[simp] theorem upWdt_ems (f : Wdt → Wdt) (s : State) : (upWdt f s).ems = s.ems := rfl
@[simp] theorem upWdt_lake (f : Wdt → Wdt) (s : State) : (upWdt f s).lake = s.lake := rfl
@[simp] theorem upWdt_imgs (f : Wdt → Wdt) (s : State) : (upWdt f s).imgs = s.imgs := rfl
@[simp] theorem upWdt_activeHalf (f : Wdt → Wdt) (s : State) : (upWdt f s).activeHalf = s.activeHalf := rfl
@[simp] theorem upWdt_staged (f : Wdt → Wdt) (s : State) : (upWdt f s).staged = s.staged := rfl
@[simp] theorem upWdt_polFloor (f : Wdt → Wdt) (s : State) : (upWdt f s).polFloor = s.polFloor := rfl
@[simp] theorem upWdt_replay (f : Wdt → Wdt) (s : State) : (upWdt f s).replay = s.replay := rfl
@[simp] theorem upWdt_nextWriteId (f : Wdt → Wdt) (s : State) : (upWdt f s).nextWriteId = s.nextWriteId := rfl
@[simp] theorem upWdt_grant (f : Wdt → Wdt) (s : State) : (upWdt f s).grant = s.grant := rfl
@[simp] theorem upWdt_capsules (f : Wdt → Wdt) (s : State) : (upWdt f s).capsules = s.capsules := rfl
@[simp] theorem upWdt_cfg (f : Wdt → Wdt) (s : State) : (upWdt f s).cfg = s.cfg := rfl
@[simp] theorem upWdt_run (f : Wdt → Wdt) (s : State) : (upWdt f s).run = s.run := rfl
@[simp] theorem upWdt_pldmUpdate (f : Wdt → Wdt) (s : State) : (upWdt f s).pldmUpdate = s.pldmUpdate := rfl
@[simp] theorem upWdt_fab (f : Wdt → Wdt) (s : State) : (upWdt f s).fab = s.fab := rfl
@[simp] theorem upWdt_nrx (f : Wdt → Wdt) (s : State) : (upWdt f s).nrx = s.nrx := rfl
@[simp] theorem upWdt_sc (f : Wdt → Wdt) (s : State) : (upWdt f s).sc = s.sc := rfl
@[simp] theorem upWdt_sic (f : Wdt → Wdt) (s : State) : (upWdt f s).sic = s.sic := rfl
@[simp] theorem upWdt_wdt (f : Wdt → Wdt) (s : State) : (upWdt f s).wdt = f s.wdt := rfl
@[simp] theorem upWdt_aot (f : Wdt → Wdt) (s : State) : (upWdt f s).aot = s.aot := rfl
@[simp] theorem upWdt_dga (f : Wdt → Wdt) (s : State) : (upWdt f s).dga = s.dga := rfl
@[simp] theorem upWdt_sig0 (f : Wdt → Wdt) (s : State) : (upWdt f s).sig0 = s.sig0 := rfl
@[simp] theorem upWdt_sig1 (f : Wdt → Wdt) (s : State) : (upWdt f s).sig1 = s.sig1 := rfl
@[simp] theorem upWdt_kld (f : Wdt → Wdt) (s : State) : (upWdt f s).kld = s.kld := rfl
@[simp] theorem upWdt_pa (f : Wdt → Wdt) (s : State) : (upWdt f s).pa = s.pa := rfl
@[simp] theorem upWdt_mgtA (f : Wdt → Wdt) (s : State) : (upWdt f s).mgtA = s.mgtA := rfl
@[simp] theorem upWdt_mgtB (f : Wdt → Wdt) (s : State) : (upWdt f s).mgtB = s.mgtB := rfl
@[simp] theorem upWdt_mbxQueue (f : Wdt → Wdt) (s : State) : (upWdt f s).mbxQueue = s.mbxQueue := rfl
@[simp] theorem upWdt_cbus (f : Wdt → Wdt) (s : State) : (upWdt f s).cbus = s.cbus := rfl
@[simp] theorem upWdt_temp (f : Wdt → Wdt) (s : State) : (upWdt f s).temp = s.temp := rfl
@[simp] theorem upWdt_reply (f : Wdt → Wdt) (s : State) : (upWdt f s).reply = s.reply := rfl
@[simp] theorem upWdt_freeCtr (f : Wdt → Wdt) (s : State) : (upWdt f s).freeCtr = s.freeCtr := rfl
@[simp] theorem upWdt_pending (f : Wdt → Wdt) (s : State) : (upWdt f s).pending = s.pending := rfl
@[simp] theorem upDga_mor (f : Dga → Dga) (s : State) : (upDga f s).mor = s.mor := rfl
@[simp] theorem upDga_otp (f : Dga → Dga) (s : State) : (upDga f s).otp = s.otp := rfl
@[simp] theorem upDga_ev (f : Dga → Dga) (s : State) : (upDga f s).ev = s.ev := rfl
@[simp] theorem upDga_vault (f : Dga → Dga) (s : State) : (upDga f s).vault = s.vault := rfl
@[simp] theorem upDga_chans (f : Dga → Dga) (s : State) : (upDga f s).chans = s.chans := rfl
@[simp] theorem upDga_xip (f : Dga → Dga) (s : State) : (upDga f s).xip = s.xip := rfl
@[simp] theorem upDga_ports (f : Dga → Dga) (s : State) : (upDga f s).ports = s.ports := rfl
@[simp] theorem upDga_ems (f : Dga → Dga) (s : State) : (upDga f s).ems = s.ems := rfl
@[simp] theorem upDga_lake (f : Dga → Dga) (s : State) : (upDga f s).lake = s.lake := rfl
@[simp] theorem upDga_imgs (f : Dga → Dga) (s : State) : (upDga f s).imgs = s.imgs := rfl
@[simp] theorem upDga_activeHalf (f : Dga → Dga) (s : State) : (upDga f s).activeHalf = s.activeHalf := rfl
@[simp] theorem upDga_staged (f : Dga → Dga) (s : State) : (upDga f s).staged = s.staged := rfl
@[simp] theorem upDga_polFloor (f : Dga → Dga) (s : State) : (upDga f s).polFloor = s.polFloor := rfl
@[simp] theorem upDga_replay (f : Dga → Dga) (s : State) : (upDga f s).replay = s.replay := rfl
@[simp] theorem upDga_nextWriteId (f : Dga → Dga) (s : State) : (upDga f s).nextWriteId = s.nextWriteId := rfl
@[simp] theorem upDga_grant (f : Dga → Dga) (s : State) : (upDga f s).grant = s.grant := rfl
@[simp] theorem upDga_capsules (f : Dga → Dga) (s : State) : (upDga f s).capsules = s.capsules := rfl
@[simp] theorem upDga_cfg (f : Dga → Dga) (s : State) : (upDga f s).cfg = s.cfg := rfl
@[simp] theorem upDga_run (f : Dga → Dga) (s : State) : (upDga f s).run = s.run := rfl
@[simp] theorem upDga_pldmUpdate (f : Dga → Dga) (s : State) : (upDga f s).pldmUpdate = s.pldmUpdate := rfl
@[simp] theorem upDga_fab (f : Dga → Dga) (s : State) : (upDga f s).fab = s.fab := rfl
@[simp] theorem upDga_nrx (f : Dga → Dga) (s : State) : (upDga f s).nrx = s.nrx := rfl
@[simp] theorem upDga_sc (f : Dga → Dga) (s : State) : (upDga f s).sc = s.sc := rfl
@[simp] theorem upDga_sic (f : Dga → Dga) (s : State) : (upDga f s).sic = s.sic := rfl
@[simp] theorem upDga_wdt (f : Dga → Dga) (s : State) : (upDga f s).wdt = s.wdt := rfl
@[simp] theorem upDga_aot (f : Dga → Dga) (s : State) : (upDga f s).aot = s.aot := rfl
@[simp] theorem upDga_dga (f : Dga → Dga) (s : State) : (upDga f s).dga = f s.dga := rfl
@[simp] theorem upDga_sig0 (f : Dga → Dga) (s : State) : (upDga f s).sig0 = s.sig0 := rfl
@[simp] theorem upDga_sig1 (f : Dga → Dga) (s : State) : (upDga f s).sig1 = s.sig1 := rfl
@[simp] theorem upDga_kld (f : Dga → Dga) (s : State) : (upDga f s).kld = s.kld := rfl
@[simp] theorem upDga_pa (f : Dga → Dga) (s : State) : (upDga f s).pa = s.pa := rfl
@[simp] theorem upDga_mgtA (f : Dga → Dga) (s : State) : (upDga f s).mgtA = s.mgtA := rfl
@[simp] theorem upDga_mgtB (f : Dga → Dga) (s : State) : (upDga f s).mgtB = s.mgtB := rfl
@[simp] theorem upDga_mbxQueue (f : Dga → Dga) (s : State) : (upDga f s).mbxQueue = s.mbxQueue := rfl
@[simp] theorem upDga_cbus (f : Dga → Dga) (s : State) : (upDga f s).cbus = s.cbus := rfl
@[simp] theorem upDga_temp (f : Dga → Dga) (s : State) : (upDga f s).temp = s.temp := rfl
@[simp] theorem upDga_reply (f : Dga → Dga) (s : State) : (upDga f s).reply = s.reply := rfl
@[simp] theorem upDga_freeCtr (f : Dga → Dga) (s : State) : (upDga f s).freeCtr = s.freeCtr := rfl
@[simp] theorem upDga_pending (f : Dga → Dga) (s : State) : (upDga f s).pending = s.pending := rfl
@[simp] theorem upKld_mor (f : Kld → Kld) (s : State) : (upKld f s).mor = s.mor := rfl
@[simp] theorem upKld_otp (f : Kld → Kld) (s : State) : (upKld f s).otp = s.otp := rfl
@[simp] theorem upKld_ev (f : Kld → Kld) (s : State) : (upKld f s).ev = s.ev := rfl
@[simp] theorem upKld_vault (f : Kld → Kld) (s : State) : (upKld f s).vault = s.vault := rfl
@[simp] theorem upKld_chans (f : Kld → Kld) (s : State) : (upKld f s).chans = s.chans := rfl
@[simp] theorem upKld_xip (f : Kld → Kld) (s : State) : (upKld f s).xip = s.xip := rfl
@[simp] theorem upKld_ports (f : Kld → Kld) (s : State) : (upKld f s).ports = s.ports := rfl
@[simp] theorem upKld_ems (f : Kld → Kld) (s : State) : (upKld f s).ems = s.ems := rfl
@[simp] theorem upKld_lake (f : Kld → Kld) (s : State) : (upKld f s).lake = s.lake := rfl
@[simp] theorem upKld_imgs (f : Kld → Kld) (s : State) : (upKld f s).imgs = s.imgs := rfl
@[simp] theorem upKld_activeHalf (f : Kld → Kld) (s : State) : (upKld f s).activeHalf = s.activeHalf := rfl
@[simp] theorem upKld_staged (f : Kld → Kld) (s : State) : (upKld f s).staged = s.staged := rfl
@[simp] theorem upKld_polFloor (f : Kld → Kld) (s : State) : (upKld f s).polFloor = s.polFloor := rfl
@[simp] theorem upKld_replay (f : Kld → Kld) (s : State) : (upKld f s).replay = s.replay := rfl
@[simp] theorem upKld_nextWriteId (f : Kld → Kld) (s : State) : (upKld f s).nextWriteId = s.nextWriteId := rfl
@[simp] theorem upKld_grant (f : Kld → Kld) (s : State) : (upKld f s).grant = s.grant := rfl
@[simp] theorem upKld_capsules (f : Kld → Kld) (s : State) : (upKld f s).capsules = s.capsules := rfl
@[simp] theorem upKld_cfg (f : Kld → Kld) (s : State) : (upKld f s).cfg = s.cfg := rfl
@[simp] theorem upKld_run (f : Kld → Kld) (s : State) : (upKld f s).run = s.run := rfl
@[simp] theorem upKld_pldmUpdate (f : Kld → Kld) (s : State) : (upKld f s).pldmUpdate = s.pldmUpdate := rfl
@[simp] theorem upKld_fab (f : Kld → Kld) (s : State) : (upKld f s).fab = s.fab := rfl
@[simp] theorem upKld_nrx (f : Kld → Kld) (s : State) : (upKld f s).nrx = s.nrx := rfl
@[simp] theorem upKld_sc (f : Kld → Kld) (s : State) : (upKld f s).sc = s.sc := rfl
@[simp] theorem upKld_sic (f : Kld → Kld) (s : State) : (upKld f s).sic = s.sic := rfl
@[simp] theorem upKld_wdt (f : Kld → Kld) (s : State) : (upKld f s).wdt = s.wdt := rfl
@[simp] theorem upKld_aot (f : Kld → Kld) (s : State) : (upKld f s).aot = s.aot := rfl
@[simp] theorem upKld_dga (f : Kld → Kld) (s : State) : (upKld f s).dga = s.dga := rfl
@[simp] theorem upKld_sig0 (f : Kld → Kld) (s : State) : (upKld f s).sig0 = s.sig0 := rfl
@[simp] theorem upKld_sig1 (f : Kld → Kld) (s : State) : (upKld f s).sig1 = s.sig1 := rfl
@[simp] theorem upKld_kld (f : Kld → Kld) (s : State) : (upKld f s).kld = f s.kld := rfl
@[simp] theorem upKld_pa (f : Kld → Kld) (s : State) : (upKld f s).pa = s.pa := rfl
@[simp] theorem upKld_mgtA (f : Kld → Kld) (s : State) : (upKld f s).mgtA = s.mgtA := rfl
@[simp] theorem upKld_mgtB (f : Kld → Kld) (s : State) : (upKld f s).mgtB = s.mgtB := rfl
@[simp] theorem upKld_mbxQueue (f : Kld → Kld) (s : State) : (upKld f s).mbxQueue = s.mbxQueue := rfl
@[simp] theorem upKld_cbus (f : Kld → Kld) (s : State) : (upKld f s).cbus = s.cbus := rfl
@[simp] theorem upKld_temp (f : Kld → Kld) (s : State) : (upKld f s).temp = s.temp := rfl
@[simp] theorem upKld_reply (f : Kld → Kld) (s : State) : (upKld f s).reply = s.reply := rfl
@[simp] theorem upKld_freeCtr (f : Kld → Kld) (s : State) : (upKld f s).freeCtr = s.freeCtr := rfl
@[simp] theorem upKld_pending (f : Kld → Kld) (s : State) : (upKld f s).pending = s.pending := rfl
@[simp] theorem upPa_mor (f : Persist → Persist) (s : State) : (upPa f s).mor = s.mor := rfl
@[simp] theorem upPa_otp (f : Persist → Persist) (s : State) : (upPa f s).otp = s.otp := rfl
@[simp] theorem upPa_ev (f : Persist → Persist) (s : State) : (upPa f s).ev = s.ev := rfl
@[simp] theorem upPa_vault (f : Persist → Persist) (s : State) : (upPa f s).vault = s.vault := rfl
@[simp] theorem upPa_chans (f : Persist → Persist) (s : State) : (upPa f s).chans = s.chans := rfl
@[simp] theorem upPa_xip (f : Persist → Persist) (s : State) : (upPa f s).xip = s.xip := rfl
@[simp] theorem upPa_ports (f : Persist → Persist) (s : State) : (upPa f s).ports = s.ports := rfl
@[simp] theorem upPa_ems (f : Persist → Persist) (s : State) : (upPa f s).ems = s.ems := rfl
@[simp] theorem upPa_lake (f : Persist → Persist) (s : State) : (upPa f s).lake = s.lake := rfl
@[simp] theorem upPa_imgs (f : Persist → Persist) (s : State) : (upPa f s).imgs = s.imgs := rfl
@[simp] theorem upPa_activeHalf (f : Persist → Persist) (s : State) : (upPa f s).activeHalf = s.activeHalf := rfl
@[simp] theorem upPa_staged (f : Persist → Persist) (s : State) : (upPa f s).staged = s.staged := rfl
@[simp] theorem upPa_polFloor (f : Persist → Persist) (s : State) : (upPa f s).polFloor = s.polFloor := rfl
@[simp] theorem upPa_replay (f : Persist → Persist) (s : State) : (upPa f s).replay = s.replay := rfl
@[simp] theorem upPa_nextWriteId (f : Persist → Persist) (s : State) : (upPa f s).nextWriteId = s.nextWriteId := rfl
@[simp] theorem upPa_grant (f : Persist → Persist) (s : State) : (upPa f s).grant = s.grant := rfl
@[simp] theorem upPa_capsules (f : Persist → Persist) (s : State) : (upPa f s).capsules = s.capsules := rfl
@[simp] theorem upPa_cfg (f : Persist → Persist) (s : State) : (upPa f s).cfg = s.cfg := rfl
@[simp] theorem upPa_run (f : Persist → Persist) (s : State) : (upPa f s).run = s.run := rfl
@[simp] theorem upPa_pldmUpdate (f : Persist → Persist) (s : State) : (upPa f s).pldmUpdate = s.pldmUpdate := rfl
@[simp] theorem upPa_fab (f : Persist → Persist) (s : State) : (upPa f s).fab = s.fab := rfl
@[simp] theorem upPa_nrx (f : Persist → Persist) (s : State) : (upPa f s).nrx = s.nrx := rfl
@[simp] theorem upPa_sc (f : Persist → Persist) (s : State) : (upPa f s).sc = s.sc := rfl
@[simp] theorem upPa_sic (f : Persist → Persist) (s : State) : (upPa f s).sic = s.sic := rfl
@[simp] theorem upPa_wdt (f : Persist → Persist) (s : State) : (upPa f s).wdt = s.wdt := rfl
@[simp] theorem upPa_aot (f : Persist → Persist) (s : State) : (upPa f s).aot = s.aot := rfl
@[simp] theorem upPa_dga (f : Persist → Persist) (s : State) : (upPa f s).dga = s.dga := rfl
@[simp] theorem upPa_sig0 (f : Persist → Persist) (s : State) : (upPa f s).sig0 = s.sig0 := rfl
@[simp] theorem upPa_sig1 (f : Persist → Persist) (s : State) : (upPa f s).sig1 = s.sig1 := rfl
@[simp] theorem upPa_kld (f : Persist → Persist) (s : State) : (upPa f s).kld = s.kld := rfl
@[simp] theorem upPa_pa (f : Persist → Persist) (s : State) : (upPa f s).pa = f s.pa := rfl
@[simp] theorem upPa_mgtA (f : Persist → Persist) (s : State) : (upPa f s).mgtA = s.mgtA := rfl
@[simp] theorem upPa_mgtB (f : Persist → Persist) (s : State) : (upPa f s).mgtB = s.mgtB := rfl
@[simp] theorem upPa_mbxQueue (f : Persist → Persist) (s : State) : (upPa f s).mbxQueue = s.mbxQueue := rfl
@[simp] theorem upPa_cbus (f : Persist → Persist) (s : State) : (upPa f s).cbus = s.cbus := rfl
@[simp] theorem upPa_temp (f : Persist → Persist) (s : State) : (upPa f s).temp = s.temp := rfl
@[simp] theorem upPa_reply (f : Persist → Persist) (s : State) : (upPa f s).reply = s.reply := rfl
@[simp] theorem upPa_freeCtr (f : Persist → Persist) (s : State) : (upPa f s).freeCtr = s.freeCtr := rfl
@[simp] theorem upPa_pending (f : Persist → Persist) (s : State) : (upPa f s).pending = s.pending := rfl

end Sys2Proof.Machine
end

