-- ==== Sys2Proof/Laws/FrameEv.lean ====
section
/-! SUPPORT. Frame lemmas of the Evidence Unit: one simp lemma for each shared operation of Machine/*.lean
that never writes `State.ev`, so that a proof about a command reads the field through the
operation without unfolding it. An operation without a lemma here may write the field. -/

namespace Sys2Proof.Machine

open Sys2Proof

set_option linter.unusedSimpArgs false
set_option linter.unusedTactic false
set_option linter.unnecessarySeqFocus false
set_option linter.unreachableTactic false
set_option linter.unusedVariables false

@[simp] theorem say_ev (r : Reply) (s : State) : (say r s).ev = s.ev := by
  unfold say; (repeat' split) <;> simp [*]

@[simp] theorem drawn_ev (s : State) : (drawn s).ev = s.ev := by
  unfold drawn; (repeat' split) <;> simp [*]

@[simp] theorem setPair_ev (k : Nat) (v : BitVec 32) (s : State) : (setPair k v s).ev = s.ev := by
  unfold setPair; (repeat' split) <;> simp [*]

@[simp] theorem upImg_ev (k : Nat) (f : Img → Img) (s : State) : (upImg k f s).ev = s.ev := by
  unfold upImg; (repeat' split) <;> simp [*]

@[simp] theorem upChan_ev (k : Nat) (f : Channel → Channel) (s : State) : (upChan k f s).ev = s.ev := by
  unfold upChan; (repeat' split) <;> simp [*]

@[simp] theorem upEm_ev (k : Nat) (f : EmDev → EmDev) (s : State) : (upEm k f s).ev = s.ev := by
  unfold upEm; (repeat' split) <;> simp [*]

@[simp] theorem upPort_ev (k : Nat) (f : Port → Port) (s : State) : (upPort k f s).ev = s.ev := by
  unfold upPort; (repeat' split) <;> simp [*]

@[simp] theorem upEp_ev (j : Nat) (f : Ep → Ep) (s : State) : (upEp j f s).ev = s.ev := by
  unfold upEp; (repeat' split) <;> simp [*]

@[simp] theorem upCbus_ev (i : Nat) (f : CbusComp → CbusComp) (s : State) : (upCbus i f s).ev = s.ev := by
  unfold upCbus; (repeat' split) <;> simp [*]

@[simp] theorem aerReport_ev (port n : Nat) (s : State) : (aerReport port n s).ev = s.ev := by
  unfold aerReport; (repeat' split) <;> simp [*]

@[simp] theorem dropHeld_ev (port : Nat) (s : State) : (dropHeld port s).ev = s.ev := by
  unfold dropHeld; (repeat' split) <;> simp [*]

@[simp] theorem endMediation_ev (port : Nat) (s : State) : (endMediation port s).ev = s.ev := by
  unfold endMediation; (repeat' split) <;> simp [*]

@[simp] theorem linkDrop_ev (port : Nat) (s : State) : (linkDrop port s).ev = s.ev := by
  unfold linkDrop; (repeat' split) <;> simp [*]

@[simp] theorem epUnvat_ev (j : Nat) (s : State) : (epUnvat j s).ev = s.ev := by
  unfold epUnvat; (repeat' split) <;> simp [*]

@[simp] theorem epSealIt_ev (j : Nat) (s : State) : (epSealIt j s).ev = s.ev := by
  unfold epSealIt; (repeat' split) <;> simp [*]

@[simp] theorem startRecheck_ev (k : AttKind) (j : Nat) (s : State) : (startRecheck k j s).ev = s.ev := by
  unfold startRecheck; (repeat' split) <;> simp [*]

@[simp] theorem epRefuse_ev (j : Nat) (s : State) : (epRefuse j s).ev = s.ev := by
  unfold epRefuse; (repeat' split) <;> simp [*]

@[simp] theorem imgAgain_ev (k : Nat) (s : State) : (imgAgain k s).ev = s.ev := by
  unfold imgAgain; (repeat' split) <;> simp [*]

@[simp] theorem phaseStep_ev (s : State) : (phaseStep s).ev = s.ev := by
  unfold phaseStep; (repeat' split) <;> simp [*]

@[simp] theorem lateAnswer_ev (b : Bool) (cmd flags result : Nat) (body : Bytes) (s : State) : (lateAnswer b cmd flags result body s).ev = s.ev := by
  unfold lateAnswer; (repeat' split) <;> simp [*]

@[simp] theorem nvmeIssue_ev (l : List NvmeUse) (s : State) : (nvmeIssue l s).ev = s.ev := by
  unfold nvmeIssue; (repeat' split) <;> simp [*]

@[simp] theorem alertBoth_ev (s : State) : (alertBoth s).ev = s.ev := by
  unfold alertBoth; (repeat' split) <;> simp [*]

@[simp] theorem tempAlert_ev (s : State) : (tempAlert s).ev = s.ev := by
  unfold tempAlert; (repeat' split) <;> simp [*]

@[simp] theorem wdtServed_ev (s : State) : (wdtServed s).ev = s.ev := by
  unfold wdtServed; (repeat' split) <;> simp [*]

@[simp] theorem mordantWrite_ev (f : State → State) (s : State) (h : ∀ s, (f s).ev = s.ev) : (mordantWrite f s).ev = s.ev := by
  unfold mordantWrite
  split
  · exact h s
  · simp

@[simp] theorem fwAdvance_ev (k : Nat) (n : Nat) (s : State) : (fwAdvance k n s).ev = s.ev := by
  induction n generalizing s with
  | zero => rfl
  | succ n ih => unfold fwAdvance; dsimp only; (repeat' split) <;> simp [*]

@[simp] theorem grantEnd_ev (s : State) : (grantEnd s).ev = s.ev := by
  unfold grantEnd; (repeat' split) <;> simp [*]

@[simp] theorem commitLeave_ev (k : Nat) (s : State) : (commitLeave k s).ev = s.ev := by
  unfold commitLeave; (repeat' split) <;> simp [*]

@[simp] theorem fillStop_ev (k : Nat) (s : State) : (fillStop k s).ev = s.ev := by
  unfold fillStop; (repeat' split) <;> simp [*]

@[simp] theorem escalateLater_ev (src scope : Nat) (doms : List Nat) (s : State) : (escalateLater src scope doms s).ev = s.ev := by
  unfold escalateLater; (repeat' split) <;> simp [*]

@[simp] theorem cfgTouch_ev (addr len : Nat) (s : State) : (cfgTouch addr len s).ev = s.ev := by
  unfold cfgTouch; (repeat' split) <;> simp [*]

@[simp] theorem dgaServe_ev (s : State) : (dgaServe s).ev = s.ev := by
  unfold dgaServe; (repeat' split) <;> simp [*]

@[simp] theorem upRing_ev (p g : Nat) (f : Ring → Ring) (s : State) : (upRing p g f s).ev = s.ev := by
  unfold upRing; (repeat' split) <;> simp [*]

@[simp] theorem capsulesEnd_ev (q : Nat → Nat → Bool) (s : State) : (capsulesEnd q s).ev = s.ev := by
  unfold capsulesEnd; (repeat' split) <;> simp [*]

@[simp] theorem ringUnsubmit_ev (p g : Nat) (s : State) : (ringUnsubmit p g s).ev = s.ev := by
  unfold ringUnsubmit; (repeat' split) <;> simp [*]

@[simp] theorem ledgerExtend_ev (j : RingCmd) (s : State) : (ledgerExtend j s).ev = s.ev := by
  unfold ledgerExtend; (repeat' split) <;> simp [*]

@[simp] theorem counterIncrement_ev (h : Nat) (s : State) : (counterIncrement h s).ev = s.ev := by
  unfold counterIncrement; (repeat' split) <;> simp [*]

@[simp] theorem ringCreate_ev (p g depthLog2 sq cq tenant vector : Nat) (s : State) : (ringCreate p g depthLog2 sq cq tenant vector s).ev = s.ev := by
  unfold ringCreate; (repeat' split) <;> simp [*]

@[simp] theorem quotaSet_ev (q : Quota) (s : State) : (quotaSet q s).ev = s.ev := by
  unfold quotaSet; (repeat' split) <;> simp [*]

@[simp] theorem objAlloc_ev (counters : Bool) (r : Run) (s : State) : (objAlloc counters r s).ev = s.ev := by
  unfold objAlloc; (repeat' split) <;> simp [*]

@[simp] theorem objRelease_ev (counters : Bool) (r : Run) (s : State) : (objRelease counters r s).ev = s.ev := by
  unfold objRelease; (repeat' split) <;> simp [*]

@[simp] theorem dropPart_ev (p : Nat) (s : State) : (dropPart p s).ev = s.ev := by
  unfold dropPart; (repeat' split) <;> simp [*]

@[simp] theorem upstreamDown_ev (p : Nat) (s : State) : (upstreamDown p s).ev = s.ev := by
  unfold upstreamDown; (repeat' split) <;> simp [*]

@[simp] theorem workWrite_ev (a : Nat) (b : Bytes) (s : State) : (workWrite a b s).ev = s.ev := by
  unfold workWrite
  rw [upLake_ev, upSc_ev]

@[simp] theorem workPut_ev (a : Nat) (b : Bytes) (s : State) : (workPut a b s).ev = s.ev := by
  simp [workPut, apply_ite State.ev]

@[simp] theorem lakeStore_ev (base : Nat) (cells : List (Nat × Byte)) (s : State) : (lakeStore base cells s).ev = s.ev := by
  unfold lakeStore; (repeat' split) <;> simp [*]

@[simp] theorem lakeFill_ev (base n : Nat) (cells : List (Nat × Byte)) (s : State) : (lakeFill base n cells s).ev = s.ev := by
  unfold lakeFill; (repeat' split) <;> simp [*]

@[simp] theorem imageWriteGo_ev (k base n : Nat) (cells : List (Nat × Byte)) (s : State) : (imageWriteGo k base n cells s).ev = s.ev := by
  unfold imageWriteGo; (repeat' split) <;> simp [*]

@[simp] theorem imageWrite_ev (k base n : Nat) (cells : List (Nat × Byte)) (s : State) : (imageWrite k base n cells s).ev = s.ev := by
  unfold imageWrite; (repeat' split) <;> simp [*]

@[simp] theorem hotFill_ev (p : PolicyImage) (r : PresentRec) (s : State) : (hotFill p r s).ev = s.ev := by
  unfold hotFill; (repeat' split) <;> simp [*]

@[simp] theorem clearFail_ev (k : Nat) (s : State) : (clearFail k s).ev = s.ev := by
  unfold clearFail; (repeat' split) <;> simp [*]

@[simp] theorem streamGo_ev (k : Nat) (x : Source) (s : State) : (streamGo k x s).ev = s.ev := by
  unfold streamGo; (repeat' split) <;> simp [*]

@[simp] theorem streamFail_ev (i : Nat) (s : State) : (streamFail i s).ev = s.ev := by
  unfold streamFail; (repeat' split) <;> simp [*]

@[simp] theorem streamAll_ev (k : Nat) (cells : List (Nat × Byte)) (s : State) : (streamAll k cells s).ev = s.ev := by
  unfold streamAll; (repeat' split) <;> simp [*]

@[simp] theorem imgLoading_ev (k : Nat) (s : State) : (imgLoading k s).ev = s.ev := by
  unfold imgLoading; (repeat' split) <;> simp [*]

@[simp] theorem recoveryGo_ev (k : Nat) (fallback : Bool) (s : State) : (recoveryGo k fallback s).ev = s.ev := by
  unfold recoveryGo; dsimp only; (repeat' split) <;> simp [*]

@[simp] theorem switchHalves_ev (k : Nat) (s : State) : (switchHalves k s).ev = s.ev := by
  unfold switchHalves; (repeat' split) <;> simp [*]

@[simp] theorem keepJudged_ev (k : Nat) (m : Option Manifest) (digest : Bytes) (pass : Bool) (s : State) : (keepJudged k m digest pass s).ev = s.ev := by
  unfold keepJudged; (repeat' split) <;> simp [*]

@[simp] theorem svnRaise_ev (idx n : Nat) (s : State) : (svnRaise idx n s).ev = s.ev := by
  unfold svnRaise; (repeat' split) <;> simp [*]

@[simp] theorem polFloorRaise_ev (n : Nat) (s : State) : (polFloorRaise n s).ev = s.ev := by
  unfold polFloorRaise; (repeat' split) <;> simp [*]

@[simp] theorem upMgt_ev (b : Bool) (f : Mgt → Mgt) (s : State) : (upMgt b f s).ev = s.ev := by
  unfold upMgt; (repeat' split) <;> simp [*]

@[simp] theorem capsuleEnd_ev (reason : Nat) (s : State) : (capsuleEnd reason s).ev = s.ev := by
  unfold capsuleEnd; dsimp only; (repeat' split) <;> simp [*]

@[simp] theorem capsuleAccept_ev (s : State) : (capsuleAccept s).ev = s.ev := by
  unfold capsuleAccept; (repeat' split) <;> simp [*]

@[simp] theorem capsuleStep_ev (n : Nat) (s : State) : (capsuleStep n s).ev = s.ev := by
  unfold capsuleStep; (repeat' split) <;> simp [*]

@[simp] theorem capsuleWrite_ev (j : CapsuleJob) (s : State) : (capsuleWrite j s).ev = s.ev := by
  unfold capsuleWrite; (repeat' split) <;> simp [*]

@[simp] theorem mgtMsg_ev (b : Bool) (s : State) : (mgtMsg b s).ev = s.ev := by
  unfold mgtMsg; (repeat' split) <;> simp [*]

@[simp] theorem cfgWrite_ev (f : CfgFlash → CfgFlash) (s : State) : (cfgWrite f s).ev = s.ev := by
  unfold cfgWrite; (repeat' split) <;> simp [*]

@[simp] theorem putDir_ev (second : Bool) (d : DirCopy) (s : State) : (putDir second d s).ev = s.ev := by
  unfold putDir; (repeat' split) <;> simp [*]

@[simp] theorem breakDir_ev (s : State) : (breakDir s).ev = s.ev := by
  unfold breakDir; (repeat' split) <;> simp [*]

@[simp] theorem rewriteDir_ev (f : BootDir → BootDir) (s : State) : (rewriteDir f s).ev = s.ev := by
  unfold rewriteDir; (repeat' split) <;> simp [*]

@[simp] theorem putComponent_ev (c : Component) (b : Bool) (s : State) : (putComponent c b s).ev = s.ev := by
  unfold putComponent; (repeat' split) <;> simp [*]

@[simp] theorem dropComponent_ev (c : Component) (b : Bool) (s : State) : (dropComponent c b s).ev = s.ev := by
  unfold dropComponent; (repeat' split) <;> simp [*]

@[simp] theorem promoted_ev (c : Component) (cleared : Bool) (s : State) : (promoted c cleared s).ev = s.ev := by
  unfold promoted; (repeat' split) <;> simp [*]

@[simp] theorem refreshDir_ev (s : State) : (refreshDir s).ev = s.ev := by
  unfold refreshDir; (repeat' split) <;> simp [*]

@[simp] theorem promotionGo_ev (pol cleared : Bool) (s : State) : (promotionGo pol cleared s).ev = s.ev := by
  unfold promotionGo; (repeat' split) <;> simp [*]

@[simp] theorem relReqBit_ev (d : Nat) (s : State) : (relReqBit d s).ev = s.ev := by
  unfold relReqBit; (repeat' split) <;> simp [*]

@[simp] theorem otpDropped_ev (s : State) : (otpDropped s).ev = s.ev := by
  unfold otpDropped; (repeat' split) <;> simp [*]

@[simp] theorem otpRefuse_ev (op addr : Nat) (s : State) : (otpRefuse op addr s).ev = s.ev := by
  unfold otpRefuse; (repeat' split) <;> simp [*]

@[simp] theorem otpAfter_ev (p : OtpPend) (s : State) : (otpAfter p s).ev = s.ev := by
  unfold otpAfter; (repeat' split) <;> simp [*]

@[simp] theorem ratchetBurn_ev (n : Nat) (s : State) : (ratchetBurn n s).ev = s.ev := by
  unfold ratchetBurn; (repeat' split) <;> simp [*]

@[simp] theorem lcStepBegin_ev (s : State) : (lcStepBegin s).ev = s.ev := by
  unfold lcStepBegin; (repeat' split) <;> simp [*]

@[simp] theorem otpNext_ev (s : State) : (otpNext s).ev = s.ev := by
  unfold otpNext; (repeat' split) <;> simp [*]

@[simp] theorem scrubFinish_ev (k : Nat) (s : State) : (scrubFinish k s).ev = s.ev := by
  unfold scrubFinish; (repeat' split) <;> simp [*]

@[simp] theorem scrubStart_ev (k : Nat) (n : Nat) (s : State) : (scrubStart k n s).ev = s.ev := by
  induction n generalizing s with
  | zero => rfl
  | succ n ih => unfold scrubStart; dsimp only; (repeat' split) <;> simp [*]

@[simp] theorem startFrame_ev (k : Nat) (f : Frame) (s : State) : (startFrame k f s).ev = s.ev := by
  unfold startFrame; (repeat' split) <;> simp [*]

@[simp] theorem sramWrite_ev (a : Nat) (b : Bytes) (s : State) : (sramWrite a b s).ev = s.ev := by
  unfold sramWrite; (repeat' split) <;> simp [*]

@[simp] theorem scatter_ev (l : List QEntry) (data : Bytes) (s : State) : (scatter l data s).ev = s.ev := by
  induction l generalizing data s with
  | nil => rfl
  | cons a r ih => unfold scatter; rw [ih]; simp

@[simp] theorem fwFrameDone_ev (k : Nat) (f : Frame) (st : Nat) (s : State) : (fwFrameDone k f st s).ev = s.ev := by
  unfold fwFrameDone; (repeat' split) <;> simp [*]

@[simp] theorem streamIn_ev (i : Nat) (f : Frame) (data : Bytes) (s : State) : (streamIn i f data s).ev = s.ev := by
  unfold streamIn; (repeat' split) <;> simp [*]

@[simp] theorem calibrateOn_ev (k : Nat) (cal : Cal) (s : State) : (calibrateOn k cal s).ev = s.ev := by
  unfold calibrateOn; (repeat' split) <;> simp [*]

@[simp] theorem endPoll_ev (k dev : Nat) (s : State) : (endPoll k dev s).ev = s.ev := by
  unfold endPoll; (repeat' split) <;> simp [*]

@[simp] theorem partUp_ev (s : State) (p : Nat) : (partUp s p).ev = s.ev := by
  unfold partUp; (repeat' split) <;> simp [*]

@[simp] theorem epUp_ev (j : Nat) (s : State) : (epUp j s).ev = s.ev := by
  unfold epUp; (repeat' split) <;> simp [*]

@[simp] theorem epWaitEnd_ev (j : Nat) (s : State) : (epWaitEnd j s).ev = s.ev := by
  unfold epWaitEnd; (repeat' split) <;> simp [*]

@[simp] theorem epLift_ev (j : Nat) (s : State) : (epLift j s).ev = s.ev := by
  unfold epLift; dsimp only; (repeat' split) <;> simp [*]

@[simp] theorem upAtt_ev (j : Nat) (f : Att → Att) (s : State) : (upAtt j f s).ev = s.ev := by
  unfold upAtt; (repeat' split) <;> simp [*]

@[simp] theorem drawNonce_ev (j : Nat) (s : State) : (drawNonce j s).ev = s.ev := by
  unfold drawNonce; (repeat' split) <;> simp [*]

@[simp] theorem spdmNext_ev (t : SpdmStep) (j : Nat) (s : State) : (spdmNext t j s).ev = s.ev := by
  unfold spdmNext; (repeat' split) <;> simp [*]

@[simp] theorem upPart_ev (p : Nat) (f : Part → Part) (s : State) : (upPart p f s).ev = s.ev := by
  unfold upPart; (repeat' split) <;> simp [*]

@[simp] theorem sliceFault_ev (b i : Nat) (s : State) : (sliceFault b i s).ev = s.ev := by
  unfold sliceFault; dsimp only; (repeat' split) <;> simp [*]

@[simp] theorem dispatchTlp_ev (i e : Nat) (t : Tlp) (s : State) : (dispatchTlp i e t s).ev = s.ev := by
  unfold dispatchTlp; (repeat' split) <;> simp [*]

@[simp] theorem deliverDue_ev (s : State) : (deliverDue s).ev = s.ev := by
  unfold deliverDue; (repeat' split) <;> simp [*]

@[simp] theorem forwardTlp_ev (i e : Nat) (t : Tlp) (s : State) : (forwardTlp i e t s).1.ev = s.ev := by
  unfold forwardTlp; (repeat' split) <;> simp [*]

@[simp] theorem away_ev (q : Nat) (k : TlpKind) (s : State) : (away q k s).1.ev = s.ev := by
  unfold away; (repeat' split) <;> simp [*]

@[simp] theorem mctpTrack_ev (p : Nat) (t : Tlp) (s : State) : (mctpTrack p t s).ev = s.ev := by
  unfold mctpTrack; (repeat' split) <;> simp [*]

@[simp] theorem awayAt_ev (i p : Nat) (t : Tlp) (s : State) : (awayAt i p t s).1.ev = s.ev := by
  unfold awayAt; (repeat' split) <;> simp [*]

@[simp] theorem routeTlp_ev (i p : Nat) (t : Tlp) (s : State) : (routeTlp i p t s).1.ev = s.ev := by
  unfold routeTlp; (repeat' split) <;> simp [*]

@[simp] theorem medTake_ev (port i : Nat) (t : Tlp) (s : State) : (medTake port i t s).ev = s.ev := by
  unfold medTake; (repeat' split) <;> simp [*]

@[simp] theorem hostTlp_ev (p : Nat) (t : Tlp) (s : State) : (hostTlp p t s).1.ev = s.ev := by
  unfold hostTlp; (repeat' split) <;> simp [*]

@[simp] theorem armReady_ev (p : Nat) (s : State) : (armReady p s).ev = s.ev := by
  unfold armReady; (repeat' split) <;> simp [*]

@[simp] theorem upMed_ev (port : Nat) (f : Mediation → Mediation) (s : State) : (upMed port f s).ev = s.ev := by
  unfold upMed; (repeat' split) <;> simp [*]

@[simp] theorem activateReady_ev (port : Nat) (s : State) : (activateReady port s).ev = s.ev := by
  unfold activateReady; (repeat' split) <;> simp [*]

@[simp] theorem medForward_ev (m : MedPkt) (s : State) : (medForward m s).1.ev = s.ev := by
  unfold medForward; (repeat' split) <;> simp [*]

@[simp] theorem medEnq_ev (m : MedPkt) (s : State) : (medEnq m s).ev = s.ev := by
  unfold medEnq; (repeat' split) <;> simp [*]

@[simp] theorem wdtCtrlWrite_ev (v : BitVec 32) (s : State) : (wdtCtrlWrite v s).ev = s.ev := by
  unfold wdtCtrlWrite; (repeat' split) <;> simp [*]

@[simp] theorem wdtCapture_ev (cause : Nat) (pc : BitVec 64) (s : State) : (wdtCapture cause pc s).ev = s.ev := by
  unfold wdtCapture; (repeat' split) <;> simp [*]

@[simp] theorem upSig_ev (e : Bool) (f : SigEng → SigEng) (s : State) : (upSig e f s).ev = s.ev := by
  unfold upSig; (repeat' split) <;> simp [*]

@[simp] theorem sigRemove_ev (e : Bool) (s : State) : (sigRemove e s).ev = s.ev := by
  unfold sigRemove; (repeat' split) <;> simp [*]

@[simp] theorem applyWrite_ev (p : PolicyImage) (r : PresentRec) (j : JEntry) (s : State) : (applyWrite p r j s).ev = s.ev := by
  unfold applyWrite; (repeat' split) <;> simp [*]

@[simp] theorem brStore_ev (epoch : Nat) (b : Bytes) (s : State) : (brStore epoch b s).ev = s.ev := by
  unfold brStore; (repeat' split) <;> simp [*]

@[simp] theorem newChallenge_ev (s : State) : (newChallenge s).ev = s.ev := by
  unfold newChallenge; (repeat' split) <;> simp [*]

@[simp] theorem mbxFinish_ev (b : Bool) (result : Nat) (s : State) : (mbxFinish b result s).ev = s.ev := by
  unfold mbxFinish; (repeat' split) <;> simp [*]

@[simp] theorem holdCmd_ev (p g : Nat) (e : Bytes) (s : State) : (holdCmd p g e s).ev = s.ev := by
  unfold holdCmd; (repeat' split) <;> simp [*]

@[simp] theorem accessEnd_ev (p g : Nat) (u : AccessUse) (s : State) : (accessEnd p g u s).ev = s.ev := by
  unfold accessEnd; (repeat' split) <;> simp [*]

@[simp] theorem vectorSend_ev (p v : Nat) (s : State) : (vectorSend p v s).1.ev = s.ev := by
  unfold vectorSend; (repeat' split) <;> simp [*]

@[simp] theorem takeSealNo_ev (s : State) : (takeSealNo s).ev = s.ev := by
  unfold takeSealNo; (repeat' split) <;> simp [*]

@[simp] theorem fetchTaken_ev (p g : Nat) (s : State) : (fetchTaken p g s).ev = s.ev := by
  unfold fetchTaken; (repeat' split) <;> simp [*]

@[simp] theorem completionWritten_ev (p g : Nat) (j : RingCmd) (s : State) : (completionWritten p g j s).ev = s.ev := by
  unfold completionWritten; (repeat' split) <;> simp [*]

@[simp] theorem upAdm_ev (p a : Nat) (f : AdmRegs → AdmRegs) (s : State) : (upAdm p a f s).ev = s.ev := by
  unfold upAdm; (repeat' split) <;> simp [*]

@[simp] theorem admWrite_ev (p a : Nat) (v : BitVec 32) (s : State) : (admWrite p a v s).ev = s.ev := by
  unfold admWrite; dsimp only; (repeat' split) <;> simp [*]

@[simp] theorem writeCfg_ev (p : Nat) (r : CfgReg) (v : BitVec 32) (s : State) : (writeCfg p r v s).ev = s.ev := by
  unfold writeCfg; (repeat' split) <;> simp [*]

@[simp] theorem mbxGo_ev (b : Bool) (s : State) : (mbxGo b s).ev = s.ev := by
  unfold mbxGo; dsimp only; (repeat' split) <;> simp [*]

@[simp] theorem writeMailbox_ev (b : Bool) (a : Nat) (w : BitVec 32) (s : State) : (writeMailbox b a w s).ev = s.ev := by
  unfold writeMailbox; (repeat' split) <;> simp [*]

@[simp] theorem writeBar0_ev (p a : Nat) (v : BitVec 32) (s : State) : (writeBar0 p a v s).ev = s.ev := by
  unfold writeBar0; dsimp only; (repeat' split) <;> simp [*]

@[simp] theorem writeBar_ev (n p a len : Nat) (v : BitVec 32) (s : State) : (writeBar n p a len v s).ev = s.ev := by
  unfold writeBar; (repeat' split) <;> simp [*]

@[simp] theorem writeMsix8_ev (p a : Nat) (low high : BitVec 32) (s : State) : (writeMsix8 p a low high s).ev = s.ev := by
  unfold writeMsix8; (repeat' split) <;> simp [*]

@[simp] theorem writeChan_ev (k a : Nat) (v : BitVec 32) (s : State) : (writeChan k a v s).ev = s.ev := by
  unfold writeChan; (repeat' split) <;> simp [*]

@[simp] theorem writeOtpc_ev (a : Nat) (v : BitVec 32) (s : State) : (writeOtpc a v s).ev = s.ev := by
  unfold writeOtpc; dsimp only; (repeat' split) <;> simp [*]

@[simp] theorem writeSig_ev (e : Bool) (a : Nat) (v : BitVec 32) (s : State) : (writeSig e a v s).ev = s.ev := by
  unfold writeSig; dsimp only; (repeat' split) <;> simp [*]

@[simp] theorem writeSic_ev (a : Nat) (v : BitVec 32) (s : State) : (writeSic a v s).ev = s.ev := by
  unfold writeSic; (repeat' split) <;> simp [*]

@[simp] theorem writeWdt_ev (a : Nat) (v : BitVec 32) (s : State) : (writeWdt a v s).ev = s.ev := by
  unfold writeWdt; (repeat' split) <;> simp [*]

@[simp] theorem writeDga_ev (a : Nat) (v : BitVec 32) (s : State) : (writeDga a v s).ev = s.ev := by
  unfold writeDga; (repeat' split) <;> simp [*]

@[simp] theorem writeGate_ev (a : Nat) (v : BitVec 32) (s : State) : (writeGate a v s).ev = s.ev := by
  unfold writeGate; (repeat' split) <;> simp [*]

@[simp] theorem csfHostRead_ev (p : Nat) (t : Tlp) (s : State) : (csfHostRead p t s).1.ev = s.ev := by
  unfold csfHostRead; (repeat' split) <;> simp [*]

@[simp] theorem frameAbandon_ev (k : Nat) (cl : Client) (s : State) : (frameAbandon k cl s).ev = s.ev := by
  unfold frameAbandon; (repeat' split) <;> simp [*]

@[simp] theorem restartStream_ev (k : Nat) (s : State) : (restartStream k s).ev = s.ev := by
  unfold restartStream; (repeat' split) <;> simp [*]

@[simp] theorem medLost_ev (port : Nat) (s : State) : (medLost port s).ev = s.ev := by
  unfold medLost; (repeat' split) <;> simp [*]

@[simp] theorem unitsAfter_ev (t : SelfTest) (s : State) : (unitsAfter t s).ev = s.ev := by
  unfold unitsAfter; (repeat' split) <;> simp [*]

@[simp] theorem unitsScanned_ev (s : State) : (unitsScanned s).ev = s.ev := by
  unfold unitsScanned; (repeat' split) <;> simp [*]

@[simp] theorem romFloor_ev (cause : Nat) (s : State) : (romFloor cause s).ev = s.ev := by
  unfold romFloor; (repeat' split) <;> simp [*]

@[simp] theorem romFuses_ev (t : SelfTest) (s : State) : (romFuses t s).ev = s.ev := by
  unfold romFuses; (repeat' split) <;> simp [*]

@[simp] theorem romNoPolicy_ev (s : State) : (romNoPolicy s).ev = s.ev := by
  unfold romNoPolicy; (repeat' split) <;> simp [*]

@[simp] theorem tickTimer_ev (s : State) : (tickTimer s).ev = s.ev := by
  unfold tickTimer; (repeat' split) <;> simp [*]

@[simp] theorem tickWdt_ev (s : State) : (tickWdt s).ev = s.ev := by
  unfold tickWdt; (repeat' split) <;> simp [*]

@[simp] theorem withPending_ev (q : List Instr) (s : State) : (withPending q s).ev = s.ev := by
  unfold withPending; (repeat' split) <;> simp [*]

@[simp] theorem State.withFetchWord_ev (s : State) (nbits w : Nat) : (State.withFetchWord s nbits w).ev = s.ev := by
  unfold State.withFetchWord; (repeat' split) <;> simp [*]

end Sys2Proof.Machine
end

