-- ==== Sys2Proof/Laws/FrameFab.lean ====
section
/-! SUPPORT. Frame lemmas of the gates, ports and links: one simp lemma for each shared operation of Machine/*.lean
that never writes `State.fab`, so that a proof about a command reads the field through the
operation without unfolding it. An operation without a lemma here may write the field. -/

namespace Sys2Proof.Machine

open Sys2Proof

set_option linter.unusedSimpArgs false
set_option linter.unusedTactic false
set_option linter.unnecessarySeqFocus false
set_option linter.unreachableTactic false
set_option linter.unusedVariables false

@[simp] theorem each_fab (l : List Nat) (f : Nat → State → State) (s : State) (h : ∀ n s, (f n s).fab = s.fab) :
    (each l f s).fab = s.fab := by
  unfold each
  induction l generalizing s with
  | nil => rfl
  | cons a r ih => simp [ih, h]

@[simp] theorem foldl_fab {α : Type} (l : List α) (f : State → α → State) (s : State) (h : ∀ s n, (f s n).fab = s.fab) :
    (l.foldl f s).fab = s.fab := by
  induction l generalizing s with
  | nil => rfl
  | cons a r ih => simp [ih, h]

@[simp] theorem gated_fab (code src : Nat) (body : Bytes) (g : Gate) (eff : State → State) (s : State)
    (h : ∀ s, (eff s).fab = s.fab) : (gated code src body g eff s).fab = s.fab := by
  unfold gated
  dsimp only
  (repeat' split) <;> simp [h]

@[simp] theorem say_fab (r : Reply) (s : State) : (say r s).fab = s.fab := by
  unfold say; (repeat' split) <;> simp [*]

@[simp] theorem drawn_fab (s : State) : (drawn s).fab = s.fab := by
  unfold drawn; (repeat' split) <;> simp [*]

@[simp] theorem emit_fab (code src : Nat) (body : Bytes) (s : State) : (emit code src body s).fab = s.fab := by
  unfold emit; (repeat' split) <;> simp [*]

@[simp] theorem emitFw_fab (code : Nat) (body : Bytes) (s : State) : (emitFw code body s).fab = s.fab := by
  unfold emitFw; (repeat' split) <;> simp [*]

@[simp] theorem setPair_fab (k : Nat) (v : BitVec 32) (s : State) : (setPair k v s).fab = s.fab := by
  unfold setPair; (repeat' split) <;> simp [*]

@[simp] theorem upImg_fab (k : Nat) (f : Img → Img) (s : State) : (upImg k f s).fab = s.fab := by
  unfold upImg; (repeat' split) <;> simp [*]

@[simp] theorem upChan_fab (k : Nat) (f : Channel → Channel) (s : State) : (upChan k f s).fab = s.fab := by
  unfold upChan; (repeat' split) <;> simp [*]

@[simp] theorem upEm_fab (k : Nat) (f : EmDev → EmDev) (s : State) : (upEm k f s).fab = s.fab := by
  unfold upEm; (repeat' split) <;> simp [*]

@[simp] theorem upPort_fab (k : Nat) (f : Port → Port) (s : State) : (upPort k f s).fab = s.fab := by
  unfold upPort; (repeat' split) <;> simp [*]

@[simp] theorem domProtoReset_fab (d : Nat) (s : State) : (domProtoReset d s).fab = s.fab := by
  unfold domProtoReset; (repeat' split) <;> simp [*]

@[simp] theorem upCbus_fab (i : Nat) (f : CbusComp → CbusComp) (s : State) : (upCbus i f s).fab = s.fab := by
  unfold upCbus; (repeat' split) <;> simp [*]

@[simp] theorem emitContained_fab (j : Nat) (s : State) : (emitContained j s).fab = s.fab := by
  unfold emitContained; (repeat' split) <;> simp [*]

@[simp] theorem heldRecord_fab (d cause : Nat) (final : Bool) (s : State) : (heldRecord d cause final s).fab = s.fab := by
  unfold heldRecord; (repeat' split) <;> simp [*]

@[simp] theorem clearSlots_fab (d : Nat) (s : State) : (clearSlots d s).fab = s.fab := by
  unfold clearSlots; (repeat' split) <;> simp [*]

@[simp] theorem imgAgain_fab (k : Nat) (s : State) : (imgAgain k s).fab = s.fab := by
  unfold imgAgain; (repeat' split) <;> simp [*]

@[simp] theorem markFinal_fab (cause d : Nat) (s : State) : (markFinal cause d s).fab = s.fab := by
  unfold markFinal; (repeat' split) <;> simp [*]

@[simp] theorem finalCascade_fab  (n : Nat) (s : State) : (finalCascade  n s).fab = s.fab := by
  induction n generalizing s with
  | zero => rfl
  | succ n ih => unfold finalCascade; dsimp only; (repeat' split) <;> simp [*]

@[simp] theorem phaseStep_fab (s : State) : (phaseStep s).fab = s.fab := by
  unfold phaseStep; (repeat' split) <;> simp [*]

@[simp] theorem brClose_fab (s : State) : (brClose s).fab = s.fab := by
  unfold brClose; (repeat' split) <;> simp [*]

@[simp] theorem lateAnswer_fab (b : Bool) (cmd flags result : Nat) (body : Bytes) (s : State) : (lateAnswer b cmd flags result body s).fab = s.fab := by
  unfold lateAnswer; (repeat' split) <;> simp [*]

@[simp] theorem nvmeDrop_fab (s : State) : (nvmeDrop s).fab = s.fab := by
  unfold nvmeDrop
  refine (foldl_fab _ _ _ ?_).trans (by simp)
  intro s c
  try dsimp only
  split <;> simp

@[simp] theorem vaultSet_fab (st : VaultState) (code cause : Nat) (s : State) : (vaultSet st code cause s).fab = s.fab := by
  unfold vaultSet; (repeat' split) <;> simp [*]

@[simp] theorem nvmeIssue_fab (l : List NvmeUse) (s : State) : (nvmeIssue l s).fab = s.fab := by
  unfold nvmeIssue; (repeat' split) <;> simp [*]

@[simp] theorem rekey_fab (s : State) : (rekey s).fab = s.fab := by
  unfold rekey; dsimp only; (repeat' split) <;> simp [*]

@[simp] theorem blockNoLimit_fab (s : State) : (blockNoLimit s).fab = s.fab := by
  unfold blockNoLimit; (repeat' split) <;> simp [*]

@[simp] theorem useBlocks_fab (n : Nat) (s : State) : (useBlocks n s).fab = s.fab := by
  unfold useBlocks; (repeat' split) <;> simp [*]

@[simp] theorem nvmeWrite_fab (u : NvmeUse) (cmds kind lba n : Nat) (s : State) : (nvmeWrite u cmds kind lba n s).fab = s.fab := by
  unfold nvmeWrite; (repeat' split) <;> simp [*]

@[simp] theorem writeBoot_fab (epoch : Nat) (s : State) : (writeBoot epoch s).fab = s.fab := by
  unfold writeBoot; (repeat' split) <;> simp [*]

@[simp] theorem vaultServe_fab (s : State) : (vaultServe s).fab = s.fab := by
  unfold vaultServe; (repeat' split) <;> simp [*]

@[simp] theorem vaultInit_fab (s : State) : (vaultInit s).fab = s.fab := by
  unfold vaultInit; dsimp only; (repeat' split) <;> simp [*]

@[simp] theorem vaultAccept_fab (back : List DriveBlock) (s : State) : (vaultAccept back s).fab = s.fab := by
  unfold vaultAccept; (repeat' split) <;> simp [*]

@[simp] theorem vaultSync_fab (s : State) : (vaultSync s).fab = s.fab := by
  unfold vaultSync; dsimp only; (repeat' split) <;> simp [*]

@[simp] theorem alertBoth_fab (s : State) : (alertBoth s).fab = s.fab := by
  unfold alertBoth; (repeat' split) <;> simp [*]

@[simp] theorem tempAlert_fab (s : State) : (tempAlert s).fab = s.fab := by
  unfold tempAlert; (repeat' split) <;> simp [*]

@[simp] theorem highAlert_fab (s : State) : (highAlert s).fab = s.fab := by
  unfold highAlert; (repeat' split) <;> simp [*]

@[simp] theorem wdtServed_fab (s : State) : (wdtServed s).fab = s.fab := by
  unfold wdtServed; (repeat' split) <;> simp [*]

@[simp] theorem mordantWrite_fab (f : State → State) (s : State) (h : ∀ s, (f s).fab = s.fab) : (mordantWrite f s).fab = s.fab := by
  unfold mordantWrite
  split
  · exact h s
  · simp

@[simp] theorem fwAdvance_fab (k : Nat) (n : Nat) (s : State) : (fwAdvance k n s).fab = s.fab := by
  induction n generalizing s with
  | zero => rfl
  | succ n ih => unfold fwAdvance; dsimp only; (repeat' split) <;> simp [*]

@[simp] theorem grantEnd_fab (s : State) : (grantEnd s).fab = s.fab := by
  unfold grantEnd; (repeat' split) <;> simp [*]

@[simp] theorem imgFinal_fab (cause slot : Nat) (s : State) : (imgFinal cause slot s).fab = s.fab := by
  unfold imgFinal; (repeat' split) <;> simp [*]

@[simp] theorem chanLost_fab (k : Nat) (s : State) : (chanLost k s).fab = s.fab := by
  unfold chanLost; (repeat' split) <;> simp [*]

@[simp] theorem failStreams_fab (k : Nat) (s : State) : (failStreams k s).fab = s.fab := by
  unfold failStreams; (repeat' split) <;> simp [*]

@[simp] theorem commitLeave_fab (k : Nat) (s : State) : (commitLeave k s).fab = s.fab := by
  unfold commitLeave; (repeat' split) <;> simp [*]

@[simp] theorem fillStop_fab (k : Nat) (s : State) : (fillStop k s).fab = s.fab := by
  unfold fillStop; (repeat' split) <;> simp [*]

@[simp] theorem chanStop_fab (k : Nat) (s : State) : (chanStop k s).fab = s.fab := by
  unfold chanStop; dsimp only; (repeat' split) <;> simp [*]

@[simp] theorem bankStop_fab (k : Nat) (s : State) : (bankStop k s).fab = s.fab := by
  unfold bankStop; (repeat' split) <;> simp [*]

@[simp] theorem chanFail_fab (k : Nat) (s : State) : (chanFail k s).fab = s.fab := by
  unfold chanFail; (repeat' split) <;> simp [*]

@[simp] theorem portFail_fab (k : Nat) (s : State) : (portFail k s).fab = s.fab := by
  unfold portFail; (repeat' split) <;> simp [*]

@[simp] theorem commitKeep_fab (k : Nat) (s : State) : (commitKeep k s).fab = s.fab := by
  unfold commitKeep; dsimp only; (repeat' split) <;> simp [*]

@[simp] theorem commitRead_fab (k : Nat) (f : Frame) (data : Bytes) (s : State) : (commitRead k f data s).fab = s.fab := by
  unfold commitRead; (repeat' split) <;> simp [*]

@[simp] theorem commitHalt_fab (k : Nat) (s : State) : (commitHalt k s).fab = s.fab := by
  unfold commitHalt; dsimp only; (repeat' split) <;> simp [*]

@[simp] theorem commitRetire_fab (k : Nat) (s : State) : (commitRetire k s).fab = s.fab := by
  unfold commitRetire; (repeat' split) <;> simp [*]

@[simp] theorem chanReady_fab (k : Nat) (s : State) : (chanReady k s).fab = s.fab := by
  unfold chanReady; (repeat' split) <;> simp [*]

@[simp] theorem escalateLater_fab (src scope : Nat) (doms : List Nat) (s : State) : (escalateLater src scope doms s).fab = s.fab := by
  unfold escalateLater; (repeat' split) <;> simp [*]

@[simp] theorem cfgTouch_fab (addr len : Nat) (s : State) : (cfgTouch addr len s).fab = s.fab := by
  unfold cfgTouch; (repeat' split) <;> simp [*]

@[simp] theorem dgaServe_fab (s : State) : (dgaServe s).fab = s.fab := by
  unfold dgaServe; (repeat' split) <;> simp [*]

@[simp] theorem upRing_fab (p g : Nat) (f : Ring → Ring) (s : State) : (upRing p g f s).fab = s.fab := by
  unfold upRing; (repeat' split) <;> simp [*]

@[simp] theorem ringErrorRecord_fab (p cause ring : Nat) (s : State) : (ringErrorRecord p cause ring s).fab = s.fab := by
  unfold ringErrorRecord; (repeat' split) <;> simp [*]

@[simp] theorem capsulesEnd_fab (q : Nat → Nat → Bool) (s : State) : (capsulesEnd q s).fab = s.fab := by
  unfold capsulesEnd; (repeat' split) <;> simp [*]

@[simp] theorem ringUnsubmit_fab (p g : Nat) (s : State) : (ringUnsubmit p g s).fab = s.fab := by
  unfold ringUnsubmit; (repeat' split) <;> simp [*]

@[simp] theorem ledgerExtend_fab (j : RingCmd) (s : State) : (ledgerExtend j s).fab = s.fab := by
  unfold ledgerExtend; (repeat' split) <;> simp [*]

@[simp] theorem counterIncrement_fab (h : Nat) (s : State) : (counterIncrement h s).fab = s.fab := by
  unfold counterIncrement; (repeat' split) <;> simp [*]

@[simp] theorem ringCreate_fab (p g depthLog2 sq cq tenant vector : Nat) (s : State) : (ringCreate p g depthLog2 sq cq tenant vector s).fab = s.fab := by
  unfold ringCreate; (repeat' split) <;> simp [*]

@[simp] theorem quotaSet_fab (q : Quota) (s : State) : (quotaSet q s).fab = s.fab := by
  unfold quotaSet; (repeat' split) <;> simp [*]

@[simp] theorem objAlloc_fab (counters : Bool) (r : Run) (s : State) : (objAlloc counters r s).fab = s.fab := by
  unfold objAlloc; (repeat' split) <;> simp [*]

@[simp] theorem objRelease_fab (counters : Bool) (r : Run) (s : State) : (objRelease counters r s).fab = s.fab := by
  unfold objRelease; (repeat' split) <;> simp [*]

@[simp] theorem batchClose_fab (s : State) : (batchClose s).fab = s.fab := by
  unfold batchClose; (repeat' split) <;> simp [*]

@[simp] theorem workWrite_fab (a : Nat) (b : Bytes) (s : State) : (workWrite a b s).fab = s.fab := by
  unfold workWrite
  rw [upLake_fab, upSc_fab]

@[simp] theorem workPut_fab (a : Nat) (b : Bytes) (s : State) : (workPut a b s).fab = s.fab := by
  simp [workPut, apply_ite State.fab]

@[simp] theorem lakeStore_fab (base : Nat) (cells : List (Nat × Byte)) (s : State) : (lakeStore base cells s).fab = s.fab := by
  unfold lakeStore; (repeat' split) <;> simp [*]

@[simp] theorem lakeFill_fab (base n : Nat) (cells : List (Nat × Byte)) (s : State) : (lakeFill base n cells s).fab = s.fab := by
  unfold lakeFill; (repeat' split) <;> simp [*]

@[simp] theorem imageWriteGo_fab (k base n : Nat) (cells : List (Nat × Byte)) (s : State) : (imageWriteGo k base n cells s).fab = s.fab := by
  unfold imageWriteGo; (repeat' split) <;> simp [*]

@[simp] theorem imageWrite_fab (k base n : Nat) (cells : List (Nat × Byte)) (s : State) : (imageWrite k base n cells s).fab = s.fab := by
  unfold imageWrite; (repeat' split) <;> simp [*]

@[simp] theorem hotFill_fab (p : PolicyImage) (r : PresentRec) (s : State) : (hotFill p r s).fab = s.fab := by
  unfold hotFill; (repeat' split) <;> simp [*]

@[simp] theorem underrunRecord_fab (r : PresentRec) (cause addr : Nat) (s : State) : (underrunRecord r cause addr s).fab = s.fab := by
  unfold underrunRecord; (repeat' split) <;> simp [*]

@[simp] theorem clearFail_fab (k : Nat) (s : State) : (clearFail k s).fab = s.fab := by
  unfold clearFail; (repeat' split) <;> simp [*]

@[simp] theorem streamGo_fab (k : Nat) (x : Source) (s : State) : (streamGo k x s).fab = s.fab := by
  unfold streamGo; (repeat' split) <;> simp [*]

@[simp] theorem streamFail_fab (i : Nat) (s : State) : (streamFail i s).fab = s.fab := by
  unfold streamFail; (repeat' split) <;> simp [*]

@[simp] theorem streamAll_fab (k : Nat) (cells : List (Nat × Byte)) (s : State) : (streamAll k cells s).fab = s.fab := by
  unfold streamAll; (repeat' split) <;> simp [*]

@[simp] theorem imgLoading_fab (k : Nat) (s : State) : (imgLoading k s).fab = s.fab := by
  unfold imgLoading; (repeat' split) <;> simp [*]

@[simp] theorem recoveryGo_fab (k : Nat) (fallback : Bool) (s : State) : (recoveryGo k fallback s).fab = s.fab := by
  unfold recoveryGo; dsimp only; (repeat' split) <;> simp [*]

theorem takeAction_fab (k : Nat) (fallback : Bool) (fails : State → State) (s : State) (h : ∀ s, (fails s).fab = s.fab) :
    (takeAction k fallback fails s).fab = s.fab := by
  unfold takeAction
  dsimp only
  (repeat' split) <;> simp [h]

@[simp] theorem fallbackAction_fab (k : Nat) (s : State) : (fallbackAction k s).fab = s.fab := by
  unfold fallbackAction
  split
  · apply takeAction_fab
    intro s
    simp
  · simp

@[simp] theorem actionFails_fab (k : Nat) (s : State) : (actionFails k s).fab = s.fab := by
  unfold actionFails; (repeat' split) <;> simp [*]

@[simp] theorem actionStart_fab (k : Nat) (s : State) : (actionStart k s).fab = s.fab := by
  unfold actionStart
  apply takeAction_fab
  intro s
  simp

@[simp] theorem switchHalves_fab (k : Nat) (s : State) : (switchHalves k s).fab = s.fab := by
  unfold switchHalves; (repeat' split) <;> simp [*]

@[simp] theorem verdictRecords_fab (k : Nat) (x : Source) (pass : Bool) (cause : Nat) (s : State) : (verdictRecords k x pass cause s).fab = s.fab := by
  unfold verdictRecords; (repeat' split) <;> simp [*]

@[simp] theorem keepJudged_fab (k : Nat) (m : Option Manifest) (digest : Bytes) (pass : Bool) (s : State) : (keepJudged k m digest pass s).fab = s.fab := by
  unfold keepJudged; (repeat' split) <;> simp [*]

@[simp] theorem afterPass_fab (k : Nat) (x : Source) (s : State) : (afterPass k x s).fab = s.fab := by
  unfold afterPass; dsimp only; (repeat' split) <;> simp [*]

@[simp] theorem afterFail_fab (k : Nat) (x : Source) (s : State) : (afterFail k x s).fab = s.fab := by
  unfold afterFail; (repeat' split) <;> simp [*]

@[simp] theorem writeVerdict_fab (k : Nat) (x : Source) (m : Option Manifest) (digest : Bytes) (pass : Bool) (cause : Nat) (s : State) : (writeVerdict k x m digest pass cause s).fab = s.fab := by
  unfold writeVerdict; (repeat' split) <;> simp [*]

@[simp] theorem svnRaise_fab (idx n : Nat) (s : State) : (svnRaise idx n s).fab = s.fab := by
  unfold svnRaise; (repeat' split) <;> simp [*]

@[simp] theorem svnRecord_fab (idx n : Nat) (s : State) : (svnRecord idx n s).fab = s.fab := by
  unfold svnRecord; (repeat' split) <;> simp [*]

@[simp] theorem polFloorRaise_fab (n : Nat) (s : State) : (polFloorRaise n s).fab = s.fab := by
  unfold polFloorRaise; (repeat' split) <;> simp [*]

@[simp] theorem upMgt_fab (b : Bool) (f : Mgt → Mgt) (s : State) : (upMgt b f s).fab = s.fab := by
  unfold upMgt; (repeat' split) <;> simp [*]

@[simp] theorem capsuleEnd_fab (reason : Nat) (s : State) : (capsuleEnd reason s).fab = s.fab := by
  unfold capsuleEnd; dsimp only; (repeat' split) <;> simp [*]

@[simp] theorem capsuleRefuse_fab (j : CapsuleJob) (reason : Nat) (s : State) : (capsuleRefuse j reason s).fab = s.fab := by
  unfold capsuleRefuse; (repeat' split) <;> simp [*]

@[simp] theorem capsuleAccept_fab (s : State) : (capsuleAccept s).fab = s.fab := by
  unfold capsuleAccept; (repeat' split) <;> simp [*]

@[simp] theorem capsuleStep_fab (n : Nat) (s : State) : (capsuleStep n s).fab = s.fab := by
  unfold capsuleStep; (repeat' split) <;> simp [*]

@[simp] theorem capsuleWrite_fab (j : CapsuleJob) (s : State) : (capsuleWrite j s).fab = s.fab := by
  unfold capsuleWrite; (repeat' split) <;> simp [*]

@[simp] theorem capsuleRecord_fab (j : CapsuleJob) (s : State) : (capsuleRecord j s).fab = s.fab := by
  unfold capsuleRecord; (repeat' split) <;> simp [*]

@[simp] theorem mgtMsg_fab (b : Bool) (s : State) : (mgtMsg b s).fab = s.fab := by
  unfold mgtMsg; (repeat' split) <;> simp [*]

@[simp] theorem cfgWrite_fab (f : CfgFlash → CfgFlash) (s : State) : (cfgWrite f s).fab = s.fab := by
  unfold cfgWrite; (repeat' split) <;> simp [*]

@[simp] theorem putDir_fab (second : Bool) (d : DirCopy) (s : State) : (putDir second d s).fab = s.fab := by
  unfold putDir; (repeat' split) <;> simp [*]

@[simp] theorem breakDir_fab (s : State) : (breakDir s).fab = s.fab := by
  unfold breakDir; (repeat' split) <;> simp [*]

@[simp] theorem rewriteDir_fab (f : BootDir → BootDir) (s : State) : (rewriteDir f s).fab = s.fab := by
  unfold rewriteDir; (repeat' split) <;> simp [*]

@[simp] theorem putComponent_fab (c : Component) (b : Bool) (s : State) : (putComponent c b s).fab = s.fab := by
  unfold putComponent; (repeat' split) <;> simp [*]

@[simp] theorem dropComponent_fab (c : Component) (b : Bool) (s : State) : (dropComponent c b s).fab = s.fab := by
  unfold dropComponent; (repeat' split) <;> simp [*]

@[simp] theorem pushedRecord_fab (c : Component) (slot : Bool) (outcome : Nat) (g : Gate) (eff : State → State) (s : State)
    (h : ∀ s, (eff s).fab = s.fab) : (pushedRecord c slot outcome g eff s).fab = s.fab := by
  unfold pushedRecord
  split
  · exact h s
  · exact gated_fab _ _ _ _ _ _ h

@[simp] theorem promoted_fab (c : Component) (cleared : Bool) (s : State) : (promoted c cleared s).fab = s.fab := by
  unfold promoted; (repeat' split) <;> simp [*]

@[simp] theorem promote_fab (c : Component) (copied cleared : Bool) (s : State) : (promote c copied cleared s).fab = s.fab := by
  unfold promote; (repeat' split) <;> simp [*]

@[simp] theorem romPrepare_fab (p : PolicyImage) (s : State) : (romPrepare p s).fab = s.fab := by
  unfold romPrepare; (repeat' split) <;> simp [*]

@[simp] theorem romLock_fab (p : PolicyImage) (s : State) : (romLock p s).fab = s.fab := by
  unfold romLock; (repeat' split) <;> simp [*]

@[simp] theorem bayHolds_fab (s : State) : (bayHolds s).fab = s.fab := by
  unfold bayHolds
  apply each_fab
  intro n s
  split <;> simp

@[simp] theorem finishPromotions_fab (s : State) : (finishPromotions s).fab = s.fab := by
  unfold finishPromotions; (repeat' split) <;> simp [*]

@[simp] theorem refreshDir_fab (s : State) : (refreshDir s).fab = s.fab := by
  unfold refreshDir; (repeat' split) <;> simp [*]

@[simp] theorem promotionGo_fab (pol cleared : Bool) (s : State) : (promotionGo pol cleared s).fab = s.fab := by
  unfold promotionGo; (repeat' split) <;> simp [*]

@[simp] theorem cbusStart_fab (found : List (Nat × Nat)) (s : State) : (cbusStart found s).fab = s.fab := by
  unfold cbusStart; dsimp only; (repeat' split) <;> simp [*, apply_ite State.fab]

@[simp] theorem relReqBit_fab (d : Nat) (s : State) : (relReqBit d s).fab = s.fab := by
  unfold relReqBit; (repeat' split) <;> simp [*]

@[simp] theorem otpDropped_fab (s : State) : (otpDropped s).fab = s.fab := by
  unfold otpDropped; (repeat' split) <;> simp [*]

@[simp] theorem otpRefuse_fab (op addr : Nat) (s : State) : (otpRefuse op addr s).fab = s.fab := by
  unfold otpRefuse; (repeat' split) <;> simp [*]

@[simp] theorem otpAfter_fab (p : OtpPend) (s : State) : (otpAfter p s).fab = s.fab := by
  unfold otpAfter; (repeat' split) <;> simp [*]

@[simp] theorem ratchetBurn_fab (n : Nat) (s : State) : (ratchetBurn n s).fab = s.fab := by
  unfold ratchetBurn; (repeat' split) <;> simp [*]

@[simp] theorem lcStepBegin_fab (s : State) : (lcStepBegin s).fab = s.fab := by
  unfold lcStepBegin; (repeat' split) <;> simp [*]

@[simp] theorem lcStepGo_fab (auth : Nat) (s : State) : (lcStepGo auth s).fab = s.fab := by
  unfold lcStepGo; (repeat' split) <;> simp [*]

@[simp] theorem otpNext_fab (s : State) : (otpNext s).fab = s.fab := by
  unfold otpNext; (repeat' split) <;> simp [*]

@[simp] theorem scrubFinish_fab (k : Nat) (s : State) : (scrubFinish k s).fab = s.fab := by
  unfold scrubFinish; (repeat' split) <;> simp [*]

@[simp] theorem scrubStart_fab (k : Nat) (n : Nat) (s : State) : (scrubStart k n s).fab = s.fab := by
  induction n generalizing s with
  | zero => rfl
  | succ n ih => unfold scrubStart; dsimp only; (repeat' split) <;> simp [*]

@[simp] theorem startFrame_fab (k : Nat) (f : Frame) (s : State) : (startFrame k f s).fab = s.fab := by
  unfold startFrame; (repeat' split) <;> simp [*]

@[simp] theorem grantFrame_fab (k : Nat) (cl : Client) (s : State) : (grantFrame k cl s).fab = s.fab := by
  unfold grantFrame; dsimp only; (repeat' split) <;> simp [*]

@[simp] theorem sramWrite_fab (a : Nat) (b : Bytes) (s : State) : (sramWrite a b s).fab = s.fab := by
  unfold sramWrite; (repeat' split) <;> simp [*]

@[simp] theorem scatter_fab (l : List QEntry) (data : Bytes) (s : State) : (scatter l data s).fab = s.fab := by
  induction l generalizing data s with
  | nil => rfl
  | cons a r ih => unfold scatter; rw [ih]; simp

@[simp] theorem fwFrameDone_fab (k : Nat) (f : Frame) (st : Nat) (s : State) : (fwFrameDone k f st s).fab = s.fab := by
  unfold fwFrameDone; (repeat' split) <;> simp [*]

@[simp] theorem streamIn_fab (i : Nat) (f : Frame) (data : Bytes) (s : State) : (streamIn i f data s).fab = s.fab := by
  unfold streamIn; (repeat' split) <;> simp [*]

@[simp] theorem calibrateOn_fab (k : Nat) (cal : Cal) (s : State) : (calibrateOn k cal s).fab = s.fab := by
  unfold calibrateOn; (repeat' split) <;> simp [*]

@[simp] theorem endPoll_fab (k dev : Nat) (s : State) : (endPoll k dev s).fab = s.fab := by
  unfold endPoll; (repeat' split) <;> simp [*]

@[simp] theorem replayCheck_fab (k : Nat) (s : State) : (replayCheck k s).fab = s.fab := by
  unfold replayCheck; dsimp only; (repeat' split) <;> simp [*]

@[simp] theorem emitAttested_fab (j : Nat) (kind result cause ver : Nat) (digest : Bytes) (s : State) : (emitAttested j kind result cause ver digest s).fab = s.fab := by
  unfold emitAttested; (repeat' split) <;> simp [*]

@[simp] theorem resubmitAll_fab (s : State) : (resubmitAll s).fab = s.fab := by
  unfold resubmitAll
  rw [foldl_fab]
  · simp
  · intro s w
    split <;> simp

@[simp] theorem wdtCtrlWrite_fab (v : BitVec 32) (s : State) : (wdtCtrlWrite v s).fab = s.fab := by
  unfold wdtCtrlWrite; (repeat' split) <;> simp [*]

@[simp] theorem wdtCapture_fab (cause : Nat) (pc : BitVec 64) (s : State) : (wdtCapture cause pc s).fab = s.fab := by
  unfold wdtCapture; (repeat' split) <;> simp [*]

@[simp] theorem upSig_fab (e : Bool) (f : SigEng → SigEng) (s : State) : (upSig e f s).fab = s.fab := by
  unfold upSig; (repeat' split) <;> simp [*]

@[simp] theorem sigRemove_fab (e : Bool) (s : State) : (sigRemove e s).fab = s.fab := by
  unfold sigRemove; (repeat' split) <;> simp [*]

@[simp] theorem applyWrite_fab (p : PolicyImage) (r : PresentRec) (j : JEntry) (s : State) : (applyWrite p r j s).fab = s.fab := by
  unfold applyWrite; (repeat' split) <;> simp [*]

@[simp] theorem brStore_fab (epoch : Nat) (b : Bytes) (s : State) : (brStore epoch b s).fab = s.fab := by
  unfold brStore; (repeat' split) <;> simp [*]

@[simp] theorem newChallenge_fab (s : State) : (newChallenge s).fab = s.fab := by
  unfold newChallenge; (repeat' split) <;> simp [*]

@[simp] theorem mbxFinish_fab (b : Bool) (result : Nat) (s : State) : (mbxFinish b result s).fab = s.fab := by
  unfold mbxFinish; (repeat' split) <;> simp [*]

@[simp] theorem exportFree_fab (i : Nat) (s : State) : (exportFree i s).fab = s.fab := by
  unfold exportFree
  dsimp only
  split
  · rw [foldl_fab]
    intro s k
    split <;> simp
  · rw [emit_fab, foldl_fab]
    intro s k
    split <;> simp

@[simp] theorem journalCmdEntry_fab (j : RingCmd) (body : Bytes) (s : State) : (journalCmdEntry j body s).fab = s.fab := by
  unfold journalCmdEntry; (repeat' split) <;> simp [*]

@[simp] theorem holdCmd_fab (p g : Nat) (e : Bytes) (s : State) : (holdCmd p g e s).fab = s.fab := by
  unfold holdCmd; (repeat' split) <;> simp [*]

@[simp] theorem accessEnd_fab (p g : Nat) (u : AccessUse) (s : State) : (accessEnd p g u s).fab = s.fab := by
  unfold accessEnd; (repeat' split) <;> simp [*]

@[simp] theorem vectorSend_fab (p v : Nat) (s : State) : (vectorSend p v s).1.fab = s.fab := by
  unfold vectorSend; (repeat' split) <;> simp [*]

@[simp] theorem takeSealNo_fab (s : State) : (takeSealNo s).fab = s.fab := by
  unfold takeSealNo; (repeat' split) <;> simp [*]

@[simp] theorem fetchGood_fab (p g : Nat) (r : Ring) (f : Fetched) (s : State) : (fetchGood p g r f s).fab = s.fab := by
  unfold fetchGood; dsimp only; (repeat' split) <;> simp [*]

@[simp] theorem fetchBad_fab (p g : Nat) (r : Ring) (f : Fetched) (status : Nat) (s : State) : (fetchBad p g r f status s).fab = s.fab := by
  unfold fetchBad; (repeat' split) <;> simp [*]

@[simp] theorem fetchTaken_fab (p g : Nat) (s : State) : (fetchTaken p g s).fab = s.fab := by
  unfold fetchTaken; (repeat' split) <;> simp [*]

@[simp] theorem completionWritten_fab (p g : Nat) (j : RingCmd) (s : State) : (completionWritten p g j s).fab = s.fab := by
  unfold completionWritten; (repeat' split) <;> simp [*]

@[simp] theorem upAdm_fab (p a : Nat) (f : AdmRegs → AdmRegs) (s : State) : (upAdm p a f s).fab = s.fab := by
  unfold upAdm; (repeat' split) <;> simp [*]

@[simp] theorem admWrite_fab (p a : Nat) (v : BitVec 32) (s : State) : (admWrite p a v s).fab = s.fab := by
  unfold admWrite; dsimp only; (repeat' split) <;> simp [*]

@[simp] theorem mbxGo_fab (b : Bool) (s : State) : (mbxGo b s).fab = s.fab := by
  unfold mbxGo; dsimp only; (repeat' split) <;> simp [*]

@[simp] theorem writeMailbox_fab (b : Bool) (a : Nat) (w : BitVec 32) (s : State) : (writeMailbox b a w s).fab = s.fab := by
  unfold writeMailbox; (repeat' split) <;> simp [*]

@[simp] theorem writeChan_fab (k a : Nat) (v : BitVec 32) (s : State) : (writeChan k a v s).fab = s.fab := by
  unfold writeChan; (repeat' split) <;> simp [*]

@[simp] theorem writeOtpc_fab (a : Nat) (v : BitVec 32) (s : State) : (writeOtpc a v s).fab = s.fab := by
  unfold writeOtpc; dsimp only; (repeat' split) <;> simp [*]

@[simp] theorem writeSig_fab (e : Bool) (a : Nat) (v : BitVec 32) (s : State) : (writeSig e a v s).fab = s.fab := by
  unfold writeSig; dsimp only; (repeat' split) <;> simp [*]

@[simp] theorem writeSic_fab (a : Nat) (v : BitVec 32) (s : State) : (writeSic a v s).fab = s.fab := by
  unfold writeSic; (repeat' split) <;> simp [*]

@[simp] theorem writeWdt_fab (a : Nat) (v : BitVec 32) (s : State) : (writeWdt a v s).fab = s.fab := by
  unfold writeWdt; (repeat' split) <;> simp [*]

@[simp] theorem writeDga_fab (a : Nat) (v : BitVec 32) (s : State) : (writeDga a v s).fab = s.fab := by
  unfold writeDga; (repeat' split) <;> simp [*]

@[simp] theorem nvmeFail_fab (s : State) : (nvmeFail s).fab = s.fab := by
  unfold nvmeFail; (repeat' split) <;> simp [*]

@[simp] theorem frameAbandon_fab (k : Nat) (cl : Client) (s : State) : (frameAbandon k cl s).fab = s.fab := by
  unfold frameAbandon; (repeat' split) <;> simp [*]

@[simp] theorem restartStream_fab (k : Nat) (s : State) : (restartStream k s).fab = s.fab := by
  unfold restartStream; (repeat' split) <;> simp [*]

@[simp] theorem romFloor_fab (cause : Nat) (s : State) : (romFloor cause s).fab = s.fab := by
  unfold romFloor; (repeat' split) <;> simp [*]

@[simp] theorem romFuses_fab (t : SelfTest) (s : State) : (romFuses t s).fab = s.fab := by
  unfold romFuses; (repeat' split) <;> simp [*]

@[simp] theorem romTake_fab (slot : Bool) (b : Bundle) (s : State) : (romTake slot b s).fab = s.fab := by
  unfold romTake; dsimp only; (repeat' split) <;> simp [*]

@[simp] theorem romSlot_fab (t : SelfTest) (slot : Bool) (s : State) : (romSlot t slot s).fab = s.fab := by
  unfold romSlot; dsimp only; (repeat' split) <;> simp [*]

@[simp] theorem romPolicy_fab (t : SelfTest) (s : State) : (romPolicy t s).fab = s.fab := by
  unfold romPolicy; (repeat' split) <;> simp [*]

@[simp] theorem romNoPolicy_fab (s : State) : (romNoPolicy s).fab = s.fab := by
  unfold romNoPolicy; (repeat' split) <;> simp [*]

@[simp] theorem tickTimer_fab (s : State) : (tickTimer s).fab = s.fab := by
  unfold tickTimer; (repeat' split) <;> simp [*]

@[simp] theorem tickWdt_fab (s : State) : (tickWdt s).fab = s.fab := by
  unfold tickWdt; (repeat' split) <;> simp [*]

@[simp] theorem withPending_fab (q : List Instr) (s : State) : (withPending q s).fab = s.fab := by
  unfold withPending; (repeat' split) <;> simp [*]

@[simp] theorem State.withFetchWord_fab (s : State) (nbits w : Nat) : (State.withFetchWord s nbits w).fab = s.fab := by
  unfold State.withFetchWord; (repeat' split) <;> simp [*]

end Sys2Proof.Machine
end

