-- ==== Sys2Proof/Laws/FrameMor.lean ====
section
/-! SUPPORT. Frame lemmas of the Mordant and AON state: one simp lemma for each shared operation of Machine/*.lean
that never writes `State.mor`, so that a proof about a command reads the field through the
operation without unfolding it. An operation without a lemma here may write the field. -/

namespace Sys2Proof.Machine

open Sys2Proof

set_option linter.unusedSimpArgs false
set_option linter.unusedTactic false
set_option linter.unnecessarySeqFocus false
set_option linter.unreachableTactic false
set_option linter.unusedVariables false

@[simp] theorem each_mor (l : List Nat) (f : Nat → State → State) (s : State) (h : ∀ n s, (f n s).mor = s.mor) :
    (each l f s).mor = s.mor := by
  unfold each
  induction l generalizing s with
  | nil => rfl
  | cons a r ih => simp [ih, h]

@[simp] theorem foldl_mor {α : Type} (l : List α) (f : State → α → State) (s : State) (h : ∀ s n, (f s n).mor = s.mor) :
    (l.foldl f s).mor = s.mor := by
  induction l generalizing s with
  | nil => rfl
  | cons a r ih => simp [ih, h]

@[simp] theorem gated_mor (code src : Nat) (body : Bytes) (g : Gate) (eff : State → State) (s : State)
    (h : ∀ s, (eff s).mor = s.mor) : (gated code src body g eff s).mor = s.mor := by
  unfold gated
  dsimp only
  (repeat' split) <;> simp [h]

@[simp] theorem say_mor (r : Reply) (s : State) : (say r s).mor = s.mor := by
  unfold say; (repeat' split) <;> simp [*]

@[simp] theorem drawn_mor (s : State) : (drawn s).mor = s.mor := by
  unfold drawn; (repeat' split) <;> simp [*]

@[simp] theorem emit_mor (code src : Nat) (body : Bytes) (s : State) : (emit code src body s).mor = s.mor := by
  unfold emit; (repeat' split) <;> simp [*]

@[simp] theorem emitFw_mor (code : Nat) (body : Bytes) (s : State) : (emitFw code body s).mor = s.mor := by
  unfold emitFw; (repeat' split) <;> simp [*]

@[simp] theorem upImg_mor (k : Nat) (f : Img → Img) (s : State) : (upImg k f s).mor = s.mor := by
  unfold upImg; (repeat' split) <;> simp [*]

@[simp] theorem upChan_mor (k : Nat) (f : Channel → Channel) (s : State) : (upChan k f s).mor = s.mor := by
  unfold upChan; (repeat' split) <;> simp [*]

@[simp] theorem upEm_mor (k : Nat) (f : EmDev → EmDev) (s : State) : (upEm k f s).mor = s.mor := by
  unfold upEm; (repeat' split) <;> simp [*]

@[simp] theorem upPort_mor (k : Nat) (f : Port → Port) (s : State) : (upPort k f s).mor = s.mor := by
  unfold upPort; (repeat' split) <;> simp [*]

@[simp] theorem domProtoReset_mor (d : Nat) (s : State) : (domProtoReset d s).mor = s.mor := by
  unfold domProtoReset; (repeat' split) <;> simp [*]

@[simp] theorem upEp_mor (j : Nat) (f : Ep → Ep) (s : State) : (upEp j f s).mor = s.mor := by
  unfold upEp; (repeat' split) <;> simp [*]

@[simp] theorem upCbus_mor (i : Nat) (f : CbusComp → CbusComp) (s : State) : (upCbus i f s).mor = s.mor := by
  unfold upCbus; (repeat' split) <;> simp [*]

@[simp] theorem aerReport_mor (port n : Nat) (s : State) : (aerReport port n s).mor = s.mor := by
  unfold aerReport; (repeat' split) <;> simp [*]

@[simp] theorem dropHeld_mor (port : Nat) (s : State) : (dropHeld port s).mor = s.mor := by
  unfold dropHeld; (repeat' split) <;> simp [*]

@[simp] theorem endMediation_mor (port : Nat) (s : State) : (endMediation port s).mor = s.mor := by
  unfold endMediation; (repeat' split) <;> simp [*]

@[simp] theorem linkDrop_mor (port : Nat) (s : State) : (linkDrop port s).mor = s.mor := by
  unfold linkDrop; (repeat' split) <;> simp [*]

@[simp] theorem startRecheck_mor (k : AttKind) (j : Nat) (s : State) : (startRecheck k j s).mor = s.mor := by
  unfold startRecheck; (repeat' split) <;> simp [*]

@[simp] theorem emitContained_mor (j : Nat) (s : State) : (emitContained j s).mor = s.mor := by
  unfold emitContained; (repeat' split) <;> simp [*]

@[simp] theorem epContain_mor (f : Causes → Causes) (j : Nat) (s : State) : (epContain f j s).mor = s.mor := by
  unfold epContain; (repeat' split) <;> simp [*]

@[simp] theorem epRecheck_mor (f : Causes → Causes) (wait : Bool) (j : Nat) (s : State) : (epRecheck f wait j s).mor = s.mor := by
  unfold epRecheck; (repeat' split) <;> simp [*]

@[simp] theorem epChanged_mor (digest : Bytes) (j : Nat) (s : State) : (epChanged digest j s).mor = s.mor := by
  unfold epChanged; (repeat' split) <;> simp [*]

@[simp] theorem epRefuse_mor (j : Nat) (s : State) : (epRefuse j s).mor = s.mor := by
  unfold epRefuse; (repeat' split) <;> simp [*]

@[simp] theorem epOpen_mor (j : Nat) (s : State) : (epOpen j s).mor = s.mor := by
  unfold epOpen; dsimp only; (repeat' split) <;> simp [*]

@[simp] theorem imgAgain_mor (k : Nat) (s : State) : (imgAgain k s).mor = s.mor := by
  unfold imgAgain; (repeat' split) <;> simp [*]

@[simp] theorem epRelease_mor (d j : Nat) (s : State) : (epRelease d j s).mor = s.mor := by
  unfold epRelease; (repeat' split) <;> simp [*]

@[simp] theorem vatRelease_mor (s : State) : (vatRelease s).mor = s.mor := by
  unfold vatRelease
  apply each_mor
  intro j s
  try dsimp only
  split <;> simp

@[simp] theorem vatGrant_mor (s : State) : (vatGrant s).mor = s.mor := by
  unfold vatGrant; (repeat' split) <;> simp [*]

@[simp] theorem recheckGo_mor (s : State) : (recheckGo s).mor = s.mor := by
  unfold recheckGo; (repeat' split) <;> simp [*]

@[simp] theorem brClose_mor (s : State) : (brClose s).mor = s.mor := by
  unfold brClose; (repeat' split) <;> simp [*]

@[simp] theorem lateAnswer_mor (b : Bool) (cmd flags result : Nat) (body : Bytes) (s : State) : (lateAnswer b cmd flags result body s).mor = s.mor := by
  unfold lateAnswer; (repeat' split) <;> simp [*]

@[simp] theorem nvmeDrop_mor (s : State) : (nvmeDrop s).mor = s.mor := by
  unfold nvmeDrop
  refine (foldl_mor _ _ _ ?_).trans (by simp)
  intro s c
  try dsimp only
  split <;> simp

@[simp] theorem vaultSet_mor (st : VaultState) (code cause : Nat) (s : State) : (vaultSet st code cause s).mor = s.mor := by
  unfold vaultSet; (repeat' split) <;> simp [*]

@[simp] theorem nvmeIssue_mor (l : List NvmeUse) (s : State) : (nvmeIssue l s).mor = s.mor := by
  unfold nvmeIssue; (repeat' split) <;> simp [*]

@[simp] theorem rekey_mor (s : State) : (rekey s).mor = s.mor := by
  unfold rekey; dsimp only; (repeat' split) <;> simp [*]

@[simp] theorem blockNoLimit_mor (s : State) : (blockNoLimit s).mor = s.mor := by
  unfold blockNoLimit; (repeat' split) <;> simp [*]

@[simp] theorem useBlocks_mor (n : Nat) (s : State) : (useBlocks n s).mor = s.mor := by
  unfold useBlocks; (repeat' split) <;> simp [*]

@[simp] theorem nvmeWrite_mor (u : NvmeUse) (cmds kind lba n : Nat) (s : State) : (nvmeWrite u cmds kind lba n s).mor = s.mor := by
  unfold nvmeWrite; (repeat' split) <;> simp [*]

@[simp] theorem writeBoot_mor (epoch : Nat) (s : State) : (writeBoot epoch s).mor = s.mor := by
  unfold writeBoot; (repeat' split) <;> simp [*]

@[simp] theorem vaultServe_mor (s : State) : (vaultServe s).mor = s.mor := by
  unfold vaultServe; (repeat' split) <;> simp [*]

@[simp] theorem vaultInit_mor (s : State) : (vaultInit s).mor = s.mor := by
  unfold vaultInit; dsimp only; (repeat' split) <;> simp [*]

@[simp] theorem vaultAccept_mor (back : List DriveBlock) (s : State) : (vaultAccept back s).mor = s.mor := by
  unfold vaultAccept; (repeat' split) <;> simp [*]

@[simp] theorem vaultSync_mor (s : State) : (vaultSync s).mor = s.mor := by
  unfold vaultSync; dsimp only; (repeat' split) <;> simp [*]

@[simp] theorem alertBoth_mor (s : State) : (alertBoth s).mor = s.mor := by
  unfold alertBoth; (repeat' split) <;> simp [*]

@[simp] theorem tempAlert_mor (s : State) : (tempAlert s).mor = s.mor := by
  unfold tempAlert; (repeat' split) <;> simp [*]

@[simp] theorem highAlert_mor (s : State) : (highAlert s).mor = s.mor := by
  unfold highAlert; (repeat' split) <;> simp [*]

@[simp] theorem tripGate_mor (s : State) : (tripGate s).mor = s.mor := by
  unfold tripGate; (repeat' split) <;> simp [*]

@[simp] theorem wdtServed_mor (s : State) : (wdtServed s).mor = s.mor := by
  unfold wdtServed; (repeat' split) <;> simp [*]

@[simp] theorem mordantWrite_mor (f : State → State) (s : State) (h : ∀ s, (f s).mor = s.mor) : (mordantWrite f s).mor = s.mor := by
  unfold mordantWrite
  split
  · exact h s
  · simp

@[simp] theorem fwAdvance_mor (k : Nat) (n : Nat) (s : State) : (fwAdvance k n s).mor = s.mor := by
  induction n generalizing s with
  | zero => rfl
  | succ n ih => unfold fwAdvance; dsimp only; (repeat' split) <;> simp [*]

@[simp] theorem grantEnd_mor (s : State) : (grantEnd s).mor = s.mor := by
  unfold grantEnd; (repeat' split) <;> simp [*]

@[simp] theorem failStreams_mor (k : Nat) (s : State) : (failStreams k s).mor = s.mor := by
  unfold failStreams; (repeat' split) <;> simp [*]

@[simp] theorem commitLeave_mor (k : Nat) (s : State) : (commitLeave k s).mor = s.mor := by
  unfold commitLeave; (repeat' split) <;> simp [*]

@[simp] theorem fillStop_mor (k : Nat) (s : State) : (fillStop k s).mor = s.mor := by
  unfold fillStop; (repeat' split) <;> simp [*]

@[simp] theorem portFail_mor (k : Nat) (s : State) : (portFail k s).mor = s.mor := by
  unfold portFail; (repeat' split) <;> simp [*]

@[simp] theorem commitKeep_mor (k : Nat) (s : State) : (commitKeep k s).mor = s.mor := by
  unfold commitKeep; dsimp only; (repeat' split) <;> simp [*]

@[simp] theorem commitRead_mor (k : Nat) (f : Frame) (data : Bytes) (s : State) : (commitRead k f data s).mor = s.mor := by
  unfold commitRead; (repeat' split) <;> simp [*]

@[simp] theorem commitRetire_mor (k : Nat) (s : State) : (commitRetire k s).mor = s.mor := by
  unfold commitRetire; (repeat' split) <;> simp [*]

@[simp] theorem chanReady_mor (k : Nat) (s : State) : (chanReady k s).mor = s.mor := by
  unfold chanReady; (repeat' split) <;> simp [*]

@[simp] theorem escalateLater_mor (src scope : Nat) (doms : List Nat) (s : State) : (escalateLater src scope doms s).mor = s.mor := by
  unfold escalateLater; (repeat' split) <;> simp [*]

@[simp] theorem cfgTouch_mor (addr len : Nat) (s : State) : (cfgTouch addr len s).mor = s.mor := by
  unfold cfgTouch; (repeat' split) <;> simp [*]

@[simp] theorem dgaServe_mor (s : State) : (dgaServe s).mor = s.mor := by
  unfold dgaServe; (repeat' split) <;> simp [*]

@[simp] theorem upRing_mor (p g : Nat) (f : Ring → Ring) (s : State) : (upRing p g f s).mor = s.mor := by
  unfold upRing; (repeat' split) <;> simp [*]

@[simp] theorem ringErrorRecord_mor (p cause ring : Nat) (s : State) : (ringErrorRecord p cause ring s).mor = s.mor := by
  unfold ringErrorRecord; (repeat' split) <;> simp [*]

@[simp] theorem capsulesEnd_mor (q : Nat → Nat → Bool) (s : State) : (capsulesEnd q s).mor = s.mor := by
  unfold capsulesEnd; (repeat' split) <;> simp [*]

@[simp] theorem ringUnsubmit_mor (p g : Nat) (s : State) : (ringUnsubmit p g s).mor = s.mor := by
  unfold ringUnsubmit; (repeat' split) <;> simp [*]

@[simp] theorem ledgerExtend_mor (j : RingCmd) (s : State) : (ledgerExtend j s).mor = s.mor := by
  unfold ledgerExtend; (repeat' split) <;> simp [*]

@[simp] theorem counterIncrement_mor (h : Nat) (s : State) : (counterIncrement h s).mor = s.mor := by
  unfold counterIncrement; (repeat' split) <;> simp [*]

@[simp] theorem ringCreate_mor (p g depthLog2 sq cq tenant vector : Nat) (s : State) : (ringCreate p g depthLog2 sq cq tenant vector s).mor = s.mor := by
  unfold ringCreate; (repeat' split) <;> simp [*]

@[simp] theorem quotaSet_mor (q : Quota) (s : State) : (quotaSet q s).mor = s.mor := by
  unfold quotaSet; (repeat' split) <;> simp [*]

@[simp] theorem objAlloc_mor (counters : Bool) (r : Run) (s : State) : (objAlloc counters r s).mor = s.mor := by
  unfold objAlloc; (repeat' split) <;> simp [*]

@[simp] theorem objRelease_mor (counters : Bool) (r : Run) (s : State) : (objRelease counters r s).mor = s.mor := by
  unfold objRelease; (repeat' split) <;> simp [*]

@[simp] theorem batchClose_mor (s : State) : (batchClose s).mor = s.mor := by
  unfold batchClose; (repeat' split) <;> simp [*]

@[simp] theorem epHot_mor (j : Nat) (s : State) : (epHot j s).mor = s.mor := by
  unfold epHot; dsimp only; (repeat' split) <;> simp [*]

@[simp] theorem partHot_mor (p : Nat) (s : State) : (partHot p s).mor = s.mor := by
  unfold partHot; (repeat' split) <;> simp [*]

@[simp] theorem dropPart_mor (p : Nat) (s : State) : (dropPart p s).mor = s.mor := by
  unfold dropPart; (repeat' split) <;> simp [*]

@[simp] theorem upstreamDown_mor (p : Nat) (s : State) : (upstreamDown p s).mor = s.mor := by
  unfold upstreamDown; (repeat' split) <;> simp [*]

@[simp] theorem workWrite_mor (a : Nat) (b : Bytes) (s : State) : (workWrite a b s).mor = s.mor := by
  unfold workWrite
  rw [upLake_mor, upSc_mor]

@[simp] theorem workPut_mor (a : Nat) (b : Bytes) (s : State) : (workPut a b s).mor = s.mor := by
  unfold workPut; (repeat' split) <;> simp [*]

@[simp] theorem lakeStore_mor (base : Nat) (cells : List (Nat × Byte)) (s : State) : (lakeStore base cells s).mor = s.mor := by
  unfold lakeStore; (repeat' split) <;> simp [*]

@[simp] theorem lakeFill_mor (base n : Nat) (cells : List (Nat × Byte)) (s : State) : (lakeFill base n cells s).mor = s.mor := by
  unfold lakeFill; (repeat' split) <;> simp [*]

@[simp] theorem imageWriteGo_mor (k base n : Nat) (cells : List (Nat × Byte)) (s : State) : (imageWriteGo k base n cells s).mor = s.mor := by
  unfold imageWriteGo; (repeat' split) <;> simp [*]

@[simp] theorem imageWrite_mor (k base n : Nat) (cells : List (Nat × Byte)) (s : State) : (imageWrite k base n cells s).mor = s.mor := by
  unfold imageWrite; (repeat' split) <;> simp [*]

@[simp] theorem hotFill_mor (p : PolicyImage) (r : PresentRec) (s : State) : (hotFill p r s).mor = s.mor := by
  unfold hotFill; (repeat' split) <;> simp [*]

@[simp] theorem underrunRecord_mor (r : PresentRec) (cause addr : Nat) (s : State) : (underrunRecord r cause addr s).mor = s.mor := by
  unfold underrunRecord; (repeat' split) <;> simp [*]

@[simp] theorem streamFail_mor (i : Nat) (s : State) : (streamFail i s).mor = s.mor := by
  unfold streamFail; (repeat' split) <;> simp [*]

@[simp] theorem streamAll_mor (k : Nat) (cells : List (Nat × Byte)) (s : State) : (streamAll k cells s).mor = s.mor := by
  unfold streamAll; (repeat' split) <;> simp [*]

@[simp] theorem imgLoading_mor (k : Nat) (s : State) : (imgLoading k s).mor = s.mor := by
  unfold imgLoading; (repeat' split) <;> simp [*]

@[simp] theorem recoveryGo_mor (k : Nat) (fallback : Bool) (s : State) : (recoveryGo k fallback s).mor = s.mor := by
  unfold recoveryGo; dsimp only; (repeat' split) <;> simp [*]

@[simp] theorem switchHalves_mor (k : Nat) (s : State) : (switchHalves k s).mor = s.mor := by
  unfold switchHalves; (repeat' split) <;> simp [*]

@[simp] theorem verdictRecords_mor (k : Nat) (x : Source) (pass : Bool) (cause : Nat) (s : State) : (verdictRecords k x pass cause s).mor = s.mor := by
  unfold verdictRecords; (repeat' split) <;> simp [*]

@[simp] theorem keepJudged_mor (k : Nat) (m : Option Manifest) (digest : Bytes) (pass : Bool) (s : State) : (keepJudged k m digest pass s).mor = s.mor := by
  unfold keepJudged; (repeat' split) <;> simp [*]

@[simp] theorem afterPass_mor (k : Nat) (x : Source) (s : State) : (afterPass k x s).mor = s.mor := by
  unfold afterPass; dsimp only; (repeat' split) <;> simp [*]

@[simp] theorem svnRaise_mor (idx n : Nat) (s : State) : (svnRaise idx n s).mor = s.mor := by
  unfold svnRaise; (repeat' split) <;> simp [*]

@[simp] theorem svnRecord_mor (idx n : Nat) (s : State) : (svnRecord idx n s).mor = s.mor := by
  unfold svnRecord; (repeat' split) <;> simp [*]

@[simp] theorem polFloorRaise_mor (n : Nat) (s : State) : (polFloorRaise n s).mor = s.mor := by
  unfold polFloorRaise; (repeat' split) <;> simp [*]

@[simp] theorem upMgt_mor (b : Bool) (f : Mgt → Mgt) (s : State) : (upMgt b f s).mor = s.mor := by
  unfold upMgt; (repeat' split) <;> simp [*]

@[simp] theorem capsuleEnd_mor (reason : Nat) (s : State) : (capsuleEnd reason s).mor = s.mor := by
  unfold capsuleEnd; dsimp only; (repeat' split) <;> simp [*]

@[simp] theorem capsuleRefuse_mor (j : CapsuleJob) (reason : Nat) (s : State) : (capsuleRefuse j reason s).mor = s.mor := by
  unfold capsuleRefuse; (repeat' split) <;> simp [*]

@[simp] theorem capsuleAccept_mor (s : State) : (capsuleAccept s).mor = s.mor := by
  unfold capsuleAccept; (repeat' split) <;> simp [*]

@[simp] theorem capsuleStep_mor (n : Nat) (s : State) : (capsuleStep n s).mor = s.mor := by
  unfold capsuleStep; (repeat' split) <;> simp [*]

@[simp] theorem capsuleWrite_mor (j : CapsuleJob) (s : State) : (capsuleWrite j s).mor = s.mor := by
  unfold capsuleWrite; (repeat' split) <;> simp [*]

@[simp] theorem capsuleRecord_mor (j : CapsuleJob) (s : State) : (capsuleRecord j s).mor = s.mor := by
  unfold capsuleRecord; (repeat' split) <;> simp [*]

@[simp] theorem mgtMsg_mor (b : Bool) (s : State) : (mgtMsg b s).mor = s.mor := by
  unfold mgtMsg; (repeat' split) <;> simp [*]

@[simp] theorem cfgWrite_mor (f : CfgFlash → CfgFlash) (s : State) : (cfgWrite f s).mor = s.mor := by
  unfold cfgWrite; (repeat' split) <;> simp [*]

@[simp] theorem putDir_mor (second : Bool) (d : DirCopy) (s : State) : (putDir second d s).mor = s.mor := by
  unfold putDir; (repeat' split) <;> simp [*]

@[simp] theorem breakDir_mor (s : State) : (breakDir s).mor = s.mor := by
  unfold breakDir; (repeat' split) <;> simp [*]

@[simp] theorem rewriteDir_mor (f : BootDir → BootDir) (s : State) : (rewriteDir f s).mor = s.mor := by
  unfold rewriteDir; (repeat' split) <;> simp [*]

@[simp] theorem putComponent_mor (c : Component) (b : Bool) (s : State) : (putComponent c b s).mor = s.mor := by
  unfold putComponent; (repeat' split) <;> simp [*]

@[simp] theorem dropComponent_mor (c : Component) (b : Bool) (s : State) : (dropComponent c b s).mor = s.mor := by
  unfold dropComponent; (repeat' split) <;> simp [*]

@[simp] theorem pushedRecord_mor (c : Component) (slot : Bool) (outcome : Nat) (g : Gate) (eff : State → State) (s : State)
    (h : ∀ s, (eff s).mor = s.mor) : (pushedRecord c slot outcome g eff s).mor = s.mor := by
  unfold pushedRecord
  split
  · exact h s
  · exact gated_mor _ _ _ _ _ _ h

@[simp] theorem promoted_mor (c : Component) (cleared : Bool) (s : State) : (promoted c cleared s).mor = s.mor := by
  unfold promoted; (repeat' split) <;> simp [*]

@[simp] theorem promote_mor (c : Component) (copied cleared : Bool) (s : State) : (promote c copied cleared s).mor = s.mor := by
  unfold promote; (repeat' split) <;> simp [*]

@[simp] theorem finishPromotions_mor (s : State) : (finishPromotions s).mor = s.mor := by
  unfold finishPromotions; (repeat' split) <;> simp [*]

@[simp] theorem refreshDir_mor (s : State) : (refreshDir s).mor = s.mor := by
  unfold refreshDir; (repeat' split) <;> simp [*]

@[simp] theorem promotionGo_mor (pol cleared : Bool) (s : State) : (promotionGo pol cleared s).mor = s.mor := by
  unfold promotionGo; (repeat' split) <;> simp [*]

@[simp] theorem otpDropped_mor (s : State) : (otpDropped s).mor = s.mor := by
  unfold otpDropped; (repeat' split) <;> simp [*]

@[simp] theorem otpRefuse_mor (op addr : Nat) (s : State) : (otpRefuse op addr s).mor = s.mor := by
  unfold otpRefuse; (repeat' split) <;> simp [*]

@[simp] theorem otpAfter_mor (p : OtpPend) (s : State) : (otpAfter p s).mor = s.mor := by
  unfold otpAfter; (repeat' split) <;> simp [*]

@[simp] theorem ratchetBurn_mor (n : Nat) (s : State) : (ratchetBurn n s).mor = s.mor := by
  unfold ratchetBurn; (repeat' split) <;> simp [*]

@[simp] theorem lcStepBegin_mor (s : State) : (lcStepBegin s).mor = s.mor := by
  unfold lcStepBegin; (repeat' split) <;> simp [*]

@[simp] theorem lcStepGo_mor (auth : Nat) (s : State) : (lcStepGo auth s).mor = s.mor := by
  unfold lcStepGo; (repeat' split) <;> simp [*]

@[simp] theorem otpNext_mor (s : State) : (otpNext s).mor = s.mor := by
  unfold otpNext; (repeat' split) <;> simp [*]

@[simp] theorem scrubFinish_mor (k : Nat) (s : State) : (scrubFinish k s).mor = s.mor := by
  unfold scrubFinish; (repeat' split) <;> simp [*]

@[simp] theorem scrubStart_mor (k : Nat) (n : Nat) (s : State) : (scrubStart k n s).mor = s.mor := by
  induction n generalizing s with
  | zero => rfl
  | succ n ih => unfold scrubStart; dsimp only; (repeat' split) <;> simp [*]

@[simp] theorem startFrame_mor (k : Nat) (f : Frame) (s : State) : (startFrame k f s).mor = s.mor := by
  unfold startFrame; (repeat' split) <;> simp [*]

@[simp] theorem sramWrite_mor (a : Nat) (b : Bytes) (s : State) : (sramWrite a b s).mor = s.mor := by
  unfold sramWrite; (repeat' split) <;> simp [*]

@[simp] theorem scatter_mor (l : List QEntry) (data : Bytes) (s : State) : (scatter l data s).mor = s.mor := by
  induction l generalizing data s with
  | nil => rfl
  | cons a r ih => unfold scatter; rw [ih]; simp

@[simp] theorem fwFrameDone_mor (k : Nat) (f : Frame) (st : Nat) (s : State) : (fwFrameDone k f st s).mor = s.mor := by
  unfold fwFrameDone; (repeat' split) <;> simp [*]

@[simp] theorem streamIn_mor (i : Nat) (f : Frame) (data : Bytes) (s : State) : (streamIn i f data s).mor = s.mor := by
  unfold streamIn; (repeat' split) <;> simp [*]

@[simp] theorem calibrateOn_mor (k : Nat) (cal : Cal) (s : State) : (calibrateOn k cal s).mor = s.mor := by
  unfold calibrateOn; (repeat' split) <;> simp [*]

@[simp] theorem endPoll_mor (k dev : Nat) (s : State) : (endPoll k dev s).mor = s.mor := by
  unfold endPoll; (repeat' split) <;> simp [*]

@[simp] theorem replayCheck_mor (k : Nat) (s : State) : (replayCheck k s).mor = s.mor := by
  unfold replayCheck; dsimp only; (repeat' split) <;> simp [*]

@[simp] theorem partUp_mor (s : State) (p : Nat) : (partUp s p).mor = s.mor := by
  unfold partUp; (repeat' split) <;> simp [*]

@[simp] theorem epUp_mor (j : Nat) (s : State) : (epUp j s).mor = s.mor := by
  unfold epUp; (repeat' split) <;> simp [*]

@[simp] theorem epWaitEnd_mor (j : Nat) (s : State) : (epWaitEnd j s).mor = s.mor := by
  unfold epWaitEnd; (repeat' split) <;> simp [*]

@[simp] theorem emitAttested_mor (j : Nat) (kind result cause ver : Nat) (digest : Bytes) (s : State) : (emitAttested j kind result cause ver digest s).mor = s.mor := by
  unfold emitAttested; (repeat' split) <;> simp [*]

@[simp] theorem epLift_mor (j : Nat) (s : State) : (epLift j s).mor = s.mor := by
  unfold epLift; dsimp only; (repeat' split) <;> simp [*]

@[simp] theorem upAtt_mor (j : Nat) (f : Att → Att) (s : State) : (upAtt j f s).mor = s.mor := by
  unfold upAtt; (repeat' split) <;> simp [*]

@[simp] theorem drawNonce_mor (j : Nat) (s : State) : (drawNonce j s).mor = s.mor := by
  unfold drawNonce; (repeat' split) <;> simp [*]

@[simp] theorem spdmNext_mor (t : SpdmStep) (j : Nat) (s : State) : (spdmNext t j s).mor = s.mor := by
  unfold spdmNext; (repeat' split) <;> simp [*]

@[simp] theorem epFirmware_mor (j : Nat) (s : State) : (epFirmware j s).mor = s.mor := by
  unfold epFirmware; dsimp only; (repeat' split) <;> simp [*]

@[simp] theorem upPart_mor (p : Nat) (f : Part → Part) (s : State) : (upPart p f s).mor = s.mor := by
  unfold upPart; (repeat' split) <;> simp [*]

@[simp] theorem sliceFault_mor (b i : Nat) (s : State) : (sliceFault b i s).mor = s.mor := by
  unfold sliceFault; dsimp only; (repeat' split) <;> simp [*]

@[simp] theorem dispatchTlp_mor (i e : Nat) (t : Tlp) (s : State) : (dispatchTlp i e t s).mor = s.mor := by
  unfold dispatchTlp; (repeat' split) <;> simp [*]

@[simp] theorem deliverDue_mor (s : State) : (deliverDue s).mor = s.mor := by
  unfold deliverDue; (repeat' split) <;> simp [*]

@[simp] theorem forwardTlp_mor (i e : Nat) (t : Tlp) (s : State) : (forwardTlp i e t s).1.mor = s.mor := by
  unfold forwardTlp; (repeat' split) <;> simp [*]

@[simp] theorem away_mor (q : Nat) (k : TlpKind) (s : State) : (away q k s).1.mor = s.mor := by
  unfold away; (repeat' split) <;> simp [*]

@[simp] theorem mctpTrack_mor (p : Nat) (t : Tlp) (s : State) : (mctpTrack p t s).mor = s.mor := by
  unfold mctpTrack; (repeat' split) <;> simp [*]

@[simp] theorem awayAt_mor (i p : Nat) (t : Tlp) (s : State) : (awayAt i p t s).1.mor = s.mor := by
  unfold awayAt; (repeat' split) <;> simp [*]

@[simp] theorem routeTlp_mor (i p : Nat) (t : Tlp) (s : State) : (routeTlp i p t s).1.mor = s.mor := by
  unfold routeTlp; (repeat' split) <;> simp [*]

@[simp] theorem medTake_mor (port i : Nat) (t : Tlp) (s : State) : (medTake port i t s).mor = s.mor := by
  unfold medTake; (repeat' split) <;> simp [*]

@[simp] theorem hostTlp_mor (p : Nat) (t : Tlp) (s : State) : (hostTlp p t s).1.mor = s.mor := by
  unfold hostTlp; (repeat' split) <;> simp [*]

@[simp] theorem armReady_mor (p : Nat) (s : State) : (armReady p s).mor = s.mor := by
  unfold armReady; (repeat' split) <;> simp [*]

@[simp] theorem armBegin_mor (p src : Nat) (s : State) : (armBegin p src s).mor = s.mor := by
  unfold armBegin; (repeat' split) <;> simp [*]

@[simp] theorem upMed_mor (port : Nat) (f : Mediation → Mediation) (s : State) : (upMed port f s).mor = s.mor := by
  unfold upMed; (repeat' split) <;> simp [*]

@[simp] theorem activateReady_mor (port : Nat) (s : State) : (activateReady port s).mor = s.mor := by
  simp [activateReady]

@[simp] theorem medForward_mor (m : MedPkt) (s : State) : (medForward m s).1.mor = s.mor := by
  unfold medForward; (repeat' split) <;> simp [*]

@[simp] theorem medEnq_mor (m : MedPkt) (s : State) : (medEnq m s).mor = s.mor := by
  unfold medEnq; (repeat' split) <;> simp [*]

@[simp] theorem resubmitAll_mor (s : State) : (resubmitAll s).mor = s.mor := by
  unfold resubmitAll
  rw [foldl_mor]
  · simp
  · intro s w
    split <;> simp

@[simp] theorem wdtCtrlWrite_mor (v : BitVec 32) (s : State) : (wdtCtrlWrite v s).mor = s.mor := by
  unfold wdtCtrlWrite; (repeat' split) <;> simp [*]

@[simp] theorem wdtCapture_mor (cause : Nat) (pc : BitVec 64) (s : State) : (wdtCapture cause pc s).mor = s.mor := by
  unfold wdtCapture; (repeat' split) <;> simp [*]

@[simp] theorem upSig_mor (e : Bool) (f : SigEng → SigEng) (s : State) : (upSig e f s).mor = s.mor := by
  unfold upSig; (repeat' split) <;> simp [*]

@[simp] theorem sigRemove_mor (e : Bool) (s : State) : (sigRemove e s).mor = s.mor := by
  unfold sigRemove; (repeat' split) <;> simp [*]

@[simp] theorem applyWrite_mor (p : PolicyImage) (r : PresentRec) (j : JEntry) (s : State) : (applyWrite p r j s).mor = s.mor := by
  unfold applyWrite; (repeat' split) <;> simp [*]

@[simp] theorem brStore_mor (epoch : Nat) (b : Bytes) (s : State) : (brStore epoch b s).mor = s.mor := by
  unfold brStore; (repeat' split) <;> simp [*]

@[simp] theorem newChallenge_mor (s : State) : (newChallenge s).mor = s.mor := by
  unfold newChallenge; (repeat' split) <;> simp [*]

@[simp] theorem mbxFinish_mor (b : Bool) (result : Nat) (s : State) : (mbxFinish b result s).mor = s.mor := by
  unfold mbxFinish; (repeat' split) <;> simp [*]

@[simp] theorem exportFree_mor (i : Nat) (s : State) : (exportFree i s).mor = s.mor := by
  unfold exportFree
  dsimp only
  split
  · rw [foldl_mor]
    intro s k
    split <;> simp
  · rw [emit_mor, foldl_mor]
    intro s k
    split <;> simp

@[simp] theorem journalCmdEntry_mor (j : RingCmd) (body : Bytes) (s : State) : (journalCmdEntry j body s).mor = s.mor := by
  unfold journalCmdEntry; (repeat' split) <;> simp [*]

@[simp] theorem holdCmd_mor (p g : Nat) (e : Bytes) (s : State) : (holdCmd p g e s).mor = s.mor := by
  unfold holdCmd; (repeat' split) <;> simp [*]

@[simp] theorem accessEnd_mor (p g : Nat) (u : AccessUse) (s : State) : (accessEnd p g u s).mor = s.mor := by
  unfold accessEnd; (repeat' split) <;> simp [*]

@[simp] theorem vectorSend_mor (p v : Nat) (s : State) : (vectorSend p v s).1.mor = s.mor := by
  unfold vectorSend; (repeat' split) <;> simp [*]

@[simp] theorem takeSealNo_mor (s : State) : (takeSealNo s).mor = s.mor := by
  unfold takeSealNo; (repeat' split) <;> simp [*]

@[simp] theorem fetchGood_mor (p g : Nat) (r : Ring) (f : Fetched) (s : State) : (fetchGood p g r f s).mor = s.mor := by
  unfold fetchGood; dsimp only; (repeat' split) <;> simp [*]

@[simp] theorem fetchBad_mor (p g : Nat) (r : Ring) (f : Fetched) (status : Nat) (s : State) : (fetchBad p g r f status s).mor = s.mor := by
  unfold fetchBad; (repeat' split) <;> simp [*]

@[simp] theorem fetchTaken_mor (p g : Nat) (s : State) : (fetchTaken p g s).mor = s.mor := by
  unfold fetchTaken; (repeat' split) <;> simp [*]

@[simp] theorem completionWritten_mor (p g : Nat) (j : RingCmd) (s : State) : (completionWritten p g j s).mor = s.mor := by
  unfold completionWritten; (repeat' split) <;> simp [*]

@[simp] theorem upAdm_mor (p a : Nat) (f : AdmRegs → AdmRegs) (s : State) : (upAdm p a f s).mor = s.mor := by
  unfold upAdm; (repeat' split) <;> simp [*]

@[simp] theorem admWrite_mor (p a : Nat) (v : BitVec 32) (s : State) : (admWrite p a v s).mor = s.mor := by
  unfold admWrite; dsimp only; (repeat' split) <;> simp [*]

@[simp] theorem writeCfg_mor (p : Nat) (r : CfgReg) (v : BitVec 32) (s : State) : (writeCfg p r v s).mor = s.mor := by
  unfold writeCfg; (repeat' split) <;> simp [*]

@[simp] theorem mbxGo_mor (b : Bool) (s : State) : (mbxGo b s).mor = s.mor := by
  unfold mbxGo; dsimp only; (repeat' split) <;> simp [*]

@[simp] theorem writeMailbox_mor (b : Bool) (a : Nat) (w : BitVec 32) (s : State) : (writeMailbox b a w s).mor = s.mor := by
  unfold writeMailbox; (repeat' split) <;> simp [*]

@[simp] theorem writeBar0_mor (p a : Nat) (v : BitVec 32) (s : State) : (writeBar0 p a v s).mor = s.mor := by
  unfold writeBar0; dsimp only; (repeat' split) <;> simp [*]

@[simp] theorem writeBar_mor (n p a len : Nat) (v : BitVec 32) (s : State) : (writeBar n p a len v s).mor = s.mor := by
  unfold writeBar; (repeat' split) <;> simp [*]

@[simp] theorem writeMsix8_mor (p a : Nat) (low high : BitVec 32) (s : State) : (writeMsix8 p a low high s).mor = s.mor := by
  unfold writeMsix8; (repeat' split) <;> simp [*]

@[simp] theorem writeChan_mor (k a : Nat) (v : BitVec 32) (s : State) : (writeChan k a v s).mor = s.mor := by
  unfold writeChan; (repeat' split) <;> simp [*]

@[simp] theorem writeOtpc_mor (a : Nat) (v : BitVec 32) (s : State) : (writeOtpc a v s).mor = s.mor := by
  unfold writeOtpc; dsimp only; (repeat' split) <;> simp [*]

@[simp] theorem writeSig_mor (e : Bool) (a : Nat) (v : BitVec 32) (s : State) : (writeSig e a v s).mor = s.mor := by
  unfold writeSig; dsimp only; (repeat' split) <;> simp [*]

@[simp] theorem writeSic_mor (a : Nat) (v : BitVec 32) (s : State) : (writeSic a v s).mor = s.mor := by
  unfold writeSic; (repeat' split) <;> simp [*]

@[simp] theorem writeWdt_mor (a : Nat) (v : BitVec 32) (s : State) : (writeWdt a v s).mor = s.mor := by
  unfold writeWdt; (repeat' split) <;> simp [*]

@[simp] theorem writeDga_mor (a : Nat) (v : BitVec 32) (s : State) : (writeDga a v s).mor = s.mor := by
  unfold writeDga; (repeat' split) <;> simp [*]

@[simp] theorem writeGate_mor (a : Nat) (v : BitVec 32) (s : State) : (writeGate a v s).mor = s.mor := by
  unfold writeGate; (repeat' split) <;> simp [*]

@[simp] theorem csfHostRead_mor (p : Nat) (t : Tlp) (s : State) : (csfHostRead p t s).1.mor = s.mor := by
  unfold csfHostRead; (repeat' split) <;> simp [*]

@[simp] theorem nvmeFail_mor (s : State) : (nvmeFail s).mor = s.mor := by
  unfold nvmeFail; (repeat' split) <;> simp [*]

@[simp] theorem frameAbandon_mor (k : Nat) (cl : Client) (s : State) : (frameAbandon k cl s).mor = s.mor := by
  unfold frameAbandon; (repeat' split) <;> simp [*]

@[simp] theorem medLost_mor (port : Nat) (s : State) : (medLost port s).mor = s.mor := by
  unfold medLost; (repeat' split) <;> simp [*]

@[simp] theorem unitsAfter_mor (t : SelfTest) (s : State) : (unitsAfter t s).mor = s.mor := by
  unfold unitsAfter; (repeat' split) <;> simp [*]

@[simp] theorem unitsScanned_mor (s : State) : (unitsScanned s).mor = s.mor := by
  unfold unitsScanned; (repeat' split) <;> simp [*]

@[simp] theorem romFuses_mor (t : SelfTest) (s : State) : (romFuses t s).mor = s.mor := by
  unfold romFuses; (repeat' split) <;> simp [*]

@[simp] theorem romTake_mor (slot : Bool) (b : Bundle) (s : State) : (romTake slot b s).mor = s.mor := by
  unfold romTake; dsimp only; (repeat' split) <;> simp [*]

@[simp] theorem tickTimer_mor (s : State) : (tickTimer s).mor = s.mor := by
  unfold tickTimer; (repeat' split) <;> simp [*]

@[simp] theorem tickWdt_mor (s : State) : (tickWdt s).mor = s.mor := by
  unfold tickWdt; (repeat' split) <;> simp [*]

@[simp] theorem withPending_mor (q : List Instr) (s : State) : (withPending q s).mor = s.mor := by
  unfold withPending; (repeat' split) <;> simp [*]

@[simp] theorem State.withFetchWord_mor (s : State) (nbits w : Nat) : (State.withFetchWord s nbits w).mor = s.mor := by
  unfold State.withFetchWord; (repeat' split) <;> simp [*]

end Sys2Proof.Machine
end

