-- ==== Sys2Proof/Laws/FrameMorTrip.lean ====
section
/-! SUPPORT. Frame lemmas of the trip latch: one simp lemma for each shared operation of Machine/*.lean
that never writes `State.mor.trip`, so that a proof about a command reads the field through the
operation without unfolding it. An operation without a lemma here may write the field. -/

namespace Sys2Proof.Machine

open Sys2Proof

set_option linter.unusedSimpArgs false
set_option linter.unusedTactic false
set_option linter.unnecessarySeqFocus false
set_option linter.unreachableTactic false
set_option linter.unusedVariables false

@[simp] theorem each_mor_trip (l : List Nat) (f : Nat → State → State) (s : State) (h : ∀ n s, (f n s).mor.trip = s.mor.trip) :
    (each l f s).mor.trip = s.mor.trip := by
  unfold each
  induction l generalizing s with
  | nil => rfl
  | cons a r ih => simp [ih, h]

@[simp] theorem foldl_mor_trip {α : Type} (l : List α) (f : State → α → State) (s : State) (h : ∀ s n, (f s n).mor.trip = s.mor.trip) :
    (l.foldl f s).mor.trip = s.mor.trip := by
  induction l generalizing s with
  | nil => rfl
  | cons a r ih => simp [ih, h]

@[simp] theorem gated_mor_trip (code src : Nat) (body : Bytes) (g : Gate) (eff : State → State) (s : State)
    (h : ∀ s, (eff s).mor.trip = s.mor.trip) : (gated code src body g eff s).mor.trip = s.mor.trip := by
  unfold gated
  dsimp only
  (repeat' split) <;> simp [h]

@[simp] theorem upOtp_mor_trip (f : Otp → Otp) (s : State) : (upOtp f s).mor.trip = s.mor.trip := by
  unfold upOtp; (repeat' split) <;> simp [*]

@[simp] theorem upEv_mor_trip (f : Evid → Evid) (s : State) : (upEv f s).mor.trip = s.mor.trip := by
  unfold upEv; (repeat' split) <;> simp [*]

@[simp] theorem upVault_mor_trip (f : Vault → Vault) (s : State) : (upVault f s).mor.trip = s.mor.trip := by
  unfold upVault; (repeat' split) <;> simp [*]

@[simp] theorem upChans_mor_trip (f : (Tab Channel) → (Tab Channel)) (s : State) : (upChans f s).mor.trip = s.mor.trip := by
  unfold upChans; (repeat' split) <;> simp [*]

@[simp] theorem upXip_mor_trip (f : Xip → Xip) (s : State) : (upXip f s).mor.trip = s.mor.trip := by
  unfold upXip; (repeat' split) <;> simp [*]

@[simp] theorem upPorts_mor_trip (f : (Tab Port) → (Tab Port)) (s : State) : (upPorts f s).mor.trip = s.mor.trip := by
  unfold upPorts; (repeat' split) <;> simp [*]

@[simp] theorem upEms_mor_trip (f : (Tab EmDev) → (Tab EmDev)) (s : State) : (upEms f s).mor.trip = s.mor.trip := by
  unfold upEms; (repeat' split) <;> simp [*]

@[simp] theorem upLake_mor_trip (f : Lake → Lake) (s : State) : (upLake f s).mor.trip = s.mor.trip := by
  unfold upLake; (repeat' split) <;> simp [*]

@[simp] theorem upImgs_mor_trip (f : (Tab Img) → (Tab Img)) (s : State) : (upImgs f s).mor.trip = s.mor.trip := by
  unfold upImgs; (repeat' split) <;> simp [*]

@[simp] theorem upFab_mor_trip (f : Fabric → Fabric) (s : State) : (upFab f s).mor.trip = s.mor.trip := by
  unfold upFab; (repeat' split) <;> simp [*]

@[simp] theorem upNrx_mor_trip (f : Rings → Rings) (s : State) : (upNrx f s).mor.trip = s.mor.trip := by
  unfold upNrx; (repeat' split) <;> simp [*]

@[simp] theorem upSc_mor_trip (f : Sc → Sc) (s : State) : (upSc f s).mor.trip = s.mor.trip := by
  unfold upSc; (repeat' split) <;> simp [*]

@[simp] theorem upSic_mor_trip (f : Sic → Sic) (s : State) : (upSic f s).mor.trip = s.mor.trip := by
  unfold upSic; (repeat' split) <;> simp [*]

@[simp] theorem upWdt_mor_trip (f : Wdt → Wdt) (s : State) : (upWdt f s).mor.trip = s.mor.trip := by
  unfold upWdt; (repeat' split) <;> simp [*]

@[simp] theorem upDga_mor_trip (f : Dga → Dga) (s : State) : (upDga f s).mor.trip = s.mor.trip := by
  unfold upDga; (repeat' split) <;> simp [*]

@[simp] theorem upKld_mor_trip (f : Kld → Kld) (s : State) : (upKld f s).mor.trip = s.mor.trip := by
  unfold upKld; (repeat' split) <;> simp [*]

@[simp] theorem upPa_mor_trip (f : Persist → Persist) (s : State) : (upPa f s).mor.trip = s.mor.trip := by
  unfold upPa; (repeat' split) <;> simp [*]

@[simp] theorem say_mor_trip (r : Reply) (s : State) : (say r s).mor.trip = s.mor.trip := by
  unfold say; (repeat' split) <;> simp [*]

@[simp] theorem drawn_mor_trip (s : State) : (drawn s).mor.trip = s.mor.trip := by
  unfold drawn; (repeat' split) <;> simp [*]

@[simp] theorem emit_mor_trip (code src : Nat) (body : Bytes) (s : State) : (emit code src body s).mor.trip = s.mor.trip := by
  unfold emit; (repeat' split) <;> simp [*]

@[simp] theorem emitFw_mor_trip (code : Nat) (body : Bytes) (s : State) : (emitFw code body s).mor.trip = s.mor.trip := by
  unfold emitFw; (repeat' split) <;> simp [*]

@[simp] theorem setPair_mor_trip (k : Nat) (v : BitVec 32) (s : State) : (setPair k v s).mor.trip = s.mor.trip := by
  unfold setPair; (repeat' split) <;> simp [*]

@[simp] theorem upImg_mor_trip (k : Nat) (f : Img → Img) (s : State) : (upImg k f s).mor.trip = s.mor.trip := by
  unfold upImg; (repeat' split) <;> simp [*]

@[simp] theorem upChan_mor_trip (k : Nat) (f : Channel → Channel) (s : State) : (upChan k f s).mor.trip = s.mor.trip := by
  unfold upChan; (repeat' split) <;> simp [*]

@[simp] theorem upEm_mor_trip (k : Nat) (f : EmDev → EmDev) (s : State) : (upEm k f s).mor.trip = s.mor.trip := by
  unfold upEm; (repeat' split) <;> simp [*]

@[simp] theorem upPort_mor_trip (k : Nat) (f : Port → Port) (s : State) : (upPort k f s).mor.trip = s.mor.trip := by
  unfold upPort; (repeat' split) <;> simp [*]

@[simp] theorem domProtoReset_mor_trip (d : Nat) (s : State) : (domProtoReset d s).mor.trip = s.mor.trip := by
  unfold domProtoReset; (repeat' split) <;> simp [*]

@[simp] theorem upEp_mor_trip (j : Nat) (f : Ep → Ep) (s : State) : (upEp j f s).mor.trip = s.mor.trip := by
  unfold upEp; (repeat' split) <;> simp [*]

@[simp] theorem upCbus_mor_trip (i : Nat) (f : CbusComp → CbusComp) (s : State) : (upCbus i f s).mor.trip = s.mor.trip := by
  unfold upCbus; (repeat' split) <;> simp [*]

@[simp] theorem aerReport_mor_trip (port n : Nat) (s : State) : (aerReport port n s).mor.trip = s.mor.trip := by
  unfold aerReport; (repeat' split) <;> simp [*]

@[simp] theorem dropHeld_mor_trip (port : Nat) (s : State) : (dropHeld port s).mor.trip = s.mor.trip := by
  unfold dropHeld; (repeat' split) <;> simp [*]

@[simp] theorem endMediation_mor_trip (port : Nat) (s : State) : (endMediation port s).mor.trip = s.mor.trip := by
  unfold endMediation; (repeat' split) <;> simp [*]

@[simp] theorem linkDrop_mor_trip (port : Nat) (s : State) : (linkDrop port s).mor.trip = s.mor.trip := by
  unfold linkDrop; (repeat' split) <;> simp [*]

@[simp] theorem epUnvat_mor_trip (j : Nat) (s : State) : (epUnvat j s).mor.trip = s.mor.trip := by
  unfold epUnvat; (repeat' split) <;> simp [*]

@[simp] theorem epSealIt_mor_trip (j : Nat) (s : State) : (epSealIt j s).mor.trip = s.mor.trip := by
  unfold epSealIt; (repeat' split) <;> simp [*]

@[simp] theorem startRecheck_mor_trip (k : AttKind) (j : Nat) (s : State) : (startRecheck k j s).mor.trip = s.mor.trip := by
  unfold startRecheck; (repeat' split) <;> simp [*]

@[simp] theorem emitContained_mor_trip (j : Nat) (s : State) : (emitContained j s).mor.trip = s.mor.trip := by
  unfold emitContained; (repeat' split) <;> simp [*]

@[simp] theorem epContain_mor_trip (f : Causes → Causes) (j : Nat) (s : State) : (epContain f j s).mor.trip = s.mor.trip := by
  unfold epContain; (repeat' split) <;> simp [*]

@[simp] theorem epRecheck_mor_trip (f : Causes → Causes) (wait : Bool) (j : Nat) (s : State) : (epRecheck f wait j s).mor.trip = s.mor.trip := by
  unfold epRecheck; (repeat' split) <;> simp [*]

@[simp] theorem epChanged_mor_trip (digest : Bytes) (j : Nat) (s : State) : (epChanged digest j s).mor.trip = s.mor.trip := by
  unfold epChanged; (repeat' split) <;> simp [*]

@[simp] theorem epRefuse_mor_trip (j : Nat) (s : State) : (epRefuse j s).mor.trip = s.mor.trip := by
  unfold epRefuse; (repeat' split) <;> simp [*]

@[simp] theorem epOpen_mor_trip (j : Nat) (s : State) : (epOpen j s).mor.trip = s.mor.trip := by
  unfold epOpen; dsimp only; (repeat' split) <;> simp [*]

@[simp] theorem heldRecord_mor_trip (d cause : Nat) (final : Bool) (s : State) : (heldRecord d cause final s).mor.trip = s.mor.trip := by
  unfold heldRecord; (repeat' split) <;> simp [*]

@[simp] theorem clearSlots_mor_trip (d : Nat) (s : State) : (clearSlots d s).mor.trip = s.mor.trip := by
  unfold clearSlots; (repeat' split) <;> simp [*]

@[simp] theorem imgAgain_mor_trip (k : Nat) (s : State) : (imgAgain k s).mor.trip = s.mor.trip := by
  unfold imgAgain; (repeat' split) <;> simp [*]

@[simp] theorem domUnslot_mor_trip (d : Nat) (s : State) : (domUnslot d s).mor.trip = s.mor.trip := by
  unfold domUnslot; (repeat' split) <;> simp [*]

@[simp] theorem domLost_mor_trip (d : Nat) (s : State) : (domLost d s).mor.trip = s.mor.trip := by
  unfold domLost; (repeat' split) <;> simp [*]

@[simp] theorem holdDom_mor_trip (cause : Nat) (final : Bool) (d : Nat) (s : State) : (holdDom cause final d s).mor.trip = s.mor.trip := by
  unfold holdDom; (repeat' split) <;> simp [*]

@[simp] theorem cascade_mor_trip  (n : Nat) (s : State) : (cascade  n s).mor.trip = s.mor.trip := by
  induction n generalizing s with
  | zero => rfl
  | succ n ih => unfold cascade; dsimp only; (repeat' split) <;> simp [*]

@[simp] theorem markFinal_mor_trip (cause d : Nat) (s : State) : (markFinal cause d s).mor.trip = s.mor.trip := by
  unfold markFinal; (repeat' split) <;> simp [*]

@[simp] theorem holdFinal_mor_trip (cause d : Nat) (s : State) : (holdFinal cause d s).mor.trip = s.mor.trip := by
  unfold holdFinal; (repeat' split) <;> simp [*]

@[simp] theorem finalCascade_mor_trip  (n : Nat) (s : State) : (finalCascade  n s).mor.trip = s.mor.trip := by
  induction n generalizing s with
  | zero => rfl
  | succ n ih => unfold finalCascade; dsimp only; (repeat' split) <;> simp [*]

@[simp] theorem epRelease_mor_trip (d j : Nat) (s : State) : (epRelease d j s).mor.trip = s.mor.trip := by
  unfold epRelease; (repeat' split) <;> simp [*]

@[simp] theorem releaseDom_mor_trip (d : Nat) (s : State) : (releaseDom d s).mor.trip = s.mor.trip := by
  unfold releaseDom; (repeat' split) <;> simp [*]

@[simp] theorem interlock_mor_trip  (n : Nat) (s : State) : (interlock  n s).mor.trip = s.mor.trip := by
  induction n generalizing s with
  | zero => rfl
  | succ n ih => unfold interlock; dsimp only; (repeat' split) <;> simp [*]

@[simp] theorem vioHold_mor_trip (s : State) : (vioHold s).mor.trip = s.mor.trip := by
  unfold vioHold; (repeat' split) <;> simp [*]

@[simp] theorem vatWithdraw_mor_trip (s : State) : (vatWithdraw s).mor.trip = s.mor.trip := by
  unfold vatWithdraw; (repeat' split) <;> simp [*]

@[simp] theorem vatRelease_mor_trip (s : State) : (vatRelease s).mor.trip = s.mor.trip := by
  unfold vatRelease
  apply each_mor_trip
  intro j s
  try dsimp only
  split <;> simp

@[simp] theorem vatGrant_mor_trip (s : State) : (vatGrant s).mor.trip = s.mor.trip := by
  unfold vatGrant; (repeat' split) <;> simp [*]

@[simp] theorem recheckGo_mor_trip (s : State) : (recheckGo s).mor.trip = s.mor.trip := by
  unfold recheckGo; (repeat' split) <;> simp [*]

@[simp] theorem phaseStep_mor_trip (s : State) : (phaseStep s).mor.trip = s.mor.trip := by
  unfold phaseStep; (repeat' split) <;> simp [*]

@[simp] theorem brClose_mor_trip (s : State) : (brClose s).mor.trip = s.mor.trip := by
  unfold brClose; (repeat' split) <;> simp [*]

@[simp] theorem lateAnswer_mor_trip (b : Bool) (cmd flags result : Nat) (body : Bytes) (s : State) : (lateAnswer b cmd flags result body s).mor.trip = s.mor.trip := by
  unfold lateAnswer; (repeat' split) <;> simp [*]

@[simp] theorem nvmeDrop_mor_trip (s : State) : (nvmeDrop s).mor.trip = s.mor.trip := by
  unfold nvmeDrop
  refine (foldl_mor_trip _ _ _ ?_).trans (by simp)
  intro s c
  try dsimp only
  split <;> simp

@[simp] theorem vaultSet_mor_trip (st : VaultState) (code cause : Nat) (s : State) : (vaultSet st code cause s).mor.trip = s.mor.trip := by
  unfold vaultSet; (repeat' split) <;> simp [*]

@[simp] theorem nvmeIssue_mor_trip (l : List NvmeUse) (s : State) : (nvmeIssue l s).mor.trip = s.mor.trip := by
  unfold nvmeIssue; (repeat' split) <;> simp [*]

@[simp] theorem rekey_mor_trip (s : State) : (rekey s).mor.trip = s.mor.trip := by
  unfold rekey; dsimp only; (repeat' split) <;> simp [*]

@[simp] theorem blockNoLimit_mor_trip (s : State) : (blockNoLimit s).mor.trip = s.mor.trip := by
  unfold blockNoLimit; (repeat' split) <;> simp [*]

@[simp] theorem useBlocks_mor_trip (n : Nat) (s : State) : (useBlocks n s).mor.trip = s.mor.trip := by
  unfold useBlocks; (repeat' split) <;> simp [*]

@[simp] theorem nvmeWrite_mor_trip (u : NvmeUse) (cmds kind lba n : Nat) (s : State) : (nvmeWrite u cmds kind lba n s).mor.trip = s.mor.trip := by
  unfold nvmeWrite; (repeat' split) <;> simp [*]

@[simp] theorem writeBoot_mor_trip (epoch : Nat) (s : State) : (writeBoot epoch s).mor.trip = s.mor.trip := by
  unfold writeBoot; (repeat' split) <;> simp [*]

@[simp] theorem vaultServe_mor_trip (s : State) : (vaultServe s).mor.trip = s.mor.trip := by
  unfold vaultServe; (repeat' split) <;> simp [*]

@[simp] theorem vaultInit_mor_trip (s : State) : (vaultInit s).mor.trip = s.mor.trip := by
  unfold vaultInit; dsimp only; (repeat' split) <;> simp [*]

@[simp] theorem vaultAccept_mor_trip (back : List DriveBlock) (s : State) : (vaultAccept back s).mor.trip = s.mor.trip := by
  unfold vaultAccept; (repeat' split) <;> simp [*]

@[simp] theorem vaultSync_mor_trip (s : State) : (vaultSync s).mor.trip = s.mor.trip := by
  unfold vaultSync; dsimp only; (repeat' split) <;> simp [*]

@[simp] theorem alertBoth_mor_trip (s : State) : (alertBoth s).mor.trip = s.mor.trip := by
  unfold alertBoth; (repeat' split) <;> simp [*]

@[simp] theorem tempAlert_mor_trip (s : State) : (tempAlert s).mor.trip = s.mor.trip := by
  unfold tempAlert; (repeat' split) <;> simp [*]

@[simp] theorem highAlert_mor_trip (s : State) : (highAlert s).mor.trip = s.mor.trip := by
  unfold highAlert; (repeat' split) <;> simp [*]

@[simp] theorem settle_mor_trip (s : State) : (settle s).mor.trip = s.mor.trip := by
  unfold settle; (repeat' split) <;> simp [*]

@[simp] theorem tripDom_mor_trip (d : Nat) (s : State) : (tripDom d s).mor.trip = s.mor.trip := by
  unfold tripDom; dsimp only; (repeat' split) <;> simp [*]

@[simp] theorem tripGate_mor_trip (s : State) : (tripGate s).mor.trip = s.mor.trip := by
  unfold tripGate; (repeat' split) <;> simp [*]

@[simp] theorem wdtServed_mor_trip (s : State) : (wdtServed s).mor.trip = s.mor.trip := by
  unfold wdtServed; (repeat' split) <;> simp [*]

@[simp] theorem mordantWrite_mor_trip (f : State → State) (s : State) (h : ∀ s, (f s).mor.trip = s.mor.trip) : (mordantWrite f s).mor.trip = s.mor.trip := by
  unfold mordantWrite
  split
  · exact h s
  · simp

@[simp] theorem fwAdvance_mor_trip (k : Nat) (n : Nat) (s : State) : (fwAdvance k n s).mor.trip = s.mor.trip := by
  induction n generalizing s with
  | zero => rfl
  | succ n ih => unfold fwAdvance; dsimp only; (repeat' split) <;> simp [*]

@[simp] theorem grantEnd_mor_trip (s : State) : (grantEnd s).mor.trip = s.mor.trip := by
  unfold grantEnd; (repeat' split) <;> simp [*]

@[simp] theorem imgFinal_mor_trip (cause slot : Nat) (s : State) : (imgFinal cause slot s).mor.trip = s.mor.trip := by
  unfold imgFinal; (repeat' split) <;> simp [*]

@[simp] theorem chanLost_mor_trip (k : Nat) (s : State) : (chanLost k s).mor.trip = s.mor.trip := by
  unfold chanLost; (repeat' split) <;> simp [*]

@[simp] theorem failStreams_mor_trip (k : Nat) (s : State) : (failStreams k s).mor.trip = s.mor.trip := by
  unfold failStreams; (repeat' split) <;> simp [*]

@[simp] theorem commitLeave_mor_trip (k : Nat) (s : State) : (commitLeave k s).mor.trip = s.mor.trip := by
  unfold commitLeave; (repeat' split) <;> simp [*]

@[simp] theorem fillStop_mor_trip (k : Nat) (s : State) : (fillStop k s).mor.trip = s.mor.trip := by
  unfold fillStop; (repeat' split) <;> simp [*]

@[simp] theorem chanStop_mor_trip (k : Nat) (s : State) : (chanStop k s).mor.trip = s.mor.trip := by
  unfold chanStop; dsimp only; (repeat' split) <;> simp [*]

@[simp] theorem bankStop_mor_trip (k : Nat) (s : State) : (bankStop k s).mor.trip = s.mor.trip := by
  unfold bankStop; (repeat' split) <;> simp [*]

@[simp] theorem chanFail_mor_trip (k : Nat) (s : State) : (chanFail k s).mor.trip = s.mor.trip := by
  unfold chanFail; (repeat' split) <;> simp [*]

@[simp] theorem portFail_mor_trip (k : Nat) (s : State) : (portFail k s).mor.trip = s.mor.trip := by
  unfold portFail; (repeat' split) <;> simp [*]

@[simp] theorem commitKeep_mor_trip (k : Nat) (s : State) : (commitKeep k s).mor.trip = s.mor.trip := by
  unfold commitKeep; dsimp only; (repeat' split) <;> simp [*]

@[simp] theorem commitRead_mor_trip (k : Nat) (f : Frame) (data : Bytes) (s : State) : (commitRead k f data s).mor.trip = s.mor.trip := by
  unfold commitRead; (repeat' split) <;> simp [*]

@[simp] theorem commitHalt_mor_trip (k : Nat) (s : State) : (commitHalt k s).mor.trip = s.mor.trip := by
  unfold commitHalt; dsimp only; (repeat' split) <;> simp [*]

@[simp] theorem commitRetire_mor_trip (k : Nat) (s : State) : (commitRetire k s).mor.trip = s.mor.trip := by
  unfold commitRetire; (repeat' split) <;> simp [*]

@[simp] theorem chanReady_mor_trip (k : Nat) (s : State) : (chanReady k s).mor.trip = s.mor.trip := by
  unfold chanReady; (repeat' split) <;> simp [*]

@[simp] theorem escalateLater_mor_trip (src scope : Nat) (doms : List Nat) (s : State) : (escalateLater src scope doms s).mor.trip = s.mor.trip := by
  unfold escalateLater; (repeat' split) <;> simp [*]

@[simp] theorem lakeOutHold_mor_trip (s : State) : (lakeOutHold s).mor.trip = s.mor.trip := by
  unfold lakeOutHold; dsimp only; (repeat' split) <;> simp [*]

@[simp] theorem cfgTouch_mor_trip (addr len : Nat) (s : State) : (cfgTouch addr len s).mor.trip = s.mor.trip := by
  unfold cfgTouch; (repeat' split) <;> simp [*]

@[simp] theorem dgaServe_mor_trip (s : State) : (dgaServe s).mor.trip = s.mor.trip := by
  unfold dgaServe; (repeat' split) <;> simp [*]

@[simp] theorem upRing_mor_trip (p g : Nat) (f : Ring → Ring) (s : State) : (upRing p g f s).mor.trip = s.mor.trip := by
  unfold upRing; (repeat' split) <;> simp [*]

@[simp] theorem ringErrorRecord_mor_trip (p cause ring : Nat) (s : State) : (ringErrorRecord p cause ring s).mor.trip = s.mor.trip := by
  unfold ringErrorRecord; (repeat' split) <;> simp [*]

@[simp] theorem capsulesEnd_mor_trip (q : Nat → Nat → Bool) (s : State) : (capsulesEnd q s).mor.trip = s.mor.trip := by
  unfold capsulesEnd; (repeat' split) <;> simp [*]

@[simp] theorem debugOpen_mor_trip (scope : BitVec 4) (s : State) : (debugOpen scope s).mor.trip = s.mor.trip := by
  unfold debugOpen; (repeat' split) <;> simp [*]

@[simp] theorem debugGo_mor_trip (s : State) : (debugGo s).mor.trip = s.mor.trip := by
  unfold debugGo; (repeat' split) <;> simp [*]

@[simp] theorem ringsDie_mor_trip (q : Nat → Nat → Bool) (s : State) : (ringsDie q s).mor.trip = s.mor.trip := by
  unfold ringsDie; (repeat' split) <;> simp [*]

@[simp] theorem ringDies_mor_trip (p g : Nat) (s : State) : (ringDies p g s).mor.trip = s.mor.trip := by
  unfold ringDies; (repeat' split) <;> simp [*]

@[simp] theorem ringFail_mor_trip (p g : Nat) (s : State) : (ringFail p g s).mor.trip = s.mor.trip := by
  unfold ringFail; (repeat' split) <;> simp [*]

@[simp] theorem ringError_mor_trip (p g cause : Nat) (s : State) : (ringError p g cause s).mor.trip = s.mor.trip := by
  unfold ringError; (repeat' split) <;> simp [*]

@[simp] theorem ringGone_mor_trip (p g : Nat) (s : State) : (ringGone p g s).mor.trip = s.mor.trip := by
  unfold ringGone; (repeat' split) <;> simp [*]

@[simp] theorem ringDestroyed_mor_trip (p g : Nat) (s : State) : (ringDestroyed p g s).mor.trip = s.mor.trip := by
  unfold ringDestroyed; dsimp only; (repeat' split) <;> simp [*]

@[simp] theorem ringUnsubmit_mor_trip (p g : Nat) (s : State) : (ringUnsubmit p g s).mor.trip = s.mor.trip := by
  unfold ringUnsubmit; (repeat' split) <;> simp [*]

@[simp] theorem ringDestroy_mor_trip (p g : Nat) (by' : Option (Nat × Nat)) (s : State) : (ringDestroy p g by' s).mor.trip = s.mor.trip := by
  unfold ringDestroy; dsimp only; (repeat' split) <;> simp [*]

@[simp] theorem ledgerExtend_mor_trip (j : RingCmd) (s : State) : (ledgerExtend j s).mor.trip = s.mor.trip := by
  unfold ledgerExtend; (repeat' split) <;> simp [*]

@[simp] theorem counterIncrement_mor_trip (h : Nat) (s : State) : (counterIncrement h s).mor.trip = s.mor.trip := by
  unfold counterIncrement; (repeat' split) <;> simp [*]

@[simp] theorem ringCreate_mor_trip (p g depthLog2 sq cq tenant vector : Nat) (s : State) : (ringCreate p g depthLog2 sq cq tenant vector s).mor.trip = s.mor.trip := by
  unfold ringCreate; (repeat' split) <;> simp [*]

@[simp] theorem quotaSet_mor_trip (q : Quota) (s : State) : (quotaSet q s).mor.trip = s.mor.trip := by
  unfold quotaSet; (repeat' split) <;> simp [*]

@[simp] theorem objAlloc_mor_trip (counters : Bool) (r : Run) (s : State) : (objAlloc counters r s).mor.trip = s.mor.trip := by
  unfold objAlloc; (repeat' split) <;> simp [*]

@[simp] theorem objRelease_mor_trip (counters : Bool) (r : Run) (s : State) : (objRelease counters r s).mor.trip = s.mor.trip := by
  unfold objRelease; (repeat' split) <;> simp [*]

@[simp] theorem jobEffect_mor_trip (j : RingCmd) (s : State) : (jobEffect j s).1.mor.trip = s.mor.trip := by
  unfold jobEffect
  dsimp only
  split
  · rfl
  · split <;> first | rfl | (split <;> simp; done) | simp

@[simp] theorem applyNext_mor_trip (s : State) : (applyNext s).mor.trip = s.mor.trip := by
  unfold applyNext; (repeat' split) <;> simp [*]

@[simp] theorem applyAll_mor_trip (s : State) : (applyAll s).mor.trip = s.mor.trip := by
  unfold applyAll; (repeat' split) <;> simp [*]

@[simp] theorem ringsReset_mor_trip (p : Nat) (s : State) : (ringsReset p s).mor.trip = s.mor.trip := by
  unfold ringsReset; (repeat' split) <;> simp [*]

@[simp] theorem batchClose_mor_trip (s : State) : (batchClose s).mor.trip = s.mor.trip := by
  unfold batchClose; (repeat' split) <;> simp [*]

@[simp] theorem sState_mor_trip (s : State) : (sState s).mor.trip = s.mor.trip := by
  unfold sState; (repeat' split) <;> simp [*]

@[simp] theorem sEvent_mor_trip (s : State) : (sEvent s).mor.trip = s.mor.trip := by
  unfold sEvent; (repeat' split) <;> simp [*]

@[simp] theorem epHot_mor_trip (j : Nat) (s : State) : (epHot j s).mor.trip = s.mor.trip := by
  unfold epHot; dsimp only; (repeat' split) <;> simp [*]

@[simp] theorem partHot_mor_trip (p : Nat) (s : State) : (partHot p s).mor.trip = s.mor.trip := by
  unfold partHot; (repeat' split) <;> simp [*]

@[simp] theorem dropPart_mor_trip (p : Nat) (s : State) : (dropPart p s).mor.trip = s.mor.trip := by
  unfold dropPart; (repeat' split) <;> simp [*]

@[simp] theorem upstreamDown_mor_trip (p : Nat) (s : State) : (upstreamDown p s).mor.trip = s.mor.trip := by
  unfold upstreamDown; (repeat' split) <;> simp [*]

@[simp] theorem hEvent_mor_trip (p : Nat) (s : State) : (hEvent p s).mor.trip = s.mor.trip := by
  unfold hEvent; (repeat' split) <;> simp [*]

@[simp] theorem workWrite_mor_trip (a : Nat) (b : Bytes) (s : State) : (workWrite a b s).mor.trip = s.mor.trip := by
  unfold workWrite
  rw [upLake_mor, upSc_mor]

@[simp] theorem workPut_mor_trip (a : Nat) (b : Bytes) (s : State) : (workPut a b s).mor.trip = s.mor.trip := by
  unfold workPut; (try dsimp only); (repeat' split) <;> simp [*]

@[simp] theorem lakeStore_mor_trip (base : Nat) (cells : List (Nat × Byte)) (s : State) : (lakeStore base cells s).mor.trip = s.mor.trip := by
  unfold lakeStore; (repeat' split) <;> simp [*]

@[simp] theorem lakeFill_mor_trip (base n : Nat) (cells : List (Nat × Byte)) (s : State) : (lakeFill base n cells s).mor.trip = s.mor.trip := by
  unfold lakeFill; (repeat' split) <;> simp [*]

@[simp] theorem imageWriteGo_mor_trip (k base n : Nat) (cells : List (Nat × Byte)) (s : State) : (imageWriteGo k base n cells s).mor.trip = s.mor.trip := by
  unfold imageWriteGo; (repeat' split) <;> simp [*]

@[simp] theorem imageWrite_mor_trip (k base n : Nat) (cells : List (Nat × Byte)) (s : State) : (imageWrite k base n cells s).mor.trip = s.mor.trip := by
  unfold imageWrite; (repeat' split) <;> simp [*]

@[simp] theorem hotFill_mor_trip (p : PolicyImage) (r : PresentRec) (s : State) : (hotFill p r s).mor.trip = s.mor.trip := by
  unfold hotFill; (repeat' split) <;> simp [*]

@[simp] theorem underrunRecord_mor_trip (r : PresentRec) (cause addr : Nat) (s : State) : (underrunRecord r cause addr s).mor.trip = s.mor.trip := by
  unfold underrunRecord; (repeat' split) <;> simp [*]

@[simp] theorem clearFail_mor_trip (k : Nat) (s : State) : (clearFail k s).mor.trip = s.mor.trip := by
  unfold clearFail; (repeat' split) <;> simp [*]

@[simp] theorem streamGo_mor_trip (k : Nat) (x : Source) (s : State) : (streamGo k x s).mor.trip = s.mor.trip := by
  unfold streamGo; (repeat' split) <;> simp [*]

@[simp] theorem streamFail_mor_trip (i : Nat) (s : State) : (streamFail i s).mor.trip = s.mor.trip := by
  unfold streamFail; (repeat' split) <;> simp [*]

@[simp] theorem streamAll_mor_trip (k : Nat) (cells : List (Nat × Byte)) (s : State) : (streamAll k cells s).mor.trip = s.mor.trip := by
  unfold streamAll; (repeat' split) <;> simp [*]

@[simp] theorem imgLoading_mor_trip (k : Nat) (s : State) : (imgLoading k s).mor.trip = s.mor.trip := by
  unfold imgLoading; (repeat' split) <;> simp [*]

@[simp] theorem recoveryGo_mor_trip (k : Nat) (fallback : Bool) (s : State) : (recoveryGo k fallback s).mor.trip = s.mor.trip := by
  unfold recoveryGo; dsimp only; (repeat' split) <;> simp [*]

theorem takeAction_mor_trip (k : Nat) (fallback : Bool) (fails : State → State) (s : State) (h : ∀ s, (fails s).mor.trip = s.mor.trip) :
    (takeAction k fallback fails s).mor.trip = s.mor.trip := by
  unfold takeAction
  dsimp only
  (repeat' split) <;> simp [h]

@[simp] theorem fallbackAction_mor_trip (k : Nat) (s : State) : (fallbackAction k s).mor.trip = s.mor.trip := by
  unfold fallbackAction
  split
  · apply takeAction_mor_trip
    intro s
    simp
  · simp

@[simp] theorem actionFails_mor_trip (k : Nat) (s : State) : (actionFails k s).mor.trip = s.mor.trip := by
  unfold actionFails; (repeat' split) <;> simp [*]

@[simp] theorem actionStart_mor_trip (k : Nat) (s : State) : (actionStart k s).mor.trip = s.mor.trip := by
  unfold actionStart
  apply takeAction_mor_trip
  intro s
  simp

@[simp] theorem switchHalves_mor_trip (k : Nat) (s : State) : (switchHalves k s).mor.trip = s.mor.trip := by
  unfold switchHalves; (repeat' split) <;> simp [*]

@[simp] theorem verdictRecords_mor_trip (k : Nat) (x : Source) (pass : Bool) (cause : Nat) (s : State) : (verdictRecords k x pass cause s).mor.trip = s.mor.trip := by
  unfold verdictRecords; (repeat' split) <;> simp [*]

@[simp] theorem keepJudged_mor_trip (k : Nat) (m : Option Manifest) (digest : Bytes) (pass : Bool) (s : State) : (keepJudged k m digest pass s).mor.trip = s.mor.trip := by
  unfold keepJudged; (repeat' split) <;> simp [*]

@[simp] theorem afterPass_mor_trip (k : Nat) (x : Source) (s : State) : (afterPass k x s).mor.trip = s.mor.trip := by
  unfold afterPass; dsimp only; (repeat' split) <;> simp [*]

@[simp] theorem afterFail_mor_trip (k : Nat) (x : Source) (s : State) : (afterFail k x s).mor.trip = s.mor.trip := by
  unfold afterFail; (repeat' split) <;> simp [*]

@[simp] theorem writeVerdict_mor_trip (k : Nat) (x : Source) (m : Option Manifest) (digest : Bytes) (pass : Bool) (cause : Nat) (s : State) : (writeVerdict k x m digest pass cause s).mor.trip = s.mor.trip := by
  unfold writeVerdict; (repeat' split) <;> simp [*]

@[simp] theorem svnRaise_mor_trip (idx n : Nat) (s : State) : (svnRaise idx n s).mor.trip = s.mor.trip := by
  unfold svnRaise; (repeat' split) <;> simp [*]

@[simp] theorem svnRecord_mor_trip (idx n : Nat) (s : State) : (svnRecord idx n s).mor.trip = s.mor.trip := by
  unfold svnRecord; (repeat' split) <;> simp [*]

@[simp] theorem polFloorRaise_mor_trip (n : Nat) (s : State) : (polFloorRaise n s).mor.trip = s.mor.trip := by
  unfold polFloorRaise; (repeat' split) <;> simp [*]

@[simp] theorem upMgt_mor_trip (b : Bool) (f : Mgt → Mgt) (s : State) : (upMgt b f s).mor.trip = s.mor.trip := by
  unfold upMgt; (repeat' split) <;> simp [*]

@[simp] theorem capsuleEnd_mor_trip (reason : Nat) (s : State) : (capsuleEnd reason s).mor.trip = s.mor.trip := by
  unfold capsuleEnd; dsimp only; (repeat' split) <;> simp [*]

@[simp] theorem capsuleRefuse_mor_trip (j : CapsuleJob) (reason : Nat) (s : State) : (capsuleRefuse j reason s).mor.trip = s.mor.trip := by
  unfold capsuleRefuse; (repeat' split) <;> simp [*]

@[simp] theorem capsuleAccept_mor_trip (s : State) : (capsuleAccept s).mor.trip = s.mor.trip := by
  unfold capsuleAccept; (repeat' split) <;> simp [*]

@[simp] theorem capsuleStep_mor_trip (n : Nat) (s : State) : (capsuleStep n s).mor.trip = s.mor.trip := by
  unfold capsuleStep; (repeat' split) <;> simp [*]

@[simp] theorem capsuleWrite_mor_trip (j : CapsuleJob) (s : State) : (capsuleWrite j s).mor.trip = s.mor.trip := by
  unfold capsuleWrite; (repeat' split) <;> simp [*]

@[simp] theorem capsuleRecord_mor_trip (j : CapsuleJob) (s : State) : (capsuleRecord j s).mor.trip = s.mor.trip := by
  unfold capsuleRecord; (repeat' split) <;> simp [*]

@[simp] theorem mgtMsg_mor_trip (b : Bool) (s : State) : (mgtMsg b s).mor.trip = s.mor.trip := by
  unfold mgtMsg; (repeat' split) <;> simp [*]

@[simp] theorem cfgWrite_mor_trip (f : CfgFlash → CfgFlash) (s : State) : (cfgWrite f s).mor.trip = s.mor.trip := by
  unfold cfgWrite; (repeat' split) <;> simp [*]

@[simp] theorem putDir_mor_trip (second : Bool) (d : DirCopy) (s : State) : (putDir second d s).mor.trip = s.mor.trip := by
  unfold putDir; (repeat' split) <;> simp [*]

@[simp] theorem breakDir_mor_trip (s : State) : (breakDir s).mor.trip = s.mor.trip := by
  unfold breakDir; (repeat' split) <;> simp [*]

@[simp] theorem rewriteDir_mor_trip (f : BootDir → BootDir) (s : State) : (rewriteDir f s).mor.trip = s.mor.trip := by
  unfold rewriteDir; (repeat' split) <;> simp [*]

@[simp] theorem putComponent_mor_trip (c : Component) (b : Bool) (s : State) : (putComponent c b s).mor.trip = s.mor.trip := by
  unfold putComponent; (repeat' split) <;> simp [*]

@[simp] theorem dropComponent_mor_trip (c : Component) (b : Bool) (s : State) : (dropComponent c b s).mor.trip = s.mor.trip := by
  unfold dropComponent; (repeat' split) <;> simp [*]

@[simp] theorem pushedRecord_mor_trip (c : Component) (slot : Bool) (outcome : Nat) (g : Gate) (eff : State → State) (s : State)
    (h : ∀ s, (eff s).mor.trip = s.mor.trip) : (pushedRecord c slot outcome g eff s).mor.trip = s.mor.trip := by
  unfold pushedRecord
  split
  · exact h s
  · exact gated_mor_trip _ _ _ _ _ _ h

@[simp] theorem promoted_mor_trip (c : Component) (cleared : Bool) (s : State) : (promoted c cleared s).mor.trip = s.mor.trip := by
  unfold promoted; (repeat' split) <;> simp [*]

@[simp] theorem promote_mor_trip (c : Component) (copied cleared : Bool) (s : State) : (promote c copied cleared s).mor.trip = s.mor.trip := by
  unfold promote; (repeat' split) <;> simp [*]

@[simp] theorem romPrepare_mor_trip (p : PolicyImage) (s : State) : (romPrepare p s).mor.trip = s.mor.trip := by
  unfold romPrepare; (repeat' split) <;> simp [*]

@[simp] theorem romLock_mor_trip (p : PolicyImage) (s : State) : (romLock p s).mor.trip = s.mor.trip := by
  unfold romLock; (repeat' split) <;> simp [*]

@[simp] theorem bayHolds_mor_trip (s : State) : (bayHolds s).mor.trip = s.mor.trip := by
  unfold bayHolds
  apply each_mor_trip
  intro n s
  split <;> simp

@[simp] theorem finishPromotions_mor_trip (s : State) : (finishPromotions s).mor.trip = s.mor.trip := by
  unfold finishPromotions; (repeat' split) <;> simp [*]

@[simp] theorem refreshDir_mor_trip (s : State) : (refreshDir s).mor.trip = s.mor.trip := by
  unfold refreshDir; (repeat' split) <;> simp [*]

@[simp] theorem promotionGo_mor_trip (pol cleared : Bool) (s : State) : (promotionGo pol cleared s).mor.trip = s.mor.trip := by
  unfold promotionGo; (repeat' split) <;> simp [*]

@[simp] theorem relReqBit_mor_trip (d : Nat) (s : State) : (relReqBit d s).mor.trip = s.mor.trip := by
  unfold relReqBit; (repeat' split) <;> simp [*]

@[simp] theorem relEvaluate_mor_trip (l : List Nat) (s : State) : (relEvaluate l s).mor.trip = s.mor.trip := by
  unfold relEvaluate; (repeat' split) <;> simp [*]

@[simp] theorem relReqSet_mor_trip (d : Nat) (s : State) : (relReqSet d s).mor.trip = s.mor.trip := by
  unfold relReqSet
  apply mordantWrite_mor_trip
  intro s
  simp

@[simp] theorem otpDropped_mor_trip (s : State) : (otpDropped s).mor.trip = s.mor.trip := by
  unfold otpDropped; (repeat' split) <;> simp [*]

@[simp] theorem otpRefuse_mor_trip (op addr : Nat) (s : State) : (otpRefuse op addr s).mor.trip = s.mor.trip := by
  unfold otpRefuse; (repeat' split) <;> simp [*]

@[simp] theorem otpAfter_mor_trip (p : OtpPend) (s : State) : (otpAfter p s).mor.trip = s.mor.trip := by
  unfold otpAfter; (repeat' split) <;> simp [*]

@[simp] theorem ratchetBurn_mor_trip (n : Nat) (s : State) : (ratchetBurn n s).mor.trip = s.mor.trip := by
  unfold ratchetBurn; (repeat' split) <;> simp [*]

@[simp] theorem lcStepBegin_mor_trip (s : State) : (lcStepBegin s).mor.trip = s.mor.trip := by
  unfold lcStepBegin; (repeat' split) <;> simp [*]

@[simp] theorem lcStepGo_mor_trip (auth : Nat) (s : State) : (lcStepGo auth s).mor.trip = s.mor.trip := by
  unfold lcStepGo; (repeat' split) <;> simp [*]

@[simp] theorem otpNext_mor_trip (s : State) : (otpNext s).mor.trip = s.mor.trip := by
  unfold otpNext; (repeat' split) <;> simp [*]

@[simp] theorem scrubFinish_mor_trip (k : Nat) (s : State) : (scrubFinish k s).mor.trip = s.mor.trip := by
  unfold scrubFinish; (repeat' split) <;> simp [*]

@[simp] theorem scrubStart_mor_trip (k : Nat) (n : Nat) (s : State) : (scrubStart k n s).mor.trip = s.mor.trip := by
  induction n generalizing s with
  | zero => rfl
  | succ n ih => unfold scrubStart; dsimp only; (repeat' split) <;> simp [*]

@[simp] theorem startFrame_mor_trip (k : Nat) (f : Frame) (s : State) : (startFrame k f s).mor.trip = s.mor.trip := by
  unfold startFrame; (repeat' split) <;> simp [*]

@[simp] theorem grantFrame_mor_trip (k : Nat) (cl : Client) (s : State) : (grantFrame k cl s).mor.trip = s.mor.trip := by
  unfold grantFrame; dsimp only; (repeat' split) <;> simp [*]

@[simp] theorem sramWrite_mor_trip (a : Nat) (b : Bytes) (s : State) : (sramWrite a b s).mor.trip = s.mor.trip := by
  unfold sramWrite; (repeat' split) <;> simp [*]

@[simp] theorem scatter_mor_trip (l : List QEntry) (data : Bytes) (s : State) : (scatter l data s).mor.trip = s.mor.trip := by
  induction l generalizing data s with
  | nil => rfl
  | cons a r ih => unfold scatter; rw [ih]; simp

@[simp] theorem fwFrameDone_mor_trip (k : Nat) (f : Frame) (st : Nat) (s : State) : (fwFrameDone k f st s).mor.trip = s.mor.trip := by
  unfold fwFrameDone; (repeat' split) <;> simp [*]

@[simp] theorem streamIn_mor_trip (i : Nat) (f : Frame) (data : Bytes) (s : State) : (streamIn i f data s).mor.trip = s.mor.trip := by
  unfold streamIn; (repeat' split) <;> simp [*]

@[simp] theorem calibrateOn_mor_trip (k : Nat) (cal : Cal) (s : State) : (calibrateOn k cal s).mor.trip = s.mor.trip := by
  unfold calibrateOn; (repeat' split) <;> simp [*]

@[simp] theorem endPoll_mor_trip (k dev : Nat) (s : State) : (endPoll k dev s).mor.trip = s.mor.trip := by
  unfold endPoll; (repeat' split) <;> simp [*]

@[simp] theorem replayCheck_mor_trip (k : Nat) (s : State) : (replayCheck k s).mor.trip = s.mor.trip := by
  unfold replayCheck; dsimp only; (repeat' split) <;> simp [*]

@[simp] theorem partUp_mor_trip (s : State) (p : Nat) : (partUp s p).mor.trip = s.mor.trip := by
  unfold partUp; (repeat' split) <;> simp [*]

@[simp] theorem epUp_mor_trip (j : Nat) (s : State) : (epUp j s).mor.trip = s.mor.trip := by
  unfold epUp; (repeat' split) <;> simp [*]

@[simp] theorem epWaitEnd_mor_trip (j : Nat) (s : State) : (epWaitEnd j s).mor.trip = s.mor.trip := by
  unfold epWaitEnd; (repeat' split) <;> simp [*]

@[simp] theorem emitAttested_mor_trip (j : Nat) (kind result cause ver : Nat) (digest : Bytes) (s : State) : (emitAttested j kind result cause ver digest s).mor.trip = s.mor.trip := by
  unfold emitAttested; (repeat' split) <;> simp [*]

@[simp] theorem epFail_mor_trip (cause : Nat) (digest : Bytes) (j : Nat) (s : State) : (epFail cause digest j s).mor.trip = s.mor.trip := by
  unfold epFail; (repeat' split) <;> simp [*]

@[simp] theorem epLift_mor_trip (j : Nat) (s : State) : (epLift j s).mor.trip = s.mor.trip := by
  unfold epLift; dsimp only; (repeat' split) <;> simp [*]

@[simp] theorem upAtt_mor_trip (j : Nat) (f : Att → Att) (s : State) : (upAtt j f s).mor.trip = s.mor.trip := by
  unfold upAtt; (repeat' split) <;> simp [*]

@[simp] theorem drawNonce_mor_trip (j : Nat) (s : State) : (drawNonce j s).mor.trip = s.mor.trip := by
  unfold drawNonce; (repeat' split) <;> simp [*]

@[simp] theorem spdmNext_mor_trip (t : SpdmStep) (j : Nat) (s : State) : (spdmNext t j s).mor.trip = s.mor.trip := by
  unfold spdmNext; (repeat' split) <;> simp [*]

@[simp] theorem epFirmware_mor_trip (j : Nat) (s : State) : (epFirmware j s).mor.trip = s.mor.trip := by
  unfold epFirmware; dsimp only; (repeat' split) <;> simp [*]

@[simp] theorem upPart_mor_trip (p : Nat) (f : Part → Part) (s : State) : (upPart p f s).mor.trip = s.mor.trip := by
  unfold upPart; (repeat' split) <;> simp [*]

@[simp] theorem sliceFault_mor_trip (b i : Nat) (s : State) : (sliceFault b i s).mor.trip = s.mor.trip := by
  unfold sliceFault; dsimp only; (repeat' split) <;> simp [*]

@[simp] theorem dispatchTlp_mor_trip (i e : Nat) (t : Tlp) (s : State) : (dispatchTlp i e t s).mor.trip = s.mor.trip := by
  unfold dispatchTlp; (repeat' split) <;> simp [*]

@[simp] theorem deliverDue_mor_trip (s : State) : (deliverDue s).mor.trip = s.mor.trip := by
  unfold deliverDue; (repeat' split) <;> simp [*]

@[simp] theorem forwardTlp_mor_trip (i e : Nat) (t : Tlp) (s : State) : (forwardTlp i e t s).1.mor.trip = s.mor.trip := by
  unfold forwardTlp; (repeat' split) <;> simp [*]

@[simp] theorem away_mor_trip (q : Nat) (k : TlpKind) (s : State) : (away q k s).1.mor.trip = s.mor.trip := by
  unfold away; (repeat' split) <;> simp [*]

@[simp] theorem mctpTrack_mor_trip (p : Nat) (t : Tlp) (s : State) : (mctpTrack p t s).mor.trip = s.mor.trip := by
  unfold mctpTrack; (repeat' split) <;> simp [*]

@[simp] theorem awayAt_mor_trip (i p : Nat) (t : Tlp) (s : State) : (awayAt i p t s).1.mor.trip = s.mor.trip := by
  unfold awayAt; (repeat' split) <;> simp [*]

@[simp] theorem routeTlp_mor_trip (i p : Nat) (t : Tlp) (s : State) : (routeTlp i p t s).1.mor.trip = s.mor.trip := by
  unfold routeTlp; (repeat' split) <;> simp [*]

@[simp] theorem medTake_mor_trip (port i : Nat) (t : Tlp) (s : State) : (medTake port i t s).mor.trip = s.mor.trip := by
  unfold medTake; (repeat' split) <;> simp [*]

@[simp] theorem hostTlp_mor_trip (p : Nat) (t : Tlp) (s : State) : (hostTlp p t s).1.mor.trip = s.mor.trip := by
  unfold hostTlp; (repeat' split) <;> simp [*]

@[simp] theorem armReady_mor_trip (p : Nat) (s : State) : (armReady p s).mor.trip = s.mor.trip := by
  unfold armReady; (repeat' split) <;> simp [*]

@[simp] theorem armBegin_mor_trip (p src : Nat) (s : State) : (armBegin p src s).mor.trip = s.mor.trip := by
  unfold armBegin; (repeat' split) <;> simp [*]

@[simp] theorem upMed_mor_trip (port : Nat) (f : Mediation → Mediation) (s : State) : (upMed port f s).mor.trip = s.mor.trip := by
  unfold upMed; (repeat' split) <;> simp [*]

@[simp] theorem activateReady_mor_trip (port : Nat) (s : State) : (activateReady port s).mor.trip = s.mor.trip := by
  simp [activateReady]

@[simp] theorem medForward_mor_trip (m : MedPkt) (s : State) : (medForward m s).1.mor.trip = s.mor.trip := by
  unfold medForward; (repeat' split) <;> simp [*]

@[simp] theorem medEnq_mor_trip (m : MedPkt) (s : State) : (medEnq m s).mor.trip = s.mor.trip := by
  unfold medEnq; (repeat' split) <;> simp [*]

@[simp] theorem resubmitAll_mor_trip (s : State) : (resubmitAll s).mor.trip = s.mor.trip := by
  unfold resubmitAll
  rw [foldl_mor_trip]
  · simp
  · intro s w
    split <;> simp

@[simp] theorem ringResume_mor_trip (s : State) : (ringResume s).mor.trip = s.mor.trip := by
  unfold ringResume; dsimp only; (repeat' split) <;> simp [*]

@[simp] theorem wdtCtrlWrite_mor_trip (v : BitVec 32) (s : State) : (wdtCtrlWrite v s).mor.trip = s.mor.trip := by
  unfold wdtCtrlWrite; (repeat' split) <;> simp [*]

@[simp] theorem wdtCapture_mor_trip (cause : Nat) (pc : BitVec 64) (s : State) : (wdtCapture cause pc s).mor.trip = s.mor.trip := by
  unfold wdtCapture; (repeat' split) <;> simp [*]

@[simp] theorem upSig_mor_trip (e : Bool) (f : SigEng → SigEng) (s : State) : (upSig e f s).mor.trip = s.mor.trip := by
  unfold upSig; (repeat' split) <;> simp [*]

@[simp] theorem sigRemove_mor_trip (e : Bool) (s : State) : (sigRemove e s).mor.trip = s.mor.trip := by
  unfold sigRemove; (repeat' split) <;> simp [*]

@[simp] theorem applyWrite_mor_trip (p : PolicyImage) (r : PresentRec) (j : JEntry) (s : State) : (applyWrite p r j s).mor.trip = s.mor.trip := by
  unfold applyWrite; (repeat' split) <;> simp [*]

@[simp] theorem brStore_mor_trip (epoch : Nat) (b : Bytes) (s : State) : (brStore epoch b s).mor.trip = s.mor.trip := by
  unfold brStore; (repeat' split) <;> simp [*]

@[simp] theorem tokenAct_mor_trip (t : Token) (s : State) : (tokenAct t s).mor.trip = s.mor.trip := by
  unfold tokenAct; (repeat' split) <;> simp [*]

@[simp] theorem newChallenge_mor_trip (s : State) : (newChallenge s).mor.trip = s.mor.trip := by
  unfold newChallenge; (repeat' split) <;> simp [*]

@[simp] theorem mbxFinish_mor_trip (b : Bool) (result : Nat) (s : State) : (mbxFinish b result s).mor.trip = s.mor.trip := by
  unfold mbxFinish; (repeat' split) <;> simp [*]

@[simp] theorem exportFree_mor_trip (i : Nat) (s : State) : (exportFree i s).mor.trip = s.mor.trip := by
  unfold exportFree
  dsimp only
  split
  · rw [foldl_mor_trip]
    intro s k
    split <;> simp
  · rw [emit_mor_trip, foldl_mor_trip]
    intro s k
    split <;> simp

@[simp] theorem ackAccept_mor_trip (i : Nat) (s : State) : (ackAccept i s).mor.trip = s.mor.trip := by
  unfold ackAccept; (repeat' split) <;> simp [*]

@[simp] theorem ackEnd_mor_trip (b : Bool) (chain : Option Bytes) (s : State) : (ackEnd b chain s).mor.trip = s.mor.trip := by
  unfold ackEnd; (repeat' split) <;> simp [*]

@[simp] theorem journalCmdEntry_mor_trip (j : RingCmd) (body : Bytes) (s : State) : (journalCmdEntry j body s).mor.trip = s.mor.trip := by
  unfold journalCmdEntry; (repeat' split) <;> simp [*]

@[simp] theorem holdCmd_mor_trip (p g : Nat) (e : Bytes) (s : State) : (holdCmd p g e s).mor.trip = s.mor.trip := by
  unfold holdCmd; (repeat' split) <;> simp [*]

@[simp] theorem accessEnd_mor_trip (p g : Nat) (u : AccessUse) (s : State) : (accessEnd p g u s).mor.trip = s.mor.trip := by
  unfold accessEnd; (repeat' split) <;> simp [*]

@[simp] theorem queueFails_mor_trip (p g : Nat) (s : State) : (queueFails p g s).mor.trip = s.mor.trip := by
  unfold queueFails; (repeat' split) <;> simp [*]

@[simp] theorem accessFail_mor_trip (p g : Nat) (u : AccessUse) (s : State) : (accessFail p g u s).mor.trip = s.mor.trip := by
  unfold accessFail; dsimp only; (repeat' split) <;> simp [*]

@[simp] theorem vectorSend_mor_trip (p v : Nat) (s : State) : (vectorSend p v s).1.mor.trip = s.mor.trip := by
  unfold vectorSend; (repeat' split) <;> simp [*]

@[simp] theorem destroyFirst_mor_trip (p g : Nat) (s : State) : (destroyFirst p g s).mor.trip = s.mor.trip := by
  unfold destroyFirst; (repeat' split) <;> simp [*]

@[simp] theorem sqDoorbellGo_mor_trip (p : BitVec 2) (g : BitVec 18) (value : BitVec 32) (bound : Bool) (s : State) : (sqDoorbellGo p g value bound s).mor.trip = s.mor.trip := by
  unfold sqDoorbellGo; dsimp only; (repeat' split) <;> simp [*]

@[simp] theorem cqDoorbellGo_mor_trip (p : BitVec 2) (g : BitVec 18) (value : BitVec 32) (bound : Bool) (s : State) : (cqDoorbellGo p g value bound s).mor.trip = s.mor.trip := by
  unfold cqDoorbellGo; dsimp only; (repeat' split) <;> simp [*]

@[simp] theorem takeSealNo_mor_trip (s : State) : (takeSealNo s).mor.trip = s.mor.trip := by
  unfold takeSealNo; (repeat' split) <;> simp [*]

@[simp] theorem fetchGood_mor_trip (p g : Nat) (r : Ring) (f : Fetched) (s : State) : (fetchGood p g r f s).mor.trip = s.mor.trip := by
  unfold fetchGood; dsimp only; (repeat' split) <;> simp [*]

@[simp] theorem fetchBad_mor_trip (p g : Nat) (r : Ring) (f : Fetched) (status : Nat) (s : State) : (fetchBad p g r f status s).mor.trip = s.mor.trip := by
  unfold fetchBad; (repeat' split) <;> simp [*]

@[simp] theorem fetchTaken_mor_trip (p g : Nat) (s : State) : (fetchTaken p g s).mor.trip = s.mor.trip := by
  unfold fetchTaken; (repeat' split) <;> simp [*]

@[simp] theorem againEnd_mor_trip (j : RingCmd) (status : Nat) (result : Bytes) (out : List (Nat × Bytes)) (s : State) : (againEnd j status result out s).mor.trip = s.mor.trip := by
  unfold againEnd; (repeat' split) <;> simp [*]

@[simp] theorem completionWritten_mor_trip (p g : Nat) (j : RingCmd) (s : State) : (completionWritten p g j s).mor.trip = s.mor.trip := by
  unfold completionWritten; (repeat' split) <;> simp [*]

@[simp] theorem upAdm_mor_trip (p a : Nat) (f : AdmRegs → AdmRegs) (s : State) : (upAdm p a f s).mor.trip = s.mor.trip := by
  unfold upAdm; (repeat' split) <;> simp [*]

@[simp] theorem admWrite_mor_trip (p a : Nat) (v : BitVec 32) (s : State) : (admWrite p a v s).mor.trip = s.mor.trip := by
  unfold admWrite; dsimp only; (repeat' split) <;> simp [*]

@[simp] theorem writeCfg_mor_trip (p : Nat) (r : CfgReg) (v : BitVec 32) (s : State) : (writeCfg p r v s).mor.trip = s.mor.trip := by
  unfold writeCfg; (repeat' split) <;> simp [*]

@[simp] theorem mbxGo_mor_trip (b : Bool) (s : State) : (mbxGo b s).mor.trip = s.mor.trip := by
  unfold mbxGo; dsimp only; (repeat' split) <;> simp [*]

@[simp] theorem writeMailbox_mor_trip (b : Bool) (a : Nat) (w : BitVec 32) (s : State) : (writeMailbox b a w s).mor.trip = s.mor.trip := by
  unfold writeMailbox; (repeat' split) <;> simp [*]

@[simp] theorem writeBar0_mor_trip (p a : Nat) (v : BitVec 32) (s : State) : (writeBar0 p a v s).mor.trip = s.mor.trip := by
  unfold writeBar0; dsimp only; (repeat' split) <;> simp [*]

@[simp] theorem writeBar_mor_trip (n p a len : Nat) (v : BitVec 32) (s : State) : (writeBar n p a len v s).mor.trip = s.mor.trip := by
  unfold writeBar; (repeat' split) <;> simp [*]

@[simp] theorem writeMsix8_mor_trip (p a : Nat) (low high : BitVec 32) (s : State) : (writeMsix8 p a low high s).mor.trip = s.mor.trip := by
  unfold writeMsix8; (repeat' split) <;> simp [*]

@[simp] theorem writeMordant_mor_trip (a : Nat) (v : BitVec 32) (s : State) : (writeMordant a v s).mor.trip = s.mor.trip := by
  unfold writeMordant; dsimp only; (repeat' split) <;> (simp [*]; try ((repeat' split) <;> simp [*]))

@[simp] theorem writeChan_mor_trip (k a : Nat) (v : BitVec 32) (s : State) : (writeChan k a v s).mor.trip = s.mor.trip := by
  unfold writeChan; (repeat' split) <;> simp [*]

@[simp] theorem writeOtpc_mor_trip (a : Nat) (v : BitVec 32) (s : State) : (writeOtpc a v s).mor.trip = s.mor.trip := by
  unfold writeOtpc; dsimp only; (repeat' split) <;> simp [*]

@[simp] theorem writeSig_mor_trip (e : Bool) (a : Nat) (v : BitVec 32) (s : State) : (writeSig e a v s).mor.trip = s.mor.trip := by
  unfold writeSig; dsimp only; (repeat' split) <;> simp [*]

@[simp] theorem writeSic_mor_trip (a : Nat) (v : BitVec 32) (s : State) : (writeSic a v s).mor.trip = s.mor.trip := by
  unfold writeSic; (repeat' split) <;> simp [*]

@[simp] theorem writeWdt_mor_trip (a : Nat) (v : BitVec 32) (s : State) : (writeWdt a v s).mor.trip = s.mor.trip := by
  unfold writeWdt; (repeat' split) <;> simp [*]

@[simp] theorem writeDga_mor_trip (a : Nat) (v : BitVec 32) (s : State) : (writeDga a v s).mor.trip = s.mor.trip := by
  unfold writeDga; (repeat' split) <;> simp [*]

@[simp] theorem writeGate_mor_trip (a : Nat) (v : BitVec 32) (s : State) : (writeGate a v s).mor.trip = s.mor.trip := by
  unfold writeGate; (repeat' split) <;> simp [*]

@[simp] theorem writeBlock_mor_trip (n a : Nat) (v : BitVec 32) (s : State) : (writeBlock n a v s).mor.trip = s.mor.trip := by
  unfold writeBlock; (repeat' split) <;> simp [*]

@[simp] theorem csfHostRead_mor_trip (p : Nat) (t : Tlp) (s : State) : (csfHostRead p t s).1.mor.trip = s.mor.trip := by
  unfold csfHostRead; (repeat' split) <;> simp [*]

@[simp] theorem nvmeEffect_mor_trip (back : List DriveBlock) (u : NvmeUse) (s : State) : (nvmeEffect back u s).mor.trip = s.mor.trip := by
  unfold nvmeEffect; (repeat' split) <;> simp [*]

@[simp] theorem nvmeFail_mor_trip (s : State) : (nvmeFail s).mor.trip = s.mor.trip := by
  unfold nvmeFail; (repeat' split) <;> simp [*]

@[simp] theorem frameAbandon_mor_trip (k : Nat) (cl : Client) (s : State) : (frameAbandon k cl s).mor.trip = s.mor.trip := by
  unfold frameAbandon; (repeat' split) <;> simp [*]

@[simp] theorem restartStream_mor_trip (k : Nat) (s : State) : (restartStream k s).mor.trip = s.mor.trip := by
  unfold restartStream; (repeat' split) <;> simp [*]

@[simp] theorem medLost_mor_trip (port : Nat) (s : State) : (medLost port s).mor.trip = s.mor.trip := by
  unfold medLost; (repeat' split) <;> simp [*]

@[simp] theorem unitsAfter_mor_trip (t : SelfTest) (s : State) : (unitsAfter t s).mor.trip = s.mor.trip := by
  unfold unitsAfter; (repeat' split) <;> simp [*]

@[simp] theorem unitsScanned_mor_trip (s : State) : (unitsScanned s).mor.trip = s.mor.trip := by
  unfold unitsScanned; (repeat' split) <;> simp [*]

@[simp] theorem romFloor_mor_trip (cause : Nat) (s : State) : (romFloor cause s).mor.trip = s.mor.trip := by
  unfold romFloor; (repeat' split) <;> simp [*]

@[simp] theorem romFuses_mor_trip (t : SelfTest) (s : State) : (romFuses t s).mor.trip = s.mor.trip := by
  unfold romFuses; (repeat' split) <;> simp [*]

@[simp] theorem romTake_mor_trip (slot : Bool) (b : Bundle) (s : State) : (romTake slot b s).mor.trip = s.mor.trip := by
  unfold romTake; dsimp only; (repeat' split) <;> simp [*]

@[simp] theorem romSlot_mor_trip (t : SelfTest) (slot : Bool) (s : State) : (romSlot t slot s).mor.trip = s.mor.trip := by
  unfold romSlot; dsimp only; (repeat' split) <;> simp [*]

@[simp] theorem romPolicy_mor_trip (t : SelfTest) (s : State) : (romPolicy t s).mor.trip = s.mor.trip := by
  unfold romPolicy; (repeat' split) <;> simp [*]

@[simp] theorem romNoPolicy_mor_trip (s : State) : (romNoPolicy s).mor.trip = s.mor.trip := by
  unfold romNoPolicy; (repeat' split) <;> simp [*]

@[simp] theorem tickTimer_mor_trip (s : State) : (tickTimer s).mor.trip = s.mor.trip := by
  unfold tickTimer; (repeat' split) <;> simp [*]

@[simp] theorem tickWdt_mor_trip (s : State) : (tickWdt s).mor.trip = s.mor.trip := by
  unfold tickWdt; (repeat' split) <;> simp [*]

@[simp] theorem withPending_mor_trip (q : List Instr) (s : State) : (withPending q s).mor.trip = s.mor.trip := by
  unfold withPending; (repeat' split) <;> simp [*]

@[simp] theorem State.withFetchWord_mor_trip (s : State) (nbits w : Nat) : (State.withFetchWord s nbits w).mor.trip = s.mor.trip := by
  unfold State.withFetchWord; (repeat' split) <;> simp [*]

end Sys2Proof.Machine
end

