-- ==== Sys2Proof/Laws/FrameNrx.lean ====
section
/-! SUPPORT. Frame lemmas of the NRX-1 registers and counters: one simp lemma for each shared operation of Machine/*.lean
that never writes `State.nrx`, so that a proof about a command reads the field through the
operation without unfolding it. An operation without a lemma here may write the field. -/

namespace Sys2Proof.Machine

open Sys2Proof

set_option linter.unusedSimpArgs false
set_option linter.unusedTactic false
set_option linter.unnecessarySeqFocus false
set_option linter.unreachableTactic false
set_option linter.unusedVariables false

@[simp] theorem each_nrx (l : List Nat) (f : Nat → State → State) (s : State) (h : ∀ n s, (f n s).nrx = s.nrx) :
    (each l f s).nrx = s.nrx := by
  unfold each
  induction l generalizing s with
  | nil => rfl
  | cons a r ih => simp [ih, h]

@[simp] theorem foldl_nrx {α : Type} (l : List α) (f : State → α → State) (s : State) (h : ∀ s n, (f s n).nrx = s.nrx) :
    (l.foldl f s).nrx = s.nrx := by
  induction l generalizing s with
  | nil => rfl
  | cons a r ih => simp [ih, h]

@[simp] theorem gated_nrx (code src : Nat) (body : Bytes) (g : Gate) (eff : State → State) (s : State)
    (h : ∀ s, (eff s).nrx = s.nrx) : (gated code src body g eff s).nrx = s.nrx := by
  unfold gated
  dsimp only
  (repeat' split) <;> simp [h]

@[simp] theorem say_nrx (r : Reply) (s : State) : (say r s).nrx = s.nrx := by
  unfold say; (repeat' split) <;> simp [*]

@[simp] theorem drawn_nrx (s : State) : (drawn s).nrx = s.nrx := by
  unfold drawn; (repeat' split) <;> simp [*]

@[simp] theorem emit_nrx (code src : Nat) (body : Bytes) (s : State) : (emit code src body s).nrx = s.nrx := by
  unfold emit; (repeat' split) <;> simp [*]

@[simp] theorem emitFw_nrx (code : Nat) (body : Bytes) (s : State) : (emitFw code body s).nrx = s.nrx := by
  unfold emitFw; (repeat' split) <;> simp [*]

@[simp] theorem setPair_nrx (k : Nat) (v : BitVec 32) (s : State) : (setPair k v s).nrx = s.nrx := by
  unfold setPair; (repeat' split) <;> simp [*]

@[simp] theorem upImg_nrx (k : Nat) (f : Img → Img) (s : State) : (upImg k f s).nrx = s.nrx := by
  unfold upImg; (repeat' split) <;> simp [*]

@[simp] theorem upChan_nrx (k : Nat) (f : Channel → Channel) (s : State) : (upChan k f s).nrx = s.nrx := by
  unfold upChan; (repeat' split) <;> simp [*]

@[simp] theorem upEm_nrx (k : Nat) (f : EmDev → EmDev) (s : State) : (upEm k f s).nrx = s.nrx := by
  unfold upEm; (repeat' split) <;> simp [*]

@[simp] theorem upPort_nrx (k : Nat) (f : Port → Port) (s : State) : (upPort k f s).nrx = s.nrx := by
  unfold upPort; (repeat' split) <;> simp [*]

@[simp] theorem domProtoReset_nrx (d : Nat) (s : State) : (domProtoReset d s).nrx = s.nrx := by
  unfold domProtoReset; (repeat' split) <;> simp [*]

@[simp] theorem upEp_nrx (j : Nat) (f : Ep → Ep) (s : State) : (upEp j f s).nrx = s.nrx := by
  unfold upEp; (repeat' split) <;> simp [*]

@[simp] theorem upCbus_nrx (i : Nat) (f : CbusComp → CbusComp) (s : State) : (upCbus i f s).nrx = s.nrx := by
  unfold upCbus; (repeat' split) <;> simp [*]

@[simp] theorem aerReport_nrx (port n : Nat) (s : State) : (aerReport port n s).nrx = s.nrx := by
  unfold aerReport; (repeat' split) <;> simp [*]

@[simp] theorem dropHeld_nrx (port : Nat) (s : State) : (dropHeld port s).nrx = s.nrx := by
  unfold dropHeld; (repeat' split) <;> simp [*]

@[simp] theorem endMediation_nrx (port : Nat) (s : State) : (endMediation port s).nrx = s.nrx := by
  unfold endMediation; (repeat' split) <;> simp [*]

@[simp] theorem linkDrop_nrx (port : Nat) (s : State) : (linkDrop port s).nrx = s.nrx := by
  unfold linkDrop; (repeat' split) <;> simp [*]

@[simp] theorem epUnvat_nrx (j : Nat) (s : State) : (epUnvat j s).nrx = s.nrx := by
  unfold epUnvat; (repeat' split) <;> simp [*]

@[simp] theorem epSealIt_nrx (j : Nat) (s : State) : (epSealIt j s).nrx = s.nrx := by
  unfold epSealIt; (repeat' split) <;> simp [*]

@[simp] theorem startRecheck_nrx (k : AttKind) (j : Nat) (s : State) : (startRecheck k j s).nrx = s.nrx := by
  unfold startRecheck; (repeat' split) <;> simp [*]

@[simp] theorem emitContained_nrx (j : Nat) (s : State) : (emitContained j s).nrx = s.nrx := by
  unfold emitContained; (repeat' split) <;> simp [*]

@[simp] theorem epContain_nrx (f : Causes → Causes) (j : Nat) (s : State) : (epContain f j s).nrx = s.nrx := by
  unfold epContain; (repeat' split) <;> simp [*]

@[simp] theorem epRecheck_nrx (f : Causes → Causes) (wait : Bool) (j : Nat) (s : State) : (epRecheck f wait j s).nrx = s.nrx := by
  unfold epRecheck; (repeat' split) <;> simp [*]

@[simp] theorem epChanged_nrx (digest : Bytes) (j : Nat) (s : State) : (epChanged digest j s).nrx = s.nrx := by
  unfold epChanged; (repeat' split) <;> simp [*]

@[simp] theorem epRefuse_nrx (j : Nat) (s : State) : (epRefuse j s).nrx = s.nrx := by
  unfold epRefuse; (repeat' split) <;> simp [*]

@[simp] theorem epOpen_nrx (j : Nat) (s : State) : (epOpen j s).nrx = s.nrx := by
  unfold epOpen; dsimp only; (repeat' split) <;> simp [*]

@[simp] theorem heldRecord_nrx (d cause : Nat) (final : Bool) (s : State) : (heldRecord d cause final s).nrx = s.nrx := by
  unfold heldRecord; (repeat' split) <;> simp [*]

@[simp] theorem clearSlots_nrx (d : Nat) (s : State) : (clearSlots d s).nrx = s.nrx := by
  unfold clearSlots; (repeat' split) <;> simp [*]

@[simp] theorem imgAgain_nrx (k : Nat) (s : State) : (imgAgain k s).nrx = s.nrx := by
  unfold imgAgain; (repeat' split) <;> simp [*]

@[simp] theorem domUnslot_nrx (d : Nat) (s : State) : (domUnslot d s).nrx = s.nrx := by
  unfold domUnslot; (repeat' split) <;> simp [*]

@[simp] theorem domLost_nrx (d : Nat) (s : State) : (domLost d s).nrx = s.nrx := by
  unfold domLost; (repeat' split) <;> simp [*]

@[simp] theorem holdDom_nrx (cause : Nat) (final : Bool) (d : Nat) (s : State) : (holdDom cause final d s).nrx = s.nrx := by
  unfold holdDom; (repeat' split) <;> simp [*]

@[simp] theorem cascade_nrx  (n : Nat) (s : State) : (cascade  n s).nrx = s.nrx := by
  induction n generalizing s with
  | zero => rfl
  | succ n ih => unfold cascade; dsimp only; (repeat' split) <;> simp [*]

@[simp] theorem markFinal_nrx (cause d : Nat) (s : State) : (markFinal cause d s).nrx = s.nrx := by
  unfold markFinal; (repeat' split) <;> simp [*]

@[simp] theorem holdFinal_nrx (cause d : Nat) (s : State) : (holdFinal cause d s).nrx = s.nrx := by
  unfold holdFinal; (repeat' split) <;> simp [*]

@[simp] theorem finalCascade_nrx  (n : Nat) (s : State) : (finalCascade  n s).nrx = s.nrx := by
  induction n generalizing s with
  | zero => rfl
  | succ n ih => unfold finalCascade; dsimp only; (repeat' split) <;> simp [*]

@[simp] theorem epRelease_nrx (d j : Nat) (s : State) : (epRelease d j s).nrx = s.nrx := by
  unfold epRelease; (repeat' split) <;> simp [*]

@[simp] theorem releaseDom_nrx (d : Nat) (s : State) : (releaseDom d s).nrx = s.nrx := by
  unfold releaseDom; (repeat' split) <;> simp [*]

@[simp] theorem interlock_nrx  (n : Nat) (s : State) : (interlock  n s).nrx = s.nrx := by
  induction n generalizing s with
  | zero => rfl
  | succ n ih => unfold interlock; dsimp only; (repeat' split) <;> simp [*]

@[simp] theorem vioHold_nrx (s : State) : (vioHold s).nrx = s.nrx := by
  unfold vioHold; (repeat' split) <;> simp [*]

@[simp] theorem vatWithdraw_nrx (s : State) : (vatWithdraw s).nrx = s.nrx := by
  unfold vatWithdraw; (repeat' split) <;> simp [*]

@[simp] theorem vatRelease_nrx (s : State) : (vatRelease s).nrx = s.nrx := by
  unfold vatRelease
  apply each_nrx
  intro j s
  try dsimp only
  split <;> simp

@[simp] theorem vatGrant_nrx (s : State) : (vatGrant s).nrx = s.nrx := by
  unfold vatGrant; (repeat' split) <;> simp [*]

@[simp] theorem recheckGo_nrx (s : State) : (recheckGo s).nrx = s.nrx := by
  unfold recheckGo; (repeat' split) <;> simp [*]

@[simp] theorem phaseStep_nrx (s : State) : (phaseStep s).nrx = s.nrx := by
  unfold phaseStep; (repeat' split) <;> simp [*]

@[simp] theorem brClose_nrx (s : State) : (brClose s).nrx = s.nrx := by
  unfold brClose; (repeat' split) <;> simp [*]

@[simp] theorem lateAnswer_nrx (b : Bool) (cmd flags result : Nat) (body : Bytes) (s : State) : (lateAnswer b cmd flags result body s).nrx = s.nrx := by
  unfold lateAnswer; (repeat' split) <;> simp [*]

@[simp] theorem nvmeDrop_nrx (s : State) : (nvmeDrop s).nrx = s.nrx := by
  unfold nvmeDrop
  refine (foldl_nrx _ _ _ ?_).trans (by simp)
  intro s c
  try dsimp only
  split <;> simp

@[simp] theorem vaultSet_nrx (st : VaultState) (code cause : Nat) (s : State) : (vaultSet st code cause s).nrx = s.nrx := by
  unfold vaultSet; (repeat' split) <;> simp [*]

@[simp] theorem nvmeIssue_nrx (l : List NvmeUse) (s : State) : (nvmeIssue l s).nrx = s.nrx := by
  unfold nvmeIssue; (repeat' split) <;> simp [*]

@[simp] theorem vaultSync_nrx (s : State) : (vaultSync s).nrx = s.nrx := by
  unfold vaultSync; dsimp only; (repeat' split) <;> simp [*]

@[simp] theorem alertBoth_nrx (s : State) : (alertBoth s).nrx = s.nrx := by
  unfold alertBoth; (repeat' split) <;> simp [*]

@[simp] theorem tempAlert_nrx (s : State) : (tempAlert s).nrx = s.nrx := by
  unfold tempAlert; (repeat' split) <;> simp [*]

@[simp] theorem highAlert_nrx (s : State) : (highAlert s).nrx = s.nrx := by
  unfold highAlert; (repeat' split) <;> simp [*]

@[simp] theorem settle_nrx (s : State) : (settle s).nrx = s.nrx := by
  unfold settle; (repeat' split) <;> simp [*]

@[simp] theorem tripDom_nrx (d : Nat) (s : State) : (tripDom d s).nrx = s.nrx := by
  unfold tripDom; dsimp only; (repeat' split) <;> simp [*]

@[simp] theorem tripGate_nrx (s : State) : (tripGate s).nrx = s.nrx := by
  unfold tripGate; (repeat' split) <;> simp [*]

@[simp] theorem custodyTrip_nrx (src : Nat) (s : State) : (custodyTrip src s).nrx = s.nrx := by
  unfold custodyTrip; (repeat' split) <;> simp [*]

@[simp] theorem wdtServed_nrx (s : State) : (wdtServed s).nrx = s.nrx := by
  unfold wdtServed; (repeat' split) <;> simp [*]

@[simp] theorem mordantWrite_nrx (f : State → State) (s : State) (h : ∀ s, (f s).nrx = s.nrx) : (mordantWrite f s).nrx = s.nrx := by
  unfold mordantWrite
  split
  · exact h s
  · simp

@[simp] theorem fwAdvance_nrx (k : Nat) (n : Nat) (s : State) : (fwAdvance k n s).nrx = s.nrx := by
  induction n generalizing s with
  | zero => rfl
  | succ n ih => unfold fwAdvance; dsimp only; (repeat' split) <;> simp [*]

@[simp] theorem grantEnd_nrx (s : State) : (grantEnd s).nrx = s.nrx := by
  unfold grantEnd; (repeat' split) <;> simp [*]

@[simp] theorem imgFinal_nrx (cause slot : Nat) (s : State) : (imgFinal cause slot s).nrx = s.nrx := by
  unfold imgFinal; (repeat' split) <;> simp [*]

@[simp] theorem chanLost_nrx (k : Nat) (s : State) : (chanLost k s).nrx = s.nrx := by
  unfold chanLost; (repeat' split) <;> simp [*]

@[simp] theorem failStreams_nrx (k : Nat) (s : State) : (failStreams k s).nrx = s.nrx := by
  unfold failStreams; (repeat' split) <;> simp [*]

@[simp] theorem commitLeave_nrx (k : Nat) (s : State) : (commitLeave k s).nrx = s.nrx := by
  unfold commitLeave; (repeat' split) <;> simp [*]

@[simp] theorem fillStop_nrx (k : Nat) (s : State) : (fillStop k s).nrx = s.nrx := by
  unfold fillStop; (repeat' split) <;> simp [*]

@[simp] theorem chanStop_nrx (k : Nat) (s : State) : (chanStop k s).nrx = s.nrx := by
  unfold chanStop; dsimp only; (repeat' split) <;> simp [*]

@[simp] theorem bankStop_nrx (k : Nat) (s : State) : (bankStop k s).nrx = s.nrx := by
  unfold bankStop; (repeat' split) <;> simp [*]

@[simp] theorem chanFail_nrx (k : Nat) (s : State) : (chanFail k s).nrx = s.nrx := by
  unfold chanFail; (repeat' split) <;> simp [*]

@[simp] theorem portFail_nrx (k : Nat) (s : State) : (portFail k s).nrx = s.nrx := by
  unfold portFail; (repeat' split) <;> simp [*]

@[simp] theorem commitKeep_nrx (k : Nat) (s : State) : (commitKeep k s).nrx = s.nrx := by
  unfold commitKeep; dsimp only; (repeat' split) <;> simp [*]

@[simp] theorem commitRead_nrx (k : Nat) (f : Frame) (data : Bytes) (s : State) : (commitRead k f data s).nrx = s.nrx := by
  unfold commitRead; (repeat' split) <;> simp [*]

@[simp] theorem commitHalt_nrx (k : Nat) (s : State) : (commitHalt k s).nrx = s.nrx := by
  unfold commitHalt; dsimp only; (repeat' split) <;> simp [*]

@[simp] theorem commitRetire_nrx (k : Nat) (s : State) : (commitRetire k s).nrx = s.nrx := by
  unfold commitRetire; (repeat' split) <;> simp [*]

@[simp] theorem chanReady_nrx (k : Nat) (s : State) : (chanReady k s).nrx = s.nrx := by
  unfold chanReady; (repeat' split) <;> simp [*]

@[simp] theorem escalateNow_nrx (trip src scope : Nat) (doms : List Nat) (s : State) :
    (escalateNow trip src scope doms s).nrx = s.nrx := by
  unfold escalateNow
  split
  · simp
  · rw [settle_nrx]
    apply each_nrx
    intro n s
    split <;> simp
  · rfl

@[simp] theorem escalateLater_nrx (src scope : Nat) (doms : List Nat) (s : State) : (escalateLater src scope doms s).nrx = s.nrx := by
  unfold escalateLater; (repeat' split) <;> simp [*]

@[simp] theorem escalateFw_nrx (src scope : Nat) (doms : List Nat) (s : State) : (escalateFw src scope doms s).nrx = s.nrx := by
  unfold escalateFw; (repeat' split) <;> simp [*]

@[simp] theorem lakeOutHold_nrx (s : State) : (lakeOutHold s).nrx = s.nrx := by
  unfold lakeOutHold; dsimp only; (repeat' split) <;> simp [*]

@[simp] theorem cfgTouch_nrx (addr len : Nat) (s : State) : (cfgTouch addr len s).nrx = s.nrx := by
  unfold cfgTouch; (repeat' split) <;> simp [*]

@[simp] theorem dgaServe_nrx (s : State) : (dgaServe s).nrx = s.nrx := by
  unfold dgaServe; (repeat' split) <;> simp [*]

@[simp] theorem ringErrorRecord_nrx (p cause ring : Nat) (s : State) : (ringErrorRecord p cause ring s).nrx = s.nrx := by
  unfold ringErrorRecord; (repeat' split) <;> simp [*]

@[simp] theorem capsulesEnd_nrx (q : Nat → Nat → Bool) (s : State) : (capsulesEnd q s).nrx = s.nrx := by
  unfold capsulesEnd; (repeat' split) <;> simp [*]

@[simp] theorem debugOpen_nrx (scope : BitVec 4) (s : State) : (debugOpen scope s).nrx = s.nrx := by
  unfold debugOpen; (repeat' split) <;> simp [*]

@[simp] theorem debugGo_nrx (s : State) : (debugGo s).nrx = s.nrx := by
  unfold debugGo; (repeat' split) <;> simp [*]

@[simp] theorem epHot_nrx (j : Nat) (s : State) : (epHot j s).nrx = s.nrx := by
  unfold epHot; dsimp only; (repeat' split) <;> simp [*]

@[simp] theorem partHot_nrx (p : Nat) (s : State) : (partHot p s).nrx = s.nrx := by
  unfold partHot; (repeat' split) <;> simp [*]

@[simp] theorem dropPart_nrx (p : Nat) (s : State) : (dropPart p s).nrx = s.nrx := by
  unfold dropPart; (repeat' split) <;> simp [*]

@[simp] theorem upstreamDown_nrx (p : Nat) (s : State) : (upstreamDown p s).nrx = s.nrx := by
  unfold upstreamDown; (repeat' split) <;> simp [*]

@[simp] theorem workWrite_nrx (a : Nat) (b : Bytes) (s : State) : (workWrite a b s).nrx = s.nrx := by
  unfold workWrite
  rw [upLake_nrx, upSc_nrx]

@[simp] theorem workPut_nrx (a : Nat) (b : Bytes) (s : State) : (workPut a b s).nrx = s.nrx := by
  simp [workPut, apply_ite State.nrx]

@[simp] theorem lakeStore_nrx (base : Nat) (cells : List (Nat × Byte)) (s : State) : (lakeStore base cells s).nrx = s.nrx := by
  unfold lakeStore; (repeat' split) <;> simp [*]

@[simp] theorem lakeFill_nrx (base n : Nat) (cells : List (Nat × Byte)) (s : State) : (lakeFill base n cells s).nrx = s.nrx := by
  unfold lakeFill; (repeat' split) <;> simp [*]

@[simp] theorem imageWriteGo_nrx (k base n : Nat) (cells : List (Nat × Byte)) (s : State) : (imageWriteGo k base n cells s).nrx = s.nrx := by
  unfold imageWriteGo; (repeat' split) <;> simp [*]

@[simp] theorem imageWrite_nrx (k base n : Nat) (cells : List (Nat × Byte)) (s : State) : (imageWrite k base n cells s).nrx = s.nrx := by
  unfold imageWrite; (repeat' split) <;> simp [*]

@[simp] theorem hotFill_nrx (p : PolicyImage) (r : PresentRec) (s : State) : (hotFill p r s).nrx = s.nrx := by
  unfold hotFill; (repeat' split) <;> simp [*]

@[simp] theorem underrunRecord_nrx (r : PresentRec) (cause addr : Nat) (s : State) : (underrunRecord r cause addr s).nrx = s.nrx := by
  unfold underrunRecord; (repeat' split) <;> simp [*]

@[simp] theorem clearFail_nrx (k : Nat) (s : State) : (clearFail k s).nrx = s.nrx := by
  unfold clearFail; (repeat' split) <;> simp [*]

@[simp] theorem streamGo_nrx (k : Nat) (x : Source) (s : State) : (streamGo k x s).nrx = s.nrx := by
  unfold streamGo; (repeat' split) <;> simp [*]

@[simp] theorem streamFail_nrx (i : Nat) (s : State) : (streamFail i s).nrx = s.nrx := by
  unfold streamFail; (repeat' split) <;> simp [*]

@[simp] theorem streamAll_nrx (k : Nat) (cells : List (Nat × Byte)) (s : State) : (streamAll k cells s).nrx = s.nrx := by
  unfold streamAll; (repeat' split) <;> simp [*]

@[simp] theorem imgLoading_nrx (k : Nat) (s : State) : (imgLoading k s).nrx = s.nrx := by
  unfold imgLoading; (repeat' split) <;> simp [*]

@[simp] theorem recoveryGo_nrx (k : Nat) (fallback : Bool) (s : State) : (recoveryGo k fallback s).nrx = s.nrx := by
  unfold recoveryGo; dsimp only; (repeat' split) <;> simp [*]

theorem takeAction_nrx (k : Nat) (fallback : Bool) (fails : State → State) (s : State) (h : ∀ s, (fails s).nrx = s.nrx) :
    (takeAction k fallback fails s).nrx = s.nrx := by
  unfold takeAction
  dsimp only
  (repeat' split) <;> simp [h]

@[simp] theorem fallbackAction_nrx (k : Nat) (s : State) : (fallbackAction k s).nrx = s.nrx := by
  unfold fallbackAction
  split
  · apply takeAction_nrx
    intro s
    simp
  · simp

@[simp] theorem actionFails_nrx (k : Nat) (s : State) : (actionFails k s).nrx = s.nrx := by
  unfold actionFails; (repeat' split) <;> simp [*]

@[simp] theorem actionStart_nrx (k : Nat) (s : State) : (actionStart k s).nrx = s.nrx := by
  unfold actionStart
  apply takeAction_nrx
  intro s
  simp

@[simp] theorem switchHalves_nrx (k : Nat) (s : State) : (switchHalves k s).nrx = s.nrx := by
  unfold switchHalves; (repeat' split) <;> simp [*]

@[simp] theorem verdictRecords_nrx (k : Nat) (x : Source) (pass : Bool) (cause : Nat) (s : State) : (verdictRecords k x pass cause s).nrx = s.nrx := by
  unfold verdictRecords; (repeat' split) <;> simp [*]

@[simp] theorem keepJudged_nrx (k : Nat) (m : Option Manifest) (digest : Bytes) (pass : Bool) (s : State) : (keepJudged k m digest pass s).nrx = s.nrx := by
  unfold keepJudged; (repeat' split) <;> simp [*]

@[simp] theorem afterPass_nrx (k : Nat) (x : Source) (s : State) : (afterPass k x s).nrx = s.nrx := by
  unfold afterPass; dsimp only; (repeat' split) <;> simp [*]

@[simp] theorem afterFail_nrx (k : Nat) (x : Source) (s : State) : (afterFail k x s).nrx = s.nrx := by
  unfold afterFail; (repeat' split) <;> simp [*]

@[simp] theorem writeVerdict_nrx (k : Nat) (x : Source) (m : Option Manifest) (digest : Bytes) (pass : Bool) (cause : Nat) (s : State) : (writeVerdict k x m digest pass cause s).nrx = s.nrx := by
  unfold writeVerdict; (repeat' split) <;> simp [*]

@[simp] theorem polFloorRaise_nrx (n : Nat) (s : State) : (polFloorRaise n s).nrx = s.nrx := by
  unfold polFloorRaise; (repeat' split) <;> simp [*]

@[simp] theorem upMgt_nrx (b : Bool) (f : Mgt → Mgt) (s : State) : (upMgt b f s).nrx = s.nrx := by
  unfold upMgt; (repeat' split) <;> simp [*]

@[simp] theorem capsuleStep_nrx (n : Nat) (s : State) : (capsuleStep n s).nrx = s.nrx := by
  unfold capsuleStep; (repeat' split) <;> simp [*]

@[simp] theorem capsuleWrite_nrx (j : CapsuleJob) (s : State) : (capsuleWrite j s).nrx = s.nrx := by
  unfold capsuleWrite; (repeat' split) <;> simp [*]

@[simp] theorem mgtMsg_nrx (b : Bool) (s : State) : (mgtMsg b s).nrx = s.nrx := by
  unfold mgtMsg; (repeat' split) <;> simp [*]

@[simp] theorem cfgWrite_nrx (f : CfgFlash → CfgFlash) (s : State) : (cfgWrite f s).nrx = s.nrx := by
  unfold cfgWrite; (repeat' split) <;> simp [*]

@[simp] theorem putDir_nrx (second : Bool) (d : DirCopy) (s : State) : (putDir second d s).nrx = s.nrx := by
  unfold putDir; (repeat' split) <;> simp [*]

@[simp] theorem breakDir_nrx (s : State) : (breakDir s).nrx = s.nrx := by
  unfold breakDir; (repeat' split) <;> simp [*]

@[simp] theorem rewriteDir_nrx (f : BootDir → BootDir) (s : State) : (rewriteDir f s).nrx = s.nrx := by
  unfold rewriteDir; (repeat' split) <;> simp [*]

@[simp] theorem putComponent_nrx (c : Component) (b : Bool) (s : State) : (putComponent c b s).nrx = s.nrx := by
  unfold putComponent; (repeat' split) <;> simp [*]

@[simp] theorem dropComponent_nrx (c : Component) (b : Bool) (s : State) : (dropComponent c b s).nrx = s.nrx := by
  unfold dropComponent; (repeat' split) <;> simp [*]

@[simp] theorem pushedRecord_nrx (c : Component) (slot : Bool) (outcome : Nat) (g : Gate) (eff : State → State) (s : State)
    (h : ∀ s, (eff s).nrx = s.nrx) : (pushedRecord c slot outcome g eff s).nrx = s.nrx := by
  unfold pushedRecord
  split
  · exact h s
  · exact gated_nrx _ _ _ _ _ _ h

@[simp] theorem promoted_nrx (c : Component) (cleared : Bool) (s : State) : (promoted c cleared s).nrx = s.nrx := by
  unfold promoted; (repeat' split) <;> simp [*]

@[simp] theorem promote_nrx (c : Component) (copied cleared : Bool) (s : State) : (promote c copied cleared s).nrx = s.nrx := by
  unfold promote; (repeat' split) <;> simp [*]

@[simp] theorem romPrepare_nrx (p : PolicyImage) (s : State) : (romPrepare p s).nrx = s.nrx := by
  unfold romPrepare; (repeat' split) <;> simp [*]

@[simp] theorem romLock_nrx (p : PolicyImage) (s : State) : (romLock p s).nrx = s.nrx := by
  unfold romLock; (repeat' split) <;> simp [*]

@[simp] theorem bayHolds_nrx (s : State) : (bayHolds s).nrx = s.nrx := by
  unfold bayHolds
  apply each_nrx
  intro n s
  split <;> simp

@[simp] theorem finishPromotions_nrx (s : State) : (finishPromotions s).nrx = s.nrx := by
  unfold finishPromotions; (repeat' split) <;> simp [*]

@[simp] theorem refreshDir_nrx (s : State) : (refreshDir s).nrx = s.nrx := by
  unfold refreshDir; (repeat' split) <;> simp [*]

@[simp] theorem promotionGo_nrx (pol cleared : Bool) (s : State) : (promotionGo pol cleared s).nrx = s.nrx := by
  unfold promotionGo; (repeat' split) <;> simp [*]

@[simp] theorem cbusStart_nrx (found : List (Nat × Nat)) (s : State) : (cbusStart found s).nrx = s.nrx := by
  unfold cbusStart; dsimp only; (repeat' split) <;> simp [*, apply_ite State.nrx]

@[simp] theorem firmwareStart_nrx (found : List (Nat × Nat)) (s : State) : (firmwareStart found s).nrx = s.nrx := by
  unfold firmwareStart; (repeat' split) <;> simp [*]

@[simp] theorem romGo_nrx (found : List (Nat × Nat)) (s : State) : (romGo found s).nrx = s.nrx := by
  unfold romGo; (repeat' split) <;> simp [*]

@[simp] theorem romResume_nrx (s : State) : (romResume s).nrx = s.nrx := by
  unfold romResume; (repeat' split) <;> simp [*]

@[simp] theorem relReqBit_nrx (d : Nat) (s : State) : (relReqBit d s).nrx = s.nrx := by
  unfold relReqBit; (repeat' split) <;> simp [*]

@[simp] theorem relEvaluate_nrx (l : List Nat) (s : State) : (relEvaluate l s).nrx = s.nrx := by
  unfold relEvaluate; (repeat' split) <;> simp [*]

@[simp] theorem relReqSet_nrx (d : Nat) (s : State) : (relReqSet d s).nrx = s.nrx := by
  unfold relReqSet
  apply mordantWrite_nrx
  intro s
  simp

@[simp] theorem otpDropped_nrx (s : State) : (otpDropped s).nrx = s.nrx := by
  unfold otpDropped; (repeat' split) <;> simp [*]

@[simp] theorem otpRefuse_nrx (op addr : Nat) (s : State) : (otpRefuse op addr s).nrx = s.nrx := by
  unfold otpRefuse; (repeat' split) <;> simp [*]

@[simp] theorem otpAfter_nrx (p : OtpPend) (s : State) : (otpAfter p s).nrx = s.nrx := by
  unfold otpAfter; (repeat' split) <;> simp [*]

@[simp] theorem ratchetBurn_nrx (n : Nat) (s : State) : (ratchetBurn n s).nrx = s.nrx := by
  unfold ratchetBurn; (repeat' split) <;> simp [*]

@[simp] theorem lcStepBegin_nrx (s : State) : (lcStepBegin s).nrx = s.nrx := by
  unfold lcStepBegin; (repeat' split) <;> simp [*]

@[simp] theorem lcStepGo_nrx (auth : Nat) (s : State) : (lcStepGo auth s).nrx = s.nrx := by
  unfold lcStepGo; (repeat' split) <;> simp [*]

@[simp] theorem otpNext_nrx (s : State) : (otpNext s).nrx = s.nrx := by
  unfold otpNext; (repeat' split) <;> simp [*]

@[simp] theorem scrubFinish_nrx (k : Nat) (s : State) : (scrubFinish k s).nrx = s.nrx := by
  unfold scrubFinish; (repeat' split) <;> simp [*]

@[simp] theorem scrubMismatch_nrx (k : Nat) (f : Frame) (s : State) : (scrubMismatch k f s).nrx = s.nrx := by
  unfold scrubMismatch; (repeat' split) <;> simp [*]

@[simp] theorem scrubStart_nrx (k : Nat) (n : Nat) (s : State) : (scrubStart k n s).nrx = s.nrx := by
  induction n generalizing s with
  | zero => rfl
  | succ n ih => unfold scrubStart; dsimp only; (repeat' split) <;> simp [*]

@[simp] theorem scrubResult_nrx (k : Nat) (f : Frame) (bad : List Nat) (s : State) : (scrubResult k f bad s).nrx = s.nrx := by
  unfold scrubResult; (repeat' split) <;> simp [*]

@[simp] theorem scrubOver_nrx (k : Nat) (f : Frame) (ok : Bool) (data : Bytes) (s : State) : (scrubOver k f ok data s).nrx = s.nrx := by
  unfold scrubOver; (repeat' split) <;> simp [*]

@[simp] theorem startFrame_nrx (k : Nat) (f : Frame) (s : State) : (startFrame k f s).nrx = s.nrx := by
  unfold startFrame; (repeat' split) <;> simp [*]

@[simp] theorem grantFrame_nrx (k : Nat) (cl : Client) (s : State) : (grantFrame k cl s).nrx = s.nrx := by
  unfold grantFrame; dsimp only; (repeat' split) <;> simp [*]

@[simp] theorem sramWrite_nrx (a : Nat) (b : Bytes) (s : State) : (sramWrite a b s).nrx = s.nrx := by
  unfold sramWrite; (repeat' split) <;> simp [*]

@[simp] theorem scatter_nrx (l : List QEntry) (data : Bytes) (s : State) : (scatter l data s).nrx = s.nrx := by
  induction l generalizing data s with
  | nil => rfl
  | cons a r ih => unfold scatter; rw [ih]; simp

@[simp] theorem fwFrameDone_nrx (k : Nat) (f : Frame) (st : Nat) (s : State) : (fwFrameDone k f st s).nrx = s.nrx := by
  unfold fwFrameDone; (repeat' split) <;> simp [*]

@[simp] theorem streamIn_nrx (i : Nat) (f : Frame) (data : Bytes) (s : State) : (streamIn i f data s).nrx = s.nrx := by
  unfold streamIn; (repeat' split) <;> simp [*]

@[simp] theorem frameOver_nrx (k : Nat) (f : Frame) (ok : Bool) (data : Bytes) (s : State) :
    (frameOver k f ok data s).nrx = s.nrx := by
  unfold frameOver
  dsimp only
  split <;> (repeat' split) <;> simp

@[simp] theorem calibrateOn_nrx (k : Nat) (cal : Cal) (s : State) : (calibrateOn k cal s).nrx = s.nrx := by
  unfold calibrateOn; (repeat' split) <;> simp [*]

@[simp] theorem endPoll_nrx (k dev : Nat) (s : State) : (endPoll k dev s).nrx = s.nrx := by
  unfold endPoll; (repeat' split) <;> simp [*]

@[simp] theorem replayCheck_nrx (k : Nat) (s : State) : (replayCheck k s).nrx = s.nrx := by
  unfold replayCheck; dsimp only; (repeat' split) <;> simp [*]

@[simp] theorem partUp_nrx (s : State) (p : Nat) : (partUp s p).nrx = s.nrx := by
  unfold partUp; (repeat' split) <;> simp [*]

@[simp] theorem epUp_nrx (j : Nat) (s : State) : (epUp j s).nrx = s.nrx := by
  unfold epUp; (repeat' split) <;> simp [*]

@[simp] theorem epWaitEnd_nrx (j : Nat) (s : State) : (epWaitEnd j s).nrx = s.nrx := by
  unfold epWaitEnd; (repeat' split) <;> simp [*]

@[simp] theorem emitAttested_nrx (j : Nat) (kind result cause ver : Nat) (digest : Bytes) (s : State) : (emitAttested j kind result cause ver digest s).nrx = s.nrx := by
  unfold emitAttested; (repeat' split) <;> simp [*]

@[simp] theorem epFail_nrx (cause : Nat) (digest : Bytes) (j : Nat) (s : State) : (epFail cause digest j s).nrx = s.nrx := by
  unfold epFail; (repeat' split) <;> simp [*]

@[simp] theorem epLift_nrx (j : Nat) (s : State) : (epLift j s).nrx = s.nrx := by
  unfold epLift; dsimp only; (repeat' split) <;> simp [*]

@[simp] theorem escalateEp_nrx (j : Nat) (s : State) : (escalateEp j s).nrx = s.nrx := by
  unfold escalateEp; (repeat' split) <;> simp [*]

@[simp] theorem attEnd_nrx (cause : Nat) (digest : Bytes) (j : Nat) (s : State) : (attEnd cause digest j s).nrx = s.nrx := by
  unfold attEnd; dsimp only; (repeat' split) <;> simp [*]

@[simp] theorem upAtt_nrx (j : Nat) (f : Att → Att) (s : State) : (upAtt j f s).nrx = s.nrx := by
  unfold upAtt; (repeat' split) <;> simp [*]

@[simp] theorem drawNonce_nrx (j : Nat) (s : State) : (drawNonce j s).nrx = s.nrx := by
  unfold drawNonce; (repeat' split) <;> simp [*]

@[simp] theorem spdmNext_nrx (t : SpdmStep) (j : Nat) (s : State) : (spdmNext t j s).nrx = s.nrx := by
  unfold spdmNext; (repeat' split) <;> simp [*]

@[simp] theorem epFirmware_nrx (j : Nat) (s : State) : (epFirmware j s).nrx = s.nrx := by
  unfold epFirmware; dsimp only; (repeat' split) <;> simp [*]

@[simp] theorem upPart_nrx (p : Nat) (f : Part → Part) (s : State) : (upPart p f s).nrx = s.nrx := by
  unfold upPart; (repeat' split) <;> simp [*]

@[simp] theorem sliceFault_nrx (b i : Nat) (s : State) : (sliceFault b i s).nrx = s.nrx := by
  unfold sliceFault; dsimp only; (repeat' split) <;> simp [*]

@[simp] theorem dispatchTlp_nrx (i e : Nat) (t : Tlp) (s : State) : (dispatchTlp i e t s).nrx = s.nrx := by
  unfold dispatchTlp; (repeat' split) <;> simp [*]

@[simp] theorem deliverDue_nrx (s : State) : (deliverDue s).nrx = s.nrx := by
  unfold deliverDue; (repeat' split) <;> simp [*]

@[simp] theorem forwardTlp_nrx (i e : Nat) (t : Tlp) (s : State) : (forwardTlp i e t s).1.nrx = s.nrx := by
  unfold forwardTlp; (repeat' split) <;> simp [*]

@[simp] theorem away_nrx (q : Nat) (k : TlpKind) (s : State) : (away q k s).1.nrx = s.nrx := by
  unfold away; (repeat' split) <;> simp [*]

@[simp] theorem mctpTrack_nrx (p : Nat) (t : Tlp) (s : State) : (mctpTrack p t s).nrx = s.nrx := by
  unfold mctpTrack; (repeat' split) <;> simp [*]

@[simp] theorem awayAt_nrx (i p : Nat) (t : Tlp) (s : State) : (awayAt i p t s).1.nrx = s.nrx := by
  unfold awayAt; (repeat' split) <;> simp [*]

@[simp] theorem routeTlp_nrx (i p : Nat) (t : Tlp) (s : State) : (routeTlp i p t s).1.nrx = s.nrx := by
  unfold routeTlp; (repeat' split) <;> simp [*]

@[simp] theorem violEscalate_nrx (j p : Nat) (s : State) : (violEscalate j p s).nrx = s.nrx := by
  unfold violEscalate; dsimp only; (repeat' split) <;> simp [*]

@[simp] theorem violate_nrx (j q p : Nat) (k : Viol) (t : Tlp) (s : State) : (violate j q p k t s).1.nrx = s.nrx := by
  unfold violate; (repeat' split) <;> simp [*]

@[simp] theorem medTake_nrx (port i : Nat) (t : Tlp) (s : State) : (medTake port i t s).nrx = s.nrx := by
  unfold medTake; (repeat' split) <;> simp [*]

@[simp] theorem endpointTlp_nrx (j q p : Nat) (t : Tlp) (s : State) : (endpointTlp j q p t s).1.nrx = s.nrx := by
  unfold endpointTlp; (repeat' split) <;> simp [*]

@[simp] theorem hostTlp_nrx (p : Nat) (t : Tlp) (s : State) : (hostTlp p t s).1.nrx = s.nrx := by
  unfold hostTlp; (repeat' split) <;> simp [*]

@[simp] theorem armReady_nrx (p : Nat) (s : State) : (armReady p s).nrx = s.nrx := by
  unfold armReady; (repeat' split) <;> simp [*]

@[simp] theorem armBegin_nrx (p src : Nat) (s : State) : (armBegin p src s).nrx = s.nrx := by
  unfold armBegin; (repeat' split) <;> simp [*]

@[simp] theorem upMed_nrx (port : Nat) (f : Mediation → Mediation) (s : State) : (upMed port f s).nrx = s.nrx := by
  unfold upMed; (repeat' split) <;> simp [*]

@[simp] theorem activateReady_nrx (port : Nat) (s : State) : (activateReady port s).nrx = s.nrx := by
  simp [activateReady]

@[simp] theorem medForward_nrx (m : MedPkt) (s : State) : (medForward m s).1.nrx = s.nrx := by
  unfold medForward; (repeat' split) <;> simp [*]

@[simp] theorem medEnq_nrx (m : MedPkt) (s : State) : (medEnq m s).nrx = s.nrx := by
  unfold medEnq; (repeat' split) <;> simp [*]

@[simp] theorem resubmitAll_nrx (s : State) : (resubmitAll s).nrx = s.nrx := by
  unfold resubmitAll
  rw [foldl_nrx]
  · simp
  · intro s w
    split <;> simp

@[simp] theorem escalateAll_nrx (s : State) : (escalateAll s).nrx = s.nrx := by
  unfold escalateAll
  rw [foldl_nrx]
  · simp
  · intro s e
    simp

@[simp] theorem wdtCtrlWrite_nrx (v : BitVec 32) (s : State) : (wdtCtrlWrite v s).nrx = s.nrx := by
  unfold wdtCtrlWrite; (repeat' split) <;> simp [*]

@[simp] theorem wdtCapture_nrx (cause : Nat) (pc : BitVec 64) (s : State) : (wdtCapture cause pc s).nrx = s.nrx := by
  unfold wdtCapture; (repeat' split) <;> simp [*]

@[simp] theorem upSig_nrx (e : Bool) (f : SigEng → SigEng) (s : State) : (upSig e f s).nrx = s.nrx := by
  unfold upSig; (repeat' split) <;> simp [*]

@[simp] theorem sigRemove_nrx (e : Bool) (s : State) : (sigRemove e s).nrx = s.nrx := by
  unfold sigRemove; (repeat' split) <;> simp [*]

@[simp] theorem applyWrite_nrx (p : PolicyImage) (r : PresentRec) (j : JEntry) (s : State) : (applyWrite p r j s).nrx = s.nrx := by
  unfold applyWrite; (repeat' split) <;> simp [*]

@[simp] theorem brStore_nrx (epoch : Nat) (b : Bytes) (s : State) : (brStore epoch b s).nrx = s.nrx := by
  unfold brStore; (repeat' split) <;> simp [*]

@[simp] theorem cbusLost_nrx (i : Nat) (r : CbusRec) (s : State) : (cbusLost i r s).nrx = s.nrx := by
  unfold cbusLost; dsimp only; (repeat' split) <;> simp [*]

@[simp] theorem tokenAct_nrx (t : Token) (s : State) : (tokenAct t s).nrx = s.nrx := by
  unfold tokenAct; (repeat' split) <;> simp [*]

@[simp] theorem newChallenge_nrx (s : State) : (newChallenge s).nrx = s.nrx := by
  unfold newChallenge; (repeat' split) <;> simp [*]

@[simp] theorem mbxFinish_nrx (b : Bool) (result : Nat) (s : State) : (mbxFinish b result s).nrx = s.nrx := by
  unfold mbxFinish; (repeat' split) <;> simp [*]

@[simp] theorem tripClear_nrx (s : State) : (tripClear s).nrx = s.nrx := by
  unfold tripClear; (repeat' split) <;> simp [*]

@[simp] theorem exportFree_nrx (i : Nat) (s : State) : (exportFree i s).nrx = s.nrx := by
  unfold exportFree
  dsimp only
  split
  · rw [foldl_nrx]
    intro s k
    split <;> simp
  · rw [emit_nrx, foldl_nrx]
    intro s k
    split <;> simp

@[simp] theorem ackAccept_nrx (i : Nat) (s : State) : (ackAccept i s).nrx = s.nrx := by
  unfold ackAccept; (repeat' split) <;> simp [*]

@[simp] theorem ackEnd_nrx (b : Bool) (chain : Option Bytes) (s : State) : (ackEnd b chain s).nrx = s.nrx := by
  unfold ackEnd; (repeat' split) <;> simp [*]

@[simp] theorem writeCfg_nrx (p : Nat) (r : CfgReg) (v : BitVec 32) (s : State) : (writeCfg p r v s).nrx = s.nrx := by
  unfold writeCfg; (repeat' split) <;> simp [*]

@[simp] theorem mbxGo_nrx (b : Bool) (s : State) : (mbxGo b s).nrx = s.nrx := by
  unfold mbxGo; dsimp only; (repeat' split) <;> simp [*]

@[simp] theorem writeMailbox_nrx (b : Bool) (a : Nat) (w : BitVec 32) (s : State) : (writeMailbox b a w s).nrx = s.nrx := by
  unfold writeMailbox; (repeat' split) <;> simp [*]

@[simp] theorem writeMordant_nrx (a : Nat) (v : BitVec 32) (s : State) : (writeMordant a v s).nrx = s.nrx := by
  unfold writeMordant; (repeat' split) <;> simp [*]

@[simp] theorem writeChan_nrx (k a : Nat) (v : BitVec 32) (s : State) : (writeChan k a v s).nrx = s.nrx := by
  unfold writeChan; (repeat' split) <;> simp [*]

@[simp] theorem writeOtpc_nrx (a : Nat) (v : BitVec 32) (s : State) : (writeOtpc a v s).nrx = s.nrx := by
  unfold writeOtpc; dsimp only; (repeat' split) <;> simp [*]

@[simp] theorem writeSig_nrx (e : Bool) (a : Nat) (v : BitVec 32) (s : State) : (writeSig e a v s).nrx = s.nrx := by
  unfold writeSig; dsimp only; (repeat' split) <;> simp [*]

@[simp] theorem writeSic_nrx (a : Nat) (v : BitVec 32) (s : State) : (writeSic a v s).nrx = s.nrx := by
  unfold writeSic; (repeat' split) <;> simp [*]

@[simp] theorem writeWdt_nrx (a : Nat) (v : BitVec 32) (s : State) : (writeWdt a v s).nrx = s.nrx := by
  unfold writeWdt; (repeat' split) <;> simp [*]

@[simp] theorem writeDga_nrx (a : Nat) (v : BitVec 32) (s : State) : (writeDga a v s).nrx = s.nrx := by
  unfold writeDga; (repeat' split) <;> simp [*]

@[simp] theorem writeGate_nrx (a : Nat) (v : BitVec 32) (s : State) : (writeGate a v s).nrx = s.nrx := by
  unfold writeGate; (repeat' split) <;> simp [*]

@[simp] theorem writeBlock_nrx (n a : Nat) (v : BitVec 32) (s : State) : (writeBlock n a v s).nrx = s.nrx := by
  unfold writeBlock; (repeat' split) <;> simp [*]

@[simp] theorem lakeReqFail_nrx (q : LakeReq) (s : State) : (lakeReqFail q s).nrx = s.nrx := by
  unfold lakeReqFail; (repeat' split) <;> simp [*]

@[simp] theorem lakeOut_nrx (s : State) : (lakeOut s).nrx = s.nrx := by
  unfold lakeOut; dsimp only; (repeat' split) <;> simp [*]

@[simp] theorem lakeRemove_nrx (n : Nat) (s : State) : (lakeRemove n s).nrx = s.nrx := by
  unfold lakeRemove; (repeat' split) <;> simp [*]

@[simp] theorem csfHostRead_nrx (p : Nat) (t : Tlp) (s : State) : (csfHostRead p t s).1.nrx = s.nrx := by
  unfold csfHostRead; (repeat' split) <;> simp [*]

@[simp] theorem nvmeFail_nrx (s : State) : (nvmeFail s).nrx = s.nrx := by
  unfold nvmeFail; (repeat' split) <;> simp [*]

@[simp] theorem frameAbandon_nrx (k : Nat) (cl : Client) (s : State) : (frameAbandon k cl s).nrx = s.nrx := by
  unfold frameAbandon; (repeat' split) <;> simp [*]

@[simp] theorem restartStream_nrx (k : Nat) (s : State) : (restartStream k s).nrx = s.nrx := by
  unfold restartStream; (repeat' split) <;> simp [*]

@[simp] theorem medLost_nrx (port : Nat) (s : State) : (medLost port s).nrx = s.nrx := by
  unfold medLost; (repeat' split) <;> simp [*]

@[simp] theorem unitsAfter_nrx (t : SelfTest) (s : State) : (unitsAfter t s).nrx = s.nrx := by
  unfold unitsAfter; (repeat' split) <;> simp [*]

@[simp] theorem unitsScanned_nrx (s : State) : (unitsScanned s).nrx = s.nrx := by
  unfold unitsScanned; (repeat' split) <;> simp [*]

@[simp] theorem romFloor_nrx (cause : Nat) (s : State) : (romFloor cause s).nrx = s.nrx := by
  unfold romFloor; (repeat' split) <;> simp [*]

@[simp] theorem romFuses_nrx (t : SelfTest) (s : State) : (romFuses t s).nrx = s.nrx := by
  unfold romFuses; (repeat' split) <;> simp [*]

@[simp] theorem romSlot_nrx (t : SelfTest) (slot : Bool) (s : State) : (romSlot t slot s).nrx = s.nrx := by
  unfold romSlot; dsimp only; (repeat' split) <;> simp [*]

@[simp] theorem romPolicy_nrx (t : SelfTest) (s : State) : (romPolicy t s).nrx = s.nrx := by
  unfold romPolicy; (repeat' split) <;> simp [*]

@[simp] theorem romNoPolicy_nrx (s : State) : (romNoPolicy s).nrx = s.nrx := by
  unfold romNoPolicy; (repeat' split) <;> simp [*]

@[simp] theorem tickTimer_nrx (s : State) : (tickTimer s).nrx = s.nrx := by
  unfold tickTimer; (repeat' split) <;> simp [*]

@[simp] theorem tickWdt_nrx (s : State) : (tickWdt s).nrx = s.nrx := by
  unfold tickWdt; (repeat' split) <;> simp [*]

@[simp] theorem withPending_nrx (q : List Instr) (s : State) : (withPending q s).nrx = s.nrx := by
  unfold withPending; (repeat' split) <;> simp [*]

@[simp] theorem State.withFetchWord_nrx (s : State) (nbits w : Nat) : (State.withFetchWord s nbits w).nrx = s.nrx := by
  unfold State.withFetchWord; (repeat' split) <;> simp [*]

end Sys2Proof.Machine
end

