-- ==== Sys2Proof/Laws/FrameOtp.lean ====
section
/-! SUPPORT. Frame lemmas of the OTP controller: one simp lemma for each shared operation of Machine/*.lean
that never writes `State.otp`, so that a proof about a command reads the field through the
operation without unfolding it. An operation without a lemma here may write the field. -/

namespace Sys2Proof.Machine

open Sys2Proof

set_option linter.unusedSimpArgs false
set_option linter.unusedTactic false
set_option linter.unnecessarySeqFocus false
set_option linter.unreachableTactic false
set_option linter.unusedVariables false

@[simp] theorem each_otp (l : List Nat) (f : Nat → State → State) (s : State) (h : ∀ n s, (f n s).otp = s.otp) :
    (each l f s).otp = s.otp := by
  unfold each
  induction l generalizing s with
  | nil => rfl
  | cons a r ih => simp [ih, h]

@[simp] theorem foldl_otp {α : Type} (l : List α) (f : State → α → State) (s : State) (h : ∀ s n, (f s n).otp = s.otp) :
    (l.foldl f s).otp = s.otp := by
  induction l generalizing s with
  | nil => rfl
  | cons a r ih => simp [ih, h]

@[simp] theorem gated_otp (code src : Nat) (body : Bytes) (g : Gate) (eff : State → State) (s : State)
    (h : ∀ s, (eff s).otp = s.otp) : (gated code src body g eff s).otp = s.otp := by
  unfold gated
  dsimp only
  (repeat' split) <;> simp [h]

@[simp] theorem say_otp (r : Reply) (s : State) : (say r s).otp = s.otp := by
  unfold say; (repeat' split) <;> simp [*]

@[simp] theorem drawn_otp (s : State) : (drawn s).otp = s.otp := by
  unfold drawn; (repeat' split) <;> simp [*]

@[simp] theorem emit_otp (code src : Nat) (body : Bytes) (s : State) : (emit code src body s).otp = s.otp := by
  unfold emit; (repeat' split) <;> simp [*]

@[simp] theorem emitFw_otp (code : Nat) (body : Bytes) (s : State) : (emitFw code body s).otp = s.otp := by
  unfold emitFw; (repeat' split) <;> simp [*]

@[simp] theorem setPair_otp (k : Nat) (v : BitVec 32) (s : State) : (setPair k v s).otp = s.otp := by
  unfold setPair; (repeat' split) <;> simp [*]

@[simp] theorem upImg_otp (k : Nat) (f : Img → Img) (s : State) : (upImg k f s).otp = s.otp := by
  unfold upImg; (repeat' split) <;> simp [*]

@[simp] theorem upChan_otp (k : Nat) (f : Channel → Channel) (s : State) : (upChan k f s).otp = s.otp := by
  unfold upChan; (repeat' split) <;> simp [*]

@[simp] theorem upEm_otp (k : Nat) (f : EmDev → EmDev) (s : State) : (upEm k f s).otp = s.otp := by
  unfold upEm; (repeat' split) <;> simp [*]

@[simp] theorem upPort_otp (k : Nat) (f : Port → Port) (s : State) : (upPort k f s).otp = s.otp := by
  unfold upPort; (repeat' split) <;> simp [*]

@[simp] theorem domProtoReset_otp (d : Nat) (s : State) : (domProtoReset d s).otp = s.otp := by
  unfold domProtoReset; (repeat' split) <;> simp [*]

@[simp] theorem upEp_otp (j : Nat) (f : Ep → Ep) (s : State) : (upEp j f s).otp = s.otp := by
  unfold upEp; (repeat' split) <;> simp [*]

@[simp] theorem upCbus_otp (i : Nat) (f : CbusComp → CbusComp) (s : State) : (upCbus i f s).otp = s.otp := by
  unfold upCbus; (repeat' split) <;> simp [*]

@[simp] theorem aerReport_otp (port n : Nat) (s : State) : (aerReport port n s).otp = s.otp := by
  unfold aerReport; (repeat' split) <;> simp [*]

@[simp] theorem dropHeld_otp (port : Nat) (s : State) : (dropHeld port s).otp = s.otp := by
  unfold dropHeld; (repeat' split) <;> simp [*]

@[simp] theorem endMediation_otp (port : Nat) (s : State) : (endMediation port s).otp = s.otp := by
  unfold endMediation; (repeat' split) <;> simp [*]

@[simp] theorem linkDrop_otp (port : Nat) (s : State) : (linkDrop port s).otp = s.otp := by
  unfold linkDrop; (repeat' split) <;> simp [*]

@[simp] theorem epUnvat_otp (j : Nat) (s : State) : (epUnvat j s).otp = s.otp := by
  unfold epUnvat; (repeat' split) <;> simp [*]

@[simp] theorem epSealIt_otp (j : Nat) (s : State) : (epSealIt j s).otp = s.otp := by
  unfold epSealIt; (repeat' split) <;> simp [*]

@[simp] theorem startRecheck_otp (k : AttKind) (j : Nat) (s : State) : (startRecheck k j s).otp = s.otp := by
  unfold startRecheck; (repeat' split) <;> simp [*]

@[simp] theorem emitContained_otp (j : Nat) (s : State) : (emitContained j s).otp = s.otp := by
  unfold emitContained; (repeat' split) <;> simp [*]

@[simp] theorem epContain_otp (f : Causes → Causes) (j : Nat) (s : State) : (epContain f j s).otp = s.otp := by
  unfold epContain; (repeat' split) <;> simp [*]

@[simp] theorem epRecheck_otp (f : Causes → Causes) (wait : Bool) (j : Nat) (s : State) : (epRecheck f wait j s).otp = s.otp := by
  unfold epRecheck; (repeat' split) <;> simp [*]

@[simp] theorem epChanged_otp (digest : Bytes) (j : Nat) (s : State) : (epChanged digest j s).otp = s.otp := by
  unfold epChanged; (repeat' split) <;> simp [*]

@[simp] theorem epRefuse_otp (j : Nat) (s : State) : (epRefuse j s).otp = s.otp := by
  unfold epRefuse; (repeat' split) <;> simp [*]

@[simp] theorem epOpen_otp (j : Nat) (s : State) : (epOpen j s).otp = s.otp := by
  unfold epOpen; dsimp only; (repeat' split) <;> simp [*]

@[simp] theorem heldRecord_otp (d cause : Nat) (final : Bool) (s : State) : (heldRecord d cause final s).otp = s.otp := by
  unfold heldRecord; (repeat' split) <;> simp [*]

@[simp] theorem clearSlots_otp (d : Nat) (s : State) : (clearSlots d s).otp = s.otp := by
  unfold clearSlots; (repeat' split) <;> simp [*]

@[simp] theorem imgAgain_otp (k : Nat) (s : State) : (imgAgain k s).otp = s.otp := by
  unfold imgAgain; (repeat' split) <;> simp [*]

@[simp] theorem domUnslot_otp (d : Nat) (s : State) : (domUnslot d s).otp = s.otp := by
  unfold domUnslot; (repeat' split) <;> simp [*]

@[simp] theorem domLost_otp (d : Nat) (s : State) : (domLost d s).otp = s.otp := by
  unfold domLost; (repeat' split) <;> simp [*]

@[simp] theorem holdDom_otp (cause : Nat) (final : Bool) (d : Nat) (s : State) : (holdDom cause final d s).otp = s.otp := by
  unfold holdDom; (repeat' split) <;> simp [*]

@[simp] theorem cascade_otp  (n : Nat) (s : State) : (cascade  n s).otp = s.otp := by
  induction n generalizing s with
  | zero => rfl
  | succ n ih => unfold cascade; dsimp only; (repeat' split) <;> simp [*]

@[simp] theorem markFinal_otp (cause d : Nat) (s : State) : (markFinal cause d s).otp = s.otp := by
  unfold markFinal; (repeat' split) <;> simp [*]

@[simp] theorem holdFinal_otp (cause d : Nat) (s : State) : (holdFinal cause d s).otp = s.otp := by
  unfold holdFinal; (repeat' split) <;> simp [*]

@[simp] theorem finalCascade_otp  (n : Nat) (s : State) : (finalCascade  n s).otp = s.otp := by
  induction n generalizing s with
  | zero => rfl
  | succ n ih => unfold finalCascade; dsimp only; (repeat' split) <;> simp [*]

@[simp] theorem epRelease_otp (d j : Nat) (s : State) : (epRelease d j s).otp = s.otp := by
  unfold epRelease; (repeat' split) <;> simp [*]

@[simp] theorem releaseDom_otp (d : Nat) (s : State) : (releaseDom d s).otp = s.otp := by
  unfold releaseDom; (repeat' split) <;> simp [*]

@[simp] theorem interlock_otp  (n : Nat) (s : State) : (interlock  n s).otp = s.otp := by
  induction n generalizing s with
  | zero => rfl
  | succ n ih => unfold interlock; dsimp only; (repeat' split) <;> simp [*]

@[simp] theorem vioHold_otp (s : State) : (vioHold s).otp = s.otp := by
  unfold vioHold; (repeat' split) <;> simp [*]

@[simp] theorem vatWithdraw_otp (s : State) : (vatWithdraw s).otp = s.otp := by
  unfold vatWithdraw; (repeat' split) <;> simp [*]

@[simp] theorem vatRelease_otp (s : State) : (vatRelease s).otp = s.otp := by
  unfold vatRelease
  apply each_otp
  intro j s
  try dsimp only
  split <;> simp

@[simp] theorem vatGrant_otp (s : State) : (vatGrant s).otp = s.otp := by
  unfold vatGrant; (repeat' split) <;> simp [*]

@[simp] theorem recheckGo_otp (s : State) : (recheckGo s).otp = s.otp := by
  unfold recheckGo; (repeat' split) <;> simp [*]

@[simp] theorem phaseStep_otp (s : State) : (phaseStep s).otp = s.otp := by
  unfold phaseStep; (repeat' split) <;> simp [*]

@[simp] theorem brClose_otp (s : State) : (brClose s).otp = s.otp := by
  unfold brClose; (repeat' split) <;> simp [*]

@[simp] theorem lateAnswer_otp (b : Bool) (cmd flags result : Nat) (body : Bytes) (s : State) : (lateAnswer b cmd flags result body s).otp = s.otp := by
  unfold lateAnswer; (repeat' split) <;> simp [*]

@[simp] theorem nvmeDrop_otp (s : State) : (nvmeDrop s).otp = s.otp := by
  unfold nvmeDrop
  refine (foldl_otp _ _ _ ?_).trans (by simp)
  intro s c
  try dsimp only
  split <;> simp

@[simp] theorem vaultSet_otp (st : VaultState) (code cause : Nat) (s : State) : (vaultSet st code cause s).otp = s.otp := by
  unfold vaultSet; (repeat' split) <;> simp [*]

@[simp] theorem nvmeIssue_otp (l : List NvmeUse) (s : State) : (nvmeIssue l s).otp = s.otp := by
  unfold nvmeIssue; (repeat' split) <;> simp [*]

@[simp] theorem rekey_otp (s : State) : (rekey s).otp = s.otp := by
  unfold rekey; dsimp only; (repeat' split) <;> simp [*]

@[simp] theorem blockNoLimit_otp (s : State) : (blockNoLimit s).otp = s.otp := by
  unfold blockNoLimit; (repeat' split) <;> simp [*]

@[simp] theorem useBlocks_otp (n : Nat) (s : State) : (useBlocks n s).otp = s.otp := by
  unfold useBlocks; (repeat' split) <;> simp [*]

@[simp] theorem nvmeWrite_otp (u : NvmeUse) (cmds kind lba n : Nat) (s : State) : (nvmeWrite u cmds kind lba n s).otp = s.otp := by
  unfold nvmeWrite; (repeat' split) <;> simp [*]

@[simp] theorem writeBoot_otp (epoch : Nat) (s : State) : (writeBoot epoch s).otp = s.otp := by
  unfold writeBoot; (repeat' split) <;> simp [*]

@[simp] theorem vaultServe_otp (s : State) : (vaultServe s).otp = s.otp := by
  unfold vaultServe; (repeat' split) <;> simp [*]

@[simp] theorem vaultInit_otp (s : State) : (vaultInit s).otp = s.otp := by
  unfold vaultInit; dsimp only; (repeat' split) <;> simp [*]

@[simp] theorem vaultAccept_otp (back : List DriveBlock) (s : State) : (vaultAccept back s).otp = s.otp := by
  unfold vaultAccept; (repeat' split) <;> simp [*]

@[simp] theorem vaultSync_otp (s : State) : (vaultSync s).otp = s.otp := by
  unfold vaultSync; dsimp only; (repeat' split) <;> simp [*]

@[simp] theorem alertBoth_otp (s : State) : (alertBoth s).otp = s.otp := by
  unfold alertBoth; (repeat' split) <;> simp [*]

@[simp] theorem tempAlert_otp (s : State) : (tempAlert s).otp = s.otp := by
  unfold tempAlert; (repeat' split) <;> simp [*]

@[simp] theorem highAlert_otp (s : State) : (highAlert s).otp = s.otp := by
  unfold highAlert; (repeat' split) <;> simp [*]

@[simp] theorem settle_otp (s : State) : (settle s).otp = s.otp := by
  unfold settle; (repeat' split) <;> simp [*]

@[simp] theorem tripDom_otp (d : Nat) (s : State) : (tripDom d s).otp = s.otp := by
  unfold tripDom; dsimp only; (repeat' split) <;> simp [*]

@[simp] theorem tripGate_otp (s : State) : (tripGate s).otp = s.otp := by
  unfold tripGate; (repeat' split) <;> simp [*]

@[simp] theorem custodyTrip_otp (src : Nat) (s : State) : (custodyTrip src s).otp = s.otp := by
  unfold custodyTrip; (repeat' split) <;> simp [*]

@[simp] theorem wdtServed_otp (s : State) : (wdtServed s).otp = s.otp := by
  unfold wdtServed; (repeat' split) <;> simp [*]

@[simp] theorem mordantWrite_otp (f : State → State) (s : State) (h : ∀ s, (f s).otp = s.otp) : (mordantWrite f s).otp = s.otp := by
  unfold mordantWrite
  split
  · exact h s
  · simp

@[simp] theorem fwAdvance_otp (k : Nat) (n : Nat) (s : State) : (fwAdvance k n s).otp = s.otp := by
  induction n generalizing s with
  | zero => rfl
  | succ n ih => unfold fwAdvance; dsimp only; (repeat' split) <;> simp [*]

@[simp] theorem grantEnd_otp (s : State) : (grantEnd s).otp = s.otp := by
  unfold grantEnd; (repeat' split) <;> simp [*]

@[simp] theorem imgFinal_otp (cause slot : Nat) (s : State) : (imgFinal cause slot s).otp = s.otp := by
  unfold imgFinal; (repeat' split) <;> simp [*]

@[simp] theorem chanLost_otp (k : Nat) (s : State) : (chanLost k s).otp = s.otp := by
  unfold chanLost; (repeat' split) <;> simp [*]

@[simp] theorem failStreams_otp (k : Nat) (s : State) : (failStreams k s).otp = s.otp := by
  unfold failStreams; (repeat' split) <;> simp [*]

@[simp] theorem commitLeave_otp (k : Nat) (s : State) : (commitLeave k s).otp = s.otp := by
  unfold commitLeave; (repeat' split) <;> simp [*]

@[simp] theorem fillStop_otp (k : Nat) (s : State) : (fillStop k s).otp = s.otp := by
  unfold fillStop; (repeat' split) <;> simp [*]

@[simp] theorem chanStop_otp (k : Nat) (s : State) : (chanStop k s).otp = s.otp := by
  unfold chanStop; dsimp only; (repeat' split) <;> simp [*]

@[simp] theorem bankStop_otp (k : Nat) (s : State) : (bankStop k s).otp = s.otp := by
  unfold bankStop; (repeat' split) <;> simp [*]

@[simp] theorem chanFail_otp (k : Nat) (s : State) : (chanFail k s).otp = s.otp := by
  unfold chanFail; (repeat' split) <;> simp [*]

@[simp] theorem portFail_otp (k : Nat) (s : State) : (portFail k s).otp = s.otp := by
  unfold portFail; (repeat' split) <;> simp [*]

@[simp] theorem commitKeep_otp (k : Nat) (s : State) : (commitKeep k s).otp = s.otp := by
  unfold commitKeep; dsimp only; (repeat' split) <;> simp [*]

@[simp] theorem commitRead_otp (k : Nat) (f : Frame) (data : Bytes) (s : State) : (commitRead k f data s).otp = s.otp := by
  unfold commitRead; (repeat' split) <;> simp [*]

@[simp] theorem commitHalt_otp (k : Nat) (s : State) : (commitHalt k s).otp = s.otp := by
  unfold commitHalt; dsimp only; (repeat' split) <;> simp [*]

@[simp] theorem commitRetire_otp (k : Nat) (s : State) : (commitRetire k s).otp = s.otp := by
  unfold commitRetire; (repeat' split) <;> simp [*]

@[simp] theorem chanReady_otp (k : Nat) (s : State) : (chanReady k s).otp = s.otp := by
  unfold chanReady; (repeat' split) <;> simp [*]

@[simp] theorem escalateNow_otp (trip src scope : Nat) (doms : List Nat) (s : State) :
    (escalateNow trip src scope doms s).otp = s.otp := by
  unfold escalateNow
  split
  · simp
  · rw [settle_otp]
    apply each_otp
    intro n s
    split <;> simp
  · rfl

@[simp] theorem escalateLater_otp (src scope : Nat) (doms : List Nat) (s : State) : (escalateLater src scope doms s).otp = s.otp := by
  unfold escalateLater; (repeat' split) <;> simp [*]

@[simp] theorem escalateFw_otp (src scope : Nat) (doms : List Nat) (s : State) : (escalateFw src scope doms s).otp = s.otp := by
  unfold escalateFw; (repeat' split) <;> simp [*]

@[simp] theorem lakeOutHold_otp (s : State) : (lakeOutHold s).otp = s.otp := by
  unfold lakeOutHold; dsimp only; (repeat' split) <;> simp [*]

@[simp] theorem cfgTouch_otp (addr len : Nat) (s : State) : (cfgTouch addr len s).otp = s.otp := by
  unfold cfgTouch; (repeat' split) <;> simp [*]

@[simp] theorem dgaServe_otp (s : State) : (dgaServe s).otp = s.otp := by
  unfold dgaServe; (repeat' split) <;> simp [*]

@[simp] theorem upRing_otp (p g : Nat) (f : Ring → Ring) (s : State) : (upRing p g f s).otp = s.otp := by
  unfold upRing; (repeat' split) <;> simp [*]

@[simp] theorem ringErrorRecord_otp (p cause ring : Nat) (s : State) : (ringErrorRecord p cause ring s).otp = s.otp := by
  unfold ringErrorRecord; (repeat' split) <;> simp [*]

@[simp] theorem capsulesEnd_otp (q : Nat → Nat → Bool) (s : State) : (capsulesEnd q s).otp = s.otp := by
  unfold capsulesEnd; (repeat' split) <;> simp [*]

@[simp] theorem ringUnsubmit_otp (p g : Nat) (s : State) : (ringUnsubmit p g s).otp = s.otp := by
  unfold ringUnsubmit; (repeat' split) <;> simp [*]

@[simp] theorem ledgerExtend_otp (j : RingCmd) (s : State) : (ledgerExtend j s).otp = s.otp := by
  unfold ledgerExtend; (repeat' split) <;> simp [*]

@[simp] theorem counterIncrement_otp (h : Nat) (s : State) : (counterIncrement h s).otp = s.otp := by
  unfold counterIncrement; (repeat' split) <;> simp [*]

@[simp] theorem ringCreate_otp (p g depthLog2 sq cq tenant vector : Nat) (s : State) : (ringCreate p g depthLog2 sq cq tenant vector s).otp = s.otp := by
  unfold ringCreate; (repeat' split) <;> simp [*]

@[simp] theorem quotaSet_otp (q : Quota) (s : State) : (quotaSet q s).otp = s.otp := by
  unfold quotaSet; (repeat' split) <;> simp [*]

@[simp] theorem objAlloc_otp (counters : Bool) (r : Run) (s : State) : (objAlloc counters r s).otp = s.otp := by
  unfold objAlloc; (repeat' split) <;> simp [*]

@[simp] theorem objRelease_otp (counters : Bool) (r : Run) (s : State) : (objRelease counters r s).otp = s.otp := by
  unfold objRelease; (repeat' split) <;> simp [*]

@[simp] theorem batchClose_otp (s : State) : (batchClose s).otp = s.otp := by
  unfold batchClose; (repeat' split) <;> simp [*]

@[simp] theorem epHot_otp (j : Nat) (s : State) : (epHot j s).otp = s.otp := by
  unfold epHot; dsimp only; (repeat' split) <;> simp [*]

@[simp] theorem partHot_otp (p : Nat) (s : State) : (partHot p s).otp = s.otp := by
  unfold partHot; (repeat' split) <;> simp [*]

@[simp] theorem dropPart_otp (p : Nat) (s : State) : (dropPart p s).otp = s.otp := by
  unfold dropPart; (repeat' split) <;> simp [*]

@[simp] theorem upstreamDown_otp (p : Nat) (s : State) : (upstreamDown p s).otp = s.otp := by
  unfold upstreamDown; (repeat' split) <;> simp [*]

@[simp] theorem workWrite_otp (a : Nat) (b : Bytes) (s : State) : (workWrite a b s).otp = s.otp := by
  unfold workWrite
  rw [upLake_otp, upSc_otp]

@[simp] theorem workPut_otp (a : Nat) (b : Bytes) (s : State) : (workPut a b s).otp = s.otp := by
  unfold workPut; (repeat' split) <;> simp [*]

@[simp] theorem lakeStore_otp (base : Nat) (cells : List (Nat × Byte)) (s : State) : (lakeStore base cells s).otp = s.otp := by
  unfold lakeStore; (repeat' split) <;> simp [*]

@[simp] theorem lakeFill_otp (base n : Nat) (cells : List (Nat × Byte)) (s : State) : (lakeFill base n cells s).otp = s.otp := by
  unfold lakeFill; (repeat' split) <;> simp [*]

@[simp] theorem imageWriteGo_otp (k base n : Nat) (cells : List (Nat × Byte)) (s : State) : (imageWriteGo k base n cells s).otp = s.otp := by
  unfold imageWriteGo; (repeat' split) <;> simp [*]

@[simp] theorem imageWrite_otp (k base n : Nat) (cells : List (Nat × Byte)) (s : State) : (imageWrite k base n cells s).otp = s.otp := by
  unfold imageWrite; (repeat' split) <;> simp [*]

@[simp] theorem hotFill_otp (p : PolicyImage) (r : PresentRec) (s : State) : (hotFill p r s).otp = s.otp := by
  unfold hotFill; (repeat' split) <;> simp [*]

@[simp] theorem underrunRecord_otp (r : PresentRec) (cause addr : Nat) (s : State) : (underrunRecord r cause addr s).otp = s.otp := by
  unfold underrunRecord; (repeat' split) <;> simp [*]

@[simp] theorem clearFail_otp (k : Nat) (s : State) : (clearFail k s).otp = s.otp := by
  unfold clearFail; (repeat' split) <;> simp [*]

@[simp] theorem streamGo_otp (k : Nat) (x : Source) (s : State) : (streamGo k x s).otp = s.otp := by
  unfold streamGo; (repeat' split) <;> simp [*]

@[simp] theorem streamFail_otp (i : Nat) (s : State) : (streamFail i s).otp = s.otp := by
  unfold streamFail; (repeat' split) <;> simp [*]

@[simp] theorem streamAll_otp (k : Nat) (cells : List (Nat × Byte)) (s : State) : (streamAll k cells s).otp = s.otp := by
  unfold streamAll; (repeat' split) <;> simp [*]

@[simp] theorem imgLoading_otp (k : Nat) (s : State) : (imgLoading k s).otp = s.otp := by
  unfold imgLoading; (repeat' split) <;> simp [*]

@[simp] theorem recoveryGo_otp (k : Nat) (fallback : Bool) (s : State) : (recoveryGo k fallback s).otp = s.otp := by
  unfold recoveryGo; dsimp only; (repeat' split) <;> simp [*]

theorem takeAction_otp (k : Nat) (fallback : Bool) (fails : State → State) (s : State) (h : ∀ s, (fails s).otp = s.otp) :
    (takeAction k fallback fails s).otp = s.otp := by
  unfold takeAction
  dsimp only
  (repeat' split) <;> simp [h]

@[simp] theorem fallbackAction_otp (k : Nat) (s : State) : (fallbackAction k s).otp = s.otp := by
  unfold fallbackAction
  split
  · apply takeAction_otp
    intro s
    simp
  · simp

@[simp] theorem actionFails_otp (k : Nat) (s : State) : (actionFails k s).otp = s.otp := by
  unfold actionFails; (repeat' split) <;> simp [*]

@[simp] theorem actionStart_otp (k : Nat) (s : State) : (actionStart k s).otp = s.otp := by
  unfold actionStart
  apply takeAction_otp
  intro s
  simp

@[simp] theorem switchHalves_otp (k : Nat) (s : State) : (switchHalves k s).otp = s.otp := by
  unfold switchHalves; (repeat' split) <;> simp [*]

@[simp] theorem verdictRecords_otp (k : Nat) (x : Source) (pass : Bool) (cause : Nat) (s : State) : (verdictRecords k x pass cause s).otp = s.otp := by
  unfold verdictRecords; (repeat' split) <;> simp [*]

@[simp] theorem keepJudged_otp (k : Nat) (m : Option Manifest) (digest : Bytes) (pass : Bool) (s : State) : (keepJudged k m digest pass s).otp = s.otp := by
  unfold keepJudged; (repeat' split) <;> simp [*]

@[simp] theorem afterPass_otp (k : Nat) (x : Source) (s : State) : (afterPass k x s).otp = s.otp := by
  unfold afterPass; dsimp only; (repeat' split) <;> simp [*]

@[simp] theorem afterFail_otp (k : Nat) (x : Source) (s : State) : (afterFail k x s).otp = s.otp := by
  unfold afterFail; (repeat' split) <;> simp [*]

@[simp] theorem writeVerdict_otp (k : Nat) (x : Source) (m : Option Manifest) (digest : Bytes) (pass : Bool) (cause : Nat) (s : State) : (writeVerdict k x m digest pass cause s).otp = s.otp := by
  unfold writeVerdict; (repeat' split) <;> simp [*]

@[simp] theorem svnRaise_otp (idx n : Nat) (s : State) : (svnRaise idx n s).otp = s.otp := by
  unfold svnRaise; (repeat' split) <;> simp [*]

@[simp] theorem svnRecord_otp (idx n : Nat) (s : State) : (svnRecord idx n s).otp = s.otp := by
  unfold svnRecord; (repeat' split) <;> simp [*]

@[simp] theorem polFloorRaise_otp (n : Nat) (s : State) : (polFloorRaise n s).otp = s.otp := by
  unfold polFloorRaise; (repeat' split) <;> simp [*]

@[simp] theorem upMgt_otp (b : Bool) (f : Mgt → Mgt) (s : State) : (upMgt b f s).otp = s.otp := by
  unfold upMgt; (repeat' split) <;> simp [*]

@[simp] theorem capsuleEnd_otp (reason : Nat) (s : State) : (capsuleEnd reason s).otp = s.otp := by
  unfold capsuleEnd; dsimp only; (repeat' split) <;> simp [*]

@[simp] theorem capsuleRefuse_otp (j : CapsuleJob) (reason : Nat) (s : State) : (capsuleRefuse j reason s).otp = s.otp := by
  unfold capsuleRefuse; (repeat' split) <;> simp [*]

@[simp] theorem capsuleAccept_otp (s : State) : (capsuleAccept s).otp = s.otp := by
  unfold capsuleAccept; (repeat' split) <;> simp [*]

@[simp] theorem capsuleStep_otp (n : Nat) (s : State) : (capsuleStep n s).otp = s.otp := by
  unfold capsuleStep; (repeat' split) <;> simp [*]

@[simp] theorem capsuleWrite_otp (j : CapsuleJob) (s : State) : (capsuleWrite j s).otp = s.otp := by
  unfold capsuleWrite; (repeat' split) <;> simp [*]

@[simp] theorem capsuleRecord_otp (j : CapsuleJob) (s : State) : (capsuleRecord j s).otp = s.otp := by
  unfold capsuleRecord; (repeat' split) <;> simp [*]

@[simp] theorem mgtMsg_otp (b : Bool) (s : State) : (mgtMsg b s).otp = s.otp := by
  unfold mgtMsg; (repeat' split) <;> simp [*]

@[simp] theorem cfgWrite_otp (f : CfgFlash → CfgFlash) (s : State) : (cfgWrite f s).otp = s.otp := by
  unfold cfgWrite; (repeat' split) <;> simp [*]

@[simp] theorem putDir_otp (second : Bool) (d : DirCopy) (s : State) : (putDir second d s).otp = s.otp := by
  unfold putDir; (repeat' split) <;> simp [*]

@[simp] theorem breakDir_otp (s : State) : (breakDir s).otp = s.otp := by
  unfold breakDir; (repeat' split) <;> simp [*]

@[simp] theorem rewriteDir_otp (f : BootDir → BootDir) (s : State) : (rewriteDir f s).otp = s.otp := by
  unfold rewriteDir; (repeat' split) <;> simp [*]

@[simp] theorem putComponent_otp (c : Component) (b : Bool) (s : State) : (putComponent c b s).otp = s.otp := by
  unfold putComponent; (repeat' split) <;> simp [*]

@[simp] theorem dropComponent_otp (c : Component) (b : Bool) (s : State) : (dropComponent c b s).otp = s.otp := by
  unfold dropComponent; (repeat' split) <;> simp [*]

@[simp] theorem pushedRecord_otp (c : Component) (slot : Bool) (outcome : Nat) (g : Gate) (eff : State → State) (s : State)
    (h : ∀ s, (eff s).otp = s.otp) : (pushedRecord c slot outcome g eff s).otp = s.otp := by
  unfold pushedRecord
  split
  · exact h s
  · exact gated_otp _ _ _ _ _ _ h

@[simp] theorem promoted_otp (c : Component) (cleared : Bool) (s : State) : (promoted c cleared s).otp = s.otp := by
  unfold promoted; (repeat' split) <;> simp [*]

@[simp] theorem promote_otp (c : Component) (copied cleared : Bool) (s : State) : (promote c copied cleared s).otp = s.otp := by
  unfold promote; (repeat' split) <;> simp [*]

@[simp] theorem romPrepare_otp (p : PolicyImage) (s : State) : (romPrepare p s).otp = s.otp := by
  unfold romPrepare; (repeat' split) <;> simp [*]

@[simp] theorem romLock_otp (p : PolicyImage) (s : State) : (romLock p s).otp = s.otp := by
  unfold romLock; (repeat' split) <;> simp [*]

@[simp] theorem bayHolds_otp (s : State) : (bayHolds s).otp = s.otp := by
  unfold bayHolds
  apply each_otp
  intro n s
  split <;> simp

@[simp] theorem finishPromotions_otp (s : State) : (finishPromotions s).otp = s.otp := by
  unfold finishPromotions; (repeat' split) <;> simp [*]

@[simp] theorem refreshDir_otp (s : State) : (refreshDir s).otp = s.otp := by
  unfold refreshDir; (repeat' split) <;> simp [*]

@[simp] theorem promotionGo_otp (pol cleared : Bool) (s : State) : (promotionGo pol cleared s).otp = s.otp := by
  unfold promotionGo; (repeat' split) <;> simp [*]

@[simp] theorem cbusStart_otp (found : List (Nat × Nat)) (s : State) : (cbusStart found s).otp = s.otp := by
  unfold cbusStart; dsimp only; (repeat' split) <;> simp [*, apply_ite State.otp]

@[simp] theorem firmwareStart_otp (found : List (Nat × Nat)) (s : State) : (firmwareStart found s).otp = s.otp := by
  unfold firmwareStart; (repeat' split) <;> simp [*]

@[simp] theorem romGo_otp (found : List (Nat × Nat)) (s : State) : (romGo found s).otp = s.otp := by
  unfold romGo; (repeat' split) <;> simp [*]

@[simp] theorem romResume_otp (s : State) : (romResume s).otp = s.otp := by
  unfold romResume; (repeat' split) <;> simp [*]

@[simp] theorem relReqBit_otp (d : Nat) (s : State) : (relReqBit d s).otp = s.otp := by
  unfold relReqBit; (repeat' split) <;> simp [*]

@[simp] theorem relEvaluate_otp (l : List Nat) (s : State) : (relEvaluate l s).otp = s.otp := by
  unfold relEvaluate; (repeat' split) <;> simp [*]

@[simp] theorem relReqSet_otp (d : Nat) (s : State) : (relReqSet d s).otp = s.otp := by
  unfold relReqSet
  apply mordantWrite_otp
  intro s
  simp

@[simp] theorem scrubFinish_otp (k : Nat) (s : State) : (scrubFinish k s).otp = s.otp := by
  unfold scrubFinish; (repeat' split) <;> simp [*]

@[simp] theorem scrubMismatch_otp (k : Nat) (f : Frame) (s : State) : (scrubMismatch k f s).otp = s.otp := by
  unfold scrubMismatch; (repeat' split) <;> simp [*]

@[simp] theorem scrubStart_otp (k : Nat) (n : Nat) (s : State) : (scrubStart k n s).otp = s.otp := by
  induction n generalizing s with
  | zero => rfl
  | succ n ih => unfold scrubStart; dsimp only; (repeat' split) <;> simp [*]

@[simp] theorem scrubResult_otp (k : Nat) (f : Frame) (bad : List Nat) (s : State) : (scrubResult k f bad s).otp = s.otp := by
  unfold scrubResult; (repeat' split) <;> simp [*]

@[simp] theorem scrubOver_otp (k : Nat) (f : Frame) (ok : Bool) (data : Bytes) (s : State) : (scrubOver k f ok data s).otp = s.otp := by
  unfold scrubOver; (repeat' split) <;> simp [*]

@[simp] theorem startFrame_otp (k : Nat) (f : Frame) (s : State) : (startFrame k f s).otp = s.otp := by
  unfold startFrame; (repeat' split) <;> simp [*]

@[simp] theorem grantFrame_otp (k : Nat) (cl : Client) (s : State) : (grantFrame k cl s).otp = s.otp := by
  unfold grantFrame; dsimp only; (repeat' split) <;> simp [*]

@[simp] theorem sramWrite_otp (a : Nat) (b : Bytes) (s : State) : (sramWrite a b s).otp = s.otp := by
  unfold sramWrite; (repeat' split) <;> simp [*]

@[simp] theorem scatter_otp (l : List QEntry) (data : Bytes) (s : State) : (scatter l data s).otp = s.otp := by
  induction l generalizing data s with
  | nil => rfl
  | cons a r ih => unfold scatter; rw [ih]; simp

@[simp] theorem fwFrameDone_otp (k : Nat) (f : Frame) (st : Nat) (s : State) : (fwFrameDone k f st s).otp = s.otp := by
  unfold fwFrameDone; (repeat' split) <;> simp [*]

@[simp] theorem streamIn_otp (i : Nat) (f : Frame) (data : Bytes) (s : State) : (streamIn i f data s).otp = s.otp := by
  unfold streamIn; (repeat' split) <;> simp [*]

@[simp] theorem frameOver_otp (k : Nat) (f : Frame) (ok : Bool) (data : Bytes) (s : State) :
    (frameOver k f ok data s).otp = s.otp := by
  unfold frameOver
  dsimp only
  split <;> (repeat' split) <;> simp

@[simp] theorem calibrateOn_otp (k : Nat) (cal : Cal) (s : State) : (calibrateOn k cal s).otp = s.otp := by
  unfold calibrateOn; (repeat' split) <;> simp [*]

@[simp] theorem endPoll_otp (k dev : Nat) (s : State) : (endPoll k dev s).otp = s.otp := by
  unfold endPoll; (repeat' split) <;> simp [*]

@[simp] theorem replayCheck_otp (k : Nat) (s : State) : (replayCheck k s).otp = s.otp := by
  unfold replayCheck; dsimp only; (repeat' split) <;> simp [*]

@[simp] theorem partUp_otp (s : State) (p : Nat) : (partUp s p).otp = s.otp := by
  unfold partUp; (repeat' split) <;> simp [*]

@[simp] theorem epUp_otp (j : Nat) (s : State) : (epUp j s).otp = s.otp := by
  unfold epUp; (repeat' split) <;> simp [*]

@[simp] theorem epWaitEnd_otp (j : Nat) (s : State) : (epWaitEnd j s).otp = s.otp := by
  unfold epWaitEnd; (repeat' split) <;> simp [*]

@[simp] theorem emitAttested_otp (j : Nat) (kind result cause ver : Nat) (digest : Bytes) (s : State) : (emitAttested j kind result cause ver digest s).otp = s.otp := by
  unfold emitAttested; (repeat' split) <;> simp [*]

@[simp] theorem epFail_otp (cause : Nat) (digest : Bytes) (j : Nat) (s : State) : (epFail cause digest j s).otp = s.otp := by
  unfold epFail; (repeat' split) <;> simp [*]

@[simp] theorem epLift_otp (j : Nat) (s : State) : (epLift j s).otp = s.otp := by
  unfold epLift; dsimp only; (repeat' split) <;> simp [*]

@[simp] theorem escalateEp_otp (j : Nat) (s : State) : (escalateEp j s).otp = s.otp := by
  unfold escalateEp; (repeat' split) <;> simp [*]

@[simp] theorem attEnd_otp (cause : Nat) (digest : Bytes) (j : Nat) (s : State) : (attEnd cause digest j s).otp = s.otp := by
  unfold attEnd; dsimp only; (repeat' split) <;> simp [*]

@[simp] theorem upAtt_otp (j : Nat) (f : Att → Att) (s : State) : (upAtt j f s).otp = s.otp := by
  unfold upAtt; (repeat' split) <;> simp [*]

@[simp] theorem drawNonce_otp (j : Nat) (s : State) : (drawNonce j s).otp = s.otp := by
  unfold drawNonce; (repeat' split) <;> simp [*]

@[simp] theorem spdmNext_otp (t : SpdmStep) (j : Nat) (s : State) : (spdmNext t j s).otp = s.otp := by
  unfold spdmNext; (repeat' split) <;> simp [*]

@[simp] theorem epFirmware_otp (j : Nat) (s : State) : (epFirmware j s).otp = s.otp := by
  unfold epFirmware; dsimp only; (repeat' split) <;> simp [*]

@[simp] theorem upPart_otp (p : Nat) (f : Part → Part) (s : State) : (upPart p f s).otp = s.otp := by
  unfold upPart; (repeat' split) <;> simp [*]

@[simp] theorem sliceFault_otp (b i : Nat) (s : State) : (sliceFault b i s).otp = s.otp := by
  unfold sliceFault; dsimp only; (repeat' split) <;> simp [*]

@[simp] theorem dispatchTlp_otp (i e : Nat) (t : Tlp) (s : State) : (dispatchTlp i e t s).otp = s.otp := by
  unfold dispatchTlp; (repeat' split) <;> simp [*]

@[simp] theorem deliverDue_otp (s : State) : (deliverDue s).otp = s.otp := by
  unfold deliverDue; (repeat' split) <;> simp [*]

@[simp] theorem forwardTlp_otp (i e : Nat) (t : Tlp) (s : State) : (forwardTlp i e t s).1.otp = s.otp := by
  unfold forwardTlp; (repeat' split) <;> simp [*]

@[simp] theorem away_otp (q : Nat) (k : TlpKind) (s : State) : (away q k s).1.otp = s.otp := by
  unfold away; (repeat' split) <;> simp [*]

@[simp] theorem mctpTrack_otp (p : Nat) (t : Tlp) (s : State) : (mctpTrack p t s).otp = s.otp := by
  unfold mctpTrack; (repeat' split) <;> simp [*]

@[simp] theorem awayAt_otp (i p : Nat) (t : Tlp) (s : State) : (awayAt i p t s).1.otp = s.otp := by
  unfold awayAt; (repeat' split) <;> simp [*]

@[simp] theorem routeTlp_otp (i p : Nat) (t : Tlp) (s : State) : (routeTlp i p t s).1.otp = s.otp := by
  unfold routeTlp; (repeat' split) <;> simp [*]

@[simp] theorem violEscalate_otp (j p : Nat) (s : State) : (violEscalate j p s).otp = s.otp := by
  unfold violEscalate; dsimp only; (repeat' split) <;> simp [*]

@[simp] theorem violate_otp (j q p : Nat) (k : Viol) (t : Tlp) (s : State) : (violate j q p k t s).1.otp = s.otp := by
  unfold violate; (repeat' split) <;> simp [*]

@[simp] theorem medTake_otp (port i : Nat) (t : Tlp) (s : State) : (medTake port i t s).otp = s.otp := by
  unfold medTake; (repeat' split) <;> simp [*]

@[simp] theorem endpointTlp_otp (j q p : Nat) (t : Tlp) (s : State) : (endpointTlp j q p t s).1.otp = s.otp := by
  unfold endpointTlp; (repeat' split) <;> simp [*]

@[simp] theorem hostTlp_otp (p : Nat) (t : Tlp) (s : State) : (hostTlp p t s).1.otp = s.otp := by
  unfold hostTlp; (repeat' split) <;> simp [*]

@[simp] theorem armReady_otp (p : Nat) (s : State) : (armReady p s).otp = s.otp := by
  unfold armReady; (repeat' split) <;> simp [*]

@[simp] theorem armBegin_otp (p src : Nat) (s : State) : (armBegin p src s).otp = s.otp := by
  unfold armBegin; (repeat' split) <;> simp [*]

@[simp] theorem upMed_otp (port : Nat) (f : Mediation → Mediation) (s : State) : (upMed port f s).otp = s.otp := by
  unfold upMed; (repeat' split) <;> simp [*]

@[simp] theorem activateReady_otp (port : Nat) (s : State) : (activateReady port s).otp = s.otp := by
  simp [activateReady]

@[simp] theorem medForward_otp (m : MedPkt) (s : State) : (medForward m s).1.otp = s.otp := by
  unfold medForward; (repeat' split) <;> simp [*]

@[simp] theorem medEnq_otp (m : MedPkt) (s : State) : (medEnq m s).otp = s.otp := by
  unfold medEnq; (repeat' split) <;> simp [*]

@[simp] theorem resubmitAll_otp (s : State) : (resubmitAll s).otp = s.otp := by
  unfold resubmitAll
  rw [foldl_otp]
  · simp
  · intro s w
    split <;> simp

@[simp] theorem escalateAll_otp (s : State) : (escalateAll s).otp = s.otp := by
  unfold escalateAll
  rw [foldl_otp]
  · simp
  · intro s e
    simp

@[simp] theorem wdtCtrlWrite_otp (v : BitVec 32) (s : State) : (wdtCtrlWrite v s).otp = s.otp := by
  unfold wdtCtrlWrite; (repeat' split) <;> simp [*]

@[simp] theorem wdtCapture_otp (cause : Nat) (pc : BitVec 64) (s : State) : (wdtCapture cause pc s).otp = s.otp := by
  unfold wdtCapture; (repeat' split) <;> simp [*]

@[simp] theorem upSig_otp (e : Bool) (f : SigEng → SigEng) (s : State) : (upSig e f s).otp = s.otp := by
  unfold upSig; (repeat' split) <;> simp [*]

@[simp] theorem sigRemove_otp (e : Bool) (s : State) : (sigRemove e s).otp = s.otp := by
  unfold sigRemove; (repeat' split) <;> simp [*]

@[simp] theorem applyWrite_otp (p : PolicyImage) (r : PresentRec) (j : JEntry) (s : State) : (applyWrite p r j s).otp = s.otp := by
  unfold applyWrite; (repeat' split) <;> simp [*]

@[simp] theorem brStore_otp (epoch : Nat) (b : Bytes) (s : State) : (brStore epoch b s).otp = s.otp := by
  unfold brStore; (repeat' split) <;> simp [*]

@[simp] theorem cbusLost_otp (i : Nat) (r : CbusRec) (s : State) : (cbusLost i r s).otp = s.otp := by
  unfold cbusLost; dsimp only; (repeat' split) <;> simp [*]

@[simp] theorem mbxFinish_otp (b : Bool) (result : Nat) (s : State) : (mbxFinish b result s).otp = s.otp := by
  unfold mbxFinish; (repeat' split) <;> simp [*]

@[simp] theorem tripClear_otp (s : State) : (tripClear s).otp = s.otp := by
  unfold tripClear; (repeat' split) <;> simp [*]

@[simp] theorem exportFree_otp (i : Nat) (s : State) : (exportFree i s).otp = s.otp := by
  unfold exportFree
  dsimp only
  split
  · rw [foldl_otp]
    intro s k
    split <;> simp
  · rw [emit_otp, foldl_otp]
    intro s k
    split <;> simp

@[simp] theorem ackAccept_otp (i : Nat) (s : State) : (ackAccept i s).otp = s.otp := by
  unfold ackAccept; (repeat' split) <;> simp [*]

@[simp] theorem ackEnd_otp (b : Bool) (chain : Option Bytes) (s : State) : (ackEnd b chain s).otp = s.otp := by
  unfold ackEnd; (repeat' split) <;> simp [*]

@[simp] theorem journalCmdEntry_otp (j : RingCmd) (body : Bytes) (s : State) : (journalCmdEntry j body s).otp = s.otp := by
  unfold journalCmdEntry; (repeat' split) <;> simp [*]

@[simp] theorem holdCmd_otp (p g : Nat) (e : Bytes) (s : State) : (holdCmd p g e s).otp = s.otp := by
  unfold holdCmd; (repeat' split) <;> simp [*]

@[simp] theorem accessEnd_otp (p g : Nat) (u : AccessUse) (s : State) : (accessEnd p g u s).otp = s.otp := by
  unfold accessEnd; (repeat' split) <;> simp [*]

@[simp] theorem vectorSend_otp (p v : Nat) (s : State) : (vectorSend p v s).1.otp = s.otp := by
  unfold vectorSend; (repeat' split) <;> simp [*]

@[simp] theorem takeSealNo_otp (s : State) : (takeSealNo s).otp = s.otp := by
  unfold takeSealNo; (repeat' split) <;> simp [*]

@[simp] theorem fetchGood_otp (p g : Nat) (r : Ring) (f : Fetched) (s : State) : (fetchGood p g r f s).otp = s.otp := by
  unfold fetchGood; dsimp only; (repeat' split) <;> simp [*]

@[simp] theorem fetchBad_otp (p g : Nat) (r : Ring) (f : Fetched) (status : Nat) (s : State) : (fetchBad p g r f status s).otp = s.otp := by
  unfold fetchBad; (repeat' split) <;> simp [*]

@[simp] theorem fetchTaken_otp (p g : Nat) (s : State) : (fetchTaken p g s).otp = s.otp := by
  unfold fetchTaken; (repeat' split) <;> simp [*]

@[simp] theorem completionWritten_otp (p g : Nat) (j : RingCmd) (s : State) : (completionWritten p g j s).otp = s.otp := by
  unfold completionWritten; (repeat' split) <;> simp [*]

@[simp] theorem upAdm_otp (p a : Nat) (f : AdmRegs → AdmRegs) (s : State) : (upAdm p a f s).otp = s.otp := by
  unfold upAdm; (repeat' split) <;> simp [*]

@[simp] theorem admWrite_otp (p a : Nat) (v : BitVec 32) (s : State) : (admWrite p a v s).otp = s.otp := by
  unfold admWrite; dsimp only; (repeat' split) <;> simp [*]

@[simp] theorem writeCfg_otp (p : Nat) (r : CfgReg) (v : BitVec 32) (s : State) : (writeCfg p r v s).otp = s.otp := by
  unfold writeCfg; (repeat' split) <;> simp [*]

@[simp] theorem mbxGo_otp (b : Bool) (s : State) : (mbxGo b s).otp = s.otp := by
  unfold mbxGo; dsimp only; (repeat' split) <;> simp [*]

@[simp] theorem writeMailbox_otp (b : Bool) (a : Nat) (w : BitVec 32) (s : State) : (writeMailbox b a w s).otp = s.otp := by
  unfold writeMailbox; (repeat' split) <;> simp [*]

@[simp] theorem writeBar0_otp (p a : Nat) (v : BitVec 32) (s : State) : (writeBar0 p a v s).otp = s.otp := by
  unfold writeBar0; dsimp only; (repeat' split) <;> simp [*]

@[simp] theorem writeBar_otp (n p a len : Nat) (v : BitVec 32) (s : State) : (writeBar n p a len v s).otp = s.otp := by
  unfold writeBar; (repeat' split) <;> simp [*]

@[simp] theorem writeMsix8_otp (p a : Nat) (low high : BitVec 32) (s : State) : (writeMsix8 p a low high s).otp = s.otp := by
  unfold writeMsix8; (repeat' split) <;> simp [*]

@[simp] theorem writeMordant_otp (a : Nat) (v : BitVec 32) (s : State) : (writeMordant a v s).otp = s.otp := by
  unfold writeMordant; (repeat' split) <;> simp [*]

@[simp] theorem writeChan_otp (k a : Nat) (v : BitVec 32) (s : State) : (writeChan k a v s).otp = s.otp := by
  unfold writeChan; (repeat' split) <;> simp [*]

@[simp] theorem writeSig_otp (e : Bool) (a : Nat) (v : BitVec 32) (s : State) : (writeSig e a v s).otp = s.otp := by
  unfold writeSig; dsimp only; (repeat' split) <;> simp [*]

@[simp] theorem writeSic_otp (a : Nat) (v : BitVec 32) (s : State) : (writeSic a v s).otp = s.otp := by
  unfold writeSic; (repeat' split) <;> simp [*]

@[simp] theorem writeWdt_otp (a : Nat) (v : BitVec 32) (s : State) : (writeWdt a v s).otp = s.otp := by
  unfold writeWdt; (repeat' split) <;> simp [*]

@[simp] theorem writeDga_otp (a : Nat) (v : BitVec 32) (s : State) : (writeDga a v s).otp = s.otp := by
  unfold writeDga; (repeat' split) <;> simp [*]

@[simp] theorem writeGate_otp (a : Nat) (v : BitVec 32) (s : State) : (writeGate a v s).otp = s.otp := by
  unfold writeGate; (repeat' split) <;> simp [*]

@[simp] theorem lakeReqFail_otp (q : LakeReq) (s : State) : (lakeReqFail q s).otp = s.otp := by
  unfold lakeReqFail; (repeat' split) <;> simp [*]

@[simp] theorem lakeOut_otp (s : State) : (lakeOut s).otp = s.otp := by
  unfold lakeOut; dsimp only; (repeat' split) <;> simp [*]

@[simp] theorem lakeRemove_otp (n : Nat) (s : State) : (lakeRemove n s).otp = s.otp := by
  unfold lakeRemove; (repeat' split) <;> simp [*]

@[simp] theorem csfHostRead_otp (p : Nat) (t : Tlp) (s : State) : (csfHostRead p t s).1.otp = s.otp := by
  unfold csfHostRead; (repeat' split) <;> simp [*]

@[simp] theorem nvmeEffect_otp (back : List DriveBlock) (u : NvmeUse) (s : State) : (nvmeEffect back u s).otp = s.otp := by
  unfold nvmeEffect; (repeat' split) <;> simp [*]

@[simp] theorem nvmeFail_otp (s : State) : (nvmeFail s).otp = s.otp := by
  unfold nvmeFail; (repeat' split) <;> simp [*]

@[simp] theorem frameAbandon_otp (k : Nat) (cl : Client) (s : State) : (frameAbandon k cl s).otp = s.otp := by
  unfold frameAbandon; (repeat' split) <;> simp [*]

@[simp] theorem restartStream_otp (k : Nat) (s : State) : (restartStream k s).otp = s.otp := by
  unfold restartStream; (repeat' split) <;> simp [*]

@[simp] theorem medLost_otp (port : Nat) (s : State) : (medLost port s).otp = s.otp := by
  unfold medLost; (repeat' split) <;> simp [*]

@[simp] theorem unitsAfter_otp (t : SelfTest) (s : State) : (unitsAfter t s).otp = s.otp := by
  unfold unitsAfter; (repeat' split) <;> simp [*]

@[simp] theorem unitsScanned_otp (s : State) : (unitsScanned s).otp = s.otp := by
  unfold unitsScanned; (repeat' split) <;> simp [*]

@[simp] theorem romFloor_otp (cause : Nat) (s : State) : (romFloor cause s).otp = s.otp := by
  unfold romFloor; (repeat' split) <;> simp [*]

@[simp] theorem romTake_otp (slot : Bool) (b : Bundle) (s : State) : (romTake slot b s).otp = s.otp := by
  unfold romTake; dsimp only; (repeat' split) <;> simp [*]

@[simp] theorem tickTimer_otp (s : State) : (tickTimer s).otp = s.otp := by
  unfold tickTimer; (repeat' split) <;> simp [*]

@[simp] theorem tickWdt_otp (s : State) : (tickWdt s).otp = s.otp := by
  unfold tickWdt; (repeat' split) <;> simp [*]

@[simp] theorem withPending_otp (q : List Instr) (s : State) : (withPending q s).otp = s.otp := by
  unfold withPending; (repeat' split) <;> simp [*]

@[simp] theorem State.withFetchWord_otp (s : State) (nbits w : Nat) : (State.withFetchWord s nbits w).otp = s.otp := by
  unfold State.withFetchWord; (repeat' split) <;> simp [*]

end Sys2Proof.Machine
end

