-- ==== Sys2Proof/Laws/FramePending.lean ====
section
/-! SUPPORT. Frame lemmas of the command queue: one simp lemma for each shared operation of Machine/*.lean
that never writes `State.pending`, so that a proof about a command reads the field through the
operation without unfolding it. An operation without a lemma here may write the field. -/

namespace Sys2Proof.Machine

open Sys2Proof

set_option linter.unusedSimpArgs false
set_option linter.unusedTactic false
set_option linter.unnecessarySeqFocus false
set_option linter.unreachableTactic false
set_option linter.unusedVariables false

@[simp] theorem each_pending (l : List Nat) (f : Nat → State → State) (s : State) (h : ∀ n s, (f n s).pending = s.pending) :
    (each l f s).pending = s.pending := by
  unfold each
  induction l generalizing s with
  | nil => rfl
  | cons a r ih => simp [ih, h]

@[simp] theorem foldl_pending {α : Type} (l : List α) (f : State → α → State) (s : State) (h : ∀ s n, (f s n).pending = s.pending) :
    (l.foldl f s).pending = s.pending := by
  induction l generalizing s with
  | nil => rfl
  | cons a r ih => simp [ih, h]

@[simp] theorem gated_pending (code src : Nat) (body : Bytes) (g : Gate) (eff : State → State) (s : State)
    (h : ∀ s, (eff s).pending = s.pending) : (gated code src body g eff s).pending = s.pending := by
  unfold gated
  dsimp only
  (repeat' split) <;> simp [h]

@[simp] theorem say_pending (r : Reply) (s : State) : (say r s).pending = s.pending := by
  unfold say; (repeat' split) <;> simp [*]

@[simp] theorem drawn_pending (s : State) : (drawn s).pending = s.pending := by
  unfold drawn; (repeat' split) <;> simp [*]

@[simp] theorem emit_pending (code src : Nat) (body : Bytes) (s : State) : (emit code src body s).pending = s.pending := by
  unfold emit; (repeat' split) <;> simp [*]

@[simp] theorem emitFw_pending (code : Nat) (body : Bytes) (s : State) : (emitFw code body s).pending = s.pending := by
  unfold emitFw; (repeat' split) <;> simp [*]

@[simp] theorem setPair_pending (k : Nat) (v : BitVec 32) (s : State) : (setPair k v s).pending = s.pending := by
  unfold setPair; (repeat' split) <;> simp [*]

@[simp] theorem upImg_pending (k : Nat) (f : Img → Img) (s : State) : (upImg k f s).pending = s.pending := by
  unfold upImg; (repeat' split) <;> simp [*]

@[simp] theorem upChan_pending (k : Nat) (f : Channel → Channel) (s : State) : (upChan k f s).pending = s.pending := by
  unfold upChan; (repeat' split) <;> simp [*]

@[simp] theorem upEm_pending (k : Nat) (f : EmDev → EmDev) (s : State) : (upEm k f s).pending = s.pending := by
  unfold upEm; (repeat' split) <;> simp [*]

@[simp] theorem upPort_pending (k : Nat) (f : Port → Port) (s : State) : (upPort k f s).pending = s.pending := by
  unfold upPort; (repeat' split) <;> simp [*]

@[simp] theorem domProtoReset_pending (d : Nat) (s : State) : (domProtoReset d s).pending = s.pending := by
  unfold domProtoReset; (repeat' split) <;> simp [*]

@[simp] theorem upEp_pending (j : Nat) (f : Ep → Ep) (s : State) : (upEp j f s).pending = s.pending := by
  unfold upEp; (repeat' split) <;> simp [*]

@[simp] theorem upCbus_pending (i : Nat) (f : CbusComp → CbusComp) (s : State) : (upCbus i f s).pending = s.pending := by
  unfold upCbus; (repeat' split) <;> simp [*]

@[simp] theorem aerReport_pending (port n : Nat) (s : State) : (aerReport port n s).pending = s.pending := by
  unfold aerReport; (repeat' split) <;> simp [*]

@[simp] theorem dropHeld_pending (port : Nat) (s : State) : (dropHeld port s).pending = s.pending := by
  unfold dropHeld; (repeat' split) <;> simp [*]

@[simp] theorem endMediation_pending (port : Nat) (s : State) : (endMediation port s).pending = s.pending := by
  unfold endMediation; (repeat' split) <;> simp [*]

@[simp] theorem linkDrop_pending (port : Nat) (s : State) : (linkDrop port s).pending = s.pending := by
  unfold linkDrop; (repeat' split) <;> simp [*]

@[simp] theorem epUnvat_pending (j : Nat) (s : State) : (epUnvat j s).pending = s.pending := by
  unfold epUnvat; (repeat' split) <;> simp [*]

@[simp] theorem epSealIt_pending (j : Nat) (s : State) : (epSealIt j s).pending = s.pending := by
  unfold epSealIt; (repeat' split) <;> simp [*]

@[simp] theorem startRecheck_pending (k : AttKind) (j : Nat) (s : State) : (startRecheck k j s).pending = s.pending := by
  unfold startRecheck; (repeat' split) <;> simp [*]

@[simp] theorem emitContained_pending (j : Nat) (s : State) : (emitContained j s).pending = s.pending := by
  unfold emitContained; (repeat' split) <;> simp [*]

@[simp] theorem epContain_pending (f : Causes → Causes) (j : Nat) (s : State) : (epContain f j s).pending = s.pending := by
  unfold epContain; (repeat' split) <;> simp [*]

@[simp] theorem epRecheck_pending (f : Causes → Causes) (wait : Bool) (j : Nat) (s : State) : (epRecheck f wait j s).pending = s.pending := by
  unfold epRecheck; (repeat' split) <;> simp [*]

@[simp] theorem epChanged_pending (digest : Bytes) (j : Nat) (s : State) : (epChanged digest j s).pending = s.pending := by
  unfold epChanged; (repeat' split) <;> simp [*]

@[simp] theorem epRefuse_pending (j : Nat) (s : State) : (epRefuse j s).pending = s.pending := by
  unfold epRefuse; (repeat' split) <;> simp [*]

@[simp] theorem epOpen_pending (j : Nat) (s : State) : (epOpen j s).pending = s.pending := by
  unfold epOpen; dsimp only; (repeat' split) <;> simp [*]

@[simp] theorem heldRecord_pending (d cause : Nat) (final : Bool) (s : State) : (heldRecord d cause final s).pending = s.pending := by
  unfold heldRecord; (repeat' split) <;> simp [*]

@[simp] theorem clearSlots_pending (d : Nat) (s : State) : (clearSlots d s).pending = s.pending := by
  unfold clearSlots; (repeat' split) <;> simp [*]

@[simp] theorem imgAgain_pending (k : Nat) (s : State) : (imgAgain k s).pending = s.pending := by
  unfold imgAgain; (repeat' split) <;> simp [*]

@[simp] theorem domUnslot_pending (d : Nat) (s : State) : (domUnslot d s).pending = s.pending := by
  unfold domUnslot; (repeat' split) <;> simp [*]

@[simp] theorem domLost_pending (d : Nat) (s : State) : (domLost d s).pending = s.pending := by
  unfold domLost; (repeat' split) <;> simp [*]

@[simp] theorem holdDom_pending (cause : Nat) (final : Bool) (d : Nat) (s : State) : (holdDom cause final d s).pending = s.pending := by
  unfold holdDom; (repeat' split) <;> simp [*]

@[simp] theorem cascade_pending  (n : Nat) (s : State) : (cascade  n s).pending = s.pending := by
  induction n generalizing s with
  | zero => rfl
  | succ n ih => unfold cascade; dsimp only; (repeat' split) <;> simp [*]

@[simp] theorem markFinal_pending (cause d : Nat) (s : State) : (markFinal cause d s).pending = s.pending := by
  unfold markFinal; (repeat' split) <;> simp [*]

@[simp] theorem holdFinal_pending (cause d : Nat) (s : State) : (holdFinal cause d s).pending = s.pending := by
  unfold holdFinal; (repeat' split) <;> simp [*]

@[simp] theorem finalCascade_pending  (n : Nat) (s : State) : (finalCascade  n s).pending = s.pending := by
  induction n generalizing s with
  | zero => rfl
  | succ n ih => unfold finalCascade; dsimp only; (repeat' split) <;> simp [*]

@[simp] theorem epRelease_pending (d j : Nat) (s : State) : (epRelease d j s).pending = s.pending := by
  unfold epRelease; (repeat' split) <;> simp [*]

@[simp] theorem releaseDom_pending (d : Nat) (s : State) : (releaseDom d s).pending = s.pending := by
  unfold releaseDom; (repeat' split) <;> simp [*]

@[simp] theorem interlock_pending  (n : Nat) (s : State) : (interlock  n s).pending = s.pending := by
  induction n generalizing s with
  | zero => rfl
  | succ n ih => unfold interlock; dsimp only; (repeat' split) <;> simp [*]

@[simp] theorem vioHold_pending (s : State) : (vioHold s).pending = s.pending := by
  unfold vioHold; (repeat' split) <;> simp [*]

@[simp] theorem vatWithdraw_pending (s : State) : (vatWithdraw s).pending = s.pending := by
  unfold vatWithdraw; (repeat' split) <;> simp [*]

@[simp] theorem vatRelease_pending (s : State) : (vatRelease s).pending = s.pending := by
  unfold vatRelease
  apply each_pending
  intro j s
  try dsimp only
  split <;> simp

@[simp] theorem vatGrant_pending (s : State) : (vatGrant s).pending = s.pending := by
  unfold vatGrant; (repeat' split) <;> simp [*]

@[simp] theorem recheckGo_pending (s : State) : (recheckGo s).pending = s.pending := by
  unfold recheckGo; (repeat' split) <;> simp [*]

@[simp] theorem phaseStep_pending (s : State) : (phaseStep s).pending = s.pending := by
  unfold phaseStep; (repeat' split) <;> simp [*]

@[simp] theorem brClose_pending (s : State) : (brClose s).pending = s.pending := by
  unfold brClose; (repeat' split) <;> simp [*]

@[simp] theorem lateAnswer_pending (b : Bool) (cmd flags result : Nat) (body : Bytes) (s : State) : (lateAnswer b cmd flags result body s).pending = s.pending := by
  unfold lateAnswer; (repeat' split) <;> simp [*]

@[simp] theorem nvmeDrop_pending (s : State) : (nvmeDrop s).pending = s.pending := by
  unfold nvmeDrop
  refine (foldl_pending _ _ _ ?_).trans (by simp)
  intro s c
  try dsimp only
  split <;> simp

@[simp] theorem vaultSet_pending (st : VaultState) (code cause : Nat) (s : State) : (vaultSet st code cause s).pending = s.pending := by
  unfold vaultSet; (repeat' split) <;> simp [*]

@[simp] theorem nvmeIssue_pending (l : List NvmeUse) (s : State) : (nvmeIssue l s).pending = s.pending := by
  unfold nvmeIssue; (repeat' split) <;> simp [*]

@[simp] theorem rekey_pending (s : State) : (rekey s).pending = s.pending := by
  unfold rekey; dsimp only; (repeat' split) <;> simp [*]

@[simp] theorem blockNoLimit_pending (s : State) : (blockNoLimit s).pending = s.pending := by
  unfold blockNoLimit; (repeat' split) <;> simp [*]

@[simp] theorem useBlocks_pending (n : Nat) (s : State) : (useBlocks n s).pending = s.pending := by
  unfold useBlocks; (repeat' split) <;> simp [*]

@[simp] theorem nvmeWrite_pending (u : NvmeUse) (cmds kind lba n : Nat) (s : State) : (nvmeWrite u cmds kind lba n s).pending = s.pending := by
  unfold nvmeWrite; (repeat' split) <;> simp [*]

@[simp] theorem writeBoot_pending (epoch : Nat) (s : State) : (writeBoot epoch s).pending = s.pending := by
  unfold writeBoot; (repeat' split) <;> simp [*]

@[simp] theorem vaultServe_pending (s : State) : (vaultServe s).pending = s.pending := by
  unfold vaultServe; (repeat' split) <;> simp [*]

@[simp] theorem vaultInit_pending (s : State) : (vaultInit s).pending = s.pending := by
  unfold vaultInit; dsimp only; (repeat' split) <;> simp [*]

@[simp] theorem vaultAccept_pending (back : List DriveBlock) (s : State) : (vaultAccept back s).pending = s.pending := by
  unfold vaultAccept; (repeat' split) <;> simp [*]

@[simp] theorem vaultSync_pending (s : State) : (vaultSync s).pending = s.pending := by
  unfold vaultSync; dsimp only; (repeat' split) <;> simp [*]

@[simp] theorem alertBoth_pending (s : State) : (alertBoth s).pending = s.pending := by
  unfold alertBoth; (repeat' split) <;> simp [*]

@[simp] theorem tempAlert_pending (s : State) : (tempAlert s).pending = s.pending := by
  unfold tempAlert; (repeat' split) <;> simp [*]

@[simp] theorem highAlert_pending (s : State) : (highAlert s).pending = s.pending := by
  unfold highAlert; (repeat' split) <;> simp [*]

@[simp] theorem settle_pending (s : State) : (settle s).pending = s.pending := by
  unfold settle; (repeat' split) <;> simp [*]

@[simp] theorem tripDom_pending (d : Nat) (s : State) : (tripDom d s).pending = s.pending := by
  unfold tripDom; dsimp only; (repeat' split) <;> simp [*]

@[simp] theorem tripGate_pending (s : State) : (tripGate s).pending = s.pending := by
  unfold tripGate; (repeat' split) <;> simp [*]

@[simp] theorem custodyTrip_pending (src : Nat) (s : State) : (custodyTrip src s).pending = s.pending := by
  unfold custodyTrip; (repeat' split) <;> simp [*]

@[simp] theorem wdtServed_pending (s : State) : (wdtServed s).pending = s.pending := by
  unfold wdtServed; (repeat' split) <;> simp [*]

@[simp] theorem mordantWrite_pending (f : State → State) (s : State) (h : ∀ s, (f s).pending = s.pending) : (mordantWrite f s).pending = s.pending := by
  unfold mordantWrite
  split
  · exact h s
  · simp

@[simp] theorem fwAdvance_pending (k : Nat) (n : Nat) (s : State) : (fwAdvance k n s).pending = s.pending := by
  induction n generalizing s with
  | zero => rfl
  | succ n ih => unfold fwAdvance; dsimp only; (repeat' split) <;> simp [*]

@[simp] theorem grantEnd_pending (s : State) : (grantEnd s).pending = s.pending := by
  unfold grantEnd; (repeat' split) <;> simp [*]

@[simp] theorem imgFinal_pending (cause slot : Nat) (s : State) : (imgFinal cause slot s).pending = s.pending := by
  unfold imgFinal; (repeat' split) <;> simp [*]

@[simp] theorem chanLost_pending (k : Nat) (s : State) : (chanLost k s).pending = s.pending := by
  unfold chanLost; (repeat' split) <;> simp [*]

@[simp] theorem failStreams_pending (k : Nat) (s : State) : (failStreams k s).pending = s.pending := by
  unfold failStreams; (repeat' split) <;> simp [*]

@[simp] theorem commitLeave_pending (k : Nat) (s : State) : (commitLeave k s).pending = s.pending := by
  unfold commitLeave; (repeat' split) <;> simp [*]

@[simp] theorem fillStop_pending (k : Nat) (s : State) : (fillStop k s).pending = s.pending := by
  unfold fillStop; (repeat' split) <;> simp [*]

@[simp] theorem chanStop_pending (k : Nat) (s : State) : (chanStop k s).pending = s.pending := by
  unfold chanStop; dsimp only; (repeat' split) <;> simp [*]

@[simp] theorem bankStop_pending (k : Nat) (s : State) : (bankStop k s).pending = s.pending := by
  unfold bankStop; (repeat' split) <;> simp [*]

@[simp] theorem chanFail_pending (k : Nat) (s : State) : (chanFail k s).pending = s.pending := by
  unfold chanFail; (repeat' split) <;> simp [*]

@[simp] theorem portFail_pending (k : Nat) (s : State) : (portFail k s).pending = s.pending := by
  unfold portFail; (repeat' split) <;> simp [*]

@[simp] theorem commitKeep_pending (k : Nat) (s : State) : (commitKeep k s).pending = s.pending := by
  unfold commitKeep; dsimp only; (repeat' split) <;> simp [*]

@[simp] theorem commitRead_pending (k : Nat) (f : Frame) (data : Bytes) (s : State) : (commitRead k f data s).pending = s.pending := by
  unfold commitRead; (repeat' split) <;> simp [*]

@[simp] theorem commitHalt_pending (k : Nat) (s : State) : (commitHalt k s).pending = s.pending := by
  unfold commitHalt; dsimp only; (repeat' split) <;> simp [*]

@[simp] theorem commitRetire_pending (k : Nat) (s : State) : (commitRetire k s).pending = s.pending := by
  unfold commitRetire; (repeat' split) <;> simp [*]

@[simp] theorem chanReady_pending (k : Nat) (s : State) : (chanReady k s).pending = s.pending := by
  unfold chanReady; (repeat' split) <;> simp [*]

@[simp] theorem escalateNow_pending (trip src scope : Nat) (doms : List Nat) (s : State) :
    (escalateNow trip src scope doms s).pending = s.pending := by
  unfold escalateNow
  split
  · simp
  · rw [settle_pending]
    apply each_pending
    intro n s
    split <;> simp
  · rfl

@[simp] theorem escalateLater_pending (src scope : Nat) (doms : List Nat) (s : State) : (escalateLater src scope doms s).pending = s.pending := by
  unfold escalateLater; (repeat' split) <;> simp [*]

@[simp] theorem escalateFw_pending (src scope : Nat) (doms : List Nat) (s : State) : (escalateFw src scope doms s).pending = s.pending := by
  unfold escalateFw; (repeat' split) <;> simp [*]

@[simp] theorem lakeOutHold_pending (s : State) : (lakeOutHold s).pending = s.pending := by
  unfold lakeOutHold; dsimp only; (repeat' split) <;> simp [*]

@[simp] theorem cfgTouch_pending (addr len : Nat) (s : State) : (cfgTouch addr len s).pending = s.pending := by
  unfold cfgTouch; (repeat' split) <;> simp [*]

@[simp] theorem dgaServe_pending (s : State) : (dgaServe s).pending = s.pending := by
  unfold dgaServe; (repeat' split) <;> simp [*]

@[simp] theorem upRing_pending (p g : Nat) (f : Ring → Ring) (s : State) : (upRing p g f s).pending = s.pending := by
  unfold upRing; (repeat' split) <;> simp [*]

@[simp] theorem ringErrorRecord_pending (p cause ring : Nat) (s : State) : (ringErrorRecord p cause ring s).pending = s.pending := by
  unfold ringErrorRecord; (repeat' split) <;> simp [*]

@[simp] theorem capsulesEnd_pending (q : Nat → Nat → Bool) (s : State) : (capsulesEnd q s).pending = s.pending := by
  unfold capsulesEnd; (repeat' split) <;> simp [*]

@[simp] theorem debugOpen_pending (scope : BitVec 4) (s : State) : (debugOpen scope s).pending = s.pending := by
  unfold debugOpen; (repeat' split) <;> simp [*]

@[simp] theorem debugGo_pending (s : State) : (debugGo s).pending = s.pending := by
  unfold debugGo; (repeat' split) <;> simp [*]

@[simp] theorem ringsDie_pending (q : Nat → Nat → Bool) (s : State) : (ringsDie q s).pending = s.pending := by
  unfold ringsDie; (repeat' split) <;> simp [*]

@[simp] theorem ringDies_pending (p g : Nat) (s : State) : (ringDies p g s).pending = s.pending := by
  unfold ringDies; (repeat' split) <;> simp [*]

@[simp] theorem ringFail_pending (p g : Nat) (s : State) : (ringFail p g s).pending = s.pending := by
  unfold ringFail; (repeat' split) <;> simp [*]

@[simp] theorem ringError_pending (p g cause : Nat) (s : State) : (ringError p g cause s).pending = s.pending := by
  unfold ringError; (repeat' split) <;> simp [*]

@[simp] theorem ringGone_pending (p g : Nat) (s : State) : (ringGone p g s).pending = s.pending := by
  unfold ringGone; (repeat' split) <;> simp [*]

@[simp] theorem ringDestroyed_pending (p g : Nat) (s : State) : (ringDestroyed p g s).pending = s.pending := by
  unfold ringDestroyed; dsimp only; (repeat' split) <;> simp [*]

@[simp] theorem ringUnsubmit_pending (p g : Nat) (s : State) : (ringUnsubmit p g s).pending = s.pending := by
  unfold ringUnsubmit; (repeat' split) <;> simp [*]

@[simp] theorem ringDestroy_pending (p g : Nat) (by' : Option (Nat × Nat)) (s : State) : (ringDestroy p g by' s).pending = s.pending := by
  unfold ringDestroy; dsimp only; (repeat' split) <;> simp [*]

@[simp] theorem ledgerExtend_pending (j : RingCmd) (s : State) : (ledgerExtend j s).pending = s.pending := by
  unfold ledgerExtend; (repeat' split) <;> simp [*]

@[simp] theorem counterIncrement_pending (h : Nat) (s : State) : (counterIncrement h s).pending = s.pending := by
  unfold counterIncrement; (repeat' split) <;> simp [*]

@[simp] theorem ringCreate_pending (p g depthLog2 sq cq tenant vector : Nat) (s : State) : (ringCreate p g depthLog2 sq cq tenant vector s).pending = s.pending := by
  unfold ringCreate; (repeat' split) <;> simp [*]

@[simp] theorem quotaSet_pending (q : Quota) (s : State) : (quotaSet q s).pending = s.pending := by
  unfold quotaSet; (repeat' split) <;> simp [*]

@[simp] theorem objAlloc_pending (counters : Bool) (r : Run) (s : State) : (objAlloc counters r s).pending = s.pending := by
  unfold objAlloc; (repeat' split) <;> simp [*]

@[simp] theorem objRelease_pending (counters : Bool) (r : Run) (s : State) : (objRelease counters r s).pending = s.pending := by
  unfold objRelease; (repeat' split) <;> simp [*]

@[simp] theorem jobEffect_pending (j : RingCmd) (s : State) : (jobEffect j s).1.pending = s.pending := by
  unfold jobEffect
  dsimp only
  split
  · rfl
  · split <;> first | rfl | (split <;> simp; done) | simp

@[simp] theorem applyNext_pending (s : State) : (applyNext s).pending = s.pending := by
  unfold applyNext; (repeat' split) <;> simp [*]

@[simp] theorem applyAll_pending (s : State) : (applyAll s).pending = s.pending := by
  unfold applyAll; (repeat' split) <;> simp [*]

@[simp] theorem ringsReset_pending (p : Nat) (s : State) : (ringsReset p s).pending = s.pending := by
  unfold ringsReset; (repeat' split) <;> simp [*]

@[simp] theorem batchClose_pending (s : State) : (batchClose s).pending = s.pending := by
  unfold batchClose; (repeat' split) <;> simp [*]

@[simp] theorem sState_pending (s : State) : (sState s).pending = s.pending := by
  unfold sState; (repeat' split) <;> simp [*]

@[simp] theorem sEvent_pending (s : State) : (sEvent s).pending = s.pending := by
  unfold sEvent; (repeat' split) <;> simp [*]

@[simp] theorem epHot_pending (j : Nat) (s : State) : (epHot j s).pending = s.pending := by
  unfold epHot; dsimp only; (repeat' split) <;> simp [*]

@[simp] theorem partHot_pending (p : Nat) (s : State) : (partHot p s).pending = s.pending := by
  unfold partHot; (repeat' split) <;> simp [*]

@[simp] theorem dropPart_pending (p : Nat) (s : State) : (dropPart p s).pending = s.pending := by
  unfold dropPart; (repeat' split) <;> simp [*]

@[simp] theorem upstreamDown_pending (p : Nat) (s : State) : (upstreamDown p s).pending = s.pending := by
  unfold upstreamDown; (repeat' split) <;> simp [*]

@[simp] theorem hEvent_pending (p : Nat) (s : State) : (hEvent p s).pending = s.pending := by
  unfold hEvent; (repeat' split) <;> simp [*]

@[simp] theorem cState_pending (s : State) : (cState s).pending = s.pending := by
  unfold cState; (repeat' split) <;> simp [*]

@[simp] theorem cEvent_pending (s : State) : (cEvent s).pending = s.pending := by
  unfold cEvent; (repeat' split) <;> simp [*]

@[simp] theorem pEvent_pending (s : State) : (pEvent s).pending = s.pending := by
  unfold pEvent; (repeat' split) <;> simp [*]

@[simp] theorem workWrite_pending (a : Nat) (b : Bytes) (s : State) : (workWrite a b s).pending = s.pending := by
  unfold workWrite
  rw [upLake_pending, upSc_pending]

@[simp] theorem workPut_pending (a : Nat) (b : Bytes) (s : State) : (workPut a b s).pending = s.pending := by
  simp [workPut, apply_ite State.pending]

@[simp] theorem lakeStore_pending (base : Nat) (cells : List (Nat × Byte)) (s : State) : (lakeStore base cells s).pending = s.pending := by
  unfold lakeStore; (repeat' split) <;> simp [*]

@[simp] theorem lakeFill_pending (base n : Nat) (cells : List (Nat × Byte)) (s : State) : (lakeFill base n cells s).pending = s.pending := by
  unfold lakeFill; (repeat' split) <;> simp [*]

@[simp] theorem imageWriteGo_pending (k base n : Nat) (cells : List (Nat × Byte)) (s : State) : (imageWriteGo k base n cells s).pending = s.pending := by
  unfold imageWriteGo; (repeat' split) <;> simp [*]

@[simp] theorem imageWrite_pending (k base n : Nat) (cells : List (Nat × Byte)) (s : State) : (imageWrite k base n cells s).pending = s.pending := by
  unfold imageWrite; (repeat' split) <;> simp [*]

@[simp] theorem hotFill_pending (p : PolicyImage) (r : PresentRec) (s : State) : (hotFill p r s).pending = s.pending := by
  unfold hotFill; (repeat' split) <;> simp [*]

@[simp] theorem underrunRecord_pending (r : PresentRec) (cause addr : Nat) (s : State) : (underrunRecord r cause addr s).pending = s.pending := by
  unfold underrunRecord; (repeat' split) <;> simp [*]

@[simp] theorem clearFail_pending (k : Nat) (s : State) : (clearFail k s).pending = s.pending := by
  unfold clearFail; (repeat' split) <;> simp [*]

@[simp] theorem streamGo_pending (k : Nat) (x : Source) (s : State) : (streamGo k x s).pending = s.pending := by
  unfold streamGo; (repeat' split) <;> simp [*]

@[simp] theorem streamFail_pending (i : Nat) (s : State) : (streamFail i s).pending = s.pending := by
  unfold streamFail; (repeat' split) <;> simp [*]

@[simp] theorem streamAll_pending (k : Nat) (cells : List (Nat × Byte)) (s : State) : (streamAll k cells s).pending = s.pending := by
  unfold streamAll; (repeat' split) <;> simp [*]

@[simp] theorem imgLoading_pending (k : Nat) (s : State) : (imgLoading k s).pending = s.pending := by
  unfold imgLoading; (repeat' split) <;> simp [*]

@[simp] theorem recoveryGo_pending (k : Nat) (fallback : Bool) (s : State) : (recoveryGo k fallback s).pending = s.pending := by
  unfold recoveryGo; dsimp only; (repeat' split) <;> simp [*]

theorem takeAction_pending (k : Nat) (fallback : Bool) (fails : State → State) (s : State) (h : ∀ s, (fails s).pending = s.pending) :
    (takeAction k fallback fails s).pending = s.pending := by
  unfold takeAction
  dsimp only
  (repeat' split) <;> simp [h]

@[simp] theorem fallbackAction_pending (k : Nat) (s : State) : (fallbackAction k s).pending = s.pending := by
  unfold fallbackAction
  split
  · apply takeAction_pending
    intro s
    simp
  · simp

@[simp] theorem actionFails_pending (k : Nat) (s : State) : (actionFails k s).pending = s.pending := by
  unfold actionFails; (repeat' split) <;> simp [*]

@[simp] theorem actionStart_pending (k : Nat) (s : State) : (actionStart k s).pending = s.pending := by
  unfold actionStart
  apply takeAction_pending
  intro s
  simp

@[simp] theorem switchHalves_pending (k : Nat) (s : State) : (switchHalves k s).pending = s.pending := by
  unfold switchHalves; (repeat' split) <;> simp [*]

@[simp] theorem verdictRecords_pending (k : Nat) (x : Source) (pass : Bool) (cause : Nat) (s : State) : (verdictRecords k x pass cause s).pending = s.pending := by
  unfold verdictRecords; (repeat' split) <;> simp [*]

@[simp] theorem keepJudged_pending (k : Nat) (m : Option Manifest) (digest : Bytes) (pass : Bool) (s : State) : (keepJudged k m digest pass s).pending = s.pending := by
  unfold keepJudged; (repeat' split) <;> simp [*]

@[simp] theorem afterPass_pending (k : Nat) (x : Source) (s : State) : (afterPass k x s).pending = s.pending := by
  unfold afterPass; dsimp only; (repeat' split) <;> simp [*]

@[simp] theorem afterFail_pending (k : Nat) (x : Source) (s : State) : (afterFail k x s).pending = s.pending := by
  unfold afterFail; (repeat' split) <;> simp [*]

@[simp] theorem writeVerdict_pending (k : Nat) (x : Source) (m : Option Manifest) (digest : Bytes) (pass : Bool) (cause : Nat) (s : State) : (writeVerdict k x m digest pass cause s).pending = s.pending := by
  unfold writeVerdict; (repeat' split) <;> simp [*]

@[simp] theorem svnRaise_pending (idx n : Nat) (s : State) : (svnRaise idx n s).pending = s.pending := by
  unfold svnRaise; (repeat' split) <;> simp [*]

@[simp] theorem svnRecord_pending (idx n : Nat) (s : State) : (svnRecord idx n s).pending = s.pending := by
  unfold svnRecord; (repeat' split) <;> simp [*]

@[simp] theorem polFloorRaise_pending (n : Nat) (s : State) : (polFloorRaise n s).pending = s.pending := by
  unfold polFloorRaise; (repeat' split) <;> simp [*]

@[simp] theorem upMgt_pending (b : Bool) (f : Mgt → Mgt) (s : State) : (upMgt b f s).pending = s.pending := by
  unfold upMgt; (repeat' split) <;> simp [*]

@[simp] theorem capsuleEnd_pending (reason : Nat) (s : State) : (capsuleEnd reason s).pending = s.pending := by
  unfold capsuleEnd; dsimp only; (repeat' split) <;> simp [*]

@[simp] theorem capsuleRefuse_pending (j : CapsuleJob) (reason : Nat) (s : State) : (capsuleRefuse j reason s).pending = s.pending := by
  unfold capsuleRefuse; (repeat' split) <;> simp [*]

@[simp] theorem capsuleAccept_pending (s : State) : (capsuleAccept s).pending = s.pending := by
  unfold capsuleAccept; (repeat' split) <;> simp [*]

@[simp] theorem capsuleStep_pending (n : Nat) (s : State) : (capsuleStep n s).pending = s.pending := by
  unfold capsuleStep; (repeat' split) <;> simp [*]

@[simp] theorem capsuleWrite_pending (j : CapsuleJob) (s : State) : (capsuleWrite j s).pending = s.pending := by
  unfold capsuleWrite; (repeat' split) <;> simp [*]

@[simp] theorem capsuleRecord_pending (j : CapsuleJob) (s : State) : (capsuleRecord j s).pending = s.pending := by
  unfold capsuleRecord; (repeat' split) <;> simp [*]

@[simp] theorem mgtMsg_pending (b : Bool) (s : State) : (mgtMsg b s).pending = s.pending := by
  unfold mgtMsg; (repeat' split) <;> simp [*]

@[simp] theorem cfgWrite_pending (f : CfgFlash → CfgFlash) (s : State) : (cfgWrite f s).pending = s.pending := by
  unfold cfgWrite; (repeat' split) <;> simp [*]

@[simp] theorem putDir_pending (second : Bool) (d : DirCopy) (s : State) : (putDir second d s).pending = s.pending := by
  unfold putDir; (repeat' split) <;> simp [*]

@[simp] theorem breakDir_pending (s : State) : (breakDir s).pending = s.pending := by
  unfold breakDir; (repeat' split) <;> simp [*]

@[simp] theorem rewriteDir_pending (f : BootDir → BootDir) (s : State) : (rewriteDir f s).pending = s.pending := by
  unfold rewriteDir; (repeat' split) <;> simp [*]

@[simp] theorem putComponent_pending (c : Component) (b : Bool) (s : State) : (putComponent c b s).pending = s.pending := by
  unfold putComponent; (repeat' split) <;> simp [*]

@[simp] theorem dropComponent_pending (c : Component) (b : Bool) (s : State) : (dropComponent c b s).pending = s.pending := by
  unfold dropComponent; (repeat' split) <;> simp [*]

@[simp] theorem pushedRecord_pending (c : Component) (slot : Bool) (outcome : Nat) (g : Gate) (eff : State → State) (s : State)
    (h : ∀ s, (eff s).pending = s.pending) : (pushedRecord c slot outcome g eff s).pending = s.pending := by
  unfold pushedRecord
  split
  · exact h s
  · exact gated_pending _ _ _ _ _ _ h

@[simp] theorem promoted_pending (c : Component) (cleared : Bool) (s : State) : (promoted c cleared s).pending = s.pending := by
  unfold promoted; (repeat' split) <;> simp [*]

@[simp] theorem promote_pending (c : Component) (copied cleared : Bool) (s : State) : (promote c copied cleared s).pending = s.pending := by
  unfold promote; (repeat' split) <;> simp [*]

@[simp] theorem romPrepare_pending (p : PolicyImage) (s : State) : (romPrepare p s).pending = s.pending := by
  unfold romPrepare; (repeat' split) <;> simp [*]

@[simp] theorem romLock_pending (p : PolicyImage) (s : State) : (romLock p s).pending = s.pending := by
  unfold romLock; (repeat' split) <;> simp [*]

@[simp] theorem bayHolds_pending (s : State) : (bayHolds s).pending = s.pending := by
  unfold bayHolds
  apply each_pending
  intro n s
  split <;> simp

@[simp] theorem finishPromotions_pending (s : State) : (finishPromotions s).pending = s.pending := by
  unfold finishPromotions; (repeat' split) <;> simp [*]

@[simp] theorem refreshDir_pending (s : State) : (refreshDir s).pending = s.pending := by
  unfold refreshDir; (repeat' split) <;> simp [*]

@[simp] theorem promotionGo_pending (pol cleared : Bool) (s : State) : (promotionGo pol cleared s).pending = s.pending := by
  unfold promotionGo; (repeat' split) <;> simp [*]

@[simp] theorem cbusStart_pending (found : List (Nat × Nat)) (s : State) : (cbusStart found s).pending = s.pending := by
  unfold cbusStart; dsimp only; (repeat' split) <;> simp [*, apply_ite State.pending]

@[simp] theorem firmwareStart_pending (found : List (Nat × Nat)) (s : State) : (firmwareStart found s).pending = s.pending := by
  unfold firmwareStart; (repeat' split) <;> simp [*]

@[simp] theorem romGo_pending (found : List (Nat × Nat)) (s : State) : (romGo found s).pending = s.pending := by
  unfold romGo; (repeat' split) <;> simp [*]

@[simp] theorem romResume_pending (s : State) : (romResume s).pending = s.pending := by
  unfold romResume; (repeat' split) <;> simp [*]

@[simp] theorem relReqBit_pending (d : Nat) (s : State) : (relReqBit d s).pending = s.pending := by
  unfold relReqBit; (repeat' split) <;> simp [*]

@[simp] theorem relEvaluate_pending (l : List Nat) (s : State) : (relEvaluate l s).pending = s.pending := by
  unfold relEvaluate; (repeat' split) <;> simp [*]

@[simp] theorem relReqSet_pending (d : Nat) (s : State) : (relReqSet d s).pending = s.pending := by
  unfold relReqSet
  apply mordantWrite_pending
  intro s
  simp

@[simp] theorem otpDropped_pending (s : State) : (otpDropped s).pending = s.pending := by
  unfold otpDropped; (repeat' split) <;> simp [*]

@[simp] theorem otpRefuse_pending (op addr : Nat) (s : State) : (otpRefuse op addr s).pending = s.pending := by
  unfold otpRefuse; (repeat' split) <;> simp [*]

@[simp] theorem otpAfter_pending (p : OtpPend) (s : State) : (otpAfter p s).pending = s.pending := by
  unfold otpAfter; (repeat' split) <;> simp [*]

@[simp] theorem ratchetBurn_pending (n : Nat) (s : State) : (ratchetBurn n s).pending = s.pending := by
  unfold ratchetBurn; (repeat' split) <;> simp [*]

@[simp] theorem lcStepBegin_pending (s : State) : (lcStepBegin s).pending = s.pending := by
  unfold lcStepBegin; (repeat' split) <;> simp [*]

@[simp] theorem lcStepGo_pending (auth : Nat) (s : State) : (lcStepGo auth s).pending = s.pending := by
  unfold lcStepGo; (repeat' split) <;> simp [*]

@[simp] theorem otpNext_pending (s : State) : (otpNext s).pending = s.pending := by
  unfold otpNext; (repeat' split) <;> simp [*]

@[simp] theorem scrubFinish_pending (k : Nat) (s : State) : (scrubFinish k s).pending = s.pending := by
  unfold scrubFinish; (repeat' split) <;> simp [*]

@[simp] theorem scrubMismatch_pending (k : Nat) (f : Frame) (s : State) : (scrubMismatch k f s).pending = s.pending := by
  unfold scrubMismatch; (repeat' split) <;> simp [*]

@[simp] theorem scrubStart_pending (k : Nat) (n : Nat) (s : State) : (scrubStart k n s).pending = s.pending := by
  induction n generalizing s with
  | zero => rfl
  | succ n ih => unfold scrubStart; dsimp only; (repeat' split) <;> simp [*]

@[simp] theorem scrubResult_pending (k : Nat) (f : Frame) (bad : List Nat) (s : State) : (scrubResult k f bad s).pending = s.pending := by
  unfold scrubResult; (repeat' split) <;> simp [*]

@[simp] theorem scrubOver_pending (k : Nat) (f : Frame) (ok : Bool) (data : Bytes) (s : State) : (scrubOver k f ok data s).pending = s.pending := by
  unfold scrubOver; (repeat' split) <;> simp [*]

@[simp] theorem startFrame_pending (k : Nat) (f : Frame) (s : State) : (startFrame k f s).pending = s.pending := by
  unfold startFrame; (repeat' split) <;> simp [*]

@[simp] theorem grantFrame_pending (k : Nat) (cl : Client) (s : State) : (grantFrame k cl s).pending = s.pending := by
  unfold grantFrame; dsimp only; (repeat' split) <;> simp [*]

@[simp] theorem sramWrite_pending (a : Nat) (b : Bytes) (s : State) : (sramWrite a b s).pending = s.pending := by
  unfold sramWrite; (repeat' split) <;> simp [*]

@[simp] theorem scatter_pending (l : List QEntry) (data : Bytes) (s : State) : (scatter l data s).pending = s.pending := by
  induction l generalizing data s with
  | nil => rfl
  | cons a r ih => unfold scatter; rw [ih]; simp

@[simp] theorem fwFrameDone_pending (k : Nat) (f : Frame) (st : Nat) (s : State) : (fwFrameDone k f st s).pending = s.pending := by
  unfold fwFrameDone; (repeat' split) <;> simp [*]

@[simp] theorem streamIn_pending (i : Nat) (f : Frame) (data : Bytes) (s : State) : (streamIn i f data s).pending = s.pending := by
  unfold streamIn; (repeat' split) <;> simp [*]

@[simp] theorem frameOver_pending (k : Nat) (f : Frame) (ok : Bool) (data : Bytes) (s : State) :
    (frameOver k f ok data s).pending = s.pending := by
  unfold frameOver
  dsimp only
  split <;> (repeat' split) <;> simp

@[simp] theorem calibrateOn_pending (k : Nat) (cal : Cal) (s : State) : (calibrateOn k cal s).pending = s.pending := by
  unfold calibrateOn; (repeat' split) <;> simp [*]

@[simp] theorem endPoll_pending (k dev : Nat) (s : State) : (endPoll k dev s).pending = s.pending := by
  unfold endPoll; (repeat' split) <;> simp [*]

@[simp] theorem replayCheck_pending (k : Nat) (s : State) : (replayCheck k s).pending = s.pending := by
  unfold replayCheck; dsimp only; (repeat' split) <;> simp [*]

@[simp] theorem partUp_pending (s : State) (p : Nat) : (partUp s p).pending = s.pending := by
  unfold partUp; (repeat' split) <;> simp [*]

@[simp] theorem epUp_pending (j : Nat) (s : State) : (epUp j s).pending = s.pending := by
  unfold epUp; (repeat' split) <;> simp [*]

@[simp] theorem epWaitEnd_pending (j : Nat) (s : State) : (epWaitEnd j s).pending = s.pending := by
  unfold epWaitEnd; (repeat' split) <;> simp [*]

@[simp] theorem emitAttested_pending (j : Nat) (kind result cause ver : Nat) (digest : Bytes) (s : State) : (emitAttested j kind result cause ver digest s).pending = s.pending := by
  unfold emitAttested; (repeat' split) <;> simp [*]

@[simp] theorem epFail_pending (cause : Nat) (digest : Bytes) (j : Nat) (s : State) : (epFail cause digest j s).pending = s.pending := by
  unfold epFail; (repeat' split) <;> simp [*]

@[simp] theorem epLift_pending (j : Nat) (s : State) : (epLift j s).pending = s.pending := by
  unfold epLift; dsimp only; (repeat' split) <;> simp [*]

@[simp] theorem escalateEp_pending (j : Nat) (s : State) : (escalateEp j s).pending = s.pending := by
  unfold escalateEp; (repeat' split) <;> simp [*]

@[simp] theorem attEnd_pending (cause : Nat) (digest : Bytes) (j : Nat) (s : State) : (attEnd cause digest j s).pending = s.pending := by
  unfold attEnd; dsimp only; (repeat' split) <;> simp [*]

@[simp] theorem upAtt_pending (j : Nat) (f : Att → Att) (s : State) : (upAtt j f s).pending = s.pending := by
  unfold upAtt; (repeat' split) <;> simp [*]

@[simp] theorem drawNonce_pending (j : Nat) (s : State) : (drawNonce j s).pending = s.pending := by
  unfold drawNonce; (repeat' split) <;> simp [*]

@[simp] theorem spdmNext_pending (t : SpdmStep) (j : Nat) (s : State) : (spdmNext t j s).pending = s.pending := by
  unfold spdmNext; (repeat' split) <;> simp [*]

@[simp] theorem epFirmware_pending (j : Nat) (s : State) : (epFirmware j s).pending = s.pending := by
  unfold epFirmware; dsimp only; (repeat' split) <;> simp [*]

@[simp] theorem upPart_pending (p : Nat) (f : Part → Part) (s : State) : (upPart p f s).pending = s.pending := by
  unfold upPart; (repeat' split) <;> simp [*]

@[simp] theorem sliceFault_pending (b i : Nat) (s : State) : (sliceFault b i s).pending = s.pending := by
  unfold sliceFault; dsimp only; (repeat' split) <;> simp [*]

@[simp] theorem dispatchTlp_pending (i e : Nat) (t : Tlp) (s : State) : (dispatchTlp i e t s).pending = s.pending := by
  unfold dispatchTlp; (repeat' split) <;> simp [*]

@[simp] theorem deliverDue_pending (s : State) : (deliverDue s).pending = s.pending := by
  unfold deliverDue; (repeat' split) <;> simp [*]

@[simp] theorem forwardTlp_pending (i e : Nat) (t : Tlp) (s : State) : (forwardTlp i e t s).1.pending = s.pending := by
  unfold forwardTlp; (repeat' split) <;> simp [*]

@[simp] theorem away_pending (q : Nat) (k : TlpKind) (s : State) : (away q k s).1.pending = s.pending := by
  unfold away; (repeat' split) <;> simp [*]

@[simp] theorem mctpTrack_pending (p : Nat) (t : Tlp) (s : State) : (mctpTrack p t s).pending = s.pending := by
  unfold mctpTrack; (repeat' split) <;> simp [*]

@[simp] theorem awayAt_pending (i p : Nat) (t : Tlp) (s : State) : (awayAt i p t s).1.pending = s.pending := by
  unfold awayAt; (repeat' split) <;> simp [*]

@[simp] theorem routeTlp_pending (i p : Nat) (t : Tlp) (s : State) : (routeTlp i p t s).1.pending = s.pending := by
  unfold routeTlp; (repeat' split) <;> simp [*]

@[simp] theorem violEscalate_pending (j p : Nat) (s : State) : (violEscalate j p s).pending = s.pending := by
  unfold violEscalate; dsimp only; (repeat' split) <;> simp [*]

@[simp] theorem violate_pending (j q p : Nat) (k : Viol) (t : Tlp) (s : State) : (violate j q p k t s).1.pending = s.pending := by
  unfold violate; (repeat' split) <;> simp [*]

@[simp] theorem medTake_pending (port i : Nat) (t : Tlp) (s : State) : (medTake port i t s).pending = s.pending := by
  unfold medTake; (repeat' split) <;> simp [*]

@[simp] theorem endpointTlp_pending (j q p : Nat) (t : Tlp) (s : State) : (endpointTlp j q p t s).1.pending = s.pending := by
  unfold endpointTlp; (repeat' split) <;> simp [*]

@[simp] theorem hostTlp_pending (p : Nat) (t : Tlp) (s : State) : (hostTlp p t s).1.pending = s.pending := by
  unfold hostTlp; (repeat' split) <;> simp [*]

@[simp] theorem armReady_pending (p : Nat) (s : State) : (armReady p s).pending = s.pending := by
  unfold armReady; (repeat' split) <;> simp [*]

@[simp] theorem armBegin_pending (p src : Nat) (s : State) : (armBegin p src s).pending = s.pending := by
  unfold armBegin; (repeat' split) <;> simp [*]

@[simp] theorem upMed_pending (port : Nat) (f : Mediation → Mediation) (s : State) : (upMed port f s).pending = s.pending := by
  unfold upMed; (repeat' split) <;> simp [*]

@[simp] theorem activateReady_pending (port : Nat) (s : State) : (activateReady port s).pending = s.pending := by
  simp [activateReady]

@[simp] theorem medForward_pending (m : MedPkt) (s : State) : (medForward m s).1.pending = s.pending := by
  unfold medForward; (repeat' split) <;> simp [*]

@[simp] theorem medEnq_pending (m : MedPkt) (s : State) : (medEnq m s).pending = s.pending := by
  unfold medEnq; (repeat' split) <;> simp [*]

@[simp] theorem resubmitAll_pending (s : State) : (resubmitAll s).pending = s.pending := by
  unfold resubmitAll
  rw [foldl_pending]
  · simp
  · intro s w
    split <;> simp

@[simp] theorem escalateAll_pending (s : State) : (escalateAll s).pending = s.pending := by
  unfold escalateAll
  rw [foldl_pending]
  · simp
  · intro s e
    simp

@[simp] theorem ringResume_pending (s : State) : (ringResume s).pending = s.pending := by
  unfold ringResume; dsimp only; (repeat' split) <;> simp [*]

@[simp] theorem wdtCtrlWrite_pending (v : BitVec 32) (s : State) : (wdtCtrlWrite v s).pending = s.pending := by
  unfold wdtCtrlWrite; (repeat' split) <;> simp [*]

@[simp] theorem wdtCapture_pending (cause : Nat) (pc : BitVec 64) (s : State) : (wdtCapture cause pc s).pending = s.pending := by
  unfold wdtCapture; (repeat' split) <;> simp [*]

@[simp] theorem upSig_pending (e : Bool) (f : SigEng → SigEng) (s : State) : (upSig e f s).pending = s.pending := by
  unfold upSig; (repeat' split) <;> simp [*]

@[simp] theorem sigRemove_pending (e : Bool) (s : State) : (sigRemove e s).pending = s.pending := by
  unfold sigRemove; (repeat' split) <;> simp [*]

@[simp] theorem applyWrite_pending (p : PolicyImage) (r : PresentRec) (j : JEntry) (s : State) : (applyWrite p r j s).pending = s.pending := by
  unfold applyWrite; (repeat' split) <;> simp [*]

@[simp] theorem brStore_pending (epoch : Nat) (b : Bytes) (s : State) : (brStore epoch b s).pending = s.pending := by
  unfold brStore; (repeat' split) <;> simp [*]

@[simp] theorem cbusLost_pending (i : Nat) (r : CbusRec) (s : State) : (cbusLost i r s).pending = s.pending := by
  unfold cbusLost; dsimp only; (repeat' split) <;> simp [*]

@[simp] theorem tokenAct_pending (t : Token) (s : State) : (tokenAct t s).pending = s.pending := by
  unfold tokenAct; (repeat' split) <;> simp [*]

@[simp] theorem newChallenge_pending (s : State) : (newChallenge s).pending = s.pending := by
  unfold newChallenge; (repeat' split) <;> simp [*]

@[simp] theorem mbxFinish_pending (b : Bool) (result : Nat) (s : State) : (mbxFinish b result s).pending = s.pending := by
  unfold mbxFinish; (repeat' split) <;> simp [*]

@[simp] theorem tripClear_pending (s : State) : (tripClear s).pending = s.pending := by
  unfold tripClear; (repeat' split) <;> simp [*]

@[simp] theorem exportFree_pending (i : Nat) (s : State) : (exportFree i s).pending = s.pending := by
  unfold exportFree
  dsimp only
  split
  · rw [foldl_pending]
    intro s k
    split <;> simp
  · rw [emit_pending, foldl_pending]
    intro s k
    split <;> simp

@[simp] theorem ackAccept_pending (i : Nat) (s : State) : (ackAccept i s).pending = s.pending := by
  unfold ackAccept; (repeat' split) <;> simp [*]

@[simp] theorem ackEnd_pending (b : Bool) (chain : Option Bytes) (s : State) : (ackEnd b chain s).pending = s.pending := by
  unfold ackEnd; (repeat' split) <;> simp [*]

@[simp] theorem gateEffect_pending (g : Gate) (s : State) : (gateEffect g s).pending = s.pending := by
  cases g <;> simp [gateEffect]

@[simp] theorem writeWaiting_pending (s : State) : (writeWaiting s).pending = s.pending := by
  unfold writeWaiting; dsimp only; (repeat' split) <;> simp [*]

@[simp] theorem writeAllWaiting_pending (s : State) : (writeAllWaiting s).pending = s.pending := by
  unfold writeAllWaiting; (repeat' split) <;> simp [*]

@[simp] theorem journalCmdEntry_pending (j : RingCmd) (body : Bytes) (s : State) : (journalCmdEntry j body s).pending = s.pending := by
  unfold journalCmdEntry; (repeat' split) <;> simp [*]

@[simp] theorem holdCmd_pending (p g : Nat) (e : Bytes) (s : State) : (holdCmd p g e s).pending = s.pending := by
  unfold holdCmd; (repeat' split) <;> simp [*]

@[simp] theorem accessEnd_pending (p g : Nat) (u : AccessUse) (s : State) : (accessEnd p g u s).pending = s.pending := by
  unfold accessEnd; (repeat' split) <;> simp [*]

@[simp] theorem queueFails_pending (p g : Nat) (s : State) : (queueFails p g s).pending = s.pending := by
  unfold queueFails; (repeat' split) <;> simp [*]

@[simp] theorem accessFail_pending (p g : Nat) (u : AccessUse) (s : State) : (accessFail p g u s).pending = s.pending := by
  unfold accessFail; dsimp only; (repeat' split) <;> simp [*]

@[simp] theorem vectorSend_pending (p v : Nat) (s : State) : (vectorSend p v s).1.pending = s.pending := by
  unfold vectorSend; (repeat' split) <;> simp [*]

@[simp] theorem destroyFirst_pending (p g : Nat) (s : State) : (destroyFirst p g s).pending = s.pending := by
  unfold destroyFirst; (repeat' split) <;> simp [*]

@[simp] theorem sqDoorbellGo_pending (p : BitVec 2) (g : BitVec 18) (value : BitVec 32) (bound : Bool) (s : State) : (sqDoorbellGo p g value bound s).pending = s.pending := by
  unfold sqDoorbellGo; dsimp only; (repeat' split) <;> simp [*]

@[simp] theorem cqDoorbellGo_pending (p : BitVec 2) (g : BitVec 18) (value : BitVec 32) (bound : Bool) (s : State) : (cqDoorbellGo p g value bound s).pending = s.pending := by
  unfold cqDoorbellGo; dsimp only; (repeat' split) <;> simp [*]

@[simp] theorem takeSealNo_pending (s : State) : (takeSealNo s).pending = s.pending := by
  unfold takeSealNo; (repeat' split) <;> simp [*]

@[simp] theorem fetchGood_pending (p g : Nat) (r : Ring) (f : Fetched) (s : State) : (fetchGood p g r f s).pending = s.pending := by
  unfold fetchGood; dsimp only; (repeat' split) <;> simp [*]

@[simp] theorem fetchBad_pending (p g : Nat) (r : Ring) (f : Fetched) (status : Nat) (s : State) : (fetchBad p g r f status s).pending = s.pending := by
  unfold fetchBad; (repeat' split) <;> simp [*]

@[simp] theorem fetchTaken_pending (p g : Nat) (s : State) : (fetchTaken p g s).pending = s.pending := by
  unfold fetchTaken; (repeat' split) <;> simp [*]

@[simp] theorem againEnd_pending (j : RingCmd) (status : Nat) (result : Bytes) (out : List (Nat × Bytes)) (s : State) : (againEnd j status result out s).pending = s.pending := by
  unfold againEnd; (repeat' split) <;> simp [*]

@[simp] theorem completionWritten_pending (p g : Nat) (j : RingCmd) (s : State) : (completionWritten p g j s).pending = s.pending := by
  unfold completionWritten; (repeat' split) <;> simp [*]

@[simp] theorem upAdm_pending (p a : Nat) (f : AdmRegs → AdmRegs) (s : State) : (upAdm p a f s).pending = s.pending := by
  unfold upAdm; (repeat' split) <;> simp [*]

@[simp] theorem admWrite_pending (p a : Nat) (v : BitVec 32) (s : State) : (admWrite p a v s).pending = s.pending := by
  unfold admWrite; dsimp only; (repeat' split) <;> simp [*]

@[simp] theorem writeCfg_pending (p : Nat) (r : CfgReg) (v : BitVec 32) (s : State) : (writeCfg p r v s).pending = s.pending := by
  unfold writeCfg; (repeat' split) <;> simp [*]

@[simp] theorem mbxGo_pending (b : Bool) (s : State) : (mbxGo b s).pending = s.pending := by
  unfold mbxGo; dsimp only; (repeat' split) <;> simp [*]

@[simp] theorem writeMailbox_pending (b : Bool) (a : Nat) (w : BitVec 32) (s : State) : (writeMailbox b a w s).pending = s.pending := by
  unfold writeMailbox; (repeat' split) <;> simp [*]

@[simp] theorem writeBar0_pending (p a : Nat) (v : BitVec 32) (s : State) : (writeBar0 p a v s).pending = s.pending := by
  unfold writeBar0; dsimp only; (repeat' split) <;> simp [*]

@[simp] theorem writeBar_pending (n p a len : Nat) (v : BitVec 32) (s : State) : (writeBar n p a len v s).pending = s.pending := by
  unfold writeBar; (repeat' split) <;> simp [*]

@[simp] theorem writeMsix8_pending (p a : Nat) (low high : BitVec 32) (s : State) : (writeMsix8 p a low high s).pending = s.pending := by
  unfold writeMsix8; (repeat' split) <;> simp [*]

@[simp] theorem writeMordant_pending (a : Nat) (v : BitVec 32) (s : State) : (writeMordant a v s).pending = s.pending := by
  unfold writeMordant; (repeat' split) <;> simp [*]

@[simp] theorem writeChan_pending (k a : Nat) (v : BitVec 32) (s : State) : (writeChan k a v s).pending = s.pending := by
  unfold writeChan; (repeat' split) <;> simp [*]

@[simp] theorem writeOtpc_pending (a : Nat) (v : BitVec 32) (s : State) : (writeOtpc a v s).pending = s.pending := by
  unfold writeOtpc; dsimp only; (repeat' split) <;> simp [*]

@[simp] theorem writeSig_pending (e : Bool) (a : Nat) (v : BitVec 32) (s : State) : (writeSig e a v s).pending = s.pending := by
  unfold writeSig; dsimp only; (repeat' split) <;> simp [*]

@[simp] theorem writeSic_pending (a : Nat) (v : BitVec 32) (s : State) : (writeSic a v s).pending = s.pending := by
  unfold writeSic; (repeat' split) <;> simp [*]

@[simp] theorem writeWdt_pending (a : Nat) (v : BitVec 32) (s : State) : (writeWdt a v s).pending = s.pending := by
  unfold writeWdt; (repeat' split) <;> simp [*]

@[simp] theorem writeDga_pending (a : Nat) (v : BitVec 32) (s : State) : (writeDga a v s).pending = s.pending := by
  unfold writeDga; (repeat' split) <;> simp [*]

@[simp] theorem writeGate_pending (a : Nat) (v : BitVec 32) (s : State) : (writeGate a v s).pending = s.pending := by
  unfold writeGate; (repeat' split) <;> simp [*]

@[simp] theorem writeBlock_pending (n a : Nat) (v : BitVec 32) (s : State) : (writeBlock n a v s).pending = s.pending := by
  unfold writeBlock; (repeat' split) <;> simp [*]

@[simp] theorem lakeReqFail_pending (q : LakeReq) (s : State) : (lakeReqFail q s).pending = s.pending := by
  unfold lakeReqFail; (repeat' split) <;> simp [*]

@[simp] theorem lakeOut_pending (s : State) : (lakeOut s).pending = s.pending := by
  unfold lakeOut; dsimp only; (repeat' split) <;> simp [*]

@[simp] theorem lakeRemove_pending (n : Nat) (s : State) : (lakeRemove n s).pending = s.pending := by
  unfold lakeRemove; (repeat' split) <;> simp [*]

@[simp] theorem lakeReqGo_pending (q : LakeReq) (s : State) : (lakeReqGo q s).pending = s.pending := by
  unfold lakeReqGo; (repeat' split) <;> simp [*]

@[simp] theorem csfHostRead_pending (p : Nat) (t : Tlp) (s : State) : (csfHostRead p t s).1.pending = s.pending := by
  unfold csfHostRead; (repeat' split) <;> simp [*]

@[simp] theorem nvmeEffect_pending (back : List DriveBlock) (u : NvmeUse) (s : State) : (nvmeEffect back u s).pending = s.pending := by
  unfold nvmeEffect; (repeat' split) <;> simp [*]

@[simp] theorem nvmeFail_pending (s : State) : (nvmeFail s).pending = s.pending := by
  unfold nvmeFail; (repeat' split) <;> simp [*]

@[simp] theorem frameAbandon_pending (k : Nat) (cl : Client) (s : State) : (frameAbandon k cl s).pending = s.pending := by
  unfold frameAbandon; (repeat' split) <;> simp [*]

@[simp] theorem restartStream_pending (k : Nat) (s : State) : (restartStream k s).pending = s.pending := by
  unfold restartStream; (repeat' split) <;> simp [*]

@[simp] theorem medLost_pending (port : Nat) (s : State) : (medLost port s).pending = s.pending := by
  unfold medLost; (repeat' split) <;> simp [*]

@[simp] theorem unitsAfter_pending (t : SelfTest) (s : State) : (unitsAfter t s).pending = s.pending := by
  unfold unitsAfter; (repeat' split) <;> simp [*]

@[simp] theorem unitsScanned_pending (s : State) : (unitsScanned s).pending = s.pending := by
  unfold unitsScanned; (repeat' split) <;> simp [*]

@[simp] theorem romFloor_pending (cause : Nat) (s : State) : (romFloor cause s).pending = s.pending := by
  unfold romFloor; (repeat' split) <;> simp [*]

@[simp] theorem romFuses_pending (t : SelfTest) (s : State) : (romFuses t s).pending = s.pending := by
  unfold romFuses; (repeat' split) <;> simp [*]

@[simp] theorem romTake_pending (slot : Bool) (b : Bundle) (s : State) : (romTake slot b s).pending = s.pending := by
  unfold romTake; dsimp only; (repeat' split) <;> simp [*]

@[simp] theorem romSlot_pending (t : SelfTest) (slot : Bool) (s : State) : (romSlot t slot s).pending = s.pending := by
  unfold romSlot; dsimp only; (repeat' split) <;> simp [*]

@[simp] theorem romPolicy_pending (t : SelfTest) (s : State) : (romPolicy t s).pending = s.pending := by
  unfold romPolicy; (repeat' split) <;> simp [*]

@[simp] theorem romNoPolicy_pending (s : State) : (romNoPolicy s).pending = s.pending := by
  unfold romNoPolicy; (repeat' split) <;> simp [*]

@[simp] theorem tickTimer_pending (s : State) : (tickTimer s).pending = s.pending := by
  unfold tickTimer; (repeat' split) <;> simp [*]

@[simp] theorem tickWdt_pending (s : State) : (tickWdt s).pending = s.pending := by
  unfold tickWdt; (repeat' split) <;> simp [*]

end Sys2Proof.Machine
end

