-- ==== Sys2Proof/Laws/FrameVault.lean ====
section
/-! SUPPORT. Frame lemmas of the Vault and its drive: one simp lemma for each shared operation of Machine/*.lean
that never writes `State.vault`, so that a proof about a command reads the field through the
operation without unfolding it. An operation without a lemma here may write the field. -/

namespace Sys2Proof.Machine

open Sys2Proof

set_option linter.unusedSimpArgs false
set_option linter.unusedTactic false
set_option linter.unnecessarySeqFocus false
set_option linter.unreachableTactic false
set_option linter.unusedVariables false

@[simp] theorem each_vault (l : List Nat) (f : Nat → State → State) (s : State) (h : ∀ n s, (f n s).vault = s.vault) :
    (each l f s).vault = s.vault := by
  unfold each
  induction l generalizing s with
  | nil => rfl
  | cons a r ih => simp [ih, h]

@[simp] theorem foldl_vault {α : Type} (l : List α) (f : State → α → State) (s : State) (h : ∀ s n, (f s n).vault = s.vault) :
    (l.foldl f s).vault = s.vault := by
  induction l generalizing s with
  | nil => rfl
  | cons a r ih => simp [ih, h]

@[simp] theorem gated_vault (code src : Nat) (body : Bytes) (g : Gate) (eff : State → State) (s : State)
    (h : ∀ s, (eff s).vault = s.vault) : (gated code src body g eff s).vault = s.vault := by
  unfold gated
  dsimp only
  (repeat' split) <;> simp [h]

@[simp] theorem say_vault (r : Reply) (s : State) : (say r s).vault = s.vault := by
  unfold say; (repeat' split) <;> simp [*]

@[simp] theorem drawn_vault (s : State) : (drawn s).vault = s.vault := by
  unfold drawn; (repeat' split) <;> simp [*]

@[simp] theorem emit_vault (code src : Nat) (body : Bytes) (s : State) : (emit code src body s).vault = s.vault := by
  unfold emit; (repeat' split) <;> simp [*]

@[simp] theorem emitFw_vault (code : Nat) (body : Bytes) (s : State) : (emitFw code body s).vault = s.vault := by
  unfold emitFw; (repeat' split) <;> simp [*]

@[simp] theorem setPair_vault (k : Nat) (v : BitVec 32) (s : State) : (setPair k v s).vault = s.vault := by
  unfold setPair; (repeat' split) <;> simp [*]

@[simp] theorem upImg_vault (k : Nat) (f : Img → Img) (s : State) : (upImg k f s).vault = s.vault := by
  unfold upImg; (repeat' split) <;> simp [*]

@[simp] theorem upChan_vault (k : Nat) (f : Channel → Channel) (s : State) : (upChan k f s).vault = s.vault := by
  unfold upChan; (repeat' split) <;> simp [*]

@[simp] theorem upEm_vault (k : Nat) (f : EmDev → EmDev) (s : State) : (upEm k f s).vault = s.vault := by
  unfold upEm; (repeat' split) <;> simp [*]

@[simp] theorem upPort_vault (k : Nat) (f : Port → Port) (s : State) : (upPort k f s).vault = s.vault := by
  unfold upPort; (repeat' split) <;> simp [*]

@[simp] theorem domProtoReset_vault (d : Nat) (s : State) : (domProtoReset d s).vault = s.vault := by
  unfold domProtoReset; (repeat' split) <;> simp [*]

@[simp] theorem upEp_vault (j : Nat) (f : Ep → Ep) (s : State) : (upEp j f s).vault = s.vault := by
  unfold upEp; (repeat' split) <;> simp [*]

@[simp] theorem upCbus_vault (i : Nat) (f : CbusComp → CbusComp) (s : State) : (upCbus i f s).vault = s.vault := by
  unfold upCbus; (repeat' split) <;> simp [*]

@[simp] theorem aerReport_vault (port n : Nat) (s : State) : (aerReport port n s).vault = s.vault := by
  unfold aerReport; (repeat' split) <;> simp [*]

@[simp] theorem dropHeld_vault (port : Nat) (s : State) : (dropHeld port s).vault = s.vault := by
  unfold dropHeld; (repeat' split) <;> simp [*]

@[simp] theorem endMediation_vault (port : Nat) (s : State) : (endMediation port s).vault = s.vault := by
  unfold endMediation; (repeat' split) <;> simp [*]

@[simp] theorem linkDrop_vault (port : Nat) (s : State) : (linkDrop port s).vault = s.vault := by
  unfold linkDrop; (repeat' split) <;> simp [*]

@[simp] theorem epUnvat_vault (j : Nat) (s : State) : (epUnvat j s).vault = s.vault := by
  unfold epUnvat; (repeat' split) <;> simp [*]

@[simp] theorem epSealIt_vault (j : Nat) (s : State) : (epSealIt j s).vault = s.vault := by
  unfold epSealIt; (repeat' split) <;> simp [*]

@[simp] theorem startRecheck_vault (k : AttKind) (j : Nat) (s : State) : (startRecheck k j s).vault = s.vault := by
  unfold startRecheck; (repeat' split) <;> simp [*]

@[simp] theorem emitContained_vault (j : Nat) (s : State) : (emitContained j s).vault = s.vault := by
  unfold emitContained; (repeat' split) <;> simp [*]

@[simp] theorem epContain_vault (f : Causes → Causes) (j : Nat) (s : State) : (epContain f j s).vault = s.vault := by
  unfold epContain; (repeat' split) <;> simp [*]

@[simp] theorem epRecheck_vault (f : Causes → Causes) (wait : Bool) (j : Nat) (s : State) : (epRecheck f wait j s).vault = s.vault := by
  unfold epRecheck; (repeat' split) <;> simp [*]

@[simp] theorem epChanged_vault (digest : Bytes) (j : Nat) (s : State) : (epChanged digest j s).vault = s.vault := by
  unfold epChanged; (repeat' split) <;> simp [*]

@[simp] theorem epRefuse_vault (j : Nat) (s : State) : (epRefuse j s).vault = s.vault := by
  unfold epRefuse; (repeat' split) <;> simp [*]

@[simp] theorem epOpen_vault (j : Nat) (s : State) : (epOpen j s).vault = s.vault := by
  unfold epOpen; dsimp only; (repeat' split) <;> simp [*]

@[simp] theorem heldRecord_vault (d cause : Nat) (final : Bool) (s : State) : (heldRecord d cause final s).vault = s.vault := by
  unfold heldRecord; (repeat' split) <;> simp [*]

@[simp] theorem clearSlots_vault (d : Nat) (s : State) : (clearSlots d s).vault = s.vault := by
  unfold clearSlots; (repeat' split) <;> simp [*]

@[simp] theorem imgAgain_vault (k : Nat) (s : State) : (imgAgain k s).vault = s.vault := by
  unfold imgAgain; (repeat' split) <;> simp [*]

@[simp] theorem domUnslot_vault (d : Nat) (s : State) : (domUnslot d s).vault = s.vault := by
  unfold domUnslot; (repeat' split) <;> simp [*]

@[simp] theorem domLost_vault (d : Nat) (s : State) : (domLost d s).vault = s.vault := by
  unfold domLost; (repeat' split) <;> simp [*]

@[simp] theorem holdDom_vault (cause : Nat) (final : Bool) (d : Nat) (s : State) : (holdDom cause final d s).vault = s.vault := by
  unfold holdDom; (repeat' split) <;> simp [*]

@[simp] theorem cascade_vault  (n : Nat) (s : State) : (cascade  n s).vault = s.vault := by
  induction n generalizing s with
  | zero => rfl
  | succ n ih => unfold cascade; dsimp only; (repeat' split) <;> simp [*]

@[simp] theorem markFinal_vault (cause d : Nat) (s : State) : (markFinal cause d s).vault = s.vault := by
  unfold markFinal; (repeat' split) <;> simp [*]

@[simp] theorem holdFinal_vault (cause d : Nat) (s : State) : (holdFinal cause d s).vault = s.vault := by
  unfold holdFinal; (repeat' split) <;> simp [*]

@[simp] theorem finalCascade_vault  (n : Nat) (s : State) : (finalCascade  n s).vault = s.vault := by
  induction n generalizing s with
  | zero => rfl
  | succ n ih => unfold finalCascade; dsimp only; (repeat' split) <;> simp [*]

@[simp] theorem epRelease_vault (d j : Nat) (s : State) : (epRelease d j s).vault = s.vault := by
  unfold epRelease; (repeat' split) <;> simp [*]

@[simp] theorem releaseDom_vault (d : Nat) (s : State) : (releaseDom d s).vault = s.vault := by
  unfold releaseDom; (repeat' split) <;> simp [*]

@[simp] theorem interlock_vault  (n : Nat) (s : State) : (interlock  n s).vault = s.vault := by
  induction n generalizing s with
  | zero => rfl
  | succ n ih => unfold interlock; dsimp only; (repeat' split) <;> simp [*]

@[simp] theorem vioHold_vault (s : State) : (vioHold s).vault = s.vault := by
  unfold vioHold; (repeat' split) <;> simp [*]

@[simp] theorem vatWithdraw_vault (s : State) : (vatWithdraw s).vault = s.vault := by
  unfold vatWithdraw; (repeat' split) <;> simp [*]

@[simp] theorem vatRelease_vault (s : State) : (vatRelease s).vault = s.vault := by
  unfold vatRelease
  apply each_vault
  intro j s
  try dsimp only
  split <;> simp

@[simp] theorem vatGrant_vault (s : State) : (vatGrant s).vault = s.vault := by
  unfold vatGrant; (repeat' split) <;> simp [*]

@[simp] theorem recheckGo_vault (s : State) : (recheckGo s).vault = s.vault := by
  unfold recheckGo; (repeat' split) <;> simp [*]

@[simp] theorem phaseStep_vault (s : State) : (phaseStep s).vault = s.vault := by
  unfold phaseStep; (repeat' split) <;> simp [*]

@[simp] theorem brClose_vault (s : State) : (brClose s).vault = s.vault := by
  unfold brClose; (repeat' split) <;> simp [*]

@[simp] theorem lateAnswer_vault (b : Bool) (cmd flags result : Nat) (body : Bytes) (s : State) : (lateAnswer b cmd flags result body s).vault = s.vault := by
  unfold lateAnswer; (repeat' split) <;> simp [*]

@[simp] theorem alertBoth_vault (s : State) : (alertBoth s).vault = s.vault := by
  unfold alertBoth; (repeat' split) <;> simp [*]

@[simp] theorem tempAlert_vault (s : State) : (tempAlert s).vault = s.vault := by
  unfold tempAlert; (repeat' split) <;> simp [*]

@[simp] theorem highAlert_vault (s : State) : (highAlert s).vault = s.vault := by
  unfold highAlert; (repeat' split) <;> simp [*]

@[simp] theorem tripDom_vault (d : Nat) (s : State) : (tripDom d s).vault = s.vault := by
  unfold tripDom; dsimp only; (repeat' split) <;> simp [*]

@[simp] theorem tripGate_vault (s : State) : (tripGate s).vault = s.vault := by
  unfold tripGate; (repeat' split) <;> simp [*]

@[simp] theorem wdtServed_vault (s : State) : (wdtServed s).vault = s.vault := by
  unfold wdtServed; (repeat' split) <;> simp [*]

@[simp] theorem mordantWrite_vault (f : State → State) (s : State) (h : ∀ s, (f s).vault = s.vault) : (mordantWrite f s).vault = s.vault := by
  unfold mordantWrite
  split
  · exact h s
  · simp

@[simp] theorem fwAdvance_vault (k : Nat) (n : Nat) (s : State) : (fwAdvance k n s).vault = s.vault := by
  induction n generalizing s with
  | zero => rfl
  | succ n ih => unfold fwAdvance; dsimp only; (repeat' split) <;> simp [*]

@[simp] theorem grantEnd_vault (s : State) : (grantEnd s).vault = s.vault := by
  unfold grantEnd; (repeat' split) <;> simp [*]

@[simp] theorem imgFinal_vault (cause slot : Nat) (s : State) : (imgFinal cause slot s).vault = s.vault := by
  unfold imgFinal; (repeat' split) <;> simp [*]

@[simp] theorem chanLost_vault (k : Nat) (s : State) : (chanLost k s).vault = s.vault := by
  unfold chanLost; (repeat' split) <;> simp [*]

@[simp] theorem failStreams_vault (k : Nat) (s : State) : (failStreams k s).vault = s.vault := by
  unfold failStreams; (repeat' split) <;> simp [*]

@[simp] theorem commitLeave_vault (k : Nat) (s : State) : (commitLeave k s).vault = s.vault := by
  unfold commitLeave; (repeat' split) <;> simp [*]

@[simp] theorem fillStop_vault (k : Nat) (s : State) : (fillStop k s).vault = s.vault := by
  unfold fillStop; (repeat' split) <;> simp [*]

@[simp] theorem chanStop_vault (k : Nat) (s : State) : (chanStop k s).vault = s.vault := by
  unfold chanStop; dsimp only; (repeat' split) <;> simp [*]

@[simp] theorem bankStop_vault (k : Nat) (s : State) : (bankStop k s).vault = s.vault := by
  unfold bankStop; (repeat' split) <;> simp [*]

@[simp] theorem chanFail_vault (k : Nat) (s : State) : (chanFail k s).vault = s.vault := by
  unfold chanFail; (repeat' split) <;> simp [*]

@[simp] theorem portFail_vault (k : Nat) (s : State) : (portFail k s).vault = s.vault := by
  unfold portFail; (repeat' split) <;> simp [*]

@[simp] theorem commitKeep_vault (k : Nat) (s : State) : (commitKeep k s).vault = s.vault := by
  unfold commitKeep; dsimp only; (repeat' split) <;> simp [*]

@[simp] theorem commitRead_vault (k : Nat) (f : Frame) (data : Bytes) (s : State) : (commitRead k f data s).vault = s.vault := by
  unfold commitRead; (repeat' split) <;> simp [*]

@[simp] theorem commitHalt_vault (k : Nat) (s : State) : (commitHalt k s).vault = s.vault := by
  unfold commitHalt; dsimp only; (repeat' split) <;> simp [*]

@[simp] theorem commitRetire_vault (k : Nat) (s : State) : (commitRetire k s).vault = s.vault := by
  unfold commitRetire; (repeat' split) <;> simp [*]

@[simp] theorem chanReady_vault (k : Nat) (s : State) : (chanReady k s).vault = s.vault := by
  unfold chanReady; (repeat' split) <;> simp [*]

@[simp] theorem escalateLater_vault (src scope : Nat) (doms : List Nat) (s : State) : (escalateLater src scope doms s).vault = s.vault := by
  unfold escalateLater; (repeat' split) <;> simp [*]

@[simp] theorem lakeOutHold_vault (s : State) : (lakeOutHold s).vault = s.vault := by
  unfold lakeOutHold; dsimp only; (repeat' split) <;> simp [*]

@[simp] theorem cfgTouch_vault (addr len : Nat) (s : State) : (cfgTouch addr len s).vault = s.vault := by
  unfold cfgTouch; (repeat' split) <;> simp [*]

@[simp] theorem dgaServe_vault (s : State) : (dgaServe s).vault = s.vault := by
  unfold dgaServe; (repeat' split) <;> simp [*]

@[simp] theorem upRing_vault (p g : Nat) (f : Ring → Ring) (s : State) : (upRing p g f s).vault = s.vault := by
  unfold upRing; (repeat' split) <;> simp [*]

@[simp] theorem ringErrorRecord_vault (p cause ring : Nat) (s : State) : (ringErrorRecord p cause ring s).vault = s.vault := by
  unfold ringErrorRecord; (repeat' split) <;> simp [*]

@[simp] theorem capsulesEnd_vault (q : Nat → Nat → Bool) (s : State) : (capsulesEnd q s).vault = s.vault := by
  unfold capsulesEnd; (repeat' split) <;> simp [*]

@[simp] theorem ringUnsubmit_vault (p g : Nat) (s : State) : (ringUnsubmit p g s).vault = s.vault := by
  unfold ringUnsubmit; (repeat' split) <;> simp [*]

@[simp] theorem ledgerExtend_vault (j : RingCmd) (s : State) : (ledgerExtend j s).vault = s.vault := by
  unfold ledgerExtend; (repeat' split) <;> simp [*]

@[simp] theorem counterIncrement_vault (h : Nat) (s : State) : (counterIncrement h s).vault = s.vault := by
  unfold counterIncrement; (repeat' split) <;> simp [*]

@[simp] theorem ringCreate_vault (p g depthLog2 sq cq tenant vector : Nat) (s : State) : (ringCreate p g depthLog2 sq cq tenant vector s).vault = s.vault := by
  unfold ringCreate; (repeat' split) <;> simp [*]

@[simp] theorem quotaSet_vault (q : Quota) (s : State) : (quotaSet q s).vault = s.vault := by
  unfold quotaSet; (repeat' split) <;> simp [*]

@[simp] theorem objAlloc_vault (counters : Bool) (r : Run) (s : State) : (objAlloc counters r s).vault = s.vault := by
  unfold objAlloc; (repeat' split) <;> simp [*]

@[simp] theorem objRelease_vault (counters : Bool) (r : Run) (s : State) : (objRelease counters r s).vault = s.vault := by
  unfold objRelease; (repeat' split) <;> simp [*]

@[simp] theorem batchClose_vault (s : State) : (batchClose s).vault = s.vault := by
  unfold batchClose; (repeat' split) <;> simp [*]

@[simp] theorem epHot_vault (j : Nat) (s : State) : (epHot j s).vault = s.vault := by
  unfold epHot; dsimp only; (repeat' split) <;> simp [*]

@[simp] theorem partHot_vault (p : Nat) (s : State) : (partHot p s).vault = s.vault := by
  unfold partHot; (repeat' split) <;> simp [*]

@[simp] theorem dropPart_vault (p : Nat) (s : State) : (dropPart p s).vault = s.vault := by
  unfold dropPart; (repeat' split) <;> simp [*]

@[simp] theorem upstreamDown_vault (p : Nat) (s : State) : (upstreamDown p s).vault = s.vault := by
  unfold upstreamDown; (repeat' split) <;> simp [*]

@[simp] theorem workWrite_vault (a : Nat) (b : Bytes) (s : State) : (workWrite a b s).vault = s.vault := by
  unfold workWrite
  rw [upLake_vault, upSc_vault]

@[simp] theorem workPut_vault (a : Nat) (b : Bytes) (s : State) : (workPut a b s).vault = s.vault := by
  simp [workPut, apply_ite State.vault]

@[simp] theorem lakeStore_vault (base : Nat) (cells : List (Nat × Byte)) (s : State) : (lakeStore base cells s).vault = s.vault := by
  unfold lakeStore; (repeat' split) <;> simp [*]

@[simp] theorem lakeFill_vault (base n : Nat) (cells : List (Nat × Byte)) (s : State) : (lakeFill base n cells s).vault = s.vault := by
  unfold lakeFill; (repeat' split) <;> simp [*]

@[simp] theorem imageWriteGo_vault (k base n : Nat) (cells : List (Nat × Byte)) (s : State) : (imageWriteGo k base n cells s).vault = s.vault := by
  unfold imageWriteGo; (repeat' split) <;> simp [*]

@[simp] theorem imageWrite_vault (k base n : Nat) (cells : List (Nat × Byte)) (s : State) : (imageWrite k base n cells s).vault = s.vault := by
  unfold imageWrite; (repeat' split) <;> simp [*]

@[simp] theorem hotFill_vault (p : PolicyImage) (r : PresentRec) (s : State) : (hotFill p r s).vault = s.vault := by
  unfold hotFill; (repeat' split) <;> simp [*]

@[simp] theorem underrunRecord_vault (r : PresentRec) (cause addr : Nat) (s : State) : (underrunRecord r cause addr s).vault = s.vault := by
  unfold underrunRecord; (repeat' split) <;> simp [*]

@[simp] theorem clearFail_vault (k : Nat) (s : State) : (clearFail k s).vault = s.vault := by
  unfold clearFail; (repeat' split) <;> simp [*]

@[simp] theorem streamFail_vault (i : Nat) (s : State) : (streamFail i s).vault = s.vault := by
  unfold streamFail; (repeat' split) <;> simp [*]

@[simp] theorem streamAll_vault (k : Nat) (cells : List (Nat × Byte)) (s : State) : (streamAll k cells s).vault = s.vault := by
  unfold streamAll; (repeat' split) <;> simp [*]

@[simp] theorem imgLoading_vault (k : Nat) (s : State) : (imgLoading k s).vault = s.vault := by
  unfold imgLoading; (repeat' split) <;> simp [*]

@[simp] theorem recoveryGo_vault (k : Nat) (fallback : Bool) (s : State) : (recoveryGo k fallback s).vault = s.vault := by
  unfold recoveryGo; dsimp only; (repeat' split) <;> simp [*]

theorem takeAction_vault (k : Nat) (fallback : Bool) (fails : State → State) (s : State) (h : ∀ s, (fails s).vault = s.vault) :
    (takeAction k fallback fails s).vault = s.vault := by
  unfold takeAction
  dsimp only
  (repeat' split) <;> simp [h]

@[simp] theorem fallbackAction_vault (k : Nat) (s : State) : (fallbackAction k s).vault = s.vault := by
  unfold fallbackAction
  split
  · apply takeAction_vault
    intro s
    simp
  · simp

@[simp] theorem actionFails_vault (k : Nat) (s : State) : (actionFails k s).vault = s.vault := by
  unfold actionFails; (repeat' split) <;> simp [*]

@[simp] theorem actionStart_vault (k : Nat) (s : State) : (actionStart k s).vault = s.vault := by
  unfold actionStart
  apply takeAction_vault
  intro s
  simp

@[simp] theorem switchHalves_vault (k : Nat) (s : State) : (switchHalves k s).vault = s.vault := by
  unfold switchHalves; (repeat' split) <;> simp [*]

@[simp] theorem verdictRecords_vault (k : Nat) (x : Source) (pass : Bool) (cause : Nat) (s : State) : (verdictRecords k x pass cause s).vault = s.vault := by
  unfold verdictRecords; (repeat' split) <;> simp [*]

@[simp] theorem keepJudged_vault (k : Nat) (m : Option Manifest) (digest : Bytes) (pass : Bool) (s : State) : (keepJudged k m digest pass s).vault = s.vault := by
  unfold keepJudged; (repeat' split) <;> simp [*]

@[simp] theorem afterPass_vault (k : Nat) (x : Source) (s : State) : (afterPass k x s).vault = s.vault := by
  unfold afterPass; dsimp only; (repeat' split) <;> simp [*]

@[simp] theorem afterFail_vault (k : Nat) (x : Source) (s : State) : (afterFail k x s).vault = s.vault := by
  unfold afterFail; (repeat' split) <;> simp [*]

@[simp] theorem writeVerdict_vault (k : Nat) (x : Source) (m : Option Manifest) (digest : Bytes) (pass : Bool) (cause : Nat) (s : State) : (writeVerdict k x m digest pass cause s).vault = s.vault := by
  unfold writeVerdict; (repeat' split) <;> simp [*]

@[simp] theorem svnRaise_vault (idx n : Nat) (s : State) : (svnRaise idx n s).vault = s.vault := by
  unfold svnRaise; (repeat' split) <;> simp [*]

@[simp] theorem svnRecord_vault (idx n : Nat) (s : State) : (svnRecord idx n s).vault = s.vault := by
  unfold svnRecord; (repeat' split) <;> simp [*]

@[simp] theorem polFloorRaise_vault (n : Nat) (s : State) : (polFloorRaise n s).vault = s.vault := by
  unfold polFloorRaise; (repeat' split) <;> simp [*]

@[simp] theorem upMgt_vault (b : Bool) (f : Mgt → Mgt) (s : State) : (upMgt b f s).vault = s.vault := by
  unfold upMgt; (repeat' split) <;> simp [*]

@[simp] theorem capsuleEnd_vault (reason : Nat) (s : State) : (capsuleEnd reason s).vault = s.vault := by
  unfold capsuleEnd; dsimp only; (repeat' split) <;> simp [*]

@[simp] theorem capsuleRefuse_vault (j : CapsuleJob) (reason : Nat) (s : State) : (capsuleRefuse j reason s).vault = s.vault := by
  unfold capsuleRefuse; (repeat' split) <;> simp [*]

@[simp] theorem capsuleAccept_vault (s : State) : (capsuleAccept s).vault = s.vault := by
  unfold capsuleAccept; (repeat' split) <;> simp [*]

@[simp] theorem capsuleStep_vault (n : Nat) (s : State) : (capsuleStep n s).vault = s.vault := by
  unfold capsuleStep; (repeat' split) <;> simp [*]

@[simp] theorem capsuleWrite_vault (j : CapsuleJob) (s : State) : (capsuleWrite j s).vault = s.vault := by
  unfold capsuleWrite; (repeat' split) <;> simp [*]

@[simp] theorem capsuleRecord_vault (j : CapsuleJob) (s : State) : (capsuleRecord j s).vault = s.vault := by
  unfold capsuleRecord; (repeat' split) <;> simp [*]

@[simp] theorem mgtMsg_vault (b : Bool) (s : State) : (mgtMsg b s).vault = s.vault := by
  unfold mgtMsg; (repeat' split) <;> simp [*]

@[simp] theorem cfgWrite_vault (f : CfgFlash → CfgFlash) (s : State) : (cfgWrite f s).vault = s.vault := by
  unfold cfgWrite; (repeat' split) <;> simp [*]

@[simp] theorem putDir_vault (second : Bool) (d : DirCopy) (s : State) : (putDir second d s).vault = s.vault := by
  unfold putDir; (repeat' split) <;> simp [*]

@[simp] theorem breakDir_vault (s : State) : (breakDir s).vault = s.vault := by
  unfold breakDir; (repeat' split) <;> simp [*]

@[simp] theorem rewriteDir_vault (f : BootDir → BootDir) (s : State) : (rewriteDir f s).vault = s.vault := by
  unfold rewriteDir; (repeat' split) <;> simp [*]

@[simp] theorem putComponent_vault (c : Component) (b : Bool) (s : State) : (putComponent c b s).vault = s.vault := by
  unfold putComponent; (repeat' split) <;> simp [*]

@[simp] theorem dropComponent_vault (c : Component) (b : Bool) (s : State) : (dropComponent c b s).vault = s.vault := by
  unfold dropComponent; (repeat' split) <;> simp [*]

@[simp] theorem pushedRecord_vault (c : Component) (slot : Bool) (outcome : Nat) (g : Gate) (eff : State → State) (s : State)
    (h : ∀ s, (eff s).vault = s.vault) : (pushedRecord c slot outcome g eff s).vault = s.vault := by
  unfold pushedRecord
  split
  · exact h s
  · exact gated_vault _ _ _ _ _ _ h

@[simp] theorem promoted_vault (c : Component) (cleared : Bool) (s : State) : (promoted c cleared s).vault = s.vault := by
  unfold promoted; (repeat' split) <;> simp [*]

@[simp] theorem promote_vault (c : Component) (copied cleared : Bool) (s : State) : (promote c copied cleared s).vault = s.vault := by
  unfold promote; (repeat' split) <;> simp [*]

@[simp] theorem romPrepare_vault (p : PolicyImage) (s : State) : (romPrepare p s).vault = s.vault := by
  unfold romPrepare; (repeat' split) <;> simp [*]

@[simp] theorem romLock_vault (p : PolicyImage) (s : State) : (romLock p s).vault = s.vault := by
  unfold romLock; (repeat' split) <;> simp [*]

@[simp] theorem bayHolds_vault (s : State) : (bayHolds s).vault = s.vault := by
  unfold bayHolds
  apply each_vault
  intro n s
  split <;> simp

@[simp] theorem finishPromotions_vault (s : State) : (finishPromotions s).vault = s.vault := by
  unfold finishPromotions; (repeat' split) <;> simp [*]

@[simp] theorem refreshDir_vault (s : State) : (refreshDir s).vault = s.vault := by
  unfold refreshDir; (repeat' split) <;> simp [*]

@[simp] theorem promotionGo_vault (pol cleared : Bool) (s : State) : (promotionGo pol cleared s).vault = s.vault := by
  unfold promotionGo; (repeat' split) <;> simp [*]

@[simp] theorem cbusStart_vault (found : List (Nat × Nat)) (s : State) : (cbusStart found s).vault = s.vault := by
  unfold cbusStart; dsimp only; (repeat' split) <;> simp [*, apply_ite State.vault]

@[simp] theorem relReqBit_vault (d : Nat) (s : State) : (relReqBit d s).vault = s.vault := by
  unfold relReqBit; (repeat' split) <;> simp [*]

@[simp] theorem otpDropped_vault (s : State) : (otpDropped s).vault = s.vault := by
  unfold otpDropped; (repeat' split) <;> simp [*]

@[simp] theorem otpRefuse_vault (op addr : Nat) (s : State) : (otpRefuse op addr s).vault = s.vault := by
  unfold otpRefuse; (repeat' split) <;> simp [*]

@[simp] theorem otpAfter_vault (p : OtpPend) (s : State) : (otpAfter p s).vault = s.vault := by
  unfold otpAfter; (repeat' split) <;> simp [*]

@[simp] theorem ratchetBurn_vault (n : Nat) (s : State) : (ratchetBurn n s).vault = s.vault := by
  unfold ratchetBurn; (repeat' split) <;> simp [*]

@[simp] theorem lcStepBegin_vault (s : State) : (lcStepBegin s).vault = s.vault := by
  unfold lcStepBegin; (repeat' split) <;> simp [*]

@[simp] theorem lcStepGo_vault (auth : Nat) (s : State) : (lcStepGo auth s).vault = s.vault := by
  unfold lcStepGo; (repeat' split) <;> simp [*]

@[simp] theorem otpNext_vault (s : State) : (otpNext s).vault = s.vault := by
  unfold otpNext; (repeat' split) <;> simp [*]

@[simp] theorem scrubFinish_vault (k : Nat) (s : State) : (scrubFinish k s).vault = s.vault := by
  unfold scrubFinish; (repeat' split) <;> simp [*]

@[simp] theorem scrubStart_vault (k : Nat) (n : Nat) (s : State) : (scrubStart k n s).vault = s.vault := by
  induction n generalizing s with
  | zero => rfl
  | succ n ih => unfold scrubStart; dsimp only; (repeat' split) <;> simp [*]

@[simp] theorem startFrame_vault (k : Nat) (f : Frame) (s : State) : (startFrame k f s).vault = s.vault := by
  unfold startFrame; (repeat' split) <;> simp [*]

@[simp] theorem grantFrame_vault (k : Nat) (cl : Client) (s : State) : (grantFrame k cl s).vault = s.vault := by
  unfold grantFrame; dsimp only; (repeat' split) <;> simp [*]

@[simp] theorem sramWrite_vault (a : Nat) (b : Bytes) (s : State) : (sramWrite a b s).vault = s.vault := by
  unfold sramWrite; (repeat' split) <;> simp [*]

@[simp] theorem scatter_vault (l : List QEntry) (data : Bytes) (s : State) : (scatter l data s).vault = s.vault := by
  induction l generalizing data s with
  | nil => rfl
  | cons a r ih => unfold scatter; rw [ih]; simp

@[simp] theorem fwFrameDone_vault (k : Nat) (f : Frame) (st : Nat) (s : State) : (fwFrameDone k f st s).vault = s.vault := by
  unfold fwFrameDone; (repeat' split) <;> simp [*]

@[simp] theorem streamIn_vault (i : Nat) (f : Frame) (data : Bytes) (s : State) : (streamIn i f data s).vault = s.vault := by
  unfold streamIn; (repeat' split) <;> simp [*]

@[simp] theorem calibrateOn_vault (k : Nat) (cal : Cal) (s : State) : (calibrateOn k cal s).vault = s.vault := by
  unfold calibrateOn; (repeat' split) <;> simp [*]

@[simp] theorem endPoll_vault (k dev : Nat) (s : State) : (endPoll k dev s).vault = s.vault := by
  unfold endPoll; (repeat' split) <;> simp [*]

@[simp] theorem replayCheck_vault (k : Nat) (s : State) : (replayCheck k s).vault = s.vault := by
  unfold replayCheck; dsimp only; (repeat' split) <;> simp [*]

@[simp] theorem partUp_vault (s : State) (p : Nat) : (partUp s p).vault = s.vault := by
  unfold partUp; (repeat' split) <;> simp [*]

@[simp] theorem epUp_vault (j : Nat) (s : State) : (epUp j s).vault = s.vault := by
  unfold epUp; (repeat' split) <;> simp [*]

@[simp] theorem epWaitEnd_vault (j : Nat) (s : State) : (epWaitEnd j s).vault = s.vault := by
  unfold epWaitEnd; (repeat' split) <;> simp [*]

@[simp] theorem emitAttested_vault (j : Nat) (kind result cause ver : Nat) (digest : Bytes) (s : State) : (emitAttested j kind result cause ver digest s).vault = s.vault := by
  unfold emitAttested; (repeat' split) <;> simp [*]

@[simp] theorem epFail_vault (cause : Nat) (digest : Bytes) (j : Nat) (s : State) : (epFail cause digest j s).vault = s.vault := by
  unfold epFail; (repeat' split) <;> simp [*]

@[simp] theorem epLift_vault (j : Nat) (s : State) : (epLift j s).vault = s.vault := by
  unfold epLift; dsimp only; (repeat' split) <;> simp [*]

@[simp] theorem upAtt_vault (j : Nat) (f : Att → Att) (s : State) : (upAtt j f s).vault = s.vault := by
  unfold upAtt; (repeat' split) <;> simp [*]

@[simp] theorem drawNonce_vault (j : Nat) (s : State) : (drawNonce j s).vault = s.vault := by
  unfold drawNonce; (repeat' split) <;> simp [*]

@[simp] theorem spdmNext_vault (t : SpdmStep) (j : Nat) (s : State) : (spdmNext t j s).vault = s.vault := by
  unfold spdmNext; (repeat' split) <;> simp [*]

@[simp] theorem epFirmware_vault (j : Nat) (s : State) : (epFirmware j s).vault = s.vault := by
  unfold epFirmware; dsimp only; (repeat' split) <;> simp [*]

@[simp] theorem upPart_vault (p : Nat) (f : Part → Part) (s : State) : (upPart p f s).vault = s.vault := by
  unfold upPart; (repeat' split) <;> simp [*]

@[simp] theorem sliceFault_vault (b i : Nat) (s : State) : (sliceFault b i s).vault = s.vault := by
  unfold sliceFault; dsimp only; (repeat' split) <;> simp [*]

@[simp] theorem dispatchTlp_vault (i e : Nat) (t : Tlp) (s : State) : (dispatchTlp i e t s).vault = s.vault := by
  unfold dispatchTlp; (repeat' split) <;> simp [*]

@[simp] theorem deliverDue_vault (s : State) : (deliverDue s).vault = s.vault := by
  unfold deliverDue; (repeat' split) <;> simp [*]

@[simp] theorem forwardTlp_vault (i e : Nat) (t : Tlp) (s : State) : (forwardTlp i e t s).1.vault = s.vault := by
  unfold forwardTlp; (repeat' split) <;> simp [*]

@[simp] theorem away_vault (q : Nat) (k : TlpKind) (s : State) : (away q k s).1.vault = s.vault := by
  unfold away; (repeat' split) <;> simp [*]

@[simp] theorem mctpTrack_vault (p : Nat) (t : Tlp) (s : State) : (mctpTrack p t s).vault = s.vault := by
  unfold mctpTrack; (repeat' split) <;> simp [*]

@[simp] theorem awayAt_vault (i p : Nat) (t : Tlp) (s : State) : (awayAt i p t s).1.vault = s.vault := by
  unfold awayAt; (repeat' split) <;> simp [*]

@[simp] theorem routeTlp_vault (i p : Nat) (t : Tlp) (s : State) : (routeTlp i p t s).1.vault = s.vault := by
  unfold routeTlp; (repeat' split) <;> simp [*]

@[simp] theorem medTake_vault (port i : Nat) (t : Tlp) (s : State) : (medTake port i t s).vault = s.vault := by
  unfold medTake; (repeat' split) <;> simp [*]

@[simp] theorem hostTlp_vault (p : Nat) (t : Tlp) (s : State) : (hostTlp p t s).1.vault = s.vault := by
  unfold hostTlp; (repeat' split) <;> simp [*]

@[simp] theorem armReady_vault (p : Nat) (s : State) : (armReady p s).vault = s.vault := by
  unfold armReady; (repeat' split) <;> simp [*]

@[simp] theorem armBegin_vault (p src : Nat) (s : State) : (armBegin p src s).vault = s.vault := by
  unfold armBegin; (repeat' split) <;> simp [*]

@[simp] theorem upMed_vault (port : Nat) (f : Mediation → Mediation) (s : State) : (upMed port f s).vault = s.vault := by
  unfold upMed; (repeat' split) <;> simp [*]

@[simp] theorem activateReady_vault (port : Nat) (s : State) : (activateReady port s).vault = s.vault := by
  simp [activateReady]

@[simp] theorem medForward_vault (m : MedPkt) (s : State) : (medForward m s).1.vault = s.vault := by
  unfold medForward; (repeat' split) <;> simp [*]

@[simp] theorem medEnq_vault (m : MedPkt) (s : State) : (medEnq m s).vault = s.vault := by
  unfold medEnq; (repeat' split) <;> simp [*]

@[simp] theorem resubmitAll_vault (s : State) : (resubmitAll s).vault = s.vault := by
  unfold resubmitAll
  rw [foldl_vault]
  · simp
  · intro s w
    split <;> simp

@[simp] theorem wdtCtrlWrite_vault (v : BitVec 32) (s : State) : (wdtCtrlWrite v s).vault = s.vault := by
  unfold wdtCtrlWrite; (repeat' split) <;> simp [*]

@[simp] theorem wdtCapture_vault (cause : Nat) (pc : BitVec 64) (s : State) : (wdtCapture cause pc s).vault = s.vault := by
  unfold wdtCapture; (repeat' split) <;> simp [*]

@[simp] theorem upSig_vault (e : Bool) (f : SigEng → SigEng) (s : State) : (upSig e f s).vault = s.vault := by
  unfold upSig; (repeat' split) <;> simp [*]

@[simp] theorem sigRemove_vault (e : Bool) (s : State) : (sigRemove e s).vault = s.vault := by
  unfold sigRemove; (repeat' split) <;> simp [*]

@[simp] theorem applyWrite_vault (p : PolicyImage) (r : PresentRec) (j : JEntry) (s : State) : (applyWrite p r j s).vault = s.vault := by
  unfold applyWrite; (repeat' split) <;> simp [*]

@[simp] theorem newChallenge_vault (s : State) : (newChallenge s).vault = s.vault := by
  unfold newChallenge; (repeat' split) <;> simp [*]

@[simp] theorem mbxFinish_vault (b : Bool) (result : Nat) (s : State) : (mbxFinish b result s).vault = s.vault := by
  unfold mbxFinish; (repeat' split) <;> simp [*]

@[simp] theorem exportFree_vault (i : Nat) (s : State) : (exportFree i s).vault = s.vault := by
  unfold exportFree
  dsimp only
  split
  · rw [foldl_vault]
    intro s k
    split <;> simp
  · rw [emit_vault, foldl_vault]
    intro s k
    split <;> simp

@[simp] theorem journalCmdEntry_vault (j : RingCmd) (body : Bytes) (s : State) : (journalCmdEntry j body s).vault = s.vault := by
  unfold journalCmdEntry; (repeat' split) <;> simp [*]

@[simp] theorem holdCmd_vault (p g : Nat) (e : Bytes) (s : State) : (holdCmd p g e s).vault = s.vault := by
  unfold holdCmd; (repeat' split) <;> simp [*]

@[simp] theorem accessEnd_vault (p g : Nat) (u : AccessUse) (s : State) : (accessEnd p g u s).vault = s.vault := by
  unfold accessEnd; (repeat' split) <;> simp [*]

@[simp] theorem vectorSend_vault (p v : Nat) (s : State) : (vectorSend p v s).1.vault = s.vault := by
  unfold vectorSend; (repeat' split) <;> simp [*]

@[simp] theorem takeSealNo_vault (s : State) : (takeSealNo s).vault = s.vault := by
  unfold takeSealNo; (repeat' split) <;> simp [*]

@[simp] theorem fetchGood_vault (p g : Nat) (r : Ring) (f : Fetched) (s : State) : (fetchGood p g r f s).vault = s.vault := by
  unfold fetchGood; dsimp only; (repeat' split) <;> simp [*]

@[simp] theorem fetchBad_vault (p g : Nat) (r : Ring) (f : Fetched) (status : Nat) (s : State) : (fetchBad p g r f status s).vault = s.vault := by
  unfold fetchBad; (repeat' split) <;> simp [*]

@[simp] theorem fetchTaken_vault (p g : Nat) (s : State) : (fetchTaken p g s).vault = s.vault := by
  unfold fetchTaken; (repeat' split) <;> simp [*]

@[simp] theorem completionWritten_vault (p g : Nat) (j : RingCmd) (s : State) : (completionWritten p g j s).vault = s.vault := by
  unfold completionWritten; (repeat' split) <;> simp [*]

@[simp] theorem upAdm_vault (p a : Nat) (f : AdmRegs → AdmRegs) (s : State) : (upAdm p a f s).vault = s.vault := by
  unfold upAdm; (repeat' split) <;> simp [*]

@[simp] theorem admWrite_vault (p a : Nat) (v : BitVec 32) (s : State) : (admWrite p a v s).vault = s.vault := by
  unfold admWrite; dsimp only; (repeat' split) <;> simp [*]

@[simp] theorem writeCfg_vault (p : Nat) (r : CfgReg) (v : BitVec 32) (s : State) : (writeCfg p r v s).vault = s.vault := by
  unfold writeCfg; (repeat' split) <;> simp [*]

@[simp] theorem mbxGo_vault (b : Bool) (s : State) : (mbxGo b s).vault = s.vault := by
  unfold mbxGo; dsimp only; (repeat' split) <;> simp [*]

@[simp] theorem writeMailbox_vault (b : Bool) (a : Nat) (w : BitVec 32) (s : State) : (writeMailbox b a w s).vault = s.vault := by
  unfold writeMailbox; (repeat' split) <;> simp [*]

@[simp] theorem writeBar0_vault (p a : Nat) (v : BitVec 32) (s : State) : (writeBar0 p a v s).vault = s.vault := by
  unfold writeBar0; dsimp only; (repeat' split) <;> simp [*]

@[simp] theorem writeBar_vault (n p a len : Nat) (v : BitVec 32) (s : State) : (writeBar n p a len v s).vault = s.vault := by
  unfold writeBar; (repeat' split) <;> simp [*]

@[simp] theorem writeMsix8_vault (p a : Nat) (low high : BitVec 32) (s : State) : (writeMsix8 p a low high s).vault = s.vault := by
  unfold writeMsix8; (repeat' split) <;> simp [*]

@[simp] theorem writeChan_vault (k a : Nat) (v : BitVec 32) (s : State) : (writeChan k a v s).vault = s.vault := by
  unfold writeChan; (repeat' split) <;> simp [*]

@[simp] theorem writeOtpc_vault (a : Nat) (v : BitVec 32) (s : State) : (writeOtpc a v s).vault = s.vault := by
  unfold writeOtpc; dsimp only; (repeat' split) <;> simp [*]

@[simp] theorem writeSig_vault (e : Bool) (a : Nat) (v : BitVec 32) (s : State) : (writeSig e a v s).vault = s.vault := by
  unfold writeSig; dsimp only; (repeat' split) <;> simp [*]

@[simp] theorem writeSic_vault (a : Nat) (v : BitVec 32) (s : State) : (writeSic a v s).vault = s.vault := by
  unfold writeSic; (repeat' split) <;> simp [*]

@[simp] theorem writeWdt_vault (a : Nat) (v : BitVec 32) (s : State) : (writeWdt a v s).vault = s.vault := by
  unfold writeWdt; (repeat' split) <;> simp [*]

@[simp] theorem writeDga_vault (a : Nat) (v : BitVec 32) (s : State) : (writeDga a v s).vault = s.vault := by
  unfold writeDga; (repeat' split) <;> simp [*]

@[simp] theorem writeGate_vault (a : Nat) (v : BitVec 32) (s : State) : (writeGate a v s).vault = s.vault := by
  unfold writeGate; (repeat' split) <;> simp [*]

@[simp] theorem csfHostRead_vault (p : Nat) (t : Tlp) (s : State) : (csfHostRead p t s).1.vault = s.vault := by
  unfold csfHostRead; (repeat' split) <;> simp [*]

@[simp] theorem frameAbandon_vault (k : Nat) (cl : Client) (s : State) : (frameAbandon k cl s).vault = s.vault := by
  unfold frameAbandon; (repeat' split) <;> simp [*]

@[simp] theorem medLost_vault (port : Nat) (s : State) : (medLost port s).vault = s.vault := by
  unfold medLost; (repeat' split) <;> simp [*]

@[simp] theorem unitsAfter_vault (t : SelfTest) (s : State) : (unitsAfter t s).vault = s.vault := by
  unfold unitsAfter; (repeat' split) <;> simp [*]

@[simp] theorem unitsScanned_vault (s : State) : (unitsScanned s).vault = s.vault := by
  unfold unitsScanned; (repeat' split) <;> simp [*]

@[simp] theorem romFloor_vault (cause : Nat) (s : State) : (romFloor cause s).vault = s.vault := by
  unfold romFloor; (repeat' split) <;> simp [*]

@[simp] theorem romFuses_vault (t : SelfTest) (s : State) : (romFuses t s).vault = s.vault := by
  unfold romFuses; (repeat' split) <;> simp [*]

@[simp] theorem romSlot_vault (t : SelfTest) (slot : Bool) (s : State) : (romSlot t slot s).vault = s.vault := by
  unfold romSlot; dsimp only; (repeat' split) <;> simp [*]

@[simp] theorem romPolicy_vault (t : SelfTest) (s : State) : (romPolicy t s).vault = s.vault := by
  unfold romPolicy; (repeat' split) <;> simp [*]

@[simp] theorem romNoPolicy_vault (s : State) : (romNoPolicy s).vault = s.vault := by
  unfold romNoPolicy; (repeat' split) <;> simp [*]

@[simp] theorem tickTimer_vault (s : State) : (tickTimer s).vault = s.vault := by
  unfold tickTimer; (repeat' split) <;> simp [*]

@[simp] theorem tickWdt_vault (s : State) : (tickWdt s).vault = s.vault := by
  unfold tickWdt; (repeat' split) <;> simp [*]

@[simp] theorem withPending_vault (q : List Instr) (s : State) : (withPending q s).vault = s.vault := by
  unfold withPending; (repeat' split) <;> simp [*]

@[simp] theorem State.withFetchWord_vault (s : State) (nbits w : Nat) : (State.withFetchWord s nbits w).vault = s.vault := by
  unfold State.withFetchWord; (repeat' split) <;> simp [*]

end Sys2Proof.Machine
end

