-- ==== Sys2Proof/Machine/Vendor.lean ====
section
/-!
DEFINITION. The bytes of a Kelnyx vendor request (R507, R508, R385) and the command that they are. Those of a response are vendorResponse.
-/

namespace Sys2Proof.Machine

open Sys2Proof

/-- The bytes of a request: header and body (R507). -/
def vendorRequest (cmd : Nat) (h : VendorHdr) (body : Bytes) : Bytes :=
  vendorHead ++ le 1 h.version ++ le 1 h.flags ++ le 1 cmd ++ le 1 h.status ++ le 1 h.rsvd ++ body

/-- The command that the bytes of a message on a management port are (R507, R508), `b` true for MGT_B: none where they are not those of a vendor
message. A COMMAND that R508 does not list is a request of no kind in particular, which is answered FIELD. -/
def vendorCommand (b : Bool) (m : Bytes) : Option Instr :=
  let at' := fun (o n : Nat) => unle (fit n (m.drop (8 + o)))
  let c := unle (fit 1 (m.drop 5))
  let h : VendorHdr := ⟨unle (fit 1 (m.drop 3)), unle (fit 1 (m.drop 4)), unle (fit 1 (m.drop 6)), unle (fit 1 (m.drop 7)), none, 0⟩
  if m.take 3 ≠ vendorHead ∨ m.length < 8 then none
  else if c = 0x10 then some (.regRead b h (BitVec.ofNat 8 (at' 0 1)) (BitVec.ofNat 8 (at' 1 1)) (BitVec.ofNat 16 (at' 2 2)) (BitVec.ofNat 32 (at' 4 4)))
  else if c = 0x11 then some (.regWrite b h (BitVec.ofNat 32 (at' 0 4)) (BitVec.ofNat 16 (at' 4 2)) (BitVec.ofNat 16 (at' 6 2))
    ((List.range ((m.length - 16) / 4)).map (fun i => BitVec.ofNat 32 (at' (8 + 4 * i) 4))))
  else if c = 0x20 then some (.journalState b h)
  else if c = 0x21 then some (.readBlock b h (at' 0 8) (at' 8 4) (at' 12 4))
  else if c = 0x22 then some (.closeBlock b h)
  else if c = 0x23 then some (.signedHead b h (fit 32 (m.drop 8)))
  else if c = 0x24 then some (.readBootRecord b h (at' 0 4) (at' 4 4) (at' 8 4))
  else if c = 0x25 then some (.readAliasCert b { h with pad := at' 1 3 } (at' 0 1) (at' 4 4) (at' 8 4))
  else some (.journalState b { h with unlisted := some (BitVec.ofNat 8 c) })

end Sys2Proof.Machine
end

