-- ==== Sys2Proof/Machine/Wire.lean ====
section
/-!
DEFINITION. What a custody channel puts on its balls (R190 to R197, R205, R221): the protocol of a frame, the command phases it sends
and the levels of the lines that carry nothing.
-/

namespace Sys2Proof.Machine

open Sys2Proof

/-- The lines of the command, address and data phases of a frame by WIDTH, DTR and PROTO, and which of the three phases are DTR
(R190). -/
def frameLines (width : Nat) (dtr : Bool) (proto : Nat) : (Nat × Nat × Nat) × (Bool × Bool × Bool) :=
  if width = 8 then ((8, 8, 8), (dtr, dtr, dtr))
  else if proto = 0 then
    if width = 4 then ((1, 4, 4), (false, dtr, dtr)) else if width = 2 then ((1, 2, 2), (false, false, false)) else ((1, 1, 1), (false, false, false))
  else if proto = 1 ∧ width = 4 then ((1, 1, 4), (false, false, false))
  else ((1, 1, 1), (false, false, false))

/-- f_CK as its divider of 2,400 MHz (R194). -/
def chDivider (c : Channel) : Nat := clkDivider (chClk c)

/-- What a channel sends in one run of its select: the exit sequence of continuous read that the SFDP advertises (R221), or a frame: its
device, opcode, address bytes, dummy cycles and data bytes, with the direction of the data. -/
inductive Wire where
  | exitSequence (dev : Nat)
  | frame (dev : Nat) (op : Bytes) (addr : Bytes) (dummy : Nat) (toFlash : Bool) (len : Nat)
deriving DecidableEq, Repr

/-- An opcode: two bytes in the octal protocols, the second its complement (R191). -/
def opBytes (c : Channel) (op : Nat) : Bytes :=
  let b := BitVec.ofNat 8 op
  if chWidth c = 8 then [b, ~~~b] else [b]

/-- An entry as a frame. A register frame, which is any of PROTO 2 but an erase (log entry 116), carries in an octal protocol a 4-byte
address of 0, and 8 dummy cycles when it reads, whatever the entry says (R191, R201, R208). The channel sends no address-mode command
(R193, R197). -/
def entryWire (c : Channel) (e : QEntry) : Wire :=
  let octReg := decide (chWidth c = 8) && decide (qProto e = 2) && !qIsErase c 0 e
  .frame (qDev e) (if qOpEn e then opBytes c (qOp e) else [])
    (if octReg then zeros 4 else if qAddrMode e = 0 then [] else (le (if qAddrMode e = 1 then 3 else 4) e.addr.toNat).reverse)
    (if octReg && !qDir e then 8 else qDummy e) (qDir e) e.len.toNat

/-- The entry of the same format that an engine generates for its frame. -/
def engineEntry (c : Channel) (f : Frame) : QEntry :=
  let op := match f.kind with
    | .read => chReadOp c
    | .program => chProgramOp c
    | .erase => chEraseOp c
    | .register => 0x05
  let proto := match f.kind with
    | .read => 0
    | .program => 1
    | _ => 2
  let mode := if c.cfg.getLsbD 9 then 2 else 1
  ⟨packWord [(0, op), (8, 1), (9, mode), (11, if f.kind = .read then chDummy c else 0), (17, b2n (decide (f.kind = .program))), (18, f.dev),
      (20, proto), (22, b2n f.waitWip)], BitVec.ofNat 32 f.addr, BitVec.ofNat 32 (if f.kind = .erase then 0 else f.len), 0⟩

/-- Write enable: 0x06 in a frame of its own. -/
def writeEnable (c : Channel) (dev : Nat) : Wire := .frame dev (opBytes c 0x06) (if chWidth c = 8 then zeros 4 else []) 0 false 0

/-- The runs of select that a granted frame makes, in order: the exit sequence where the flash is in continuous read (R221), 0x06
immediately before a program or erase frame (R205), and the frame: one data phase for each entry of a CONT frame (R202, R203), with no
opcode where a fill continues a continuous read (R221). -/
def frameWires (c : Channel) (f : Frame) : List Wire :=
  let body := match (if f.client = .firmware then f.entries else [engineEntry c f]).map (entryWire c) with
    | .frame d op a n o l :: r => .frame d (if f.omitOp then [] else op) a n o l :: r
    | r => r
  (if f.exitFirst then [Wire.exitSequence f.dev] else [])
    ++ (if f.kind = .program ∨ f.kind = .erase then [writeEnable c f.dev] else []) ++ body

/-- The lines of DQ that a frame uses: the widest of its three phases (R190). -/
def frameWidth (c : Channel) (f : Frame) : Nat :=
  let e := if f.client = .firmware then f.entries.headD (engineEntry c f) else engineEntry c f
  let l := (frameLines (chWidth c) (chDtr c) (qProto e)).1
  max l.1 (max l.2.1 l.2.2)

/-- The lines of DQ that a write-enable frame uses. -/
def enableWidth (c : Channel) : Nat := if chWidth c = 8 then 8 else 1

/-- What the channel drives on a line of DQ that a frame of w lines leaves unused: in 1-bit and 2-bit frames DQ[2] and DQ[3] are high,
and in frames narrower than 8 bits DQ[7:4] are low (R192). `none` is a line that the frame uses. -/
def dqUnused (w line : Nat) : Option Pad :=
  if w ≤ 2 ∧ (line = 2 ∨ line = 3) then some .high
  else if w < 8 ∧ 4 ≤ line then some .low
  else none

/-- The direction of a line that a frame uses, true to the flash: in 1-bit frames DQ[0] carries data to the flash and DQ[1] from it; in
wider ones every line follows the phase, `out` when it goes to the flash (R192). -/
def dqToFlash (w line : Nat) (out : Bool) : Bool := if w = 1 then decide (line = 0) else out

/-- A line of DQ during the frame in progress; between frames, and in OFF, all are at high impedance (R192, R213). -/
def dqIdle (c : Channel) (line : Nat) : Option Pad :=
  match c.frame with
  | none => some .hiZ
  | some f => if c.st = .off then some .hiZ else dqUnused (frameWidth c f) line

/-- A select of a channel: low in a frame of its device (R202); at high impedance in OFF (R213). -/
def csLevel (c : Channel) (dev : Nat) : Pad :=
  if c.st = .off then .hiZ
  else match c.frame with
    | some f => if f.dev = dev then .low else .high
    | none => .high

/-- CK of a channel: at high impedance in OFF (R213), running in a frame (`none`), else at the level at which its mode idles (R195). -/
def ckLevel (c : Channel) : Option Pad :=
  if c.st = .off then some .hiZ
  else if c.frame.isSome then none
  else some (if 2 ≤ chMode c then .high else .low)

/-- DQS of a channel, which the flash alone drives: at high impedance on the device's side (R213). -/
def dqsLevel : Pad := .hiZ

end Sys2Proof.Machine
end

