-- ==== Sys2Proof/WellFormed.lean ====
section
/-!
DEFINITION. When a command is well formed: the numbers it names exist on the device (channels 0 to 16, presentation ports 1 to
16, ports and PERST_N 0 to 31, partitions 0 to 3, image slots 0 to 255, and so on).
-/

namespace Sys2Proof

/-- CCH_00 to CCH_16. -/
def chanOk (k : Nat) : Bool := decide (k < 17)

/-- PRS_01 to PRS_16. -/
def prsOk (k : Nat) : Bool := decide (1 ≤ k) && decide (k ≤ 16)

/-- Partitions 0 to 3. -/
def partOk (p : Nat) : Bool := decide (p < 4)

/-- Ports 0 to 31 of the gate. -/
def portOk (q : Nat) : Bool := decide (q < 32)

/-- PERST_N_00 to PERST_N_31. -/
def perstOk (j : Nat) : Bool := decide (j < 32)

/-- Image slots 0 to 255. -/
def slotOk (k : Nat) : Bool := decide (k < 256)

/-- A frame names a presentation port. -/
def frameOk (f : PrsFrame) : Bool := prsOk f.port

/-- A register of a partition's configuration space that exists (R294, R500). -/
def cfgRegOk (r : CfgReg) : Bool :=
  match r with
  | .csfBar i => decide (i < 6)
  | .acsControl q => portOk q
  | .acsEgress q => portOk q
  | .bridgeBus q => portOk q

/-- A BAR of the CSF: 0, 2 or 4 (R500); a register of the configuration space; the internal space. -/
def spaceOk (sp : RegSpace) : Bool :=
  match sp with
  | .bar n _ _ _ => [0, 2, 4].contains n
  | .msix8 _ _ _ => true
  | .config _ r => cfgRegOk r
  | .internal _ n _ => [1, 2, 4, 8].contains n

/-- A TLP the gate supports (R316): at most 4,096 bytes, a 14-bit tag, a 16-bit requester ID, a 64-bit address. -/
def tlpOk (t : Tlp) : Bool :=
  decide (t.len ≤ 4096) && decide (t.hdr.tag < 2 ^ 14) && decide (t.reqId < 2 ^ 16) && decide (t.addr < 2 ^ 64)

/-- An OTP word of a test-mode program. -/
def jtagOk (i : JtagOp) : Bool :=
  match i with
  | .otpProgram a _ _ _ => decide (a < 2048)
  | .otpRead a => decide (a < 2048)
  | .memRead a => decide (a < 2 ^ 64)
  | .regRead a n => decide (a < 2 ^ 32) && [1, 2, 4, 8].contains n
  | .mandatory _ | .idcode | .challenge | .memoryTest | .halt _ | .step | .trace => true

/-- A command is well formed. -/
def wellFormed (i : Instr) : Bool :=
  match i with
  | .vsecPowerOn => true
  | .criticalFuseLatchComplete _ _ _ => true
  | .vsecBrownout => true
  | .vsecOff => true
  | .mainSetGood _ cch prs => cch.all (fun x => chanOk x.1) && prs.all (fun x => prsOk x.1)
  | .mainRailFail => true
  | .pllLossOfLock => true
  | .vioRstGood _ => true
  | .vioRstLost => true
  | .vioBankLow prs k => (if prs then prsOk k else chanOk k)
  | .hotReset part => partOk part
  | .upstreamLinkDown part => partOk part
  | .aocDisagreement => true
  | .aocStopped _ => true
  | .aocResumed _ => true
  | .tamperAssert _ => true
  | .tripRecord => true
  | .tripReqWrite _ => true
  | .holdRequest _ => true
  | .releaseRequest _ => true
  | .tripClear _ _ => true
  | .registerWrite sp a _ => spaceOk sp && decide (a < 2 ^ 32)
  | .selfTestDone _ => true
  | .microcodeLoadDone => true
  | .otpRead _ => true
  | .otpProgram _ _ => true
  | .otpScan => true
  | .otpLcStep _ => true
  | .otpOpDone _ _ => true
  | .challenge _ => true
  | .token _ _ _ => true
  | .jtagTokenSubmit _ => true
  | .lcClose _ _ => true
  | .exportAck _ _ => true
  | .jtagInstruction i => jtagOk i
  | .pldmRequestUpdate _ => true
  | .pldmComponentPush _ _ _ _ => true
  | .pldmCapsulePush _ _ _ => true
  | .cchQpush k _ => chanOk k
  | .cchQdoneRead k => chanOk k
  | .cchFrameStart k => chanOk k
  | .cchFrameEnd k _ _ _ => chanOk k
  | .cchWipPoll k _ _ => chanOk k
  | .cchWipTimeout k _ => chanOk k
  | .cchContTimeout k => chanOk k
  | .cchPeriodicCalibration k _ => chanOk k
  | .cchSelftestDone k _ => chanOk k
  | .scrubPassStart k => chanOk k
  | .xipFetch _ => true
  | .xipFillDone _ _ => true
  | .prsRead f _ => frameOk f
  | .prsFastRead f _ => frameOk f
  | .prsReadDual f _ _ => frameOk f
  | .prsReadQuad f _ _ => frameOk f
  | .prsReadQuadDtr f _ => frameOk f
  | .prsReadOctal f _ => frameOk f
  | .prsReadOctalDtr f _ => frameOk f
  | .prsPageProgram f _ => frameOk f
  | .prsPageProgramQuad f _ => frameOk f
  | .prsSectorErase f _ => frameOk f
  | .prsChipErase f => frameOk f
  | .prsWriteEnable f => frameOk f
  | .prsWriteDisable f => frameOk f
  | .prsReadStatus f _ => frameOk f
  | .prsWriteStatus f => frameOk f
  | .prsReadId f _ => frameOk f
  | .prsReadSfdp f _ => frameOk f
  | .prsEnter4b f => frameOk f
  | .prsExit4b f => frameOk f
  | .prsProtocolSelect f _ => frameOk f
  | .prsResetEnable f => frameOk f
  | .prsReset f => frameOk f
  | .prsPowerDown f => frameOk f
  | .prsReleasePowerDown f => frameOk f
  | .prsUnknownOpcode f _ _ _ => frameOk f
  | .prsFrameReject f => frameOk f
  | .writeJournalEntry port _ => prsOk port
  | .writeDurable port _ => prsOk port
  | .writeApply port _ => prsOk port
  | .commitEntryStart k => chanOk k
  | .deviceLoadDone port _ _ _ => prsOk port
  | .lakeIntegrityFail _ _ _ => true
  | .lakeChannelFault _ => true
  | .lakeFailoverDone => true
  | .judgeStart slot _ => slotOk slot
  | .judgementDone slot _ _ => slotOk slot
  | .verifyDeadlineExpiry slot _ => slotOk slot
  | .restoreVaultBegin slot => slotOk slot
  | .vaultWaitExpiry slot => slotOk slot
  | .goldenStore slot _ => slotOk slot
  | .imageSvnAdvance slot _ => slotOk slot
  | .policySvnAdvance => true
  | .capsuleStage _ _ => true
  | .linkUp port _ _ _ _ => portOk port
  | .linkDown port => portOk port
  | .endpointLinkTimeout j => perstOk j
  | .endpointReadyWaitEnd j => perstOk j
  | .deviceReadinessStatus j => perstOk j
  | .configRetry j => perstOk j
  | .endpointConfigSuccess j _ => perstOk j
  | .endpointReadyTimeout j => perstOk j
  | .spdmVersion j _ => perstOk j
  | .spdmCapabilities j _ _ _ => perstOk j
  | .spdmAlgorithms j _ _ _ _ => perstOk j
  | .spdmDigests j _ => perstOk j
  | .spdmCertificate j _ _ _ _ => perstOk j
  | .spdmMeasurements j _ _ => perstOk j
  | .spdmError j _ => perstOk j
  | .spdmSendTimeout j => perstOk j
  | .attestationTimeout j => perstOk j
  | .recheckDue j => perstOk j
  | .gateContainReq _ => true
  | .gateRechkReq _ => true
  | .hostConfigRequest port => portOk port
  | .hostDpcTriggerWrite port _ => portOk port
  | .endpointTlp q t _ => portOk q && tlpOk t
  | .hostTlp p t => partOk p && tlpOk t
  | .vaultDriveRequest _ _ => true
  | .ideStreamSecure p _ => partOk p
  | .ideStreamLeaveSecure p _ => partOk p
  | .ideKmRequest p => partOk p
  | .tdispLockInterface p => partOk p
  | .tdiError p => partOk p
  | .altProtocolNegotiation port => portOk port
  | .declare p _ _ => partOk p
  | .declareResult p => partOk p
  | .arm p _ _ => partOk p
  | .armDeadline p => partOk p
  | .resistArmEffect p => partOk p
  | .violWindowEnd p => partOk p
  | .sliceCheck b i _ => decide (b < 8) && decide (i < 3)
  | .sliceFailoverDone b => decide (b < 8)
  | .planeFault n _ => decide (n < 3)
  | .planeFailoverDone => true
  | .pldmMediatedPacket port _ _ => portOk port
  | .activateFirmwareRelease port => portOk port
  | .activateFirmwareResponse port => portOk port
  | .recordSubmit code src _ => decide (code < 65536) && decide (src ≤ 8)
  | .recordDurable => true
  | .blockTimedClose _ => true
  | .chainDone => true
  | .waitingRecordWrite => true
  | .bootRecordSigned => true
  | .archiveBlock => true
  | .nvmeCommandDone back => back.all (fun b => decide (b.data.length = 4096) && decide (b.info.length = 64))
  | .nvmeCommandTimeout => true
  | .nvmeControllerReady => true
  | .nvmeResetTimeout => true
  | .checkpoint => true
  | .checkpointDone => true
  | .journalState _ _ => true
  | .readBlock _ _ _ _ _ => true
  | .closeBlock _ _ => true
  | .signedHead _ _ _ => true
  | .readBootRecord _ _ _ _ _ => true
  | .readAliasCert _ _ _ _ _ => true
  | .doorbellSq _ _ _ _ => true
  | .doorbellCq _ _ _ _ => true
  | .commandFetch _ _ _ f => decide (f.entry.length = 64)
  | .ledgerExtend => true
  | .ledgerRead => true
  | .quote => true
  | .quotePlatform => true
  | .counterIncrement => true
  | .counterRead => true
  | .seal => true
  | .unseal => true
  | .journalNote => true
  | .ringCreate => true
  | .ringDestroy => true
  | .quotaSet => true
  | .ledgerAlloc => true
  | .ledgerRelease => true
  | .counterAlloc => true
  | .counterRelease => true
  | .capsuleSubmit => true
  | .completionPost _ _ _ _ => true
  | .msixGapEnd _ _ => true
  | .batchClose => true
  | .batchSigned _ => true
  | .hostMemoryRetry _ _ _ => true
  | .dmaTimeout _ _ _ => true
  | .ringWatchdog _ _ _ => true
  | .adminRingEnable _ _ _ => true
  | .adminRingDisable _ _ _ => true
  | .lockstepMismatch => true
  | .spareMismatch => true
  | .pairSwitchDone => true
  | .scResetWrite _ => true
  | .firmwareRestart _ _ => true
  | .sramWpWrite _ => true
  | .busTimeout => true
  | .sicDoneWrite _ _ => true
  | .waitForInterrupt => true
  | .sicWake src _ => decide (src < 480)
  | .wdtServe _ => true
  | .wdtKeyWrite _ _ => true
  | .wdtEnableWrite _ => true
  | .wdtExpiry _ => true
  | .wdtHardTimerEnd => true
  | .wdtClockMonitor _ => true
  | .dgaOpen _ => true
  | .dgaOpenGrant => true
  | .dgaDataWrite _ => true
  | .dgaLastWrite _ => true
  | .dgaClose _ => true
  | .dgaExpectWrite _ _ => true
  | .ecdsaP384Verify _ _ _ => true
  | .ecdsaP384Sign _ _ _ => true
  | .mlDsa65Verify _ _ _ => true
  | .mlDsa65Sign _ _ _ => true
  | .mlDsa87Verify _ _ _ => true
  | .mlDsa87Sign _ _ _ => true
  | .hssVerify _ _ _ => true
  | .ecdhP384 _ _ _ => true
  | .mlKem1024Keygen _ _ _ => true
  | .mlKem1024Encaps _ _ _ => true
  | .mlKem1024Decaps _ _ _ => true
  | .sigOpDone _ _ => true
  | .kldFwidWrite i _ => decide (i.toNat < 12)
  | .kldSvnWrite _ => true
  | .kldRandRead => true
  | .rngHealthFail => true
  | .dgaKnownAnswerCheck e _ _ _ _ => decide (e < 24)
  | .dgaFailoverDone => true
  | .sigKnownAnswerCheck _ _ => true
  | .sigFailoverDone => true
  | .persistBankFault _ => true
  | .persistFailoverDone => true
  | .cbusPoll i _ => decide (i < 32)
  | .cbusRetry i _ => decide (i < 32)
  | .ibiRetry _ _ => true
  | .smbusAlertResponse _ => true
  | .smbusSclTimeout _ => true
  | .tempSensorUpdate _ => true
  | .regRead _ _ _ _ _ _ => true
  | .regWrite _ _ _ _ _ _ => true
  | .mctpControl _ => true
  | .getVersion _ => true
  | .getCapabilities _ => true
  | .getCertificate _ _ => true
  | .tamperRelease _ => true
  | .vsecAboveVBod => true
  | .aocAgreement => true
  | .spdmSecuredSession p => partOk p
  | .tdispStartInterface p => partOk p
  | .tdispStopInterface p => partOk p
  | .pldmCancelUpdate _ => true
  | .entdaa _ _ => true
  | .setdasa _ _ _ => true

end Sys2Proof
end

