-- ==== Sys2Proof/Tests/Slice0.lean ====
section
/-!
SUPPORT. Small tests: ill-formed commands are refused, worked values of the manual, and for every obligation a state and
operands that meet its hypotheses.
-/

namespace Sys2Proof.Machine.Tests

open Sys2Proof Sys2Proof.Machine

set_option Elab.async false

/-! ### States the tests start from -/

/-- A CHANNELS record of CCH_01: one 4-bit device of 16 MiB at 60 MHz. -/
def tChan : ChannelRec := ⟨1, 1, 4, 0, 60, 0xec, 8, 4, 24, 0, 0xdc, 0x12, 12, 8, 24⟩
def tFacts : SfdpFacts := ⟨true, [], none, none, [(0x20, 12)], some [(0x20, 0x21)], 256⟩
def tPresent : PresentRec := ⟨1, 0, 1, 0, 3, 1, 1, [0xef, 0x40, 0x18], 50, 256, 0, 4096, [], tFacts⟩
def tImage : ImageRec := ⟨0, 1, 1, 0, 1, 1, 0, 4096, 100, 0xffff, 0xffff, zeros 64⟩

/-- A small Policy Image: one domain with an image on CCH_01 and an endpoint, one partition with a CSF. -/
def tPol : PolicyImage where
  hdr := ⟨0, 1, 512, 0, 0, 0, 0, 1, 0, [], [], 0, 0, [], 0, true⟩
  secs := []
  domains := [⟨1, 5, 0, []⟩]
  resets := [⟨0, 1⟩, ⟨48, 1⟩]
  channels := [tChan]
  images := [tImage]
  locks := [⟨1, 0, 3, 0x2000, 0x2000⟩, ⟨1, 0, 4, 0x4000, 0x1000⟩]
  presents := [tPresent]
  recoveries := [⟨0, 0, 0, 0, 0⟩]
  fabric := [⟨0, 1, 0, 16, 6, 0⟩, ⟨4, 2, 0, 4, 6, 0⟩]
  endpoints := [⟨0, 4, 3, 0x12, 1000, 2, zeros 48, zeros 48⟩]
  resist := [⟨0, 1, 8, 0, 2, 1, [(0x1000, 0x1fff)], []⟩]
  rings := [⟨0, 4, 1, 10, 64, 64, 64⟩]
  rates := []
  cbus := []
  trips := []
  signers := []
  bodyRsvdZero := true
  sig := ⟨.good, .good⟩

/-- HOLD: the critical wires are latched. -/
def stHold : State := { State.reset with mor := { mordant0 with latched := true, phase := 1 } }

/-- The main set is good and firmware runs, with no policy taken. -/
def stRun : State :=
  { stHold with sc := { sc0 with mainGood := true, pairA := true, pairB := true, running := true, sramLimit := some 1 }, pa := ⟨15, false⟩, otp := { otp0 shippedFuses with feat := 0x7fff, closed := false } }

/-- D_01, with TRIP_HOLD, is RELEASED and drives PRST_N_00. -/
def stRelMin : State :=
  { stRun with mor := { stRun.mor with phase := 4, lock := true, vioRst := some .v33, dom := ⟨[(1, .released)]⟩, relReq := 2, attr := ⟨[(1, 5)]⟩, outMap := ⟨[(0, 0x21)]⟩ } }

/-- D_01 is HELD, in use and UNVERIFIED_OK, with no request yet. -/
def stHeld : State :=
  { stRelMin with
    mor := { stRelMin.mor with phase := 2, dom := tabEmpty, relReq := 0, attr := ⟨[(1, 9)]⟩ }
    dga := { stRelMin.dga with engines := 0xffffff }
    sig0 := { stRelMin.sig0 with inService := true }
    chans := ⟨[(0, { chan0 with st := .ready })]⟩ }

/-- The same with the small policy, every unit in service, CCH_01 READY, the image passed and served on PRS_01, and the
endpoint on port 4 OPEN. -/
def stRel : State :=
  { stRelMin with
    mor := { stRelMin.mor with outMap := ⟨[(0, 0x21), (48, 0x21)]⟩, vslotMap := ⟨[(0, 0x21)]⟩, vslot := ⟨[(0, passPair), (256, passPair)]⟩ }
    run := ⟨none, 0, some tPol, 0, true, tabEmpty, tabEmpty, none, []⟩
    chans := ⟨[(1, { chan0 with st := .ready, vio := some .v33, cfg := 0x003c2204, geom := 0x180c0018, ops := 0x00dc12ec })]⟩
    ports := ⟨[(1, { port0 with vio := some .v33 })]⟩
    ems := ⟨[(2, { em0 with st := .serving })]⟩
    imgs := ⟨[(0, { img0 with st := .passed })]⟩
    lake := { lake0 with mode := .normal, active := 0xff }
    dga := { dga0 with engines := 0xffffff }
    sig0 := { sigEng0 with inService := true }
    sig1 := { sigEng0 with inService := true }
    fab := { fabric0 with planes := 7, slices := 0xffffff, bays := 0xff, eps := ⟨[(0, { ep0 with st := .opened, link := true })]⟩, links := ⟨[(0, ⟨6, 16, true, false, true, false⟩), (4, ⟨6, 4, true, false, true, false⟩)]⟩, parts := ⟨[(0, { part0 with up := true })]⟩ } }

/-- The same with the operands of both Signature Engines in SRAM. -/
def stSig : State :=
  { stRel with sig0 := { stRel.sig0 with msg := 0x10000000, key := 0x10001000, sig := 0x10002000, out := 0x10003000 }, sig1 := { stRel.sig1 with msg := 0x10000000, key := 0x10001000, sig := 0x10002000, out := 0x10003000 } }

/-- The state a command answers. -/
def outOf (o : Out) : State :=
  match o with
  | .next t => t
  | .fault _ => State.reset
  | .refused _ => State.reset

/-- The released domain of stRelMin has an attribute word. -/
theorem stRelMin_listed : ∀ d, domSt stRelMin d = .released → d ∈ domsListed stRelMin := by
  intro d h
  by_cases e : d = 1
  · subst e; decide
  · have : domSt stRelMin d = .held := by
      simp [domSt, stRelMin, tabGet, cellsGet, Ne.symm e]
    rw [this] at h
    exact absurd h (by decide)


/-! ### Ill-formed commands -/

def tFrame (port : Nat) : PrsFrame := ⟨port, false, true, 0, false⟩

/-- Each check refuses a command that breaks it. -/
theorem test_wf_channel : wellFormed (.cchFrameStart 17) = false ∧ wellFormed (.cchFrameStart 16) = true := by decide
theorem test_wf_channel_list : wellFormed (.mainSetGood .v18 [(17, .v18)] []) = false ∧ wellFormed (.mainSetGood .v18 [] [(0, .v18)]) = false := by decide
theorem test_wf_bank : wellFormed (.vioBankLow true 0) = false ∧ wellFormed (.vioBankLow false 17) = false := by decide
theorem test_wf_port_frame : wellFormed (.prsReset (tFrame 0)) = false ∧ wellFormed (.prsReset (tFrame 17)) = false ∧ wellFormed (.prsReset (tFrame 16)) = true := by decide
theorem test_wf_partition : wellFormed (.hotReset 4) = false ∧ wellFormed (.hotReset 3) = true := by decide
theorem test_wf_gate_port : wellFormed (.linkDown 32) = false := by decide
theorem test_wf_perst : wellFormed (.endpointLinkTimeout 32) = false := by decide
theorem test_wf_slot : wellFormed (.judgeStart 256 .golden) = false := by decide
theorem test_wf_bar : wellFormed (.registerWrite (.bar 1 0 4 false) 0 0) = false ∧ wellFormed (.registerWrite (.internal false 4 0) (2 ^ 32) 0) = false := by decide
theorem test_wf_jtag : wellFormed (.jtagInstruction (.otpProgram 2048 0 0 0)) = false := by decide
theorem test_wf_slice : wellFormed (.sliceCheck 8 0 true) = false ∧ wellFormed (.sliceCheck 0 3 true) = false ∧ wellFormed (.sliceFailoverDone 8) = false := by decide
theorem test_wf_plane : wellFormed (.planeFault 3 []) = false := by decide
theorem test_wf_record : wellFormed (.recordSubmit 65536 0 []) = false ∧ wellFormed (.recordSubmit 1 9 []) = false := by decide
theorem test_wf_entry : wellFormed (.commandFetch 0 0 true ⟨zeros 63, true, [], none⟩) = false := by decide
theorem test_wf_source : wellFormed (.sicWake 480 true) = false := by decide
theorem test_wf_fwid : wellFormed (.kldFwidWrite 12 0) = false := by decide
theorem test_wf_engine : wellFormed (.dgaKnownAnswerCheck 24 true [] false []) = false := by decide
theorem test_wf_component : wellFormed (.cbusPoll 32 true) = false ∧ wellFormed (.cbusRetry 32 true) = false := by decide

/-! ### Worked values of the manual -/

/-- The degraded Ground-4 part in RUN (16_register_maps_and_identity.md, the example of REG_READ). -/
def stGround : State :=
  { stRun with
    sc := { stRun.sc with pairA := true, pairB := true }
    mor := { stRun.mor with phase := 4, lock := true, vioRst := some .v33, aocA := true, aocB := true }
    otp := { stRun.otp with feat := 0x00013fff }
    dga := { dga0 with engines := 0xffff7f }
    sig0 := { sigEng0 with inService := true }
    pa := ⟨0xb, false⟩
    lake := { lake0 with mode := .normal, active := 0xff }
    chans := ⟨(List.range 13).map (fun k => (k, { chan0 with st := .ready }))⟩
    fab := { fabric0 with planes := 5, slices := 0xffefff, bays := 0xff } }

/-- ID_REV 0x4B58_9F21, CAPS 0x62F3_5C37, MORDANT_STATE 0x0000_7884, CAPS_EXT 0x0000_1CF6. -/
theorem test_ground_id : idRev = 0x4B589F21 := by decide
theorem test_ground_caps : caps stGround = 0x62F35C37 := by decide
theorem test_ground_mordant : mordantState stGround = 0x00007884 := by decide
theorem test_ground_caps_ext : capsExt stGround = 0x00001CF6 := by decide

/-- The UNITS bytes: 2, 23, 1, 8, 1, 3, 13, 2, 23, 8 (14_faults_degradation_time_budgets.md). -/
theorem test_ground_units : unitBytes stGround = [2, 23, 1, 8, 1, 3, 13, 2, 23, 8, 0, 0, 0, 0, 0, 0] := by decide

/-- The part that came back from one RMA cycle: word 512 is 0x0000_003F, word 514 is 0x006B_6F6F; the count is 3 and the voted
code 0x6F (04_fuses_life_cycle_debug.md). -/
def otpRma : Otp := { otp0 shippedFuses with words := ⟨[(512, ⟨0x3f, 0x3f⟩), (514, ⟨0x6b6f6f, 0x6b6f6f⟩)]⟩ }
theorem test_rma_count : lcCount otpRma = 3 := by decide
theorem test_rma_vote : compatVote otpRma = 0x6f := by decide

/-- SHA-384("abc") of FIPS 180-4. -/
theorem test_sha384_abc : unle ((sha384 [0x61, 0x62, 0x63]).reverse) =
    0xcb00753f45a35e8bb5a03d699ac65007272c32ab0eded1631a8b605a43ff5bed8086072ba1e7cc2358baeca134c825a7 := by decide +kernel

/-! ### Single commands -/

/-- A domain that is RELEASED drives its output high (R111); HELD, low (R23). -/
theorem test_released_high : outLevel stRelMin 0 = true ∧ outLevel stHeld 0 = false := by decide

/-- 106 °C crosses one threshold, 120 °C three (R496). -/
theorem test_temp_levels : tempLevel ⟨true, 424, 0⟩ = 1 ∧ tempLevel ⟨true, 480, 0⟩ = 3 ∧ tempLevel ⟨true, 419, 0⟩ = 0 ∧ tempLevel ⟨false, 480, 0⟩ = 0 := by decide

/-- A translated write from port 4 inside its range goes up; one byte past the limit does not (R317). -/
def stArmed : State := upPart 0 (fun x => { x with armed := 1, ranges := [⟨0x1000, 0x1fff, 0x10, 2, 0⟩] }) stRel
def tWrite (a n : Nat) : Tlp := ⟨.memWrite, .translated, a, n, 0, none, ⟨0, 0, [], none, false⟩, false, false, .up⟩
theorem test_range_inside : (outOf (exec (.endpointTlp 4 (tWrite 0x1fc0 64) 0) stArmed)).reply = .tlp (.forwarded 0) := by decide
theorem test_range_across : (outOf (exec (.endpointTlp 4 (tWrite 0x1fc1 64) 0) stArmed)).reply = .tlp .dropped := by decide

/-- Two doorbell values of a ring of 16 entries: 15 moves the tail, 16 is a ring error (R395). -/
def stRing : State := { stRel with nrx := { rings0 with rings := ⟨[(4, ⟨.active, 4, 0x100000, 0x200000, 9, 0, 0, 0, 0, 0, 0, 0, none, 0⟩)]⟩ } }
theorem test_doorbell_last : (ringOf (outOf (exec (.doorbellSq 0 4 15 false) stRing)) 0 4).tail = 15 := by decide
theorem test_doorbell_past : (ringOf (outOf (exec (.doorbellSq 0 4 16 false) stRing)) 0 4).st = .error := by decide

/-- An idle step counts 32 ticks of AOC_A off WDT_COUNT and one microsecond on TIMER_AOT (log entry 4). -/
theorem test_idle_tick : (tick stRun).aot = 1 ∧ (tick stRun).wdt.count = 0x01000000 - 32 := by decide


/-! ### Witnesses of the hypotheses -/

theorem wit_StepTakesTheFront_1 : ({ State.reset with pending := [.wdtServe 0, .otpScan] } : State).pending = (.wdtServe 0 : Instr) :: ([.otpScan] : List Instr) := by decide

theorem wit_StepTakesTheFront_2 : (State.reset : State).pending = [] := by decide

theorem wit_CommandsLeaveTheQueue_1 : exec (.aocAgreement : Instr) (State.reset : State) = .next (say .notNow State.reset : State) := rfl

theorem wit_BurnedFusesStayBurned_1 : step (State.reset : State) = .next (tick State.reset : State) := rfl

theorem wit_OtpArrayStaysCanonical_1 : OtpCanonical (State.reset : State) ∧ step (State.reset : State) = .next (tick State.reset : State) := ⟨by unfold OtpCanonical; decide, rfl⟩

theorem wit_UnassignedOutputsStayLow_1 : outDom (State.reset : State) (3 : Nat) = none := by decide

theorem wit_UnassignedOutputsStayLow_2 : outDom (stRel : State) (0 : Nat) = some (1 : Nat) ∧ outDom (stRel : State) (0 : Nat) = some (1 : Nat) := by decide

theorem wit_SupplyEvents_2 : (State.reset : State).mor.vsec = true := by decide

theorem wit_SupplyEvents_3 : (stRun : State).mor.vsec = true := by decide

theorem wit_SupplyEvents_4 : (stRun : State).mor.vsec = true ∧ (stRun : State).sc.mainGood = true := by decide

theorem wit_LatchAndStart_1 : (State.reset : State).mor.vsec = true ∧ (State.reset : State).mor.latched = false ∧ (State.reset : State).mor.tampLow = 0 ∧ (State.reset : State).mor.aocDis = false := by decide

theorem wit_LatchAndStart_2 : ({ State.reset with mor := { mordant0 with tampLow := 4 } } : State).mor.vsec = true ∧ ({ State.reset with mor := { mordant0 with tampLow := 4 } } : State).mor.latched = false ∧ (2 : Nat) < 4 ∧ ({ State.reset with mor := { mordant0 with tampLow := 4 } } : State).mor.tampLow.getLsbD (2 : Nat) = true := by decide

theorem wit_LatchAndStart_3 : (stHold : State).mor.vsec = true ∧ (stHold : State).mor.latched = true ∧ (stHold : State).mor.brown = false ∧ (stHold : State).sc.mainGood = false ∧ (stHold : State).mor.phase = 1 ∧ (stHold : State).mor.floorCause = 0 ∧ (0, (.v18 : VioClass)) ∈ ([(0, .v18)] : List (Nat × VioClass)) := by decide

theorem wit_OscillatorsAndTamper_1 : (stHold : State).mor.vsec = true ∧ (stHold : State).mor.latched = true ∧ (stHold : State).mor.brown = false := by decide

theorem wit_OscillatorsAndTamper_2 : ({ stHold with mor := { stHold.mor with brown := true } } : State).mor.vsec = true ∧ ({ stHold with mor := { stHold.mor with brown := true } } : State).mor.brown = true := by decide

theorem wit_OscillatorsAndTamper_3 : (stHold : State).mor.vsec = true ∧ (stHold : State).mor.latched = true ∧ (stHold : State).mor.tampLow.getLsbD (3 : BitVec 2).toNat = false := by decide

theorem wit_OscillatorsAndTamper_4 : (State.reset : State).mor.vsec = true ∧ (State.reset : State).mor.latched = false ∧ (State.reset : State).mor.tampLow.getLsbD (3 : BitVec 2).toNat = false := by decide

theorem wit_OscillatorsAndTamper_5 : ({ stHold with mor := { stHold.mor with tampLow := 8 } } : State).mor.vsec = true ∧ ({ stHold with mor := { stHold.mor with tampLow := 8 } } : State).mor.tampLow.getLsbD (3 : BitVec 2).toNat = true := by decide

theorem wit_OscillatorsAndTamper_6 : (stHold : State).mor.vsec = true ∧ (stHold : State).mor.latched = true ∧ (stHold : State).mor.aocDis = false := by decide

theorem wit_OscillatorsAndTamper_7 : ({ stHold with mor := { stHold.mor with aocDis := true } } : State).mor.vsec = true ∧ ({ stHold with mor := { stHold.mor with aocDis := true } } : State).mor.aocDis = true ∧ ({ stHold with mor := { stHold.mor with aocDis := true } } : State).mor.aocA = true ∧ ({ stHold with mor := { stHold.mor with aocDis := true } } : State).mor.aocB = true := by decide

theorem wit_OscillatorsAndTamper_8 : (stHold : State).mor.vsec = true ∧ (stHold : State).mor.aocA = true ∧ (stHold : State).mor.aocB = true ∧ (stHold : State).mor.aocDis = false := by decide

theorem wit_OscillatorsAndTamper_9 : ({ stHold with mor := { stHold.mor with aocDis := true } } : State).mor.vsec = true ∧ ({ stHold with mor := { stHold.mor with aocDis := true } } : State).mor.aocA = true ∧ ({ stHold with mor := { stHold.mor with aocDis := true } } : State).mor.aocB = true ∧ ({ stHold with mor := { stHold.mor with aocDis := true } } : State).mor.aocDis = true := by decide

theorem wit_OscillatorsAndTamper_10 : ({ stHold with mor := { stHold.mor with aocB := false } } : State).mor.vsec = true ∧ ({ stHold with mor := { stHold.mor with aocB := false } } : State).mor.latched = true ∧ ({ stHold with mor := { stHold.mor with aocB := false } } : State).mor.aocA = true ∧ ({ stHold with mor := { stHold.mor with aocB := false } } : State).mor.aocB = false := by decide

theorem wit_OscillatorsAndTamper_11 : ({ stHold with mor := { stHold.mor with aocA := false } } : State).mor.vsec = true ∧ ({ stHold with mor := { stHold.mor with aocA := false } } : State).mor.aocA = false ∧ ({ stHold with mor := { stHold.mor with aocA := false } } : State).mor.aocB = true := by decide

theorem wit_OscillatorsAndTamper_12 : ({ stHold with mor := { stHold.mor with aocA := false, aocB := false } } : State).mor.vsec = true ∧ ({ stHold with mor := { stHold.mor with aocA := false, aocB := false } } : State).mor.aocA = false ∧ ({ stHold with mor := { stHold.mor with aocA := false, aocB := false } } : State).mor.aocB = false := by decide

theorem wit_BankEvents_1 : (stHold : State).mor.vsec = true ∧ (stHold : State).mor.vioRst = none := by decide

theorem wit_BankEvents_2 : (stRel : State).mor.vsec = true ∧ (stRel : State).mor.vioRst.isSome = true := by decide

theorem wit_BankEvents_3 : (1 : Nat) ≠ 0 ∧ (chanOf (stRel : State) (1 : Nat)).vio.isSome = true ∧ (chanOf (stRel : State) (1 : Nat)).st = .ready := by decide

theorem wit_BankEvents_4 : (portOf (stRel : State) (1 : Nat)).vio.isSome = true ∧ (0 : Nat) < 2 ∧ (emOf (stRel : State) (emKey (1 : Nat) (0 : Nat))).st = .serving := by decide

theorem wit_BankEvents_5 : (State.reset : State).mor.vsec = false ∨ (State.reset : State).mor.vioRst = none := by decide

theorem wit_BankEvents_6 : (upMor (fun m => { m with bscan := 1 }) stRel : State).mor.vsec = true ∧ (upMor (fun m => { m with bscan := 1 }) stRel : State).mor.vioRst.isSome = true ∧ (upMor (fun m => { m with bscan := 1 }) stRel : State).mor.bscan.getLsbD (0 : Nat) = true := by decide

theorem wit_VioRstLossHoldsEverything_1 : clocked (stRelMin : State) = true ∧ (stRelMin : State).mor.vioRst.isSome = true ∧ (∀ d, domSt (stRelMin : State) d = .released → d ∈ domsListed (stRelMin : State)) := ⟨by decide, by decide, stRelMin_listed⟩

theorem wit_HotResetOfAPartition_1 : ((stRel : State).run.policy.bind (fun q => polUpstream q (0 : Nat))).isSome = true ∧ (0 : Nat) < 4 ∧ (stRel : State).nrx.jobs = [] := by decide

theorem wit_HotResetOfAPartition_2 : ((stRel : State).run.policy.bind (fun q => polUpstream q (0 : Nat))).isSome = true ∧ (0 : Nat) < 4 ∧ (stRel : State).nrx.jobs = [] := by decide

theorem wit_TripActs_1 : coreRuns (stRelMin : State) = true ∧ clocked (stRelMin : State) = true ∧ (stRelMin : State).mor.trip = false := by decide

theorem wit_TripActs_2 : coreRuns (stRel : State) = true ∧ ((stRel : State).mor.aocA = true ∨ (stRel : State).mor.aocB = true) ∧ (1 : BitVec 32) ≠ 0x54524950 := by decide

theorem wit_TripActs_3 : ({ stRelMin with mor := { stRelMin.mor with aocA := false, aocB := false, trip := true, asyncTrip := true } } : State).mor.vsec = true ∧ ({ stRelMin with mor := { stRelMin.mor with aocA := false, aocB := false, trip := true, asyncTrip := true } } : State).mor.latched = true ∧ ({ stRelMin with mor := { stRelMin.mor with aocA := false, aocB := false, trip := true, asyncTrip := true } } : State).mor.aocA = false ∧ ({ stRelMin with mor := { stRelMin.mor with aocA := false, aocB := false, trip := true, asyncTrip := true } } : State).mor.aocB = false ∧ ({ stRelMin with mor := { stRelMin.mor with aocA := false, aocB := false, trip := true, asyncTrip := true } } : State).mor.trip = true := by decide

theorem wit_TripRecordAndRequests_1 : ({ stRel with mor := { stRel.mor with trip := true, tripNotes := [⟨2, 2, true⟩] } } : State).mor.tripNotes = (⟨2, 2, true⟩ : TripNote) :: ([] : List TripNote) ∧ ({ stRel with mor := { stRel.mor with trip := true, tripNotes := [⟨2, 2, true⟩] } } : State).sc.mainGood = true ∧ ({ stRel with mor := { stRel.mor with trip := true, tripNotes := [⟨2, 2, true⟩] } } : State).sc.selfTestDue = false ∧ ({ stRel with mor := { stRel.mor with trip := true, tripNotes := [⟨2, 2, true⟩] } } : State).sc.holdOnly = false ∧ ({ stRel with mor := { stRel.mor with trip := true, tripNotes := [⟨2, 2, true⟩] } } : State).mor.aocA = true ∧ paUp ({ stRel with mor := { stRel.mor with trip := true, tripNotes := [⟨2, 2, true⟩] } } : State) = true := by decide

theorem wit_TripRecordAndRequests_2 : coreRuns (stRelMin : State) = true ∧ clocked (stRelMin : State) = true ∧ (1 : Nat) < 32 ∧ (2 : BitVec 32).getLsbD (1 : Nat) = true ∧ domSt (stRelMin : State) (1 : Nat) = .released := by decide

theorem wit_TripRecordAndRequests_3 : fwRuns (stHeld : State) = true ∧ (stHeld : State).mor.aocA = true ∧ (1 : Nat) < 32 ∧ (stHeld : State).mor.relReq.getLsbD (1 : Nat) = false ∧ relAble (stHeld : State) (1 : Nat) = true ∧ durableNow (stHeld : State) 0x0004 1 (releasedBody (stHeld : State) (1 : Nat)) (.relReq (1 : Nat)) := by decide

theorem wit_TripRecordAndRequests_4 : fwRuns (upMor (fun m => { m with final := tabSet 0 m.final 1 1 }) stRel : State) = true ∧ (upMor (fun m => { m with final := tabSet 0 m.final 1 1 }) stRel : State).mor.aocA = true ∧ relAble (upMor (fun m => { m with final := tabSet 0 m.final 1 1 }) stRel : State) (1 : Nat) = false := by decide

theorem wit_ReleaseNeedsTheInterlock_1 : exec (.releaseRequest (2 : BitVec 32)) (stHeld : State) = .next (outOf (exec (.releaseRequest 2) stHeld) : State) ∧ domSt (outOf (exec (.releaseRequest 2) stHeld) : State) (1 : Nat) = .released ∧ domSt (stHeld : State) (1 : Nat) ≠ .released := ⟨rfl, by decide, by decide⟩

theorem wit_ReleaseNeedsTheInterlock_2 : ReleaseLocked (stRelMin : State) ∧ tabWf .held (stRelMin : State).mor.dom = true ∧ step (stRelMin : State) = .next (tick stRelMin : State) := ⟨fun _ _ => rfl, by decide, rfl⟩

theorem wit_OtpOperations_1 : coreRuns (stRel : State) = true ∧ (stRel : State).otp.busy = none := by decide

theorem wit_OtpOperations_2 : coreRuns (stRel : State) = true ∧ (stRel : State).otp.busy = none := by decide

theorem wit_OtpOperations_3 : coreRuns (stRel : State) = true ∧ (stRel : State).otp.busy = none ∧ ((200 : BitVec 11).toNat < 516 ∨ 544 ≤ (200 : BitVec 11).toNat) ∧ otpProgramPermitted (stRel : State).otp (stRel : State).mor.lock (200 : BitVec 11).toNat = true ∧ otpBlank (otpWord (stRel : State).otp (200 : BitVec 11).toNat) = true := by decide

theorem wit_OtpOperations_4 : coreRuns (stRel : State) = true ∧ (stRel : State).otp.busy = none ∧ ((128 : BitVec 11).toNat < 516 ∨ 544 ≤ (128 : BitVec 11).toNat) ∧ (otpProgramPermitted (stRel : State).otp (stRel : State).mor.lock (128 : BitVec 11).toNat = false ∨ otpBlank (otpWord (stRel : State).otp (128 : BitVec 11).toNat) = false) := by decide

theorem wit_OtpOperations_5 : coreRuns ({ stRel with otp := { stRel.otp with busy := some .scan } } : State) = true ∧ ({ stRel with otp := { stRel.otp with busy := some .scan } } : State).otp.busy.isSome = true := by decide

theorem wit_OtpOperations_6 : ({ stRel with otp := { stRel.otp with busy := some .scan } } : State).otp.busy.isSome = true ∧ ({ stRel with otp := { stRel.otp with busy := some .scan } } : State).otp.due = [] := by decide

theorem wit_OtpOperations_7 : ({ stRel with otp := { stRel.otp with busy := some (.read 1023) } } : State).otp.busy = some (.read (1023 : Nat)) ∧ ({ stRel with otp := { stRel.otp with busy := some (.read 1023) } } : State).otp.due = [] ∧ 544 ≤ (1023 : Nat) ∧ (1023 : Nat) ≤ 1023 := by decide

theorem wit_OtpOperations_8 : ({ stRel with otp := { stRel.otp with busy := some .scan, due := [.lcStep] } } : State).otp.busy.isSome = true ∧ ({ stRel with otp := { stRel.otp with busy := some .scan, due := [.lcStep] } } : State).otp.due = .lcStep :: ([] : List OtpPend) := by decide

theorem wit_OtpOperations_9 : (stRel : State).otp.busy = none ∧ lcStepPermitted (stRel : State).otp = true := by decide

theorem wit_OtpOperations_10 : coreRuns ({ stRel with otp := { stRel.otp with words := ⟨[(512, ⟨3, 3⟩)]⟩ } } : State) = true ∧ ({ stRel with otp := { stRel.otp with words := ⟨[(512, ⟨3, 3⟩)]⟩ } } : State).otp.busy = none ∧ lcStepPermitted ({ stRel with otp := { stRel.otp with words := ⟨[(512, ⟨3, 3⟩)]⟩ } } : State).otp = false := by decide

theorem wit_LifeCycleSteps_1 : coreRuns (stRel : State) = true ∧ (stRel : State).otp.busy = none ∧ lcStepPermitted (stRel : State).otp = true ∧ durableNow (stRel : State) 0x0041 1 (lcStepBody (stRel : State) (if (true : Bool) then 2 else 1)) .lcStep = true := by decide

theorem wit_LifeCycleSteps_2 : ({ stRel with otp := { stRel.otp with busy := some .lcStep } } : State).otp.busy = some .lcStep ∧ ({ stRel with otp := { stRel.otp with busy := some .lcStep } } : State).otp.due = [] ∧ lcThermometer ({ stRel with otp := { stRel.otp with busy := some .lcStep } } : State).otp = true ∧ lcCount ({ stRel with otp := { stRel.otp with busy := some .lcStep } } : State).otp < 31 := by decide

theorem wit_ProgramsOnlyBlankWords_1 : (stRel : State).otp.busy = none ∧ exec (.otpProgram (200 : BitVec 11) (5 : BitVec 32)) (stRel : State) = .next (outOf (exec (.otpProgram 200 5) stRel) : State) ∧ (outOf (exec (.otpProgram 200 5) stRel) : State).otp.busy = some (.program (200 : BitVec 11).toNat (5 : BitVec 32)) ∧ ((200 : BitVec 11).toNat < 516 ∨ 544 ≤ (200 : BitVec 11).toNat) := ⟨by decide, rfl, by decide, by decide⟩

theorem wit_ChannelQueue_1 : coreRuns (upChan 1 (fun c => { c with fwq := List.replicate 64 ⟨0, 0, 0, 0⟩ }) stRel : State) = true ∧ (1 : Nat) < 17 ∧ 64 ≤ (chanOf (upChan 1 (fun c => { c with fwq := List.replicate 64 ⟨0, 0, 0, 0⟩ }) stRel : State) (1 : Nat)).fwq.length := by decide

theorem wit_ChannelQueue_2 : coreRuns (upChan 1 (fun c => { c with frame := some ⟨.firmware, .read, 0, 0, 4, 1, [⟨0, 0, 4, 0x10000000⟩], false, false, none, 0, false, false⟩ }) stRel : State) = true ∧ (1 : Nat) < 17 ∧ (chanOf (upChan 1 (fun c => { c with frame := some ⟨.firmware, .read, 0, 0, 4, 1, [⟨0, 0, 4, 0x10000000⟩], false, false, none, 0, false, false⟩ }) stRel : State) (1 : Nat)).fwq.length < 64 ∧ (chanOf (upChan 1 (fun c => { c with frame := some ⟨.firmware, .read, 0, 0, 4, 1, [⟨0, 0, 4, 0x10000000⟩], false, false, none, 0, false, false⟩ }) stRel : State) (1 : Nat)).st = .ready ∧ frameFw (chanOf (upChan 1 (fun c => { c with frame := some ⟨.firmware, .read, 0, 0, 4, 1, [⟨0, 0, 4, 0x10000000⟩], false, false, none, 0, false, false⟩ }) stRel : State) (1 : Nat)) ≠ [] := by decide

theorem wit_ChannelQueue_3 : coreRuns (stRel : State) = true ∧ (16 : Nat) < 17 ∧ (chanOf (stRel : State) (16 : Nat)).cq = [] := by decide

theorem wit_ChannelQueue_4 : coreRuns (upChan 1 (fun c => { c with cq := [⟨7, 0⟩] }) stRel : State) = true ∧ (1 : Nat) < 17 ∧ (chanOf (upChan 1 (fun c => { c with cq := [⟨7, 0⟩] }) stRel : State) (1 : Nat)).cq = (⟨7, 0⟩ : QDone) :: ([] : List QDone) ∧ (chanOf (upChan 1 (fun c => { c with cq := [⟨7, 0⟩] }) stRel : State) (1 : Nat)).fwq = [] := by decide

theorem wit_ChannelFrames_1 : (chanOf (upChan 1 (fun c => { c with scrubActive := true }) stRel : State) (1 : Nat)).st = .ready ∧ (chanOf (upChan 1 (fun c => { c with scrubActive := true }) stRel : State) (1 : Nat)).frame = none ∧ arbiter (upChan 1 (fun c => { c with scrubActive := true }) stRel : State) (1 : Nat) = some (.scrub : Client) := by decide +kernel

theorem wit_ChannelFrames_2 : (chanOf (upChan 1 (fun c => { c with frame := some ⟨.firmware, .register, 0, 0, 0, 1, [⟨0x00020106, 0, 0, 0⟩], false, false, none, 0, false, false⟩ }) stRel : State) (1 : Nat)).frame = some (⟨.firmware, .register, 0, 0, 0, 1, [⟨0x00020106, 0, 0, 0⟩], false, false, none, 0, false, false⟩ : Frame) ∧ (⟨.firmware, .register, 0, 0, 0, 1, [⟨0x00020106, 0, 0, 0⟩], false, false, none, 0, false, false⟩ : Frame).client = .firmware ∧ (⟨.firmware, .register, 0, 0, 0, 1, [⟨0x00020106, 0, 0, 0⟩], false, false, none, 0, false, false⟩ : Frame).kind = .register ∧ (⟨.firmware, .register, 0, 0, 0, 1, [⟨0x00020106, 0, 0, 0⟩], false, false, none, 0, false, false⟩ : Frame).entries = [(⟨0x00020106, 0, 0, 0⟩ : QEntry)] ∧ qCont (⟨0x00020106, 0, 0, 0⟩ : QEntry) = false ∧ qDir (⟨0x00020106, 0, 0, 0⟩ : QEntry) = true ∧ (⟨.firmware, .register, 0, 0, 0, 1, [⟨0x00020106, 0, 0, 0⟩], false, false, none, 0, false, false⟩ : Frame).waitWip = false ∧ (⟨.firmware, .register, 0, 0, 0, 1, [⟨0x00020106, 0, 0, 0⟩], false, false, none, 0, false, false⟩ : Frame).tail = none ∧ (chanOf (upChan 1 (fun c => { c with frame := some ⟨.firmware, .register, 0, 0, 0, 1, [⟨0x00020106, 0, 0, 0⟩], false, false, none, 0, false, false⟩ }) stRel : State) (1 : Nat)).fwq = [] := by decide

theorem wit_ChannelFrames_3 : (chanOf (upChan 1 (fun c => { c with cfg := 0x00320001, frame := some ⟨.verify, .read, 0, 0, 64, 1, [], false, false, none, 0, false, false⟩ }) stRel : State) (1 : Nat)).frame = some (⟨.verify, .read, 0, 0, 64, 1, [], false, false, none, 0, false, false⟩ : Frame) ∧ (⟨.verify, .read, 0, 0, 64, 1, [], false, false, none, 0, false, false⟩ : Frame).client = .verify ∧ (⟨.verify, .read, 0, 0, 64, 1, [], false, false, none, 0, false, false⟩ : Frame).kind = .read ∧ (⟨.verify, .read, 0, 0, 64, 1, [], false, false, none, 0, false, false⟩ : Frame).entries = [] ∧ (⟨.verify, .read, 0, 0, 64, 1, [], false, false, none, 0, false, false⟩ : Frame).attempt < 3 ∧ chClk (chanOf (upChan 1 (fun c => { c with cfg := 0x00320001, frame := some ⟨.verify, .read, 0, 0, 64, 1, [], false, false, none, 0, false, false⟩ }) stRel : State) (1 : Nat)) ≤ 50 := by decide

theorem wit_ChannelFrames_4 : (chanOf (upChan 1 (fun c => { c with frame := some ⟨.firmware, .read, 0, 0, 4, 1, [⟨0x00080003, 0, 4, 0x10000000⟩], false, false, none, 0, false, false⟩ }) stRel : State) (1 : Nat)).frame = some (⟨.firmware, .read, 0, 0, 4, 1, [⟨0x00080003, 0, 4, 0x10000000⟩], false, false, none, 0, false, false⟩ : Frame) ∧ (⟨.firmware, .read, 0, 0, 4, 1, [⟨0x00080003, 0, 4, 0x10000000⟩], false, false, none, 0, false, false⟩ : Frame).entries.getLast? = some (⟨0x00080003, 0, 4, 0x10000000⟩ : QEntry) ∧ qCont (⟨0x00080003, 0, 4, 0x10000000⟩ : QEntry) = true ∧ (⟨.firmware, .read, 0, 0, 4, 1, [⟨0x00080003, 0, 4, 0x10000000⟩], false, false, none, 0, false, false⟩ : Frame).ended = false := by decide

theorem wit_ChannelFrames_5 : coreRuns (stRel : State) = true ∧ (16 : Nat) < 17 ∧ (chanOf (stRel : State) (16 : Nat)).fwq.length < 64 ∧ (((chanOf (stRel : State) (16 : Nat)).st ≠ .ready ∧ (chanOf (stRel : State) (16 : Nat)).st ≠ .stopped ∧ (chanOf (stRel : State) (16 : Nat)).st ≠ .failed) ∨ ((chanOf (stRel : State) (16 : Nat)).st = .ready ∧ (frameFw (chanOf (stRel : State) (16 : Nat)) ≠ [] ∨ fwPolls (chanOf (stRel : State) (16 : Nat)) = true)) ∨ placeFree (chanOf (stRel : State) (16 : Nat)) = false) := by decide

theorem wit_ChannelFrames_6 : coreRuns (upChan 1 (fun c => { c with push0 := 0x000001ec, push2 := 4 }) stRel : State) = true ∧ (1 : Nat) < 17 ∧ (chanOf (upChan 1 (fun c => { c with push0 := 0x000001ec, push2 := 4 }) stRel : State) (1 : Nat)).fwq = [] ∧ (chanOf (upChan 1 (fun c => { c with push0 := 0x000001ec, push2 := 4 }) stRel : State) (1 : Nat)).st = .ready ∧ frameFw (chanOf (upChan 1 (fun c => { c with push0 := 0x000001ec, push2 := 4 }) stRel : State) (1 : Nat)) = [] ∧ (chanOf (upChan 1 (fun c => { c with push0 := 0x000001ec, push2 := 4 }) stRel : State) (1 : Nat)).contBroken = false ∧ entryReject (upChan 1 (fun c => { c with push0 := 0x000001ec, push2 := 4 }) stRel : State) (1 : Nat) .first ⟨(chanOf (upChan 1 (fun c => { c with push0 := 0x000001ec, push2 := 4 }) stRel : State) (1 : Nat)).push0, (chanOf (upChan 1 (fun c => { c with push0 := 0x000001ec, push2 := 4 }) stRel : State) (1 : Nat)).push1, (chanOf (upChan 1 (fun c => { c with push0 := 0x000001ec, push2 := 4 }) stRel : State) (1 : Nat)).push2, (0x10000000 : BitVec 32)⟩ = none := by decide

theorem wit_ChannelFrames_7 : coreRuns (upChan 1 (fun c => { c with push2 := 1 }) stRel : State) = true ∧ (1 : Nat) < 17 ∧ (chanOf (upChan 1 (fun c => { c with push2 := 1 }) stRel : State) (1 : Nat)).fwq = [] ∧ (chanOf (upChan 1 (fun c => { c with push2 := 1 }) stRel : State) (1 : Nat)).st = .ready ∧ frameFw (chanOf (upChan 1 (fun c => { c with push2 := 1 }) stRel : State) (1 : Nat)) = [] ∧ fwPolls (chanOf (upChan 1 (fun c => { c with push2 := 1 }) stRel : State) (1 : Nat)) = false ∧ placeFree (chanOf (upChan 1 (fun c => { c with push2 := 1 }) stRel : State) (1 : Nat)) = true ∧ (chanOf (upChan 1 (fun c => { c with push2 := 1 }) stRel : State) (1 : Nat)).contBroken = false ∧ entryReject (upChan 1 (fun c => { c with push2 := 1 }) stRel : State) (1 : Nat) .first ⟨(chanOf (upChan 1 (fun c => { c with push2 := 1 }) stRel : State) (1 : Nat)).push0, (chanOf (upChan 1 (fun c => { c with push2 := 1 }) stRel : State) (1 : Nat)).push1, (chanOf (upChan 1 (fun c => { c with push2 := 1 }) stRel : State) (1 : Nat)).push2, (0 : BitVec 32)⟩ = some (1 : Nat) := by decide

theorem wit_ChannelFrames_8 : coreRuns (stRel : State) = true ∧ (16 : Nat) < 17 ∧ (chanOf (stRel : State) (16 : Nat)).cq = [] := by decide

theorem wit_ChannelFrames_9 : coreRuns (upChan 1 (fun c => { c with cq := [⟨7, 0⟩] }) stRel : State) = true ∧ (1 : Nat) < 17 ∧ (chanOf (upChan 1 (fun c => { c with cq := [⟨7, 0⟩] }) stRel : State) (1 : Nat)).cq = (⟨7, 0⟩ : QDone) :: ([] : List QDone) ∧ ((chanOf (upChan 1 (fun c => { c with cq := [⟨7, 0⟩] }) stRel : State) (1 : Nat)).fwq = [] ∨ ((chanOf (upChan 1 (fun c => { c with cq := [⟨7, 0⟩] }) stRel : State) (1 : Nat)).st = .ready ∧ frameFw (chanOf (upChan 1 (fun c => { c with cq := [⟨7, 0⟩] }) stRel : State) (1 : Nat)) ≠ [])) := by decide

theorem wit_ChannelPollsAndTests_1 : (chanOf (upChan 1 (fun c => { c with wip0 := some ⟨.firmware, some ⟨0x00020106, 0, 0, 0⟩, none⟩ }) stRel : State) (1 : Nat)).wip0 = some ⟨.firmware, some (⟨0x00020106, 0, 0, 0⟩ : QEntry), none⟩ ∧ (chanOf (upChan 1 (fun c => { c with wip0 := some ⟨.firmware, some ⟨0x00020106, 0, 0, 0⟩, none⟩ }) stRel : State) (1 : Nat)).fwq = [] := by decide

theorem wit_ChannelPollsAndTests_2 : (chanOf (upChan 1 (fun c => { c with wip1 := some ⟨.firmware, some ⟨0x00020106, 0, 0, 0⟩, some (⟨7, 0, 0, 0⟩, 2)⟩ }) stRel : State) (1 : Nat)).wip1 = some ⟨.firmware, some (⟨0x00020106, 0, 0, 0⟩ : QEntry), some ((⟨7, 0, 0, 0⟩ : QEntry), (2 : Nat))⟩ ∧ (chanOf (upChan 1 (fun c => { c with wip1 := some ⟨.firmware, some ⟨0x00020106, 0, 0, 0⟩, some (⟨7, 0, 0, 0⟩, 2)⟩ }) stRel : State) (1 : Nat)).fwq = [] := by decide

theorem wit_ChannelPollsAndTests_3 : (1 : Nat) ≠ 0 ∧ (chanOf (stRel : State) (1 : Nat)).st = .ready ∧ (chanOf (stRel : State) (1 : Nat)).frame = none ∧ 50 < chClk (chanOf (stRel : State) (1 : Nat)) ∧ ((8 ≤ (tapRun (⟨0x7f, 0xff000⟩ : Cal).first).2 ∧ (0xff000 : BitVec 64) = (⟨0x7f, 0xff000⟩ : Cal).first) ∨ ((tapRun (⟨0x7f, 0xff000⟩ : Cal).first).2 < 8 ∧ 8 ≤ (tapRun (⟨0x7f, 0xff000⟩ : Cal).again).2 ∧ (0xff000 : BitVec 64) = (⟨0x7f, 0xff000⟩ : Cal).again)) := by decide

theorem wit_ChannelPollsAndTests_4 : (19 : Nat) < 64 ∧ (tapRun (0xff000 : BitVec 64)).1 ≤ (19 : Nat) ∧ (19 : Nat) < (tapRun (0xff000 : BitVec 64)).1 + (tapRun (0xff000 : BitVec 64)).2 := by decide

theorem wit_ChannelPollsAndTests_5 : (chanOf (stRel : State) (1 : Nat)).st = .ready ∧ (chanOf (stRel : State) (1 : Nat)).frame = none ∧ 50 < chClk (chanOf (stRel : State) (1 : Nat)) ∧ (tapRun (⟨0x7f, 0⟩ : Cal).first).2 < 8 ∧ (tapRun (⟨0x7f, 0⟩ : Cal).again).2 < 8 := by decide

theorem wit_ChannelPollsAndTests_6 : (1 : Nat) ≠ 0 ∧ (chanOf (upChan 1 (fun c => { c with st := .selftest, cfg := 0x00320001 }) stRel : State) (1 : Nat)).st = .selftest ∧ chConfigOk (chanOf (upChan 1 (fun c => { c with st := .selftest, cfg := 0x00320001 }) stRel : State) (1 : Nat)) = true ∧ chClk (chanOf (upChan 1 (fun c => { c with st := .selftest, cfg := 0x00320001 }) stRel : State) (1 : Nat)) ≤ 50 ∧ (chanOf (upChan 1 (fun c => { c with st := .selftest, cfg := 0x00320001 }) stRel : State) (1 : Nat)).geom.getLsbD 28 = true ∧ fieldOf (chanOf (upChan 1 (fun c => { c with st := .selftest, cfg := 0x00320001 }) stRel : State) (1 : Nat)).geom 0 6 ≤ (24 : Nat) ∧ (chanOf (upChan 1 (fun c => { c with st := .selftest, cfg := 0x00320001 }) stRel : State) (1 : Nat)).geom.getLsbD 29 = false ∧ ((upChan 1 (fun c => { c with st := .selftest, cfg := 0x00320001 }) stRel : State).replay.any (fun e => decide (e.channel = (1 : Nat)))) = false := by decide

theorem wit_ChannelPollsAndTests_7 : (chanOf (upPort 1 (fun p => { p with journal := [⟨1, 1, 0, 1, 0, false, 0x2000, 1, [7], 3, none⟩] }) stRel : State) (1 : Nat)).st = .ready ∧ (chanOf (upPort 1 (fun p => { p with journal := [⟨1, 1, 0, 1, 0, false, 0x2000, 1, [7], 3, none⟩] }) stRel : State) (1 : Nat)).commit = none ∧ nextCommit (upPort 1 (fun p => { p with journal := [⟨1, 1, 0, 1, 0, false, 0x2000, 1, [7], 3, none⟩] }) stRel : State) (1 : Nat) = some ((⟨1, 1, 0, 1, 0, false, 0x2000, 1, [7], 3, none⟩ : JEntry), false) := by decide

theorem wit_ChannelPollsAndTests_8 : (chanOf (stRel : State) (1 : Nat)).st = .ready ∧ (stRel : State).run.policy.bind (fun p => polChannel p (1 : Nat)) = some (tChan : ChannelRec) ∧ (tChan : ChannelRec).scrubPeriod ≠ 0 ∧ ((imgsOn (stRel : State) (1 : Nat)).all (imgSettled (stRel : State))) = true := by decide

theorem wit_StoppedChannelIsEmptied_1 : (1 : Nat) ≠ 0 ∧ (chanOf (stRel : State) (1 : Nat)).vio.isSome = true ∧ ((chanOf (stRel : State) (1 : Nat)).st = .ready ∨ (chanOf (stRel : State) (1 : Nat)).st = .replay) := by decide

theorem wit_RejectedOpcodesNeverRun_1 : fwOpOk (chanOf (stRel : State) (1 : Nat)) (1 : Nat) (⟨0x00000102, 0, 0, 0⟩ : QEntry) = false := by decide

theorem wit_RejectedOpcodesNeverRun_2 : (1 : Nat) ≠ 0 ∧ qProto (⟨0x00120102, 0, 4, 0x10000000⟩ : QEntry) = 1 ∧ (stRel : State).grant = none := by decide

theorem wit_RejectedOpcodesNeverRun_3 : (⟨0x00020102, 0, 0, 0⟩ : QEntry).len.toNat % 4 = 0 ∧ (⟨0x00020102, 0, 0, 0⟩ : QEntry).len.toNat ≤ 16777216 ∧ (⟨0x00020102, 0, 0, 0⟩ : QEntry).ctrl.getLsbD 23 = false ∧ qProto (⟨0x00020102, 0, 0, 0⟩ : QEntry) ≠ 3 ∧ qDummy (⟨0x00020102, 0, 0, 0⟩ : QEntry) ≤ 32 ∧ qAddrMode (⟨0x00020102, 0, 0, 0⟩ : QEntry) ≠ 3 ∧ (0 < (⟨0x00020102, 0, 0, 0⟩ : QEntry).len.toNat → (⟨0x00020102, 0, 0, 0⟩ : QEntry).buf.toNat % 4 = 0 ∧ inSram (⟨0x00020102, 0, 0, 0⟩ : QEntry).buf.toNat (⟨0x00020102, 0, 0, 0⟩ : QEntry).len.toNat = true) ∧ (qCont (⟨0x00020102, 0, 0, 0⟩ : QEntry) = true → qProto (⟨0x00020102, 0, 0, 0⟩ : QEntry) = 0 ∧ qDir (⟨0x00020102, 0, 0, 0⟩ : QEntry) = false) ∧ fwOpOk (chanOf (stRel : State) (1 : Nat)) (1 : Nat) (⟨0x00020102, 0, 0, 0⟩ : QEntry) = false := by decide

theorem wit_RejectedOpcodesNeverRun_4 : (1 : Nat) ≠ 0 ∧ (⟨0x002001dc, 0, 0, 0⟩ : QEntry).len.toNat % 4 = 0 ∧ (⟨0x002001dc, 0, 0, 0⟩ : QEntry).len.toNat ≤ 16777216 ∧ (⟨0x002001dc, 0, 0, 0⟩ : QEntry).ctrl.getLsbD 23 = false ∧ qProto (⟨0x002001dc, 0, 0, 0⟩ : QEntry) ≠ 3 ∧ qDummy (⟨0x002001dc, 0, 0, 0⟩ : QEntry) ≤ 32 ∧ qAddrMode (⟨0x002001dc, 0, 0, 0⟩ : QEntry) ≠ 3 ∧ (0 < (⟨0x002001dc, 0, 0, 0⟩ : QEntry).len.toNat → (⟨0x002001dc, 0, 0, 0⟩ : QEntry).buf.toNat % 4 = 0 ∧ inSram (⟨0x002001dc, 0, 0, 0⟩ : QEntry).buf.toNat (⟨0x002001dc, 0, 0, 0⟩ : QEntry).len.toNat = true) ∧ (qCont (⟨0x002001dc, 0, 0, 0⟩ : QEntry) = true → qProto (⟨0x002001dc, 0, 0, 0⟩ : QEntry) = 0 ∧ qDir (⟨0x002001dc, 0, 0, 0⟩ : QEntry) = false) ∧ fwOpOk (chanOf (stRel : State) (1 : Nat)) (1 : Nat) (⟨0x002001dc, 0, 0, 0⟩ : QEntry) = true ∧ qIsErase (chanOf (stRel : State) (1 : Nat)) (1 : Nat) (⟨0x002001dc, 0, 0, 0⟩ : QEntry) = true ∧ fwLockOk (stRel : State) (1 : Nat) (qDev (⟨0x002001dc, 0, 0, 0⟩ : QEntry)) (⟨0x002001dc, 0, 0, 0⟩ : QEntry).addr.toNat (qEraseLen (chanOf (stRel : State) (1 : Nat)) (1 : Nat) (⟨0x002001dc, 0, 0, 0⟩ : QEntry)) = false := by decide

theorem wit_RejectedOpcodesNeverRun_5 : (1 : Nat) ≠ 0 ∧ (⟨0x00120112, 0x2000, 4, 0x10000000⟩ : QEntry).len.toNat % 4 = 0 ∧ (⟨0x00120112, 0x2000, 4, 0x10000000⟩ : QEntry).len.toNat ≤ 16777216 ∧ (⟨0x00120112, 0x2000, 4, 0x10000000⟩ : QEntry).ctrl.getLsbD 23 = false ∧ qProto (⟨0x00120112, 0x2000, 4, 0x10000000⟩ : QEntry) ≠ 3 ∧ qDummy (⟨0x00120112, 0x2000, 4, 0x10000000⟩ : QEntry) ≤ 32 ∧ qAddrMode (⟨0x00120112, 0x2000, 4, 0x10000000⟩ : QEntry) ≠ 3 ∧ (0 < (⟨0x00120112, 0x2000, 4, 0x10000000⟩ : QEntry).len.toNat → (⟨0x00120112, 0x2000, 4, 0x10000000⟩ : QEntry).buf.toNat % 4 = 0 ∧ inSram (⟨0x00120112, 0x2000, 4, 0x10000000⟩ : QEntry).buf.toNat (⟨0x00120112, 0x2000, 4, 0x10000000⟩ : QEntry).len.toNat = true) ∧ (qCont (⟨0x00120112, 0x2000, 4, 0x10000000⟩ : QEntry) = true → qProto (⟨0x00120112, 0x2000, 4, 0x10000000⟩ : QEntry) = 0 ∧ qDir (⟨0x00120112, 0x2000, 4, 0x10000000⟩ : QEntry) = false) ∧ fwOpOk (chanOf (stRel : State) (1 : Nat)) (1 : Nat) (⟨0x00120112, 0x2000, 4, 0x10000000⟩ : QEntry) = true ∧ qProto (⟨0x00120112, 0x2000, 4, 0x10000000⟩ : QEntry) = 1 ∧ fwLockOk (stRel : State) (1 : Nat) (qDev (⟨0x00120112, 0x2000, 4, 0x10000000⟩ : QEntry)) (⟨0x00120112, 0x2000, 4, 0x10000000⟩ : QEntry).addr.toNat (⟨0x00120112, 0x2000, 4, 0x10000000⟩ : QEntry).len.toNat = false := by decide

theorem wit_RejectedOpcodesNeverRun_6 : 0 < (4 : Nat) ∧ ((stRel : State).mor.lock = false ∨ (stRel : State).grant = none ∨ (∃ g, (stRel : State).grant = some g ∧ (g.channel ≠ (1 : Nat) ∨ g.device ≠ (0 : Nat) ∨ (0x2000 : Nat) < g.base ∨ g.base + g.length < (0x2000 : Nat) + (4 : Nat)))) := ⟨by decide, Or.inr (Or.inl rfl)⟩

theorem wit_RejectedOpcodesNeverRun_7 : (1 : Nat) ≠ 0 ∧ entryReject ({ stRel with run := { stRel.run with policy := some { tPol with locks := [⟨1, 0, 2, 0x2000, 0x1000⟩] } }, grant := some ⟨1, 0, 0x2000, 0x1000⟩ } : State) (1 : Nat) .first (⟨0x00120112, 0x2000, 4, 0x10000000⟩ : QEntry) = none ∧ ((qProto (⟨0x00120112, 0x2000, 4, 0x10000000⟩ : QEntry) = 1 ∧ (⟨0x00120112, 0x2000, 4, 0x10000000⟩ : QEntry).addr.toNat ≤ (0x2000 : Nat) ∧ (0x2000 : Nat) < (⟨0x00120112, 0x2000, 4, 0x10000000⟩ : QEntry).addr.toNat + (⟨0x00120112, 0x2000, 4, 0x10000000⟩ : QEntry).len.toNat) ∨ (qIsErase (chanOf ({ stRel with run := { stRel.run with policy := some { tPol with locks := [⟨1, 0, 2, 0x2000, 0x1000⟩] } }, grant := some ⟨1, 0, 0x2000, 0x1000⟩ } : State) (1 : Nat)) (1 : Nat) (⟨0x00120112, 0x2000, 4, 0x10000000⟩ : QEntry) = true ∧ (⟨0x00120112, 0x2000, 4, 0x10000000⟩ : QEntry).addr.toNat ≤ (0x2000 : Nat) ∧ (0x2000 : Nat) < (⟨0x00120112, 0x2000, 4, 0x10000000⟩ : QEntry).addr.toNat + qEraseLen (chanOf ({ stRel with run := { stRel.run with policy := some { tPol with locks := [⟨1, 0, 2, 0x2000, 0x1000⟩] } }, grant := some ⟨1, 0, 0x2000, 0x1000⟩ } : State) (1 : Nat)) (1 : Nat) (⟨0x00120112, 0x2000, 4, 0x10000000⟩ : QEntry))) := by decide

theorem wit_RejectedOpcodesNeverRun_8 : (stRel : State).run.policy = some (tPol : PolicyImage) ∧ (3 : Nat) ∈ classesOf (tPol : PolicyImage) (1 : Nat) (0 : Nat) (0x2000 : Nat) (4 : Nat) ∧ (3 : Nat) ≠ 2 := by decide

theorem wit_RejectedOpcodesNeverRun_9 : (1 : Nat) ≠ 0 ∧ ({ stRel with run := { stRel.run with policy := some { tPol with locks := [⟨1, 0, 2, 0x2000, 0x1000⟩] } }, grant := some ⟨1, 0, 0x2000, 0x1000⟩ } : State).run.policy = some ({ tPol with locks := [⟨1, 0, 2, 0x2000, 0x1000⟩] } : PolicyImage) ∧ entryReject ({ stRel with run := { stRel.run with policy := some { tPol with locks := [⟨1, 0, 2, 0x2000, 0x1000⟩] } }, grant := some ⟨1, 0, 0x2000, 0x1000⟩ } : State) (1 : Nat) .first (⟨0x00120112, 0x2000, 4, 0x10000000⟩ : QEntry) = none ∧ ((qProto (⟨0x00120112, 0x2000, 4, 0x10000000⟩ : QEntry) = 1 ∧ (2 : Nat) ∈ classesOf ({ tPol with locks := [⟨1, 0, 2, 0x2000, 0x1000⟩] } : PolicyImage) (1 : Nat) (qDev (⟨0x00120112, 0x2000, 4, 0x10000000⟩ : QEntry)) (⟨0x00120112, 0x2000, 4, 0x10000000⟩ : QEntry).addr.toNat (⟨0x00120112, 0x2000, 4, 0x10000000⟩ : QEntry).len.toNat) ∨ (qIsErase (chanOf ({ stRel with run := { stRel.run with policy := some { tPol with locks := [⟨1, 0, 2, 0x2000, 0x1000⟩] } }, grant := some ⟨1, 0, 0x2000, 0x1000⟩ } : State) (1 : Nat)) (1 : Nat) (⟨0x00120112, 0x2000, 4, 0x10000000⟩ : QEntry) = true ∧ (2 : Nat) ∈ classesOf ({ tPol with locks := [⟨1, 0, 2, 0x2000, 0x1000⟩] } : PolicyImage) (1 : Nat) (qDev (⟨0x00120112, 0x2000, 4, 0x10000000⟩ : QEntry)) (⟨0x00120112, 0x2000, 4, 0x10000000⟩ : QEntry).addr.toNat (qEraseLen (chanOf ({ stRel with run := { stRel.run with policy := some { tPol with locks := [⟨1, 0, 2, 0x2000, 0x1000⟩] } }, grant := some ⟨1, 0, 0x2000, 0x1000⟩ } : State) (1 : Nat)) (1 : Nat) (⟨0x00120112, 0x2000, 4, 0x10000000⟩ : QEntry)))) := by decide

theorem wit_RejectedOpcodesNeverRun_10 : ((0x4000, 0x1000, 4) : Nat × Nat × Nat) ∈ lockRanges (tPol : PolicyImage) (1 : Nat) (0 : Nat) ∧ (0x3ffc : Nat) < ((0x4000, 0x1000, 4) : Nat × Nat × Nat).1 + ((0x4000, 0x1000, 4) : Nat × Nat × Nat).2.1 ∧ ((0x4000, 0x1000, 4) : Nat × Nat × Nat).1 < (0x3ffc : Nat) + (8 : Nat) := by decide

theorem wit_RejectedOpcodesNeverRun_11 : (0x1ffc : Nat) ≤ (0x1fff : Nat) ∧ (0x1fff : Nat) < (0x1ffc : Nat) + (8 : Nat) ∧ (∀ r ∈ lockRanges (tPol : PolicyImage) (1 : Nat) (0 : Nat), (0x1fff : Nat) < r.1 ∨ r.1 + r.2.1 ≤ (0x1fff : Nat)) := by decide

theorem wit_CorePairs_1 : pairRuns (stRel : State) = true ∧ (stRel : State).sc.switching = false ∧ (stRel : State).sc.pairA = true ∧ (stRel : State).sc.pairB = true := by decide

theorem wit_CorePairs_2 : pairRuns (upSc (fun c => { c with pairB := false }) stRel : State) = true ∧ (upSc (fun c => { c with pairB := false }) stRel : State).sc.switching = false ∧ ((upSc (fun c => { c with pairB := false }) stRel : State).sc.pairA && (upSc (fun c => { c with pairB := false }) stRel : State).sc.pairB) = false := by decide

theorem wit_CorePairs_3 : pairRuns (stRel : State) = true ∧ (stRel : State).sc.pairA = true ∧ (stRel : State).sc.pairB = true := by decide

theorem wit_CorePairs_4 : coreRuns (stRel : State) = true := by decide

theorem wit_CorePairs_5 : (upSc (fun c => { c with running := false, restartDue := true }) stRelMin : State).sc.mainGood = true ∧ (upSc (fun c => { c with running := false, restartDue := true }) stRelMin : State).sc.restartDue = true ∧ (upSc (fun c => { c with running := false, restartDue := true }) stRelMin : State).sc.running = false ∧ restartsFirmware (upSc (fun c => { c with running := false, restartDue := true }) stRelMin : State) = true := by decide

theorem wit_CorePairs_6 : (upSc (fun c => { c with switching := true }) stRelMin : State).sc.switching = true := by decide

theorem wit_CoreRegistersAndInterrupts_1 : coreRuns ({ stRel with sc := { stRel.sc with sramLimit := none } } : State) = true ∧ ({ stRel with sc := { stRel.sc with sramLimit := none } } : State).sc.sramLimit = none ∧ (128 : BitVec 8).toNat ≤ 128 := by decide

theorem wit_CoreRegistersAndInterrupts_2 : coreRuns (stRel : State) = true ∧ ((stRel : State).sc.sramLimit.isSome = true ∨ 128 < (129 : BitVec 8).toNat) := by decide

theorem wit_CoreRegistersAndInterrupts_3 : coreRuns (stRel : State) = true := by decide

theorem wit_CoreRegistersAndInterrupts_4 : coreRuns (stRel : State) = true := by decide

theorem wit_CoreRegistersAndInterrupts_5 : coreRuns (stRel : State) = true ∧ (stRel : State).sic.pend &&& (stRel : State).sic.en = 0 := ⟨by decide, BitVec.and_zero⟩

theorem wit_CoreRegistersAndInterrupts_6 : (stRel : State).sc.mainGood = true ∧ (479 : Nat) < 480 := by decide

theorem wit_CoreRegistersAndInterrupts_7 : pairRuns (stRel : State) = true ∧ (stRel : State).sc.pairA = true ∧ (stRel : State).sc.pairB = true := by decide

theorem wit_CoreRegistersAndInterrupts_8 : pairRuns (upSc (fun c => { c with pairB := false }) stRel : State) = true ∧ ((upSc (fun c => { c with pairB := false }) stRel : State).sc.pairA && (upSc (fun c => { c with pairB := false }) stRel : State).sc.pairB) = false := by decide

theorem wit_CoreRegistersAndInterrupts_9 : pairRuns (stRel : State) = true ∧ (stRel : State).sc.pairA = true ∧ (stRel : State).sc.pairB = true := by decide

theorem wit_CoreRegistersAndInterrupts_10 : (upSc (fun c => { c with switching := true }) stRelMin : State).sc.switching = true := by decide

theorem wit_CoreRegistersAndInterrupts_11 : coreRuns (stRel : State) = true := by decide

theorem wit_CoreRegistersAndInterrupts_12 : (upSc (fun c => { c with running := false, restartDue := true }) stRelMin : State).sc.mainGood = true ∧ (upSc (fun c => { c with running := false, restartDue := true }) stRelMin : State).sc.restartDue = true ∧ (upSc (fun c => { c with running := false, restartDue := true }) stRelMin : State).sc.running = false ∧ restartsFirmware (upSc (fun c => { c with running := false, restartDue := true }) stRelMin : State) = true := by decide

theorem wit_CoreRegistersAndInterrupts_13 : (upSc (fun c => { c with running := false, restartDue := true }) stRelMin : State).sc.mainGood = true ∧ (upSc (fun c => { c with running := false, restartDue := true }) stRelMin : State).sc.restartDue = true ∧ (upSc (fun c => { c with running := false, restartDue := true }) stRelMin : State).sc.running = false ∧ ((upSc (fun c => { c with running := false, restartDue := true }) stRelMin : State).sc.pairA && (false : Bool)) = false ∧ ((upSc (fun c => { c with running := false, restartDue := true }) stRelMin : State).sc.pairB && (false : Bool)) = false := by decide

theorem wit_Watchdog_1 : coreRuns (stRel : State) = true ∧ ((stRel : State).sc.fault = false ∨ ((stRel : State).sc.running = false ∧ (stRel : State).mor.floorCause ≠ 0)) ∧ ((stRel : State).wdt.st ≠ .running ∨ (stRel : State).wdt.count ≠ 0) := by decide

theorem wit_Watchdog_2 : coreRuns (upWdt (fun w => { w with count := 0 }) stRel : State) = true ∧ ((upWdt (fun w => { w with count := 0 }) stRel : State).sc.fault = false ∨ ((upWdt (fun w => { w with count := 0 }) stRel : State).sc.running = false ∧ (upWdt (fun w => { w with count := 0 }) stRel : State).mor.floorCause ≠ 0)) ∧ (upWdt (fun w => { w with count := 0 }) stRel : State).wdt.st = .running ∧ (upWdt (fun w => { w with count := 0 }) stRel : State).wdt.count = 0 := by decide

theorem wit_Watchdog_3 : coreRuns (stRel : State) = true ∧ (stRel : State).wdt.lock = false ∧ (stRel : State).wdt.st = .running := by decide

theorem wit_Watchdog_4 : coreRuns (upWdt (fun w => { w with lock := true }) stRel : State) = true ∧ (upWdt (fun w => { w with lock := true }) stRel : State).wdt.lock = true := by decide

theorem wit_Watchdog_5 : coreRuns (upWdt (fun w => { w with lock := true, st := .disabled }) stRel : State) = true ∧ (0xf : BitVec 32).getLsbD 0 = true ∧ (upWdt (fun w => { w with lock := true, st := .disabled }) stRel : State).wdt.lock = true ∧ (upWdt (fun w => { w with lock := true, st := .disabled }) stRel : State).wdt.st = .disabled := by decide

theorem wit_Watchdog_6 : pairRuns (upWdt (fun w => { w with count := 0 }) stRel : State) = true ∧ (upWdt (fun w => { w with count := 0 }) stRel : State).wdt.st = .running ∧ (upWdt (fun w => { w with count := 0 }) stRel : State).wdt.count = 0 ∧ variantCode (upWdt (fun w => { w with count := 0 }) stRel : State).otp.feat ≠ 3 := by decide

theorem wit_Watchdog_7 : pairRuns ({ stRel with otp := { stRel.otp with feat := 0x03 }, wdt := { stRel.wdt with count := 0 } } : State) = true ∧ ({ stRel with otp := { stRel.otp with feat := 0x03 }, wdt := { stRel.wdt with count := 0 } } : State).wdt.st = .running ∧ ({ stRel with otp := { stRel.otp with feat := 0x03 }, wdt := { stRel.wdt with count := 0 } } : State).wdt.count = 0 ∧ variantCode ({ stRel with otp := { stRel.otp with feat := 0x03 }, wdt := { stRel.wdt with count := 0 } } : State).otp.feat = 3 := by decide

theorem wit_Watchdog_8 : ({ upWdt (fun w => { w with st := .grace }) stRel with aot := 1000 } : State).wdt.st = .grace ∧ (({ upWdt (fun w => { w with st := .grace }) stRel with aot := 1000 } : State).mor.aocA = true ∨ ({ upWdt (fun w => { w with st := .grace }) stRel with aot := 1000 } : State).mor.aocB = true) ∧ 1000 * 2 ^ ({ upWdt (fun w => { w with st := .grace }) stRel with aot := 1000 } : State).wdt.graceStep ≤ (({ upWdt (fun w => { w with st := .grace }) stRel with aot := 1000 } : State).aot + 2 ^ 48 - ({ upWdt (fun w => { w with st := .grace }) stRel with aot := 1000 } : State).wdt.hardFrom) % 2 ^ 48 := by decide

theorem wit_Watchdog_9 : pairRuns (upWdt (fun w => { w with clkSel := true }) stRel : State) = true ∧ ((upWdt (fun w => { w with clkSel := true }) stRel : State).wdt.clkSel = true ∨ (upWdt (fun w => { w with clkSel := true }) stRel : State).mor.aocA = false) := by decide

theorem wit_DigestContexts_1 : coreRuns (stRel : State) = true ∧ (stRel : State).dga.pending = false ∧ 1 ≤ (5 : BitVec 3).toNat ∧ (5 : BitVec 3).toNat ≤ 5 := by decide

theorem wit_DigestContexts_2 : coreRuns (stRel : State) = true ∧ (stRel : State).dga.pending = false ∧ ((6 : BitVec 3).toNat = 0 ∨ 5 < (6 : BitVec 3).toNat) := by decide

theorem wit_DigestContexts_3 : (dgaNow (upDga (fun d => { d with pending := true, openAlg := 2, waits := [.core] }) stRel : State)).pending = true ∧ dgaNext (dgaNow (upDga (fun d => { d with pending := true, openAlg := 2, waits := [.core] }) stRel : State)) = some .core ∧ dgaPlace (dgaNow (upDga (fun d => { d with pending := true, openAlg := 2, waits := [.core] }) stRel : State)) = some (0 : Nat) := by decide

theorem wit_DigestContexts_4 : coreRuns (upDga (fun d => { d with ctxs := ⟨[(0, some ⟨2, false, [], [], [], 0⟩)]⟩ }) stRel : State) = true ∧ tabGet none (upDga (fun d => { d with ctxs := ⟨[(0, some ⟨2, false, [], [], [], 0⟩)]⟩ }) stRel : State).dga.ctxs (upDga (fun d => { d with ctxs := ⟨[(0, some ⟨2, false, [], [], [], 0⟩)]⟩ }) stRel : State).dga.sel = some (⟨2, false, [], [], [], 0⟩ : DgaCtx) ∧ (⟨2, false, [], [], [], 0⟩ : DgaCtx).finished = false := by decide

theorem wit_DigestContexts_5 : coreRuns (upDga (fun d => { d with ctxs := ⟨[(0, some ⟨2, false, [], [], [], 0⟩)]⟩ }) stRel : State) = true ∧ tabGet none (upDga (fun d => { d with ctxs := ⟨[(0, some ⟨2, false, [], [], [], 0⟩)]⟩ }) stRel : State).dga.ctxs (upDga (fun d => { d with ctxs := ⟨[(0, some ⟨2, false, [], [], [], 0⟩)]⟩ }) stRel : State).dga.sel = some (⟨2, false, [], [], [], 0⟩ : DgaCtx) ∧ (⟨2, false, [], [], [], 0⟩ : DgaCtx).finished = false := by decide

theorem wit_DigestContexts_6 : coreRuns (upDga (fun d => { d with ctxs := ⟨[(0, some ⟨2, true, [1], [9], [], 2⟩)]⟩ }) stRel : State) = true ∧ tabGet none (upDga (fun d => { d with ctxs := ⟨[(0, some ⟨2, true, [1], [9], [], 2⟩)]⟩ }) stRel : State).dga.ctxs (upDga (fun d => { d with ctxs := ⟨[(0, some ⟨2, true, [1], [9], [], 2⟩)]⟩ }) stRel : State).dga.sel = some (⟨2, true, [1], [9], [], 2⟩ : DgaCtx) ∧ (⟨2, true, [1], [9], [], 2⟩ : DgaCtx).finished = true := by decide

theorem wit_DigestContexts_7 : coreRuns (upDga (fun d => { d with ctxs := ⟨[(0, some ⟨2, true, [1], [9], [], 2⟩)]⟩ }) stRel : State) = true ∧ tabGet none (upDga (fun d => { d with ctxs := ⟨[(0, some ⟨2, true, [1], [9], [], 2⟩)]⟩ }) stRel : State).dga.ctxs (upDga (fun d => { d with ctxs := ⟨[(0, some ⟨2, true, [1], [9], [], 2⟩)]⟩ }) stRel : State).dga.sel = some (⟨2, true, [1], [9], [], 2⟩ : DgaCtx) ∧ (⟨2, true, [1], [9], [], 2⟩ : DgaCtx).finished = true ∧ ([] : Bytes) = (le 4 (⟨5, 0⟩ : DgaLast).word.toNat).take (upDga (fun d => { d with ctxs := ⟨[(0, some ⟨2, true, [1], [9], [], 2⟩)]⟩ }) stRel : State).dga.lastCnt := by decide

theorem wit_DigestContexts_9 : coreRuns (upDga (fun d => { d with ctxs := ⟨[(0, some ⟨2, false, [], [], [], 0⟩)]⟩ }) stRel : State) = true ∧ (tabGet none (upDga (fun d => { d with ctxs := ⟨[(0, some ⟨2, false, [], [], [], 0⟩)]⟩ }) stRel : State).dga.ctxs (0 : BitVec 8).toNat).isSome = true := by decide

theorem wit_DigestContexts_10 : coreRuns (upDga (fun d => { d with ctxs := ⟨[(0, some ⟨2, false, [], [], [], 0⟩)]⟩ }) stRel : State) = true ∧ tabGet none (upDga (fun d => { d with ctxs := ⟨[(0, some ⟨2, false, [], [], [], 0⟩)]⟩ }) stRel : State).dga.ctxs (upDga (fun d => { d with ctxs := ⟨[(0, some ⟨2, false, [], [], [], 0⟩)]⟩ }) stRel : State).dga.sel = some (⟨2, false, [], [], [], 0⟩ : DgaCtx) := by decide

theorem wit_DigestContexts_11 : coreRuns (stRel : State) = true ∧ tabGet none (stRel : State).dga.ctxs (255 : BitVec 8).toNat = none ∧ tabGet none (stRel : State).dga.ctxs (stRel : State).dga.sel = none := by decide

theorem wit_SignatureOperationsStart_1 : coreRuns (stSig : State) = true ∧ (sigOf (stSig : State) (false : Bool)).busy = none ∧ (sigOf (stSig : State) (false : Bool)).mlen.toNat ≤ 262144 ∧ sramAddr (sigOf (stSig : State) (false : Bool)).msg (sigOf (stSig : State) (false : Bool)).mlen.toNat = true ∧ sramAddr (sigOf (stSig : State) (false : Bool)).key (sigKeyLen 1 0) = true ∧ sramAddr (sigOf (stSig : State) (false : Bool)).sig (sigSigLen 1) = true ∧ sramAddr (sigOf (stSig : State) (false : Bool)).out (sigOutLen 1) = true := by decide

theorem wit_SignatureOperationsStart_2 : coreRuns (stSig : State) = true ∧ (sigOf (stSig : State) (false : Bool)).busy = none ∧ (sigOf (stSig : State) (false : Bool)).mlen.toNat ≤ 262144 ∧ sramAddr (sigOf (stSig : State) (false : Bool)).msg (sigOf (stSig : State) (false : Bool)).mlen.toNat = true ∧ sramAddr (sigOf (stSig : State) (false : Bool)).key (sigKeyLen 2 1) = true ∧ sramAddr (sigOf (stSig : State) (false : Bool)).sig (sigSigLen 2) = true ∧ sramAddr (sigOf (stSig : State) (false : Bool)).out (sigOutLen 2) = true := by decide

theorem wit_SignatureOperationsStart_3 : coreRuns (stSig : State) = true ∧ (sigOf (stSig : State) (false : Bool)).busy = none ∧ (sigOf (stSig : State) (false : Bool)).mlen.toNat ≤ 262144 ∧ sramAddr (sigOf (stSig : State) (false : Bool)).msg (sigOf (stSig : State) (false : Bool)).mlen.toNat = true ∧ sramAddr (sigOf (stSig : State) (false : Bool)).key (sigKeyLen 3 0) = true ∧ sramAddr (sigOf (stSig : State) (false : Bool)).sig (sigSigLen 3) = true ∧ sramAddr (sigOf (stSig : State) (false : Bool)).out (sigOutLen 3) = true := by decide

theorem wit_SignatureOperationsStart_4 : coreRuns (stSig : State) = true ∧ (sigOf (stSig : State) (false : Bool)).busy = none ∧ (sigOf (stSig : State) (false : Bool)).mlen.toNat ≤ 262144 ∧ sramAddr (sigOf (stSig : State) (false : Bool)).msg (sigOf (stSig : State) (false : Bool)).mlen.toNat = true ∧ sramAddr (sigOf (stSig : State) (false : Bool)).key (sigKeyLen 4 1) = true ∧ sramAddr (sigOf (stSig : State) (false : Bool)).sig (sigSigLen 4) = true ∧ sramAddr (sigOf (stSig : State) (false : Bool)).out (sigOutLen 4) = true := by decide

theorem wit_SignatureOperationsStart_5 : coreRuns (stSig : State) = true ∧ (sigOf (stSig : State) (false : Bool)).busy = none ∧ (sigOf (stSig : State) (false : Bool)).mlen.toNat ≤ 262144 ∧ sramAddr (sigOf (stSig : State) (false : Bool)).msg (sigOf (stSig : State) (false : Bool)).mlen.toNat = true ∧ sramAddr (sigOf (stSig : State) (false : Bool)).key (sigKeyLen 5 0) = true ∧ sramAddr (sigOf (stSig : State) (false : Bool)).sig (sigSigLen 5) = true ∧ sramAddr (sigOf (stSig : State) (false : Bool)).out (sigOutLen 5) = true := by decide

theorem wit_SignatureOperationsStart_6 : coreRuns (stSig : State) = true ∧ (sigOf (stSig : State) (false : Bool)).busy = none ∧ (sigOf (stSig : State) (false : Bool)).mlen.toNat ≤ 262144 ∧ sramAddr (sigOf (stSig : State) (false : Bool)).msg (sigOf (stSig : State) (false : Bool)).mlen.toNat = true ∧ sramAddr (sigOf (stSig : State) (false : Bool)).key (sigKeyLen 6 1) = true ∧ sramAddr (sigOf (stSig : State) (false : Bool)).sig (sigSigLen 6) = true ∧ sramAddr (sigOf (stSig : State) (false : Bool)).out (sigOutLen 6) = true := by decide

theorem wit_SignatureOperationsStart_7 : coreRuns (stSig : State) = true ∧ (sigOf (stSig : State) (false : Bool)).busy = none ∧ (sigOf (stSig : State) (false : Bool)).mlen.toNat ≤ 262144 ∧ sramAddr (sigOf (stSig : State) (false : Bool)).msg (sigOf (stSig : State) (false : Bool)).mlen.toNat = true ∧ sramAddr (sigOf (stSig : State) (false : Bool)).key (sigKeyLen 7 0) = true ∧ sramAddr (sigOf (stSig : State) (false : Bool)).sig (sigSigLen 7) = true ∧ sramAddr (sigOf (stSig : State) (false : Bool)).out (sigOutLen 7) = true := by decide

theorem wit_SignatureOperationsStart_8 : coreRuns (stSig : State) = true ∧ (sigOf (stSig : State) (false : Bool)).busy = none ∧ (sigOf (stSig : State) (false : Bool)).mlen.toNat ≤ 262144 ∧ sramAddr (sigOf (stSig : State) (false : Bool)).msg (sigOf (stSig : State) (false : Bool)).mlen.toNat = true ∧ sramAddr (sigOf (stSig : State) (false : Bool)).key (sigKeyLen 8 0) = true ∧ sramAddr (sigOf (stSig : State) (false : Bool)).sig (sigSigLen 8) = true ∧ sramAddr (sigOf (stSig : State) (false : Bool)).out (sigOutLen 8) = true := by decide

theorem wit_SignatureOperationsStart_9 : coreRuns (stSig : State) = true ∧ (sigOf (stSig : State) (false : Bool)).busy = none ∧ (sigOf (stSig : State) (false : Bool)).mlen.toNat ≤ 262144 ∧ sramAddr (sigOf (stSig : State) (false : Bool)).msg (sigOf (stSig : State) (false : Bool)).mlen.toNat = true ∧ sramAddr (sigOf (stSig : State) (false : Bool)).key (sigKeyLen 9 0) = true ∧ sramAddr (sigOf (stSig : State) (false : Bool)).sig (sigSigLen 9) = true ∧ sramAddr (sigOf (stSig : State) (false : Bool)).out (sigOutLen 9) = true := by decide

theorem wit_SignatureOperationsStart_10 : coreRuns (stSig : State) = true ∧ (sigOf (stSig : State) (false : Bool)).busy = none ∧ (sigOf (stSig : State) (false : Bool)).mlen.toNat ≤ 262144 ∧ sramAddr (sigOf (stSig : State) (false : Bool)).msg (sigOf (stSig : State) (false : Bool)).mlen.toNat = true ∧ sramAddr (sigOf (stSig : State) (false : Bool)).key (sigKeyLen 10 0) = true ∧ sramAddr (sigOf (stSig : State) (false : Bool)).sig (sigSigLen 10) = true ∧ sramAddr (sigOf (stSig : State) (false : Bool)).out (sigOutLen 10) = true := by decide

theorem wit_SignatureOperationsStart_11 : coreRuns ({ stSig with sig0 := { stSig.sig0 with kemKey := some 3 } } : State) = true ∧ (sigOf ({ stSig with sig0 := { stSig.sig0 with kemKey := some 3 } } : State) (false : Bool)).busy = none ∧ (sigOf ({ stSig with sig0 := { stSig.sig0 with kemKey := some 3 } } : State) (false : Bool)).mlen.toNat ≤ 262144 ∧ sramAddr (sigOf ({ stSig with sig0 := { stSig.sig0 with kemKey := some 3 } } : State) (false : Bool)).msg (sigOf ({ stSig with sig0 := { stSig.sig0 with kemKey := some 3 } } : State) (false : Bool)).mlen.toNat = true ∧ sramAddr (sigOf ({ stSig with sig0 := { stSig.sig0 with kemKey := some 3 } } : State) (false : Bool)).key (sigKeyLen 11 0) = true ∧ sramAddr (sigOf ({ stSig with sig0 := { stSig.sig0 with kemKey := some 3 } } : State) (false : Bool)).sig (sigSigLen 11) = true ∧ sramAddr (sigOf ({ stSig with sig0 := { stSig.sig0 with kemKey := some 3 } } : State) (false : Bool)).out (sigOutLen 11) = true ∧ (sigOf ({ stSig with sig0 := { stSig.sig0 with kemKey := some 3 } } : State) (false : Bool)).kemKey.isSome = true := by decide

theorem wit_SignatureOperationsStart_12 : coreRuns (stSig : State) = true ∧ (sigOf (stSig : State) (true : Bool)).busy = none ∧ sigError (stSig : State) (sigOf (stSig : State) (true : Bool)) (3 : Nat) (7 : BitVec 8).toNat (0 : BitVec 8).toNat = 0 ∧ ((.mlDsa65Verify true 7 0 : Instr), (3 : Nat)) ∈ [(Instr.ecdsaP384Verify (true : Bool) (7 : BitVec 8) (0 : BitVec 8), 1), (.ecdsaP384Sign (true : Bool) (7 : BitVec 8) (0 : BitVec 8), 2), (.mlDsa65Verify (true : Bool) (7 : BitVec 8) (0 : BitVec 8), 3), (.mlDsa65Sign (true : Bool) (7 : BitVec 8) (0 : BitVec 8), 4), (.mlDsa87Verify (true : Bool) (7 : BitVec 8) (0 : BitVec 8), 5), (.mlDsa87Sign (true : Bool) (7 : BitVec 8) (0 : BitVec 8), 6), (.hssVerify (true : Bool) (7 : BitVec 8) (0 : BitVec 8), 7), (.ecdhP384 (true : Bool) (7 : BitVec 8) (0 : BitVec 8), 8), (.mlKem1024Keygen (true : Bool) (7 : BitVec 8) (0 : BitVec 8), 9), (.mlKem1024Encaps (true : Bool) (7 : BitVec 8) (0 : BitVec 8), 10), (.mlKem1024Decaps (true : Bool) (7 : BitVec 8) (0 : BitVec 8), 11)] := by decide

theorem wit_SignatureOperationsStart_13 : coreRuns (stSig : State) = true ∧ (sigOf (stSig : State) (false : Bool)).busy = none ∧ sigError (stSig : State) (sigOf (stSig : State) (false : Bool)) (7 : Nat) (1 : BitVec 8).toNat (0 : BitVec 8).toNat ≠ 0 ∧ ((.hssVerify false 1 0 : Instr), (7 : Nat)) ∈ [(Instr.ecdsaP384Verify (false : Bool) (1 : BitVec 8) (0 : BitVec 8), 1), (.ecdsaP384Sign (false : Bool) (1 : BitVec 8) (0 : BitVec 8), 2), (.mlDsa65Verify (false : Bool) (1 : BitVec 8) (0 : BitVec 8), 3), (.mlDsa65Sign (false : Bool) (1 : BitVec 8) (0 : BitVec 8), 4), (.mlDsa87Verify (false : Bool) (1 : BitVec 8) (0 : BitVec 8), 5), (.mlDsa87Sign (false : Bool) (1 : BitVec 8) (0 : BitVec 8), 6), (.hssVerify (false : Bool) (1 : BitVec 8) (0 : BitVec 8), 7), (.ecdhP384 (false : Bool) (1 : BitVec 8) (0 : BitVec 8), 8), (.mlKem1024Keygen (false : Bool) (1 : BitVec 8) (0 : BitVec 8), 9), (.mlKem1024Encaps (false : Bool) (1 : BitVec 8) (0 : BitVec 8), 10), (.mlKem1024Decaps (false : Bool) (1 : BitVec 8) (0 : BitVec 8), 11)] := by decide

theorem wit_SignatureOperationsStart_14 : coreRuns ({ stSig with sig0 := { stSig.sig0 with busy := some ⟨1, 0, 0, 0, 0, 0, 0, 0, false, true⟩ } } : State) = true ∧ (sigOf ({ stSig with sig0 := { stSig.sig0 with busy := some ⟨1, 0, 0, 0, 0, 0, 0, 0, false, true⟩ } } : State) (false : Bool)).busy.isSome = true ∧ ((.ecdhP384 false 0 0 : Instr), (8 : Nat)) ∈ [(Instr.ecdsaP384Verify (false : Bool) (0 : BitVec 8) (0 : BitVec 8), 1), (.ecdsaP384Sign (false : Bool) (0 : BitVec 8) (0 : BitVec 8), 2), (.mlDsa65Verify (false : Bool) (0 : BitVec 8) (0 : BitVec 8), 3), (.mlDsa65Sign (false : Bool) (0 : BitVec 8) (0 : BitVec 8), 4), (.mlDsa87Verify (false : Bool) (0 : BitVec 8) (0 : BitVec 8), 5), (.mlDsa87Sign (false : Bool) (0 : BitVec 8) (0 : BitVec 8), 6), (.hssVerify (false : Bool) (0 : BitVec 8) (0 : BitVec 8), 7), (.ecdhP384 (false : Bool) (0 : BitVec 8) (0 : BitVec 8), 8), (.mlKem1024Keygen (false : Bool) (0 : BitVec 8) (0 : BitVec 8), 9), (.mlKem1024Encaps (false : Bool) (0 : BitVec 8) (0 : BitVec 8), 10), (.mlKem1024Decaps (false : Bool) (0 : BitVec 8) (0 : BitVec 8), 11)] := by decide

theorem wit_SignatureResults_1 : (sigOf ({ stSig with sig0 := { stSig.sig0 with busy := some ⟨1, 0, 0, 0, 0, 0, 0, 0, false, true⟩ } } : State) (false : Bool)).busy = some (⟨1, 0, 0, 0, 0, 0, 0, 0, false, true⟩ : SigOp) ∧ sigIsVerify (⟨1, 0, 0, 0, 0, 0, 0, 0, false, true⟩ : SigOp).op = true ∧ (sigOf ({ stSig with sig0 := { stSig.sig0 with busy := some ⟨1, 0, 0, 0, 0, 0, 0, 0, false, true⟩ } } : State) (false : Bool)).inService = true ∧ (sigOf ({ stSig with sig0 := { stSig.sig0 with busy := some ⟨1, 0, 0, 0, 0, 0, 0, 0, false, true⟩ } } : State) (false : Bool)).failover = false ∧ (sigOf ({ stSig with sig0 := { stSig.sig0 with busy := some ⟨1, 0, 0, 0, 0, 0, 0, 0, false, true⟩ } } : State) (!(false : Bool))).failover = false ∧ (⟨1, 0, 0, 0, 0, 0, 0, 0, false, true⟩ : SigOp).held = false ∧ (⟨1, 0, 0, 0, 0, 0, 0, 0, false, true⟩ : SigOp).started = true ∧ ((2 : BitVec 2) = 2 ∨ (2 : BitVec 2) = 1) := by decide

theorem wit_SignatureResults_2 : (sigOf ({ stSig with sig1 := { stSig.sig1 with busy := some ⟨1, 0, 0, 0, 0, 0, 0, 0, false, true⟩ } } : State) (true : Bool)).busy = some (⟨1, 0, 0, 0, 0, 0, 0, 0, false, true⟩ : SigOp) ∧ sigIsVerify (⟨1, 0, 0, 0, 0, 0, 0, 0, false, true⟩ : SigOp).op = true ∧ (sigOf ({ stSig with sig1 := { stSig.sig1 with busy := some ⟨1, 0, 0, 0, 0, 0, 0, 0, false, true⟩ } } : State) (true : Bool)).inService = true ∧ (sigOf ({ stSig with sig1 := { stSig.sig1 with busy := some ⟨1, 0, 0, 0, 0, 0, 0, 0, false, true⟩ } } : State) (true : Bool)).failover = false ∧ (sigOf ({ stSig with sig1 := { stSig.sig1 with busy := some ⟨1, 0, 0, 0, 0, 0, 0, 0, false, true⟩ } } : State) (!(true : Bool))).failover = false ∧ (⟨1, 0, 0, 0, 0, 0, 0, 0, false, true⟩ : SigOp).held = false ∧ (⟨1, 0, 0, 0, 0, 0, 0, 0, false, true⟩ : SigOp).started = true ∧ ((3 : BitVec 2) = 0 ∨ (3 : BitVec 2) = 3) := by decide

theorem wit_SignatureResults_3 : ({ stSig with sig0 := { stSig.sig0 with busy := some ⟨2, 0, 1, 0, 0, 0, 0x10020000, 0, false, true⟩ } } : State).sig0.busy = some (⟨2, 0, 1, 0, 0, 0, 0x10020000, 0, false, true⟩ : SigOp) ∧ (⟨2, 0, 1, 0, 0, 0, 0x10020000, 0, false, true⟩ : SigOp).op = 2 ∧ ({ stSig with sig0 := { stSig.sig0 with busy := some ⟨2, 0, 1, 0, 0, 0, 0x10020000, 0, false, true⟩ } } : State).sig0.inService = true ∧ ({ stSig with sig0 := { stSig.sig0 with busy := some ⟨2, 0, 1, 0, 0, 0, 0x10020000, 0, false, true⟩ } } : State).sig0.failover = false ∧ ({ stSig with sig0 := { stSig.sig0 with busy := some ⟨2, 0, 1, 0, 0, 0, 0x10020000, 0, false, true⟩ } } : State).sig1.failover = false ∧ (⟨2, 0, 1, 0, 0, 0, 0x10020000, 0, false, true⟩ : SigOp).held = false ∧ (⟨2, 0, 1, 0, 0, 0, 0x10020000, 0, false, true⟩ : SigOp).started = true ∧ sramHits ({ stSig with sig0 := { stSig.sig0 with busy := some ⟨2, 0, 1, 0, 0, 0, 0x10020000, 0, false, true⟩ } } : State) (⟨2, 0, 1, 0, 0, 0, 0x10020000, 0, false, true⟩ : SigOp).sig 96 = false ∧ ({ stSig with sig0 := { stSig.sig0 with busy := some ⟨2, 0, 1, 0, 0, 0, 0x10020000, 0, false, true⟩ } } : State).otp.debugWait = [] := by decide

theorem wit_SignatureResults_4 : ({ stSig with sig0 := { stSig.sig0 with busy := some ⟨2, 0, 1, 0, 0, 0, 0x10000000, 0, false, true⟩ } } : State).sig0.busy = some (⟨2, 0, 1, 0, 0, 0, 0x10000000, 0, false, true⟩ : SigOp) ∧ (⟨2, 0, 1, 0, 0, 0, 0x10000000, 0, false, true⟩ : SigOp).op = 2 ∧ ({ stSig with sig0 := { stSig.sig0 with busy := some ⟨2, 0, 1, 0, 0, 0, 0x10000000, 0, false, true⟩ } } : State).sig0.inService = true ∧ ({ stSig with sig0 := { stSig.sig0 with busy := some ⟨2, 0, 1, 0, 0, 0, 0x10000000, 0, false, true⟩ } } : State).sig0.failover = false ∧ ({ stSig with sig0 := { stSig.sig0 with busy := some ⟨2, 0, 1, 0, 0, 0, 0x10000000, 0, false, true⟩ } } : State).sig1.failover = false ∧ (⟨2, 0, 1, 0, 0, 0, 0x10000000, 0, false, true⟩ : SigOp).held = false ∧ (⟨2, 0, 1, 0, 0, 0, 0x10000000, 0, false, true⟩ : SigOp).started = true ∧ sramHits ({ stSig with sig0 := { stSig.sig0 with busy := some ⟨2, 0, 1, 0, 0, 0, 0x10000000, 0, false, true⟩ } } : State) (⟨2, 0, 1, 0, 0, 0, 0x10000000, 0, false, true⟩ : SigOp).sig 96 = true := by decide

theorem wit_SignatureResults_5 : (sigOf ({ stSig with sig1 := { stSig.sig1 with busy := some ⟨8, 0, 0, 0, 0, 0, 0, 0x10020000, false, true⟩ } } : State) (true : Bool)).busy = some (⟨8, 0, 0, 0, 0, 0, 0, 0x10020000, false, true⟩ : SigOp) ∧ sigOutput (⟨8, 0, 0, 0, 0, 0, 0, 0x10020000, false, true⟩ : SigOp) = some ((0x10020000 : Nat), (sigOutLen 8 : Nat)) ∧ ((sigOf ({ stSig with sig1 := { stSig.sig1 with busy := some ⟨8, 0, 0, 0, 0, 0, 0, 0x10020000, false, true⟩ } } : State) (true : Bool)).inService = true ∨ (sigOf ({ stSig with sig1 := { stSig.sig1 with busy := some ⟨8, 0, 0, 0, 0, 0, 0, 0x10020000, false, true⟩ } } : State) (!(true : Bool))).inService = true) ∧ (sigOf ({ stSig with sig1 := { stSig.sig1 with busy := some ⟨8, 0, 0, 0, 0, 0, 0, 0x10020000, false, true⟩ } } : State) (true : Bool)).failover = false ∧ (sigOf ({ stSig with sig1 := { stSig.sig1 with busy := some ⟨8, 0, 0, 0, 0, 0, 0, 0x10020000, false, true⟩ } } : State) (!(true : Bool))).failover = false ∧ ((⟨8, 0, 0, 0, 0, 0, 0, 0x10020000, false, true⟩ : SigOp).held = true → keysHeld ({ stSig with sig1 := { stSig.sig1 with busy := some ⟨8, 0, 0, 0, 0, 0, 0, 0x10020000, false, true⟩ } } : State) = false) ∧ ((⟨8, 0, 0, 0, 0, 0, 0, 0x10020000, false, true⟩ : SigOp).started = true ∨ coreTurn ({ stSig with sig1 := { stSig.sig1 with busy := some ⟨8, 0, 0, 0, 0, 0, 0, 0x10020000, false, true⟩ } } : State) (true : Bool) = true) ∧ (({ stSig with sig1 := { stSig.sig1 with busy := some ⟨8, 0, 0, 0, 0, 0, 0, 0x10020000, false, true⟩ } } : State).kld.rngFail = true → (⟨8, 0, 0, 0, 0, 0, 0, 0x10020000, false, true⟩ : SigOp).op ≠ 8 ∧ (⟨8, 0, 0, 0, 0, 0, 0, 0x10020000, false, true⟩ : SigOp).op ≠ 9 ∧ (⟨8, 0, 0, 0, 0, 0, 0, 0x10020000, false, true⟩ : SigOp).op ≠ 10) ∧ sramHits ({ stSig with sig1 := { stSig.sig1 with busy := some ⟨8, 0, 0, 0, 0, 0, 0, 0x10020000, false, true⟩ } } : State) (0x10020000 : Nat) (sigOutLen 8 : Nat) = false ∧ ({ stSig with sig1 := { stSig.sig1 with busy := some ⟨8, 0, 0, 0, 0, 0, 0, 0x10020000, false, true⟩ } } : State).otp.debugWait = [] := by decide

theorem wit_SignatureResults_6 : coreRuns ({ stSig with sig0 := { stSig.sig0 with busy := some ⟨1, 0, 0, 0, 0, 0, 0, 0, false, true⟩ } } : State) = true ∧ (sigOf ({ stSig with sig0 := { stSig.sig0 with busy := some ⟨1, 0, 0, 0, 0, 0, 0, 0, false, true⟩ } } : State) (false : Bool)).busy.isSome = true := by decide

theorem wit_SignatureResults_7 : coreRuns (stSig : State) = true ∧ (sigOf (stSig : State) (true : Bool)).busy = none := by decide

theorem wit_KeyLadderAndRandom_1 : coreRuns (stRel : State) = true ∧ (11 : BitVec 4).toNat < 12 ∧ tabGet none (stRel : State).kld.fwid (11 : BitVec 4).toNat = none := by decide

theorem wit_KeyLadderAndRandom_2 : coreRuns (upKld (fun k => { k with fwid := ⟨[(11, some 1)]⟩ }) stRel : State) = true ∧ (11 : BitVec 4).toNat < 12 ∧ (tabGet none (upKld (fun k => { k with fwid := ⟨[(11, some 1)]⟩ }) stRel : State).kld.fwid (11 : BitVec 4).toNat).isSome = true := by decide

theorem wit_KeyLadderAndRandom_3 : coreRuns (stRel : State) = true ∧ (stRel : State).kld.svn = none := by decide

theorem wit_KeyLadderAndRandom_4 : coreRuns (upKld (fun k => { k with svn := some 1 }) stRel : State) = true ∧ (upKld (fun k => { k with svn := some 1 }) stRel : State).kld.svn.isSome = true := by decide

theorem wit_KeyLadderAndRandom_5 : coreRuns (stRel : State) = true ∧ (stRel : State).kld.rngFail = false := by decide

theorem wit_KeyLadderAndRandom_6 : coreRuns (upKld (fun k => { k with rngFail := true }) stRel : State) = true ∧ (upKld (fun k => { k with rngFail := true }) stRel : State).kld.rngFail = true := by decide

theorem wit_KeyLadderAndRandom_7 : (stRel : State).sc.mainGood = true := by decide

theorem wit_ExecutionWindow_1 : coreRuns (stRel : State) = true ∧ ((stRel : State).xip.lock = false ∨ xipLen (stRel : State).xip ≤ (0 : BitVec 29).toNat / 4096) := by decide

theorem wit_ExecutionWindow_2 : coreRuns (upXip (fun x => { x with lock := true, lenBlk := 4, lines := [⟨0, true, [1]⟩] }) stRel : State) = true ∧ (upXip (fun x => { x with lock := true, lenBlk := 4, lines := [⟨0, true, [1]⟩] }) stRel : State).xip.lock = true ∧ (4 : BitVec 29).toNat / 4096 < xipLen (upXip (fun x => { x with lock := true, lenBlk := 4, lines := [⟨0, true, [1]⟩] }) stRel : State).xip ∧ xipLine (upXip (fun x => { x with lock := true, lenBlk := 4, lines := [⟨0, true, [1]⟩] }) stRel : State).xip ((4 : BitVec 29).toNat / 4096) = some (⟨0, true, [1]⟩ : XipLine) := by decide

theorem wit_ExecutionWindow_3 : coreRuns (upXip (fun x => { x with lock := true, lenBlk := 4 }) (upChan 0 (fun c => { c with st := .ready }) stRel) : State) = true ∧ (upXip (fun x => { x with lock := true, lenBlk := 4 }) (upChan 0 (fun c => { c with st := .ready }) stRel) : State).xip.lock = true ∧ (4096 : BitVec 29).toNat / 4096 < xipLen (upXip (fun x => { x with lock := true, lenBlk := 4 }) (upChan 0 (fun c => { c with st := .ready }) stRel) : State).xip ∧ xipLine (upXip (fun x => { x with lock := true, lenBlk := 4 }) (upChan 0 (fun c => { c with st := .ready }) stRel) : State).xip ((4096 : BitVec 29).toNat / 4096) = none ∧ (upXip (fun x => { x with lock := true, lenBlk := 4 }) (upChan 0 (fun c => { c with st := .ready }) stRel) : State).xip.fill = none ∧ (chanOf (upXip (fun x => { x with lock := true, lenBlk := 4 }) (upChan 0 (fun c => { c with st := .ready }) stRel) : State) 0).st = .ready := by decide

theorem wit_ExecutionWindow_4 : coreRuns (upXip (fun x => { x with lock := true, lenBlk := 4 }) (upChan 0 (fun c => { c with st := .stopped }) stRel) : State) = true ∧ (upXip (fun x => { x with lock := true, lenBlk := 4 }) (upChan 0 (fun c => { c with st := .stopped }) stRel) : State).xip.lock = true ∧ (4096 : BitVec 29).toNat / 4096 < xipLen (upXip (fun x => { x with lock := true, lenBlk := 4 }) (upChan 0 (fun c => { c with st := .stopped }) stRel) : State).xip ∧ xipLine (upXip (fun x => { x with lock := true, lenBlk := 4 }) (upChan 0 (fun c => { c with st := .stopped }) stRel) : State).xip ((4096 : BitVec 29).toNat / 4096) = none ∧ (upXip (fun x => { x with lock := true, lenBlk := 4 }) (upChan 0 (fun c => { c with st := .stopped }) stRel) : State).xip.fill = none ∧ (chanOf (upXip (fun x => { x with lock := true, lenBlk := 4 }) (upChan 0 (fun c => { c with st := .stopped }) stRel) : State) 0).st = .stopped := by decide

/-- A window whose table holds the digest of 4,096 zero bytes for block 0. -/
def tXipTable : Tab Byte := memWrite 0 tabEmpty 0 (sha384 (fit 4096 []))
def stXip : State :=
  upXip (fun x => { x with lock := true, lenBlk := 4, table := tXipTable, fill := some ⟨0, 0, some 4, true, true⟩ }) stRel
theorem stXip_table : stXip.xip.table = tXipTable := by simp only [stXip, upXip]
theorem tXip_match : xipMatch stXip.xip 0 [] 0 = true := by
  have h := memRead_memWrite 0 (sha384 (fit 4096 [])) tabEmpty 0
  rw [sha384_length] at h
  rw [xipMatch, stXip_table, show 48 * 0 = 0 from rfl, show memRead 0 tXipTable 0 48 = sha384 (fit 4096 []) from h]
  simp [ctxCompare]

theorem wit_ExecutionWindow_5 : (stXip : State).xip.fill = some (⟨0, 0, some 4, true, true⟩ : XipFill) ∧ (⟨0, 0, some 4, true, true⟩ : XipFill).arrived = true ∧ (⟨0, 0, some 4, true, true⟩ : XipFill).readOk = true ∧ dgaHas (stXip : State) .window = true ∧ xipMatch (stXip : State).xip (⟨0, 0, some 4, true, true⟩ : XipFill).block ([] : Bytes) (0 : BitVec 2) = true ∧ (⟨0, 0, some 4, true, true⟩ : XipFill).demand = some (4 : Nat) := ⟨rfl, rfl, rfl, by decide +kernel, tXip_match, rfl⟩

theorem wit_ExecutionWindow_6 : (upXip (fun x => { x with fill := some ⟨1, 1, some 4096, true, false⟩ }) stRel : State).xip.fill = some (⟨1, 1, some 4096, true, false⟩ : XipFill) ∧ (⟨1, 1, some 4096, true, false⟩ : XipFill).arrived = true ∧ ((⟨1, 1, some 4096, true, false⟩ : XipFill).readOk = false ∨ (dgaHas (upXip (fun x => { x with fill := some ⟨1, 1, some 4096, true, false⟩ }) stRel : State) .window = true ∧ xipMatch (upXip (fun x => { x with fill := some ⟨1, 1, some 4096, true, false⟩ }) stRel : State).xip (⟨1, 1, some 4096, true, false⟩ : XipFill).block ([] : Bytes) (0 : BitVec 2) = false)) ∧ (⟨1, 1, some 4096, true, false⟩ : XipFill).fails < 2 := by decide

theorem wit_ExecutionWindow_7 : (upXip (fun x => { x with fill := some ⟨1, 2, some 4096, true, false⟩ }) stRel : State).xip.fill = some (⟨1, 2, some 4096, true, false⟩ : XipFill) ∧ (⟨1, 2, some 4096, true, false⟩ : XipFill).arrived = true ∧ ((⟨1, 2, some 4096, true, false⟩ : XipFill).readOk = false ∨ (dgaHas (upXip (fun x => { x with fill := some ⟨1, 2, some 4096, true, false⟩ }) stRel : State) .window = true ∧ xipMatch (upXip (fun x => { x with fill := some ⟨1, 2, some 4096, true, false⟩ }) stRel : State).xip (⟨1, 2, some 4096, true, false⟩ : XipFill).block ([] : Bytes) (0 : BitVec 2) = false)) ∧ 2 ≤ (⟨1, 2, some 4096, true, false⟩ : XipFill).fails ∧ (⟨1, 2, some 4096, true, false⟩ : XipFill).demand.isSome = true := by decide

theorem wit_ExecutionWindow_8 : (upXip (fun x => { x with fill := some ⟨1, 1, some 4096, true, true⟩ }) stRel : State).xip.fill = some (⟨1, 1, some 4096, true, true⟩ : XipFill) ∧ (⟨1, 1, some 4096, true, true⟩ : XipFill).arrived = true ∧ (⟨1, 1, some 4096, true, true⟩ : XipFill).readOk = true ∧ dgaHas (upXip (fun x => { x with fill := some ⟨1, 1, some 4096, true, true⟩ }) stRel : State) .window = true ∧ (1 : BitVec 2) ≠ 0 ∧ (⟨1, 1, some 4096, true, true⟩ : XipFill).fails < 2 := by decide

theorem wit_ExecutionWindow_9 : (upXip (fun x => { x with fill := some ⟨1, 2, none, true, false⟩ }) stRel : State).xip.fill = some (⟨1, 2, none, true, false⟩ : XipFill) ∧ (⟨1, 2, none, true, false⟩ : XipFill).arrived = true ∧ ((⟨1, 2, none, true, false⟩ : XipFill).readOk = false ∨ (dgaHas (upXip (fun x => { x with fill := some ⟨1, 2, none, true, false⟩ }) stRel : State) .window = true ∧ xipMatch (upXip (fun x => { x with fill := some ⟨1, 2, none, true, false⟩ }) stRel : State).xip (⟨1, 2, none, true, false⟩ : XipFill).block ([] : Bytes) (0 : BitVec 2) = false)) ∧ 2 ≤ (⟨1, 2, none, true, false⟩ : XipFill).fails ∧ (⟨1, 2, none, true, false⟩ : XipFill).demand = none := by decide

theorem wit_PresentedReads_1 : (stRel : State).run.policy = some (tPol : PolicyImage) ∧ prsRec (stRel : State) (⟨1, false, false, 0x10, false⟩ : PrsFrame).port (b2n (⟨1, false, false, 0x10, false⟩ : PrsFrame).dev) = some (tPresent : PresentRec) ∧ prsAnswers (stRel : State) (⟨1, false, false, 0x10, false⟩ : PrsFrame) = true ∧ lakeUp (stRel : State) = true ∧ (⟨4, 40, none, none⟩ : PrsRead).bad = none ∧ (emOf (stRel : State) (emKey (⟨1, false, false, 0x10, false⟩ : PrsFrame).port (b2n (⟨1, false, false, 0x10, false⟩ : PrsFrame).dev))).proto = .p1s ∧ inHot (tPol : PolicyImage) (tPresent : PresentRec) (prsAddr (⟨1, false, false, 0x10, false⟩ : PrsFrame) (emOf (stRel : State) (emKey (⟨1, false, false, 0x10, false⟩ : PrsFrame).port (b2n (⟨1, false, false, 0x10, false⟩ : PrsFrame).dev)))) = true ∧ (⟨4, 40, none, none⟩ : PrsRead).mhz ≤ 50 := by decide

theorem wit_PresentedReads_2 : (stRel : State).run.policy = some (tPol : PolicyImage) ∧ prsRec (stRel : State) (⟨1, false, false, 0x2000, false⟩ : PrsFrame).port (b2n (⟨1, false, false, 0x2000, false⟩ : PrsFrame).dev) = some (tPresent : PresentRec) ∧ prsAnswers (stRel : State) (⟨1, false, false, 0x2000, false⟩ : PrsFrame) = true ∧ (emOf (stRel : State) (emKey (⟨1, false, false, 0x2000, false⟩ : PrsFrame).port (b2n (⟨1, false, false, 0x2000, false⟩ : PrsFrame).dev))).proto = .p1s ∧ (inHot (tPol : PolicyImage) (tPresent : PresentRec) (prsAddr (⟨1, false, false, 0x2000, false⟩ : PrsFrame) (emOf (stRel : State) (emKey (⟨1, false, false, 0x2000, false⟩ : PrsFrame).port (b2n (⟨1, false, false, 0x2000, false⟩ : PrsFrame).dev)))) = false ∨ 50 < (⟨4, 40, none, none⟩ : PrsRead).mhz) := by decide

theorem wit_PresentedReads_3 : (stRel : State).run.policy = some (tPol : PolicyImage) ∧ prsRec (stRel : State) (⟨1, false, false, 0x2000, false⟩ : PrsFrame).port (b2n (⟨1, false, false, 0x2000, false⟩ : PrsFrame).dev) = some (tPresent : PresentRec) ∧ prsAnswers (stRel : State) (⟨1, false, false, 0x2000, false⟩ : PrsFrame) = true ∧ lakeUp (stRel : State) = true ∧ (⟨4, 40, none, none⟩ : PrsRead).bad = none ∧ (emOf (stRel : State) (emKey (⟨1, false, false, 0x2000, false⟩ : PrsFrame).port (b2n (⟨1, false, false, 0x2000, false⟩ : PrsFrame).dev))).proto = .p1s ∧ clkOk (tPresent : PresentRec) 8 (⟨4, 40, none, none⟩ : PrsRead).mhz = true := by decide

theorem wit_PresentedReads_4 : ({ stRel with run := ⟨none, 0, some { tPol with presents := [{ tPresent with facts := { tFacts with reads := [(.m112, 8), (.m122, 8), (.m114, 8), (.m144, 8), (.m1s4d4d, 8)], xspi8s := some 10, xspi8d := some 10 }, width := 8, flags := 1 }] }, 0, true, tabEmpty, tabEmpty, none, []⟩ } : State).run.policy = some ({ tPol with presents := [{ tPresent with facts := { tFacts with reads := [(.m112, 8), (.m122, 8), (.m114, 8), (.m144, 8), (.m1s4d4d, 8)], xspi8s := some 10, xspi8d := some 10 }, width := 8, flags := 1 }] } : PolicyImage) ∧ prsRec ({ stRel with run := ⟨none, 0, some { tPol with presents := [{ tPresent with facts := { tFacts with reads := [(.m112, 8), (.m122, 8), (.m114, 8), (.m144, 8), (.m1s4d4d, 8)], xspi8s := some 10, xspi8d := some 10 }, width := 8, flags := 1 }] }, 0, true, tabEmpty, tabEmpty, none, []⟩ } : State) (⟨1, false, false, 0x2000, false⟩ : PrsFrame).port (b2n (⟨1, false, false, 0x2000, false⟩ : PrsFrame).dev) = some ({ tPresent with facts := { tFacts with reads := [(.m112, 8), (.m122, 8), (.m114, 8), (.m144, 8), (.m1s4d4d, 8)], xspi8s := some 10, xspi8d := some 10 }, width := 8, flags := 1 } : PresentRec) ∧ prsAnswers ({ stRel with run := ⟨none, 0, some { tPol with presents := [{ tPresent with facts := { tFacts with reads := [(.m112, 8), (.m122, 8), (.m114, 8), (.m144, 8), (.m1s4d4d, 8)], xspi8s := some 10, xspi8d := some 10 }, width := 8, flags := 1 }] }, 0, true, tabEmpty, tabEmpty, none, []⟩ } : State) (⟨1, false, false, 0x2000, false⟩ : PrsFrame) = true ∧ lakeUp ({ stRel with run := ⟨none, 0, some { tPol with presents := [{ tPresent with facts := { tFacts with reads := [(.m112, 8), (.m122, 8), (.m114, 8), (.m144, 8), (.m1s4d4d, 8)], xspi8s := some 10, xspi8d := some 10 }, width := 8, flags := 1 }] }, 0, true, tabEmpty, tabEmpty, none, []⟩ } : State) = true ∧ (⟨4, 40, none, none⟩ : PrsRead).bad = none ∧ (emOf ({ stRel with run := ⟨none, 0, some { tPol with presents := [{ tPresent with facts := { tFacts with reads := [(.m112, 8), (.m122, 8), (.m114, 8), (.m144, 8), (.m1s4d4d, 8)], xspi8s := some 10, xspi8d := some 10 }, width := 8, flags := 1 }] }, 0, true, tabEmpty, tabEmpty, none, []⟩ } : State) (emKey (⟨1, false, false, 0x2000, false⟩ : PrsFrame).port (b2n (⟨1, false, false, 0x2000, false⟩ : PrsFrame).dev))).proto = .p1s ∧ 2 ≤ ({ tPresent with facts := { tFacts with reads := [(.m112, 8), (.m122, 8), (.m114, 8), (.m144, 8), (.m1s4d4d, 8)], xspi8s := some 10, xspi8d := some 10 }, width := 8, flags := 1 } : PresentRec).width ∧ modeDummy ({ tPresent with facts := { tFacts with reads := [(.m112, 8), (.m122, 8), (.m114, 8), (.m144, 8), (.m1s4d4d, 8)], xspi8s := some 10, xspi8d := some 10 }, width := 8, flags := 1 } : PresentRec) .m112 = some (8 : Nat) ∧ clkOk ({ tPresent with facts := { tFacts with reads := [(.m112, 8), (.m122, 8), (.m114, 8), (.m144, 8), (.m1s4d4d, 8)], xspi8s := some 10, xspi8d := some 10 }, width := 8, flags := 1 } : PresentRec) (8 : Nat) (⟨4, 40, none, none⟩ : PrsRead).mhz = true := by decide

theorem wit_PresentedReads_5 : ({ stRel with run := ⟨none, 0, some { tPol with presents := [{ tPresent with facts := { tFacts with reads := [(.m112, 8), (.m122, 8), (.m114, 8), (.m144, 8), (.m1s4d4d, 8)], xspi8s := some 10, xspi8d := some 10 }, width := 8, flags := 1 }] }, 0, true, tabEmpty, tabEmpty, none, []⟩ } : State).run.policy = some ({ tPol with presents := [{ tPresent with facts := { tFacts with reads := [(.m112, 8), (.m122, 8), (.m114, 8), (.m144, 8), (.m1s4d4d, 8)], xspi8s := some 10, xspi8d := some 10 }, width := 8, flags := 1 }] } : PolicyImage) ∧ prsRec ({ stRel with run := ⟨none, 0, some { tPol with presents := [{ tPresent with facts := { tFacts with reads := [(.m112, 8), (.m122, 8), (.m114, 8), (.m144, 8), (.m1s4d4d, 8)], xspi8s := some 10, xspi8d := some 10 }, width := 8, flags := 1 }] }, 0, true, tabEmpty, tabEmpty, none, []⟩ } : State) (⟨1, false, false, 0x2000, false⟩ : PrsFrame).port (b2n (⟨1, false, false, 0x2000, false⟩ : PrsFrame).dev) = some ({ tPresent with facts := { tFacts with reads := [(.m112, 8), (.m122, 8), (.m114, 8), (.m144, 8), (.m1s4d4d, 8)], xspi8s := some 10, xspi8d := some 10 }, width := 8, flags := 1 } : PresentRec) ∧ prsAnswers ({ stRel with run := ⟨none, 0, some { tPol with presents := [{ tPresent with facts := { tFacts with reads := [(.m112, 8), (.m122, 8), (.m114, 8), (.m144, 8), (.m1s4d4d, 8)], xspi8s := some 10, xspi8d := some 10 }, width := 8, flags := 1 }] }, 0, true, tabEmpty, tabEmpty, none, []⟩ } : State) (⟨1, false, false, 0x2000, false⟩ : PrsFrame) = true ∧ lakeUp ({ stRel with run := ⟨none, 0, some { tPol with presents := [{ tPresent with facts := { tFacts with reads := [(.m112, 8), (.m122, 8), (.m114, 8), (.m144, 8), (.m1s4d4d, 8)], xspi8s := some 10, xspi8d := some 10 }, width := 8, flags := 1 }] }, 0, true, tabEmpty, tabEmpty, none, []⟩ } : State) = true ∧ (⟨4, 40, none, none⟩ : PrsRead).bad = none ∧ (emOf ({ stRel with run := ⟨none, 0, some { tPol with presents := [{ tPresent with facts := { tFacts with reads := [(.m112, 8), (.m122, 8), (.m114, 8), (.m144, 8), (.m1s4d4d, 8)], xspi8s := some 10, xspi8d := some 10 }, width := 8, flags := 1 }] }, 0, true, tabEmpty, tabEmpty, none, []⟩ } : State) (emKey (⟨1, false, false, 0x2000, false⟩ : PrsFrame).port (b2n (⟨1, false, false, 0x2000, false⟩ : PrsFrame).dev))).proto = .p1s ∧ 2 ≤ ({ tPresent with facts := { tFacts with reads := [(.m112, 8), (.m122, 8), (.m114, 8), (.m144, 8), (.m1s4d4d, 8)], xspi8s := some 10, xspi8d := some 10 }, width := 8, flags := 1 } : PresentRec).width ∧ modeDummy ({ tPresent with facts := { tFacts with reads := [(.m112, 8), (.m122, 8), (.m114, 8), (.m144, 8), (.m1s4d4d, 8)], xspi8s := some 10, xspi8d := some 10 }, width := 8, flags := 1 } : PresentRec) .m122 = some (8 : Nat) ∧ clkOk ({ tPresent with facts := { tFacts with reads := [(.m112, 8), (.m122, 8), (.m114, 8), (.m144, 8), (.m1s4d4d, 8)], xspi8s := some 10, xspi8d := some 10 }, width := 8, flags := 1 } : PresentRec) (8 : Nat) (⟨4, 40, none, none⟩ : PrsRead).mhz = true := by decide

theorem wit_PresentedReads_6 : ({ stRel with run := ⟨none, 0, some { tPol with presents := [{ tPresent with facts := { tFacts with reads := [(.m112, 8), (.m122, 8), (.m114, 8), (.m144, 8), (.m1s4d4d, 8)], xspi8s := some 10, xspi8d := some 10 }, width := 8, flags := 1 }] }, 0, true, tabEmpty, tabEmpty, none, []⟩ } : State).run.policy = some ({ tPol with presents := [{ tPresent with facts := { tFacts with reads := [(.m112, 8), (.m122, 8), (.m114, 8), (.m144, 8), (.m1s4d4d, 8)], xspi8s := some 10, xspi8d := some 10 }, width := 8, flags := 1 }] } : PolicyImage) ∧ prsRec ({ stRel with run := ⟨none, 0, some { tPol with presents := [{ tPresent with facts := { tFacts with reads := [(.m112, 8), (.m122, 8), (.m114, 8), (.m144, 8), (.m1s4d4d, 8)], xspi8s := some 10, xspi8d := some 10 }, width := 8, flags := 1 }] }, 0, true, tabEmpty, tabEmpty, none, []⟩ } : State) (⟨1, false, false, 0x2000, false⟩ : PrsFrame).port (b2n (⟨1, false, false, 0x2000, false⟩ : PrsFrame).dev) = some ({ tPresent with facts := { tFacts with reads := [(.m112, 8), (.m122, 8), (.m114, 8), (.m144, 8), (.m1s4d4d, 8)], xspi8s := some 10, xspi8d := some 10 }, width := 8, flags := 1 } : PresentRec) ∧ prsAnswers ({ stRel with run := ⟨none, 0, some { tPol with presents := [{ tPresent with facts := { tFacts with reads := [(.m112, 8), (.m122, 8), (.m114, 8), (.m144, 8), (.m1s4d4d, 8)], xspi8s := some 10, xspi8d := some 10 }, width := 8, flags := 1 }] }, 0, true, tabEmpty, tabEmpty, none, []⟩ } : State) (⟨1, false, false, 0x2000, false⟩ : PrsFrame) = true ∧ lakeUp ({ stRel with run := ⟨none, 0, some { tPol with presents := [{ tPresent with facts := { tFacts with reads := [(.m112, 8), (.m122, 8), (.m114, 8), (.m144, 8), (.m1s4d4d, 8)], xspi8s := some 10, xspi8d := some 10 }, width := 8, flags := 1 }] }, 0, true, tabEmpty, tabEmpty, none, []⟩ } : State) = true ∧ (⟨4, 40, none, none⟩ : PrsRead).bad = none ∧ (emOf ({ stRel with run := ⟨none, 0, some { tPol with presents := [{ tPresent with facts := { tFacts with reads := [(.m112, 8), (.m122, 8), (.m114, 8), (.m144, 8), (.m1s4d4d, 8)], xspi8s := some 10, xspi8d := some 10 }, width := 8, flags := 1 }] }, 0, true, tabEmpty, tabEmpty, none, []⟩ } : State) (emKey (⟨1, false, false, 0x2000, false⟩ : PrsFrame).port (b2n (⟨1, false, false, 0x2000, false⟩ : PrsFrame).dev))).proto = .p1s ∧ 4 ≤ ({ tPresent with facts := { tFacts with reads := [(.m112, 8), (.m122, 8), (.m114, 8), (.m144, 8), (.m1s4d4d, 8)], xspi8s := some 10, xspi8d := some 10 }, width := 8, flags := 1 } : PresentRec).width ∧ modeDummy ({ tPresent with facts := { tFacts with reads := [(.m112, 8), (.m122, 8), (.m114, 8), (.m144, 8), (.m1s4d4d, 8)], xspi8s := some 10, xspi8d := some 10 }, width := 8, flags := 1 } : PresentRec) .m114 = some (8 : Nat) ∧ clkOk ({ tPresent with facts := { tFacts with reads := [(.m112, 8), (.m122, 8), (.m114, 8), (.m144, 8), (.m1s4d4d, 8)], xspi8s := some 10, xspi8d := some 10 }, width := 8, flags := 1 } : PresentRec) (8 : Nat) (⟨4, 40, none, none⟩ : PrsRead).mhz = true := by decide

theorem wit_PresentedReads_7 : ({ stRel with run := ⟨none, 0, some { tPol with presents := [{ tPresent with facts := { tFacts with reads := [(.m112, 8), (.m122, 8), (.m114, 8), (.m144, 8), (.m1s4d4d, 8)], xspi8s := some 10, xspi8d := some 10 }, width := 8, flags := 1 }] }, 0, true, tabEmpty, tabEmpty, none, []⟩ } : State).run.policy = some ({ tPol with presents := [{ tPresent with facts := { tFacts with reads := [(.m112, 8), (.m122, 8), (.m114, 8), (.m144, 8), (.m1s4d4d, 8)], xspi8s := some 10, xspi8d := some 10 }, width := 8, flags := 1 }] } : PolicyImage) ∧ prsRec ({ stRel with run := ⟨none, 0, some { tPol with presents := [{ tPresent with facts := { tFacts with reads := [(.m112, 8), (.m122, 8), (.m114, 8), (.m144, 8), (.m1s4d4d, 8)], xspi8s := some 10, xspi8d := some 10 }, width := 8, flags := 1 }] }, 0, true, tabEmpty, tabEmpty, none, []⟩ } : State) (⟨1, false, false, 0x2000, false⟩ : PrsFrame).port (b2n (⟨1, false, false, 0x2000, false⟩ : PrsFrame).dev) = some ({ tPresent with facts := { tFacts with reads := [(.m112, 8), (.m122, 8), (.m114, 8), (.m144, 8), (.m1s4d4d, 8)], xspi8s := some 10, xspi8d := some 10 }, width := 8, flags := 1 } : PresentRec) ∧ prsAnswers ({ stRel with run := ⟨none, 0, some { tPol with presents := [{ tPresent with facts := { tFacts with reads := [(.m112, 8), (.m122, 8), (.m114, 8), (.m144, 8), (.m1s4d4d, 8)], xspi8s := some 10, xspi8d := some 10 }, width := 8, flags := 1 }] }, 0, true, tabEmpty, tabEmpty, none, []⟩ } : State) (⟨1, false, false, 0x2000, false⟩ : PrsFrame) = true ∧ lakeUp ({ stRel with run := ⟨none, 0, some { tPol with presents := [{ tPresent with facts := { tFacts with reads := [(.m112, 8), (.m122, 8), (.m114, 8), (.m144, 8), (.m1s4d4d, 8)], xspi8s := some 10, xspi8d := some 10 }, width := 8, flags := 1 }] }, 0, true, tabEmpty, tabEmpty, none, []⟩ } : State) = true ∧ (⟨4, 40, none, none⟩ : PrsRead).bad = none ∧ (emOf ({ stRel with run := ⟨none, 0, some { tPol with presents := [{ tPresent with facts := { tFacts with reads := [(.m112, 8), (.m122, 8), (.m114, 8), (.m144, 8), (.m1s4d4d, 8)], xspi8s := some 10, xspi8d := some 10 }, width := 8, flags := 1 }] }, 0, true, tabEmpty, tabEmpty, none, []⟩ } : State) (emKey (⟨1, false, false, 0x2000, false⟩ : PrsFrame).port (b2n (⟨1, false, false, 0x2000, false⟩ : PrsFrame).dev))).proto = .p1s ∧ 4 ≤ ({ tPresent with facts := { tFacts with reads := [(.m112, 8), (.m122, 8), (.m114, 8), (.m144, 8), (.m1s4d4d, 8)], xspi8s := some 10, xspi8d := some 10 }, width := 8, flags := 1 } : PresentRec).width ∧ modeDummy ({ tPresent with facts := { tFacts with reads := [(.m112, 8), (.m122, 8), (.m114, 8), (.m144, 8), (.m1s4d4d, 8)], xspi8s := some 10, xspi8d := some 10 }, width := 8, flags := 1 } : PresentRec) .m144 = some (8 : Nat) ∧ clkOk ({ tPresent with facts := { tFacts with reads := [(.m112, 8), (.m122, 8), (.m114, 8), (.m144, 8), (.m1s4d4d, 8)], xspi8s := some 10, xspi8d := some 10 }, width := 8, flags := 1 } : PresentRec) (8 : Nat) (⟨4, 40, none, none⟩ : PrsRead).mhz = true := by decide

theorem wit_PresentedReads_8 : ({ stRel with run := ⟨none, 0, some { tPol with presents := [{ tPresent with facts := { tFacts with reads := [(.m112, 8), (.m122, 8), (.m114, 8), (.m144, 8), (.m1s4d4d, 8)], xspi8s := some 10, xspi8d := some 10 }, width := 8, flags := 1 }] }, 0, true, tabEmpty, tabEmpty, none, []⟩ } : State).run.policy = some ({ tPol with presents := [{ tPresent with facts := { tFacts with reads := [(.m112, 8), (.m122, 8), (.m114, 8), (.m144, 8), (.m1s4d4d, 8)], xspi8s := some 10, xspi8d := some 10 }, width := 8, flags := 1 }] } : PolicyImage) ∧ prsRec ({ stRel with run := ⟨none, 0, some { tPol with presents := [{ tPresent with facts := { tFacts with reads := [(.m112, 8), (.m122, 8), (.m114, 8), (.m144, 8), (.m1s4d4d, 8)], xspi8s := some 10, xspi8d := some 10 }, width := 8, flags := 1 }] }, 0, true, tabEmpty, tabEmpty, none, []⟩ } : State) (⟨1, false, false, 0x2000, false⟩ : PrsFrame).port (b2n (⟨1, false, false, 0x2000, false⟩ : PrsFrame).dev) = some ({ tPresent with facts := { tFacts with reads := [(.m112, 8), (.m122, 8), (.m114, 8), (.m144, 8), (.m1s4d4d, 8)], xspi8s := some 10, xspi8d := some 10 }, width := 8, flags := 1 } : PresentRec) ∧ prsAnswers ({ stRel with run := ⟨none, 0, some { tPol with presents := [{ tPresent with facts := { tFacts with reads := [(.m112, 8), (.m122, 8), (.m114, 8), (.m144, 8), (.m1s4d4d, 8)], xspi8s := some 10, xspi8d := some 10 }, width := 8, flags := 1 }] }, 0, true, tabEmpty, tabEmpty, none, []⟩ } : State) (⟨1, false, false, 0x2000, false⟩ : PrsFrame) = true ∧ lakeUp ({ stRel with run := ⟨none, 0, some { tPol with presents := [{ tPresent with facts := { tFacts with reads := [(.m112, 8), (.m122, 8), (.m114, 8), (.m144, 8), (.m1s4d4d, 8)], xspi8s := some 10, xspi8d := some 10 }, width := 8, flags := 1 }] }, 0, true, tabEmpty, tabEmpty, none, []⟩ } : State) = true ∧ (⟨4, 40, none, none⟩ : PrsRead).bad = none ∧ (emOf ({ stRel with run := ⟨none, 0, some { tPol with presents := [{ tPresent with facts := { tFacts with reads := [(.m112, 8), (.m122, 8), (.m114, 8), (.m144, 8), (.m1s4d4d, 8)], xspi8s := some 10, xspi8d := some 10 }, width := 8, flags := 1 }] }, 0, true, tabEmpty, tabEmpty, none, []⟩ } : State) (emKey (⟨1, false, false, 0x2000, false⟩ : PrsFrame).port (b2n (⟨1, false, false, 0x2000, false⟩ : PrsFrame).dev))).proto = .p1s ∧ 4 ≤ ({ tPresent with facts := { tFacts with reads := [(.m112, 8), (.m122, 8), (.m114, 8), (.m144, 8), (.m1s4d4d, 8)], xspi8s := some 10, xspi8d := some 10 }, width := 8, flags := 1 } : PresentRec).width ∧ ({ tPresent with facts := { tFacts with reads := [(.m112, 8), (.m122, 8), (.m114, 8), (.m144, 8), (.m1s4d4d, 8)], xspi8s := some 10, xspi8d := some 10 }, width := 8, flags := 1 } : PresentRec).flags.testBit 0 = true ∧ modeDummy ({ tPresent with facts := { tFacts with reads := [(.m112, 8), (.m122, 8), (.m114, 8), (.m144, 8), (.m1s4d4d, 8)], xspi8s := some 10, xspi8d := some 10 }, width := 8, flags := 1 } : PresentRec) .m1s4d4d = some (8 : Nat) ∧ clkOk ({ tPresent with facts := { tFacts with reads := [(.m112, 8), (.m122, 8), (.m114, 8), (.m144, 8), (.m1s4d4d, 8)], xspi8s := some 10, xspi8d := some 10 }, width := 8, flags := 1 } : PresentRec) (8 : Nat) (⟨4, 40, none, none⟩ : PrsRead).mhz = true := by decide

theorem wit_PresentedReads_9 : (upEm 2 (fun e => { e with proto := .p8s }) ({ stRel with run := ⟨none, 0, some { tPol with presents := [{ tPresent with facts := { tFacts with reads := [(.m112, 8), (.m122, 8), (.m114, 8), (.m144, 8), (.m1s4d4d, 8)], xspi8s := some 10, xspi8d := some 10 }, width := 8, flags := 1 }] }, 0, true, tabEmpty, tabEmpty, none, []⟩ }) : State).run.policy = some ({ tPol with presents := [{ tPresent with facts := { tFacts with reads := [(.m112, 8), (.m122, 8), (.m114, 8), (.m144, 8), (.m1s4d4d, 8)], xspi8s := some 10, xspi8d := some 10 }, width := 8, flags := 1 }] } : PolicyImage) ∧ prsRec (upEm 2 (fun e => { e with proto := .p8s }) ({ stRel with run := ⟨none, 0, some { tPol with presents := [{ tPresent with facts := { tFacts with reads := [(.m112, 8), (.m122, 8), (.m114, 8), (.m144, 8), (.m1s4d4d, 8)], xspi8s := some 10, xspi8d := some 10 }, width := 8, flags := 1 }] }, 0, true, tabEmpty, tabEmpty, none, []⟩ }) : State) (⟨1, false, false, 0x2000, false⟩ : PrsFrame).port (b2n (⟨1, false, false, 0x2000, false⟩ : PrsFrame).dev) = some ({ tPresent with facts := { tFacts with reads := [(.m112, 8), (.m122, 8), (.m114, 8), (.m144, 8), (.m1s4d4d, 8)], xspi8s := some 10, xspi8d := some 10 }, width := 8, flags := 1 } : PresentRec) ∧ prsAnswers (upEm 2 (fun e => { e with proto := .p8s }) ({ stRel with run := ⟨none, 0, some { tPol with presents := [{ tPresent with facts := { tFacts with reads := [(.m112, 8), (.m122, 8), (.m114, 8), (.m144, 8), (.m1s4d4d, 8)], xspi8s := some 10, xspi8d := some 10 }, width := 8, flags := 1 }] }, 0, true, tabEmpty, tabEmpty, none, []⟩ }) : State) (⟨1, false, false, 0x2000, false⟩ : PrsFrame) = true ∧ lakeUp (upEm 2 (fun e => { e with proto := .p8s }) ({ stRel with run := ⟨none, 0, some { tPol with presents := [{ tPresent with facts := { tFacts with reads := [(.m112, 8), (.m122, 8), (.m114, 8), (.m144, 8), (.m1s4d4d, 8)], xspi8s := some 10, xspi8d := some 10 }, width := 8, flags := 1 }] }, 0, true, tabEmpty, tabEmpty, none, []⟩ }) : State) = true ∧ (⟨4, 40, none, none⟩ : PrsRead).bad = none ∧ (emOf (upEm 2 (fun e => { e with proto := .p8s }) ({ stRel with run := ⟨none, 0, some { tPol with presents := [{ tPresent with facts := { tFacts with reads := [(.m112, 8), (.m122, 8), (.m114, 8), (.m144, 8), (.m1s4d4d, 8)], xspi8s := some 10, xspi8d := some 10 }, width := 8, flags := 1 }] }, 0, true, tabEmpty, tabEmpty, none, []⟩ }) : State) (emKey (⟨1, false, false, 0x2000, false⟩ : PrsFrame).port (b2n (⟨1, false, false, 0x2000, false⟩ : PrsFrame).dev))).proto = .p8s ∧ ({ tPresent with facts := { tFacts with reads := [(.m112, 8), (.m122, 8), (.m114, 8), (.m144, 8), (.m1s4d4d, 8)], xspi8s := some 10, xspi8d := some 10 }, width := 8, flags := 1 } : PresentRec).facts.xspi8s = some (10 : Nat) ∧ clkOk ({ tPresent with facts := { tFacts with reads := [(.m112, 8), (.m122, 8), (.m114, 8), (.m144, 8), (.m1s4d4d, 8)], xspi8s := some 10, xspi8d := some 10 }, width := 8, flags := 1 } : PresentRec) (10 : Nat) (⟨4, 40, none, none⟩ : PrsRead).mhz = true := by decide

theorem wit_PresentedReads_10 : (upEm 2 (fun e => { e with proto := .p8d }) ({ stRel with run := ⟨none, 0, some { tPol with presents := [{ tPresent with facts := { tFacts with reads := [(.m112, 8), (.m122, 8), (.m114, 8), (.m144, 8), (.m1s4d4d, 8)], xspi8s := some 10, xspi8d := some 10 }, width := 8, flags := 1 }] }, 0, true, tabEmpty, tabEmpty, none, []⟩ }) : State).run.policy = some ({ tPol with presents := [{ tPresent with facts := { tFacts with reads := [(.m112, 8), (.m122, 8), (.m114, 8), (.m144, 8), (.m1s4d4d, 8)], xspi8s := some 10, xspi8d := some 10 }, width := 8, flags := 1 }] } : PolicyImage) ∧ prsRec (upEm 2 (fun e => { e with proto := .p8d }) ({ stRel with run := ⟨none, 0, some { tPol with presents := [{ tPresent with facts := { tFacts with reads := [(.m112, 8), (.m122, 8), (.m114, 8), (.m144, 8), (.m1s4d4d, 8)], xspi8s := some 10, xspi8d := some 10 }, width := 8, flags := 1 }] }, 0, true, tabEmpty, tabEmpty, none, []⟩ }) : State) (⟨1, false, false, 0x2000, false⟩ : PrsFrame).port (b2n (⟨1, false, false, 0x2000, false⟩ : PrsFrame).dev) = some ({ tPresent with facts := { tFacts with reads := [(.m112, 8), (.m122, 8), (.m114, 8), (.m144, 8), (.m1s4d4d, 8)], xspi8s := some 10, xspi8d := some 10 }, width := 8, flags := 1 } : PresentRec) ∧ prsAnswers (upEm 2 (fun e => { e with proto := .p8d }) ({ stRel with run := ⟨none, 0, some { tPol with presents := [{ tPresent with facts := { tFacts with reads := [(.m112, 8), (.m122, 8), (.m114, 8), (.m144, 8), (.m1s4d4d, 8)], xspi8s := some 10, xspi8d := some 10 }, width := 8, flags := 1 }] }, 0, true, tabEmpty, tabEmpty, none, []⟩ }) : State) (⟨1, false, false, 0x2000, false⟩ : PrsFrame) = true ∧ lakeUp (upEm 2 (fun e => { e with proto := .p8d }) ({ stRel with run := ⟨none, 0, some { tPol with presents := [{ tPresent with facts := { tFacts with reads := [(.m112, 8), (.m122, 8), (.m114, 8), (.m144, 8), (.m1s4d4d, 8)], xspi8s := some 10, xspi8d := some 10 }, width := 8, flags := 1 }] }, 0, true, tabEmpty, tabEmpty, none, []⟩ }) : State) = true ∧ (⟨4, 40, none, none⟩ : PrsRead).bad = none ∧ (emOf (upEm 2 (fun e => { e with proto := .p8d }) ({ stRel with run := ⟨none, 0, some { tPol with presents := [{ tPresent with facts := { tFacts with reads := [(.m112, 8), (.m122, 8), (.m114, 8), (.m144, 8), (.m1s4d4d, 8)], xspi8s := some 10, xspi8d := some 10 }, width := 8, flags := 1 }] }, 0, true, tabEmpty, tabEmpty, none, []⟩ }) : State) (emKey (⟨1, false, false, 0x2000, false⟩ : PrsFrame).port (b2n (⟨1, false, false, 0x2000, false⟩ : PrsFrame).dev))).proto = .p8d ∧ ({ tPresent with facts := { tFacts with reads := [(.m112, 8), (.m122, 8), (.m114, 8), (.m144, 8), (.m1s4d4d, 8)], xspi8s := some 10, xspi8d := some 10 }, width := 8, flags := 1 } : PresentRec).facts.xspi8d = some (10 : Nat) ∧ clkOk ({ tPresent with facts := { tFacts with reads := [(.m112, 8), (.m122, 8), (.m114, 8), (.m144, 8), (.m1s4d4d, 8)], xspi8s := some 10, xspi8d := some 10 }, width := 8, flags := 1 } : PresentRec) (10 : Nat) (⟨4, 40, none, none⟩ : PrsRead).mhz = true := by decide

theorem wit_PresentedWrites_1 : (upEm 2 (fun e => { e with wel := true }) stRel : State).run.policy = some (tPol : PolicyImage) ∧ prsRec (upEm 2 (fun e => { e with wel := true }) stRel : State) (⟨1, false, false, 0x2000, false⟩ : PrsFrame).port (b2n (⟨1, false, false, 0x2000, false⟩ : PrsFrame).dev) = some (tPresent : PresentRec) ∧ prsAnswers (upEm 2 (fun e => { e with wel := true }) stRel : State) (⟨1, false, false, 0x2000, false⟩ : PrsFrame) = true ∧ (emOf (upEm 2 (fun e => { e with wel := true }) stRel : State) (emKey (⟨1, false, false, 0x2000, false⟩ : PrsFrame).port (b2n (⟨1, false, false, 0x2000, false⟩ : PrsFrame).dev))).wel = true ∧ (emOf (upEm 2 (fun e => { e with wel := true }) stRel : State) (emKey (⟨1, false, false, 0x2000, false⟩ : PrsFrame).port (b2n (⟨1, false, false, 0x2000, false⟩ : PrsFrame).dev))).pend = none ∧ (tPresent : PresentRec).port = (⟨1, false, false, 0x2000, false⟩ : PrsFrame).port ∧ (tPresent : PresentRec).device = b2n (⟨1, false, false, 0x2000, false⟩ : PrsFrame).dev ∧ ([0x5a] : Bytes) ≠ [] ∧ ((emOf (upEm 2 (fun e => { e with wel := true }) stRel : State) (emKey (⟨1, false, false, 0x2000, false⟩ : PrsFrame).port (b2n (⟨1, false, false, 0x2000, false⟩ : PrsFrame).dev))).proto = .p1s ∨ (⟨1, false, false, 0x2000, false⟩ : PrsFrame).form4 = true) ∧ ((emOf (upEm 2 (fun e => { e with wel := true }) stRel : State) (emKey (⟨1, false, false, 0x2000, false⟩ : PrsFrame).port (b2n (⟨1, false, false, 0x2000, false⟩ : PrsFrame).dev))).proto = .p8d → ([0x5a] : Bytes).length % 2 = 0) ∧ refusingClass (pageClasses (tPol : PolicyImage) (tPresent : PresentRec) (programSpan (tPresent : PresentRec) (prsAddr (⟨1, false, false, 0x2000, false⟩ : PrsFrame) (emOf (upEm 2 (fun e => { e with wel := true }) stRel : State) (emKey (⟨1, false, false, 0x2000, false⟩ : PrsFrame).port (b2n (⟨1, false, false, 0x2000, false⟩ : PrsFrame).dev)))) ([0x5a] : Bytes)).1 (programSpan (tPresent : PresentRec) (prsAddr (⟨1, false, false, 0x2000, false⟩ : PrsFrame) (emOf (upEm 2 (fun e => { e with wel := true }) stRel : State) (emKey (⟨1, false, false, 0x2000, false⟩ : PrsFrame).port (b2n (⟨1, false, false, 0x2000, false⟩ : PrsFrame).dev)))) ([0x5a] : Bytes)).2.length) = none := by decide

theorem wit_PresentedWrites_2 : (upEm 2 (fun e => { e with wel := true }) ({ stRel with run := ⟨none, 0, some { tPol with presents := [{ tPresent with facts := { tFacts with reads := [(.m112, 8), (.m122, 8), (.m114, 8), (.m144, 8), (.m1s4d4d, 8)], xspi8s := some 10, xspi8d := some 10 }, width := 8, flags := 1 }] }, 0, true, tabEmpty, tabEmpty, none, []⟩ }) : State).run.policy = some ({ tPol with presents := [{ tPresent with facts := { tFacts with reads := [(.m112, 8), (.m122, 8), (.m114, 8), (.m144, 8), (.m1s4d4d, 8)], xspi8s := some 10, xspi8d := some 10 }, width := 8, flags := 1 }] } : PolicyImage) ∧ prsRec (upEm 2 (fun e => { e with wel := true }) ({ stRel with run := ⟨none, 0, some { tPol with presents := [{ tPresent with facts := { tFacts with reads := [(.m112, 8), (.m122, 8), (.m114, 8), (.m144, 8), (.m1s4d4d, 8)], xspi8s := some 10, xspi8d := some 10 }, width := 8, flags := 1 }] }, 0, true, tabEmpty, tabEmpty, none, []⟩ }) : State) (⟨1, false, false, 0x2000, false⟩ : PrsFrame).port (b2n (⟨1, false, false, 0x2000, false⟩ : PrsFrame).dev) = some ({ tPresent with facts := { tFacts with reads := [(.m112, 8), (.m122, 8), (.m114, 8), (.m144, 8), (.m1s4d4d, 8)], xspi8s := some 10, xspi8d := some 10 }, width := 8, flags := 1 } : PresentRec) ∧ prsAnswers (upEm 2 (fun e => { e with wel := true }) ({ stRel with run := ⟨none, 0, some { tPol with presents := [{ tPresent with facts := { tFacts with reads := [(.m112, 8), (.m122, 8), (.m114, 8), (.m144, 8), (.m1s4d4d, 8)], xspi8s := some 10, xspi8d := some 10 }, width := 8, flags := 1 }] }, 0, true, tabEmpty, tabEmpty, none, []⟩ }) : State) (⟨1, false, false, 0x2000, false⟩ : PrsFrame) = true ∧ (emOf (upEm 2 (fun e => { e with wel := true }) ({ stRel with run := ⟨none, 0, some { tPol with presents := [{ tPresent with facts := { tFacts with reads := [(.m112, 8), (.m122, 8), (.m114, 8), (.m144, 8), (.m1s4d4d, 8)], xspi8s := some 10, xspi8d := some 10 }, width := 8, flags := 1 }] }, 0, true, tabEmpty, tabEmpty, none, []⟩ }) : State) (emKey (⟨1, false, false, 0x2000, false⟩ : PrsFrame).port (b2n (⟨1, false, false, 0x2000, false⟩ : PrsFrame).dev))).wel = true ∧ (emOf (upEm 2 (fun e => { e with wel := true }) ({ stRel with run := ⟨none, 0, some { tPol with presents := [{ tPresent with facts := { tFacts with reads := [(.m112, 8), (.m122, 8), (.m114, 8), (.m144, 8), (.m1s4d4d, 8)], xspi8s := some 10, xspi8d := some 10 }, width := 8, flags := 1 }] }, 0, true, tabEmpty, tabEmpty, none, []⟩ }) : State) (emKey (⟨1, false, false, 0x2000, false⟩ : PrsFrame).port (b2n (⟨1, false, false, 0x2000, false⟩ : PrsFrame).dev))).pend = none ∧ ({ tPresent with facts := { tFacts with reads := [(.m112, 8), (.m122, 8), (.m114, 8), (.m144, 8), (.m1s4d4d, 8)], xspi8s := some 10, xspi8d := some 10 }, width := 8, flags := 1 } : PresentRec).port = (⟨1, false, false, 0x2000, false⟩ : PrsFrame).port ∧ ({ tPresent with facts := { tFacts with reads := [(.m112, 8), (.m122, 8), (.m114, 8), (.m144, 8), (.m1s4d4d, 8)], xspi8s := some 10, xspi8d := some 10 }, width := 8, flags := 1 } : PresentRec).device = b2n (⟨1, false, false, 0x2000, false⟩ : PrsFrame).dev ∧ ([0x5a] : Bytes) ≠ [] ∧ (emOf (upEm 2 (fun e => { e with wel := true }) ({ stRel with run := ⟨none, 0, some { tPol with presents := [{ tPresent with facts := { tFacts with reads := [(.m112, 8), (.m122, 8), (.m114, 8), (.m144, 8), (.m1s4d4d, 8)], xspi8s := some 10, xspi8d := some 10 }, width := 8, flags := 1 }] }, 0, true, tabEmpty, tabEmpty, none, []⟩ }) : State) (emKey (⟨1, false, false, 0x2000, false⟩ : PrsFrame).port (b2n (⟨1, false, false, 0x2000, false⟩ : PrsFrame).dev))).proto = .p1s ∧ 4 ≤ ({ tPresent with facts := { tFacts with reads := [(.m112, 8), (.m122, 8), (.m114, 8), (.m144, 8), (.m1s4d4d, 8)], xspi8s := some 10, xspi8d := some 10 }, width := 8, flags := 1 } : PresentRec).width ∧ refusingClass (pageClasses ({ tPol with presents := [{ tPresent with facts := { tFacts with reads := [(.m112, 8), (.m122, 8), (.m114, 8), (.m144, 8), (.m1s4d4d, 8)], xspi8s := some 10, xspi8d := some 10 }, width := 8, flags := 1 }] } : PolicyImage) ({ tPresent with facts := { tFacts with reads := [(.m112, 8), (.m122, 8), (.m114, 8), (.m144, 8), (.m1s4d4d, 8)], xspi8s := some 10, xspi8d := some 10 }, width := 8, flags := 1 } : PresentRec) (programSpan ({ tPresent with facts := { tFacts with reads := [(.m112, 8), (.m122, 8), (.m114, 8), (.m144, 8), (.m1s4d4d, 8)], xspi8s := some 10, xspi8d := some 10 }, width := 8, flags := 1 } : PresentRec) (prsAddr (⟨1, false, false, 0x2000, false⟩ : PrsFrame) (emOf (upEm 2 (fun e => { e with wel := true }) ({ stRel with run := ⟨none, 0, some { tPol with presents := [{ tPresent with facts := { tFacts with reads := [(.m112, 8), (.m122, 8), (.m114, 8), (.m144, 8), (.m1s4d4d, 8)], xspi8s := some 10, xspi8d := some 10 }, width := 8, flags := 1 }] }, 0, true, tabEmpty, tabEmpty, none, []⟩ }) : State) (emKey (⟨1, false, false, 0x2000, false⟩ : PrsFrame).port (b2n (⟨1, false, false, 0x2000, false⟩ : PrsFrame).dev)))) ([0x5a] : Bytes)).1 (programSpan ({ tPresent with facts := { tFacts with reads := [(.m112, 8), (.m122, 8), (.m114, 8), (.m144, 8), (.m1s4d4d, 8)], xspi8s := some 10, xspi8d := some 10 }, width := 8, flags := 1 } : PresentRec) (prsAddr (⟨1, false, false, 0x2000, false⟩ : PrsFrame) (emOf (upEm 2 (fun e => { e with wel := true }) ({ stRel with run := ⟨none, 0, some { tPol with presents := [{ tPresent with facts := { tFacts with reads := [(.m112, 8), (.m122, 8), (.m114, 8), (.m144, 8), (.m1s4d4d, 8)], xspi8s := some 10, xspi8d := some 10 }, width := 8, flags := 1 }] }, 0, true, tabEmpty, tabEmpty, none, []⟩ }) : State) (emKey (⟨1, false, false, 0x2000, false⟩ : PrsFrame).port (b2n (⟨1, false, false, 0x2000, false⟩ : PrsFrame).dev)))) ([0x5a] : Bytes)).2.length) = none := by decide

theorem wit_PresentedWrites_3 : (upEm 2 (fun e => { e with wel := true }) stRel : State).run.policy = some (tPol : PolicyImage) ∧ prsRec (upEm 2 (fun e => { e with wel := true }) stRel : State) (⟨1, false, false, 0x2000, false⟩ : PrsFrame).port (b2n (⟨1, false, false, 0x2000, false⟩ : PrsFrame).dev) = some (tPresent : PresentRec) ∧ prsAnswers (upEm 2 (fun e => { e with wel := true }) stRel : State) (⟨1, false, false, 0x2000, false⟩ : PrsFrame) = true ∧ (emOf (upEm 2 (fun e => { e with wel := true }) stRel : State) (emKey (⟨1, false, false, 0x2000, false⟩ : PrsFrame).port (b2n (⟨1, false, false, 0x2000, false⟩ : PrsFrame).dev))).wel = true ∧ (emOf (upEm 2 (fun e => { e with wel := true }) stRel : State) (emKey (⟨1, false, false, 0x2000, false⟩ : PrsFrame).port (b2n (⟨1, false, false, 0x2000, false⟩ : PrsFrame).dev))).pend = none ∧ (tPresent : PresentRec).port = (⟨1, false, false, 0x2000, false⟩ : PrsFrame).port ∧ (tPresent : PresentRec).device = b2n (⟨1, false, false, 0x2000, false⟩ : PrsFrame).dev ∧ eraseType (tPresent : PresentRec) (emOf (upEm 2 (fun e => { e with wel := true }) stRel : State) (emKey (⟨1, false, false, 0x2000, false⟩ : PrsFrame).port (b2n (⟨1, false, false, 0x2000, false⟩ : PrsFrame).dev))) (⟨1, false, false, 0x2000, false⟩ : PrsFrame).form4 (0x21 : Byte) = some ((12 : Nat), (true : Bool)) ∧ refusingClass (pageClasses (tPol : PolicyImage) (tPresent : PresentRec) ((prsAddr { (⟨1, false, false, 0x2000, false⟩ : PrsFrame) with form4 := (true : Bool) } (emOf (upEm 2 (fun e => { e with wel := true }) stRel : State) (emKey (⟨1, false, false, 0x2000, false⟩ : PrsFrame).port (b2n (⟨1, false, false, 0x2000, false⟩ : PrsFrame).dev)))) / 2 ^ (12 : Nat) * 2 ^ (12 : Nat)) (2 ^ (12 : Nat))) = none := by decide

theorem wit_PresentedWrites_4 : eraseType (tPresent : PresentRec) (em0 : EmDev) (true : Bool) (0x21 : Byte) = some ((12 : Nat), (true : Bool)) ∧ ((em0 : EmDev).proto ≠ .p1s ∨ (true : Bool) = true) := by decide

theorem wit_PresentedWrites_5 : (upEm 2 (fun e => { e with wel := true, proto := .p8d }) stRel : State).run.policy = some (tPol : PolicyImage) ∧ prsRec (upEm 2 (fun e => { e with wel := true, proto := .p8d }) stRel : State) (⟨1, false, false, 0x2000, true⟩ : PrsFrame).port (b2n (⟨1, false, false, 0x2000, true⟩ : PrsFrame).dev) = some (tPresent : PresentRec) ∧ prsAnswers (upEm 2 (fun e => { e with wel := true, proto := .p8d }) stRel : State) (⟨1, false, false, 0x2000, true⟩ : PrsFrame) = true ∧ (emOf (upEm 2 (fun e => { e with wel := true, proto := .p8d }) stRel : State) (emKey (⟨1, false, false, 0x2000, true⟩ : PrsFrame).port (b2n (⟨1, false, false, 0x2000, true⟩ : PrsFrame).dev))).wel = true ∧ (emOf (upEm 2 (fun e => { e with wel := true, proto := .p8d }) stRel : State) (emKey (⟨1, false, false, 0x2000, true⟩ : PrsFrame).port (b2n (⟨1, false, false, 0x2000, true⟩ : PrsFrame).dev))).pend = none ∧ (emOf (upEm 2 (fun e => { e with wel := true, proto := .p8d }) stRel : State) (emKey (⟨1, false, false, 0x2000, true⟩ : PrsFrame).port (b2n (⟨1, false, false, 0x2000, true⟩ : PrsFrame).dev))).proto = .p8d ∧ (⟨1, false, false, 0x2000, true⟩ : PrsFrame).form4 = true ∧ ([0x5a] : Bytes).length % 2 = 1 := by decide

theorem wit_PresentedWrites_6 : (upEm 2 (fun e => { e with wel := true, proto := .p8s }) stRel : State).run.policy = some (tPol : PolicyImage) ∧ prsRec (upEm 2 (fun e => { e with wel := true, proto := .p8s }) stRel : State) (⟨1, false, false, 0x2000, false⟩ : PrsFrame).port (b2n (⟨1, false, false, 0x2000, false⟩ : PrsFrame).dev) = some (tPresent : PresentRec) ∧ prsAnswers (upEm 2 (fun e => { e with wel := true, proto := .p8s }) stRel : State) (⟨1, false, false, 0x2000, false⟩ : PrsFrame) = true ∧ (emOf (upEm 2 (fun e => { e with wel := true, proto := .p8s }) stRel : State) (emKey (⟨1, false, false, 0x2000, false⟩ : PrsFrame).port (b2n (⟨1, false, false, 0x2000, false⟩ : PrsFrame).dev))).wel = true ∧ (emOf (upEm 2 (fun e => { e with wel := true, proto := .p8s }) stRel : State) (emKey (⟨1, false, false, 0x2000, false⟩ : PrsFrame).port (b2n (⟨1, false, false, 0x2000, false⟩ : PrsFrame).dev))).pend = none ∧ (emOf (upEm 2 (fun e => { e with wel := true, proto := .p8s }) stRel : State) (emKey (⟨1, false, false, 0x2000, false⟩ : PrsFrame).port (b2n (⟨1, false, false, 0x2000, false⟩ : PrsFrame).dev))).proto ≠ .p1s ∧ (⟨1, false, false, 0x2000, false⟩ : PrsFrame).form4 = false := by decide

/-- A policy whose presented device is one 4 KiB page, all MUTABLE. -/
def tPolSmall : PolicyImage := { tPol with channels := [{ tChan with size0 := 12 }], locks := [⟨1, 0, 3, 0, 0x1000⟩] }
theorem wit_PresentedWrites_7 :
    let s := upEm 2 (fun e => { e with wel := true }) { stRel with run := ⟨none, 0, some tPolSmall, 0, true, tabEmpty, tabEmpty, none, []⟩ }
    let f : PrsFrame := ⟨1, false, false, 0, false⟩
    s.run.policy = some tPolSmall ∧ prsRec s f.port (b2n f.dev) = some tPresent ∧ prsAnswers s f = true ∧
      (emOf s (emKey f.port (b2n f.dev))).wel = true ∧ (emOf s (emKey f.port (b2n f.dev))).pend = none ∧
      tPresent.port = f.port ∧ tPresent.device = b2n f.dev ∧ refusingClass (pageClasses tPolSmall tPresent 0 (prsSize tPolSmall tPresent)) = none := by decide

theorem wit_PresentedWrites_8 : (emOf (upEm 2 (fun e => { e with wel := true, pend := some ⟨⟨1, 1, 0, 1, 0, false, 0x2000, 1, [7], 3, none⟩, .journal⟩ }) stRel : State) (emKey (1 : Nat) (b2n (false : Bool)))).pend = some (⟨⟨1, 1, 0, 1, 0, false, 0x2000, 1, [7], 3, none⟩, .journal⟩ : PendWrite) ∧ (⟨⟨1, 1, 0, 1, 0, false, 0x2000, 1, [7], 3, none⟩, .journal⟩ : PendWrite).step = .journal ∧ journalTaken (upEm 2 (fun e => { e with wel := true, pend := some ⟨⟨1, 1, 0, 1, 0, false, 0x2000, 1, [7], 3, none⟩, .journal⟩ }) stRel : State) (1 : Nat) < 2048 := by decide

theorem wit_PresentedWrites_9 : (emOf (upEm 2 (fun e => { e with wel := true, pend := some ⟨⟨1, 1, 0, 1, 0, false, 0x2000, 1, [7], 3, none⟩, .durable⟩ }) stRel : State) (emKey (1 : Nat) (b2n (false : Bool)))).pend = some (⟨⟨1, 1, 0, 1, 0, false, 0x2000, 1, [7], 3, none⟩, .durable⟩ : PendWrite) ∧ (⟨⟨1, 1, 0, 1, 0, false, 0x2000, 1, [7], 3, none⟩, .durable⟩ : PendWrite).step = .durable ∧ entryFits (upEm 2 (fun e => { e with wel := true, pend := some ⟨⟨1, 1, 0, 1, 0, false, 0x2000, 1, [7], 3, none⟩, .durable⟩ }) stRel : State) = true := by decide

theorem wit_PresentedWrites_10 : (emOf (upEm 2 (fun e => { e with wel := true, pend := some ⟨⟨1, 1, 0, 1, 0, false, 0x2000, 1, [7], 3, none⟩, .apply⟩ }) stRel : State) (emKey (1 : Nat) (b2n (false : Bool)))).pend = some (⟨⟨1, 1, 0, 1, 0, false, 0x2000, 1, [7], 3, none⟩, .apply⟩ : PendWrite) ∧ (⟨⟨1, 1, 0, 1, 0, false, 0x2000, 1, [7], 3, none⟩, .apply⟩ : PendWrite).step = .apply ∧ lakeUp (upEm 2 (fun e => { e with wel := true, pend := some ⟨⟨1, 1, 0, 1, 0, false, 0x2000, 1, [7], 3, none⟩, .apply⟩ }) stRel : State) = true ∧ (upEm 2 (fun e => { e with wel := true, pend := some ⟨⟨1, 1, 0, 1, 0, false, 0x2000, 1, [7], 3, none⟩, .apply⟩ }) stRel : State).run.policy = some (tPol : PolicyImage) ∧ prsRec (upEm 2 (fun e => { e with wel := true, pend := some ⟨⟨1, 1, 0, 1, 0, false, 0x2000, 1, [7], 3, none⟩, .apply⟩ }) stRel : State) (1 : Nat) (b2n (false : Bool)) = some (tPresent : PresentRec) ∧ (⟨⟨1, 1, 0, 1, 0, false, 0x2000, 1, [7], 3, none⟩, .apply⟩ : PendWrite).entry.cls = 3 := by decide

theorem wit_WritesOutsideTheLockMapDoNothing_1 : (upEm 2 (fun e => { e with wel := true }) stRel : State).run.policy = some (tPol : PolicyImage) ∧ prsRec (upEm 2 (fun e => { e with wel := true }) stRel : State) (⟨1, false, false, 0x10, false⟩ : PrsFrame).port (b2n (⟨1, false, false, 0x10, false⟩ : PrsFrame).dev) = some (tPresent : PresentRec) ∧ prsAnswers (upEm 2 (fun e => { e with wel := true }) stRel : State) (⟨1, false, false, 0x10, false⟩ : PrsFrame) = true ∧ (tPresent : PresentRec).port = (⟨1, false, false, 0x10, false⟩ : PrsFrame).port ∧ (tPresent : PresentRec).device = b2n (⟨1, false, false, 0x10, false⟩ : PrsFrame).dev ∧ (emOf (upEm 2 (fun e => { e with wel := true }) stRel : State) (emKey (⟨1, false, false, 0x10, false⟩ : PrsFrame).port (b2n (⟨1, false, false, 0x10, false⟩ : PrsFrame).dev))).pend = none ∧ ([0x5a] : Bytes) ≠ [] ∧ ((emOf (upEm 2 (fun e => { e with wel := true }) stRel : State) (emKey (⟨1, false, false, 0x10, false⟩ : PrsFrame).port (b2n (⟨1, false, false, 0x10, false⟩ : PrsFrame).dev))).proto = .p1s ∨ (⟨1, false, false, 0x10, false⟩ : PrsFrame).form4 = true) ∧ ((emOf (upEm 2 (fun e => { e with wel := true }) stRel : State) (emKey (⟨1, false, false, 0x10, false⟩ : PrsFrame).port (b2n (⟨1, false, false, 0x10, false⟩ : PrsFrame).dev))).proto = .p8d → ([0x5a] : Bytes).length % 2 = 0) ∧ ((emOf (upEm 2 (fun e => { e with wel := true }) stRel : State) (emKey (⟨1, false, false, 0x10, false⟩ : PrsFrame).port (b2n (⟨1, false, false, 0x10, false⟩ : PrsFrame).dev))).wel = false ∨ refusingClass (pageClasses (tPol : PolicyImage) (tPresent : PresentRec) (programSpan (tPresent : PresentRec) (prsAddr (⟨1, false, false, 0x10, false⟩ : PrsFrame) (emOf (upEm 2 (fun e => { e with wel := true }) stRel : State) (emKey (⟨1, false, false, 0x10, false⟩ : PrsFrame).port (b2n (⟨1, false, false, 0x10, false⟩ : PrsFrame).dev)))) ([0x5a] : Bytes)).1 (programSpan (tPresent : PresentRec) (prsAddr (⟨1, false, false, 0x10, false⟩ : PrsFrame) (emOf (upEm 2 (fun e => { e with wel := true }) stRel : State) (emKey (⟨1, false, false, 0x10, false⟩ : PrsFrame).port (b2n (⟨1, false, false, 0x10, false⟩ : PrsFrame).dev)))) ([0x5a] : Bytes)).2.length) ≠ none) := by decide

theorem wit_WritesOutsideTheLockMapDoNothing_2 : (upEm 2 (fun e => { e with wel := true }) ({ stRel with run := ⟨none, 0, some { tPol with presents := [{ tPresent with facts := { tFacts with reads := [(.m112, 8), (.m122, 8), (.m114, 8), (.m144, 8), (.m1s4d4d, 8)], xspi8s := some 10, xspi8d := some 10 }, width := 8, flags := 1 }] }, 0, true, tabEmpty, tabEmpty, none, []⟩ }) : State).run.policy = some ({ tPol with presents := [{ tPresent with facts := { tFacts with reads := [(.m112, 8), (.m122, 8), (.m114, 8), (.m144, 8), (.m1s4d4d, 8)], xspi8s := some 10, xspi8d := some 10 }, width := 8, flags := 1 }] } : PolicyImage) ∧ prsRec (upEm 2 (fun e => { e with wel := true }) ({ stRel with run := ⟨none, 0, some { tPol with presents := [{ tPresent with facts := { tFacts with reads := [(.m112, 8), (.m122, 8), (.m114, 8), (.m144, 8), (.m1s4d4d, 8)], xspi8s := some 10, xspi8d := some 10 }, width := 8, flags := 1 }] }, 0, true, tabEmpty, tabEmpty, none, []⟩ }) : State) (⟨1, false, false, 0x10, false⟩ : PrsFrame).port (b2n (⟨1, false, false, 0x10, false⟩ : PrsFrame).dev) = some ({ tPresent with facts := { tFacts with reads := [(.m112, 8), (.m122, 8), (.m114, 8), (.m144, 8), (.m1s4d4d, 8)], xspi8s := some 10, xspi8d := some 10 }, width := 8, flags := 1 } : PresentRec) ∧ prsAnswers (upEm 2 (fun e => { e with wel := true }) ({ stRel with run := ⟨none, 0, some { tPol with presents := [{ tPresent with facts := { tFacts with reads := [(.m112, 8), (.m122, 8), (.m114, 8), (.m144, 8), (.m1s4d4d, 8)], xspi8s := some 10, xspi8d := some 10 }, width := 8, flags := 1 }] }, 0, true, tabEmpty, tabEmpty, none, []⟩ }) : State) (⟨1, false, false, 0x10, false⟩ : PrsFrame) = true ∧ ({ tPresent with facts := { tFacts with reads := [(.m112, 8), (.m122, 8), (.m114, 8), (.m144, 8), (.m1s4d4d, 8)], xspi8s := some 10, xspi8d := some 10 }, width := 8, flags := 1 } : PresentRec).port = (⟨1, false, false, 0x10, false⟩ : PrsFrame).port ∧ ({ tPresent with facts := { tFacts with reads := [(.m112, 8), (.m122, 8), (.m114, 8), (.m144, 8), (.m1s4d4d, 8)], xspi8s := some 10, xspi8d := some 10 }, width := 8, flags := 1 } : PresentRec).device = b2n (⟨1, false, false, 0x10, false⟩ : PrsFrame).dev ∧ (emOf (upEm 2 (fun e => { e with wel := true }) ({ stRel with run := ⟨none, 0, some { tPol with presents := [{ tPresent with facts := { tFacts with reads := [(.m112, 8), (.m122, 8), (.m114, 8), (.m144, 8), (.m1s4d4d, 8)], xspi8s := some 10, xspi8d := some 10 }, width := 8, flags := 1 }] }, 0, true, tabEmpty, tabEmpty, none, []⟩ }) : State) (emKey (⟨1, false, false, 0x10, false⟩ : PrsFrame).port (b2n (⟨1, false, false, 0x10, false⟩ : PrsFrame).dev))).pend = none ∧ ([0x5a] : Bytes) ≠ [] ∧ (emOf (upEm 2 (fun e => { e with wel := true }) ({ stRel with run := ⟨none, 0, some { tPol with presents := [{ tPresent with facts := { tFacts with reads := [(.m112, 8), (.m122, 8), (.m114, 8), (.m144, 8), (.m1s4d4d, 8)], xspi8s := some 10, xspi8d := some 10 }, width := 8, flags := 1 }] }, 0, true, tabEmpty, tabEmpty, none, []⟩ }) : State) (emKey (⟨1, false, false, 0x10, false⟩ : PrsFrame).port (b2n (⟨1, false, false, 0x10, false⟩ : PrsFrame).dev))).proto = .p1s ∧ 4 ≤ ({ tPresent with facts := { tFacts with reads := [(.m112, 8), (.m122, 8), (.m114, 8), (.m144, 8), (.m1s4d4d, 8)], xspi8s := some 10, xspi8d := some 10 }, width := 8, flags := 1 } : PresentRec).width ∧ ((emOf (upEm 2 (fun e => { e with wel := true }) ({ stRel with run := ⟨none, 0, some { tPol with presents := [{ tPresent with facts := { tFacts with reads := [(.m112, 8), (.m122, 8), (.m114, 8), (.m144, 8), (.m1s4d4d, 8)], xspi8s := some 10, xspi8d := some 10 }, width := 8, flags := 1 }] }, 0, true, tabEmpty, tabEmpty, none, []⟩ }) : State) (emKey (⟨1, false, false, 0x10, false⟩ : PrsFrame).port (b2n (⟨1, false, false, 0x10, false⟩ : PrsFrame).dev))).wel = false ∨ refusingClass (pageClasses ({ tPol with presents := [{ tPresent with facts := { tFacts with reads := [(.m112, 8), (.m122, 8), (.m114, 8), (.m144, 8), (.m1s4d4d, 8)], xspi8s := some 10, xspi8d := some 10 }, width := 8, flags := 1 }] } : PolicyImage) ({ tPresent with facts := { tFacts with reads := [(.m112, 8), (.m122, 8), (.m114, 8), (.m144, 8), (.m1s4d4d, 8)], xspi8s := some 10, xspi8d := some 10 }, width := 8, flags := 1 } : PresentRec) (programSpan ({ tPresent with facts := { tFacts with reads := [(.m112, 8), (.m122, 8), (.m114, 8), (.m144, 8), (.m1s4d4d, 8)], xspi8s := some 10, xspi8d := some 10 }, width := 8, flags := 1 } : PresentRec) (prsAddr (⟨1, false, false, 0x10, false⟩ : PrsFrame) (emOf (upEm 2 (fun e => { e with wel := true }) ({ stRel with run := ⟨none, 0, some { tPol with presents := [{ tPresent with facts := { tFacts with reads := [(.m112, 8), (.m122, 8), (.m114, 8), (.m144, 8), (.m1s4d4d, 8)], xspi8s := some 10, xspi8d := some 10 }, width := 8, flags := 1 }] }, 0, true, tabEmpty, tabEmpty, none, []⟩ }) : State) (emKey (⟨1, false, false, 0x10, false⟩ : PrsFrame).port (b2n (⟨1, false, false, 0x10, false⟩ : PrsFrame).dev)))) ([0x5a] : Bytes)).1 (programSpan ({ tPresent with facts := { tFacts with reads := [(.m112, 8), (.m122, 8), (.m114, 8), (.m144, 8), (.m1s4d4d, 8)], xspi8s := some 10, xspi8d := some 10 }, width := 8, flags := 1 } : PresentRec) (prsAddr (⟨1, false, false, 0x10, false⟩ : PrsFrame) (emOf (upEm 2 (fun e => { e with wel := true }) ({ stRel with run := ⟨none, 0, some { tPol with presents := [{ tPresent with facts := { tFacts with reads := [(.m112, 8), (.m122, 8), (.m114, 8), (.m144, 8), (.m1s4d4d, 8)], xspi8s := some 10, xspi8d := some 10 }, width := 8, flags := 1 }] }, 0, true, tabEmpty, tabEmpty, none, []⟩ }) : State) (emKey (⟨1, false, false, 0x10, false⟩ : PrsFrame).port (b2n (⟨1, false, false, 0x10, false⟩ : PrsFrame).dev)))) ([0x5a] : Bytes)).2.length) ≠ none) := by decide

theorem wit_WritesOutsideTheLockMapDoNothing_3 : (upEm 2 (fun e => { e with wel := true }) stRel : State).run.policy = some (tPol : PolicyImage) ∧ prsRec (upEm 2 (fun e => { e with wel := true }) stRel : State) (⟨1, false, false, 0x10, false⟩ : PrsFrame).port (b2n (⟨1, false, false, 0x10, false⟩ : PrsFrame).dev) = some (tPresent : PresentRec) ∧ prsAnswers (upEm 2 (fun e => { e with wel := true }) stRel : State) (⟨1, false, false, 0x10, false⟩ : PrsFrame) = true ∧ (tPresent : PresentRec).port = (⟨1, false, false, 0x10, false⟩ : PrsFrame).port ∧ (tPresent : PresentRec).device = b2n (⟨1, false, false, 0x10, false⟩ : PrsFrame).dev ∧ (emOf (upEm 2 (fun e => { e with wel := true }) stRel : State) (emKey (⟨1, false, false, 0x10, false⟩ : PrsFrame).port (b2n (⟨1, false, false, 0x10, false⟩ : PrsFrame).dev))).pend = none ∧ eraseType (tPresent : PresentRec) (emOf (upEm 2 (fun e => { e with wel := true }) stRel : State) (emKey (⟨1, false, false, 0x10, false⟩ : PrsFrame).port (b2n (⟨1, false, false, 0x10, false⟩ : PrsFrame).dev))) (⟨1, false, false, 0x10, false⟩ : PrsFrame).form4 (0x21 : Byte) = some ((12 : Nat), (true : Bool)) ∧ ((emOf (upEm 2 (fun e => { e with wel := true }) stRel : State) (emKey (⟨1, false, false, 0x10, false⟩ : PrsFrame).port (b2n (⟨1, false, false, 0x10, false⟩ : PrsFrame).dev))).wel = false ∨ refusingClass (pageClasses (tPol : PolicyImage) (tPresent : PresentRec) ((prsAddr { (⟨1, false, false, 0x10, false⟩ : PrsFrame) with form4 := (true : Bool) } (emOf (upEm 2 (fun e => { e with wel := true }) stRel : State) (emKey (⟨1, false, false, 0x10, false⟩ : PrsFrame).port (b2n (⟨1, false, false, 0x10, false⟩ : PrsFrame).dev)))) / 2 ^ (12 : Nat) * 2 ^ (12 : Nat)) (2 ^ (12 : Nat))) ≠ none) := by decide

theorem wit_WritesOutsideTheLockMapDoNothing_4 :
    let s := upEm 2 (fun e => { e with wel := true }) { stRel with run := ⟨none, 0, some { tPolSmall with locks := [⟨1, 0, 2, 0, 0x1000⟩] }, 0, true, tabEmpty, tabEmpty, none, []⟩ }
    let f : PrsFrame := ⟨1, false, false, 0, false⟩
    let p : PolicyImage := { tPolSmall with locks := [⟨1, 0, 2, 0, 0x1000⟩] }
    s.run.policy = some p ∧ prsRec s f.port (b2n f.dev) = some tPresent ∧ prsAnswers s f = true ∧
      tPresent.port = f.port ∧ tPresent.device = b2n f.dev ∧ (emOf s (emKey f.port (b2n f.dev))).pend = none ∧
      ((emOf s (emKey f.port (b2n f.dev))).wel = false ∨ refusingClass (pageClasses p tPresent 0 (prsSize p tPresent)) ≠ none) := by decide

theorem wit_WritesOutsideTheLockMapDoNothing_5 : (emOf (upEm 2 (fun e => { e with wel := true, pend := some ⟨⟨1, 1, 0, 1, 0, false, 0x2000, 1, [7], 3, none⟩, .apply⟩ }) stRel : State) (emKey (⟨1, false, false, 0x2000, false⟩ : PrsFrame).port (b2n (⟨1, false, false, 0x2000, false⟩ : PrsFrame).dev))).pend = some (⟨⟨1, 1, 0, 1, 0, false, 0x2000, 1, [7], 3, none⟩, .apply⟩ : PendWrite) := by decide

theorem wit_PresentedRegisters_1 : (stRel : State).run.policy = some (tPol : PolicyImage) ∧ prsRec (stRel : State) (⟨1, false, false, 0x2000, false⟩ : PrsFrame).port (b2n (⟨1, false, false, 0x2000, false⟩ : PrsFrame).dev) = some (tPresent : PresentRec) ∧ prsAnswers (stRel : State) (⟨1, false, false, 0x2000, false⟩ : PrsFrame) = true ∧ (tPresent : PresentRec).port = (⟨1, false, false, 0x2000, false⟩ : PrsFrame).port ∧ (tPresent : PresentRec).device = b2n (⟨1, false, false, 0x2000, false⟩ : PrsFrame).dev := by decide

theorem wit_PresentedRegisters_2 : (stRel : State).run.policy = some (tPol : PolicyImage) ∧ prsRec (stRel : State) (⟨1, false, false, 0x2000, false⟩ : PrsFrame).port (b2n (⟨1, false, false, 0x2000, false⟩ : PrsFrame).dev) = some (tPresent : PresentRec) ∧ prsAnswers (stRel : State) (⟨1, false, false, 0x2000, false⟩ : PrsFrame) = true ∧ (tPresent : PresentRec).port = (⟨1, false, false, 0x2000, false⟩ : PrsFrame).port ∧ (tPresent : PresentRec).device = b2n (⟨1, false, false, 0x2000, false⟩ : PrsFrame).dev := by decide

theorem wit_PresentedRegisters_3 : (stRel : State).run.policy = some (tPol : PolicyImage) ∧ prsRec (stRel : State) (⟨1, false, false, 0x2000, false⟩ : PrsFrame).port (b2n (⟨1, false, false, 0x2000, false⟩ : PrsFrame).dev) = some (tPresent : PresentRec) ∧ prsAnswers (stRel : State) (⟨1, false, false, 0x2000, false⟩ : PrsFrame) = true ∧ (tPresent : PresentRec).port = (⟨1, false, false, 0x2000, false⟩ : PrsFrame).port ∧ (tPresent : PresentRec).device = b2n (⟨1, false, false, 0x2000, false⟩ : PrsFrame).dev := by decide

theorem wit_PresentedRegisters_4 : (stRel : State).run.policy = some (tPol : PolicyImage) ∧ prsRec (stRel : State) (⟨1, false, false, 0x2000, false⟩ : PrsFrame).port (b2n (⟨1, false, false, 0x2000, false⟩ : PrsFrame).dev) = some (tPresent : PresentRec) ∧ prsAnswers (stRel : State) (⟨1, false, false, 0x2000, false⟩ : PrsFrame) = true := by decide

theorem wit_PresentedRegisters_5 : (stRel : State).run.policy = some (tPol : PolicyImage) ∧ prsRec (stRel : State) (⟨1, false, false, 0x2000, false⟩ : PrsFrame).port (b2n (⟨1, false, false, 0x2000, false⟩ : PrsFrame).dev) = some (tPresent : PresentRec) ∧ prsAnswers (stRel : State) (⟨1, false, false, 0x2000, false⟩ : PrsFrame) = true := by decide

theorem wit_PresentedRegisters_6 : (stRel : State).run.policy = some (tPol : PolicyImage) ∧ prsRec (stRel : State) (⟨1, false, false, 0x2000, false⟩ : PrsFrame).port (b2n (⟨1, false, false, 0x2000, false⟩ : PrsFrame).dev) = some (tPresent : PresentRec) ∧ prsAnswers (stRel : State) (⟨1, false, false, 0x2000, false⟩ : PrsFrame) = true ∧ (emOf (stRel : State) (emKey (⟨1, false, false, 0x2000, false⟩ : PrsFrame).port (b2n (⟨1, false, false, 0x2000, false⟩ : PrsFrame).dev))).proto = .p1s ∧ (7 : Nat) < (8 : Nat) := by decide

theorem wit_PresentedRegisters_7 : ({ stRel with run := ⟨none, 0, some { tPol with channels := [{ tChan with size0 := 26 }] }, 0, true, tabEmpty, tabEmpty, none, []⟩ } : State).run.policy = some ({ tPol with channels := [{ tChan with size0 := 26 }] } : PolicyImage) ∧ prsRec ({ stRel with run := ⟨none, 0, some { tPol with channels := [{ tChan with size0 := 26 }] }, 0, true, tabEmpty, tabEmpty, none, []⟩ } : State) (⟨1, false, false, 0x2000, false⟩ : PrsFrame).port (b2n (⟨1, false, false, 0x2000, false⟩ : PrsFrame).dev) = some (tPresent : PresentRec) ∧ prsAnswers ({ stRel with run := ⟨none, 0, some { tPol with channels := [{ tChan with size0 := 26 }] }, 0, true, tabEmpty, tabEmpty, none, []⟩ } : State) (⟨1, false, false, 0x2000, false⟩ : PrsFrame) = true ∧ (tPresent : PresentRec).port = (⟨1, false, false, 0x2000, false⟩ : PrsFrame).port ∧ (tPresent : PresentRec).device = b2n (⟨1, false, false, 0x2000, false⟩ : PrsFrame).dev ∧ (emOf ({ stRel with run := ⟨none, 0, some { tPol with channels := [{ tChan with size0 := 26 }] }, 0, true, tabEmpty, tabEmpty, none, []⟩ } : State) (emKey (⟨1, false, false, 0x2000, false⟩ : PrsFrame).port (b2n (⟨1, false, false, 0x2000, false⟩ : PrsFrame).dev))).proto = .p1s ∧ 16777216 < prsSize ({ tPol with channels := [{ tChan with size0 := 26 }] } : PolicyImage) (tPresent : PresentRec) := by decide

theorem wit_PresentedRegisters_8 : ({ stRel with run := ⟨none, 0, some { tPol with channels := [{ tChan with size0 := 26 }] }, 0, true, tabEmpty, tabEmpty, none, []⟩ } : State).run.policy = some ({ tPol with channels := [{ tChan with size0 := 26 }] } : PolicyImage) ∧ prsRec ({ stRel with run := ⟨none, 0, some { tPol with channels := [{ tChan with size0 := 26 }] }, 0, true, tabEmpty, tabEmpty, none, []⟩ } : State) (⟨1, false, false, 0x2000, false⟩ : PrsFrame).port (b2n (⟨1, false, false, 0x2000, false⟩ : PrsFrame).dev) = some (tPresent : PresentRec) ∧ prsAnswers ({ stRel with run := ⟨none, 0, some { tPol with channels := [{ tChan with size0 := 26 }] }, 0, true, tabEmpty, tabEmpty, none, []⟩ } : State) (⟨1, false, false, 0x2000, false⟩ : PrsFrame) = true ∧ (tPresent : PresentRec).port = (⟨1, false, false, 0x2000, false⟩ : PrsFrame).port ∧ (tPresent : PresentRec).device = b2n (⟨1, false, false, 0x2000, false⟩ : PrsFrame).dev ∧ (emOf ({ stRel with run := ⟨none, 0, some { tPol with channels := [{ tChan with size0 := 26 }] }, 0, true, tabEmpty, tabEmpty, none, []⟩ } : State) (emKey (⟨1, false, false, 0x2000, false⟩ : PrsFrame).port (b2n (⟨1, false, false, 0x2000, false⟩ : PrsFrame).dev))).proto = .p1s ∧ 16777216 < prsSize ({ tPol with channels := [{ tChan with size0 := 26 }] } : PolicyImage) (tPresent : PresentRec) := by decide

theorem wit_PresentedRegisters_9 : (upEm 2 (fun e => { e with wel := true }) stRel : State).run.policy = some (tPol : PolicyImage) ∧ prsRec (upEm 2 (fun e => { e with wel := true }) stRel : State) (⟨1, false, false, 0, false⟩ : PrsFrame).port (b2n (⟨1, false, false, 0, false⟩ : PrsFrame).dev) = some (tPresent : PresentRec) ∧ prsAnswers (upEm 2 (fun e => { e with wel := true }) stRel : State) (⟨1, false, false, 0, false⟩ : PrsFrame) = true ∧ (tPresent : PresentRec).port = (⟨1, false, false, 0, false⟩ : PrsFrame).port ∧ (tPresent : PresentRec).device = b2n (⟨1, false, false, 0, false⟩ : PrsFrame).dev ∧ (emOf (upEm 2 (fun e => { e with wel := true }) stRel : State) (emKey (⟨1, false, false, 0, false⟩ : PrsFrame).port (b2n (⟨1, false, false, 0, false⟩ : PrsFrame).dev))).wel = true ∧ prsAddr (⟨1, false, false, 0, false⟩ : PrsFrame) (emOf (upEm 2 (fun e => { e with wel := true }) stRel : State) (emKey (⟨1, false, false, 0, false⟩ : PrsFrame).port (b2n (⟨1, false, false, 0, false⟩ : PrsFrame).dev))) = 0 := by decide

theorem wit_PresentedRegisters_10 : (stRel : State).run.policy = some (tPol : PolicyImage) ∧ prsRec (stRel : State) (⟨1, false, false, 0x2000, false⟩ : PrsFrame).port (b2n (⟨1, false, false, 0x2000, false⟩ : PrsFrame).dev) = some (tPresent : PresentRec) ∧ prsAnswers (stRel : State) (⟨1, false, false, 0x2000, false⟩ : PrsFrame) = true ∧ (tPresent : PresentRec).port = (⟨1, false, false, 0x2000, false⟩ : PrsFrame).port ∧ (tPresent : PresentRec).device = b2n (⟨1, false, false, 0x2000, false⟩ : PrsFrame).dev := by decide

theorem wit_PresentedRegisters_11 : (upEm 2 (fun e => { e with rstEn := true, wel := true }) stRel : State).run.policy = some (tPol : PolicyImage) ∧ prsRec (upEm 2 (fun e => { e with rstEn := true, wel := true }) stRel : State) (⟨1, false, false, 0x2000, false⟩ : PrsFrame).port (b2n (⟨1, false, false, 0x2000, false⟩ : PrsFrame).dev) = some (tPresent : PresentRec) ∧ prsAnswers (upEm 2 (fun e => { e with rstEn := true, wel := true }) stRel : State) (⟨1, false, false, 0x2000, false⟩ : PrsFrame) = true ∧ (tPresent : PresentRec).port = (⟨1, false, false, 0x2000, false⟩ : PrsFrame).port ∧ (tPresent : PresentRec).device = b2n (⟨1, false, false, 0x2000, false⟩ : PrsFrame).dev ∧ (emOf (upEm 2 (fun e => { e with rstEn := true, wel := true }) stRel : State) (emKey (⟨1, false, false, 0x2000, false⟩ : PrsFrame).port (b2n (⟨1, false, false, 0x2000, false⟩ : PrsFrame).dev))).rstEn = true := by decide

theorem wit_PresentedRegisters_12 : (stRel : State).run.policy = some (tPol : PolicyImage) ∧ prsRec (stRel : State) (⟨1, false, false, 0x2000, false⟩ : PrsFrame).port (b2n (⟨1, false, false, 0x2000, false⟩ : PrsFrame).dev) = some (tPresent : PresentRec) ∧ prsAnswers (stRel : State) (⟨1, false, false, 0x2000, false⟩ : PrsFrame) = true ∧ (emOf (stRel : State) (emKey (⟨1, false, false, 0x2000, false⟩ : PrsFrame).port (b2n (⟨1, false, false, 0x2000, false⟩ : PrsFrame).dev))).proto = .p1s := by decide

theorem wit_PresentedRegisters_13 : (stRel : State).run.policy = some (tPol : PolicyImage) ∧ prsRec (stRel : State) (⟨1, false, false, 0x2000, false⟩ : PrsFrame).port (b2n (⟨1, false, false, 0x2000, false⟩ : PrsFrame).dev) = some (tPresent : PresentRec) ∧ prsAnswers (stRel : State) (⟨1, false, false, 0x2000, false⟩ : PrsFrame) = true := by decide

theorem wit_PresentedRegisters_14 : (stRel : State).run.policy = some (tPol : PolicyImage) ∧ prsRec (stRel : State) (⟨1, false, false, 0x2000, false⟩ : PrsFrame).port (b2n (⟨1, false, false, 0x2000, false⟩ : PrsFrame).dev) = some (tPresent : PresentRec) ∧ prsAnswers (stRel : State) (⟨1, false, false, 0x2000, false⟩ : PrsFrame) = true := by decide

theorem wit_PresentedRegisters_15 : prsAnswers (stRel : State) (⟨1, false, true, 0, false⟩ : PrsFrame) = false := by decide

theorem wit_DeviceLoadAndLake_1 : (upEm 2 (fun e => { e with st := .loading }) stRel : State).run.policy = some (tPol : PolicyImage) ∧ prsRec (upEm 2 (fun e => { e with st := .loading }) stRel : State) (1 : Nat) (b2n (false : Bool)) = some (tPresent : PresentRec) ∧ (emOf (upEm 2 (fun e => { e with st := .loading }) stRel : State) (emKey (1 : Nat) (b2n (false : Bool)))).st = .loading ∧ devJudged (upEm 2 (fun e => { e with st := .loading }) stRel : State) (tPol : PolicyImage) (tPresent : PresentRec) = true ∧ lakeIn (upEm 2 (fun e => { e with st := .loading }) stRel : State) = true ∧ (upEm 2 (fun e => { e with st := .loading }) stRel : State).lake.failover = false ∧ (emOf (upEm 2 (fun e => { e with st := .loading }) stRel : State) (emKey (1 : Nat) (b2n (false : Bool)))).loaded = false ∧ (chanOf (upEm 2 (fun e => { e with st := .loading }) stRel : State) (tPresent : PresentRec).channel).st = .ready := by decide

theorem wit_DeviceLoadAndLake_2 : (upChan 1 (fun c => { c with st := .failed }) (upEm 2 (fun e => { e with st := .loading }) stRel) : State).run.policy = some (tPol : PolicyImage) ∧ prsRec (upChan 1 (fun c => { c with st := .failed }) (upEm 2 (fun e => { e with st := .loading }) stRel) : State) (1 : Nat) (b2n (false : Bool)) = some (tPresent : PresentRec) ∧ (emOf (upChan 1 (fun c => { c with st := .failed }) (upEm 2 (fun e => { e with st := .loading }) stRel) : State) (emKey (1 : Nat) (b2n (false : Bool)))).st = .loading ∧ devJudged (upChan 1 (fun c => { c with st := .failed }) (upEm 2 (fun e => { e with st := .loading }) stRel) : State) (tPol : PolicyImage) (tPresent : PresentRec) = true ∧ (upChan 1 (fun c => { c with st := .failed }) (upEm 2 (fun e => { e with st := .loading }) stRel) : State).lake.failover = false ∧ (emOf (upChan 1 (fun c => { c with st := .failed }) (upEm 2 (fun e => { e with st := .loading }) stRel) : State) (emKey (1 : Nat) (b2n (false : Bool)))).loaded = false ∧ ((chanOf (upChan 1 (fun c => { c with st := .failed }) (upEm 2 (fun e => { e with st := .loading }) stRel) : State) (tPresent : PresentRec).channel).st = .stopped ∨ (chanOf (upChan 1 (fun c => { c with st := .failed }) (upEm 2 (fun e => { e with st := .loading }) stRel) : State) (tPresent : PresentRec).channel).st = .failed) := by decide

theorem wit_DeviceLoadAndLake_3 : lakeIn (stRel : State) = true ∧ (stRel : State).lake.active.getLsbD (7 : BitVec 3).toNat = true := by decide

theorem wit_DeviceLoadAndLake_4 : (stRel : State).lake.mode = .normal ∧ (stRel : State).lake.failover = false ∧ (stRel : State).lake.active.getLsbD (7 : BitVec 3).toNat = true := by decide

theorem wit_DeviceLoadAndLake_5 : (upLake (fun l => { l with mode := .parity, active := 0x7f }) stRel : State).lake.mode = .parity ∧ (upLake (fun l => { l with mode := .parity, active := 0x7f }) stRel : State).lake.failover = false ∧ (upLake (fun l => { l with mode := .parity, active := 0x7f }) stRel : State).lake.active.getLsbD (6 : BitVec 3).toNat = true := by decide

theorem wit_DeviceLoadAndLake_6 : (upLake (fun l => { l with failover := true }) stRel : State).lake.failover = true ∧ (upLake (fun l => { l with failover := true }) stRel : State).lake.held = [] := by decide

theorem wit_DeviceLoadAndLake_7 : coreRuns (upLake (fun l => { l with failover := true }) stRel : State) = true ∧ lakeIn (upLake (fun l => { l with failover := true }) stRel : State) = true ∧ (upLake (fun l => { l with failover := true }) stRel : State).lake.failover = true ∧ 0x80000000 ≤ (0x80000000 : Nat) ∧ (0x80000000 : Nat) + 4 ≤ 0xd8000000 := by decide

theorem wit_DeviceLoadAndLake_8 : (upLake (fun l => { l with failover := true, held := [.work 0x80000000 [7]] }) stRel : State).lake.failover = true ∧ (upLake (fun l => { l with failover := true, held := [.work 0x80000000 [7]] }) stRel : State).lake.held = [.work (0x80000000 : Nat) ([7] : Bytes)] := by decide

theorem wit_Judgements_1 : fwRuns (upImg 0 (fun i => { i with st := .judging }) { stRel with mor := { stRel.mor with vslot := tabEmpty } } : State) = true ∧ imgRec (upImg 0 (fun i => { i with st := .judging }) { stRel with mor := { stRel.mor with vslot := tabEmpty } } : State) (0 : Nat) = some (tImage : ImageRec) ∧ sourceExists (upImg 0 (fun i => { i with st := .judging }) { stRel with mor := { stRel.mor with vslot := tabEmpty } } : State) (0 : Nat) .half0 = true ∧ pairOf (upImg 0 (fun i => { i with st := .judging }) { stRel with mor := { stRel.mor with vslot := tabEmpty } } : State) (0 : Nat) ≠ passPair ∧ (imgOf (upImg 0 (fun i => { i with st := .judging }) { stRel with mor := { stRel.mor with vslot := tabEmpty } } : State) (0 : Nat)).st = .judging ∧ (imgOf (upImg 0 (fun i => { i with st := .judging }) { stRel with mor := { stRel.mor with vslot := tabEmpty } } : State) (0 : Nat)).stream = none ∧ dueSource (upImg 0 (fun i => { i with st := .judging }) { stRel with mor := { stRel.mor with vslot := tabEmpty } } : State) (0 : Nat) = .half0 ∧ streamTurn (upImg 0 (fun i => { i with st := .judging }) { stRel with mor := { stRel.mor with vslot := tabEmpty } } : State) (0 : Nat) = true ∧ (chanOf (upImg 0 (fun i => { i with st := .judging }) { stRel with mor := { stRel.mor with vslot := tabEmpty } } : State) (tImage : ImageRec).channel).st = .ready := by decide

theorem wit_Judgements_2 : fwRuns (upImg 0 (fun i => { i with st := .judging }) { stRel with mor := { stRel.mor with vslot := tabEmpty } } : State) = true ∧ (imgRec (upImg 0 (fun i => { i with st := .judging }) { stRel with mor := { stRel.mor with vslot := tabEmpty } } : State) (0 : Nat)).isSome = true ∧ (sourceExists (upImg 0 (fun i => { i with st := .judging }) { stRel with mor := { stRel.mor with vslot := tabEmpty } } : State) (0 : Nat) (.golden : Source) = false ∨ pairOf (upImg 0 (fun i => { i with st := .judging }) { stRel with mor := { stRel.mor with vslot := tabEmpty } } : State) (0 : Nat) = passPair) := by decide

theorem wit_Judgements_3 : imgRec (upImg 0 (fun i => { i with st := .judging, stream := some ⟨.half0, 4096, 0, true, []⟩ }) stRel : State) (0 : Nat) = some (tImage : ImageRec) ∧ (imgOf (upImg 0 (fun i => { i with st := .judging, stream := some ⟨.half0, 4096, 0, true, []⟩ }) stRel : State) (0 : Nat)).stream = some (⟨.half0, 4096, 0, true, []⟩ : Stream) ∧ ((⟨.half0, 4096, 0, true, []⟩ : Stream).left = 0 ∨ (⟨.half0, 4096, 0, true, []⟩ : Stream).failed = true ∨ (⟨.half0, 4096, 0, true, []⟩ : Stream).src = .lake) ∧ dgaHas (upImg 0 (fun i => { i with st := .judging, stream := some ⟨.half0, 4096, 0, true, []⟩ }) stRel : State) (.stream (0 : Nat)) = true ∧ sigIn (upImg 0 (fun i => { i with st := .judging, stream := some ⟨.half0, 4096, 0, true, []⟩ }) stRel : State) = true ∧ ((upImg 0 (fun i => { i with st := .judging, stream := some ⟨.half0, 4096, 0, true, []⟩ }) stRel : State).mor.aocA = true ∨ (upImg 0 (fun i => { i with st := .judging, stream := some ⟨.half0, 4096, 0, true, []⟩ }) stRel : State).mor.aocB = true) ∧ (upImg 0 (fun i => { i with st := .judging, stream := some ⟨.half0, 4096, 0, true, []⟩ }) stRel : State).lake.failover = false ∧ (⟨.half0, 4096, 0, true, []⟩ : Stream) = judgedStream (upImg 0 (fun i => { i with st := .judging, stream := some ⟨.half0, 4096, 0, true, []⟩ }) stRel : State) (0 : Nat) (⟨.half0, 4096, 0, true, []⟩ : Stream) ∧ (imgPresent (upImg 0 (fun i => { i with st := .judging, stream := some ⟨.half0, 4096, 0, true, []⟩ }) stRel : State) (0 : Nat) = none ∨ lakeIn (upImg 0 (fun i => { i with st := .judging, stream := some ⟨.half0, 4096, 0, true, []⟩ }) stRel : State) = true) := by decide

theorem wit_Judgements_4 : ({ tImage with length := 1, refDigest := fit 64 (digestOf 1 [0xff]) } : ImageRec).mode = 1 ∧ (judgeCause (stRel : State) ({ tImage with length := 1, refDigest := fit 64 (digestOf 1 [0xff]) } : ImageRec) (none : Option Manifest) ([] : List (Nat × Byte)) (true : Bool) (0 : BitVec 2)).1 = 0 := by decide +kernel

/-- The image in SIGNER mode of one block of 0xFF, and the manifest of it (R261). -/
def tImgM : ImageRec := { tImage with mode := 2, length := 12288 }
def tManBytes : Bytes := le 4 0x4d495946 ++ le 2 1 ++ le 1 1 ++ le 1 0 ++ le 4 0 ++ le 4 4096 ++ zeros 16
def tManDigest : Bytes := digestOf 1 (List.replicate 4096 0xff)
def tManMem : Tab Byte :=
  memWrite 0xff (memWrite 0xff (memWrite 0xff (memWrite 0xff tabEmpty 0 tManBytes) 96 (zeros 160)) 4979 (zeros 3213)) 32 (tManDigest ++ zeros 32)
theorem tManDigest_length : tManDigest.length = 32 := sha256_length _
theorem tManMem_field : cellBytes tManMem.cells 32 64 = tManDigest ++ zeros 32 := by
  have h := cellBytes_memWrite_in (memWrite 0xff (memWrite 0xff (memWrite 0xff tabEmpty 0 tManBytes) 96 (zeros 160)) 4979 (zeros 3213)) 32 (tManDigest ++ zeros 32)
  rw [List.length_append, tManDigest_length, show (zeros 32).length = 32 from rfl] at h
  exact h
theorem tManMem_out (c n : Nat) (h : c + n ≤ 32 ∨ 96 ≤ c) :
    cellBytes tManMem.cells c n = cellBytes (memWrite 0xff (memWrite 0xff (memWrite 0xff tabEmpty 0 tManBytes) 96 (zeros 160)) 4979 (zeros 3213)).cells c n :=
  cellBytes_memWrite_out _ _ _ _ _ (by rw [List.length_append, tManDigest_length, show (zeros 32).length = 32 from rfl]; omega)
theorem tManMem_low (c n : Nat) (h : c + n ≤ 32) : cellBytes tManMem.cells c n = cellBytes (memWrite 0xff tabEmpty 0 tManBytes).cells c n := by
  rw [tManMem_out _ _ (Or.inl h), cellBytes_memWrite_out _ _ _ _ _ (by omega), cellBytes_memWrite_out _ _ _ _ _ (by omega)]
theorem tManMem_zero1 : cellsZero tManMem.cells 96 160 = true := by
  refine cellsZero_of_bytes _ _ _ ?_
  rw [tManMem_out _ _ (by omega), cellBytes_memWrite_out _ _ _ _ _ (by omega)]
  exact cellBytes_memWrite_in _ 96 (zeros 160)
theorem tManMem_zero2 : cellsZero tManMem.cells 4979 3213 = true := by
  refine cellsZero_of_bytes _ _ _ ?_
  rw [tManMem_out _ _ (by omega)]
  have h := cellBytes_memWrite_in (memWrite 0xff (memWrite 0xff tabEmpty 0 tManBytes) 96 (zeros 160)) 4979 (zeros 3213)
  rwa [zeros_length] at h
/-- The image is one block of 0xFF. -/
theorem tManMem_image : cellBytes tManMem.cells 8192 4096 = List.replicate 4096 0xff := by
  rw [tManMem_out _ _ (by omega), cellBytes_memWrite_out _ _ _ _ _ (by rw [zeros_length]; omega), cellBytes_memWrite_out _ _ _ _ _ (by rw [zeros_length]; omega),
    cellBytes_memWrite_out _ _ _ _ _ (by rw [show tManBytes.length = 32 from rfl]; omega)]
  exact List.eq_replicate_iff.2 ⟨by simp [cellBytes], fun b hb => by obtain ⟨i, _, rfl⟩ := List.mem_map.1 hb; rfl⟩
theorem tManMem_fields : manifestFieldsOk tImgM (manifestOf tManMem.cells ⟨.good, .good⟩) = true := by
  have h : (tManDigest ++ zeros 32).drop 32 = zeros 32 := by rw [List.drop_left' tManDigest_length]
  have hl : (tManDigest ++ zeros 32).length = 64 := by rw [List.length_append, tManDigest_length]; rfl
  simp only [manifestFieldsOk, manifestOf, tManMem_zero1, tManMem_zero2, tManMem_field, cellNum, tManMem_low 0 4 (by omega),
    tManMem_low 4 2 (by omega), tManMem_low 6 1 (by omega), tManMem_low 7 1 (by omega), tManMem_low 8 4 (by omega), tManMem_low 12 4 (by omega),
    show digestLen tImgM.hash = 32 from rfl, h, hl]
  decide +kernel

theorem wit_Judgements_5 : (tImgM : ImageRec).mode ≠ 1 ∧ (judgeCause (stRel : State) (tImgM : ImageRec) (some (manifestOf (tManMem.cells : List (Nat × Byte)) (⟨.good, .good⟩ : Sig2))) (tManMem.cells : List (Nat × Byte)) (true : Bool) (0 : BitVec 2)).1 = 0 := by
  refine ⟨by decide, ?_⟩
  have hf : fit 64 tManDigest = tManDigest ++ zeros 32 := by
    rw [fit_short _ _ (by rw [tManDigest_length]; omega), tManDigest_length]
  have hd : digestOf tImgM.hash (cellBytes tManMem.cells 8192 (tImgM.length - 8192)) = tManDigest := by
    rw [show tImgM.length - 8192 = 4096 from rfl, tManMem_image]
    rfl
  have hl : (tManDigest ++ zeros 32).length = 64 := by rw [List.length_append, tManDigest_length]; rfl
  have hg : fit 64 (tManDigest ++ zeros 32) = tManDigest ++ zeros 32 := by
    rw [fit_short _ _ (by omega), hl]
    simp [zeros]
  have hc : ctxCompare tManDigest (tManDigest ++ zeros 32) 0 = 2 := by
    simp only [ctxCompare, hf, hg]
    decide
  simp only [judgeCause, tManMem_fields, hd]
  simp [manifestOf, tManMem_field, sigOk, tImgM, tImage]
  exact hc

theorem wit_Judgements_6 : imgRec (upImg 0 (fun i => { i with st := .judging, stream := some ⟨.half0, 0, 4096, false, []⟩ }) stRel : State) (0 : Nat) = some (tImage : ImageRec) ∧ (imgOf (upImg 0 (fun i => { i with st := .judging, stream := some ⟨.half0, 0, 4096, false, []⟩ }) stRel : State) (0 : Nat)).stream = some (⟨.half0, 0, 4096, false, []⟩ : Stream) ∧ ((upImg 0 (fun i => { i with st := .judging, stream := some ⟨.half0, 0, 4096, false, []⟩ }) stRel : State).mor.aocA = true ∨ (upImg 0 (fun i => { i with st := .judging, stream := some ⟨.half0, 0, 4096, false, []⟩ }) stRel : State).mor.aocB = true) ∧ ((⟨.half0, 0, 4096, false, []⟩ : Stream).left ≠ 0 ∨ (⟨.half0, 0, 4096, false, []⟩ : Stream).failed = true) := by decide

theorem wit_Judgements_7 : imgRec (upImg 0 (fun i => { i with st := .judging, stream := some ⟨.half0, 4096, 0, false, []⟩ }) stRel : State) (0 : Nat) = some (tImage : ImageRec) ∧ (imgOf (upImg 0 (fun i => { i with st := .judging, stream := some ⟨.half0, 4096, 0, false, []⟩ }) stRel : State) (0 : Nat)).stream = some (⟨.half0, 4096, 0, false, []⟩ : Stream) ∧ ((upImg 0 (fun i => { i with st := .judging, stream := some ⟨.half0, 4096, 0, false, []⟩ }) stRel : State).mor.aocA = true ∨ (upImg 0 (fun i => { i with st := .judging, stream := some ⟨.half0, 4096, 0, false, []⟩ }) stRel : State).mor.aocB = true) ∧ (⟨.half0, 4096, 0, false, []⟩ : Stream).left = 0 ∧ (⟨.half0, 4096, 0, false, []⟩ : Stream).failed = false := by decide

theorem wit_VerdictsComeFromTheVerdictPath_1 : exec (.aocAgreement : Instr) (stRel : State) = .next (say .notNow stRel : State) ∧ pairOf (say .notNow stRel : State) (0 : Nat) = passPair := ⟨rfl, by decide⟩

theorem wit_RecoveryAndSvn_1 : fwRuns (upImg 0 (fun i => { i with st := .recovering, action := 2, waitVault := true }) (upVault (fun v => { v with state := .inService, objects := ⟨[(0, some ⟨0, 4096, 1048576, [], [], none⟩)]⟩ }) stRel) : State) = true ∧ (imgOf (upImg 0 (fun i => { i with st := .recovering, action := 2, waitVault := true }) (upVault (fun v => { v with state := .inService, objects := ⟨[(0, some ⟨0, 4096, 1048576, [], [], none⟩)]⟩ }) stRel) : State) (0 : Nat)).st = .recovering ∧ (imgOf (upImg 0 (fun i => { i with st := .recovering, action := 2, waitVault := true }) (upVault (fun v => { v with state := .inService, objects := ⟨[(0, some ⟨0, 4096, 1048576, [], [], none⟩)]⟩ }) stRel) : State) (0 : Nat)).action = 2 ∧ (imgOf (upImg 0 (fun i => { i with st := .recovering, action := 2, waitVault := true }) (upVault (fun v => { v with state := .inService, objects := ⟨[(0, some ⟨0, 4096, 1048576, [], [], none⟩)]⟩ }) stRel) : State) (0 : Nat)).waitVault = true ∧ (upImg 0 (fun i => { i with st := .recovering, action := 2, waitVault := true }) (upVault (fun v => { v with state := .inService, objects := ⟨[(0, some ⟨0, 4096, 1048576, [], [], none⟩)]⟩ }) stRel) : State).vault.state ≠ .out ∧ recRec (upImg 0 (fun i => { i with st := .recovering, action := 2, waitVault := true }) (upVault (fun v => { v with state := .inService, objects := ⟨[(0, some ⟨0, 4096, 1048576, [], [], none⟩)]⟩ }) stRel) : State) (0 : Nat) = some (⟨0, 0, 0, 0, 0⟩ : RecoveryRec) ∧ tabGet none (upImg 0 (fun i => { i with st := .recovering, action := 2, waitVault := true }) (upVault (fun v => { v with state := .inService, objects := ⟨[(0, some ⟨0, 4096, 1048576, [], [], none⟩)]⟩ }) stRel) : State).vault.objects (⟨0, 0, 0, 0, 0⟩ : RecoveryRec).vaultObject = some (⟨0, 4096, 1048576, [], [], none⟩ : VaultObj) ∧ imgRec (upImg 0 (fun i => { i with st := .recovering, action := 2, waitVault := true }) (upVault (fun v => { v with state := .inService, objects := ⟨[(0, some ⟨0, 4096, 1048576, [], [], none⟩)]⟩ }) stRel) : State) (0 : Nat) = some (tImage : ImageRec) := by decide

theorem wit_RecoveryAndSvn_2 : fwRuns (upImg 0 (fun i => { i with st := .recovering, action := 2, waitVault := true }) (upVault (fun v => { v with state := .inService }) stRel) : State) = true ∧ (imgOf (upImg 0 (fun i => { i with st := .recovering, action := 2, waitVault := true }) (upVault (fun v => { v with state := .inService }) stRel) : State) (0 : Nat)).st = .recovering ∧ (imgOf (upImg 0 (fun i => { i with st := .recovering, action := 2, waitVault := true }) (upVault (fun v => { v with state := .inService }) stRel) : State) (0 : Nat)).action = 2 ∧ (imgOf (upImg 0 (fun i => { i with st := .recovering, action := 2, waitVault := true }) (upVault (fun v => { v with state := .inService }) stRel) : State) (0 : Nat)).waitVault = true ∧ (upImg 0 (fun i => { i with st := .recovering, action := 2, waitVault := true }) (upVault (fun v => { v with state := .inService }) stRel) : State).vault.state ≠ .out ∧ recRec (upImg 0 (fun i => { i with st := .recovering, action := 2, waitVault := true }) (upVault (fun v => { v with state := .inService }) stRel) : State) (0 : Nat) = some (⟨0, 0, 0, 0, 0⟩ : RecoveryRec) ∧ tabGet none (upImg 0 (fun i => { i with st := .recovering, action := 2, waitVault := true }) (upVault (fun v => { v with state := .inService }) stRel) : State).vault.objects (⟨0, 0, 0, 0, 0⟩ : RecoveryRec).vaultObject = none := by decide

theorem wit_RecoveryAndSvn_3 : (imgOf (upImg 0 (fun i => { i with st := .recovering, action := 2, waitVault := true }) stRel : State) (0 : Nat)).st = .recovering ∧ (imgOf (upImg 0 (fun i => { i with st := .recovering, action := 2, waitVault := true }) stRel : State) (0 : Nat)).action = 2 ∧ (imgOf (upImg 0 (fun i => { i with st := .recovering, action := 2, waitVault := true }) stRel : State) (0 : Nat)).waitVault = true ∧ (upImg 0 (fun i => { i with st := .recovering, action := 2, waitVault := true }) stRel : State).vault.state = .out := by decide

theorem wit_RecoveryAndSvn_4 : imgRec (upVault (fun v => { v with state := .inService }) (upImg 0 (fun i => { i with storeDue := true }) stRel) : State) (0 : Nat) = some (tImage : ImageRec) ∧ recRec (upVault (fun v => { v with state := .inService }) (upImg 0 (fun i => { i with storeDue := true }) stRel) : State) (0 : Nat) = some (⟨0, 0, 0, 0, 0⟩ : RecoveryRec) ∧ (upVault (fun v => { v with state := .inService }) (upImg 0 (fun i => { i with storeDue := true }) stRel) : State).run.policy = some (tPol : PolicyImage) ∧ imgPresent (upVault (fun v => { v with state := .inService }) (upImg 0 (fun i => { i with storeDue := true }) stRel) : State) (0 : Nat) = some (tPresent : PresentRec) ∧ lakeUp (upVault (fun v => { v with state := .inService }) (upImg 0 (fun i => { i with storeDue := true }) stRel) : State) = true ∧ fwRuns (upVault (fun v => { v with state := .inService }) (upImg 0 (fun i => { i with storeDue := true }) stRel) : State) = true ∧ (imgOf (upVault (fun v => { v with state := .inService }) (upImg 0 (fun i => { i with storeDue := true }) stRel) : State) (0 : Nat)).storeDue = true ∧ (imgOf (upVault (fun v => { v with state := .inService }) (upImg 0 (fun i => { i with storeDue := true }) stRel) : State) (0 : Nat)).st = .passed ∧ (upVault (fun v => { v with state := .inService }) (upImg 0 (fun i => { i with storeDue := true }) stRel) : State).vault.state = .inService ∧ (upVault (fun v => { v with state := .inService }) (upImg 0 (fun i => { i with storeDue := true }) stRel) : State).otp.session = none ∧ tabGet none (upVault (fun v => { v with state := .inService }) (upImg 0 (fun i => { i with storeDue := true }) stRel) : State).vault.objects (⟨0, 0, 0, 0, 0⟩ : RecoveryRec).vaultObject = none ∧ objPending (upVault (fun v => { v with state := .inService }) (upImg 0 (fun i => { i with storeDue := true }) stRel) : State).vault (⟨0, 0, 0, 0, 0⟩ : RecoveryRec).vaultObject = false ∧ vaultPlace (upVault (fun v => { v with state := .inService }) (upImg 0 (fun i => { i with storeDue := true }) stRel) : State) (ceilDiv (tImage : ImageRec).length 4096) = some (1048576 : Nat) := by decide

/-- A passed image of a device that is not presented, to be stored in the Vault. -/
def tImgG : ImageRec := { tImage with length := 1 }
def stGold : State :=
  { upVault (fun v => { v with state := .inService }) (upImg 0 (fun i => { i with st := .passed, storeDue := true, digest := digestOf 1 [0xff] }) stRel) with run := ⟨none, 0, some { tPol with presents := [], images := [tImgG], recoveries := [⟨0, 2, 0, 0, 1⟩] }, 0, true, tabEmpty, tabEmpty, none, []⟩ }

theorem wit_RecoveryAndSvn_5 : imgRec (stGold : State) (0 : Nat) = some (tImgG : ImageRec) ∧ recRec (stGold : State) (0 : Nat) = some (⟨0, 2, 0, 0, 1⟩ : RecoveryRec) ∧ imgPresent (stGold : State) (0 : Nat) = none ∧ passedBytes (stGold : State) (tImgG : ImageRec) ([] : List (Nat × Byte)) = true ∧ fwRuns (stGold : State) = true ∧ (imgOf (stGold : State) (0 : Nat)).storeDue = true ∧ (imgOf (stGold : State) (0 : Nat)).st = .passed ∧ (stGold : State).vault.state = .inService ∧ (stGold : State).otp.session = none ∧ tabGet none (stGold : State).vault.objects (⟨0, 2, 0, 0, 1⟩ : RecoveryRec).vaultObject = none ∧ objPending (stGold : State).vault (⟨0, 2, 0, 0, 1⟩ : RecoveryRec).vaultObject = false ∧ vaultPlace (stGold : State) (ceilDiv (tImgG : ImageRec).length 4096) = some (1048576 : Nat) := by decide +kernel

/-- An image in SIGNER mode that passed with SVN 5 and asks for the advance. -/
def tMan : Manifest := ⟨0, 1, 1, 1, 5, 0, [], [], true, ⟨.good, .good⟩⟩
def tPolSvn : PolicyImage := { tPol with images := [{ tImage with mode := 2, svnIndex := 3 }] }
theorem wit_RecoveryAndSvn_7 :
    let s := upImg 0 (fun i => { i with manifest := some tMan }) { stRel with run := ⟨none, 0, some tPolSvn, 0, true, tabEmpty, tabEmpty, none, []⟩ }
    let r := { tImage with mode := 2, svnIndex := 3 }
    imgRec s 0 = some r ∧ (imgOf s 0).manifest = some tMan ∧ fwRuns s = true ∧ sigIn s = true ∧ r.mode = 2 ∧ r.svnIndex ≠ 0xffff ∧
      svnAdvanceOk s 0 r.svnIndex tMan.svn [] = true ∧ vaultSources s r.svnIndex = [] ∧
      durableNow s 0x0009 1 (le 2 r.svnIndex ++ le 2 0 ++ le 8 (tabGet 0 s.nrx.counters r.svnIndex) ++ le 8 tMan.svn)
        (.svnAdvance r.svnIndex tMan.svn) = true := by decide

/-- A small image that a part whose owner slot 0 holds its key accepts (R180). -/
def tSigner : SignerRec := ⟨1, 1, List.replicate 96 1, List.replicate 2592 2⟩
def tPolV : PolicyImage :=
  { tPol with hdr := ⟨0x4c505946, 3, 256, 7747, 2768, 4, 2, 0, 3, zeros 16, zeros 16, 0, 0, zeros 16, 0, true⟩, secs := [⟨1, 24, 1, true⟩, ⟨2, 12, 1, true⟩, ⟨16, 2704, 1, true⟩], domains := [⟨1, 2, 0, zeros 8⟩], resets := [⟨0, 1⟩], channels := [], images := [], locks := [], presents := [], recoveries := [], fabric := [], endpoints := [], resist := [], rings := [], signers := [tSigner] }
/-- The key of the bundle: one level, LMS_SHA256_M32_H20 and LMOTS_SHA256_N32_W8. -/
def tKeyLms : Bytes := [0, 0, 0, 1, 0, 0, 0, 8, 0, 0, 0, 4] ++ zeros 48
def tBundle : Bundle :=
  ⟨0x57465946, 1, 2, 4, 0, 0, 1, 1, [0x21], [3], 8192, 2, 1, 3, 1, zeros 16, zeros 16, true, [zeros 48, zeros 48, zeros 48, zeros 48], tKeyLms, zeros 96, ⟨.good, .good⟩⟩
/-- OTP words that both senses read alike. -/
def tWords (l : List (Nat × Nat)) : List (Nat × OtpSense) := l.map (fun x => (x.1, ⟨BitVec.ofNat 39 x.2, BitVec.ofNat 39 x.2⟩))
/-- OWNER_KEY_0: the digest of that key in words 1032 to 1043, with their check bits (worked out beforehand). -/
def tOwnerWords : List (Nat × Nat) :=
  [(1032, 211347553925), (1033, 212349427084), (1034, 491156823809), (1035, 345424051475), (1036, 46897697428), (1037, 21882615714), (1038, 70941555037), (1039, 218139398299), (1040, 361822195901), (1041, 306531130449), (1042, 226632865528), (1043, 97737811634)]
/-- The same beside a word that reads bad. -/
def tOwned : Otp := { stRel.otp with words := ⟨tWords tOwnerWords ++ [(2000, ⟨1, 3⟩)]⟩, busy := none }
def stOwned : State :=
  { stRel with otp := tOwned, run := ⟨some tBundle, 0, some tPolV, 0, true, tabEmpty, tabEmpty, none, []⟩, cfg := ⟨none, none, none, none, none, some tPolV⟩ }
theorem wit_RecoveryAndSvn_8 :
    stOwned.run.policy = some tPolV ∧ otherPolicy stOwned = some tPolV ∧ fwRuns stOwned = true ∧ sigIn stOwned = true ∧ dgaIn stOwned = true ∧ polSvnAdvance tPolV = true ∧
      stOwned.polFloor < tPolV.hdr.svn ∧ 3 ≤ stOwned.mor.phase ∧
      polVerdict stOwned.otp (fwFormats stOwned) stOwned.polFloor tPolV = .accepted ∧ tPolV.hdr.svn ≤ tPolV.hdr.svn ∧
      durableNow stOwned 0x0044 1 (le 4 stOwned.polFloor ++ le 4 tPolV.hdr.svn ++ polDigest tPolV) (.policySvn tPolV.hdr.svn) = true := by
  decide +kernel

/-- The same with a Vault object of that SVN. -/
def stSvnV : State :=
  upVault (fun v => { v with state := .inService, objects := ⟨[(1, some ⟨0, 4096, 1048576, [], [], some tMan⟩)]⟩ }) (upImg 0 (fun i => { i with manifest := some tMan }) { stRel with run := ⟨none, 0, some { tPolSvn with recoveries := [⟨0, 2, 0, 0, 1⟩] }, 0, true, tabEmpty, tabEmpty, none, []⟩ })

theorem wit_RecoveryAndSvn_9 : imgRec (stSvnV : State) (0 : Nat) = some ({ tImage with mode := 2, svnIndex := 3 } : ImageRec) ∧ (imgOf (stSvnV : State) (0 : Nat)).manifest = some (tMan : Manifest) ∧ fwRuns (stSvnV : State) = true ∧ sigIn (stSvnV : State) = true ∧ ({ tImage with mode := 2, svnIndex := 3 } : ImageRec).mode = 2 ∧ ({ tImage with mode := 2, svnIndex := 3 } : ImageRec).svnIndex ≠ 0xffff ∧ svnAdvanceOk (stSvnV : State) (0 : Nat) ({ tImage with mode := 2, svnIndex := 3 } : ImageRec).svnIndex (tMan : Manifest).svn ([] : List (Nat × Manifest)) = true ∧ vaultSources (stSvnV : State) ({ tImage with mode := 2, svnIndex := 3 } : ImageRec).svnIndex ≠ [] ∧ (stSvnV : State).vault.state ≠ .out ∧ (stSvnV : State).vault.nvme.any (fun c => decide (c.use = .svnRead (0 : Nat) ([] : List (Nat × Manifest)))) = false := by decide

theorem wit_RecoveryAndSvn_10 : imgRec (upImg 0 (fun i => { i with manifest := some tMan }) stRel : State) (0 : Nat) = some (tImage : ImageRec) ∧ (imgOf (upImg 0 (fun i => { i with manifest := some tMan }) stRel : State) (0 : Nat)).manifest = some (tMan : Manifest) := by decide


theorem wit_RecoveryAndSvn_11 : svnAdvanceOk (stSvnV : State) (0 : Nat) (3 : Nat) (5 : Nat) ([] : List (Nat × Manifest)) = true := by decide

theorem wit_CapsulesAndUpdates_1 : fwRuns ({ stRel with capsules := [⟨⟨le 4 0, 12288, [], ⟨.good, .good⟩, ⟨.good, .good⟩⟩, .pldm 0 false, 0⟩] } : State) = true ∧ dgaIn ({ stRel with capsules := [⟨⟨le 4 0, 12288, [], ⟨.good, .good⟩, ⟨.good, .good⟩⟩, .pldm 0 false, 0⟩] } : State) = true ∧ sigIn ({ stRel with capsules := [⟨⟨le 4 0, 12288, [], ⟨.good, .good⟩, ⟨.good, .good⟩⟩, .pldm 0 false, 0⟩] } : State) = true ∧ ({ stRel with capsules := [⟨⟨le 4 0, 12288, [], ⟨.good, .good⟩, ⟨.good, .good⟩⟩, .pldm 0 false, 0⟩] } : State).capsules = (⟨⟨le 4 0, 12288, [], ⟨.good, .good⟩, ⟨.good, .good⟩⟩, .pldm 0 false, 0⟩ : CapsuleJob) :: ([] : List CapsuleJob) ∧ (⟨⟨le 4 0, 12288, [], ⟨.good, .good⟩, ⟨.good, .good⟩⟩, .pldm 0 false, 0⟩ : CapsuleJob).step = 0 ∧ capsuleReason ({ stRel with capsules := [⟨⟨le 4 0, 12288, [], ⟨.good, .good⟩, ⟨.good, .good⟩⟩, .pldm 0 false, 0⟩] } : State) (⟨⟨le 4 0, 12288, [], ⟨.good, .good⟩, ⟨.good, .good⟩⟩, .pldm 0 false, 0⟩ : CapsuleJob).cap (0 : BitVec 2) ≠ 0 := by decide +kernel

theorem wit_CapsulesAndUpdates_2 : fwRuns ({ stRel with capsules := [⟨⟨le 4 0, 12288, [], ⟨.good, .good⟩, ⟨.good, .good⟩⟩, .pldm 0 true, 0⟩], pldmUpdate := some 0 } : State) = true ∧ dgaIn ({ stRel with capsules := [⟨⟨le 4 0, 12288, [], ⟨.good, .good⟩, ⟨.good, .good⟩⟩, .pldm 0 true, 0⟩], pldmUpdate := some 0 } : State) = true ∧ sigIn ({ stRel with capsules := [⟨⟨le 4 0, 12288, [], ⟨.good, .good⟩, ⟨.good, .good⟩⟩, .pldm 0 true, 0⟩], pldmUpdate := some 0 } : State) = true ∧ ({ stRel with capsules := [⟨⟨le 4 0, 12288, [], ⟨.good, .good⟩, ⟨.good, .good⟩⟩, .pldm 0 true, 0⟩], pldmUpdate := some 0 } : State).capsules = (⟨⟨le 4 0, 12288, [], ⟨.good, .good⟩, ⟨.good, .good⟩⟩, .pldm 0 true, 0⟩ : CapsuleJob) :: ([] : List CapsuleJob) ∧ (⟨⟨le 4 0, 12288, [], ⟨.good, .good⟩, ⟨.good, .good⟩⟩, .pldm 0 true, 0⟩ : CapsuleJob).origin = .pldm (b2n (false : Bool)) (true : Bool) ∧ (⟨⟨le 4 0, 12288, [], ⟨.good, .good⟩, ⟨.good, .good⟩⟩, .pldm 0 true, 0⟩ : CapsuleJob).step = 0 ∧ capsuleReason ({ stRel with capsules := [⟨⟨le 4 0, 12288, [], ⟨.good, .good⟩, ⟨.good, .good⟩⟩, .pldm 0 true, 0⟩], pldmUpdate := some 0 } : State) (⟨⟨le 4 0, 12288, [], ⟨.good, .good⟩, ⟨.good, .good⟩⟩, .pldm 0 true, 0⟩ : CapsuleJob).cap (0 : BitVec 2) ≠ 0 := by decide +kernel

/-- A one-byte image and a capsule for its inactive half. -/
def tImgS : ImageRec := { tImage with length := 1, refDigest := fit 64 (digestOf 1 [0xff]) }
def tPolC : PolicyImage := { tPol with images := [tImgS], locks := [⟨1, 0, 2, 0, 0x1000⟩], signers := [⟨1, 4, [], []⟩] }
def tCapHead : Bytes :=
  le 4 0x50435946 ++ le 2 1 ++ le 1 1 ++ le 1 0 ++ le 2 0 ++ le 2 0 ++ le 4 1 ++ zeros 32 ++ sha384 [0xff] ++ zeros 8096
def tCap : Capsule := ⟨tCapHead, 8193, [], ⟨.good, .good⟩, ⟨.good, .good⟩⟩
def stCap : State := { stRel with run := ⟨none, 0, some tPolC, 0, true, tabEmpty, tabEmpty, none, []⟩, capsules := [⟨tCap, .pldm 0 false, 0⟩] }
/-- A capsule that is accepted for writing. -/
theorem wit_CapsulesAndUpdates_3 :
    fwRuns stCap = true ∧ dgaIn stCap = true ∧ sigIn stCap = true ∧ stCap.capsules = ⟨tCap, .pldm 0 false, 0⟩ :: [] ∧
      (⟨tCap, .pldm 0 false, 0⟩ : CapsuleJob).step = 0 ∧ capsuleReason stCap tCap 0 = 0 ∧ capsuleBusy stCap tCap = false ∧
      capKind tCap ≠ 3 :=
  ⟨by decide, by decide, by decide, rfl, rfl, by decide +kernel, by decide +kernel, by decide +kernel⟩

theorem wit_CapsulesAndUpdates_4 : fwRuns ({ stRel with capsules := [⟨⟨le 4 0x50435946, 12288, [], ⟨.good, .good⟩, ⟨.good, .good⟩⟩, .pldm 0 false, 4⟩], grant := some ⟨1, 0, 0, 4096⟩ } : State) = true ∧ dgaIn ({ stRel with capsules := [⟨⟨le 4 0x50435946, 12288, [], ⟨.good, .good⟩, ⟨.good, .good⟩⟩, .pldm 0 false, 4⟩], grant := some ⟨1, 0, 0, 4096⟩ } : State) = true ∧ sigIn ({ stRel with capsules := [⟨⟨le 4 0x50435946, 12288, [], ⟨.good, .good⟩, ⟨.good, .good⟩⟩, .pldm 0 false, 4⟩], grant := some ⟨1, 0, 0, 4096⟩ } : State) = true ∧ ({ stRel with capsules := [⟨⟨le 4 0x50435946, 12288, [], ⟨.good, .good⟩, ⟨.good, .good⟩⟩, .pldm 0 false, 4⟩], grant := some ⟨1, 0, 0, 4096⟩ } : State).capsules = (⟨⟨le 4 0x50435946, 12288, [], ⟨.good, .good⟩, ⟨.good, .good⟩⟩, .pldm 0 false, 4⟩ : CapsuleJob) :: ([] : List CapsuleJob) ∧ (⟨⟨le 4 0x50435946, 12288, [], ⟨.good, .good⟩, ⟨.good, .good⟩⟩, .pldm 0 false, 4⟩ : CapsuleJob).step = 4 ∧ capKind (⟨⟨le 4 0x50435946, 12288, [], ⟨.good, .good⟩, ⟨.good, .good⟩⟩, .pldm 0 false, 4⟩ : CapsuleJob).cap ≠ 3 := by decide +kernel

theorem wit_CapsulesAndUpdates_5 : mgtUp ({ stRel with mgtB := { mgt0 with mode := .smbus } } : State) (true : Bool) = true ∧ ({ stRel with mgtB := { mgt0 with mode := .smbus } } : State).pldmUpdate = none := by decide

theorem wit_CapsulesAndUpdates_6 : mgtUp ({ stRel with mgtB := { mgt0 with mode := .smbus }, pldmUpdate := some 1 } : State) (true : Bool) = true ∧ ({ stRel with mgtB := { mgt0 with mode := .smbus }, pldmUpdate := some 1 } : State).pldmUpdate = some (b2n (true : Bool)) := by decide

theorem wit_CapsulesAndUpdates_7 : fwRuns ({ stRel with mgtB := { mgt0 with mode := .smbus }, pldmUpdate := some 1 } : State) = true ∧ mgtUp ({ stRel with mgtB := { mgt0 with mode := .smbus }, pldmUpdate := some 1 } : State) (true : Bool) = true ∧ ({ stRel with mgtB := { mgt0 with mode := .smbus }, pldmUpdate := some 1 } : State).pldmUpdate = some (b2n (true : Bool)) := by decide

theorem wit_CapsulesAndUpdates_8 : mgtUp (upChan 0 (fun c => { c with st := .ready }) { stRel with mgtB := { mgt0 with mode := .smbus }, pldmUpdate := some 1 } : State) (true : Bool) = true ∧ (upChan 0 (fun c => { c with st := .ready }) { stRel with mgtB := { mgt0 with mode := .smbus }, pldmUpdate := some 1 } : State).pldmUpdate = some (b2n (true : Bool)) ∧ sigIn (upChan 0 (fun c => { c with st := .ready }) { stRel with mgtB := { mgt0 with mode := .smbus }, pldmUpdate := some 1 } : State) = true ∧ dgaIn (upChan 0 (fun c => { c with st := .ready }) { stRel with mgtB := { mgt0 with mode := .smbus }, pldmUpdate := some 1 } : State) = true ∧ paOk (upChan 0 (fun c => { c with st := .ready }) { stRel with mgtB := { mgt0 with mode := .smbus }, pldmUpdate := some 1 } : State) = true ∧ evFree (upChan 0 (fun c => { c with st := .ready }) { stRel with mgtB := { mgt0 with mode := .smbus }, pldmUpdate := some 1 } : State).ev 0x000e = true ∧ fixUsed (upChan 0 (fun c => { c with st := .ready }) { stRel with mgtB := { mgt0 with mode := .smbus }, pldmUpdate := some 1 } : State).ev < 383 ∧ cfgUp (upChan 0 (fun c => { c with st := .ready }) { stRel with mgtB := { mgt0 with mode := .smbus }, pldmUpdate := some 1 } : State) = true ∧ floorService (upChan 0 (fun c => { c with st := .ready }) { stRel with mgtB := { mgt0 with mode := .smbus }, pldmUpdate := some 1 } : State) = false ∧ pushAccepted (upChan 0 (fun c => { c with st := .ready }) { stRel with mgtB := { mgt0 with mode := .smbus }, pldmUpdate := some 1 } : State) (.policy tPol : Component) = false := by decide

theorem wit_CapsulesAndUpdates_9 : mgtUp ({ stRel with mgtB := { mgt0 with mode := .smbus }, pldmUpdate := some 1 } : State) (true : Bool) = true ∧ ({ stRel with mgtB := { mgt0 with mode := .smbus }, pldmUpdate := some 1 } : State).pldmUpdate = some (b2n (true : Bool)) ∧ sigIn ({ stRel with mgtB := { mgt0 with mode := .smbus }, pldmUpdate := some 1 } : State) = true ∧ dgaIn ({ stRel with mgtB := { mgt0 with mode := .smbus }, pldmUpdate := some 1 } : State) = true ∧ paOk ({ stRel with mgtB := { mgt0 with mode := .smbus }, pldmUpdate := some 1 } : State) = true ∧ evFree ({ stRel with mgtB := { mgt0 with mode := .smbus }, pldmUpdate := some 1 } : State).ev 0x000e = true ∧ fixUsed ({ stRel with mgtB := { mgt0 with mode := .smbus }, pldmUpdate := some 1 } : State).ev < 383 ∧ cfgUp ({ stRel with mgtB := { mgt0 with mode := .smbus }, pldmUpdate := some 1 } : State) = false := by decide

/-- The OTP array of a shipped part with the digests of the keys of that bundle in words 144 to 167. -/
def tKeyWords : List (Nat × Nat) :=
  [(128, 313532694527)] ++ [(144, 176225813683), (145, 15794189205), (146, 481776194226), (147, 156108629892), (148, 22898414), (149, 282445813349), (150, 284336257603), (151, 314933333207), (152, 85881284611), (153, 116394862253), (154, 279202335245), (155, 509220878997), (156, 248801360885), (157, 280425842306), (158, 367350375977), (159, 28232202387), (160, 228592374983), (161, 81210332435), (162, 177171185356), (163, 373901964530), (164, 128908127158), (165, 521486012379), (166, 133359000889), (167, 99178741200)]
def tKeyOtp (o : Otp) : Otp := { o with words := ⟨tWords tKeyWords⟩, busy := none }
/-- The slot that is not in use is the one the strap names. -/
def stPush : State :=
  upChan 0 (fun c => { c with st := .ready }) { stRel with mgtB := { mgt0 with mode := .smbus }, pldmUpdate := some 1, mor := { stRel.mor with strap := 0x40 }, otp := tKeyOtp stRel.otp, cfg := { stRel.cfg with dir0 := some (dirWrite ⟨1, true, false, false, false⟩) } }

theorem wit_CapsulesAndUpdates_10 : mgtUp (stPush : State) (true : Bool) = true ∧ (stPush : State).pldmUpdate = some (b2n (true : Bool)) ∧ sigIn (stPush : State) = true ∧ dgaIn (stPush : State) = true ∧ paOk (stPush : State) = true ∧ evFree (stPush : State).ev 0x000e = true ∧ fixUsed (stPush : State).ev < 383 ∧ cfgUp (stPush : State) = true ∧ floorService (stPush : State) = false ∧ pushAccepted (stPush : State) (.bundle tBundle : Component) = true ∧ bootDir (stPush : State).cfg = some (⟨1, true, false, false, false⟩ : BootDir) ∧ pushSlot (stPush : State) (.bundle tBundle : Component) = primarySlot (stPush : State) (.bundle tBundle : Component) := ⟨by decide +kernel, by decide, by decide, by decide, by decide, by decide, by decide, by decide, by decide, by decide +kernel, bootDir_dirWrite _ _ (by decide) rfl rfl,
    pushSlot_bundle stPush tBundle ⟨1, true, false, false, false⟩ (bootDir_dirWrite _ _ (by decide) rfl rfl)⟩

theorem wit_LinksAndReadiness_1 : portRec (upFab (fun g => { g with links := tabEmpty }) stRel : State) (0 : Nat) = some (⟨0, 1, 0, 16, 6, 0⟩ : FabricRec) ∧ (⟨0, 1, 0, 16, 6, 0⟩ : FabricRec).role = 1 ∧ portTrains (upFab (fun g => { g with links := tabEmpty }) stRel : State) (0 : Nat) = true ∧ linkFits (⟨0, 1, 0, 16, 6, 0⟩ : FabricRec) (6 : Nat) (8 : Nat) (true : Bool) (false : Bool) = true ∧ (linkOf (upFab (fun g => { g with links := tabEmpty }) stRel : State) (0 : Nat)).rate = 0 := by decide

theorem wit_LinksAndReadiness_2 : portRec (upFab (fun g => { g with links := tabEmpty }) stRel : State) (4 : Nat) = some (⟨4, 2, 0, 4, 6, 0⟩ : FabricRec) ∧ (⟨4, 2, 0, 4, 6, 0⟩ : FabricRec).role = 2 ∧ epAt (upFab (fun g => { g with links := tabEmpty }) stRel : State) (4 : Nat) = some (0 : Nat) ∧ portTrains (upFab (fun g => { g with links := tabEmpty }) stRel : State) (4 : Nat) = true ∧ linkFits (⟨4, 2, 0, 4, 6, 0⟩ : FabricRec) (5 : Nat) (4 : Nat) (false : Bool) (false : Bool) = true ∧ (linkOf (upFab (fun g => { g with links := tabEmpty }) stRel : State) (4 : Nat)).rate = 0 := by decide

theorem wit_LinksAndReadiness_3 : epAt (stRel : State) (4 : Nat) = some (0 : Nat) ∧ (epOf (stRel : State) (0 : Nat)).link = true ∧ ((epOf (stRel : State) (0 : Nat)).st = .opened ∨ (epOf (stRel : State) (0 : Nat)).st = .recheck) := by decide

theorem wit_LinksAndReadiness_4 : epAt (upEp 0 (fun e => { e with st := .contained }) stRel : State) (4 : Nat) = some (0 : Nat) ∧ (epOf (upEp 0 (fun e => { e with st := .contained }) stRel : State) (0 : Nat)).link = true ∧ (epOf (upEp 0 (fun e => { e with st := .contained }) stRel : State) (0 : Nat)).st ≠ .opened ∧ (epOf (upEp 0 (fun e => { e with st := .contained }) stRel : State) (0 : Nat)).st ≠ .recheck := by decide

theorem wit_LinksAndReadiness_5 : (epOf ({ upEp 0 (fun _ => { ep0 with st := .vat }) stRel with mor := { stRel.mor with dom := tabEmpty, relReq := 0 } } : State) (0 : Nat)).st = .vat ∧ (epOf ({ upEp 0 (fun _ => { ep0 with st := .vat }) stRel with mor := { stRel.mor with dom := tabEmpty, relReq := 0 } } : State) (0 : Nat)).link = false ∧ (epOf ({ upEp 0 (fun _ => { ep0 with st := .vat }) stRel with mor := { stRel.mor with dom := tabEmpty, relReq := 0 } } : State) (0 : Nat)).configuring = false ∧ (epOf ({ upEp 0 (fun _ => { ep0 with st := .vat }) stRel with mor := { stRel.mor with dom := tabEmpty, relReq := 0 } } : State) (0 : Nat)).releaseDue = false ∧ ({ upEp 0 (fun _ => { ep0 with st := .vat }) stRel with mor := { stRel.mor with dom := tabEmpty, relReq := 0 } } : State).run.microcode = true ∧ aocRuns ({ upEp 0 (fun _ => { ep0 with st := .vat }) stRel with mor := { stRel.mor with dom := tabEmpty, relReq := 0 } } : State) = true := by decide

theorem wit_LinksAndReadiness_6 : (epOf (upEp 0 (fun e => { e with link := true, epWait := true }) ({ upEp 0 (fun _ => { ep0 with st := .vat }) stRel with mor := { stRel.mor with dom := tabEmpty, relReq := 0 } }) : State) (0 : Nat)).epWait = true ∧ (epOf (upEp 0 (fun e => { e with link := true, epWait := true }) ({ upEp 0 (fun _ => { ep0 with st := .vat }) stRel with mor := { stRel.mor with dom := tabEmpty, relReq := 0 } }) : State) (0 : Nat)).link = true ∧ (epOf (upEp 0 (fun e => { e with link := true, epWait := true }) ({ upEp 0 (fun _ => { ep0 with st := .vat }) stRel with mor := { stRel.mor with dom := tabEmpty, relReq := 0 } }) : State) (0 : Nat)).st = .vat := by decide

theorem wit_LinksAndReadiness_7 : (epOf (upEp 0 (fun e => { e with st := .recheck, epWait := true }) stRel : State) (0 : Nat)).epWait = true ∧ (epOf (upEp 0 (fun e => { e with st := .recheck, epWait := true }) stRel : State) (0 : Nat)).link = true ∧ (epOf (upEp 0 (fun e => { e with st := .recheck, epWait := true }) stRel : State) (0 : Nat)).st = .recheck := by decide

theorem wit_LinksAndReadiness_8 : (epOf (upEp 0 (fun e => { e with link := true, configuring := true }) ({ upEp 0 (fun _ => { ep0 with st := .vat }) stRel with mor := { stRel.mor with dom := tabEmpty, relReq := 0 } }) : State) (0 : Nat)).st = .vat ∧ (epOf (upEp 0 (fun e => { e with link := true, configuring := true }) ({ upEp 0 (fun _ => { ep0 with st := .vat }) stRel with mor := { stRel.mor with dom := tabEmpty, relReq := 0 } }) : State) (0 : Nat)).configuring = true ∧ (epOf (upEp 0 (fun e => { e with link := true, configuring := true }) ({ upEp 0 (fun _ => { ep0 with st := .vat }) stRel with mor := { stRel.mor with dom := tabEmpty, relReq := 0 } }) : State) (0 : Nat)).link = true ∧ aocRuns (upEp 0 (fun e => { e with link := true, configuring := true }) ({ upEp 0 (fun _ => { ep0 with st := .vat }) stRel with mor := { stRel.mor with dom := tabEmpty, relReq := 0 } }) : State) = true := by decide

theorem wit_LinksAndReadiness_9 : (epOf (upEp 0 (fun e => { e with link := true, configuring := true }) ({ upEp 0 (fun _ => { ep0 with st := .vat }) stRel with mor := { stRel.mor with dom := tabEmpty, relReq := 0 } }) : State) (0 : Nat)).st = .vat ∧ (epOf (upEp 0 (fun e => { e with link := true, configuring := true }) ({ upEp 0 (fun _ => { ep0 with st := .vat }) stRel with mor := { stRel.mor with dom := tabEmpty, relReq := 0 } }) : State) (0 : Nat)).configuring = true ∧ (epOf (upEp 0 (fun e => { e with link := true, configuring := true }) ({ upEp 0 (fun _ => { ep0 with st := .vat }) stRel with mor := { stRel.mor with dom := tabEmpty, relReq := 0 } }) : State) (0 : Nat)).link = true ∧ aocRuns (upEp 0 (fun e => { e with link := true, configuring := true }) ({ upEp 0 (fun _ => { ep0 with st := .vat }) stRel with mor := { stRel.mor with dom := tabEmpty, relReq := 0 } }) : State) = true := by decide

theorem wit_LinksAndReadiness_11 : (epOf (upEp 0 (fun e => { e with link := true, configuring := true }) ({ upEp 0 (fun _ => { ep0 with st := .vat }) stRel with mor := { stRel.mor with dom := tabEmpty, relReq := 0 } }) : State) (0 : Nat)).st = .vat ∧ (epOf (upEp 0 (fun e => { e with link := true, configuring := true }) ({ upEp 0 (fun _ => { ep0 with st := .vat }) stRel with mor := { stRel.mor with dom := tabEmpty, relReq := 0 } }) : State) (0 : Nat)).configuring = true ∧ (epOf (upEp 0 (fun e => { e with link := true, configuring := true }) ({ upEp 0 (fun _ => { ep0 with st := .vat }) stRel with mor := { stRel.mor with dom := tabEmpty, relReq := 0 } }) : State) (0 : Nat)).releaseDue = false ∧ aocRuns (upEp 0 (fun e => { e with link := true, configuring := true }) ({ upEp 0 (fun _ => { ep0 with st := .vat }) stRel with mor := { stRel.mor with dom := tabEmpty, relReq := 0 } }) : State) = true := by decide

theorem wit_Attestation_1 : spdmAt (upEp 0 (fun e => { e with st := .attesting, att := some { newAtt .initial with step := .version } }) (upEp 0 (fun e => { e with link := true, configuring := true }) ({ upEp 0 (fun _ => { ep0 with st := .vat }) stRel with mor := { stRel.mor with dom := tabEmpty, relReq := 0 } })) : State) (0 : Nat) .version = true ∧ spdmMin (upEp 0 (fun e => { e with st := .attesting, att := some { newAtt .initial with step := .version } }) (upEp 0 (fun e => { e with link := true, configuring := true }) ({ upEp 0 (fun _ => { ep0 with st := .vat }) stRel with mor := { stRel.mor with dom := tabEmpty, relReq := 0 } })) : State) (0 : Nat) ≤ (0x13 : Nat) ∧ ((0x13 : Nat) = 0x12 ∨ (0x13 : Nat) = 0x13) := by decide

theorem wit_Attestation_2 : spdmAt (upEp 0 (fun e => { e with st := .attesting, att := some { newAtt .initial with step := .version } }) (upEp 0 (fun e => { e with link := true, configuring := true }) ({ upEp 0 (fun _ => { ep0 with st := .vat }) stRel with mor := { stRel.mor with dom := tabEmpty, relReq := 0 } })) : State) (0 : Nat) .version = true ∧ ¬ (spdmMin (upEp 0 (fun e => { e with st := .attesting, att := some { newAtt .initial with step := .version } }) (upEp 0 (fun e => { e with link := true, configuring := true }) ({ upEp 0 (fun _ => { ep0 with st := .vat }) stRel with mor := { stRel.mor with dom := tabEmpty, relReq := 0 } })) : State) (0 : Nat) ≤ (0x11 : Nat) ∧ ((0x11 : Nat) = 0x12 ∨ (0x11 : Nat) = 0x13)) := by decide

theorem wit_Attestation_3 : spdmAt (upEp 0 (fun e => { e with st := .attesting, att := some { newAtt .initial with step := .capabilities } }) (upEp 0 (fun e => { e with link := true, configuring := true }) ({ upEp 0 (fun _ => { ep0 with st := .vat }) stRel with mor := { stRel.mor with dom := tabEmpty, relReq := 0 } })) : State) (0 : Nat) .capabilities = true := by decide

theorem wit_Attestation_4 : spdmAt (upEp 0 (fun e => { e with st := .attesting, att := some { newAtt .initial with step := .algorithms } }) (upEp 0 (fun e => { e with link := true, configuring := true }) ({ upEp 0 (fun _ => { ep0 with st := .vat }) stRel with mor := { stRel.mor with dom := tabEmpty, relReq := 0 } })) : State) (0 : Nat) .algorithms = true := by decide

theorem wit_Attestation_5 : spdmAt (upEp 0 (fun e => { e with st := .attesting, att := some { newAtt .initial with step := .digests } }) (upEp 0 (fun e => { e with link := true, configuring := true }) ({ upEp 0 (fun _ => { ep0 with st := .vat }) stRel with mor := { stRel.mor with dom := tabEmpty, relReq := 0 } })) : State) (0 : Nat) .digests = true := by decide

theorem wit_Attestation_6 : spdmAt (upEp 0 (fun e => { e with st := .attesting, att := some { newAtt .initial with step := .certificate } }) (upEp 0 (fun e => { e with link := true, configuring := true }) ({ upEp 0 (fun _ => { ep0 with st := .vat }) stRel with mor := { stRel.mor with dom := tabEmpty, relReq := 0 } })) : State) (0 : Nat) .certificate = true ∧ (epOf (upEp 0 (fun e => { e with st := .attesting, att := some { newAtt .initial with step := .certificate } }) (upEp 0 (fun e => { e with link := true, configuring := true }) ({ upEp 0 (fun _ => { ep0 with st := .vat }) stRel with mor := { stRel.mor with dom := tabEmpty, relReq := 0 } })) : State) (0 : Nat)).att = some ({ newAtt .initial with step := .certificate } : Att) ∧ 0 < (4096 : Nat) ∧ (4096 : Nat) ≤ 4096 ∧ (100 : Nat) ≠ 0 := by decide

/-- The attestation of the endpoint waits for its certificates; the root it must have is [1]. -/
def stRoot : State :=
  { upEp 0 (fun e => { e with st := .attesting, link := true, att := some { newAtt .initial with step := .certificate } }) stRel with run := ⟨none, 0, some { tPol with endpoints := [⟨0, 4, 3, 0x12, 1000, 2, zeros 48, sha384 [1]⟩] }, 0, true, tabEmpty, tabEmpty, none, []⟩ }

theorem wit_Attestation_7 : spdmAt (stRoot : State) (0 : Nat) .certificate = true ∧ sigIn (stRoot : State) = true ∧ dgaIn (stRoot : State) = true ∧ 0 < (9 : Nat) ∧ (9 : Nat) ≤ 4096 ∧ sha384 ([2] : Bytes) ≠ rootWant (stRoot : State) (0 : Nat) := by decide +kernel


theorem wit_Attestation_8 : spdmAt (stRoot : State) (0 : Nat) .certificate = true ∧ sigIn (stRoot : State) = true ∧ dgaIn (stRoot : State) = true ∧ 0 < (9 : Nat) ∧ (9 : Nat) ≤ 4096 ∧ sha384 ([1] : Bytes) = rootWant (stRoot : State) (0 : Nat) := by decide +kernel


theorem wit_Attestation_9 : spdmAt (stRoot : State) (0 : Nat) .certificate = true ∧ (epOf (stRoot : State) (0 : Nat)).att = some ({ newAtt .initial with step := .certificate } : Att) ∧ sigIn (stRoot : State) = true ∧ dgaIn (stRoot : State) = true ∧ 0 < (9 : Nat) ∧ (9 : Nat) ≤ 4096 ∧ sha384 ([1] : Bytes) = rootWant (stRoot : State) (0 : Nat) := by decide +kernel

theorem wit_Attestation_10 : spdmAt (upEp 0 (fun e => { e with st := .attesting, att := some { newAtt .initial with step := .measurements, left := [1, 2] } }) (upEp 0 (fun e => { e with link := true, configuring := true }) ({ upEp 0 (fun _ => { ep0 with st := .vat }) stRel with mor := { stRel.mor with dom := tabEmpty, relReq := 0 } })) : State) (0 : Nat) .measurements = true ∧ (epOf (upEp 0 (fun e => { e with st := .attesting, att := some { newAtt .initial with step := .measurements, left := [1, 2] } }) (upEp 0 (fun e => { e with link := true, configuring := true }) ({ upEp 0 (fun _ => { ep0 with st := .vat }) stRel with mor := { stRel.mor with dom := tabEmpty, relReq := 0 } })) : State) (0 : Nat)).att = some ({ newAtt .initial with step := .measurements, left := [1, 2] } : Att) ∧ ([1] : Bytes).length ≤ spdmLimit ({ newAtt .initial with step := .measurements, left := [1, 2] } : Att) ∧ 1 < ({ newAtt .initial with step := .measurements, left := [1, 2] } : Att).left.length := by decide

theorem wit_Attestation_11 : spdmAt (upEp 0 (fun e => { e with st := .attesting, att := some { newAtt .initial with step := .measurements, left := [1], nonce := [9] } }) (upEp 0 (fun e => { e with link := true, configuring := true }) ({ upEp 0 (fun _ => { ep0 with st := .vat }) stRel with mor := { stRel.mor with dom := tabEmpty, relReq := 0 } })) : State) (0 : Nat) .measurements = true ∧ (epOf (upEp 0 (fun e => { e with st := .attesting, att := some { newAtt .initial with step := .measurements, left := [1], nonce := [9] } }) (upEp 0 (fun e => { e with link := true, configuring := true }) ({ upEp 0 (fun _ => { ep0 with st := .vat }) stRel with mor := { stRel.mor with dom := tabEmpty, relReq := 0 } })) : State) (0 : Nat)).att = some ({ newAtt .initial with step := .measurements, left := [1], nonce := [9] } : Att) ∧ ({ newAtt .initial with step := .measurements, left := [1], nonce := [9] } : Att).nonce ≠ [] ∧ ([1] : Bytes).length ≤ spdmLimit ({ newAtt .initial with step := .measurements, left := [1], nonce := [9] } : Att) ∧ sigIn (upEp 0 (fun e => { e with st := .attesting, att := some { newAtt .initial with step := .measurements, left := [1], nonce := [9] } }) (upEp 0 (fun e => { e with link := true, configuring := true }) ({ upEp 0 (fun _ => { ep0 with st := .vat }) stRel with mor := { stRel.mor with dom := tabEmpty, relReq := 0 } })) : State) = true ∧ dgaIn (upEp 0 (fun e => { e with st := .attesting, att := some { newAtt .initial with step := .measurements, left := [1], nonce := [9] } }) (upEp 0 (fun e => { e with link := true, configuring := true }) ({ upEp 0 (fun _ => { ep0 with st := .vat }) stRel with mor := { stRel.mor with dom := tabEmpty, relReq := 0 } })) : State) = true ∧ ({ newAtt .initial with step := .measurements, left := [1], nonce := [9] } : Att).left.length ≤ 1 := by decide

theorem wit_Attestation_12 : spdmAt (upEp 0 (fun e => { e with st := .attesting, att := some { newAtt .initial with step := .measurements, left := [1, 2] } }) (upEp 0 (fun e => { e with link := true, configuring := true }) ({ upEp 0 (fun _ => { ep0 with st := .vat }) stRel with mor := { stRel.mor with dom := tabEmpty, relReq := 0 } })) : State) (0 : Nat) .measurements = true ∧ measSent (upEp 0 (fun e => { e with st := .attesting, att := some { newAtt .initial with step := .measurements, left := [1, 2] } }) (upEp 0 (fun e => { e with link := true, configuring := true }) ({ upEp 0 (fun _ => { ep0 with st := .vat }) stRel with mor := { stRel.mor with dom := tabEmpty, relReq := 0 } })) : State) (0 : Nat) = true ∧ (epOf (upEp 0 (fun e => { e with st := .attesting, att := some { newAtt .initial with step := .measurements, left := [1, 2] } }) (upEp 0 (fun e => { e with link := true, configuring := true }) ({ upEp 0 (fun _ => { ep0 with st := .vat }) stRel with mor := { stRel.mor with dom := tabEmpty, relReq := 0 } })) : State) (0 : Nat)).att = some ({ newAtt .initial with step := .measurements, left := [1, 2] } : Att) ∧ spdmLimit ({ newAtt .initial with step := .measurements, left := [1, 2] } : Att) < (List.replicate 4225 1 : Bytes).length := by decide +kernel

theorem wit_Attestation_13 : attRuns (upEp 0 (fun e => { e with st := .attesting, att := some { newAtt .initial with step := .version } }) (upEp 0 (fun e => { e with link := true, configuring := true }) ({ upEp 0 (fun _ => { ep0 with st := .vat }) stRel with mor := { stRel.mor with dom := tabEmpty, relReq := 0 } })) : State) (0 : Nat) = true ∧ aocRuns (upEp 0 (fun e => { e with st := .attesting, att := some { newAtt .initial with step := .version } }) (upEp 0 (fun e => { e with link := true, configuring := true }) ({ upEp 0 (fun _ => { ep0 with st := .vat }) stRel with mor := { stRel.mor with dom := tabEmpty, relReq := 0 } })) : State) = true ∧ (epOf (upEp 0 (fun e => { e with st := .attesting, att := some { newAtt .initial with step := .version } }) (upEp 0 (fun e => { e with link := true, configuring := true }) ({ upEp 0 (fun _ => { ep0 with st := .vat }) stRel with mor := { stRel.mor with dom := tabEmpty, relReq := 0 } })) : State) (0 : Nat)).att = some (newAtt .initial : Att) := by decide

theorem wit_Attestation_14 : attRuns (upEp 0 (fun e => { e with st := .attesting, att := some { newAtt .initial with step := .version } }) (upEp 0 (fun e => { e with link := true, configuring := true }) ({ upEp 0 (fun _ => { ep0 with st := .vat }) stRel with mor := { stRel.mor with dom := tabEmpty, relReq := 0 } })) : State) (0 : Nat) = true ∧ (epOf (upEp 0 (fun e => { e with st := .attesting, att := some { newAtt .initial with step := .version } }) (upEp 0 (fun e => { e with link := true, configuring := true }) ({ upEp 0 (fun _ => { ep0 with st := .vat }) stRel with mor := { stRel.mor with dom := tabEmpty, relReq := 0 } })) : State) (0 : Nat)).att = some (newAtt .initial : Att) ∧ (newAtt .initial : Att).sends < 2 := by decide

theorem wit_Attestation_15 : attRuns (upEp 0 (fun e => { e with st := .attesting, att := some { newAtt .initial with step := .version, sends := 2 } }) (upEp 0 (fun e => { e with link := true, configuring := true }) ({ upEp 0 (fun _ => { ep0 with st := .vat }) stRel with mor := { stRel.mor with dom := tabEmpty, relReq := 0 } })) : State) (0 : Nat) = true ∧ (epOf (upEp 0 (fun e => { e with st := .attesting, att := some { newAtt .initial with step := .version, sends := 2 } }) (upEp 0 (fun e => { e with link := true, configuring := true }) ({ upEp 0 (fun _ => { ep0 with st := .vat }) stRel with mor := { stRel.mor with dom := tabEmpty, relReq := 0 } })) : State) (0 : Nat)).att = some ({ newAtt .initial with sends := 2 } : Att) ∧ 2 ≤ ({ newAtt .initial with sends := 2 } : Att).sends := by decide

theorem wit_Attestation_16 : (epOf (upEp 0 (fun e => { e with st := .attesting, att := some { newAtt .initial with step := .version } }) (upEp 0 (fun e => { e with link := true, configuring := true }) ({ upEp 0 (fun _ => { ep0 with st := .vat }) stRel with mor := { stRel.mor with dom := tabEmpty, relReq := 0 } })) : State) (0 : Nat)).att = some (newAtt .initial : Att) ∧ (newAtt .initial : Att).kind = .initial := by decide

theorem wit_Attestation_17 : (epOf (upEp 0 (fun e => { e with att := some (newAtt .periodic) }) stRel : State) (0 : Nat)).att = some (newAtt .periodic : Att) ∧ (newAtt .periodic : Att).kind ≠ .initial ∧ (7 : Nat) ≠ 0 := by decide

theorem wit_Attestation_18 : (epOf (upEp 0 (fun e => { e with att := some (newAtt .periodic) }) stRel : State) (0 : Nat)).att = some (newAtt .periodic : Att) ∧ (newAtt .periodic : Att).kind = .periodic := by decide

theorem wit_Attestation_19 : (epOf (upEp 0 (fun e => { e with st := .recheck, recheckPair := passPair }) stRel : State) (0 : Nat)).st = .recheck ∧ (epOf (upEp 0 (fun e => { e with st := .recheck, recheckPair := passPair }) stRel : State) (0 : Nat)).recheckPair = passPair ∧ (epOf (upEp 0 (fun e => { e with st := .recheck, recheckPair := passPair }) stRel : State) (0 : Nat)).att = none ∧ (epOf (upEp 0 (fun e => { e with st := .recheck, recheckPair := passPair }) stRel : State) (0 : Nat)).causes.changed = false := by decide

theorem wit_RechecksAndContainment_1 : fwRuns (stRel : State) = true ∧ (epOf (stRel : State) (0 : Nat)).st = .opened ∧ (epOf (stRel : State) (0 : Nat)).att = none := by decide

theorem wit_RechecksAndContainment_2 : coreRuns (stRel : State) = true := by decide

theorem wit_RechecksAndContainment_4 : epAt (stRel : State) (4 : Nat) = some (0 : Nat) ∧ portRole (stRel : State) (4 : Nat) = 2 ∧ (partOf (stRel : State) (portPart (stRel : State) (4 : Nat))).up = true ∧ (stRel : State).fab.planes ≠ 0 ∧ ideBlocked (stRel : State) (portPart (stRel : State) (4 : Nat)) = false ∧ (epOf (stRel : State) (0 : Nat)).st = .opened ∧ (stRel : State).fab.planeFail = 0 ∧ tlpCredit (stRel : State) (upPort' (stRel : State) (portPart (stRel : State) (4 : Nat))) (freeTlp (stRel : State) .config 4 (.port (4 : Nat))) = true := by decide

theorem wit_RechecksAndContainment_5 : epAt (upEp 0 (fun e => { e with st := .refused }) stRel : State) (4 : Nat) = some (0 : Nat) ∧ portRole (upEp 0 (fun e => { e with st := .refused }) stRel : State) (4 : Nat) = 2 ∧ (partOf (upEp 0 (fun e => { e with st := .refused }) stRel : State) (portPart (upEp 0 (fun e => { e with st := .refused }) stRel : State) (4 : Nat))).up = true ∧ (upEp 0 (fun e => { e with st := .refused }) stRel : State).fab.planes ≠ 0 ∧ ideBlocked (upEp 0 (fun e => { e with st := .refused }) stRel : State) (portPart (upEp 0 (fun e => { e with st := .refused }) stRel : State) (4 : Nat)) = false ∧ ((epOf (upEp 0 (fun e => { e with st := .refused }) stRel : State) (0 : Nat)).st = .refused ∨ ((epOf (upEp 0 (fun e => { e with st := .refused }) stRel : State) (0 : Nat)).st = .contained ∧ (epOf (upEp 0 (fun e => { e with st := .refused }) stRel : State) (0 : Nat)).causes.changed = true)) := by decide

theorem wit_RechecksAndContainment_6 : epAt (upEp 0 (fun e => { e with st := .recheck }) stRel : State) (4 : Nat) = some (0 : Nat) ∧ portRole (upEp 0 (fun e => { e with st := .recheck }) stRel : State) (4 : Nat) = 2 ∧ (partOf (upEp 0 (fun e => { e with st := .recheck }) stRel : State) (portPart (upEp 0 (fun e => { e with st := .recheck }) stRel : State) (4 : Nat))).up = true ∧ (upEp 0 (fun e => { e with st := .recheck }) stRel : State).fab.planes ≠ 0 ∧ ideBlocked (upEp 0 (fun e => { e with st := .recheck }) stRel : State) (portPart (upEp 0 (fun e => { e with st := .recheck }) stRel : State) (4 : Nat)) = false ∧ ((epOf (upEp 0 (fun e => { e with st := .recheck }) stRel : State) (0 : Nat)).st = .isSealed ∨ (epOf (upEp 0 (fun e => { e with st := .recheck }) stRel : State) (0 : Nat)).st = .vat ∨ (epOf (upEp 0 (fun e => { e with st := .recheck }) stRel : State) (0 : Nat)).st = .attesting ∨ (epOf (upEp 0 (fun e => { e with st := .recheck }) stRel : State) (0 : Nat)).st = .attested ∨ (epOf (upEp 0 (fun e => { e with st := .recheck }) stRel : State) (0 : Nat)).st = .recheck ∨ ((epOf (upEp 0 (fun e => { e with st := .recheck }) stRel : State) (0 : Nat)).st = .contained ∧ (epOf (upEp 0 (fun e => { e with st := .recheck }) stRel : State) (0 : Nat)).causes.changed = false)) := by decide

theorem wit_RechecksAndContainment_7 : epAt (upEp 0 (fun e => { e with st := .contained }) stRel : State) (4 : Nat) = some (0 : Nat) ∧ (epOf (upEp 0 (fun e => { e with st := .contained }) stRel : State) (0 : Nat)).st ≠ .opened := by decide

theorem wit_RechecksAndContainment_8 : epAt (upFab (fun g => { g with planes := 0 }) stRel : State) (4 : Nat) = some (0 : Nat) ∧ portRole (upFab (fun g => { g with planes := 0 }) stRel : State) (4 : Nat) = 2 ∧ (partOf (upFab (fun g => { g with planes := 0 }) stRel : State) (portPart (upFab (fun g => { g with planes := 0 }) stRel : State) (4 : Nat))).up = true ∧ ((upFab (fun g => { g with planes := 0 }) stRel : State).fab.planes = 0 ∨ ideBlocked (upFab (fun g => { g with planes := 0 }) stRel : State) (portPart (upFab (fun g => { g with planes := 0 }) stRel : State) (4 : Nat)) = true) := by decide

theorem wit_RechecksAndContainment_9 : epAt (stRel : State) (4 : Nat) = some (0 : Nat) ∧ portRole (stRel : State) (4 : Nat) = 2 ∧ (partOf (stRel : State) (portPart (stRel : State) (4 : Nat))).up = true ∧ (epOf (stRel : State) (0 : Nat)).st = .opened := by decide

theorem wit_RechecksAndContainment_10 : portTrains (stRel : State) (0 : Nat) = true := by decide

theorem wit_EndpointRequestsAreScreened_1 : epAt (stRel : State) (4 : Nat) = some (0 : Nat) ∧ Runs (.endpointTlp (4 : Nat) (⟨.memRead, .untranslated, 0x1000, 64, 0, none, ⟨0, 0, [], none, false⟩, false, false, .up⟩ : Tlp) (0 : BitVec 3)) (stRel : State) (fun u => u.reply = .tlp (.forwarded (0 : Nat))) := ⟨by decide, outOf (exec (.endpointTlp 4 ⟨.memRead, .untranslated, 0x1000, 64, 0, none, ⟨0, 0, [], none, false⟩, false, false, .up⟩ 0) stRel), rfl, by decide⟩

theorem wit_EndpointRequestsAreScreened_2 : ((⟨.memWrite, .translated, 0x1000, 64, 0, none, ⟨0, 0, [], none, false⟩, false, false, .up⟩ : Tlp).kind = .memRead ∨ (⟨.memWrite, .translated, 0x1000, 64, 0, none, ⟨0, 0, [], none, false⟩, false, false, .up⟩ : Tlp).kind = .memWrite ∨ (⟨.memWrite, .translated, 0x1000, 64, 0, none, ⟨0, 0, [], none, false⟩, false, false, .up⟩ : Tlp).kind = .atomic) ∧ (⟨.memWrite, .translated, 0x1000, 64, 0, none, ⟨0, 0, [], none, false⟩, false, false, .up⟩ : Tlp).at' = .translated ∧ Runs (.endpointTlp (4 : Nat) (⟨.memWrite, .translated, 0x1000, 64, 0, none, ⟨0, 0, [], none, false⟩, false, false, .up⟩ : Tlp) (0 : BitVec 3)) (upPart 0 (fun x => { x with armed := 1, ranges := [⟨0x1000, 0x1fff, 0x10, 7, 0⟩] }) stRel : State) (fun u => u.reply = .tlp (.forwarded (0 : Nat))) := ⟨by decide, by decide, outOf (exec (.endpointTlp 4 ⟨.memWrite, .translated, 0x1000, 64, 0, none, ⟨0, 0, [], none, false⟩, false, false, .up⟩ 0) (upPart 0 (fun x => { x with armed := 1, ranges := [⟨0x1000, 0x1fff, 0x10, 7, 0⟩] }) stRel)), rfl, by decide⟩

theorem wit_GateTraffic_1 : epAt (stRel : State) (4 : Nat) = some (0 : Nat) ∧ portRole (stRel : State) (4 : Nat) = 2 ∧ (epOf (stRel : State) (0 : Nat)).link = true ∧ tlpCredit (stRel : State) (4 : Nat) (⟨.memRead, .untranslated, 0x1000, 64, 0, none, ⟨0, 0, [], none, false⟩, false, false, .up⟩ : Tlp) = true ∧ (epOf (stRel : State) (0 : Nat)).st = .opened ∧ (stRel : State).fab.planes ≠ 0 ∧ (partOf (stRel : State) (portPart (stRel : State) (4 : Nat))).up = true ∧ bayScreens (stRel : State) ((4 : Nat) / 4) = true ∧ (⟨.memRead, .untranslated, 0x1000, 64, 0, none, ⟨0, 0, [], none, false⟩, false, false, .up⟩ : Tlp).kind = .memRead ∧ (⟨.memRead, .untranslated, 0x1000, 64, 0, none, ⟨0, 0, [], none, false⟩, false, false, .up⟩ : Tlp).at' = .untranslated ∧ ideBlocked (stRel : State) (portPart (stRel : State) (4 : Nat)) = false ∧ (stRel : State).fab.planeFail = 0 ∧ acsSource (stRel : State) (4 : Nat) (portPart (stRel : State) (4 : Nat)) (⟨.memRead, .untranslated, 0x1000, 64, 0, none, ⟨0, 0, [], none, false⟩, false, false, .up⟩ : Tlp) = true := by decide

theorem wit_GateTraffic_2 : epAt (stRel : State) (4 : Nat) = some (0 : Nat) ∧ portRole (stRel : State) (4 : Nat) = 2 ∧ (epOf (stRel : State) (0 : Nat)).link = true ∧ tlpCredit (stRel : State) (4 : Nat) (⟨.memWrite, .translated, 0x1000, 64, 0, none, ⟨0, 0, [], none, false⟩, false, false, .up⟩ : Tlp) = true ∧ (epOf (stRel : State) (0 : Nat)).st = .opened ∧ (stRel : State).fab.planes ≠ 0 ∧ (partOf (stRel : State) (portPart (stRel : State) (4 : Nat))).up = true ∧ bayScreens (stRel : State) ((4 : Nat) / 4) = true ∧ (⟨.memWrite, .translated, 0x1000, 64, 0, none, ⟨0, 0, [], none, false⟩, false, false, .up⟩ : Tlp).kind = .memWrite ∧ (⟨.memWrite, .translated, 0x1000, 64, 0, none, ⟨0, 0, [], none, false⟩, false, false, .up⟩ : Tlp).at' = .translated ∧ (⟨.memWrite, .translated, 0x1000, 64, 0, none, ⟨0, 0, [], none, false⟩, false, false, .up⟩ : Tlp).dest = .up ∧ atsOk (stRel : State) (4 : Nat) = true ∧ (partOf (stRel : State) (portPart (stRel : State) (4 : Nat))).armed = 0 := by decide

theorem wit_GateTraffic_3 : epAt (upEp 0 (fun e => { e with st := .contained }) stRel : State) (4 : Nat) = some (0 : Nat) ∧ portRole (upEp 0 (fun e => { e with st := .contained }) stRel : State) (4 : Nat) = 2 ∧ (epOf (upEp 0 (fun e => { e with st := .contained }) stRel : State) (0 : Nat)).link = true ∧ tlpCredit (upEp 0 (fun e => { e with st := .contained }) stRel : State) (4 : Nat) (⟨.memWrite, .translated, 0x1000, 64, 0, none, ⟨0, 0, [], none, false⟩, false, false, .up⟩ : Tlp) = true ∧ (epOf (upEp 0 (fun e => { e with st := .contained }) stRel : State) (0 : Nat)).st ≠ .opened := by decide

theorem wit_GateTraffic_4 : epAt (stRel : State) (4 : Nat) = some (0 : Nat) ∧ portRole (stRel : State) (4 : Nat) = 2 ∧ (epOf (stRel : State) (0 : Nat)).link = true ∧ tlpCredit (stRel : State) (4 : Nat) (⟨.memRead, .untranslated, 0x1000, 64, 0x100, none, ⟨0, 0, [], none, false⟩, false, false, .up⟩ : Tlp) = true ∧ (⟨.memRead, .untranslated, 0x1000, 64, 0x100, none, ⟨0, 0, [], none, false⟩, false, false, .up⟩ : Tlp).kind = .memRead ∧ (⟨.memRead, .untranslated, 0x1000, 64, 0x100, none, ⟨0, 0, [], none, false⟩, false, false, .up⟩ : Tlp).at' = .untranslated ∧ acsSource (stRel : State) (4 : Nat) (portPart (stRel : State) (4 : Nat)) (⟨.memRead, .untranslated, 0x1000, 64, 0x100, none, ⟨0, 0, [], none, false⟩, false, false, .up⟩ : Tlp) = false := by decide

theorem wit_GateTraffic_5 : epAt ({ stRel with fab := { stRel.fab with heldTlps := List.replicate 700 ⟨4, 0, 0, ⟨.memRead, .untranslated, 0x1000, 64, 0, none, ⟨0, 0, [], none, false⟩, false, false, .up⟩⟩ } } : State) (4 : Nat) = some (0 : Nat) ∧ tlpCredit ({ stRel with fab := { stRel.fab with heldTlps := List.replicate 700 ⟨4, 0, 0, ⟨.memRead, .untranslated, 0x1000, 64, 0, none, ⟨0, 0, [], none, false⟩, false, false, .up⟩⟩ } } : State) (4 : Nat) (⟨.memRead, .untranslated, 0x1000, 64, 0, none, ⟨0, 0, [], none, false⟩, false, false, .up⟩ : Tlp) = false := by decide +kernel

theorem wit_GateTraffic_6 : epAt (stRel : State) (4 : Nat) = some (0 : Nat) ∧ portRole (stRel : State) (4 : Nat) = 2 ∧ (epOf (stRel : State) (0 : Nat)).link = true ∧ tlpCredit (stRel : State) (4 : Nat) (⟨.message, .untranslated, 0, 64, 0, some ⟨0x7f, 0x1ab4, 9, 8, 0, true, true, true, 1, 5⟩, ⟨0, 0, [], none, false⟩, false, false, .up⟩ : Tlp) = true ∧ (epOf (stRel : State) (0 : Nat)).st = .opened ∧ (stRel : State).fab.planes ≠ 0 ∧ (partOf (stRel : State) (portPart (stRel : State) (4 : Nat))).up = true ∧ bayScreens (stRel : State) ((4 : Nat) / 4) = true ∧ (⟨0x7f, 0x1ab4, 9, 8, 0, true, true, true, 1, 5⟩ : Vdm).code = 0x7f ∧ (⟨0x7f, 0x1ab4, 9, 8, 0, true, true, true, 1, 5⟩ : Vdm).vendor = 0x1ab4 ∧ (⟨0x7f, 0x1ab4, 9, 8, 0, true, true, true, 1, 5⟩ : Vdm).som = true ∧ (⟨0x7f, 0x1ab4, 9, 8, 0, true, true, true, 1, 5⟩ : Vdm).mctpType = 1 ∧ (⟨0x7f, 0x1ab4, 9, 8, 0, true, true, true, 1, 5⟩ : Vdm).pldmType = 5 ∧ (⟨.message, .untranslated, 0, 64, 0, some ⟨0x7f, 0x1ab4, 9, 8, 0, true, true, true, 1, 5⟩, ⟨0, 0, [], none, false⟩, false, false, .up⟩ : Tlp).kind = .message ∧ (⟨.message, .untranslated, 0, 64, 0, some ⟨0x7f, 0x1ab4, 9, 8, 0, true, true, true, 1, 5⟩, ⟨0, 0, [], none, false⟩, false, false, .up⟩ : Tlp).vdm = some (⟨0x7f, 0x1ab4, 9, 8, 0, true, true, true, 1, 5⟩ : Vdm) ∧ (⟨.message, .untranslated, 0, 64, 0, some ⟨0x7f, 0x1ab4, 9, 8, 0, true, true, true, 1, 5⟩, ⟨0, 0, [], none, false⟩, false, false, .up⟩ : Tlp).ide = false ∧ (⟨.message, .untranslated, 0, 64, 0, some ⟨0x7f, 0x1ab4, 9, 8, 0, true, true, true, 1, 5⟩, ⟨0, 0, [], none, false⟩, false, false, .up⟩ : Tlp).dest = .up ∧ ideBlocked (stRel : State) (portPart (stRel : State) (4 : Nat)) = false ∧ acsSource (stRel : State) (4 : Nat) (portPart (stRel : State) (4 : Nat)) (⟨.message, .untranslated, 0, 64, 0, some ⟨0x7f, 0x1ab4, 9, 8, 0, true, true, true, 1, 5⟩, ⟨0, 0, [], none, false⟩, false, false, .up⟩ : Tlp) = true := by decide

theorem wit_GateTraffic_7 : (partOf (upEp 0 (fun e => { e with st := .contained }) stRel : State) (0 : Nat)).up = true ∧ tlpCredit (upEp 0 (fun e => { e with st := .contained }) stRel : State) (upPort' (upEp 0 (fun e => { e with st := .contained }) stRel : State) (0 : Nat)) (⟨.memRead, .untranslated, 0x1000, 64, 0, none, ⟨0, 0, [], none, false⟩, false, false, .port 4⟩ : Tlp) = true ∧ (upEp 0 (fun e => { e with st := .contained }) stRel : State).fab.planes ≠ 0 ∧ ideBlocked (upEp 0 (fun e => { e with st := .contained }) stRel : State) (0 : Nat) = false ∧ (⟨.memRead, .untranslated, 0x1000, 64, 0, none, ⟨0, 0, [], none, false⟩, false, false, .port 4⟩ : Tlp).dest = .port (4 : Nat) ∧ mctpOf (⟨.memRead, .untranslated, 0x1000, 64, 0, none, ⟨0, 0, [], none, false⟩, false, false, .port 4⟩ : Tlp) = none ∧ portOpen (upEp 0 (fun e => { e with st := .contained }) stRel : State) (0 : Nat) (4 : Nat) = false := by decide

theorem wit_GateTraffic_8 : (partOf (stRel : State) (0 : Nat)).up = true ∧ tlpCredit (stRel : State) (upPort' (stRel : State) (0 : Nat)) (⟨.memRead, .untranslated, 0x1000, 64, 0, none, ⟨0, 0, [], none, false⟩, false, false, .port 4⟩ : Tlp) = true ∧ (stRel : State).fab.planes ≠ 0 ∧ ideBlocked (stRel : State) (0 : Nat) = false ∧ (⟨.memRead, .untranslated, 0x1000, 64, 0, none, ⟨0, 0, [], none, false⟩, false, false, .port 4⟩ : Tlp).dest = .port (4 : Nat) ∧ mctpOf (⟨.memRead, .untranslated, 0x1000, 64, 0, none, ⟨0, 0, [], none, false⟩, false, false, .port 4⟩ : Tlp) = none ∧ portOpen (stRel : State) (0 : Nat) (4 : Nat) = true ∧ (stRel : State).fab.planeFail = 0 := by decide

theorem wit_GateTraffic_9 : (partOf (stRel : State) (0 : Nat)).up = true ∧ tlpCredit (stRel : State) (upPort' (stRel : State) (0 : Nat)) (⟨.message, .untranslated, 0, 64, 0, some ⟨0x7f, 0x1ab4, 9, 8, 0, true, true, true, 1, 5⟩, ⟨0, 0, [], none, false⟩, false, false, .port 4⟩ : Tlp) = true ∧ (stRel : State).fab.planes ≠ 0 ∧ ideBlocked (stRel : State) (0 : Nat) = false ∧ (⟨.message, .untranslated, 0, 64, 0, some ⟨0x7f, 0x1ab4, 9, 8, 0, true, true, true, 1, 5⟩, ⟨0, 0, [], none, false⟩, false, false, .port 4⟩ : Tlp).dest = .port (4 : Nat) ∧ (⟨0x7f, 0x1ab4, 9, 8, 0, true, true, true, 1, 5⟩ : Vdm).code = 0x7f ∧ (⟨0x7f, 0x1ab4, 9, 8, 0, true, true, true, 1, 5⟩ : Vdm).vendor = 0x1ab4 ∧ (⟨0x7f, 0x1ab4, 9, 8, 0, true, true, true, 1, 5⟩ : Vdm).som = true ∧ (⟨0x7f, 0x1ab4, 9, 8, 0, true, true, true, 1, 5⟩ : Vdm).mctpType = 1 ∧ (⟨0x7f, 0x1ab4, 9, 8, 0, true, true, true, 1, 5⟩ : Vdm).pldmType = 5 ∧ (⟨.message, .untranslated, 0, 64, 0, some ⟨0x7f, 0x1ab4, 9, 8, 0, true, true, true, 1, 5⟩, ⟨0, 0, [], none, false⟩, false, false, .port 4⟩ : Tlp).kind = .message ∧ (⟨.message, .untranslated, 0, 64, 0, some ⟨0x7f, 0x1ab4, 9, 8, 0, true, true, true, 1, 5⟩, ⟨0, 0, [], none, false⟩, false, false, .port 4⟩ : Tlp).vdm = some (⟨0x7f, 0x1ab4, 9, 8, 0, true, true, true, 1, 5⟩ : Vdm) ∧ (⟨.message, .untranslated, 0, 64, 0, some ⟨0x7f, 0x1ab4, 9, 8, 0, true, true, true, 1, 5⟩, ⟨0, 0, [], none, false⟩, false, false, .port 4⟩ : Tlp).ide = false ∧ portOpen (stRel : State) (0 : Nat) (4 : Nat) = true := by decide

theorem wit_GateTraffic_10 : (partOf (upEp 0 (fun e => { e with st := .contained }) stRel : State) (0 : Nat)).up = true ∧ tlpCredit (upEp 0 (fun e => { e with st := .contained }) stRel : State) (upPort' (upEp 0 (fun e => { e with st := .contained }) stRel : State) (0 : Nat)) (⟨.message, .untranslated, 0, 64, 0, some ⟨0x7f, 0x1ab4, 9, 8, 0, true, true, true, 1, 5⟩, ⟨0, 0, [], none, false⟩, false, false, .port 4⟩ : Tlp) = true ∧ (upEp 0 (fun e => { e with st := .contained }) stRel : State).fab.planes ≠ 0 ∧ ideBlocked (upEp 0 (fun e => { e with st := .contained }) stRel : State) (0 : Nat) = false ∧ (⟨.message, .untranslated, 0, 64, 0, some ⟨0x7f, 0x1ab4, 9, 8, 0, true, true, true, 1, 5⟩, ⟨0, 0, [], none, false⟩, false, false, .port 4⟩ : Tlp).dest = .port (4 : Nat) ∧ (⟨0x7f, 0x1ab4, 9, 8, 0, true, true, true, 1, 5⟩ : Vdm).code = 0x7f ∧ (⟨0x7f, 0x1ab4, 9, 8, 0, true, true, true, 1, 5⟩ : Vdm).vendor = 0x1ab4 ∧ (⟨0x7f, 0x1ab4, 9, 8, 0, true, true, true, 1, 5⟩ : Vdm).som = true ∧ (⟨0x7f, 0x1ab4, 9, 8, 0, true, true, true, 1, 5⟩ : Vdm).mctpType = 1 ∧ (⟨0x7f, 0x1ab4, 9, 8, 0, true, true, true, 1, 5⟩ : Vdm).pldmType = 5 ∧ (⟨.message, .untranslated, 0, 64, 0, some ⟨0x7f, 0x1ab4, 9, 8, 0, true, true, true, 1, 5⟩, ⟨0, 0, [], none, false⟩, false, false, .port 4⟩ : Tlp).kind = .message ∧ (⟨.message, .untranslated, 0, 64, 0, some ⟨0x7f, 0x1ab4, 9, 8, 0, true, true, true, 1, 5⟩, ⟨0, 0, [], none, false⟩, false, false, .port 4⟩ : Tlp).vdm = some (⟨0x7f, 0x1ab4, 9, 8, 0, true, true, true, 1, 5⟩ : Vdm) ∧ (⟨.message, .untranslated, 0, 64, 0, some ⟨0x7f, 0x1ab4, 9, 8, 0, true, true, true, 1, 5⟩, ⟨0, 0, [], none, false⟩, false, false, .port 4⟩ : Tlp).ide = false ∧ portOpen (upEp 0 (fun e => { e with st := .contained }) stRel : State) (0 : Nat) (4 : Nat) = false := by decide

theorem wit_GateTraffic_11 : vaultEp ({ stRel with run := ⟨none, 0, some { tPol with fabric := [⟨0, 1, 0, 16, 6, 0⟩, ⟨4, 3, 0, 4, 6, 0⟩] }, 0, true, tabEmpty, tabEmpty, none, []⟩ } : State) = some (0 : Nat) ∧ (epOf ({ stRel with run := ⟨none, 0, some { tPol with fabric := [⟨0, 1, 0, 16, 6, 0⟩, ⟨4, 3, 0, 4, 6, 0⟩] }, 0, true, tabEmpty, tabEmpty, none, []⟩ } : State) (0 : Nat)).link = true ∧ (epOf ({ stRel with run := ⟨none, 0, some { tPol with fabric := [⟨0, 1, 0, 16, 6, 0⟩, ⟨4, 3, 0, 4, 6, 0⟩] }, 0, true, tabEmpty, tabEmpty, none, []⟩ } : State) (0 : Nat)).st = .opened ∧ ({ stRel with run := ⟨none, 0, some { tPol with fabric := [⟨0, 1, 0, 16, 6, 0⟩, ⟨4, 3, 0, 4, 6, 0⟩] }, 0, true, tabEmpty, tabEmpty, none, []⟩ } : State).fab.planes ≠ 0 ∧ ({ stRel with run := ⟨none, 0, some { tPol with fabric := [⟨0, 1, 0, 16, 6, 0⟩, ⟨4, 3, 0, 4, 6, 0⟩] }, 0, true, tabEmpty, tabEmpty, none, []⟩ } : State).fab.planeFail = 0 ∧ tlpCredit ({ stRel with run := ⟨none, 0, some { tPol with fabric := [⟨0, 1, 0, 16, 6, 0⟩, ⟨4, 3, 0, 4, 6, 0⟩] }, 0, true, tabEmpty, tabEmpty, none, []⟩ } : State) (epPort ({ stRel with run := ⟨none, 0, some { tPol with fabric := [⟨0, 1, 0, 16, 6, 0⟩, ⟨4, 3, 0, 4, 6, 0⟩] }, 0, true, tabEmpty, tabEmpty, none, []⟩ } : State) (0 : Nat)) (freeTlp ({ stRel with run := ⟨none, 0, some { tPol with fabric := [⟨0, 1, 0, 16, 6, 0⟩, ⟨4, 3, 0, 4, 6, 0⟩] }, 0, true, tabEmpty, tabEmpty, none, []⟩ } : State) (if (true : Bool) then .memWrite else .memRead) 4 .csf) = true := by decide

theorem wit_GateTraffic_12 : vaultEp ({ upEp 0 (fun e => { e with st := .recheck }) stRel with run := ⟨none, 0, some { tPol with fabric := [⟨0, 1, 0, 16, 6, 0⟩, ⟨4, 3, 0, 4, 6, 0⟩] }, 0, true, tabEmpty, tabEmpty, none, []⟩ } : State) = some (0 : Nat) ∧ (epOf ({ upEp 0 (fun e => { e with st := .recheck }) stRel with run := ⟨none, 0, some { tPol with fabric := [⟨0, 1, 0, 16, 6, 0⟩, ⟨4, 3, 0, 4, 6, 0⟩] }, 0, true, tabEmpty, tabEmpty, none, []⟩ } : State) (0 : Nat)).link = true ∧ (epOf ({ upEp 0 (fun e => { e with st := .recheck }) stRel with run := ⟨none, 0, some { tPol with fabric := [⟨0, 1, 0, 16, 6, 0⟩, ⟨4, 3, 0, 4, 6, 0⟩] }, 0, true, tabEmpty, tabEmpty, none, []⟩ } : State) (0 : Nat)).st ≠ .opened ∧ tlpCredit ({ upEp 0 (fun e => { e with st := .recheck }) stRel with run := ⟨none, 0, some { tPol with fabric := [⟨0, 1, 0, 16, 6, 0⟩, ⟨4, 3, 0, 4, 6, 0⟩] }, 0, true, tabEmpty, tabEmpty, none, []⟩ } : State) (epPort ({ upEp 0 (fun e => { e with st := .recheck }) stRel with run := ⟨none, 0, some { tPol with fabric := [⟨0, 1, 0, 16, 6, 0⟩, ⟨4, 3, 0, 4, 6, 0⟩] }, 0, true, tabEmpty, tabEmpty, none, []⟩ } : State) (0 : Nat)) (freeTlp ({ upEp 0 (fun e => { e with st := .recheck }) stRel with run := ⟨none, 0, some { tPol with fabric := [⟨0, 1, 0, 16, 6, 0⟩, ⟨4, 3, 0, 4, 6, 0⟩] }, 0, true, tabEmpty, tabEmpty, none, []⟩ } : State) (if (true : Bool) then .memWrite else .memRead) 4 .csf) = true := by decide

theorem wit_SecuredStreams_1 : (partOf (upPart 0 (fun x => { x with session := true, selSecure := true, ideKeys := true, tdi := .unlocked, bound := false }) stRel : State) (0 : Nat)).up = true ∧ (partOf (upPart 0 (fun x => { x with session := true, selSecure := true, ideKeys := true, tdi := .unlocked, bound := false }) stRel : State) (0 : Nat)).ideKeys = true := by decide

theorem wit_SecuredStreams_2 : (partOf (upPart 0 (fun x => { x with session := true, selSecure := true, ideKeys := true, tdi := .unlocked, bound := false }) stRel : State) (0 : Nat)).selSecure = true := by decide

theorem wit_SecuredStreams_3 : (linkOf (upFab (fun g => { g with links := ⟨[(0, ⟨6, 16, true, false, true, true⟩)]⟩ }) stRel : State) (upPort' (upFab (fun g => { g with links := ⟨[(0, ⟨6, 16, true, false, true, true⟩)]⟩ }) stRel : State) (0 : Nat))).ideSecure = true := by decide

theorem wit_SecuredStreams_4 : (partOf ({ stRel with kld := { stRel.kld with certs := some ([], []) } } : State) (0 : Nat)).up = true ∧ fwRuns ({ stRel with kld := { stRel.kld with certs := some ([], []) } } : State) = true ∧ ({ stRel with kld := { stRel.kld with certs := some ([], []) } } : State).kld.certs.isSome = true ∧ keysHeld ({ stRel with kld := { stRel.kld with certs := some ([], []) } } : State) = false ∧ sigIn ({ stRel with kld := { stRel.kld with certs := some ([], []) } } : State) = true ∧ ({ stRel with kld := { stRel.kld with certs := some ([], []) } } : State).kld.rngFail = false := by decide

theorem wit_SecuredStreams_5 : (partOf (upPart 0 (fun x => { x with session := true, selSecure := true, ideKeys := true, tdi := .unlocked, bound := false }) stRel : State) (0 : Nat)).up = true ∧ (partOf (upPart 0 (fun x => { x with session := true, selSecure := true, ideKeys := true, tdi := .unlocked, bound := false }) stRel : State) (0 : Nat)).session = true := by decide

theorem wit_SecuredStreams_6 : (partOf (upPart 0 (fun x => { x with session := true, selSecure := true, ideKeys := true, tdi := .unlocked, bound := false }) stRel : State) (0 : Nat)).up = true ∧ (partOf (upPart 0 (fun x => { x with session := true, selSecure := true, ideKeys := true, tdi := .unlocked, bound := false }) stRel : State) (0 : Nat)).session = true ∧ (partOf (upPart 0 (fun x => { x with session := true, selSecure := true, ideKeys := true, tdi := .unlocked, bound := false }) stRel : State) (0 : Nat)).selSecure = true ∧ (partOf (upPart 0 (fun x => { x with session := true, selSecure := true, ideKeys := true, tdi := .unlocked, bound := false }) stRel : State) (0 : Nat)).tdi = .unlocked := by decide

theorem wit_SecuredStreams_7 : (partOf (stRel : State) (0 : Nat)).selSecure = false := by decide

theorem wit_SecuredStreams_8 : (partOf (stRel : State) (0 : Nat)).ideKeys = false := by decide

theorem wit_SecuredStreams_9 : (partOf (stRel : State) (0 : Nat)).session = false := by decide

theorem wit_SecuredStreams_10 : fwRuns (upKld (fun k => { k with rngFail := true }) stRel : State) = false ∨ keysHeld (upKld (fun k => { k with rngFail := true }) stRel : State) = true ∨ sigIn (upKld (fun k => { k with rngFail := true }) stRel : State) = false ∨ (upKld (fun k => { k with rngFail := true }) stRel : State).kld.rngFail = true := by decide

theorem wit_SecuredStreams_11 : (partOf (upPart 0 (fun x => { x with session := true, selSecure := true, ideKeys := true, tdi := .unlocked, bound := false }) stRel : State) (0 : Nat)).tdi ≠ .locked := by decide

theorem wit_SecuredStreams_12 : (partOf (upPart 0 (fun x => { x with session := true, selSecure := true, ideKeys := true, tdi := .run, bound := true }) stRel : State) (0 : Nat)).tdi ≠ .unlocked := by decide

theorem wit_SecuredStreams_13 : (partOf (upPart 0 (fun x => { x with session := true, selSecure := true, ideKeys := true, tdi := .unlocked, bound := false }) stRel : State) (0 : Nat)).tdi = .unlocked := by decide

theorem wit_SecuredStreams_14 : (partOf (upPart 0 (fun x => { x with session := true, selSecure := true, ideKeys := true, tdi := .locked, bound := true }) stRel : State) (0 : Nat)).up = true ∧ (partOf (upPart 0 (fun x => { x with session := true, selSecure := true, ideKeys := true, tdi := .locked, bound := true }) stRel : State) (0 : Nat)).session = true ∧ (partOf (upPart 0 (fun x => { x with session := true, selSecure := true, ideKeys := true, tdi := .locked, bound := true }) stRel : State) (0 : Nat)).tdi = .locked := by decide

theorem wit_SecuredStreams_15 : (partOf (upPart 0 (fun x => { x with session := true, selSecure := true, ideKeys := true, tdi := .run, bound := true }) stRel : State) (0 : Nat)).up = true ∧ (partOf (upPart 0 (fun x => { x with session := true, selSecure := true, ideKeys := true, tdi := .run, bound := true }) stRel : State) (0 : Nat)).session = true ∧ (partOf (upPart 0 (fun x => { x with session := true, selSecure := true, ideKeys := true, tdi := .run, bound := true }) stRel : State) (0 : Nat)).tdi ≠ .unlocked := by decide

theorem wit_SecuredStreams_16 : (partOf (upPart 0 (fun x => { x with session := true, selSecure := true, ideKeys := true, tdi := .run, bound := true }) stRel : State) (0 : Nat)).up = true ∧ (partOf (upPart 0 (fun x => { x with session := true, selSecure := true, ideKeys := true, tdi := .run, bound := true }) stRel : State) (0 : Nat)).tdi ≠ .error := by decide

theorem wit_SecuredStreams_17 : (partOf (upPart 0 (fun x => { x with session := true, selSecure := true, ideKeys := true, tdi := .run, bound := true }) stRel : State) (0 : Nat)).up = true ∧ (partOf (upPart 0 (fun x => { x with session := true, selSecure := true, ideKeys := true, tdi := .run, bound := true }) stRel : State) (0 : Nat)).tdi ≠ .error ∧ partRings (upPart 0 (fun x => { x with session := true, selSecure := true, ideKeys := true, tdi := .run, bound := true }) stRel : State) (0 : Nat) = [] := by decide

theorem wit_ResistTable_1 : csfReach (upPart 0 (fun x => { x with recWords := [0x1000, 0, 0x1fff, 0, 0x10, 7, 0, 0] }) stRel : State) (0 : Nat) (false : Bool) = true ∧ csfPending (partOf (upPart 0 (fun x => { x with recWords := [0x1000, 0, 0x1fff, 0, 0x10, 7, 0, 0] }) stRel : State) (0 : Nat)) = false ∧ declareCheck (upPart 0 (fun x => { x with recWords := [0x1000, 0, 0x1fff, 0, 0x10, 7, 0, 0] }) stRel : State) (0 : Nat) = 1 := by decide

theorem wit_ResistTable_2 : csfReach (stRel : State) (0 : Nat) (false : Bool) = true ∧ csfPending (partOf (stRel : State) (0 : Nat)) = false ∧ declareCheck (stRel : State) (0 : Nat) ≠ 1 := by decide

theorem wit_ResistTable_3 : csfReach (stRel : State) (0 : Nat) (false : Bool) = true ∧ csfPending (partOf (stRel : State) (0 : Nat)) = false ∧ (1 : BitVec 16) ≠ 0 := by decide

theorem wit_ResistTable_4 : csfReach (upPart 0 (fun x => { x with pendDeclare := some ⟨0x1000, 0x1fff, 0x10, 7, 0⟩ }) stRel : State) (0 : Nat) (false : Bool) = true ∧ csfPending (partOf (upPart 0 (fun x => { x with pendDeclare := some ⟨0x1000, 0x1fff, 0x10, 7, 0⟩ }) stRel : State) (0 : Nat)) = true := by decide

theorem wit_ResistTable_5 : (partOf (upPart 0 (fun x => { x with pendDeclare := some ⟨0x1000, 0x1fff, 0x10, 7, 0⟩ }) stRel : State) (0 : Nat)).pendDeclare = some (⟨0x1000, 0x1fff, 0x10, 7, 0⟩ : Range) ∧ (upPart 0 (fun x => { x with pendDeclare := some ⟨0x1000, 0x1fff, 0x10, 7, 0⟩ }) stRel : State).dga.engines ≠ 0 ∧ (partOf (upPart 0 (fun x => { x with pendDeclare := some ⟨0x1000, 0x1fff, 0x10, 7, 0⟩ }) stRel : State) (0 : Nat)).armed = 0 ∧ (partOf (upPart 0 (fun x => { x with pendDeclare := some ⟨0x1000, 0x1fff, 0x10, 7, 0⟩ }) stRel : State) (0 : Nat)).pendArm = none := by decide

theorem wit_ResistTable_6 : csfReach (stRel : State) (0 : Nat) (false : Bool) = true ∧ csfPending (partOf (stRel : State) (0 : Nat)) = false ∧ (partOf (stRel : State) (0 : Nat)).armed = 0 ∧ (partOf (stRel : State) (0 : Nat)).pendArm = none := by decide

theorem wit_ResistTable_7 : csfReach (stRel : State) (0 : Nat) (false : Bool) = true ∧ csfPending (partOf (stRel : State) (0 : Nat)) = false ∧ (1 : BitVec 16) ≠ 0xa4e5 := by decide

theorem wit_ResistTable_8 : csfReach (upPart 0 (fun x => { x with armed := 1 }) stRel : State) (0 : Nat) (false : Bool) = true ∧ csfPending (partOf (upPart 0 (fun x => { x with armed := 1 }) stRel : State) (0 : Nat)) = false ∧ (partOf (upPart 0 (fun x => { x with armed := 1 }) stRel : State) (0 : Nat)).armed ≠ 0 := by decide

theorem wit_ResistTable_9 : (partOf (upPart 0 (fun x => { x with deadlineRuns := true }) stRel : State) (0 : Nat)).up = true ∧ (partOf (upPart 0 (fun x => { x with deadlineRuns := true }) stRel : State) (0 : Nat)).deadlineRuns = true ∧ (partOf (upPart 0 (fun x => { x with deadlineRuns := true }) stRel : State) (0 : Nat)).armed = 0 ∧ (partOf (upPart 0 (fun x => { x with deadlineRuns := true }) stRel : State) (0 : Nat)).pendArm = none := by decide

theorem wit_ResistTable_10 : (partOf (upPart 0 (fun x => { x with pendArm := some (1, true), armCmd := true }) stRel : State) (0 : Nat)).pendArm = some ((1 : Nat), true) := by decide

theorem wit_ResistTable_11 : ((stRel : State).run.policy.bind (fun q => polUpstream q (0 : Nat))).isSome = true := by decide

theorem wit_MediatedUpdates_1 : epAt (stRel : State) (4 : Nat) = some (0 : Nat) ∧ portRole (stRel : State) (4 : Nat) = 2 ∧ (epOf (stRel : State) (0 : Nat)).st = .opened ∧ (stRel : State).fab.planes ≠ 0 ∧ (partOf (stRel : State) (portPart (stRel : State) (4 : Nat))).up = true ∧ ideBlocked (stRel : State) (portPart (stRel : State) (4 : Nat)) = false ∧ medNext (stRel : State) (4 : Nat) (.requestUpdate : MedMsg) = none ∧ creditOk (stRel : State) (medIngress (stRel : State) (4 : Nat) (.requestUpdate : MedMsg)) 0 (((64 : Nat) + 15) / 16) = true ∧ (⟨4, .requestUpdate, 64, 0, freeTlp stRel .message 64 .up⟩ : MedPkt) = ⟨(4 : Nat), (.requestUpdate : MedMsg), (64 : Nat), medIngress (stRel : State) (4 : Nat) (.requestUpdate : MedMsg), freeTlp (stRel : State) .message (64 : Nat) .up⟩ ∧ medBlocked (⟨4, .requestUpdate, 64, 0, freeTlp stRel .message 64 .up⟩ : MedPkt) (stRel : State) = false ∧ fwRuns (stRel : State) = true ∧ medOk (stRel : State) (4 : Nat) = true ∧ (.requestUpdate : MedMsg) ≠ .activate := ⟨by decide, by decide, by decide, by decide, by decide, by decide, by decide, by decide, rfl, by decide, by decide, by decide, by decide⟩

theorem wit_MediatedUpdates_2 : epAt (stRel : State) (4 : Nat) = some (0 : Nat) ∧ portRole (stRel : State) (4 : Nat) = 2 ∧ (epOf (stRel : State) (0 : Nat)).st = .opened ∧ (stRel : State).fab.planes ≠ 0 ∧ (partOf (stRel : State) (portPart (stRel : State) (4 : Nat))).up = true ∧ ideBlocked (stRel : State) (portPart (stRel : State) (4 : Nat)) = false ∧ medNext (stRel : State) (4 : Nat) (.activate : MedMsg) = none ∧ creditOk (stRel : State) (medIngress (stRel : State) (4 : Nat) (.activate : MedMsg)) 0 (((64 : Nat) + 15) / 16) = true ∧ (⟨4, .activate, 64, 0, freeTlp stRel .message 64 .up⟩ : MedPkt) = ⟨(4 : Nat), (.activate : MedMsg), (64 : Nat), medIngress (stRel : State) (4 : Nat) (.activate : MedMsg), freeTlp (stRel : State) .message (64 : Nat) .up⟩ ∧ medBlocked (⟨4, .activate, 64, 0, freeTlp stRel .message 64 .up⟩ : MedPkt) (stRel : State) = false ∧ fwRuns (stRel : State) = true ∧ medOk (stRel : State) (4 : Nat) = true ∧ (.activate : MedMsg) = .activate := ⟨by decide, by decide, by decide, by decide, by decide, by decide, by decide, by decide, rfl, by decide, by decide, by decide, by decide⟩

theorem wit_MediatedUpdates_3 : epAt ({ stRel with run := ⟨none, 0, some { tPol with endpoints := [⟨0, 4, 1, 0x12, 1000, 2, zeros 48, zeros 48⟩] }, 0, true, tabEmpty, tabEmpty, none, []⟩ } : State) (4 : Nat) = some (0 : Nat) ∧ portRole ({ stRel with run := ⟨none, 0, some { tPol with endpoints := [⟨0, 4, 1, 0x12, 1000, 2, zeros 48, zeros 48⟩] }, 0, true, tabEmpty, tabEmpty, none, []⟩ } : State) (4 : Nat) = 2 ∧ (epOf ({ stRel with run := ⟨none, 0, some { tPol with endpoints := [⟨0, 4, 1, 0x12, 1000, 2, zeros 48, zeros 48⟩] }, 0, true, tabEmpty, tabEmpty, none, []⟩ } : State) (0 : Nat)).st = .opened ∧ ({ stRel with run := ⟨none, 0, some { tPol with endpoints := [⟨0, 4, 1, 0x12, 1000, 2, zeros 48, zeros 48⟩] }, 0, true, tabEmpty, tabEmpty, none, []⟩ } : State).fab.planes ≠ 0 ∧ (partOf ({ stRel with run := ⟨none, 0, some { tPol with endpoints := [⟨0, 4, 1, 0x12, 1000, 2, zeros 48, zeros 48⟩] }, 0, true, tabEmpty, tabEmpty, none, []⟩ } : State) (portPart ({ stRel with run := ⟨none, 0, some { tPol with endpoints := [⟨0, 4, 1, 0x12, 1000, 2, zeros 48, zeros 48⟩] }, 0, true, tabEmpty, tabEmpty, none, []⟩ } : State) (4 : Nat))).up = true ∧ ideBlocked ({ stRel with run := ⟨none, 0, some { tPol with endpoints := [⟨0, 4, 1, 0x12, 1000, 2, zeros 48, zeros 48⟩] }, 0, true, tabEmpty, tabEmpty, none, []⟩ } : State) (portPart ({ stRel with run := ⟨none, 0, some { tPol with endpoints := [⟨0, 4, 1, 0x12, 1000, 2, zeros 48, zeros 48⟩] }, 0, true, tabEmpty, tabEmpty, none, []⟩ } : State) (4 : Nat)) = false ∧ medNext ({ stRel with run := ⟨none, 0, some { tPol with endpoints := [⟨0, 4, 1, 0x12, 1000, 2, zeros 48, zeros 48⟩] }, 0, true, tabEmpty, tabEmpty, none, []⟩ } : State) (4 : Nat) (.requestUpdate : MedMsg) = none ∧ creditOk ({ stRel with run := ⟨none, 0, some { tPol with endpoints := [⟨0, 4, 1, 0x12, 1000, 2, zeros 48, zeros 48⟩] }, 0, true, tabEmpty, tabEmpty, none, []⟩ } : State) (medIngress ({ stRel with run := ⟨none, 0, some { tPol with endpoints := [⟨0, 4, 1, 0x12, 1000, 2, zeros 48, zeros 48⟩] }, 0, true, tabEmpty, tabEmpty, none, []⟩ } : State) (4 : Nat) (.requestUpdate : MedMsg)) 0 (((64 : Nat) + 15) / 16) = true ∧ (⟨4, .requestUpdate, 64, 0, freeTlp stRel .message 64 .up⟩ : MedPkt) = ⟨(4 : Nat), (.requestUpdate : MedMsg), (64 : Nat), medIngress ({ stRel with run := ⟨none, 0, some { tPol with endpoints := [⟨0, 4, 1, 0x12, 1000, 2, zeros 48, zeros 48⟩] }, 0, true, tabEmpty, tabEmpty, none, []⟩ } : State) (4 : Nat) (.requestUpdate : MedMsg), freeTlp ({ stRel with run := ⟨none, 0, some { tPol with endpoints := [⟨0, 4, 1, 0x12, 1000, 2, zeros 48, zeros 48⟩] }, 0, true, tabEmpty, tabEmpty, none, []⟩ } : State) .message (64 : Nat) .up⟩ ∧ medBlocked (⟨4, .requestUpdate, 64, 0, freeTlp stRel .message 64 .up⟩ : MedPkt) ({ stRel with run := ⟨none, 0, some { tPol with endpoints := [⟨0, 4, 1, 0x12, 1000, 2, zeros 48, zeros 48⟩] }, 0, true, tabEmpty, tabEmpty, none, []⟩ } : State) = false ∧ fwRuns ({ stRel with run := ⟨none, 0, some { tPol with endpoints := [⟨0, 4, 1, 0x12, 1000, 2, zeros 48, zeros 48⟩] }, 0, true, tabEmpty, tabEmpty, none, []⟩ } : State) = true ∧ medOk ({ stRel with run := ⟨none, 0, some { tPol with endpoints := [⟨0, 4, 1, 0x12, 1000, 2, zeros 48, zeros 48⟩] }, 0, true, tabEmpty, tabEmpty, none, []⟩ } : State) (4 : Nat) = false := ⟨by decide, by decide, by decide, by decide, by decide, by decide, by decide, by decide, rfl, by decide, by decide, by decide⟩

theorem wit_MediatedUpdates_4 : epAt (upSc (fun c => { c with running := false }) stRel : State) (4 : Nat) = some (0 : Nat) ∧ portRole (upSc (fun c => { c with running := false }) stRel : State) (4 : Nat) = 2 ∧ (epOf (upSc (fun c => { c with running := false }) stRel : State) (0 : Nat)).st = .opened ∧ (upSc (fun c => { c with running := false }) stRel : State).fab.planes ≠ 0 ∧ (partOf (upSc (fun c => { c with running := false }) stRel : State) (portPart (upSc (fun c => { c with running := false }) stRel : State) (4 : Nat))).up = true ∧ ideBlocked (upSc (fun c => { c with running := false }) stRel : State) (portPart (upSc (fun c => { c with running := false }) stRel : State) (4 : Nat)) = false ∧ medNext (upSc (fun c => { c with running := false }) stRel : State) (4 : Nat) (.requestUpdate : MedMsg) = none ∧ creditOk (upSc (fun c => { c with running := false }) stRel : State) (medIngress (upSc (fun c => { c with running := false }) stRel : State) (4 : Nat) (.requestUpdate : MedMsg)) 0 (((64 : Nat) + 15) / 16) = true ∧ (⟨4, .requestUpdate, 64, 0, freeTlp stRel .message 64 .up⟩ : MedPkt) = ⟨(4 : Nat), (.requestUpdate : MedMsg), (64 : Nat), medIngress (upSc (fun c => { c with running := false }) stRel : State) (4 : Nat) (.requestUpdate : MedMsg), freeTlp (upSc (fun c => { c with running := false }) stRel : State) .message (64 : Nat) .up⟩ ∧ medBlocked (⟨4, .requestUpdate, 64, 0, freeTlp stRel .message 64 .up⟩ : MedPkt) (upSc (fun c => { c with running := false }) stRel : State) = false ∧ fwRuns (upSc (fun c => { c with running := false }) stRel : State) = false ∧ medFits (upSc (fun c => { c with running := false }) stRel : State) (64 : Nat) = true ∧ (upSc (fun c => { c with running := false }) stRel : State).fab.medWait = [] := ⟨by decide, by decide, by decide, by decide, by decide, by decide, by decide, by decide, rfl, by decide, by decide, by decide, by decide⟩

theorem wit_MediatedUpdates_5 : epAt (upFab (fun g => { g with medWait := [⟨5, .requestUpdate, 64, 0, ⟨.message, .untranslated, 0, 64, 0, none, ⟨0, 0, [], none, false⟩, false, false, .up⟩⟩] }) (upSc (fun c => { c with running := false }) stRel) : State) (4 : Nat) = some (0 : Nat) ∧ portRole (upFab (fun g => { g with medWait := [⟨5, .requestUpdate, 64, 0, ⟨.message, .untranslated, 0, 64, 0, none, ⟨0, 0, [], none, false⟩, false, false, .up⟩⟩] }) (upSc (fun c => { c with running := false }) stRel) : State) (4 : Nat) = 2 ∧ (epOf (upFab (fun g => { g with medWait := [⟨5, .requestUpdate, 64, 0, ⟨.message, .untranslated, 0, 64, 0, none, ⟨0, 0, [], none, false⟩, false, false, .up⟩⟩] }) (upSc (fun c => { c with running := false }) stRel) : State) (0 : Nat)).st = .opened ∧ (upFab (fun g => { g with medWait := [⟨5, .requestUpdate, 64, 0, ⟨.message, .untranslated, 0, 64, 0, none, ⟨0, 0, [], none, false⟩, false, false, .up⟩⟩] }) (upSc (fun c => { c with running := false }) stRel) : State).fab.planes ≠ 0 ∧ (partOf (upFab (fun g => { g with medWait := [⟨5, .requestUpdate, 64, 0, ⟨.message, .untranslated, 0, 64, 0, none, ⟨0, 0, [], none, false⟩, false, false, .up⟩⟩] }) (upSc (fun c => { c with running := false }) stRel) : State) (portPart (upFab (fun g => { g with medWait := [⟨5, .requestUpdate, 64, 0, ⟨.message, .untranslated, 0, 64, 0, none, ⟨0, 0, [], none, false⟩, false, false, .up⟩⟩] }) (upSc (fun c => { c with running := false }) stRel) : State) (4 : Nat))).up = true ∧ ideBlocked (upFab (fun g => { g with medWait := [⟨5, .requestUpdate, 64, 0, ⟨.message, .untranslated, 0, 64, 0, none, ⟨0, 0, [], none, false⟩, false, false, .up⟩⟩] }) (upSc (fun c => { c with running := false }) stRel) : State) (portPart (upFab (fun g => { g with medWait := [⟨5, .requestUpdate, 64, 0, ⟨.message, .untranslated, 0, 64, 0, none, ⟨0, 0, [], none, false⟩, false, false, .up⟩⟩] }) (upSc (fun c => { c with running := false }) stRel) : State) (4 : Nat)) = false ∧ medNext (upFab (fun g => { g with medWait := [⟨5, .requestUpdate, 64, 0, ⟨.message, .untranslated, 0, 64, 0, none, ⟨0, 0, [], none, false⟩, false, false, .up⟩⟩] }) (upSc (fun c => { c with running := false }) stRel) : State) (4 : Nat) (.requestUpdate : MedMsg) = none ∧ creditOk (upFab (fun g => { g with medWait := [⟨5, .requestUpdate, 64, 0, ⟨.message, .untranslated, 0, 64, 0, none, ⟨0, 0, [], none, false⟩, false, false, .up⟩⟩] }) (upSc (fun c => { c with running := false }) stRel) : State) (medIngress (upFab (fun g => { g with medWait := [⟨5, .requestUpdate, 64, 0, ⟨.message, .untranslated, 0, 64, 0, none, ⟨0, 0, [], none, false⟩, false, false, .up⟩⟩] }) (upSc (fun c => { c with running := false }) stRel) : State) (4 : Nat) (.requestUpdate : MedMsg)) 0 (((64 : Nat) + 15) / 16) = true ∧ (⟨4, .requestUpdate, 64, 0, freeTlp stRel .message 64 .up⟩ : MedPkt) = ⟨(4 : Nat), (.requestUpdate : MedMsg), (64 : Nat), medIngress (upFab (fun g => { g with medWait := [⟨5, .requestUpdate, 64, 0, ⟨.message, .untranslated, 0, 64, 0, none, ⟨0, 0, [], none, false⟩, false, false, .up⟩⟩] }) (upSc (fun c => { c with running := false }) stRel) : State) (4 : Nat) (.requestUpdate : MedMsg), freeTlp (upFab (fun g => { g with medWait := [⟨5, .requestUpdate, 64, 0, ⟨.message, .untranslated, 0, 64, 0, none, ⟨0, 0, [], none, false⟩, false, false, .up⟩⟩] }) (upSc (fun c => { c with running := false }) stRel) : State) .message (64 : Nat) .up⟩ ∧ medBlocked (⟨4, .requestUpdate, 64, 0, freeTlp stRel .message 64 .up⟩ : MedPkt) (upFab (fun g => { g with medWait := [⟨5, .requestUpdate, 64, 0, ⟨.message, .untranslated, 0, 64, 0, none, ⟨0, 0, [], none, false⟩, false, false, .up⟩⟩] }) (upSc (fun c => { c with running := false }) stRel) : State) = false ∧ fwRuns (upFab (fun g => { g with medWait := [⟨5, .requestUpdate, 64, 0, ⟨.message, .untranslated, 0, 64, 0, none, ⟨0, 0, [], none, false⟩, false, false, .up⟩⟩] }) (upSc (fun c => { c with running := false }) stRel) : State) = false ∧ (medFits (upFab (fun g => { g with medWait := [⟨5, .requestUpdate, 64, 0, ⟨.message, .untranslated, 0, 64, 0, none, ⟨0, 0, [], none, false⟩, false, false, .up⟩⟩] }) (upSc (fun c => { c with running := false }) stRel) : State) (64 : Nat) = false ∨ (upFab (fun g => { g with medWait := [⟨5, .requestUpdate, 64, 0, ⟨.message, .untranslated, 0, 64, 0, none, ⟨0, 0, [], none, false⟩, false, false, .up⟩⟩] }) (upSc (fun c => { c with running := false }) stRel) : State).fab.medWait ≠ []) := ⟨by decide, by decide, by decide, by decide, by decide, by decide, by decide, by decide, rfl, by decide, by decide, by decide⟩

theorem wit_MediatedUpdates_6 : medOf (upFab (fun g => { g with meds := ⟨[(4, some ⟨[], some ⟨.message, .untranslated, 0, 64, 0, none, ⟨0, 0, [], none, false⟩, false, false, .port 4⟩, true, true, false⟩)]⟩ }) stRel : State) (4 : Nat) = some (⟨[], some ⟨.message, .untranslated, 0, 64, 0, none, ⟨0, 0, [], none, false⟩, false, false, .port 4⟩, true, true, false⟩ : Mediation) ∧ (⟨[], some ⟨.message, .untranslated, 0, 64, 0, none, ⟨0, 0, [], none, false⟩, false, false, .port 4⟩, true, true, false⟩ : Mediation).heldAct = some (⟨.message, .untranslated, 0, 64, 0, none, ⟨0, 0, [], none, false⟩, false, false, .port 4⟩ : Tlp) ∧ (⟨[], some ⟨.message, .untranslated, 0, 64, 0, none, ⟨0, 0, [], none, false⟩, false, false, .port 4⟩, true, true, false⟩ : Mediation).recorded = true ∧ (⟨[], some ⟨.message, .untranslated, 0, 64, 0, none, ⟨0, 0, [], none, false⟩, false, false, .port 4⟩, true, true, false⟩ : Mediation).activateReady = true ∧ medPasses (upFab (fun g => { g with meds := ⟨[(4, some ⟨[], some ⟨.message, .untranslated, 0, 64, 0, none, ⟨0, 0, [], none, false⟩, false, false, .port 4⟩, true, true, false⟩)]⟩ }) stRel : State) (4 : Nat) = true ∧ (upFab (fun g => { g with meds := ⟨[(4, some ⟨[], some ⟨.message, .untranslated, 0, 64, 0, none, ⟨0, 0, [], none, false⟩, false, false, .port 4⟩, true, true, false⟩)]⟩ }) stRel : State).fab.planeFail = 0 ∧ (upFab (fun g => { g with meds := ⟨[(4, some ⟨[], some ⟨.message, .untranslated, 0, 64, 0, none, ⟨0, 0, [], none, false⟩, false, false, .port 4⟩, true, true, false⟩)]⟩ }) stRel : State).fab.medBuf = [] ∧ (upFab (fun g => { g with meds := ⟨[(4, some ⟨[], some ⟨.message, .untranslated, 0, 64, 0, none, ⟨0, 0, [], none, false⟩, false, false, .port 4⟩, true, true, false⟩)]⟩ }) stRel : State).fab.medWait = [] := by decide

theorem wit_MediatedUpdates_7 : medOf (upFab (fun g => { g with meds := ⟨[(4, some ⟨[], some ⟨.message, .untranslated, 0, 64, 0, none, ⟨0, 0, [], none, false⟩, false, false, .port 4⟩, true, true, false⟩)]⟩ }) (upEp 0 (fun e => { e with st := .contained }) stRel) : State) (4 : Nat) = some (⟨[], some ⟨.message, .untranslated, 0, 64, 0, none, ⟨0, 0, [], none, false⟩, false, false, .port 4⟩, true, true, false⟩ : Mediation) ∧ (⟨[], some ⟨.message, .untranslated, 0, 64, 0, none, ⟨0, 0, [], none, false⟩, false, false, .port 4⟩, true, true, false⟩ : Mediation).heldAct = some (⟨.message, .untranslated, 0, 64, 0, none, ⟨0, 0, [], none, false⟩, false, false, .port 4⟩ : Tlp) ∧ (⟨[], some ⟨.message, .untranslated, 0, 64, 0, none, ⟨0, 0, [], none, false⟩, false, false, .port 4⟩, true, true, false⟩ : Mediation).recorded = true ∧ (⟨[], some ⟨.message, .untranslated, 0, 64, 0, none, ⟨0, 0, [], none, false⟩, false, false, .port 4⟩, true, true, false⟩ : Mediation).activateReady = true ∧ medPasses (upFab (fun g => { g with meds := ⟨[(4, some ⟨[], some ⟨.message, .untranslated, 0, 64, 0, none, ⟨0, 0, [], none, false⟩, false, false, .port 4⟩, true, true, false⟩)]⟩ }) (upEp 0 (fun e => { e with st := .contained }) stRel) : State) (4 : Nat) = false := by decide

theorem wit_MediatedUpdates_8 : medOf (upFab (fun g => { g with meds := ⟨[(4, some ⟨[], some ⟨.message, .untranslated, 0, 64, 0, none, ⟨0, 0, [], none, false⟩, false, false, .port 4⟩, false, true, false⟩)]⟩ }) stRel : State) (4 : Nat) = some (⟨[], some ⟨.message, .untranslated, 0, 64, 0, none, ⟨0, 0, [], none, false⟩, false, false, .port 4⟩, false, true, false⟩ : Mediation) ∧ ((⟨[], some ⟨.message, .untranslated, 0, 64, 0, none, ⟨0, 0, [], none, false⟩, false, false, .port 4⟩, false, true, false⟩ : Mediation).heldAct = none ∨ ((⟨[], some ⟨.message, .untranslated, 0, 64, 0, none, ⟨0, 0, [], none, false⟩, false, false, .port 4⟩, false, true, false⟩ : Mediation).recorded = true ∧ (⟨[], some ⟨.message, .untranslated, 0, 64, 0, none, ⟨0, 0, [], none, false⟩, false, false, .port 4⟩, false, true, false⟩ : Mediation).activateReady = false)) := by decide

theorem wit_MediatedUpdates_9 : medOf (upFab (fun g => { g with meds := ⟨[(4, some ⟨[], some ⟨.message, .untranslated, 0, 64, 0, none, ⟨0, 0, [], none, false⟩, false, false, .port 4⟩, false, false, false⟩)]⟩ }) stRel : State) (4 : Nat) = some (⟨[], some ⟨.message, .untranslated, 0, 64, 0, none, ⟨0, 0, [], none, false⟩, false, false, .port 4⟩, false, false, false⟩ : Mediation) ∧ epAt (upFab (fun g => { g with meds := ⟨[(4, some ⟨[], some ⟨.message, .untranslated, 0, 64, 0, none, ⟨0, 0, [], none, false⟩, false, false, .port 4⟩, false, false, false⟩)]⟩ }) stRel : State) (4 : Nat) = some (0 : Nat) ∧ (⟨[], some ⟨.message, .untranslated, 0, 64, 0, none, ⟨0, 0, [], none, false⟩, false, false, .port 4⟩, false, false, false⟩ : Mediation).heldAct = some (⟨.message, .untranslated, 0, 64, 0, none, ⟨0, 0, [], none, false⟩, false, false, .port 4⟩ : Tlp) ∧ (⟨[], some ⟨.message, .untranslated, 0, 64, 0, none, ⟨0, 0, [], none, false⟩, false, false, .port 4⟩, false, false, false⟩ : Mediation).recorded = false ∧ (⟨[], some ⟨.message, .untranslated, 0, 64, 0, none, ⟨0, 0, [], none, false⟩, false, false, .port 4⟩, false, false, false⟩ : Mediation).comps.getLast?.any (fun c => !c.absent) = false := by decide

theorem wit_MediatedUpdates_10 : medOf (upFab (fun g => { g with meds := ⟨[(4, some ⟨[], none, false, true, true⟩)]⟩ }) stRel : State) (4 : Nat) = some (⟨[], none, false, true, true⟩ : Mediation) ∧ epAt (upFab (fun g => { g with meds := ⟨[(4, some ⟨[], none, false, true, true⟩)]⟩ }) stRel : State) (4 : Nat) = some (0 : Nat) ∧ (⟨[], none, false, true, true⟩ : Mediation).activated = true ∧ medPasses (upFab (fun g => { g with meds := ⟨[(4, some ⟨[], none, false, true, true⟩)]⟩ }) stRel : State) (4 : Nat) = true ∧ (epOf (upFab (fun g => { g with meds := ⟨[(4, some ⟨[], none, false, true, true⟩)]⟩ }) stRel : State) (0 : Nat)).st = .opened := by decide

theorem wit_EvidenceCommands_1 : (stRel : State).mor.vsec = true ∧ listedCode (0xb : Nat) = true ∧ (1 : Nat) ≤ 8 ∧ bodyFits (0xb : Nat) (zeros 4 : Bytes).length = true ∧ (1 < (1 : Nat) ∨ coreRuns (stRel : State) = true) ∧ paUp (stRel : State) = true ∧ limitedCode (0xb : Nat) = false ∧ evFree (stRel : State).ev (0xb : Nat) = true := by decide

theorem wit_EvidenceCommands_2 : (stRel : State).mor.vsec = true ∧ listedCode (0x201 : Nat) = true ∧ (3 : Nat) ≤ 8 ∧ bodyFits (0x201 : Nat) (zeros 56 : Bytes).length = true ∧ (1 < (3 : Nat) ∨ coreRuns (stRel : State) = true) := by decide

theorem wit_EvidenceCommands_3 : paOk (upEv (fun e => { e with inflight := [⟨0x0002, 1, [], .none, 0⟩] }) stRel : State) = true ∧ (upEv (fun e => { e with inflight := [⟨0x0002, 1, [], .none, 0⟩] }) stRel : State).ev.inflight = (⟨0x0002, 1, [], .none, 0⟩ : Waiting) :: ([] : List Waiting) := by decide

theorem wit_EvidenceCommands_4 : (if (false : Bool) then ({ upEv (fun e => { e with begun := true, openEv := some 3, fix := ⟨[(3, .chainBlock ⟨false, 0, 1, none, 0, 0, [], [], 0, []⟩)]⟩ }) stRel with aot := 60000000 } : State).ev.openRing else ({ upEv (fun e => { e with begun := true, openEv := some 3, fix := ⟨[(3, .chainBlock ⟨false, 0, 1, none, 0, 0, [], [], 0, []⟩)]⟩ }) stRel with aot := 60000000 } : State).ev.openEv).bind (blockAt ({ upEv (fun e => { e with begun := true, openEv := some 3, fix := ⟨[(3, .chainBlock ⟨false, 0, 1, none, 0, 0, [], [], 0, []⟩)]⟩ }) stRel with aot := 60000000 } : State).ev) = some (⟨false, 0, 1, none, 0, 0, [], [], 0, []⟩ : Block) ∧ paOk ({ upEv (fun e => { e with begun := true, openEv := some 3, fix := ⟨[(3, .chainBlock ⟨false, 0, 1, none, 0, 0, [], [], 0, []⟩)]⟩ }) stRel with aot := 60000000 } : State) = true ∧ (⟨false, 0, 1, none, 0, 0, [], [], 0, []⟩ : Block).openAt + 60000000 ≤ ({ upEv (fun e => { e with begun := true, openEv := some 3, fix := ⟨[(3, .chainBlock ⟨false, 0, 1, none, 0, 0, [], [], 0, []⟩)]⟩ }) stRel with aot := 60000000 } : State).aot := by decide

theorem wit_EvidenceCommands_5 : paOk (upEv (fun e => { e with lastIndex := 4, chainQ := [3], fix := ⟨[(3, .chainBlock ⟨false, 0, 1, none, 0, 0, [], [], 0, []⟩)]⟩ }) stRel : State) = true ∧ dgaHas (upEv (fun e => { e with lastIndex := 4, chainQ := [3], fix := ⟨[(3, .chainBlock ⟨false, 0, 1, none, 0, 0, [], [], 0, []⟩)]⟩ }) stRel : State) .chain = true ∧ (upEv (fun e => { e with lastIndex := 4, chainQ := [3], fix := ⟨[(3, .chainBlock ⟨false, 0, 1, none, 0, 0, [], [], 0, []⟩)]⟩ }) stRel : State).ev.chainQ = (3 : Nat) :: ([] : List Nat) ∧ blockAt (upEv (fun e => { e with lastIndex := 4, chainQ := [3], fix := ⟨[(3, .chainBlock ⟨false, 0, 1, none, 0, 0, [], [], 0, []⟩)]⟩ }) stRel : State).ev (3 : Nat) = some (⟨false, 0, 1, none, 0, 0, [], [], 0, []⟩ : Block) ∧ ((upEv (fun e => { e with lastIndex := 4, chainQ := [3], fix := ⟨[(3, .chainBlock ⟨false, 0, 1, none, 0, 0, [], [], 0, []⟩)]⟩ }) stRel : State).ev.lastIndex + 1) % 2 ^ 64 ≠ 0 := by decide

/-- Both Boot Record blocks are chained and the alias key is derived. -/
def stBr : State :=
  { upEv (fun e => { e with brPhase := .closing, brHead := some (1, 2, [3]) }) stRel with run := ⟨some tBundle, 0, some tPol, 0, true, tabEmpty, tabEmpty, none, []⟩, kld := { stRel.kld with svn := some 3, fwid := ⟨(List.range 12).map (fun i => (i, some 1))⟩ } }

theorem wit_EvidenceCommands_6 : (stBr : State).run.policy = some (tPol : PolicyImage) ∧ (stBr : State).run.bundle = some (tBundle : Bundle) ∧ (stBr : State).ev.brPhase = .closing ∧ (stBr : State).ev.brHead.isSome = true ∧ fwRuns (stBr : State) = true ∧ keysHeld (stBr : State) = false ∧ aliasOk (stBr : State) = true ∧ ((stBr : State).sig0.inService || (stBr : State).sig1.inService) = true := by decide

theorem wit_EvidenceCommands_7 : paOk (upEv (fun e => { e with waiting := [⟨0x0002, 1, [], .none, 0⟩] }) stRel : State) = true ∧ (upEv (fun e => { e with waiting := [⟨0x0002, 1, [], .none, 0⟩] }) stRel : State).ev.waiting.any (fun w => evAdmits (upEv (fun e => { e with waiting := [⟨0x0002, 1, [], .none, 0⟩] }) stRel : State).ev w.code) = true := by decide

theorem wit_VaultCommands_1 : archiving (upVault (fun v => { v with state := .inService }) (upEv (fun e => { e with lastIndex := 0, fix := ⟨[(3, .chainBlock ⟨false, 1, 1, some 0, 0, 0, [], [], 0, [1]⟩)]⟩ }) stRel) : State) = true ∧ (slotOfIndex (upVault (fun v => { v with state := .inService }) (upEv (fun e => { e with lastIndex := 0, fix := ⟨[(3, .chainBlock ⟨false, 1, 1, some 0, 0, 0, [], [], 0, [1]⟩)]⟩ }) stRel) : State).ev (nextArch (upVault (fun v => { v with state := .inService }) (upEv (fun e => { e with lastIndex := 0, fix := ⟨[(3, .chainBlock ⟨false, 1, 1, some 0, 0, 0, [], [], 0, [1]⟩)]⟩ }) stRel) : State))).isSome = true := by decide

theorem wit_VaultCommands_2 : archiving (upVault (fun v => { v with state := .inService }) (upEv (fun e => { e with lastIndex := 0, fix := ⟨[(3, .chainBlock ⟨false, 1, 1, some 0, 0, 0, [], [], 0, [1]⟩)]⟩ }) stRel) : State) = true ∧ (slotOfIndex (upVault (fun v => { v with state := .inService }) (upEv (fun e => { e with lastIndex := 0, fix := ⟨[(3, .chainBlock ⟨false, 1, 1, some 0, 0, 0, [], [], 0, [1]⟩)]⟩ }) stRel) : State).ev (nextArch (upVault (fun v => { v with state := .inService }) (upEv (fun e => { e with lastIndex := 0, fix := ⟨[(3, .chainBlock ⟨false, 1, 1, some 0, 0, 0, [], [], 0, [1]⟩)]⟩ }) stRel) : State))).isSome = true ∧ (upVault (fun v => { v with state := .inService }) (upEv (fun e => { e with lastIndex := 0, fix := ⟨[(3, .chainBlock ⟨false, 1, 1, some 0, 0, 0, [], [], 0, [1]⟩)]⟩ }) stRel) : State).ev.isSealed = false ∧ (upVault (fun v => { v with state := .inService }) (upEv (fun e => { e with lastIndex := 0, fix := ⟨[(3, .chainBlock ⟨false, 1, 1, some 0, 0, 0, [], [], 0, [1]⟩)]⟩ }) stRel) : State).vault.blockNo + 16 < 2 ^ 64 - 2 ^ 20 := by decide

theorem wit_VaultCommands_3 : (⟨8, 16, 1, 1, 0, stRel.otp.countLatched⟩ : VRun).lba ≤ (9 : Nat) ∧ (9 : Nat) < (⟨8, 16, 1, 1, 0, stRel.otp.countLatched⟩ : VRun).lba + (⟨8, 16, 1, 1, 0, stRel.otp.countLatched⟩ : VRun).count ∧ (⟨8, 16, 1, 1, 0, stRel.otp.countLatched⟩ : VRun).kind < 256 ∧ (⟨8, 16, 1, 1, 0, stRel.otp.countLatched⟩ : VRun).lc = (stRel : State).otp.countLatched ∧ (stRel : State).otp.session = none ∧ (∀ y ∈ ([⟨8, [1], [2]⟩] : List DriveBlock), y.lba ≠ (9 : Nat)) := by decide

theorem wit_VaultCommands_4 : ([⟨9, [], []⟩] : List DriveBlock).find? (fun x => decide (x.lba = (9 : Nat))) = some (⟨9, [], []⟩ : DriveBlock) ∧ ((fit 64 (⟨9, [], []⟩ : DriveBlock).info).drop 16).take 8 ≠ le 8 (9 : Nat) := by decide

theorem wit_VaultCommands_5 : (2 : Nat) < 256 := by decide

theorem wit_VaultCommands_6 : (upVault (fun v => { v with state := .inService, nvme := [⟨.archive 0, 1, false, 1, none⟩] }) stRel : State).vault.nvme = (⟨.archive 0, 1, false, 1, none⟩ : NvmeCmd) :: ([] : List NvmeCmd) ∧ nvmeReaches (upVault (fun v => { v with state := .inService, nvme := [⟨.archive 0, 1, false, 1, none⟩] }) stRel : State) = true ∧ (⟨.archive 0, 1, false, 1, none⟩ : NvmeCmd).left ≤ 1 := by decide

theorem wit_VaultCommands_7 : (upVault (fun v => { v with state := .inService, nvme := [⟨.archive 0, 1, false, 16, none⟩] }) stRel : State).vault.nvme = (⟨.archive 0, 1, false, 16, none⟩ : NvmeCmd) :: ([] : List NvmeCmd) ∧ nvmeReaches (upVault (fun v => { v with state := .inService, nvme := [⟨.archive 0, 1, false, 16, none⟩] }) stRel : State) = true ∧ 1 < (⟨.archive 0, 1, false, 16, none⟩ : NvmeCmd).left := by decide

theorem wit_VaultCommands_8 : (upVault (fun v => { v with state := .inService, nvme := [⟨.archive 0, 1, false, 1, none⟩] }) stRel : State).vault.nvme = (⟨.archive 0, 1, false, 1, none⟩ : NvmeCmd) :: ([] : List NvmeCmd) ∧ nvmeRuns (upVault (fun v => { v with state := .inService, nvme := [⟨.archive 0, 1, false, 1, none⟩] }) stRel : State) = true ∧ (⟨.archive 0, 1, false, 1, none⟩ : NvmeCmd).issues < 3 := by decide

theorem wit_VaultCommands_9 : (upVault (fun v => { v with state := .inService, nvme := [⟨.archive 0, 3, false, 1, none⟩] }) stRel : State).vault.nvme = (⟨.archive 0, 3, false, 1, none⟩ : NvmeCmd) :: ([] : List NvmeCmd) ∧ nvmeRuns (upVault (fun v => { v with state := .inService, nvme := [⟨.archive 0, 3, false, 1, none⟩] }) stRel : State) = true ∧ 3 ≤ (⟨.archive 0, 3, false, 1, none⟩ : NvmeCmd).issues ∧ (⟨.archive 0, 3, false, 1, none⟩ : NvmeCmd).afterReset = false := by decide

theorem wit_VaultCommands_10 : (upVault (fun v => { v with state := .inService, nvme := [⟨.archive 0, 3, true, 1, none⟩] }) stRel : State).vault.nvme = (⟨.archive 0, 3, true, 1, none⟩ : NvmeCmd) :: ([] : List NvmeCmd) ∧ nvmeRuns (upVault (fun v => { v with state := .inService, nvme := [⟨.archive 0, 3, true, 1, none⟩] }) stRel : State) = true ∧ 3 ≤ (⟨.archive 0, 3, true, 1, none⟩ : NvmeCmd).issues ∧ (⟨.archive 0, 3, true, 1, none⟩ : NvmeCmd).afterReset = true := by decide

theorem wit_VaultCommands_11 : (upVault (fun v => { v with state := .inService, resetting := true, nvme := [⟨.archive 0, 3, false, 1, none⟩] }) stRel : State).vault.nvme = (⟨.archive 0, 3, false, 1, none⟩ : NvmeCmd) :: ([] : List NvmeCmd) ∧ (upVault (fun v => { v with state := .inService, resetting := true, nvme := [⟨.archive 0, 3, false, 1, none⟩] }) stRel : State).vault.resetting = true := by decide

theorem wit_VaultCommands_13 : (upVault (fun v => { v with state := .inService }) { stRel with nrx := { stRel.nrx with ledgerRuns := [⟨0, 4, 0, 1⟩] } } : State).vault.state = .inService ∧ (upVault (fun v => { v with state := .inService }) { stRel with nrx := { stRel.nrx with ledgerRuns := [⟨0, 4, 0, 1⟩] } } : State).nrx.ledgerRuns ≠ [] ∧ paOk (upVault (fun v => { v with state := .inService }) { stRel with nrx := { stRel.nrx with ledgerRuns := [⟨0, 4, 0, 1⟩] } } : State) = true ∧ fwRuns (upVault (fun v => { v with state := .inService }) { stRel with nrx := { stRel.nrx with ledgerRuns := [⟨0, 4, 0, 1⟩] } } : State) = true ∧ (upVault (fun v => { v with state := .inService }) { stRel with nrx := { stRel.nrx with ledgerRuns := [⟨0, 4, 0, 1⟩] } } : State).vault.ckpt = none ∧ lakeUp (upVault (fun v => { v with state := .inService }) { stRel with nrx := { stRel.nrx with ledgerRuns := [⟨0, 4, 0, 1⟩] } } : State) = true := by decide

theorem wit_VaultCommands_14 : (upVault (fun v => { v with state := .inService, ckpt := some ⟨1, 4, 0, ⟨tabEmpty, tabEmpty⟩, zeros 48⟩ }) stRel : State).vault.ckpt = some (⟨1, 4, 0, ⟨tabEmpty, tabEmpty⟩, zeros 48⟩ : Ckpt) ∧ (upVault (fun v => { v with state := .inService, ckpt := some ⟨1, 4, 0, ⟨tabEmpty, tabEmpty⟩, zeros 48⟩ }) stRel : State).vault.nvme.any (fun x => decide (x.use = .checkpoint)) = false := by decide

theorem wit_JournalOverManagement_1 : mgtUp ({ stRel with mgtB := { mgt0 with mode := .smbus }, mor := { stRel.mor with floorCause := 2 } } : State) (true : Bool) = true ∧ hdrOk (⟨1, 0x85, 0, 0, none, 0⟩ : VendorHdr) = true ∧ floorService ({ stRel with mgtB := { mgt0 with mode := .smbus }, mor := { stRel.mor with floorCause := 2 } } : State) = true ∧ (((.journalState true ⟨1, 0x85, 0, 0, none, 0⟩ : Instr) = .journalState (true : Bool) (⟨1, 0x85, 0, 0, none, 0⟩ : VendorHdr) ∧ (0x20 : Nat) = 0x20) ∨ ((.journalState true ⟨1, 0x85, 0, 0, none, 0⟩ : Instr) = .readBlock (true : Bool) (⟨1, 0x85, 0, 0, none, 0⟩ : VendorHdr) (0 : Nat) (0 : Nat) (0 : Nat) ∧ (0x20 : Nat) = 0x21) ∨ ((.journalState true ⟨1, 0x85, 0, 0, none, 0⟩ : Instr) = .closeBlock (true : Bool) (⟨1, 0x85, 0, 0, none, 0⟩ : VendorHdr) ∧ (0x20 : Nat) = 0x22) ∨ ((.journalState true ⟨1, 0x85, 0, 0, none, 0⟩ : Instr) = .signedHead (true : Bool) (⟨1, 0x85, 0, 0, none, 0⟩ : VendorHdr) ([] : Bytes) ∧ (0x20 : Nat) = 0x23) ∨ ((.journalState true ⟨1, 0x85, 0, 0, none, 0⟩ : Instr) = .readBootRecord (true : Bool) (⟨1, 0x85, 0, 0, none, 0⟩ : VendorHdr) (0 : Nat) (0 : Nat) (0 : Nat) ∧ (0x20 : Nat) = 0x24) ∨ ((.journalState true ⟨1, 0x85, 0, 0, none, 0⟩ : Instr) = .readAliasCert (true : Bool) (⟨1, 0x85, 0, 0, none, 0⟩ : VendorHdr) (0 : Nat) (0 : Nat) (0 : Nat) ∧ (0x20 : Nat) = 0x25)) := by decide

theorem wit_JournalOverManagement_2 : mgtUp ({ stRel with mgtB := { mgt0 with mode := .smbus } } : State) (true : Bool) = true ∧ hdrOk (⟨2, 0x85, 0, 0, none, 0⟩ : VendorHdr) = false ∧ (((.journalState true ⟨2, 0x85, 0, 0, none, 0⟩ : Instr) = .journalState (true : Bool) (⟨2, 0x85, 0, 0, none, 0⟩ : VendorHdr) ∧ (0x20 : Nat) = 0x20) ∨ ((.journalState true ⟨2, 0x85, 0, 0, none, 0⟩ : Instr) = .readBlock (true : Bool) (⟨2, 0x85, 0, 0, none, 0⟩ : VendorHdr) (0 : Nat) (0 : Nat) (0 : Nat) ∧ (0x20 : Nat) = 0x21) ∨ ((.journalState true ⟨2, 0x85, 0, 0, none, 0⟩ : Instr) = .closeBlock (true : Bool) (⟨2, 0x85, 0, 0, none, 0⟩ : VendorHdr) ∧ (0x20 : Nat) = 0x22) ∨ ((.journalState true ⟨2, 0x85, 0, 0, none, 0⟩ : Instr) = .signedHead (true : Bool) (⟨2, 0x85, 0, 0, none, 0⟩ : VendorHdr) ([] : Bytes) ∧ (0x20 : Nat) = 0x23) ∨ ((.journalState true ⟨2, 0x85, 0, 0, none, 0⟩ : Instr) = .readBootRecord (true : Bool) (⟨2, 0x85, 0, 0, none, 0⟩ : VendorHdr) (0 : Nat) (0 : Nat) (0 : Nat) ∧ (0x20 : Nat) = 0x24) ∨ ((.journalState true ⟨2, 0x85, 0, 0, none, 0⟩ : Instr) = .readAliasCert (true : Bool) (⟨2, 0x85, 0, 0, none, 0⟩ : VendorHdr) (0 : Nat) (0 : Nat) (0 : Nat) ∧ (0x20 : Nat) = 0x25)) := by decide

theorem wit_JournalOverManagement_3 : mgtUp ({ stRel with mgtB := { mgt0 with mode := .smbus } } : State) (true : Bool) = true ∧ hdrOk (⟨1, 0x85, 0, 0, none, 0⟩ : VendorHdr) = true ∧ floorService ({ stRel with mgtB := { mgt0 with mode := .smbus } } : State) = false := by decide

theorem wit_JournalOverManagement_4 : mgtUp ({ stRel with mgtB := { mgt0 with mode := .smbus } } : State) (true : Bool) = true ∧ hdrOk (⟨1, 0x85, 0, 0, none, 0⟩ : VendorHdr) = true ∧ floorService ({ stRel with mgtB := { mgt0 with mode := .smbus } } : State) = false ∧ ((0 : Nat) % 4096 ≠ 0 ∨ (0 : Nat) = 0 ∨ 4096 < (0 : Nat) ∨ 65536 < (0 : Nat) + (0 : Nat)) := by decide

theorem wit_JournalOverManagement_5 : mgtUp ({ stRel with mgtB := { mgt0 with mode := .smbus } } : State) (true : Bool) = true ∧ hdrOk (⟨1, 0x85, 0, 0, none, 0⟩ : VendorHdr) = true ∧ floorService ({ stRel with mgtB := { mgt0 with mode := .smbus } } : State) = false ∧ (4096 : Nat) % 4096 = 0 ∧ 0 < (64 : Nat) ∧ (64 : Nat) ≤ 4096 ∧ (4096 : Nat) + (64 : Nat) ≤ 65536 ∧ slotOfIndex ({ stRel with mgtB := { mgt0 with mode := .smbus } } : State).ev (0 : Nat) = none ∧ ({ stRel with mgtB := { mgt0 with mode := .smbus } } : State).vault.state = .out := by decide

theorem wit_JournalOverManagement_6 : mgtUp (upEv (fun e => { e with lastIndex := 0, fix := ⟨[(3, .chainBlock ⟨false, 1, 1, some 0, 0, 0, [], [], 0, [1]⟩)]⟩ }) ({ stRel with mgtB := { mgt0 with mode := .smbus } }) : State) (true : Bool) = true ∧ hdrOk (⟨1, 0x85, 0, 0, none, 0⟩ : VendorHdr) = true ∧ floorService (upEv (fun e => { e with lastIndex := 0, fix := ⟨[(3, .chainBlock ⟨false, 1, 1, some 0, 0, 0, [], [], 0, [1]⟩)]⟩ }) ({ stRel with mgtB := { mgt0 with mode := .smbus } }) : State) = false ∧ (4096 : Nat) % 4096 = 0 ∧ 0 < (64 : Nat) ∧ (64 : Nat) ≤ 4096 ∧ (4096 : Nat) + (64 : Nat) ≤ 65536 ∧ slotOfIndex (upEv (fun e => { e with lastIndex := 0, fix := ⟨[(3, .chainBlock ⟨false, 1, 1, some 0, 0, 0, [], [], 0, [1]⟩)]⟩ }) ({ stRel with mgtB := { mgt0 with mode := .smbus } }) : State).ev (0 : Nat) = some ((3 : Nat), (⟨false, 1, 1, some 0, 0, 0, [], [], 0, [1]⟩ : Block)) := by decide

theorem wit_JournalOverManagement_7 : mgtUp (upVault (fun v => { v with state := .inService }) ({ stRel with mgtB := { mgt0 with mode := .smbus } }) : State) (true : Bool) = true ∧ hdrOk (⟨1, 0x85, 0, 0, none, 0⟩ : VendorHdr) = true ∧ floorService (upVault (fun v => { v with state := .inService }) ({ stRel with mgtB := { mgt0 with mode := .smbus } }) : State) = false ∧ (4096 : Nat) % 4096 = 0 ∧ 0 < (64 : Nat) ∧ (64 : Nat) ≤ 4096 ∧ (4096 : Nat) + (64 : Nat) ≤ 65536 ∧ slotOfIndex (upVault (fun v => { v with state := .inService }) ({ stRel with mgtB := { mgt0 with mode := .smbus } }) : State).ev (0 : Nat) = none ∧ (upVault (fun v => { v with state := .inService }) ({ stRel with mgtB := { mgt0 with mode := .smbus } }) : State).vault.state ≠ .out := by decide

theorem wit_JournalOverManagement_9 : (0x21 : Nat) < 256 ∧ (2 : Nat) < 256 ∧ (3 : Nat) < 256 := by decide

theorem wit_JournalOverManagement_10 : mgtUp ({ ({ stRel with mgtB := { mgt0 with mode := .smbus } }) with pa := ⟨0, false⟩ } : State) (true : Bool) = true ∧ hdrOk (⟨1, 0x85, 0, 0, none, 0⟩ : VendorHdr) = true ∧ floorService ({ ({ stRel with mgtB := { mgt0 with mode := .smbus } }) with pa := ⟨0, false⟩ } : State) = false ∧ (paOk ({ ({ stRel with mgtB := { mgt0 with mode := .smbus } }) with pa := ⟨0, false⟩ } : State) = false ∨ dgaIn ({ ({ stRel with mgtB := { mgt0 with mode := .smbus } }) with pa := ⟨0, false⟩ } : State) = false) := by decide

theorem wit_JournalOverManagement_11 : mgtUp (upEv (fun e => { e with lastIndex := 3 }) ({ stRel with mgtB := { mgt0 with mode := .smbus } }) : State) (true : Bool) = true ∧ hdrOk (⟨1, 0x85, 0, 0, none, 0⟩ : VendorHdr) = true ∧ floorService (upEv (fun e => { e with lastIndex := 3 }) ({ stRel with mgtB := { mgt0 with mode := .smbus } }) : State) = false ∧ (upEv (fun e => { e with lastIndex := 3 }) ({ stRel with mgtB := { mgt0 with mode := .smbus } }) : State).otp.session = none ∧ (upEv (fun e => { e with lastIndex := 3 }) ({ stRel with mgtB := { mgt0 with mode := .smbus } }) : State).ev.lastIndex ≠ 2 ^ 64 - 1 ∧ (sigIn (upEv (fun e => { e with lastIndex := 3 }) ({ stRel with mgtB := { mgt0 with mode := .smbus } }) : State) = false ∨ aliasOk (upEv (fun e => { e with lastIndex := 3 }) ({ stRel with mgtB := { mgt0 with mode := .smbus } }) : State) = false ∨ keysHeld (upEv (fun e => { e with lastIndex := 3 }) ({ stRel with mgtB := { mgt0 with mode := .smbus } }) : State) = true) := by decide

theorem wit_JournalOverManagement_12 : (mgtOf ({ stRel with mgtB := { mgt0 with asks := [(⟨1, 0x85, 0, 0, none, 0⟩, .aliasCert 1 0 64)] } } : State) (true : Bool)).asks = [((⟨1, 0x85, 0, 0, none, 0⟩ : VendorHdr), (.aliasCert 1 0 64 : MgtAsk))] ∧ fwRuns ({ stRel with mgtB := { mgt0 with asks := [(⟨1, 0x85, 0, 0, none, 0⟩, .aliasCert 1 0 64)] } } : State) = true ∧ mgtTry (.aliasCert 1 0 64 : MgtAsk) ({ stRel with mgtB := { mgt0 with asks := [(⟨1, 0x85, 0, 0, none, 0⟩, .aliasCert 1 0 64)] } } : State) = some ((3 : Nat), ([] : Bytes), ({ stRel with mgtB := { mgt0 with asks := [(⟨1, 0x85, 0, 0, none, 0⟩, .aliasCert 1 0 64)] } } : State)) := by decide +kernel

theorem wit_JournalOverManagement_14 : mgtUp ({ stRel with mgtB := { mgt0 with mode := .smbus } } : State) (true : Bool) = true ∧ hdrOk (⟨1, 0x85, 0, 0, none, 0⟩ : VendorHdr) = true ∧ floorService ({ stRel with mgtB := { mgt0 with mode := .smbus } } : State) = false ∧ paOk ({ stRel with mgtB := { mgt0 with mode := .smbus } } : State) = true ∧ dgaIn ({ stRel with mgtB := { mgt0 with mode := .smbus } } : State) = true := by decide

theorem wit_JournalOverManagement_15 : mgtUp (upEv (fun e => { e with lastIndex := 2 ^ 64 - 1 }) ({ stRel with mgtB := { mgt0 with mode := .smbus } }) : State) (true : Bool) = true ∧ hdrOk (⟨1, 0x85, 0, 0, none, 0⟩ : VendorHdr) = true ∧ floorService (upEv (fun e => { e with lastIndex := 2 ^ 64 - 1 }) ({ stRel with mgtB := { mgt0 with mode := .smbus } }) : State) = false ∧ ((upEv (fun e => { e with lastIndex := 2 ^ 64 - 1 }) ({ stRel with mgtB := { mgt0 with mode := .smbus } }) : State).otp.session ≠ none ∨ (upEv (fun e => { e with lastIndex := 2 ^ 64 - 1 }) ({ stRel with mgtB := { mgt0 with mode := .smbus } }) : State).ev.lastIndex = 2 ^ 64 - 1) := by decide


theorem wit_JournalOverManagement_16 : mgtUp (upEv (fun e => { e with lastIndex := 3 }) { stBr with mgtB := { mgt0 with mode := .smbus } } : State) (true : Bool) = true ∧ hdrOk (⟨1, 0x85, 0, 0, none, 0⟩ : VendorHdr) = true ∧ floorService (upEv (fun e => { e with lastIndex := 3 }) { stBr with mgtB := { mgt0 with mode := .smbus } } : State) = false ∧ keysHeld (upEv (fun e => { e with lastIndex := 3 }) { stBr with mgtB := { mgt0 with mode := .smbus } } : State) = false ∧ (upEv (fun e => { e with lastIndex := 3 }) { stBr with mgtB := { mgt0 with mode := .smbus } } : State).ev.lastIndex ≠ 2 ^ 64 - 1 ∧ sigIn (upEv (fun e => { e with lastIndex := 3 }) { stBr with mgtB := { mgt0 with mode := .smbus } } : State) = true ∧ aliasOk (upEv (fun e => { e with lastIndex := 3 }) { stBr with mgtB := { mgt0 with mode := .smbus } } : State) = true := by decide

theorem wit_JournalOverManagement_17 : mgtUp (upEv (fun e => { e with brPhase := .signed }) ({ stRel with mgtB := { mgt0 with mode := .smbus } }) : State) (true : Bool) = true ∧ hdrOk (⟨1, 0x85, 0, 0, none, 0⟩ : VendorHdr) = true ∧ floorService (upEv (fun e => { e with brPhase := .signed }) ({ stRel with mgtB := { mgt0 with mode := .smbus } }) : State) = false ∧ 0 < (64 : Nat) ∧ (64 : Nat) ≤ 4096 ∧ (0 : Nat) + (64 : Nat) ≤ 32768 ∧ ((0 : Nat) = 0 ∨ (0 : Nat) = (upEv (fun e => { e with brPhase := .signed }) ({ stRel with mgtB := { mgt0 with mode := .smbus } }) : State).ev.epoch) ∧ (upEv (fun e => { e with brPhase := .signed }) ({ stRel with mgtB := { mgt0 with mode := .smbus } }) : State).ev.brPhase = .signed := by decide

theorem wit_JournalOverManagement_18 : mgtUp ({ stRel with mgtB := { mgt0 with mode := .smbus } } : State) (true : Bool) = true ∧ hdrOk (⟨1, 0x85, 0, 0, none, 0⟩ : VendorHdr) = true ∧ floorService ({ stRel with mgtB := { mgt0 with mode := .smbus } } : State) = false ∧ 0 < (64 : Nat) ∧ (64 : Nat) ≤ 4096 ∧ (0 : Nat) + (64 : Nat) ≤ 32768 ∧ ((0 : Nat) = 0 ∨ (0 : Nat) = ({ stRel with mgtB := { mgt0 with mode := .smbus } } : State).ev.epoch) ∧ ({ stRel with mgtB := { mgt0 with mode := .smbus } } : State).ev.brPhase ≠ .signed := by decide

theorem wit_JournalOverManagement_19 : mgtUp ({ stRel with mgtB := { mgt0 with mode := .smbus }, kld := { stRel.kld with certs := some ([], []) } } : State) (true : Bool) = true ∧ hdrOk (⟨1, 0x85, 0, 0, none, 0⟩ : VendorHdr) = true ∧ floorService ({ stRel with mgtB := { mgt0 with mode := .smbus }, kld := { stRel.kld with certs := some ([], []) } } : State) = false ∧ (⟨1, 0x85, 0, 0, none, 0⟩ : VendorHdr).pad = 0 ∧ 0 < (64 : Nat) ∧ (64 : Nat) ≤ 4096 ∧ ({ stRel with mgtB := { mgt0 with mode := .smbus }, kld := { stRel.kld with certs := some ([], []) } } : State).lake.failover = false ∧ lakeIn ({ stRel with mgtB := { mgt0 with mode := .smbus }, kld := { stRel.kld with certs := some ([], []) } } : State) = true ∧ ({ stRel with mgtB := { mgt0 with mode := .smbus }, kld := { stRel.kld with certs := some ([], []) } } : State).kld.certs = some (([], []) : Bytes × Bytes) := by decide

theorem wit_JournalOverManagement_20 : mgtUp ({ stRel with mgtB := { mgt0 with mode := .smbus } } : State) (true : Bool) = true ∧ hdrOk (⟨1, 0x85, 0, 0, none, 1⟩ : VendorHdr) = true ∧ floorService ({ stRel with mgtB := { mgt0 with mode := .smbus } } : State) = false ∧ (⟨1, 0x85, 0, 0, none, 1⟩ : VendorHdr).pad ≠ 0 := by decide

theorem wit_PortEvents_1 : mgtUp ({ stRel with mgtB := { mgt0 with mode := .smbus } } : State) (true : Bool) = true := by decide

theorem wit_PortEvents_2 : busUp (stRel : State) = true ∧ (mgtOf (stRel : State) (false : Bool)).mode = .i3c := by decide

theorem wit_PortEvents_3 : busUp (stRel : State) = true ∧ (mgtOf (stRel : State) (false : Bool)).mode = .i3c ∧ (0x4c : BitVec 7).toNat = strapAddr (stRel : State) (false : Bool) := by decide

theorem wit_PortEvents_4 : (9 : BitVec 7).toNat ≠ strapAddr (stRel : State) (false : Bool) := by decide

theorem wit_PortEvents_5 : (mgtOf ({ stRel with mgtB := { mgt0 with mode := .smbus } } : State) (true : Bool)).mode = .smbus := by decide

theorem wit_PortEvents_6 : (upSc (fun c => { c with holdOnly := true }) stRel : State).sc.holdOnly = true := by decide

theorem wit_PortEvents_7 : (mgtOf ({ stRel with mgtA := { mgt0 with ibi := some 1 } } : State) (false : Bool)).ibi = some (1 : Nat) ∧ fwRuns ({ stRel with mgtA := { mgt0 with ibi := some 1 } } : State) = true ∧ (true : Bool) = true := by decide

theorem wit_PortEvents_8 : (mgtOf ({ stRel with mgtA := { mgt0 with ibi := some 8 } } : State) (false : Bool)).ibi = some (8 : Nat) ∧ fwRuns ({ stRel with mgtA := { mgt0 with ibi := some 8 } } : State) = true ∧ (8 : Nat) ≤ 8 := by decide

theorem wit_PortEvents_9 : (mgtOf ({ stRel with mgtA := { mgt0 with ibi := some 9 } } : State) (false : Bool)).ibi = some (9 : Nat) ∧ fwRuns ({ stRel with mgtA := { mgt0 with ibi := some 9 } } : State) = true ∧ 8 < (9 : Nat) := by decide

theorem wit_PortEvents_10 : busUp ({ stRel with mgtB := { mgt0 with mode := .smbus, alertLow := true } } : State) = true ∧ (mgtOf ({ stRel with mgtB := { mgt0 with mode := .smbus, alertLow := true } } : State) (true : Bool)).mode = .smbus ∧ (mgtOf ({ stRel with mgtB := { mgt0 with mode := .smbus, alertLow := true } } : State) (true : Bool)).alertLow = true := by decide

theorem wit_PortEvents_11 : busUp ({ stRel with mgtB := { mgt0 with mode := .smbus } } : State) = true ∧ (mgtOf ({ stRel with mgtB := { mgt0 with mode := .smbus } } : State) (true : Bool)).mode = .smbus := by decide

theorem wit_PortEvents_12 : (stRel : State).sc.mainGood = true := by decide

theorem wit_PortEvents_13 : fwRuns ({ stRel with run := ⟨none, 0, some { tPol with cbus := [⟨0x20, 0, 1, 0, 0⟩] }, 0, true, tabEmpty, tabEmpty, none, []⟩, cbus := ⟨[(0, ⟨true, 0, 0x40⟩)]⟩ } : State) = true ∧ (cbusOf ({ stRel with run := ⟨none, 0, some { tPol with cbus := [⟨0x20, 0, 1, 0, 0⟩] }, 0, true, tabEmpty, tabEmpty, none, []⟩, cbus := ⟨[(0, ⟨true, 0, 0x40⟩)]⟩ } : State) (0 : Nat)).present = true ∧ (cbusOf ({ stRel with run := ⟨none, 0, some { tPol with cbus := [⟨0x20, 0, 1, 0, 0⟩] }, 0, true, tabEmpty, tabEmpty, none, []⟩, cbus := ⟨[(0, ⟨true, 0, 0x40⟩)]⟩ } : State) (0 : Nat)).tries = 0 := by decide

theorem wit_PortEvents_14 : cbusRec ({ stRel with run := ⟨none, 0, some { tPol with cbus := [⟨0x20, 0, 1, 0, 0⟩] }, 0, true, tabEmpty, tabEmpty, none, []⟩, cbus := ⟨[(0, ⟨true, 3, 0x40⟩)]⟩ } : State) (0 : Nat) = some (⟨0x20, 0, 1, 0, 0⟩ : CbusRec) ∧ fwRuns ({ stRel with run := ⟨none, 0, some { tPol with cbus := [⟨0x20, 0, 1, 0, 0⟩] }, 0, true, tabEmpty, tabEmpty, none, []⟩, cbus := ⟨[(0, ⟨true, 3, 0x40⟩)]⟩ } : State) = true ∧ (cbusOf ({ stRel with run := ⟨none, 0, some { tPol with cbus := [⟨0x20, 0, 1, 0, 0⟩] }, 0, true, tabEmpty, tabEmpty, none, []⟩, cbus := ⟨[(0, ⟨true, 3, 0x40⟩)]⟩ } : State) (0 : Nat)).present = true ∧ (cbusOf ({ stRel with run := ⟨none, 0, some { tPol with cbus := [⟨0x20, 0, 1, 0, 0⟩] }, 0, true, tabEmpty, tabEmpty, none, []⟩, cbus := ⟨[(0, ⟨true, 3, 0x40⟩)]⟩ } : State) (0 : Nat)).tries ≠ 0 := by decide

theorem wit_PortEvents_15 : cbusRec ({ stRel with run := ⟨none, 0, some { tPol with cbus := [⟨0x20, 0, 1, 0, 0⟩] }, 0, true, tabEmpty, tabEmpty, none, []⟩, cbus := ⟨[(0, ⟨true, 2, 0x40⟩)]⟩ } : State) (0 : Nat) = some (⟨0x20, 0, 1, 0, 0⟩ : CbusRec) ∧ fwRuns ({ stRel with run := ⟨none, 0, some { tPol with cbus := [⟨0x20, 0, 1, 0, 0⟩] }, 0, true, tabEmpty, tabEmpty, none, []⟩, cbus := ⟨[(0, ⟨true, 2, 0x40⟩)]⟩ } : State) = true ∧ (cbusOf ({ stRel with run := ⟨none, 0, some { tPol with cbus := [⟨0x20, 0, 1, 0, 0⟩] }, 0, true, tabEmpty, tabEmpty, none, []⟩, cbus := ⟨[(0, ⟨true, 2, 0x40⟩)]⟩ } : State) (0 : Nat)).present = true ∧ (cbusOf ({ stRel with run := ⟨none, 0, some { tPol with cbus := [⟨0x20, 0, 1, 0, 0⟩] }, 0, true, tabEmpty, tabEmpty, none, []⟩, cbus := ⟨[(0, ⟨true, 2, 0x40⟩)]⟩ } : State) (0 : Nat)).tries ≠ 0 ∧ (cbusOf ({ stRel with run := ⟨none, 0, some { tPol with cbus := [⟨0x20, 0, 1, 0, 0⟩] }, 0, true, tabEmpty, tabEmpty, none, []⟩, cbus := ⟨[(0, ⟨true, 2, 0x40⟩)]⟩ } : State) (0 : Nat)).tries < 3 := by decide

theorem wit_PortEvents_16 : cbusRec ({ stRel with run := ⟨none, 0, some { tPol with cbus := [⟨0x20, 0, 1, 0, 0⟩] }, 0, true, tabEmpty, tabEmpty, none, []⟩, cbus := ⟨[(0, ⟨true, 3, 0x40⟩)]⟩ } : State) (0 : Nat) = some (⟨0x20, 0, 1, 0, 0⟩ : CbusRec) ∧ fwRuns ({ stRel with run := ⟨none, 0, some { tPol with cbus := [⟨0x20, 0, 1, 0, 0⟩] }, 0, true, tabEmpty, tabEmpty, none, []⟩, cbus := ⟨[(0, ⟨true, 3, 0x40⟩)]⟩ } : State) = true ∧ (cbusOf ({ stRel with run := ⟨none, 0, some { tPol with cbus := [⟨0x20, 0, 1, 0, 0⟩] }, 0, true, tabEmpty, tabEmpty, none, []⟩, cbus := ⟨[(0, ⟨true, 3, 0x40⟩)]⟩ } : State) (0 : Nat)).present = true ∧ 3 ≤ (cbusOf ({ stRel with run := ⟨none, 0, some { tPol with cbus := [⟨0x20, 0, 1, 0, 0⟩] }, 0, true, tabEmpty, tabEmpty, none, []⟩, cbus := ⟨[(0, ⟨true, 3, 0x40⟩)]⟩ } : State) (0 : Nat)).tries := by decide

/-- A mailbox message: MAGIC, KIND, SIGNER and a body filled up with zeros to its length. -/
def tMsg (kind signer n : Nat) (body : Bytes) : Bytes := fit n (le 4 0x424d5946 ++ le 2 kind ++ le 2 signer ++ body)
/-- Firmware runs, signer 0 has the roles of the mailbox, and MGT_B has submitted a message. -/
def stMbx (m : Bytes) : State :=
  { stRel with run := ⟨none, 0, some { tPol with signers := [⟨1, 0x18, [], []⟩] }, 0, true, tabEmpty, tabEmpty, none, []⟩, mbxQueue := [⟨true, m⟩] }

theorem wit_SignedMailboxCommands_1 : mbxMine (stMbx (tMsg 1 0 40 []) : State) (true : Bool) 1 = true ∧ sigIn (stMbx (tMsg 1 0 40 []) : State) = true ∧ (stMbx (tMsg 1 0 40 []) : State).mor.tripNotes = [] ∧ mbxHeader (mbxMessage (stMbx (tMsg 1 0 40 []) : State) (true : Bool)) 1 [4763] = false := by decide +kernel

def stClr : State :=
  let s := stMbx (tMsg 1 0 4763 (devId stRel ++ le 8 0))
  { s with mor := { s.mor with trip := true } }

theorem wit_SignedMailboxCommands_2 : mbxMine (stClr : State) (true : Bool) 1 = true ∧ sigIn (stClr : State) = true ∧ (stClr : State).mor.tripNotes = [] ∧ mbxHeader (mbxMessage (stClr : State) (true : Bool)) 1 [4763] = true ∧ mbxField (mbxMessage (stClr : State) (true : Bool)) 32 8 = 0 ∧ mbxSigned (stClr : State) (mbxMessage (stClr : State) (true : Bool)) 3 (⟨.bad, .good⟩ : Sig2) = false := by decide +kernel


theorem wit_SignedMailboxCommands_3 : mbxMine (stClr : State) (true : Bool) 1 = true ∧ sigIn (stClr : State) = true ∧ (stClr : State).mor.tripNotes = [] ∧ mbxHeader (mbxMessage (stClr : State) (true : Bool)) 1 [4763] = true ∧ mbxField (mbxMessage (stClr : State) (true : Bool)) 32 8 = 0 ∧ mbxSigned (stClr : State) (mbxMessage (stClr : State) (true : Bool)) 3 (⟨.good, .good⟩ : Sig2) = true ∧ fit 16 ((mbxMessage (stClr : State) (true : Bool)).drop 8) = devId (stClr : State) ∧ mbxField (mbxMessage (stClr : State) (true : Bool)) 24 8 = (stClr : State).ev.tripSeq ∧ (stClr : State).mor.trip = true ∧ noTripSource (stClr : State) = true ∧ durableNow (stClr : State) 0x0008 1 (le 2 (mbxField (mbxMessage (stClr : State) (true : Bool)) 6 2) ++ le 6 0 ++ le 8 (stClr : State).ev.tripSeq) .tripClear = true := by decide +kernel

def tBlk : Block := ⟨false, 1, 1, some 0, 0, 0, [], [], 0, List.replicate 48 1⟩
def stAck (x : Byte) : State :=
  upEv (fun e => { e with fix := ⟨[(3, .chainBlock tBlk)]⟩ }) (stMbx (tMsg 2 0 4811 (devId stRel ++ le 8 0 ++ List.replicate 48 x)))

theorem wit_SignedMailboxCommands_4 : mbxMine (stAck 2 : State) (true : Bool) 2 = true ∧ sigIn (stAck 2 : State) = true ∧ mbxHeader (mbxMessage (stAck 2 : State) (true : Bool)) 2 [4811] = true ∧ mbxField (mbxMessage (stAck 2 : State) (true : Bool)) 80 8 = 0 ∧ mbxSigned (stAck 2 : State) (mbxMessage (stAck 2 : State) (true : Bool)) 4 (⟨.good, .good⟩ : Sig2) = true ∧ fit 16 ((mbxMessage (stAck 2 : State) (true : Bool)).drop 8) = devId (stAck 2 : State) ∧ (stAck 2 : State).vault.nvme.any (fun c => decide (c.use = .ackRead (true : Bool))) = false ∧ slotOfIndex (stAck 2 : State).ev (mbxField (mbxMessage (stAck 2 : State) (true : Bool)) 24 8) = some ((3 : Nat), (tBlk : Block)) ∧ (tBlk : Block).chain ≠ fit 48 ((mbxMessage (stAck 2 : State) (true : Bool)).drop 32) := by decide +kernel

def stAck0 : State := upEv (fun e => { e with fix := tabEmpty }) (stAck 1)

theorem wit_SignedMailboxCommands_5 : mbxMine (stAck0 : State) (true : Bool) 2 = true ∧ sigIn (stAck0 : State) = true ∧ mbxHeader (mbxMessage (stAck0 : State) (true : Bool)) 2 [4811] = true ∧ mbxField (mbxMessage (stAck0 : State) (true : Bool)) 80 8 = 0 ∧ mbxSigned (stAck0 : State) (mbxMessage (stAck0 : State) (true : Bool)) 4 (⟨.good, .good⟩ : Sig2) = true ∧ fit 16 ((mbxMessage (stAck0 : State) (true : Bool)).drop 8) = devId (stAck0 : State) ∧ (stAck0 : State).vault.nvme.any (fun c => decide (c.use = .ackRead (true : Bool))) = false ∧ slotOfIndex (stAck0 : State).ev (mbxField (mbxMessage (stAck0 : State) (true : Bool)) 24 8) = none := by decide +kernel


theorem wit_SignedMailboxCommands_6 : mbxMine (stAck0 : State) (true : Bool) 2 = true := by decide +kernel


theorem wit_SignedMailboxCommands_8 : mbxMine (stAck 1 : State) (true : Bool) 2 = true ∧ sigIn (stAck 1 : State) = true ∧ mbxHeader (mbxMessage (stAck 1 : State) (true : Bool)) 2 [4811] = true ∧ mbxField (mbxMessage (stAck 1 : State) (true : Bool)) 80 8 = 0 ∧ mbxSigned (stAck 1 : State) (mbxMessage (stAck 1 : State) (true : Bool)) 4 (⟨.good, .good⟩ : Sig2) = true ∧ fit 16 ((mbxMessage (stAck 1 : State) (true : Bool)).drop 8) = devId (stAck 1 : State) ∧ (stAck 1 : State).vault.nvme.any (fun c => decide (c.use = .ackRead (true : Bool))) = false ∧ slotOfIndex (stAck 1 : State).ev (mbxField (mbxMessage (stAck 1 : State) (true : Bool)) 24 8) = some ((3 : Nat), (tBlk : Block)) ∧ (tBlk : Block).chain = fit 48 ((mbxMessage (stAck 1 : State) (true : Bool)).drop 32) := by decide +kernel

def stClose : State := stMbx (tMsg 3 0 4755 (devId stRel ++ le 1 (lcCount stRel.otp)))

theorem wit_SignedMailboxCommands_9 : mbxMine (upOtp (fun o => { o with busy := some .scan }) stClose : State) (true : Bool) 3 = true ∧ sigIn (upOtp (fun o => { o with busy := some .scan }) stClose : State) = true ∧ mbxField (mbxMessage (upOtp (fun o => { o with busy := some .scan }) stClose : State) (true : Bool)) 6 2 ≠ 0xffff ∧ mbxHeader (mbxMessage (upOtp (fun o => { o with busy := some .scan }) stClose : State) (true : Bool)) 3 [4755] = true ∧ mbxField (mbxMessage (upOtp (fun o => { o with busy := some .scan }) stClose : State) (true : Bool)) 25 7 = 0 ∧ mbxSigned (upOtp (fun o => { o with busy := some .scan }) stClose : State) (mbxMessage (upOtp (fun o => { o with busy := some .scan }) stClose : State) (true : Bool)) 4 (⟨.good, .good⟩ : Sig2) = true ∧ fit 16 ((mbxMessage (upOtp (fun o => { o with busy := some .scan }) stClose : State) (true : Bool)).drop 8) = devId (upOtp (fun o => { o with busy := some .scan }) stClose : State) ∧ mbxField (mbxMessage (upOtp (fun o => { o with busy := some .scan }) stClose : State) (true : Bool)) 24 1 = lcCount (upOtp (fun o => { o with busy := some .scan }) stClose : State).otp ∧ (lcCount (upOtp (fun o => { o with busy := some .scan }) stClose : State).otp % 2 = 1 ∨ lcStepPermitted (upOtp (fun o => { o with busy := some .scan }) stClose : State).otp = false ∨ (upOtp (fun o => { o with busy := some .scan }) stClose : State).otp.busy ≠ none) := by decide +kernel


theorem wit_SignedMailboxCommands_10 : mbxMine (stClose : State) (true : Bool) 3 = true ∧ sigIn (stClose : State) = true ∧ mbxField (mbxMessage (stClose : State) (true : Bool)) 6 2 ≠ 0xffff ∧ mbxHeader (mbxMessage (stClose : State) (true : Bool)) 3 [4755] = true ∧ mbxField (mbxMessage (stClose : State) (true : Bool)) 25 7 = 0 ∧ mbxSigned (stClose : State) (mbxMessage (stClose : State) (true : Bool)) 4 (⟨.good, .good⟩ : Sig2) = true ∧ fit 16 ((mbxMessage (stClose : State) (true : Bool)).drop 8) = devId (stClose : State) ∧ mbxField (mbxMessage (stClose : State) (true : Bool)) 24 1 = lcCount (stClose : State).otp ∧ lcCount (stClose : State).otp % 2 = 0 ∧ lcStepPermitted (stClose : State).otp = true ∧ (stClose : State).otp.busy = none := by decide +kernel

theorem wit_SignedMailboxCommands_11 : lcStepPermitted (stRel : State).otp = true ∧ durableNow (stRel : State) 0x0041 1 (lcStepBody (stRel : State) 2) .lcStep = true := by decide


theorem wit_SignedMailboxCommands_12 : mbxMine (stMbx (tMsg 0x10 0 8 []) : State) (true : Bool) 0x10 = true ∧ (stMbx (tMsg 0x10 0 8 []) : State).kld.rngFail = false ∧ mbxHeader (mbxMessage (stMbx (tMsg 0x10 0 8 []) : State) (true : Bool)) 0x10 [8] = true ∧ mbxField (mbxMessage (stMbx (tMsg 0x10 0 8 []) : State) (true : Bool)) 6 2 = 0 := by decide +kernel

/-- What a message of KIND 0x11 says. -/
def tTok (m : Bytes) : Token := parseToken (m.drop 8) ⟨.good, .good⟩ ⟨.good, .good⟩
def tTokBad : Bytes := tMsg 0x11 0 60 (le 4 0x53474548)

theorem wit_SignedMailboxCommands_13 : mbxMine (stMbx tTokBad : State) (true : Bool) 0x11 = true ∧ sigIn (stMbx tTokBad : State) = true ∧ (tTok tTokBad : Token) = parseToken ((mbxMessage (stMbx tTokBad : State) (true : Bool)).drop 8) (⟨.good, .good⟩ : Sig2) (⟨.good, .good⟩ : Sig2) ∧ mbxField (mbxMessage (stMbx tTokBad : State) (true : Bool)) 4 2 = 0x11 ∧ (mbxHeader (mbxMessage (stMbx tTokBad : State) (true : Bool)) 0x11 [if (tTok tTokBad : Token).flags.testBit 0 then 9518 else 4795] = false ∨ mbxField (mbxMessage (stMbx tTokBad : State) (true : Bool)) 6 2 ≠ 0) := ⟨by decide +kernel, by decide +kernel, rfl, by decide +kernel⟩


theorem wit_SignedMailboxCommands_14 : mbxMine (stMbx (tMsg 0x99 0 60 []) : State) (true : Bool) 0x11 = true ∧ sigIn (stMbx (tMsg 0x99 0 60 []) : State) = true ∧ mbxField (mbxMessage (stMbx (tMsg 0x99 0 60 []) : State) (true : Bool)) 4 2 ≠ 0x11 := by decide +kernel

def tTokMsg : Bytes := tMsg 0x11 0 4795 (le 4 0x53474548 ++ le 2 1 ++ le 2 1)

theorem wit_SignedMailboxCommands_15 : mbxMine (stMbx tTokMsg : State) (true : Bool) 0x11 = true ∧ sigIn (stMbx tTokMsg : State) = true ∧ (tTok tTokMsg : Token) = parseToken ((mbxMessage (stMbx tTokMsg : State) (true : Bool)).drop 8) (⟨.good, .good⟩ : Sig2) (⟨.good, .good⟩ : Sig2) ∧ mbxHeader (mbxMessage (stMbx tTokMsg : State) (true : Bool)) 0x11 [if (tTok tTokMsg : Token).flags.testBit 0 then 9518 else 4795] = true ∧ mbxField (mbxMessage (stMbx tTokMsg : State) (true : Bool)) 6 2 = 0 := ⟨by decide +kernel, by decide +kernel, rfl, by decide +kernel, by decide +kernel⟩

theorem wit_SignedMailboxCommands_16 : fwRuns (stRel : State) = true ∧ sigIn (stRel : State) = true := by decide

/-- The challenge in force is answered while engine 0 signs with the alias key. -/
def stTok : State :=
  { upOtp (fun o => { o with challenge := some (zeros 32) }) stRel with sig0 := { stRel.sig0 with busy := some ⟨2, 1, 0x10, 0, 0, 0, 0, 0, false, true⟩ } }
def tTokDebug : Token := ⟨0x53474548, 1, 1, devId stTok, zeros 32, stTok.otp.countLatched, 0, 0, 1, ⟨.good, .good⟩, ⟨.good, .good⟩, []⟩

theorem wit_SignedMailboxCommands_17 : tokenResult (stTok : State) (tTokDebug : Token) = 1 ∧ (tTokDebug : Token).kind = 1 ∧ aliasBusy (stTok : State) = true := by decide +kernel

theorem wit_SignedMailboxCommands_18 : (stRel : State).mor.vsec = true ∧ (stRel : State).mor.latched = true := by decide

theorem wit_SignedMailboxCommands_19 : (stRel : State).mor.vsec = true ∧ (stRel : State).mor.latched = true ∧ (stRel : State).sc.mainGood = true ∧ (stRel : State).kld.rngFail = false := by decide

theorem wit_SignedMailboxCommands_20 : (upOtp (fun o => { o with closed := true }) stRel : State).mor.vsec = true ∧ (upOtp (fun o => { o with closed := true }) stRel : State).mor.latched = true ∧ (upOtp (fun o => { o with closed := true }) stRel : State).otp.closed = true := by decide

theorem wit_SignedMailboxCommands_21 : (stRel : State).mor.vsec = true ∧ (stRel : State).mor.latched = true ∧ (stRel : State).otp.closed = false ∧ 544 ≤ (600 : Nat) ∧ (600 : Nat) < 1024 := by decide

theorem wit_SignedMailboxCommands_22 : (stRel : State).mor.vsec = true ∧ (stRel : State).mor.latched = true ∧ (stRel : State).otp.closed = false ∧ (stRel : State).otp.busy = none ∧ (600 : Nat) < 1024 ∧ otpProgramPermitted (stRel : State).otp (stRel : State).mor.lock (600 : Nat) = true ∧ otpBlank (otpWord (stRel : State).otp (600 : Nat)) = true := by decide

theorem wit_SignedMailboxCommands_23 : (stRel : State).mor.vsec = true ∧ (stRel : State).mor.latched = true ∧ (stRel : State).otp.session = none := by decide

theorem wit_SignedMailboxCommands_24 : (upOtp (fun o => { o with session := some 1 }) stRel : State).mor.vsec = true ∧ (upOtp (fun o => { o with session := some 1 }) stRel : State).mor.latched = true ∧ (upOtp (fun o => { o with session := some 1 }) stRel : State).sc.mainGood = true ∧ (upOtp (fun o => { o with session := some 1 }) stRel : State).otp.session = some (1 : BitVec 4) ∧ (1 : BitVec 4).getLsbD 0 = true ∧ (upOtp (fun o => { o with session := some 1 }) stRel : State).sc.running = true ∧ (upOtp (fun o => { o with session := some 1 }) stRel : State).sc.halted = false := by decide

theorem wit_DebugTokensRefused_1 : (upOtp (fun o => { o with feat := 0x100000 }) stRel : State).otp.feat.getLsbD 20 = true ∧ (⟨0, 1, 1, [], [], 0, 0, 0, 0, ⟨.good, .good⟩, ⟨.good, .good⟩, []⟩ : Token).kind = 1 := by decide

theorem wit_DebugTokensRefused_2 :
    let s := upOtp (fun o => { o with feat := 0x100000 }) (stMbx (tMsg 0x11 0 60 (le 4 0x53474548 ++ le 2 1 ++ le 2 1)))
    s.otp.feat.getLsbD 20 = true ∧ (parseToken ((mbxMessage s true).drop 8) ⟨.good, .good⟩ ⟨.good, .good⟩).kind = 1 ∧
      exec (.token true ⟨.good, .good⟩ ⟨.good, .good⟩) s = .next (outOf (exec (.token true ⟨.good, .good⟩ ⟨.good, .good⟩) s)) :=
  ⟨by decide, by decide, rfl⟩

theorem wit_DebugTokensRefused_3 : (⟨0, 1, 2, [], [], 0, 0, 0, 0, ⟨.good, .good⟩, ⟨.good, .good⟩, []⟩ : Token).kind = 2 := by decide

theorem wit_TripSurvivesCEvents_1 : ({ stRel with mor := { stRel.mor with trip := true } } : State).mor.trip = true ∧ ((.mainRailFail : Instr) = .mainRailFail ∨ (.mainRailFail : Instr) = .pllLossOfLock) := by decide

theorem wit_UnitsFailOver_1 : (slicesGood (stRel : State).fab (0 : Nat)).contains (1 : Nat) = true := by decide

theorem wit_UnitsFailOver_2 : [0, 1, 2].filter (fun i => (upFab (fun f => { f with sliceFail := 1 }) stRel : State).fab.slices.getLsbD (3 * (0 : Nat) + i) && (upFab (fun f => { f with sliceFail := 1 }) stRel : State).fab.sliceFail.getLsbD (3 * (0 : Nat) + i)) ≠ [] := by decide

theorem wit_UnitsFailOver_3 : (planesGood (stRel : State).fab).contains (0 : Nat) = true := by decide

theorem wit_UnitsFailOver_4 : (bitsOf (upFab (fun f => { f with planeFail := 1 }) stRel : State).fab.planes).filter (fun n => (upFab (fun f => { f with planeFail := 1 }) stRel : State).fab.planeFail.getLsbD n) ≠ [] := by decide

theorem wit_UnitsFailOver_5 : (3 : Nat) < 24 ∧ (stRel : State).dga.engines.getLsbD (3 : Nat) = true := by decide

theorem wit_UnitsFailOver_6 : (3 : Nat) < 24 := by decide

theorem wit_UnitsFailOver_7 : ({ stRel with dga := { stRel.dga with failover := true } } : State).dga.failover = true := by decide

theorem wit_UnitsFailOver_8 : (sigOf (stRel : State) (false : Bool)).inService = true := by decide

theorem wit_UnitsFailOver_9 : (({ stRel with sig0 := { stRel.sig0 with failover := true } } : State).sig0.failover || ({ stRel with sig0 := { stRel.sig0 with failover := true } } : State).sig1.failover) = true := by decide

theorem wit_UnitsFailOver_10 : (stRel : State).pa.bank.getLsbD (0 : BitVec 2).toNat = true := by decide

theorem wit_UnitsFailOver_11 : ({ stRel with pa := ⟨14, true⟩ } : State).pa.failover = true := by decide

theorem wit_RingCommandsTakeEffect_1 : nrxRuns ({ stRel with nrx := { rings0 with rings := ⟨[(4, ⟨.active, 4, 0x100000, 0x200000, 9, 0, 8, 7, 0, 8, 0, 0, none, 0⟩)]⟩, jobs := [⟨0, 4, 7, 0x55, 0x01, 0, 3, 0x8000, [], 0, [], [], false, false, [], [], 9, false, false⟩] } } : State) = true ∧ ({ stRel with nrx := { rings0 with rings := ⟨[(4, ⟨.active, 4, 0x100000, 0x200000, 9, 0, 8, 7, 0, 8, 0, 0, none, 0⟩)]⟩, jobs := [⟨0, 4, 7, 0x55, 0x01, 0, 3, 0x8000, [], 0, [], [], false, false, [], [], 9, false, false⟩] } } : State).nrx.jobs.find? (fun x => !x.applied) = some (⟨0, 4, 7, 0x55, 0x01, 0, 3, 0x8000, [], 0, [], [], false, false, [], [], 9, false, false⟩ : RingCmd) ∧ (⟨0, 4, 7, 0x55, 0x01, 0, 3, 0x8000, [], 0, [], [], false, false, [], [], 9, false, false⟩ : RingCmd).status = 0 ∧ (⟨0, 4, 7, 0x55, 0x01, 0, 3, 0x8000, [], 0, [], [], false, false, [], [], 9, false, false⟩ : RingCmd).orphan = false ∧ (ringOf ({ stRel with nrx := { rings0 with rings := ⟨[(4, ⟨.active, 4, 0x100000, 0x200000, 9, 0, 8, 7, 0, 8, 0, 0, none, 0⟩)]⟩, jobs := [⟨0, 4, 7, 0x55, 0x01, 0, 3, 0x8000, [], 0, [], [], false, false, [], [], 9, false, false⟩] } } : State) (⟨0, 4, 7, 0x55, 0x01, 0, 3, 0x8000, [], 0, [], [], false, false, [], [], 9, false, false⟩ : RingCmd).part (⟨0, 4, 7, 0x55, 0x01, 0, 3, 0x8000, [], 0, [], [], false, false, [], [], 9, false, false⟩ : RingCmd).ring).st = .active ∧ opEngines ({ stRel with nrx := { rings0 with rings := ⟨[(4, ⟨.active, 4, 0x100000, 0x200000, 9, 0, 8, 7, 0, 8, 0, 0, none, 0⟩)]⟩, jobs := [⟨0, 4, 7, 0x55, 0x01, 0, 3, 0x8000, [], 0, [], [], false, false, [], [], 9, false, false⟩] } } : State) (⟨0, 4, 7, 0x55, 0x01, 0, 3, 0x8000, [], 0, [], [], false, false, [], [], 9, false, false⟩ : RingCmd).op = true ∧ (⟨0, 4, 7, 0x55, 0x01, 0, 3, 0x8000, [], 0, [], [], false, false, [], [], 9, false, false⟩ : RingCmd).op = 0x01 := by decide

theorem wit_RingCommandsTakeEffect_2 : nrxRuns ({ stRel with nrx := { rings0 with rings := ⟨[(4, ⟨.active, 4, 0x100000, 0x200000, 9, 0, 8, 7, 0, 8, 0, 0, none, 0⟩)]⟩, jobs := [⟨0, 4, 7, 0x55, 0x02, 0, 3, 0x8000, [], 0, [], [], false, false, [], [], 9, false, false⟩] } } : State) = true ∧ ({ stRel with nrx := { rings0 with rings := ⟨[(4, ⟨.active, 4, 0x100000, 0x200000, 9, 0, 8, 7, 0, 8, 0, 0, none, 0⟩)]⟩, jobs := [⟨0, 4, 7, 0x55, 0x02, 0, 3, 0x8000, [], 0, [], [], false, false, [], [], 9, false, false⟩] } } : State).nrx.jobs.find? (fun x => !x.applied) = some (⟨0, 4, 7, 0x55, 0x02, 0, 3, 0x8000, [], 0, [], [], false, false, [], [], 9, false, false⟩ : RingCmd) ∧ (⟨0, 4, 7, 0x55, 0x02, 0, 3, 0x8000, [], 0, [], [], false, false, [], [], 9, false, false⟩ : RingCmd).status = 0 ∧ (⟨0, 4, 7, 0x55, 0x02, 0, 3, 0x8000, [], 0, [], [], false, false, [], [], 9, false, false⟩ : RingCmd).orphan = false ∧ (ringOf ({ stRel with nrx := { rings0 with rings := ⟨[(4, ⟨.active, 4, 0x100000, 0x200000, 9, 0, 8, 7, 0, 8, 0, 0, none, 0⟩)]⟩, jobs := [⟨0, 4, 7, 0x55, 0x02, 0, 3, 0x8000, [], 0, [], [], false, false, [], [], 9, false, false⟩] } } : State) (⟨0, 4, 7, 0x55, 0x02, 0, 3, 0x8000, [], 0, [], [], false, false, [], [], 9, false, false⟩ : RingCmd).part (⟨0, 4, 7, 0x55, 0x02, 0, 3, 0x8000, [], 0, [], [], false, false, [], [], 9, false, false⟩ : RingCmd).ring).st = .active ∧ opEngines ({ stRel with nrx := { rings0 with rings := ⟨[(4, ⟨.active, 4, 0x100000, 0x200000, 9, 0, 8, 7, 0, 8, 0, 0, none, 0⟩)]⟩, jobs := [⟨0, 4, 7, 0x55, 0x02, 0, 3, 0x8000, [], 0, [], [], false, false, [], [], 9, false, false⟩] } } : State) (⟨0, 4, 7, 0x55, 0x02, 0, 3, 0x8000, [], 0, [], [], false, false, [], [], 9, false, false⟩ : RingCmd).op = true ∧ (⟨0, 4, 7, 0x55, 0x02, 0, 3, 0x8000, [], 0, [], [], false, false, [], [], 9, false, false⟩ : RingCmd).op = 0x02 := by decide

theorem wit_RingCommandsTakeEffect_3 : nrxRuns ({ stRel with nrx := { rings0 with rings := ⟨[(4, ⟨.active, 4, 0x100000, 0x200000, 9, 0, 8, 7, 0, 8, 0, 0, none, 0⟩)]⟩, jobs := [⟨0, 4, 7, 0x55, 0x10, 1, 3, 0x8000, [], 0, [], [], false, false, [], [], 9, false, false⟩] } } : State) = true ∧ ({ stRel with nrx := { rings0 with rings := ⟨[(4, ⟨.active, 4, 0x100000, 0x200000, 9, 0, 8, 7, 0, 8, 0, 0, none, 0⟩)]⟩, jobs := [⟨0, 4, 7, 0x55, 0x10, 1, 3, 0x8000, [], 0, [], [], false, false, [], [], 9, false, false⟩] } } : State).nrx.jobs.find? (fun x => !x.applied) = some (⟨0, 4, 7, 0x55, 0x10, 1, 3, 0x8000, [], 0, [], [], false, false, [], [], 9, false, false⟩ : RingCmd) ∧ (⟨0, 4, 7, 0x55, 0x10, 1, 3, 0x8000, [], 0, [], [], false, false, [], [], 9, false, false⟩ : RingCmd).status = 0 ∧ (⟨0, 4, 7, 0x55, 0x10, 1, 3, 0x8000, [], 0, [], [], false, false, [], [], 9, false, false⟩ : RingCmd).orphan = false ∧ (ringOf ({ stRel with nrx := { rings0 with rings := ⟨[(4, ⟨.active, 4, 0x100000, 0x200000, 9, 0, 8, 7, 0, 8, 0, 0, none, 0⟩)]⟩, jobs := [⟨0, 4, 7, 0x55, 0x10, 1, 3, 0x8000, [], 0, [], [], false, false, [], [], 9, false, false⟩] } } : State) (⟨0, 4, 7, 0x55, 0x10, 1, 3, 0x8000, [], 0, [], [], false, false, [], [], 9, false, false⟩ : RingCmd).part (⟨0, 4, 7, 0x55, 0x10, 1, 3, 0x8000, [], 0, [], [], false, false, [], [], 9, false, false⟩ : RingCmd).ring).st = .active ∧ opEngines ({ stRel with nrx := { rings0 with rings := ⟨[(4, ⟨.active, 4, 0x100000, 0x200000, 9, 0, 8, 7, 0, 8, 0, 0, none, 0⟩)]⟩, jobs := [⟨0, 4, 7, 0x55, 0x10, 1, 3, 0x8000, [], 0, [], [], false, false, [], [], 9, false, false⟩] } } : State) (⟨0, 4, 7, 0x55, 0x10, 1, 3, 0x8000, [], 0, [], [], false, false, [], [], 9, false, false⟩ : RingCmd).op = true ∧ (⟨0, 4, 7, 0x55, 0x10, 1, 3, 0x8000, [], 0, [], [], false, false, [], [], 9, false, false⟩ : RingCmd).op = 0x10 := by decide

theorem wit_RingCommandsTakeEffect_4 : nrxRuns ({ stRel with nrx := { rings0 with rings := ⟨[(4, ⟨.active, 4, 0x100000, 0x200000, 9, 0, 8, 7, 0, 8, 0, 0, none, 0⟩)]⟩, jobs := [⟨0, 4, 7, 0x55, 0x11, 1, 3, 0x8000, [], 0, [], [], false, false, [], [], 9, false, false⟩] } } : State) = true ∧ ({ stRel with nrx := { rings0 with rings := ⟨[(4, ⟨.active, 4, 0x100000, 0x200000, 9, 0, 8, 7, 0, 8, 0, 0, none, 0⟩)]⟩, jobs := [⟨0, 4, 7, 0x55, 0x11, 1, 3, 0x8000, [], 0, [], [], false, false, [], [], 9, false, false⟩] } } : State).nrx.jobs.find? (fun x => !x.applied) = some (⟨0, 4, 7, 0x55, 0x11, 1, 3, 0x8000, [], 0, [], [], false, false, [], [], 9, false, false⟩ : RingCmd) ∧ (⟨0, 4, 7, 0x55, 0x11, 1, 3, 0x8000, [], 0, [], [], false, false, [], [], 9, false, false⟩ : RingCmd).status = 0 ∧ (⟨0, 4, 7, 0x55, 0x11, 1, 3, 0x8000, [], 0, [], [], false, false, [], [], 9, false, false⟩ : RingCmd).orphan = false ∧ (ringOf ({ stRel with nrx := { rings0 with rings := ⟨[(4, ⟨.active, 4, 0x100000, 0x200000, 9, 0, 8, 7, 0, 8, 0, 0, none, 0⟩)]⟩, jobs := [⟨0, 4, 7, 0x55, 0x11, 1, 3, 0x8000, [], 0, [], [], false, false, [], [], 9, false, false⟩] } } : State) (⟨0, 4, 7, 0x55, 0x11, 1, 3, 0x8000, [], 0, [], [], false, false, [], [], 9, false, false⟩ : RingCmd).part (⟨0, 4, 7, 0x55, 0x11, 1, 3, 0x8000, [], 0, [], [], false, false, [], [], 9, false, false⟩ : RingCmd).ring).st = .active ∧ opEngines ({ stRel with nrx := { rings0 with rings := ⟨[(4, ⟨.active, 4, 0x100000, 0x200000, 9, 0, 8, 7, 0, 8, 0, 0, none, 0⟩)]⟩, jobs := [⟨0, 4, 7, 0x55, 0x11, 1, 3, 0x8000, [], 0, [], [], false, false, [], [], 9, false, false⟩] } } : State) (⟨0, 4, 7, 0x55, 0x11, 1, 3, 0x8000, [], 0, [], [], false, false, [], [], 9, false, false⟩ : RingCmd).op = true ∧ (⟨0, 4, 7, 0x55, 0x11, 1, 3, 0x8000, [], 0, [], [], false, false, [], [], 9, false, false⟩ : RingCmd).op = 0x11 := by decide

theorem wit_RingCommandsTakeEffect_5 : nrxRuns ({ stRel with nrx := { rings0 with rings := ⟨[(4, ⟨.active, 4, 0x100000, 0x200000, 9, 0, 8, 7, 0, 8, 0, 0, none, 0⟩)]⟩, jobs := [⟨0, 4, 7, 0x55, 0x20, 0, 4096, 0x8000, [], 0, [], [], false, false, [], [], 9, false, false⟩] } } : State) = true ∧ ({ stRel with nrx := { rings0 with rings := ⟨[(4, ⟨.active, 4, 0x100000, 0x200000, 9, 0, 8, 7, 0, 8, 0, 0, none, 0⟩)]⟩, jobs := [⟨0, 4, 7, 0x55, 0x20, 0, 4096, 0x8000, [], 0, [], [], false, false, [], [], 9, false, false⟩] } } : State).nrx.jobs.find? (fun x => !x.applied) = some (⟨0, 4, 7, 0x55, 0x20, 0, 4096, 0x8000, [], 0, [], [], false, false, [], [], 9, false, false⟩ : RingCmd) ∧ (⟨0, 4, 7, 0x55, 0x20, 0, 4096, 0x8000, [], 0, [], [], false, false, [], [], 9, false, false⟩ : RingCmd).status = 0 ∧ (⟨0, 4, 7, 0x55, 0x20, 0, 4096, 0x8000, [], 0, [], [], false, false, [], [], 9, false, false⟩ : RingCmd).orphan = false ∧ (ringOf ({ stRel with nrx := { rings0 with rings := ⟨[(4, ⟨.active, 4, 0x100000, 0x200000, 9, 0, 8, 7, 0, 8, 0, 0, none, 0⟩)]⟩, jobs := [⟨0, 4, 7, 0x55, 0x20, 0, 4096, 0x8000, [], 0, [], [], false, false, [], [], 9, false, false⟩] } } : State) (⟨0, 4, 7, 0x55, 0x20, 0, 4096, 0x8000, [], 0, [], [], false, false, [], [], 9, false, false⟩ : RingCmd).part (⟨0, 4, 7, 0x55, 0x20, 0, 4096, 0x8000, [], 0, [], [], false, false, [], [], 9, false, false⟩ : RingCmd).ring).st = .active ∧ opEngines ({ stRel with nrx := { rings0 with rings := ⟨[(4, ⟨.active, 4, 0x100000, 0x200000, 9, 0, 8, 7, 0, 8, 0, 0, none, 0⟩)]⟩, jobs := [⟨0, 4, 7, 0x55, 0x20, 0, 4096, 0x8000, [], 0, [], [], false, false, [], [], 9, false, false⟩] } } : State) (⟨0, 4, 7, 0x55, 0x20, 0, 4096, 0x8000, [], 0, [], [], false, false, [], [], 9, false, false⟩ : RingCmd).op = true ∧ (⟨0, 4, 7, 0x55, 0x20, 0, 4096, 0x8000, [], 0, [], [], false, false, [], [], 9, false, false⟩ : RingCmd).op = 0x20 := by decide

theorem wit_RingCommandsTakeEffect_6 : nrxRuns ({ stRel with nrx := { rings0 with rings := ⟨[(4, ⟨.active, 4, 0x100000, 0x200000, 9, 0, 8, 7, 0, 8, 0, 0, none, 0⟩)]⟩, jobs := [⟨0, 4, 7, 0x55, 0x21, 0, 4096, 0x8000, [], 0, [], [], false, false, [], [], 9, false, false⟩] } } : State) = true ∧ ({ stRel with nrx := { rings0 with rings := ⟨[(4, ⟨.active, 4, 0x100000, 0x200000, 9, 0, 8, 7, 0, 8, 0, 0, none, 0⟩)]⟩, jobs := [⟨0, 4, 7, 0x55, 0x21, 0, 4096, 0x8000, [], 0, [], [], false, false, [], [], 9, false, false⟩] } } : State).nrx.jobs.find? (fun x => !x.applied) = some (⟨0, 4, 7, 0x55, 0x21, 0, 4096, 0x8000, [], 0, [], [], false, false, [], [], 9, false, false⟩ : RingCmd) ∧ (⟨0, 4, 7, 0x55, 0x21, 0, 4096, 0x8000, [], 0, [], [], false, false, [], [], 9, false, false⟩ : RingCmd).status = 0 ∧ (⟨0, 4, 7, 0x55, 0x21, 0, 4096, 0x8000, [], 0, [], [], false, false, [], [], 9, false, false⟩ : RingCmd).orphan = false ∧ (ringOf ({ stRel with nrx := { rings0 with rings := ⟨[(4, ⟨.active, 4, 0x100000, 0x200000, 9, 0, 8, 7, 0, 8, 0, 0, none, 0⟩)]⟩, jobs := [⟨0, 4, 7, 0x55, 0x21, 0, 4096, 0x8000, [], 0, [], [], false, false, [], [], 9, false, false⟩] } } : State) (⟨0, 4, 7, 0x55, 0x21, 0, 4096, 0x8000, [], 0, [], [], false, false, [], [], 9, false, false⟩ : RingCmd).part (⟨0, 4, 7, 0x55, 0x21, 0, 4096, 0x8000, [], 0, [], [], false, false, [], [], 9, false, false⟩ : RingCmd).ring).st = .active ∧ opEngines ({ stRel with nrx := { rings0 with rings := ⟨[(4, ⟨.active, 4, 0x100000, 0x200000, 9, 0, 8, 7, 0, 8, 0, 0, none, 0⟩)]⟩, jobs := [⟨0, 4, 7, 0x55, 0x21, 0, 4096, 0x8000, [], 0, [], [], false, false, [], [], 9, false, false⟩] } } : State) (⟨0, 4, 7, 0x55, 0x21, 0, 4096, 0x8000, [], 0, [], [], false, false, [], [], 9, false, false⟩ : RingCmd).op = true ∧ (⟨0, 4, 7, 0x55, 0x21, 0, 4096, 0x8000, [], 0, [], [], false, false, [], [], 9, false, false⟩ : RingCmd).op = 0x21 := by decide

theorem wit_RingCommandsTakeEffect_7 : nrxRuns ({ stRel with nrx := { rings0 with rings := ⟨[(4, ⟨.active, 4, 0x100000, 0x200000, 9, 0, 8, 7, 0, 8, 0, 0, none, 0⟩)]⟩, jobs := [⟨0, 4, 7, 0x55, 0x30, 0, 0, 0x8000, [16], 0, [], [], false, false, [], [], 9, false, false⟩] } } : State) = true ∧ ({ stRel with nrx := { rings0 with rings := ⟨[(4, ⟨.active, 4, 0x100000, 0x200000, 9, 0, 8, 7, 0, 8, 0, 0, none, 0⟩)]⟩, jobs := [⟨0, 4, 7, 0x55, 0x30, 0, 0, 0x8000, [16], 0, [], [], false, false, [], [], 9, false, false⟩] } } : State).nrx.jobs.find? (fun x => !x.applied) = some (⟨0, 4, 7, 0x55, 0x30, 0, 0, 0x8000, [16], 0, [], [], false, false, [], [], 9, false, false⟩ : RingCmd) ∧ (⟨0, 4, 7, 0x55, 0x30, 0, 0, 0x8000, [16], 0, [], [], false, false, [], [], 9, false, false⟩ : RingCmd).status = 0 ∧ (⟨0, 4, 7, 0x55, 0x30, 0, 0, 0x8000, [16], 0, [], [], false, false, [], [], 9, false, false⟩ : RingCmd).orphan = false ∧ (ringOf ({ stRel with nrx := { rings0 with rings := ⟨[(4, ⟨.active, 4, 0x100000, 0x200000, 9, 0, 8, 7, 0, 8, 0, 0, none, 0⟩)]⟩, jobs := [⟨0, 4, 7, 0x55, 0x30, 0, 0, 0x8000, [16], 0, [], [], false, false, [], [], 9, false, false⟩] } } : State) (⟨0, 4, 7, 0x55, 0x30, 0, 0, 0x8000, [16], 0, [], [], false, false, [], [], 9, false, false⟩ : RingCmd).part (⟨0, 4, 7, 0x55, 0x30, 0, 0, 0x8000, [16], 0, [], [], false, false, [], [], 9, false, false⟩ : RingCmd).ring).st = .active ∧ opEngines ({ stRel with nrx := { rings0 with rings := ⟨[(4, ⟨.active, 4, 0x100000, 0x200000, 9, 0, 8, 7, 0, 8, 0, 0, none, 0⟩)]⟩, jobs := [⟨0, 4, 7, 0x55, 0x30, 0, 0, 0x8000, [16], 0, [], [], false, false, [], [], 9, false, false⟩] } } : State) (⟨0, 4, 7, 0x55, 0x30, 0, 0, 0x8000, [16], 0, [], [], false, false, [], [], 9, false, false⟩ : RingCmd).op = true ∧ (⟨0, 4, 7, 0x55, 0x30, 0, 0, 0x8000, [16], 0, [], [], false, false, [], [], 9, false, false⟩ : RingCmd).op = 0x30 := by decide

theorem wit_RingCommandsTakeEffect_8 : nrxRuns ({ stRel with nrx := { rings0 with rings := ⟨[(4, ⟨.active, 4, 0x100000, 0x200000, 9, 0, 8, 7, 0, 8, 0, 0, none, 0⟩)]⟩, jobs := [⟨0, 4, 7, 0x55, 0x31, 0, 0, 0x8000, [], 0, [], [1, 2], false, false, [], [], 9, false, false⟩] } } : State) = true ∧ ({ stRel with nrx := { rings0 with rings := ⟨[(4, ⟨.active, 4, 0x100000, 0x200000, 9, 0, 8, 7, 0, 8, 0, 0, none, 0⟩)]⟩, jobs := [⟨0, 4, 7, 0x55, 0x31, 0, 0, 0x8000, [], 0, [], [1, 2], false, false, [], [], 9, false, false⟩] } } : State).nrx.jobs.find? (fun x => !x.applied) = some (⟨0, 4, 7, 0x55, 0x31, 0, 0, 0x8000, [], 0, [], [1, 2], false, false, [], [], 9, false, false⟩ : RingCmd) ∧ (⟨0, 4, 7, 0x55, 0x31, 0, 0, 0x8000, [], 0, [], [1, 2], false, false, [], [], 9, false, false⟩ : RingCmd).status = 0 ∧ (⟨0, 4, 7, 0x55, 0x31, 0, 0, 0x8000, [], 0, [], [1, 2], false, false, [], [], 9, false, false⟩ : RingCmd).orphan = false ∧ (ringOf ({ stRel with nrx := { rings0 with rings := ⟨[(4, ⟨.active, 4, 0x100000, 0x200000, 9, 0, 8, 7, 0, 8, 0, 0, none, 0⟩)]⟩, jobs := [⟨0, 4, 7, 0x55, 0x31, 0, 0, 0x8000, [], 0, [], [1, 2], false, false, [], [], 9, false, false⟩] } } : State) (⟨0, 4, 7, 0x55, 0x31, 0, 0, 0x8000, [], 0, [], [1, 2], false, false, [], [], 9, false, false⟩ : RingCmd).part (⟨0, 4, 7, 0x55, 0x31, 0, 0, 0x8000, [], 0, [], [1, 2], false, false, [], [], 9, false, false⟩ : RingCmd).ring).st = .active ∧ opEngines ({ stRel with nrx := { rings0 with rings := ⟨[(4, ⟨.active, 4, 0x100000, 0x200000, 9, 0, 8, 7, 0, 8, 0, 0, none, 0⟩)]⟩, jobs := [⟨0, 4, 7, 0x55, 0x31, 0, 0, 0x8000, [], 0, [], [1, 2], false, false, [], [], 9, false, false⟩] } } : State) (⟨0, 4, 7, 0x55, 0x31, 0, 0, 0x8000, [], 0, [], [1, 2], false, false, [], [], 9, false, false⟩ : RingCmd).op = true ∧ (⟨0, 4, 7, 0x55, 0x31, 0, 0, 0x8000, [], 0, [], [1, 2], false, false, [], [], 9, false, false⟩ : RingCmd).op = 0x31 := by decide

theorem wit_RingCommandsTakeEffect_9 : nrxRuns ({ stRel with nrx := { rings0 with rings := ⟨[(4, ⟨.active, 4, 0x100000, 0x200000, 9, 0, 8, 7, 0, 8, 0, 0, none, 0⟩)]⟩, jobs := [⟨0, 4, 7, 0x55, 0x40, 0, 0, 0x8000, [], 0, [], [], false, false, [], [], 9, false, false⟩] } } : State) = true ∧ ({ stRel with nrx := { rings0 with rings := ⟨[(4, ⟨.active, 4, 0x100000, 0x200000, 9, 0, 8, 7, 0, 8, 0, 0, none, 0⟩)]⟩, jobs := [⟨0, 4, 7, 0x55, 0x40, 0, 0, 0x8000, [], 0, [], [], false, false, [], [], 9, false, false⟩] } } : State).nrx.jobs.find? (fun x => !x.applied) = some (⟨0, 4, 7, 0x55, 0x40, 0, 0, 0x8000, [], 0, [], [], false, false, [], [], 9, false, false⟩ : RingCmd) ∧ (⟨0, 4, 7, 0x55, 0x40, 0, 0, 0x8000, [], 0, [], [], false, false, [], [], 9, false, false⟩ : RingCmd).status = 0 ∧ (⟨0, 4, 7, 0x55, 0x40, 0, 0, 0x8000, [], 0, [], [], false, false, [], [], 9, false, false⟩ : RingCmd).orphan = false ∧ (ringOf ({ stRel with nrx := { rings0 with rings := ⟨[(4, ⟨.active, 4, 0x100000, 0x200000, 9, 0, 8, 7, 0, 8, 0, 0, none, 0⟩)]⟩, jobs := [⟨0, 4, 7, 0x55, 0x40, 0, 0, 0x8000, [], 0, [], [], false, false, [], [], 9, false, false⟩] } } : State) (⟨0, 4, 7, 0x55, 0x40, 0, 0, 0x8000, [], 0, [], [], false, false, [], [], 9, false, false⟩ : RingCmd).part (⟨0, 4, 7, 0x55, 0x40, 0, 0, 0x8000, [], 0, [], [], false, false, [], [], 9, false, false⟩ : RingCmd).ring).st = .active ∧ opEngines ({ stRel with nrx := { rings0 with rings := ⟨[(4, ⟨.active, 4, 0x100000, 0x200000, 9, 0, 8, 7, 0, 8, 0, 0, none, 0⟩)]⟩, jobs := [⟨0, 4, 7, 0x55, 0x40, 0, 0, 0x8000, [], 0, [], [], false, false, [], [], 9, false, false⟩] } } : State) (⟨0, 4, 7, 0x55, 0x40, 0, 0, 0x8000, [], 0, [], [], false, false, [], [], 9, false, false⟩ : RingCmd).op = true ∧ (⟨0, 4, 7, 0x55, 0x40, 0, 0, 0x8000, [], 0, [], [], false, false, [], [], 9, false, false⟩ : RingCmd).op = 0x40 := by decide

theorem wit_RingCommandsTakeEffect_10 : nrxRuns ({ stRel with nrx := { rings0 with rings := ⟨[(4, ⟨.active, 4, 0x100000, 0x200000, 9, 0, 8, 7, 0, 8, 0, 0, none, 0⟩)]⟩, jobs := [⟨0, 4, 7, 0x55, 0x70, 6, 9, 0x8000, [], 0, [], [], false, false, [], [], 9, false, false⟩] } } : State) = true ∧ ({ stRel with nrx := { rings0 with rings := ⟨[(4, ⟨.active, 4, 0x100000, 0x200000, 9, 0, 8, 7, 0, 8, 0, 0, none, 0⟩)]⟩, jobs := [⟨0, 4, 7, 0x55, 0x70, 6, 9, 0x8000, [], 0, [], [], false, false, [], [], 9, false, false⟩] } } : State).nrx.jobs.find? (fun x => !x.applied) = some (⟨0, 4, 7, 0x55, 0x70, 6, 9, 0x8000, [], 0, [], [], false, false, [], [], 9, false, false⟩ : RingCmd) ∧ (⟨0, 4, 7, 0x55, 0x70, 6, 9, 0x8000, [], 0, [], [], false, false, [], [], 9, false, false⟩ : RingCmd).status = 0 ∧ (⟨0, 4, 7, 0x55, 0x70, 6, 9, 0x8000, [], 0, [], [], false, false, [], [], 9, false, false⟩ : RingCmd).orphan = false ∧ (ringOf ({ stRel with nrx := { rings0 with rings := ⟨[(4, ⟨.active, 4, 0x100000, 0x200000, 9, 0, 8, 7, 0, 8, 0, 0, none, 0⟩)]⟩, jobs := [⟨0, 4, 7, 0x55, 0x70, 6, 9, 0x8000, [], 0, [], [], false, false, [], [], 9, false, false⟩] } } : State) (⟨0, 4, 7, 0x55, 0x70, 6, 9, 0x8000, [], 0, [], [], false, false, [], [], 9, false, false⟩ : RingCmd).part (⟨0, 4, 7, 0x55, 0x70, 6, 9, 0x8000, [], 0, [], [], false, false, [], [], 9, false, false⟩ : RingCmd).ring).st = .active ∧ opEngines ({ stRel with nrx := { rings0 with rings := ⟨[(4, ⟨.active, 4, 0x100000, 0x200000, 9, 0, 8, 7, 0, 8, 0, 0, none, 0⟩)]⟩, jobs := [⟨0, 4, 7, 0x55, 0x70, 6, 9, 0x8000, [], 0, [], [], false, false, [], [], 9, false, false⟩] } } : State) (⟨0, 4, 7, 0x55, 0x70, 6, 9, 0x8000, [], 0, [], [], false, false, [], [], 9, false, false⟩ : RingCmd).op = true ∧ (⟨0, 4, 7, 0x55, 0x70, 6, 9, 0x8000, [], 0, [], [], false, false, [], [], 9, false, false⟩ : RingCmd).op = 0x70 := by decide

theorem wit_RingCommandsTakeEffect_11 : nrxRuns ({ stRel with nrx := { rings0 with rings := ⟨[(4, ⟨.active, 4, 0x100000, 0x200000, 9, 0, 8, 7, 0, 8, 0, 0, none, 0⟩)]⟩, jobs := [⟨0, 4, 7, 0x55, 0x71, 0, 9, 0x8000, [], 0, [], [], false, false, [], [], 9, false, false⟩] } } : State) = true ∧ ({ stRel with nrx := { rings0 with rings := ⟨[(4, ⟨.active, 4, 0x100000, 0x200000, 9, 0, 8, 7, 0, 8, 0, 0, none, 0⟩)]⟩, jobs := [⟨0, 4, 7, 0x55, 0x71, 0, 9, 0x8000, [], 0, [], [], false, false, [], [], 9, false, false⟩] } } : State).nrx.jobs.find? (fun x => !x.applied) = some (⟨0, 4, 7, 0x55, 0x71, 0, 9, 0x8000, [], 0, [], [], false, false, [], [], 9, false, false⟩ : RingCmd) ∧ (⟨0, 4, 7, 0x55, 0x71, 0, 9, 0x8000, [], 0, [], [], false, false, [], [], 9, false, false⟩ : RingCmd).status = 0 ∧ (⟨0, 4, 7, 0x55, 0x71, 0, 9, 0x8000, [], 0, [], [], false, false, [], [], 9, false, false⟩ : RingCmd).orphan = false ∧ (ringOf ({ stRel with nrx := { rings0 with rings := ⟨[(4, ⟨.active, 4, 0x100000, 0x200000, 9, 0, 8, 7, 0, 8, 0, 0, none, 0⟩)]⟩, jobs := [⟨0, 4, 7, 0x55, 0x71, 0, 9, 0x8000, [], 0, [], [], false, false, [], [], 9, false, false⟩] } } : State) (⟨0, 4, 7, 0x55, 0x71, 0, 9, 0x8000, [], 0, [], [], false, false, [], [], 9, false, false⟩ : RingCmd).part (⟨0, 4, 7, 0x55, 0x71, 0, 9, 0x8000, [], 0, [], [], false, false, [], [], 9, false, false⟩ : RingCmd).ring).st = .active ∧ opEngines ({ stRel with nrx := { rings0 with rings := ⟨[(4, ⟨.active, 4, 0x100000, 0x200000, 9, 0, 8, 7, 0, 8, 0, 0, none, 0⟩)]⟩, jobs := [⟨0, 4, 7, 0x55, 0x71, 0, 9, 0x8000, [], 0, [], [], false, false, [], [], 9, false, false⟩] } } : State) (⟨0, 4, 7, 0x55, 0x71, 0, 9, 0x8000, [], 0, [], [], false, false, [], [], 9, false, false⟩ : RingCmd).op = true ∧ (⟨0, 4, 7, 0x55, 0x71, 0, 9, 0x8000, [], 0, [], [], false, false, [], [], 9, false, false⟩ : RingCmd).op = 0x71 := by decide

theorem wit_RingCommandsTakeEffect_12 : nrxRuns ({ stRel with nrx := { rings0 with rings := ⟨[(4, ⟨.active, 4, 0x100000, 0x200000, 9, 0, 8, 7, 0, 8, 0, 0, none, 0⟩)]⟩, jobs := [⟨0, 4, 7, 0x55, 0x72, 0, 0, 0x8000, [9], 0, [], [], false, false, [], [], 9, false, false⟩] } } : State) = true ∧ ({ stRel with nrx := { rings0 with rings := ⟨[(4, ⟨.active, 4, 0x100000, 0x200000, 9, 0, 8, 7, 0, 8, 0, 0, none, 0⟩)]⟩, jobs := [⟨0, 4, 7, 0x55, 0x72, 0, 0, 0x8000, [9], 0, [], [], false, false, [], [], 9, false, false⟩] } } : State).nrx.jobs.find? (fun x => !x.applied) = some (⟨0, 4, 7, 0x55, 0x72, 0, 0, 0x8000, [9], 0, [], [], false, false, [], [], 9, false, false⟩ : RingCmd) ∧ (⟨0, 4, 7, 0x55, 0x72, 0, 0, 0x8000, [9], 0, [], [], false, false, [], [], 9, false, false⟩ : RingCmd).status = 0 ∧ (⟨0, 4, 7, 0x55, 0x72, 0, 0, 0x8000, [9], 0, [], [], false, false, [], [], 9, false, false⟩ : RingCmd).orphan = false ∧ (ringOf ({ stRel with nrx := { rings0 with rings := ⟨[(4, ⟨.active, 4, 0x100000, 0x200000, 9, 0, 8, 7, 0, 8, 0, 0, none, 0⟩)]⟩, jobs := [⟨0, 4, 7, 0x55, 0x72, 0, 0, 0x8000, [9], 0, [], [], false, false, [], [], 9, false, false⟩] } } : State) (⟨0, 4, 7, 0x55, 0x72, 0, 0, 0x8000, [9], 0, [], [], false, false, [], [], 9, false, false⟩ : RingCmd).part (⟨0, 4, 7, 0x55, 0x72, 0, 0, 0x8000, [9], 0, [], [], false, false, [], [], 9, false, false⟩ : RingCmd).ring).st = .active ∧ opEngines ({ stRel with nrx := { rings0 with rings := ⟨[(4, ⟨.active, 4, 0x100000, 0x200000, 9, 0, 8, 7, 0, 8, 0, 0, none, 0⟩)]⟩, jobs := [⟨0, 4, 7, 0x55, 0x72, 0, 0, 0x8000, [9], 0, [], [], false, false, [], [], 9, false, false⟩] } } : State) (⟨0, 4, 7, 0x55, 0x72, 0, 0, 0x8000, [9], 0, [], [], false, false, [], [], 9, false, false⟩ : RingCmd).op = true ∧ (⟨0, 4, 7, 0x55, 0x72, 0, 0, 0x8000, [9], 0, [], [], false, false, [], [], 9, false, false⟩ : RingCmd).op = 0x72 := by decide

theorem wit_RingCommandsTakeEffect_13 : nrxRuns ({ stRel with nrx := { rings0 with rings := ⟨[(4, ⟨.active, 4, 0x100000, 0x200000, 9, 0, 8, 7, 0, 8, 0, 0, none, 0⟩)]⟩, jobs := [⟨0, 4, 7, 0x55, 0x73, 2, 1, 0x8000, [9], 0, [], [], false, false, [], [], 9, false, false⟩] } } : State) = true ∧ ({ stRel with nrx := { rings0 with rings := ⟨[(4, ⟨.active, 4, 0x100000, 0x200000, 9, 0, 8, 7, 0, 8, 0, 0, none, 0⟩)]⟩, jobs := [⟨0, 4, 7, 0x55, 0x73, 2, 1, 0x8000, [9], 0, [], [], false, false, [], [], 9, false, false⟩] } } : State).nrx.jobs.find? (fun x => !x.applied) = some (⟨0, 4, 7, 0x55, 0x73, 2, 1, 0x8000, [9], 0, [], [], false, false, [], [], 9, false, false⟩ : RingCmd) ∧ (⟨0, 4, 7, 0x55, 0x73, 2, 1, 0x8000, [9], 0, [], [], false, false, [], [], 9, false, false⟩ : RingCmd).status = 0 ∧ (⟨0, 4, 7, 0x55, 0x73, 2, 1, 0x8000, [9], 0, [], [], false, false, [], [], 9, false, false⟩ : RingCmd).orphan = false ∧ (ringOf ({ stRel with nrx := { rings0 with rings := ⟨[(4, ⟨.active, 4, 0x100000, 0x200000, 9, 0, 8, 7, 0, 8, 0, 0, none, 0⟩)]⟩, jobs := [⟨0, 4, 7, 0x55, 0x73, 2, 1, 0x8000, [9], 0, [], [], false, false, [], [], 9, false, false⟩] } } : State) (⟨0, 4, 7, 0x55, 0x73, 2, 1, 0x8000, [9], 0, [], [], false, false, [], [], 9, false, false⟩ : RingCmd).part (⟨0, 4, 7, 0x55, 0x73, 2, 1, 0x8000, [9], 0, [], [], false, false, [], [], 9, false, false⟩ : RingCmd).ring).st = .active ∧ opEngines ({ stRel with nrx := { rings0 with rings := ⟨[(4, ⟨.active, 4, 0x100000, 0x200000, 9, 0, 8, 7, 0, 8, 0, 0, none, 0⟩)]⟩, jobs := [⟨0, 4, 7, 0x55, 0x73, 2, 1, 0x8000, [9], 0, [], [], false, false, [], [], 9, false, false⟩] } } : State) (⟨0, 4, 7, 0x55, 0x73, 2, 1, 0x8000, [9], 0, [], [], false, false, [], [], 9, false, false⟩ : RingCmd).op = true ∧ (⟨0, 4, 7, 0x55, 0x73, 2, 1, 0x8000, [9], 0, [], [], false, false, [], [], 9, false, false⟩ : RingCmd).op = 0x73 ∧ (⟨0, 4, 7, 0x55, 0x73, 2, 1, 0x8000, [9], 0, [], [], false, false, [], [], 9, false, false⟩ : RingCmd).arg.testBit 7 = false := by decide

theorem wit_RingCommandsTakeEffect_14 : nrxRuns ({ stRel with nrx := { rings0 with rings := ⟨[(4, ⟨.active, 4, 0x100000, 0x200000, 9, 0, 8, 7, 0, 8, 0, 0, none, 0⟩)]⟩, jobs := [⟨0, 4, 7, 0x55, 0x73, 130, 1, 0x8000, [9], 0, [], [], false, false, [], [], 9, false, false⟩] } } : State) = true ∧ ({ stRel with nrx := { rings0 with rings := ⟨[(4, ⟨.active, 4, 0x100000, 0x200000, 9, 0, 8, 7, 0, 8, 0, 0, none, 0⟩)]⟩, jobs := [⟨0, 4, 7, 0x55, 0x73, 130, 1, 0x8000, [9], 0, [], [], false, false, [], [], 9, false, false⟩] } } : State).nrx.jobs.find? (fun x => !x.applied) = some (⟨0, 4, 7, 0x55, 0x73, 130, 1, 0x8000, [9], 0, [], [], false, false, [], [], 9, false, false⟩ : RingCmd) ∧ (⟨0, 4, 7, 0x55, 0x73, 130, 1, 0x8000, [9], 0, [], [], false, false, [], [], 9, false, false⟩ : RingCmd).status = 0 ∧ (⟨0, 4, 7, 0x55, 0x73, 130, 1, 0x8000, [9], 0, [], [], false, false, [], [], 9, false, false⟩ : RingCmd).orphan = false ∧ (ringOf ({ stRel with nrx := { rings0 with rings := ⟨[(4, ⟨.active, 4, 0x100000, 0x200000, 9, 0, 8, 7, 0, 8, 0, 0, none, 0⟩)]⟩, jobs := [⟨0, 4, 7, 0x55, 0x73, 130, 1, 0x8000, [9], 0, [], [], false, false, [], [], 9, false, false⟩] } } : State) (⟨0, 4, 7, 0x55, 0x73, 130, 1, 0x8000, [9], 0, [], [], false, false, [], [], 9, false, false⟩ : RingCmd).part (⟨0, 4, 7, 0x55, 0x73, 130, 1, 0x8000, [9], 0, [], [], false, false, [], [], 9, false, false⟩ : RingCmd).ring).st = .active ∧ opEngines ({ stRel with nrx := { rings0 with rings := ⟨[(4, ⟨.active, 4, 0x100000, 0x200000, 9, 0, 8, 7, 0, 8, 0, 0, none, 0⟩)]⟩, jobs := [⟨0, 4, 7, 0x55, 0x73, 130, 1, 0x8000, [9], 0, [], [], false, false, [], [], 9, false, false⟩] } } : State) (⟨0, 4, 7, 0x55, 0x73, 130, 1, 0x8000, [9], 0, [], [], false, false, [], [], 9, false, false⟩ : RingCmd).op = true ∧ (⟨0, 4, 7, 0x55, 0x73, 130, 1, 0x8000, [9], 0, [], [], false, false, [], [], 9, false, false⟩ : RingCmd).op = 0x73 ∧ (⟨0, 4, 7, 0x55, 0x73, 130, 1, 0x8000, [9], 0, [], [], false, false, [], [], 9, false, false⟩ : RingCmd).arg.testBit 7 = true := by decide

theorem wit_RingCommandsTakeEffect_15 : nrxRuns ({ stRel with nrx := { rings0 with rings := ⟨[(4, ⟨.active, 4, 0x100000, 0x200000, 9, 0, 8, 7, 0, 8, 0, 0, none, 0⟩)]⟩, jobs := [⟨0, 4, 7, 0x55, 0x74, 2, 4096, 0x8000, [9], 0, [], [], false, false, [], [], 9, false, false⟩] } } : State) = true ∧ ({ stRel with nrx := { rings0 with rings := ⟨[(4, ⟨.active, 4, 0x100000, 0x200000, 9, 0, 8, 7, 0, 8, 0, 0, none, 0⟩)]⟩, jobs := [⟨0, 4, 7, 0x55, 0x74, 2, 4096, 0x8000, [9], 0, [], [], false, false, [], [], 9, false, false⟩] } } : State).nrx.jobs.find? (fun x => !x.applied) = some (⟨0, 4, 7, 0x55, 0x74, 2, 4096, 0x8000, [9], 0, [], [], false, false, [], [], 9, false, false⟩ : RingCmd) ∧ (⟨0, 4, 7, 0x55, 0x74, 2, 4096, 0x8000, [9], 0, [], [], false, false, [], [], 9, false, false⟩ : RingCmd).status = 0 ∧ (⟨0, 4, 7, 0x55, 0x74, 2, 4096, 0x8000, [9], 0, [], [], false, false, [], [], 9, false, false⟩ : RingCmd).orphan = false ∧ (ringOf ({ stRel with nrx := { rings0 with rings := ⟨[(4, ⟨.active, 4, 0x100000, 0x200000, 9, 0, 8, 7, 0, 8, 0, 0, none, 0⟩)]⟩, jobs := [⟨0, 4, 7, 0x55, 0x74, 2, 4096, 0x8000, [9], 0, [], [], false, false, [], [], 9, false, false⟩] } } : State) (⟨0, 4, 7, 0x55, 0x74, 2, 4096, 0x8000, [9], 0, [], [], false, false, [], [], 9, false, false⟩ : RingCmd).part (⟨0, 4, 7, 0x55, 0x74, 2, 4096, 0x8000, [9], 0, [], [], false, false, [], [], 9, false, false⟩ : RingCmd).ring).st = .active ∧ opEngines ({ stRel with nrx := { rings0 with rings := ⟨[(4, ⟨.active, 4, 0x100000, 0x200000, 9, 0, 8, 7, 0, 8, 0, 0, none, 0⟩)]⟩, jobs := [⟨0, 4, 7, 0x55, 0x74, 2, 4096, 0x8000, [9], 0, [], [], false, false, [], [], 9, false, false⟩] } } : State) (⟨0, 4, 7, 0x55, 0x74, 2, 4096, 0x8000, [9], 0, [], [], false, false, [], [], 9, false, false⟩ : RingCmd).op = true ∧ (⟨0, 4, 7, 0x55, 0x74, 2, 4096, 0x8000, [9], 0, [], [], false, false, [], [], 9, false, false⟩ : RingCmd).op = 0x74 ∧ (⟨0, 4, 7, 0x55, 0x74, 2, 4096, 0x8000, [9], 0, [], [], false, false, [], [], 9, false, false⟩ : RingCmd).arg.testBit 7 = false := by decide

theorem wit_RingCommandsTakeEffect_16 : nrxRuns ({ stRel with nrx := { rings0 with rings := ⟨[(4, ⟨.active, 4, 0x100000, 0x200000, 9, 0, 8, 7, 0, 8, 0, 0, none, 0⟩)]⟩, jobs := [⟨0, 4, 7, 0x55, 0x74, 130, 4096, 0x8000, [9], 0, [], [], false, false, [], [], 9, false, false⟩] } } : State) = true ∧ ({ stRel with nrx := { rings0 with rings := ⟨[(4, ⟨.active, 4, 0x100000, 0x200000, 9, 0, 8, 7, 0, 8, 0, 0, none, 0⟩)]⟩, jobs := [⟨0, 4, 7, 0x55, 0x74, 130, 4096, 0x8000, [9], 0, [], [], false, false, [], [], 9, false, false⟩] } } : State).nrx.jobs.find? (fun x => !x.applied) = some (⟨0, 4, 7, 0x55, 0x74, 130, 4096, 0x8000, [9], 0, [], [], false, false, [], [], 9, false, false⟩ : RingCmd) ∧ (⟨0, 4, 7, 0x55, 0x74, 130, 4096, 0x8000, [9], 0, [], [], false, false, [], [], 9, false, false⟩ : RingCmd).status = 0 ∧ (⟨0, 4, 7, 0x55, 0x74, 130, 4096, 0x8000, [9], 0, [], [], false, false, [], [], 9, false, false⟩ : RingCmd).orphan = false ∧ (ringOf ({ stRel with nrx := { rings0 with rings := ⟨[(4, ⟨.active, 4, 0x100000, 0x200000, 9, 0, 8, 7, 0, 8, 0, 0, none, 0⟩)]⟩, jobs := [⟨0, 4, 7, 0x55, 0x74, 130, 4096, 0x8000, [9], 0, [], [], false, false, [], [], 9, false, false⟩] } } : State) (⟨0, 4, 7, 0x55, 0x74, 130, 4096, 0x8000, [9], 0, [], [], false, false, [], [], 9, false, false⟩ : RingCmd).part (⟨0, 4, 7, 0x55, 0x74, 130, 4096, 0x8000, [9], 0, [], [], false, false, [], [], 9, false, false⟩ : RingCmd).ring).st = .active ∧ opEngines ({ stRel with nrx := { rings0 with rings := ⟨[(4, ⟨.active, 4, 0x100000, 0x200000, 9, 0, 8, 7, 0, 8, 0, 0, none, 0⟩)]⟩, jobs := [⟨0, 4, 7, 0x55, 0x74, 130, 4096, 0x8000, [9], 0, [], [], false, false, [], [], 9, false, false⟩] } } : State) (⟨0, 4, 7, 0x55, 0x74, 130, 4096, 0x8000, [9], 0, [], [], false, false, [], [], 9, false, false⟩ : RingCmd).op = true ∧ (⟨0, 4, 7, 0x55, 0x74, 130, 4096, 0x8000, [9], 0, [], [], false, false, [], [], 9, false, false⟩ : RingCmd).op = 0x74 ∧ (⟨0, 4, 7, 0x55, 0x74, 130, 4096, 0x8000, [9], 0, [], [], false, false, [], [], 9, false, false⟩ : RingCmd).arg.testBit 7 = true := by decide

theorem wit_RingCommandsTakeEffect_17 : ({ stRel with nrx := { rings0 with rings := ⟨[(4, ⟨.active, 4, 0x100000, 0x200000, 9, 0, 8, 7, 0, 8, 0, 0, none, 0⟩)]⟩, jobs := [], capsuleWait := [⟨0, 4, 7, 0x55, 0x75, 0, 4096, 0x8000, [], 0, [], [], false, true, [], [], 9, false, false⟩] } } : State).nrx.capsuleWait.find? (fun x => x.ready) = some (⟨0, 4, 7, 0x55, 0x75, 0, 4096, 0x8000, [], 0, [], [], false, true, [], [], 9, false, false⟩ : RingCmd) ∧ nrxRuns ({ stRel with nrx := { rings0 with rings := ⟨[(4, ⟨.active, 4, 0x100000, 0x200000, 9, 0, 8, 7, 0, 8, 0, 0, none, 0⟩)]⟩, jobs := [], capsuleWait := [⟨0, 4, 7, 0x55, 0x75, 0, 4096, 0x8000, [], 0, [], [], false, true, [], [], 9, false, false⟩] } } : State) = true ∧ entryFits ({ stRel with nrx := { rings0 with rings := ⟨[(4, ⟨.active, 4, 0x100000, 0x200000, 9, 0, 8, 7, 0, 8, 0, 0, none, 0⟩)]⟩, jobs := [], capsuleWait := [⟨0, 4, 7, 0x55, 0x75, 0, 4096, 0x8000, [], 0, [], [], false, true, [], [], 9, false, false⟩] } } : State) = true ∧ stalled ({ stRel with nrx := { rings0 with rings := ⟨[(4, ⟨.active, 4, 0x100000, 0x200000, 9, 0, 8, 7, 0, 8, 0, 0, none, 0⟩)]⟩, jobs := [], capsuleWait := [⟨0, 4, 7, 0x55, 0x75, 0, 4096, 0x8000, [], 0, [], [], false, true, [], [], 9, false, false⟩] } } : State) = false := by decide

theorem wit_RingCommandsTakeEffect_18 : ({ stRel with nrx := { rings0 with rings := ⟨[(4, ⟨.active, 4, 0x100000, 0x200000, 9, 0, 8, 7, 0, 8, 0, 0, none, 0⟩)]⟩, jobs := [⟨0, 4, 7, 0x55, 0x02, 0, 3, 0x8000, [], 0, [], [], false, false, [], [], 9, false, false⟩] } } : State).nrx.jobs.find? (fun x => !x.applied) = some (⟨0, 4, 7, 0x55, 0x02, 0, 3, 0x8000, [], 0, [], [], false, false, [], [], 9, false, false⟩ : RingCmd) ∧ (((.ledgerExtend : Instr) = .ledgerExtend ∧ (⟨0, 4, 7, 0x55, 0x02, 0, 3, 0x8000, [], 0, [], [], false, false, [], [], 9, false, false⟩ : RingCmd).op ≠ 0x01) ∨ ((.ledgerExtend : Instr) = .ledgerRead ∧ (⟨0, 4, 7, 0x55, 0x02, 0, 3, 0x8000, [], 0, [], [], false, false, [], [], 9, false, false⟩ : RingCmd).op ≠ 0x02) ∨ ((.ledgerExtend : Instr) = .quote ∧ (⟨0, 4, 7, 0x55, 0x02, 0, 3, 0x8000, [], 0, [], [], false, false, [], [], 9, false, false⟩ : RingCmd).op ≠ 0x10) ∨ ((.ledgerExtend : Instr) = .quotePlatform ∧ (⟨0, 4, 7, 0x55, 0x02, 0, 3, 0x8000, [], 0, [], [], false, false, [], [], 9, false, false⟩ : RingCmd).op ≠ 0x11) ∨ ((.ledgerExtend : Instr) = .counterIncrement ∧ (⟨0, 4, 7, 0x55, 0x02, 0, 3, 0x8000, [], 0, [], [], false, false, [], [], 9, false, false⟩ : RingCmd).op ≠ 0x20) ∨ ((.ledgerExtend : Instr) = .counterRead ∧ (⟨0, 4, 7, 0x55, 0x02, 0, 3, 0x8000, [], 0, [], [], false, false, [], [], 9, false, false⟩ : RingCmd).op ≠ 0x21) ∨ ((.ledgerExtend : Instr) = .seal ∧ (⟨0, 4, 7, 0x55, 0x02, 0, 3, 0x8000, [], 0, [], [], false, false, [], [], 9, false, false⟩ : RingCmd).op ≠ 0x30) ∨ ((.ledgerExtend : Instr) = .unseal ∧ (⟨0, 4, 7, 0x55, 0x02, 0, 3, 0x8000, [], 0, [], [], false, false, [], [], 9, false, false⟩ : RingCmd).op ≠ 0x31) ∨ ((.ledgerExtend : Instr) = .journalNote ∧ (⟨0, 4, 7, 0x55, 0x02, 0, 3, 0x8000, [], 0, [], [], false, false, [], [], 9, false, false⟩ : RingCmd).op ≠ 0x40) ∨ ((.ledgerExtend : Instr) = .ringCreate ∧ (⟨0, 4, 7, 0x55, 0x02, 0, 3, 0x8000, [], 0, [], [], false, false, [], [], 9, false, false⟩ : RingCmd).op ≠ 0x70) ∨ ((.ledgerExtend : Instr) = .ringDestroy ∧ (⟨0, 4, 7, 0x55, 0x02, 0, 3, 0x8000, [], 0, [], [], false, false, [], [], 9, false, false⟩ : RingCmd).op ≠ 0x71) ∨ ((.ledgerExtend : Instr) = .quotaSet ∧ (⟨0, 4, 7, 0x55, 0x02, 0, 3, 0x8000, [], 0, [], [], false, false, [], [], 9, false, false⟩ : RingCmd).op ≠ 0x72) ∨ ((.ledgerExtend : Instr) = .ledgerAlloc ∧ ((⟨0, 4, 7, 0x55, 0x02, 0, 3, 0x8000, [], 0, [], [], false, false, [], [], 9, false, false⟩ : RingCmd).op ≠ 0x73 ∨ (⟨0, 4, 7, 0x55, 0x02, 0, 3, 0x8000, [], 0, [], [], false, false, [], [], 9, false, false⟩ : RingCmd).arg.testBit 7 = true)) ∨ ((.ledgerExtend : Instr) = .ledgerRelease ∧ ((⟨0, 4, 7, 0x55, 0x02, 0, 3, 0x8000, [], 0, [], [], false, false, [], [], 9, false, false⟩ : RingCmd).op ≠ 0x73 ∨ (⟨0, 4, 7, 0x55, 0x02, 0, 3, 0x8000, [], 0, [], [], false, false, [], [], 9, false, false⟩ : RingCmd).arg.testBit 7 = false)) ∨ ((.ledgerExtend : Instr) = .counterAlloc ∧ ((⟨0, 4, 7, 0x55, 0x02, 0, 3, 0x8000, [], 0, [], [], false, false, [], [], 9, false, false⟩ : RingCmd).op ≠ 0x74 ∨ (⟨0, 4, 7, 0x55, 0x02, 0, 3, 0x8000, [], 0, [], [], false, false, [], [], 9, false, false⟩ : RingCmd).arg.testBit 7 = true)) ∨ ((.ledgerExtend : Instr) = .counterRelease ∧ ((⟨0, 4, 7, 0x55, 0x02, 0, 3, 0x8000, [], 0, [], [], false, false, [], [], 9, false, false⟩ : RingCmd).op ≠ 0x74 ∨ (⟨0, 4, 7, 0x55, 0x02, 0, 3, 0x8000, [], 0, [], [], false, false, [], [], 9, false, false⟩ : RingCmd).arg.testBit 7 = false))) := by decide

theorem wit_RingCommandsTakeEffect_19 : (upDga (fun d => { d with engines := 0 }) ({ stRel with nrx := { rings0 with rings := ⟨[(4, ⟨.active, 4, 0x100000, 0x200000, 9, 0, 8, 7, 0, 8, 0, 0, none, 0⟩)]⟩, jobs := [⟨0, 4, 7, 0x55, 0x01, 0, 3, 0x8000, [], 0, [], [], false, false, [], [], 9, false, false⟩] } }) : State).dga.engines = 0 ∧ (upDga (fun d => { d with engines := 0 }) ({ stRel with nrx := { rings0 with rings := ⟨[(4, ⟨.active, 4, 0x100000, 0x200000, 9, 0, 8, 7, 0, 8, 0, 0, none, 0⟩)]⟩, jobs := [⟨0, 4, 7, 0x55, 0x01, 0, 3, 0x8000, [], 0, [], [], false, false, [], [], 9, false, false⟩] } }) : State).dga.units = tabEmpty ∧ ((.ledgerExtend : Instr) = .ledgerExtend ∨ (.ledgerExtend : Instr) = .quote ∨ (.ledgerExtend : Instr) = .quotePlatform) := by decide

theorem wit_RingCommandsTakeEffect_20 : (stRel : State).nrx.capsuleWait.find? (fun x => x.ready) = none := by decide

theorem wit_RingCommandsTakeEffect_21 : (stRel : State).nrx.jobs.find? (fun x => !x.applied) = none ∧ (.seal : Instr) ∈ [.ledgerExtend, .ledgerRead, .quote, .quotePlatform, .counterIncrement, .counterRead, .seal, .unseal, .journalNote, .ringCreate, .ringDestroy, .quotaSet, .ledgerAlloc, .ledgerRelease, .counterAlloc, .counterRelease] := by decide

theorem wit_RingsAndHosts_1 : hostRings ({ stRel with nrx := { rings0 with rings := ⟨[(4, ⟨.active, 4, 0x100000, 0x200000, 9, 0, 8, 8, 0, 10, 0, 0, none, 0⟩)]⟩, jobs := [] } } : State) (0 : BitVec 2).toNat (false : Bool) = true ∧ ({ stRel with nrx := { rings0 with rings := ⟨[(4, ⟨.active, 4, 0x100000, 0x200000, 9, 0, 8, 8, 0, 10, 0, 0, none, 0⟩)]⟩, jobs := [] } } : State).lake.failover = false ∧ (ringOf ({ stRel with nrx := { rings0 with rings := ⟨[(4, ⟨.active, 4, 0x100000, 0x200000, 9, 0, 8, 8, 0, 10, 0, 0, none, 0⟩)]⟩, jobs := [] } } : State) (0 : BitVec 2).toNat (4 : BitVec 18).toNat).st = .active ∧ ({ stRel with nrx := { rings0 with rings := ⟨[(4, ⟨.active, 4, 0x100000, 0x200000, 9, 0, 8, 8, 0, 10, 0, 0, none, 0⟩)]⟩, jobs := [] } } : State).nrx.jobs = [] ∧ (3 : BitVec 32).toNat < ringDepth (ringOf ({ stRel with nrx := { rings0 with rings := ⟨[(4, ⟨.active, 4, 0x100000, 0x200000, 9, 0, 8, 8, 0, 10, 0, 0, none, 0⟩)]⟩, jobs := [] } } : State) (0 : BitVec 2).toNat (4 : BitVec 18).toNat) := by decide

theorem wit_RingsAndHosts_2 : hostRings ({ stRel with nrx := { rings0 with rings := ⟨[(4, ⟨.active, 4, 0x100000, 0x200000, 9, 0, 8, 8, 0, 10, 0, 0, none, 0⟩)]⟩, jobs := [] } } : State) (0 : BitVec 2).toNat (false : Bool) = true ∧ ({ stRel with nrx := { rings0 with rings := ⟨[(4, ⟨.active, 4, 0x100000, 0x200000, 9, 0, 8, 8, 0, 10, 0, 0, none, 0⟩)]⟩, jobs := [] } } : State).lake.failover = false ∧ (ringOf ({ stRel with nrx := { rings0 with rings := ⟨[(4, ⟨.active, 4, 0x100000, 0x200000, 9, 0, 8, 8, 0, 10, 0, 0, none, 0⟩)]⟩, jobs := [] } } : State) (0 : BitVec 2).toNat (4 : BitVec 18).toNat).st = .active ∧ ({ stRel with nrx := { rings0 with rings := ⟨[(4, ⟨.active, 4, 0x100000, 0x200000, 9, 0, 8, 8, 0, 10, 0, 0, none, 0⟩)]⟩, jobs := [] } } : State).nrx.jobs = [] ∧ ringDepth (ringOf ({ stRel with nrx := { rings0 with rings := ⟨[(4, ⟨.active, 4, 0x100000, 0x200000, 9, 0, 8, 8, 0, 10, 0, 0, none, 0⟩)]⟩, jobs := [] } } : State) (0 : BitVec 2).toNat (4 : BitVec 18).toNat) ≤ (16 : BitVec 32).toNat := by decide

theorem wit_RingsAndHosts_3 : hostRings ({ stRel with nrx := { rings0 with rings := ⟨[(4, ⟨.active, 4, 0x100000, 0x200000, 9, 0, 8, 8, 0, 10, 0, 0, none, 0⟩)]⟩, jobs := [] } } : State) (0 : BitVec 2).toNat (false : Bool) = true ∧ ({ stRel with nrx := { rings0 with rings := ⟨[(4, ⟨.active, 4, 0x100000, 0x200000, 9, 0, 8, 8, 0, 10, 0, 0, none, 0⟩)]⟩, jobs := [] } } : State).lake.failover = false ∧ (ringOf ({ stRel with nrx := { rings0 with rings := ⟨[(4, ⟨.active, 4, 0x100000, 0x200000, 9, 0, 8, 8, 0, 10, 0, 0, none, 0⟩)]⟩, jobs := [] } } : State) (0 : BitVec 2).toNat (4 : BitVec 18).toNat).st = .active ∧ (3 : BitVec 32).toNat < ringDepth (ringOf ({ stRel with nrx := { rings0 with rings := ⟨[(4, ⟨.active, 4, 0x100000, 0x200000, 9, 0, 8, 8, 0, 10, 0, 0, none, 0⟩)]⟩, jobs := [] } } : State) (0 : BitVec 2).toNat (4 : BitVec 18).toNat) := by decide

theorem wit_RingsAndHosts_4 : hostRings ({ stRel with nrx := { rings0 with rings := ⟨[(4, ⟨.active, 4, 0x100000, 0x200000, 9, 0, 8, 8, 0, 10, 0, 0, none, 0⟩)]⟩, jobs := [] } } : State) (0 : BitVec 2).toNat (false : Bool) = true ∧ ({ stRel with nrx := { rings0 with rings := ⟨[(4, ⟨.active, 4, 0x100000, 0x200000, 9, 0, 8, 8, 0, 10, 0, 0, none, 0⟩)]⟩, jobs := [] } } : State).lake.failover = false ∧ (ringOf ({ stRel with nrx := { rings0 with rings := ⟨[(4, ⟨.active, 4, 0x100000, 0x200000, 9, 0, 8, 8, 0, 10, 0, 0, none, 0⟩)]⟩, jobs := [] } } : State) (0 : BitVec 2).toNat (4 : BitVec 18).toNat).st = .active ∧ ringDepth (ringOf ({ stRel with nrx := { rings0 with rings := ⟨[(4, ⟨.active, 4, 0x100000, 0x200000, 9, 0, 8, 8, 0, 10, 0, 0, none, 0⟩)]⟩, jobs := [] } } : State) (0 : BitVec 2).toNat (4 : BitVec 18).toNat) ≤ (16 : BitVec 32).toNat := by decide

theorem wit_RingsAndHosts_5 : hostRings (upLake (fun l => { l with failover := true }) ({ stRel with nrx := { rings0 with rings := ⟨[(4, ⟨.active, 4, 0x100000, 0x200000, 9, 0, 8, 8, 0, 10, 0, 0, none, 0⟩)]⟩, jobs := [] } }) : State) (0 : BitVec 2).toNat (false : Bool) = true ∧ (upLake (fun l => { l with failover := true }) ({ stRel with nrx := { rings0 with rings := ⟨[(4, ⟨.active, 4, 0x100000, 0x200000, 9, 0, 8, 8, 0, 10, 0, 0, none, 0⟩)]⟩, jobs := [] } }) : State).lake.failover = true := by decide

theorem wit_RingsAndHosts_6 : ringsRec ({ stRel with nrx := { rings0 with rings := ⟨[(4, ⟨.active, 4, 0x100000, 0x200000, 9, 0, 8, 8, 0, 10, 0, 0, none, 0⟩)]⟩, jobs := [], counterRuns := [⟨4096, 2, 0, 9⟩] } } : State) (0 : BitVec 2).toNat = some (⟨0, 4, 1, 10, 64, 64, 64⟩ : RingsRec) ∧ fetchOk ({ stRel with nrx := { rings0 with rings := ⟨[(4, ⟨.active, 4, 0x100000, 0x200000, 9, 0, 8, 8, 0, 10, 0, 0, none, 0⟩)]⟩, jobs := [], counterRuns := [⟨4096, 2, 0, 9⟩] } } : State) (0 : BitVec 2).toNat (4 : BitVec 18).toNat = true ∧ heldOf ({ stRel with nrx := { rings0 with rings := ⟨[(4, ⟨.active, 4, 0x100000, 0x200000, 9, 0, 8, 8, 0, 10, 0, 0, none, 0⟩)]⟩, jobs := [], counterRuns := [⟨4096, 2, 0, 9⟩] } } : State).nrx (0 : BitVec 2).toNat (4 : BitVec 18).toNat = none ∧ commandWaits ({ stRel with nrx := { rings0 with rings := ⟨[(4, ⟨.active, 4, 0x100000, 0x200000, 9, 0, 8, 8, 0, 10, 0, 0, none, 0⟩)]⟩, jobs := [], counterRuns := [⟨4096, 2, 0, 9⟩] } } : State) (⟨fit 64 [0x21, 0, 5, 0, 0, 0x10], true, [], none⟩ : Fetched).entry = false ∧ (ringOf ({ stRel with nrx := { rings0 with rings := ⟨[(4, ⟨.active, 4, 0x100000, 0x200000, 9, 0, 8, 8, 0, 10, 0, 0, none, 0⟩)]⟩, jobs := [], counterRuns := [⟨4096, 2, 0, 9⟩] } } : State) (0 : BitVec 2).toNat (4 : BitVec 18).toNat).st = .active ∧ ({ stRel with nrx := { rings0 with rings := ⟨[(4, ⟨.active, 4, 0x100000, 0x200000, 9, 0, 8, 8, 0, 10, 0, 0, none, 0⟩)]⟩, jobs := [], counterRuns := [⟨4096, 2, 0, 9⟩] } } : State).nrx.jobs = [] ∧ checkEntry ({ stRel with nrx := { rings0 with rings := ⟨[(4, ⟨.active, 4, 0x100000, 0x200000, 9, 0, 8, 8, 0, 10, 0, 0, none, 0⟩)]⟩, jobs := [], counterRuns := [⟨4096, 2, 0, 9⟩] } } : State) (0 : BitVec 2).toNat (4 : BitVec 18).toNat (ringOf ({ stRel with nrx := { rings0 with rings := ⟨[(4, ⟨.active, 4, 0x100000, 0x200000, 9, 0, 8, 8, 0, 10, 0, 0, none, 0⟩)]⟩, jobs := [], counterRuns := [⟨4096, 2, 0, 9⟩] } } : State) (0 : BitVec 2).toNat (4 : BitVec 18).toNat).tenant (⟨0, 4, 1, 10, 64, 64, 64⟩ : RingsRec) (⟨fit 64 [0x21, 0, 5, 0, 0, 0x10], true, [], none⟩ : Fetched).entry = 0 ∧ (entOp (⟨fit 64 [0x21, 0, 5, 0, 0, 0x10], true, [], none⟩ : Fetched).entry = 0x01 ∨ entOp (⟨fit 64 [0x21, 0, 5, 0, 0, 0x10], true, [], none⟩ : Fetched).entry = 0x02 ∨ entOp (⟨fit 64 [0x21, 0, 5, 0, 0, 0x10], true, [], none⟩ : Fetched).entry = 0x20 ∨ entOp (⟨fit 64 [0x21, 0, 5, 0, 0, 0x10], true, [], none⟩ : Fetched).entry = 0x21) := by decide

theorem wit_RingsAndHosts_7 : ringsRec ({ stRel with nrx := { rings0 with rings := ⟨[(4, ⟨.active, 4, 0x100000, 0x200000, 9, 0, 8, 8, 0, 10, 0, 0, none, 0⟩)]⟩, jobs := [] } } : State) (0 : BitVec 2).toNat = some (⟨0, 4, 1, 10, 64, 64, 64⟩ : RingsRec) ∧ fetchOk ({ stRel with nrx := { rings0 with rings := ⟨[(4, ⟨.active, 4, 0x100000, 0x200000, 9, 0, 8, 8, 0, 10, 0, 0, none, 0⟩)]⟩, jobs := [] } } : State) (0 : BitVec 2).toNat (4 : BitVec 18).toNat = true ∧ heldOf ({ stRel with nrx := { rings0 with rings := ⟨[(4, ⟨.active, 4, 0x100000, 0x200000, 9, 0, 8, 8, 0, 10, 0, 0, none, 0⟩)]⟩, jobs := [] } } : State).nrx (0 : BitVec 2).toNat (4 : BitVec 18).toNat = none ∧ commandWaits ({ stRel with nrx := { rings0 with rings := ⟨[(4, ⟨.active, 4, 0x100000, 0x200000, 9, 0, 8, 8, 0, 10, 0, 0, none, 0⟩)]⟩, jobs := [] } } : State) (⟨fit 64 [0x99], true, [], none⟩ : Fetched).entry = false ∧ (ringOf ({ stRel with nrx := { rings0 with rings := ⟨[(4, ⟨.active, 4, 0x100000, 0x200000, 9, 0, 8, 8, 0, 10, 0, 0, none, 0⟩)]⟩, jobs := [] } } : State) (0 : BitVec 2).toNat (4 : BitVec 18).toNat).st = .active ∧ ({ stRel with nrx := { rings0 with rings := ⟨[(4, ⟨.active, 4, 0x100000, 0x200000, 9, 0, 8, 8, 0, 10, 0, 0, none, 0⟩)]⟩, jobs := [] } } : State).nrx.jobs = [] ∧ checkEntry ({ stRel with nrx := { rings0 with rings := ⟨[(4, ⟨.active, 4, 0x100000, 0x200000, 9, 0, 8, 8, 0, 10, 0, 0, none, 0⟩)]⟩, jobs := [] } } : State) (0 : BitVec 2).toNat (4 : BitVec 18).toNat (ringOf ({ stRel with nrx := { rings0 with rings := ⟨[(4, ⟨.active, 4, 0x100000, 0x200000, 9, 0, 8, 8, 0, 10, 0, 0, none, 0⟩)]⟩, jobs := [] } } : State) (0 : BitVec 2).toNat (4 : BitVec 18).toNat).tenant (⟨0, 4, 1, 10, 64, 64, 64⟩ : RingsRec) (⟨fit 64 [0x99], true, [], none⟩ : Fetched).entry ≠ 0 := by decide

theorem wit_RingsAndHosts_8 : ringsRec ({ stRel with nrx := { rings0 with rings := ⟨[(4, ⟨.active, 4, 0x100000, 0x200000, 9, 0, 8, 8, 0, 10, 0, 0, none, 0⟩)]⟩, jobs := [] } } : State) (0 : BitVec 2).toNat = some (⟨0, 4, 1, 10, 64, 64, 64⟩ : RingsRec) ∧ fetchOk ({ stRel with nrx := { rings0 with rings := ⟨[(4, ⟨.active, 4, 0x100000, 0x200000, 9, 0, 8, 8, 0, 10, 0, 0, none, 0⟩)]⟩, jobs := [] } } : State) (0 : BitVec 2).toNat (4 : BitVec 18).toNat = true ∧ heldOf ({ stRel with nrx := { rings0 with rings := ⟨[(4, ⟨.active, 4, 0x100000, 0x200000, 9, 0, 8, 8, 0, 10, 0, 0, none, 0⟩)]⟩, jobs := [] } } : State).nrx (0 : BitVec 2).toNat (4 : BitVec 18).toNat = none ∧ againOf ({ stRel with nrx := { rings0 with rings := ⟨[(4, ⟨.active, 4, 0x100000, 0x200000, 9, 0, 8, 8, 0, 10, 0, 0, none, 0⟩)]⟩, jobs := [] } } : State).nrx (0 : BitVec 2).toNat (4 : BitVec 18).toNat = none := by decide

theorem wit_RingsAndHosts_9 : ringsRec ({ ({ stRel with nrx := { rings0 with rings := ⟨[(4, ⟨.active, 4, 0x100000, 0x200000, 9, 0, 8, 8, 0, 10, 0, 0, none, 0⟩)]⟩, jobs := [], counterRuns := [⟨4096, 2, 0, 9⟩] } }) with pa := ⟨0, false⟩ } : State) (0 : BitVec 2).toNat = some (⟨0, 4, 1, 10, 64, 64, 64⟩ : RingsRec) ∧ fetchOk ({ ({ stRel with nrx := { rings0 with rings := ⟨[(4, ⟨.active, 4, 0x100000, 0x200000, 9, 0, 8, 8, 0, 10, 0, 0, none, 0⟩)]⟩, jobs := [], counterRuns := [⟨4096, 2, 0, 9⟩] } }) with pa := ⟨0, false⟩ } : State) (0 : BitVec 2).toNat (4 : BitVec 18).toNat = true ∧ heldOf ({ ({ stRel with nrx := { rings0 with rings := ⟨[(4, ⟨.active, 4, 0x100000, 0x200000, 9, 0, 8, 8, 0, 10, 0, 0, none, 0⟩)]⟩, jobs := [], counterRuns := [⟨4096, 2, 0, 9⟩] } }) with pa := ⟨0, false⟩ } : State).nrx (0 : BitVec 2).toNat (4 : BitVec 18).toNat = none ∧ commandWaits ({ ({ stRel with nrx := { rings0 with rings := ⟨[(4, ⟨.active, 4, 0x100000, 0x200000, 9, 0, 8, 8, 0, 10, 0, 0, none, 0⟩)]⟩, jobs := [], counterRuns := [⟨4096, 2, 0, 9⟩] } }) with pa := ⟨0, false⟩ } : State) (⟨fit 64 [0x21], true, [], none⟩ : Fetched).entry = true ∧ (ringOf ({ ({ stRel with nrx := { rings0 with rings := ⟨[(4, ⟨.active, 4, 0x100000, 0x200000, 9, 0, 8, 8, 0, 10, 0, 0, none, 0⟩)]⟩, jobs := [], counterRuns := [⟨4096, 2, 0, 9⟩] } }) with pa := ⟨0, false⟩ } : State) (0 : BitVec 2).toNat (4 : BitVec 18).toNat).st = .active ∧ ({ ({ stRel with nrx := { rings0 with rings := ⟨[(4, ⟨.active, 4, 0x100000, 0x200000, 9, 0, 8, 8, 0, 10, 0, 0, none, 0⟩)]⟩, jobs := [], counterRuns := [⟨4096, 2, 0, 9⟩] } }) with pa := ⟨0, false⟩ } : State).nrx.jobs = [] := by decide

theorem wit_RingsAndHosts_10 : ({ stRel with nrx := { rings0 with rings := ⟨[(4, ⟨.active, 4, 0x100000, 0x200000, 9, 0, 8, 7, 0, 8, 0, 0, none, 0⟩)]⟩, jobs := [⟨0, 4, 7, 0x55, 0x02, 0, 0, 0x8000, [], 0, [], [], true, true, [], [], 9, false, false⟩] } } : State).nrx.jobs.find? (fun x => decide (x.part = (0 : BitVec 2).toNat) && decide (x.ring = (4 : BitVec 18).toNat) && !x.orphan) = some (⟨0, 4, 7, 0x55, 0x02, 0, 0, 0x8000, [], 0, [], [], true, true, [], [], 9, false, false⟩ : RingCmd) ∧ nrxServes ({ stRel with nrx := { rings0 with rings := ⟨[(4, ⟨.active, 4, 0x100000, 0x200000, 9, 0, 8, 7, 0, 8, 0, 0, none, 0⟩)]⟩, jobs := [⟨0, 4, 7, 0x55, 0x02, 0, 0, 0x8000, [], 0, [], [], true, true, [], [], 9, false, false⟩] } } : State) (0 : BitVec 2).toNat = true ∧ (ringOf ({ stRel with nrx := { rings0 with rings := ⟨[(4, ⟨.active, 4, 0x100000, 0x200000, 9, 0, 8, 7, 0, 8, 0, 0, none, 0⟩)]⟩, jobs := [⟨0, 4, 7, 0x55, 0x02, 0, 0, 0x8000, [], 0, [], [], true, true, [], [], 9, false, false⟩] } } : State) (0 : BitVec 2).toNat (4 : BitVec 18).toNat).st = .active ∧ (⟨0, 4, 7, 0x55, 0x02, 0, 0, 0x8000, [], 0, [], [], true, true, [], [], 9, false, false⟩ : RingCmd).applied = true ∧ (⟨0, 4, 7, 0x55, 0x02, 0, 0, 0x8000, [], 0, [], [], true, true, [], [], 9, false, false⟩ : RingCmd).ready = true ∧ (⟨0, 4, 7, 0x55, 0x02, 0, 0, 0x8000, [], 0, [], [], true, true, [], [], 9, false, false⟩ : RingCmd).out = [] ∧ (ringOf ({ stRel with nrx := { rings0 with rings := ⟨[(4, ⟨.active, 4, 0x100000, 0x200000, 9, 0, 8, 7, 0, 8, 0, 0, none, 0⟩)]⟩, jobs := [⟨0, 4, 7, 0x55, 0x02, 0, 0, 0x8000, [], 0, [], [], true, true, [], [], 9, false, false⟩] } } : State) (0 : BitVec 2).toNat (4 : BitVec 18).toNat).posted - (ringOf ({ stRel with nrx := { rings0 with rings := ⟨[(4, ⟨.active, 4, 0x100000, 0x200000, 9, 0, 8, 7, 0, 8, 0, 0, none, 0⟩)]⟩, jobs := [⟨0, 4, 7, 0x55, 0x02, 0, 0, 0x8000, [], 0, [], [], true, true, [], [], 9, false, false⟩] } } : State) (0 : BitVec 2).toNat (4 : BitVec 18).toNat).taken < ringDepth (ringOf ({ stRel with nrx := { rings0 with rings := ⟨[(4, ⟨.active, 4, 0x100000, 0x200000, 9, 0, 8, 7, 0, 8, 0, 0, none, 0⟩)]⟩, jobs := [⟨0, 4, 7, 0x55, 0x02, 0, 0, 0x8000, [], 0, [], [], true, true, [], [], 9, false, false⟩] } } : State) (0 : BitVec 2).toNat (4 : BitVec 18).toNat) ∧ ({ stRel with nrx := { rings0 with rings := ⟨[(4, ⟨.active, 4, 0x100000, 0x200000, 9, 0, 8, 7, 0, 8, 0, 0, none, 0⟩)]⟩, jobs := [⟨0, 4, 7, 0x55, 0x02, 0, 0, 0x8000, [], 0, [], [], true, true, [], [], 9, false, false⟩] } } : State).nrx.accesses = [] := by decide

theorem wit_RingsAndHosts_11 : tabGet none ({ stRel with nrx := { rings0 with rings := ⟨[(4, ⟨.active, 4, 0x100000, 0x200000, 9, 0, 8, 7, 0, 8, 0, 0, none, 0⟩)]⟩, jobs := [], gaps := ⟨[(3, some true)]⟩ } } : State).nrx.gaps (2048 * (0 : BitVec 2).toNat + (3 : BitVec 11).toNat) = some true ∧ vectorMasked ({ stRel with nrx := { rings0 with rings := ⟨[(4, ⟨.active, 4, 0x100000, 0x200000, 9, 0, 8, 7, 0, 8, 0, 0, none, 0⟩)]⟩, jobs := [], gaps := ⟨[(3, some true)]⟩ } } : State) (0 : BitVec 2).toNat (3 : BitVec 11).toNat = false := by decide

theorem wit_RingsAndHosts_12 : tabGet none ({ stRel with nrx := { rings0 with rings := ⟨[(4, ⟨.active, 4, 0x100000, 0x200000, 9, 0, 8, 7, 0, 8, 0, 0, none, 0⟩)]⟩, jobs := [], gaps := ⟨[(3, some false)]⟩ } } : State).nrx.gaps (2048 * (0 : BitVec 2).toNat + (3 : BitVec 11).toNat) = some false := by decide

theorem wit_RingsAndHosts_13 : tabGet none ({ stRel with nrx := { rings0 with rings := ⟨[(4, ⟨.active, 4, 0x100000, 0x200000, 9, 0, 8, 7, 0, 8, 0, 0, none, 0⟩)]⟩, jobs := [], gaps := ⟨[(3, some true)]⟩, msix := ⟨[(15, 1)]⟩ } } : State).nrx.gaps (2048 * (0 : BitVec 2).toNat + (3 : BitVec 11).toNat) = some true ∧ vectorMasked ({ stRel with nrx := { rings0 with rings := ⟨[(4, ⟨.active, 4, 0x100000, 0x200000, 9, 0, 8, 7, 0, 8, 0, 0, none, 0⟩)]⟩, jobs := [], gaps := ⟨[(3, some true)]⟩, msix := ⟨[(15, 1)]⟩ } } : State) (0 : BitVec 2).toNat (3 : BitVec 11).toNat = true := by decide

theorem wit_RingsAndHosts_14 : nrxRuns ({ stRel with nrx := { rings0 with rings := ⟨[(4, ⟨.active, 4, 0x100000, 0x200000, 9, 0, 8, 7, 0, 8, 0, 0, none, 0⟩)]⟩, jobs := [], batch := [⟨zeros 488, 0, 4, 7, true⟩] } } : State) = true ∧ entryFits ({ stRel with nrx := { rings0 with rings := ⟨[(4, ⟨.active, 4, 0x100000, 0x200000, 9, 0, 8, 7, 0, 8, 0, 0, none, 0⟩)]⟩, jobs := [], batch := [⟨zeros 488, 0, 4, 7, true⟩] } } : State) = true ∧ dgaIn ({ stRel with nrx := { rings0 with rings := ⟨[(4, ⟨.active, 4, 0x100000, 0x200000, 9, 0, 8, 7, 0, 8, 0, 0, none, 0⟩)]⟩, jobs := [], batch := [⟨zeros 488, 0, 4, 7, true⟩] } } : State) = true ∧ ({ stRel with nrx := { rings0 with rings := ⟨[(4, ⟨.active, 4, 0x100000, 0x200000, 9, 0, 8, 7, 0, 8, 0, 0, none, 0⟩)]⟩, jobs := [], batch := [⟨zeros 488, 0, 4, 7, true⟩] } } : State).nrx.batch ≠ [] := by decide

theorem wit_RingsAndHosts_15 : ({ stBr with nrx := { rings0 with closing := [⟨1, 0, [], 0, []⟩] } } : State).nrx.closing[b2n (false : Bool)]? = some (⟨1, 0, [], 0, []⟩ : Batch) ∧ nrxRuns ({ stBr with nrx := { rings0 with closing := [⟨1, 0, [], 0, []⟩] } } : State) = true ∧ keysHeld ({ stBr with nrx := { rings0 with closing := [⟨1, 0, [], 0, []⟩] } } : State) = false ∧ aliasOk ({ stBr with nrx := { rings0 with closing := [⟨1, 0, [], 0, []⟩] } } : State) = true ∧ sigIn ({ stBr with nrx := { rings0 with closing := [⟨1, 0, [], 0, []⟩] } } : State) = true ∧ b2n (false : Bool) < nSig ({ stBr with nrx := { rings0 with closing := [⟨1, 0, [], 0, []⟩] } } : State) := by decide

theorem wit_RingsAndHosts_16 : nrxRuns ({ stRel with nrx := { rings0 with rings := ⟨[(4, ⟨.active, 4, 0x100000, 0x200000, 9, 0, 8, 7, 0, 8, 0, 0, none, 0⟩)]⟩, jobs := [], accesses := [⟨0, 4, .fetch, 1, true⟩] } } : State) = true ∧ accessWaits ({ stRel with nrx := { rings0 with rings := ⟨[(4, ⟨.active, 4, 0x100000, 0x200000, 9, 0, 8, 7, 0, 8, 0, 0, none, 0⟩)]⟩, jobs := [], accesses := [⟨0, 4, .fetch, 1, true⟩] } } : State).nrx (0 : BitVec 2).toNat (4 : BitVec 18).toNat (.fetch : AccessUse) = true := by decide

theorem wit_RingsAndHosts_17 : accessUnderWay ({ stRel with nrx := { rings0 with rings := ⟨[(4, ⟨.active, 4, 0x100000, 0x200000, 9, 0, 8, 8, 0, 10, 0, 0, none, 0⟩)]⟩, jobs := [] } } : State) (0 : BitVec 2).toNat (4 : BitVec 18).toNat (.fetch : AccessUse) = true := by decide

theorem wit_RingsAndHosts_18 : accessOf ({ stRel with nrx := { rings0 with rings := ⟨[(4, ⟨.active, 4, 0x100000, 0x200000, 9, 0, 8, 7, 0, 8, 0, 0, none, 0⟩)]⟩, jobs := [], accesses := [⟨0, 4, .fetch, 2, false⟩] } } : State).nrx (0 : Nat) (4 : Nat) .fetch = some (⟨0, 4, .fetch, 2, false⟩ : Access) ∧ (⟨0, 4, .fetch, 2, false⟩ : Access).fails = 2 ∧ (ringOf ({ stRel with nrx := { rings0 with rings := ⟨[(4, ⟨.active, 4, 0x100000, 0x200000, 9, 0, 8, 7, 0, 8, 0, 0, none, 0⟩)]⟩, jobs := [], accesses := [⟨0, 4, .fetch, 2, false⟩] } } : State) (0 : Nat) (4 : Nat)).st = .active := by decide

theorem wit_RingsAndHosts_19 : (accessOf ({ stRel with nrx := { rings0 with rings := ⟨[(4, ⟨.active, 4, 0x100000, 0x200000, 9, 0, 8, 7, 0, 8, 0, 0, none, 0⟩)]⟩, jobs := [], accesses := [⟨0, 4, .fetch, 1, true⟩] } } : State).nrx (0 : BitVec 2).toNat (4 : BitVec 18).toNat (.fetch : AccessUse)).isSome = true ∧ accessLost ({ stRel with nrx := { rings0 with rings := ⟨[(4, ⟨.active, 4, 0x100000, 0x200000, 9, 0, 8, 7, 0, 8, 0, 0, none, 0⟩)]⟩, jobs := [], accesses := [⟨0, 4, .fetch, 1, true⟩] } } : State).nrx (0 : BitVec 2).toNat (4 : BitVec 18).toNat (.fetch : AccessUse) = false ∧ (.fetch : AccessUse) ≠ .input := by decide

theorem wit_RingsAndHosts_20 : hostRings (upNrx (fun n => { n with adm := ⟨[(0, ⟨0x1000, 0, 0x2000, 0, 3, false, 4, false⟩)]⟩ }) stRel : State) (0 : BitVec 2).toNat (false : Bool) = true ∧ (0x401 : BitVec 32).getLsbD 0 = true ∧ (admOf (upNrx (fun n => { n with adm := ⟨[(0, ⟨0x1000, 0, 0x2000, 0, 3, false, 4, false⟩)]⟩ }) stRel : State) (0 : BitVec 2).toNat (admSel (upNrx (fun n => { n with adm := ⟨[(0, ⟨0x1000, 0, 0x2000, 0, 3, false, 4, false⟩)]⟩ }) stRel : State) (0 : BitVec 2).toNat)).enable = false ∧ admOk (upNrx (fun n => { n with adm := ⟨[(0, ⟨0x1000, 0, 0x2000, 0, 3, false, 4, false⟩)]⟩ }) stRel : State) (0 : BitVec 2).toNat (admSel (upNrx (fun n => { n with adm := ⟨[(0, ⟨0x1000, 0, 0x2000, 0, 3, false, 4, false⟩)]⟩ }) stRel : State) (0 : BitVec 2).toNat) (fieldOf (0x401 : BitVec 32) 8 4) = true := by decide

theorem wit_RingsAndHosts_21 : hostRings (upNrx (fun n => { n with adm := ⟨[(0, ⟨0x1000, 0, 0x2000, 0, 3, false, 4, false⟩)]⟩ }) stRel : State) (0 : BitVec 2).toNat (false : Bool) = true ∧ (0xf01 : BitVec 32).getLsbD 0 = true ∧ (admOf (upNrx (fun n => { n with adm := ⟨[(0, ⟨0x1000, 0, 0x2000, 0, 3, false, 4, false⟩)]⟩ }) stRel : State) (0 : BitVec 2).toNat (admSel (upNrx (fun n => { n with adm := ⟨[(0, ⟨0x1000, 0, 0x2000, 0, 3, false, 4, false⟩)]⟩ }) stRel : State) (0 : BitVec 2).toNat)).enable = false ∧ admOk (upNrx (fun n => { n with adm := ⟨[(0, ⟨0x1000, 0, 0x2000, 0, 3, false, 4, false⟩)]⟩ }) stRel : State) (0 : BitVec 2).toNat (admSel (upNrx (fun n => { n with adm := ⟨[(0, ⟨0x1000, 0, 0x2000, 0, 3, false, 4, false⟩)]⟩ }) stRel : State) (0 : BitVec 2).toNat) (fieldOf (0xf01 : BitVec 32) 8 4) = false := by decide

theorem wit_RingsAndHosts_22 : hostRings (upNrx (fun n => { n with adm := ⟨[(0, ⟨0x1000, 0, 0x2000, 0, 3, false, 4, true⟩)]⟩ }) stRel : State) (0 : BitVec 2).toNat (false : Bool) = true ∧ (0 : BitVec 32).getLsbD 0 = false ∧ (admOf (upNrx (fun n => { n with adm := ⟨[(0, ⟨0x1000, 0, 0x2000, 0, 3, false, 4, true⟩)]⟩ }) stRel : State) (0 : BitVec 2).toNat (admSel (upNrx (fun n => { n with adm := ⟨[(0, ⟨0x1000, 0, 0x2000, 0, 3, false, 4, true⟩)]⟩ }) stRel : State) (0 : BitVec 2).toNat)).enable = true := by decide

theorem wit_RingsAndHosts_23 : hostRings (upNrx (fun n => { n with adm := ⟨[(0, ⟨0x1000, 0, 0x2000, 0, 3, false, 4, false⟩)]⟩ }) stRel : State) (0 : BitVec 2).toNat (false : Bool) = true ∧ (0 : BitVec 32).getLsbD 0 = false ∧ (admOf (upNrx (fun n => { n with adm := ⟨[(0, ⟨0x1000, 0, 0x2000, 0, 3, false, 4, false⟩)]⟩ }) stRel : State) (0 : BitVec 2).toNat (admSel (upNrx (fun n => { n with adm := ⟨[(0, ⟨0x1000, 0, 0x2000, 0, 3, false, 4, false⟩)]⟩ }) stRel : State) (0 : BitVec 2).toNat)).enable = false := by decide

theorem wit_RegistersAndTheStart_1 : mgtUp ({ stRel with mgtB := { mgt0 with mode := .smbus } } : State) (true : Bool) = true ∧ (hdrOk (⟨1, 0x85, 0, 0, none, 0⟩ : VendorHdr) = false ∨ regReadOk (1 : Byte) (1 : Byte) (1 : BitVec 16) (0 : BitVec 32) = false) := by decide

theorem wit_RegistersAndTheStart_2 : mgtUp ({ stRel with mgtB := { mgt0 with mode := .smbus }, mor := { stRel.mor with floorCause := 2 } } : State) (true : Bool) = true ∧ hdrOk (⟨1, 0x85, 0, 0, none, 0⟩ : VendorHdr) = true ∧ regReadOk (0 : Byte) (0 : Byte) (1 : BitVec 16) (0x4000 : BitVec 32) = true ∧ regFloorOk ({ stRel with mgtB := { mgt0 with mode := .smbus }, mor := { stRel.mor with floorCause := 2 } } : State) (1 : BitVec 16).toNat (0x4000 : BitVec 32).toNat = false := by decide

theorem wit_RegistersAndTheStart_3 : mgtUp ({ stRel with mgtB := { mgt0 with mode := .smbus } } : State) (true : Bool) = true ∧ hdrOk (⟨1, 0x85, 0, 0, none, 0⟩ : VendorHdr) = true ∧ regReadOk (0 : Byte) (0 : Byte) (1 : BitVec 16) (0 : BitVec 32) = true ∧ regFloorOk ({ stRel with mgtB := { mgt0 with mode := .smbus } } : State) (1 : BitVec 16).toNat (0 : BitVec 32).toNat = true := by decide

theorem wit_RegistersAndTheStart_4 : mgtUp ({ stRel with mgtB := { mgt0 with mode := .smbus } } : State) (true : Bool) = true ∧ (hdrOk (⟨1, 0x85, 0, 0, none, 0⟩ : VendorHdr) = false ∨ regWriteOk (0x1000 : BitVec 32) (2 : BitVec 16) (0 : BitVec 16) ([8] : List (BitVec 32)) = false) := by decide

theorem wit_RegistersAndTheStart_5 : mgtUp ({ stRel with mgtB := { mgt0 with mode := .smbus }, mor := { stRel.mor with floorCause := 2 } } : State) (true : Bool) = true ∧ hdrOk (⟨1, 0x85, 0, 0, none, 0⟩ : VendorHdr) = true ∧ regWriteOk (0x1000 : BitVec 32) (1 : BitVec 16) (0 : BitVec 16) ([8] : List (BitVec 32)) = true ∧ floorService ({ stRel with mgtB := { mgt0 with mode := .smbus }, mor := { stRel.mor with floorCause := 2 } } : State) = true := by decide

theorem wit_RegistersAndTheStart_6 : mgtUp ({ stRel with mgtB := { mgt0 with mode := .smbus } } : State) (true : Bool) = true ∧ hdrOk (⟨1, 0x85, 0, 0, none, 0⟩ : VendorHdr) = true ∧ regWriteOk (0x1000 : BitVec 32) (1 : BitVec 16) (0 : BitVec 16) ([8] : List (BitVec 32)) = true ∧ floorService ({ stRel with mgtB := { mgt0 with mode := .smbus } } : State) = false := by decide

theorem wit_RegistersAndTheStart_7 : csfReach (stRel : State) (0 : BitVec 2).toNat (false : Bool) = true ∧ (0 : Nat) ≠ 2 := by decide

theorem wit_RegistersAndTheStart_8 : csfReach (stRel : State) (0 : BitVec 2).toNat (false : Bool) = true ∧ ((8 : Nat) ≠ 4 ∨ (0x430 : Nat) % 4 ≠ 0) := by decide

theorem wit_RegistersAndTheStart_9 : csfReach (stRel : State) (0 : BitVec 2).toNat (false : Bool) = true ∧ hostRings (stRel : State) (0 : BitVec 2).toNat (false : Bool) = true ∧ (0x20 : Nat) < barSize (stRel : State) (0 : BitVec 2).toNat 2 ∧ dbStride (stRel : State) (0 : BitVec 2).toNat % 4 = 0 := by decide

theorem wit_RegistersAndTheStart_10 : coreRuns (stRel : State) = true ∧ (stRel : State).mor.aocA = true ∧ (stRel : State).mor.lock = true ∧ (0x44 : Nat) % 4 = 0 ∧ (0x44 : Nat) < 0x10000 := by decide

theorem wit_RegistersAndTheStart_11 : coreRuns (stRun : State) = true ∧ (stRun : State).mor.aocA = true ∧ (stRun : State).mor.lock = false := by decide

theorem wit_RegistersAndTheStart_12 : coreRuns (stRun : State) = true ∧ 0x10000000 ≤ (0x10000000 : Nat) ∧ (0x10000000 : Nat) + 4 ≤ 0x10800000 ∧ (0x10000000 : Nat) < sramProtected (stRun : State) := by decide

theorem wit_RegistersAndTheStart_13 : coreRuns (stRun : State) = true ∧ (0x10020000 : Nat) + 4 ≤ 0x10800000 ∧ 0x10000000 ≤ (0x10020000 : Nat) ∧ sramProtected (stRun : State) ≤ (0x10020000 : Nat) := by decide

theorem wit_RegistersAndTheStart_14 : (stRel : State).otp.session = none := by decide

theorem wit_RegistersAndTheStart_15 : jtagReach (upOtp (fun o => { o with session := some 4 }) stRel : State) = true ∧ 0x40000000 ≤ (0x4008003d : Nat) ∧ (0x4008003d : Nat) < 0x80000000 ∧ blockBars (upOtp (fun o => { o with session := some 4 }) stRel : State) (0x4008003d : Nat) (4 : Nat) = true := by decide

theorem wit_RegistersAndTheStart_16 : jtagReach (upOtp (fun o => { o with session := some 4 }) stRel : State) = true := by decide

theorem wit_RegistersAndTheStart_17 : ({ stHold with sc := { sc0 with mainGood := true, selfTestDue := true }, chans := ⟨[(0, { chan0 with st := .selftest, vio := some .v18 })]⟩ } : State).sc.mainGood = true ∧ ({ stHold with sc := { sc0 with mainGood := true, selfTestDue := true }, chans := ⟨[(0, { chan0 with st := .selftest, vio := some .v18 })]⟩ } : State).sc.selfTestDue = true ∧ coreSetOk (⟨false, false, true, true, true, 0xffffff, true, true, 15, 0xff, ⟨true, 26, 0, ⟨0, 0⟩, true, false⟩, 0xff, 0xffffff, 7, true, true, []⟩ : SelfTest) (unitsAfter (⟨false, false, true, true, true, 0xffffff, true, true, 15, 0xff, ⟨true, 26, 0, ⟨0, 0⟩, true, false⟩, 0xff, 0xffffff, 7, true, true, []⟩ : SelfTest) ({ stHold with sc := { sc0 with mainGood := true, selfTestDue := true }, chans := ⟨[(0, { chan0 with st := .selftest, vio := some .v18 })]⟩ } : State)) = false := by decide

/-- The same image with a request to bind its owner. -/
def tPolB : PolicyImage := { tPolV with hdr := { tPolV.hdr with flags := 3 } }
/-- The rails are good, no owner is bound, and the configuration flash holds a bundle and that policy. -/
def stStart : State :=
  { stHold with sc := { sc0 with mainGood := true, selfTestDue := true }, otp := tKeyOtp stHold.otp, chans := ⟨[(0, { chan0 with vio := some .v33 })]⟩, cfg := ⟨some (dirWrite ⟨1, true, false, false, false⟩), none, some tBundle, none, some tPolB, none⟩ }
def tSelf : SelfTest :=
  ⟨true, true, true, true, true, 0xffffff, true, true, 15, 0xff, ⟨true, 26, 0, ⟨0xffffffffffffffff, 0⟩, true, false⟩, 0xff, 0xffffff, 7, true, true, []⟩
/-- The same with a marginal word beside a blank owner region. -/
def stBadFuse : State := upOtp (fun o => { o with words := tabSet ⟨0, 0⟩ o.words 2000 ⟨1, 3⟩ }) stStart

theorem wit_RegistersAndTheStart_18 : (stBadFuse : State).sc.mainGood = true ∧ (stBadFuse : State).sc.selfTestDue = true ∧ coreSetOk (tSelf : SelfTest) (unitsAfter (tSelf : SelfTest) (stBadFuse : State)) = true ∧ aocRuns (wdtServed (unitsScanned (romFuses (tSelf : SelfTest) (unitsAfter (tSelf : SelfTest) (stBadFuse : State))))) = true ∧ fusesBad (wdtServed (unitsScanned (romFuses (tSelf : SelfTest) (unitsAfter (tSelf : SelfTest) (stBadFuse : State))))) = true := by decide +kernel


theorem wit_RegistersAndTheStart_19 : ({ stStart with cfg := { stStart.cfg with dir0 := none } } : State).sc.mainGood = true ∧ ({ stStart with cfg := { stStart.cfg with dir0 := none } } : State).sc.selfTestDue = true ∧ coreSetOk (tSelf : SelfTest) (unitsAfter (tSelf : SelfTest) ({ stStart with cfg := { stStart.cfg with dir0 := none } } : State)) = true ∧ aocRuns (wdtServed (unitsScanned (romFuses (tSelf : SelfTest) (unitsAfter (tSelf : SelfTest) ({ stStart with cfg := { stStart.cfg with dir0 := none } } : State))))) = true ∧ fusesBad (wdtServed (unitsScanned (romFuses (tSelf : SelfTest) (unitsAfter (tSelf : SelfTest) ({ stStart with cfg := { stStart.cfg with dir0 := none } } : State))))) = false ∧ paUp (wdtServed (unitsScanned (romFuses (tSelf : SelfTest) (unitsAfter (tSelf : SelfTest) ({ stStart with cfg := { stStart.cfg with dir0 := none } } : State))))) = true ∧ (bootDir ({ stStart with cfg := { stStart.cfg with dir0 := none } } : State).cfg = none ∨ romBundle (wdtServed (unitsScanned (romFuses (tSelf : SelfTest) (unitsAfter (tSelf : SelfTest) ({ stStart with cfg := { stStart.cfg with dir0 := none } } : State))))) = none) := by decide +kernel

/-- The same with that policy taken. -/
def stTaken : State := { stStart with run := { stStart.run with policy := some tPolV } }

theorem wit_RegistersAndTheStart_20 : (stTaken : State).sc.mainGood = true ∧ (stTaken : State).sc.selfTestDue = true ∧ coreSetOk (tSelf : SelfTest) (unitsAfter (tSelf : SelfTest) (stTaken : State)) = true ∧ (wdtServed (unitsScanned (romFuses tSelf (unitsAfter tSelf stTaken))) : State) = wdtServed (unitsScanned (romFuses (tSelf : SelfTest) (unitsAfter (tSelf : SelfTest) (stTaken : State)))) ∧ aocRuns (wdtServed (unitsScanned (romFuses tSelf (unitsAfter tSelf stTaken))) : State) = true ∧ fusesBad (wdtServed (unitsScanned (romFuses tSelf (unitsAfter tSelf stTaken))) : State) = false ∧ paUp (wdtServed (unitsScanned (romFuses tSelf (unitsAfter tSelf stTaken))) : State) = true ∧ (bootDir (wdtServed (unitsScanned (romFuses tSelf (unitsAfter tSelf stTaken))) : State).cfg).isSome = true ∧ romBundle (wdtServed (unitsScanned (romFuses tSelf (unitsAfter tSelf stTaken))) : State) = some ((false : Bool), (tBundle : Bundle)) ∧ (romPolicy tSelf (romTake false tBundle (wdtServed (unitsScanned (romFuses tSelf (unitsAfter tSelf stTaken))))) : State) = romPolicy (tSelf : SelfTest) (romTake (false : Bool) (tBundle : Bundle) (wdtServed (unitsScanned (romFuses tSelf (unitsAfter tSelf stTaken))) : State)) ∧ (romPolicy tSelf (romTake false tBundle (wdtServed (unitsScanned (romFuses tSelf (unitsAfter tSelf stTaken))))) : State).mor.floorCause = 0 ∧ (romPolicy tSelf (romTake false tBundle (wdtServed (unitsScanned (romFuses tSelf (unitsAfter tSelf stTaken))))) : State).run.policy = some (tPolV : PolicyImage) := ⟨by decide, by decide, by decide +kernel, rfl, by decide +kernel, by decide +kernel, by decide +kernel, by
    show (bootDir stTaken.cfg).isSome = true
    rw [bootDir_dirWrite stTaken.cfg ⟨1, true, false, false, false⟩ (by decide) rfl rfl]
    rfl, by decide +kernel, rfl, by decide +kernel, by decide +kernel⟩

theorem wit_RegistersAndTheStart_21 : fwRuns ({ stRel with run := ⟨none, 0, some tPol, 0, false, tabEmpty, tabEmpty, none, []⟩ } : State) = true ∧ fabricEn ({ stRel with run := ⟨none, 0, some tPol, 0, false, tabEmpty, tabEmpty, none, []⟩ } : State) = true ∧ ({ stRel with run := ⟨none, 0, some tPol, 0, false, tabEmpty, tabEmpty, none, []⟩ } : State).run.microcode = false := by decide


end Sys2Proof.Machine.Tests
end

section
/-!
PROOF. What the C event and the P event leave (R11, R86, R87): the resets of the rings set off nothing else, and nothing follows by itself
but what a device at rest does.
-/

namespace Sys2Proof.Machine

open Sys2Proof

/-! ### The reset of the rings -/

/-- No accepted debug token waits and no capsule is in progress, as an S event leaves it: what the rings' reset would set off beside
the rings has nothing to act on. -/
def Quiet (s : State) : Prop := s.otp.debugWait = [] ∧ s.capsules = []

/-- t differs from s in the rings and the evidence at most. -/
def RingsOnly (s t : State) : Prop := ∃ n e, t = { s with nrx := n, ev := e }

theorem ringsOnly_refl (s : State) : RingsOnly s s := ⟨s.nrx, s.ev, rfl⟩

theorem ringsOnly_upNrx (f : Rings → Rings) (s : State) : RingsOnly s (upNrx f s) := ⟨f s.nrx, s.ev, rfl⟩

theorem ringsOnly_upEv (f : Evid → Evid) (s : State) : RingsOnly s (upEv f s) := ⟨s.nrx, f s.ev, rfl⟩

theorem RingsOnly.trans {s t u : State} (h : RingsOnly s t) (h' : RingsOnly t u) : RingsOnly s u := by
  obtain ⟨n, e, rfl⟩ := h
  obtain ⟨n', e', rfl⟩ := h'
  exact ⟨n', e', rfl⟩

theorem RingsOnly.quiet {s t : State} (h : RingsOnly s t) (hq : Quiet s) : Quiet t := by
  obtain ⟨n, e, rfl⟩ := h
  exact hq

theorem RingsOnly.andThen {s t : State} (h : RingsOnly s t) (hq : Quiet s) (f : State → State)
    (hf : ∀ {u}, Quiet u → RingsOnly u (f u)) : RingsOnly s (f t) :=
  h.trans (hf (h.quiet hq))

theorem ringsOnly_foldl {α : Type} (f : State → α → State) (hf : ∀ s x, Quiet s → RingsOnly s (f s x)) (l : List α) (s : State)
    (hq : Quiet s) : RingsOnly s (l.foldl f s) := by
  induction l generalizing s with
  | nil => exact ringsOnly_refl s
  | cons x l ih => exact (hf s x hq).trans (ih _ ((hf s x hq).quiet hq))

theorem ringsOnly_upRing (p g : Nat) (f : Ring → Ring) (s : State) : RingsOnly s (upRing p g f s) := ringsOnly_upNrx _ s

theorem ringsOnly_emit (code src : Nat) (body : Bytes) (s : State) : RingsOnly s (emit code src body s) := by
  unfold emit
  split <;> exact ringsOnly_upEv _ s

theorem debugGo_of_quiet {s : State} (hq : Quiet s) : debugGo s = s := by
  simp [debugGo, hq.1]

theorem capsulesEnd_of_quiet (q : Nat → Nat → Bool) {s : State} (hq : Quiet s) : capsulesEnd q s = s := by
  obtain ⟨-, hc⟩ := hq
  unfold capsulesEnd
  simp only [hc]
  exact congrArg (fun l => { s with capsules := l }) hc.symm

theorem ringsOnly_ringsDie (q : Nat → Nat → Bool) {s : State} (hq : Quiet s) : RingsOnly s (ringsDie q s) := by
  unfold ringsDie
  dsimp only
  rw [capsulesEnd_of_quiet q ((ringsOnly_upNrx _ s).quiet hq), debugGo_of_quiet ((ringsOnly_upNrx _ s).quiet hq)]
  exact ringsOnly_upNrx _ s

theorem ringsOnly_ringGone (p g : Nat) {s : State} (hq : Quiet s) : RingsOnly s (ringGone p g s) :=
  (ringsOnly_ringsDie (fun a b => decide (a = p) && decide (b = g)) hq).trans ⟨_, _, rfl⟩

theorem ringsOnly_ringDestroyed (p g : Nat) {s : State} (hq : Quiet s) : RingsOnly s (ringDestroyed p g s) := by
  unfold ringDestroyed
  dsimp only
  split
  · exact ringsOnly_ringGone p g hq
  · exact ringsOnly_refl s

theorem ringsOnly_ringUnsubmit (p g : Nat) {s : State} (hq : Quiet s) : RingsOnly s (ringUnsubmit p g s) := by
  unfold ringUnsubmit
  rw [capsulesEnd_of_quiet _ ((ringsOnly_upNrx _ s).quiet hq)]
  exact ringsOnly_upNrx _ s

theorem ringsOnly_ringDestroy (p g : Nat) (by' : Option (Nat × Nat)) {s : State} (hq : Quiet s) :
    RingsOnly s (ringDestroy p g by' s) := by
  unfold ringDestroy
  dsimp only
  split
  · exact ((ringsOnly_upRing p g _ s).andThen hq (ringUnsubmit p g) (ringsOnly_ringUnsubmit p g)).andThen hq (ringDestroyed p g)
      (ringsOnly_ringDestroyed p g)
  · split
    · exact (ringsOnly_upRing p g _ s).andThen hq (ringGone p g) (ringsOnly_ringGone p g)
    · exact ringsOnly_refl s

theorem ringsOnly_objAlloc (counters : Bool) (r : Run) (s : State) : RingsOnly s (objAlloc counters r s) := by
  unfold objAlloc
  split <;> exact ringsOnly_upNrx _ s

theorem ringsOnly_objRelease (counters : Bool) (r : Run) (s : State) : RingsOnly s (objRelease counters r s) := by
  unfold objRelease
  split <;> exact ringsOnly_upNrx _ s

theorem ringsOnly_jobEffect (j : RingCmd) {s : State} (hq : Quiet s) : RingsOnly s (jobEffect j s).1 := by
  unfold jobEffect
  dsimp only
  split
  · exact ringsOnly_refl s
  · split
    case h_10 => exact ringsOnly_ringDestroy _ _ _ hq
    case h_12 | h_13 =>
      split
      · exact ringsOnly_objRelease _ _ s
      · exact ringsOnly_objAlloc _ _ s
    all_goals exact ⟨_, _, rfl⟩

theorem ringsOnly_applyNext {s : State} (hq : Quiet s) : RingsOnly s (applyNext s) := by
  unfold applyNext
  split
  · exact ringsOnly_refl s
  · dsimp only
    split
    · exact ringsOnly_refl s
    · exact (ringsOnly_jobEffect _ hq).trans (ringsOnly_upNrx _ _)

theorem ringsOnly_applyAll {s : State} (hq : Quiet s) : RingsOnly s (applyAll s) :=
  ringsOnly_foldl _ (fun _ _ h => ringsOnly_applyNext h) _ s hq

/-- A reset of a partition's rings where nothing waits for them. -/
theorem ringsOnly_ringsReset (p : Nat) {s : State} (hq : Quiet s) : RingsOnly s (ringsReset p s) := by
  have h1 := ringsOnly_applyAll hq
  have h2 := h1.trans (ringsOnly_ringsDie (fun a _ => decide (a = p)) (h1.quiet hq))
  unfold ringsReset
  dsimp only
  split
  · exact (h2.trans (ringsOnly_upNrx _ _)).trans (ringsOnly_emit ..)
  · exact h2.trans (ringsOnly_upNrx _ _)

/-- The S event with which a C event begins leaves nothing for the rings' resets to set off. -/
theorem quiet_sState (s : State) : Quiet (sState s) := ⟨rfl, rfl⟩

/-- The state in which a C event clears everything of its class: an S event and the reset of every partition's rings. -/
theorem ringsOnly_sState_ringsReset (s : State) : RingsOnly (sState s) (each [0, 1, 2, 3] ringsReset (sState s)) :=
  ringsOnly_foldl _ (fun _ p h => ringsOnly_ringsReset p h) _ _ (quiet_sState s)

/-! ### What follows a C event by itself -/

/-- No domain is listed and no policy is taken, the Vault is out of service with no command under way, and no firmware runs: what a C event
leaves. -/
structure AtRest (s : State) : Prop where
  attr : s.mor.attr = tabEmpty
  policy : s.run.policy = none
  vaultOut : s.vault.state = .out
  nvme : s.vault.nvme = []
  stopped : s.sc.running = false

theorem AtRest.of_upMor {s : State} (h : AtRest s) (f : Mordant → Mordant) (hf : (f s.mor).attr = s.mor.attr) : AtRest (upMor f s) :=
  ⟨hf.trans h.attr, h.policy, h.vaultOut, h.nvme, h.stopped⟩

@[simp] theorem highAlert_sc (s : State) : (highAlert s).sc = s.sc := by
  unfold highAlert
  (repeat' split) <;> rfl

@[simp] theorem highAlert_aot (s : State) : (highAlert s).aot = s.aot := by
  unfold highAlert
  (repeat' split) <;> rfl

section
variable {s : State} (h : AtRest s)
include h

theorem domsListed_atRest : domsListed s = [] := by simp [domsListed, h.attr, tabEmpty]

theorem domsUsed_atRest : domsUsed s = [] := by simp [domsUsed, domsListed_atRest h]

theorem epsAll_atRest : epsAll s = [] := by simp [epsAll, h.policy]

theorem cascade_atRest (n : Nat) : cascade n s = s := by cases n <;> simp [cascade, domsListed_atRest h]

theorem interlock_atRest (n : Nat) : interlock n s = s := by cases n <;> simp [interlock, domsListed_atRest h]

theorem finalCascade_atRest (n : Nat) : finalCascade n s = s := by cases n <;> simp [finalCascade, domsUsed_atRest h]

theorem vatWithdraw_atRest : vatWithdraw s = s := by simp [vatWithdraw, epsAll_atRest h, each]

theorem vatRelease_atRest : vatRelease s = s := by simp [vatRelease, epsAll_atRest h, each]

theorem vatGrant_atRest : vatGrant s = s := by simp [vatGrant, epsAll_atRest h, each]

theorem recheckGo_atRest : recheckGo s = s := by simp [recheckGo, epsAll_atRest h, each]

theorem vaultSync_atRest : vaultSync s = s := by
  simp [vaultSync, vaultOpen, vaultEp, h.policy, h.vaultOut, h.nvme]

theorem brClose_atRest : brClose s = s := by simp [brClose, fwRuns, h.stopped]

theorem AtRest.of_phaseStep : AtRest (phaseStep s) := h.of_upMor _ rfl

theorem vioHold_atRest : vioHold s = if s.mor.vioRst.isSome && !s.mor.vioLost then s else upMor (fun m => { m with vioLost := false }) s := by
  simp [vioHold, domsListed_atRest h, each]

theorem AtRest.of_vioHold : AtRest (vioHold s) := by
  rw [vioHold_atRest h]
  split
  · exact h
  · exact h.of_upMor _ rfl

/-- Nothing follows but a lost VIO_RST acted on, the phase and the alert of HIGH. -/
theorem settle_atRest : settle s = if clocked s then highAlert (phaseStep (vioHold s)) else s := by
  have hv := h.of_vioHold
  by_cases hc : clocked s
  · simp [settle, hc, cascade_atRest hv, vatWithdraw_atRest hv, interlock_atRest hv, vatRelease_atRest hv,
      vatGrant_atRest hv, recheckGo_atRest hv, finalCascade_atRest hv, vaultSync_atRest hv.of_phaseStep, brClose_atRest hv.of_phaseStep]
  · simp [settle, hc]

theorem settle_keeps_atRest : (settle s).mor.dom = s.mor.dom ∧ (settle s).mor.lock = s.mor.lock ∧ (settle s).sc = s.sc ∧
    (settle s).aot = s.aot := by
  rw [settle_atRest h, vioHold_atRest h]
  (repeat' split) <;> simp [phaseStep]

end

/-! ### The C event and the P event -/

theorem atRest_cState (s : State) : AtRest (cState s) := ⟨rfl, rfl, rfl, rfl, rfl⟩

theorem cEvent_eq (s : State) : ∃ n e, cEvent s = settle (cState { sState s with nrx := n, ev := e }) := by
  obtain ⟨n, e, h⟩ := ringsOnly_sState_ringsReset s
  exact ⟨n, e, by rw [cEvent, h]⟩

theorem cEvent_otp (s : State) : (cEvent s).otp = otpC (otpS s.otp) := by
  obtain ⟨n, e, h⟩ := cEvent_eq s
  rw [h, settle_otp]
  rfl

theorem cEvent_trip (s : State) : (cEvent s).mor.trip = s.mor.trip := by
  obtain ⟨n, e, h⟩ := cEvent_eq s
  rw [h, settle_mor_trip]
  rfl

theorem cEvent_leaves (s : State) : (cEvent s).mor.dom = (mordantC s.mor).dom ∧ (cEvent s).mor.lock = false ∧ (cEvent s).sc = sc0 ∧
    (cEvent s).aot = s.aot := by
  obtain ⟨n, e, h⟩ := cEvent_eq s
  rw [h]
  exact settle_keeps_atRest (atRest_cState _)

/-- The S event of the C event has interrupted the burn in progress, so the C event itself finds none. -/
theorem otpC_otpS_words (o : Otp) : (otpC (otpS o)).words = (otpInterrupt o).words := rfl

theorem otpP_otpC_otpS_words (o : Otp) : (otpP (otpC (otpS o))).words = (otpInterrupt o).words := rfl

theorem cEvent_words (s : State) : (cEvent s).otp.words = (otpInterrupt s.otp).words := by
  rw [cEvent_otp, otpC_otpS_words]

theorem pEvent_words (s : State) : (pEvent s).otp.words = (otpInterrupt s.otp).words :=
  (congrArg (fun o => (otpP o).words) (cEvent_otp s)).trans (otpP_otpC_otpS_words s.otp)

theorem cellsGet_mem {α : Type} (d : α) (i : Nat) (l : List (Nat × α)) : cellsGet d i l = d ∨ (i, cellsGet d i l) ∈ l := by
  induction l with
  | nil => exact .inl rfl
  | cons c l ih =>
    obtain ⟨k, v⟩ := c
    by_cases hk : k = i
    · simp [cellsGet, hk]
    · exact ih.imp (by simp [cellsGet, hk]) (by simp +contextual [cellsGet, hk])

/-- A C event leaves only TRIP_HELD domains out of HELD (R105). -/
theorem cEvent_not_released (s : State) (d : Nat) : domSt (cEvent s) d ≠ .released := by
  intro hr
  simp only [domSt, (cEvent_leaves s).1, mordantC, tabGet] at hr
  have hm := cellsGet_mem .held d (s.mor.dom.cells.filter (fun c => decide (c.2 = .tripHeld)))
  simp [hr] at hm

theorem outLevel_unassigned {s : State} {o : Nat} (h : outDom s o = none) : outLevel s o = false := by
  unfold outLevel pad
  split <;> simp [outOn, h]

/-- The values of a P event, with the VSEC that the supply then has: the Mordant's, TIMER_AOT, the fuses and the queue. -/
def AtPowerOn (s t : State) : Prop :=
  t.mor.latched = false ∧ t.mor.trip = false ∧ t.mor.lock = false ∧ t.mor.phase = 0 ∧ t.aot = 0 ∧ (∀ d, domSt t d = .held) ∧
    (∀ o, outLevel t o = false) ∧ t.otp.words = (otpInterrupt s.otp).words ∧ t.pending = s.pending

theorem outDom_of_outMap_empty {s : State} (h : s.mor.outMap = tabEmpty) (o : Nat) : outDom s o = none := by
  simp [outDom, h]

theorem atPowerOn_pEvent (v : Bool) (s : State) : AtPowerOn s (say .none (upMor (fun m => { m with vsec := v }) (pEvent s))) :=
  ⟨rfl, rfl, rfl, rfl, rfl, fun _ => rfl, fun o => outLevel_unassigned (outDom_of_outMap_empty rfl o), pEvent_words s, pEvent_pending s⟩

/-- What a failure of the main set leaves (R86): the main set off, the lock clear and no domain RELEASED, the trip and TIMER_AOT as they
were, and the fuses but for an interrupted burn. -/
def MainSetLost (s t : State) : Prop :=
  t.sc.mainGood = false ∧ t.mor.lock = false ∧ (∀ d, domSt t d ≠ .released) ∧ t.mor.trip = s.mor.trip ∧
    t.otp.words = (otpInterrupt s.otp).words ∧ t.aot = s.aot

theorem mainSetLost_cEvent (s : State) : MainSetLost s (say .none (cEvent s)) := by
  obtain ⟨-, hlock, hsc, haot⟩ := cEvent_leaves s
  exact ⟨congrArg Sc.mainGood hsc, hlock, cEvent_not_released s, cEvent_trip s, cEvent_words s, haot⟩

theorem when_of_true {c : Bool} (h : c = true) (s : State) (o : Out) : when c s o = o := if_pos h

/-- Settles O8: VSEC_POWER_ON and VSEC_OFF are a P event with VSEC as it then is, the other two a C event. -/
theorem supplyEvents : Obligations.SupplyEvents := by
  unfold Obligations.SupplyEvents
  refine ⟨fun s => ?_, fun s hv => ?_, fun s hv => ?_, fun s ⟨hv, hg⟩ => ?_⟩
  · exact ⟨_, rfl, rfl, atPowerOn_pEvent true s⟩
  · exact ⟨_, when_of_true hv s _, rfl, atPowerOn_pEvent false s⟩
  · exact ⟨_, when_of_true hv s _, mainSetLost_cEvent s⟩
  · exact ⟨_, when_of_true (by rw [hv, hg]; rfl) s _, mainSetLost_cEvent s⟩

end Sys2Proof.Machine
end

section
/-!
PROOF. The OTP array is programmed in one direction (R129): whatever a step does to it is a run of burns, from which it follows that no
bit is cleared.
-/

namespace Sys2Proof.Machine

open Sys2Proof

/-! ### Burns -/

/-- An OTP array that burns have made of w. -/
inductive BurnedFrom (w : Tab OtpSense) : Tab OtpSense → Prop
  | same : BurnedFrom w w
  | burn {o : Otp} (a : Nat) (v weakLo weakHi : BitVec 39) (h : BurnedFrom w o.words) :
      BurnedFrom w (otpBurn o a v weakLo weakHi).words

@[simp] theorem burnedFrom_self (w : Tab OtpSense) : BurnedFrom w w := .same

/-- A burn adds bits to its word at each margin and leaves every other word. -/
theorem otpWord_otpBurn (o : Otp) (a b : Nat) (v weakLo weakHi : BitVec 39) :
    otpWord (otpBurn o a v weakLo weakHi) b =
      if b = a then ⟨(otpWord o a).lo ||| (v &&& ~~~ weakLo), (otpWord o a).hi ||| (v &&& ~~~ weakHi)⟩ else otpWord o b :=
  tabGet_tabSet ..

theorem otpBurn_keeps_lo {o : Otp} {b i : Nat} (a : Nat) (v weakLo weakHi : BitVec 39) (h : (otpWord o b).lo.getLsbD i = true) :
    (otpWord (otpBurn o a v weakLo weakHi) b).lo.getLsbD i = true := by
  rw [otpWord_otpBurn]
  split
  · rename_i e
    simp [← e, h]
  · exact h

theorem otpBurn_keeps_hi {o : Otp} {b i : Nat} (a : Nat) (v weakLo weakHi : BitVec 39) (h : (otpWord o b).hi.getLsbD i = true) :
    (otpWord (otpBurn o a v weakLo weakHi) b).hi.getLsbD i = true := by
  rw [otpWord_otpBurn]
  split
  · rename_i e
    simp [← e, h]
  · exact h

theorem BurnedFrom.keeps_lo {w w' : Tab OtpSense} (h : BurnedFrom w w') {b i : Nat} (hw : (tabGet ⟨0, 0⟩ w b).lo.getLsbD i = true) :
    (tabGet ⟨0, 0⟩ w' b).lo.getLsbD i = true := by
  induction h with
  | same => exact hw
  | burn a v weakLo weakHi _ ih => exact otpBurn_keeps_lo a v weakLo weakHi ih

theorem BurnedFrom.keeps_hi {w w' : Tab OtpSense} (h : BurnedFrom w w') {b i : Nat} (hw : (tabGet ⟨0, 0⟩ w b).hi.getLsbD i = true) :
    (tabGet ⟨0, 0⟩ w' b).hi.getLsbD i = true := by
  induction h with
  | same => exact hw
  | burn a v weakLo weakHi _ ih => exact otpBurn_keeps_hi a v weakLo weakHi ih

theorem otpKept_of_burnedFrom {s t : State} (h : BurnedFrom s.otp.words t.otp.words) : OtpKept s t := by
  intro hi a b hs
  cases hi with
  | false => exact h.keeps_lo hs
  | true => exact h.keeps_hi hs

/-! ### The operations of the OTP controller -/

@[simp] theorem otpBegin_words (o : Otp) (op addr : Nat) (p : OtpPend) : (otpBegin o op addr p).words = o.words := by
  unfold otpBegin
  split <;> rfl

@[simp] theorem otpScan_words (o : Otp) : (otpScan o).words = o.words := rfl

@[simp] theorem otpLatch_words (o : Otp) : (otpLatch o).words = o.words := rfl

theorem burnedFrom_otpBurn {w : Tab OtpSense} {o : Otp} (a : Nat) (v weakLo weakHi : BitVec 39) (h : BurnedFrom w o.words) :
    BurnedFrom w (otpBurn o a v weakLo weakHi).words := h.burn ..

theorem burnedFrom_otpInterrupt {w : Tab OtpSense} {o : Otp} (h : BurnedFrom w o.words) : BurnedFrom w (otpInterrupt o).words := by
  unfold otpInterrupt
  split
  · exact h.burn ..
  · exact h.burn ..
  · exact h

theorem burnedFrom_lcBurnCell {w : Tab OtpSense} {o : Otp} (i : Nat) (h : BurnedFrom w o.words) :
    BurnedFrom w (lcBurnCell o i).words := h.burn ..

theorem burnedFrom_lcStep {w : Tab OtpSense} {o : Otp} (weakLo weakHi : BitVec 39) (h : BurnedFrom w o.words) :
    BurnedFrom w (lcStep o weakLo weakHi).words := by
  unfold lcStep
  dsimp only
  split
  · exact (h.burn ..).burn ..
  · exact h.burn ..

@[simp] theorem burnedFrom_otpDone {w : Tab OtpSense} {o : Otp} (weakLo weakHi : BitVec 39) (h : BurnedFrom w o.words) :
    BurnedFrom w (otpDone o weakLo weakHi).words := by
  unfold otpDone
  split
  · exact h
  · rename_i p _
    have h0 : BurnedFrom w { o with busy := none }.words := h
    cases p with
    | refused | read | scan => exact h
    | program a d =>
      dsimp only
      split <;> exact h0.burn ..
    | lcStep => exact burnedFrom_lcStep weakLo weakHi h0

/-- The owner binding burns word after word, and of those only the blank ones (R134). -/
theorem burnedFrom_bindWord {w : Tab OtpSense} {o : Otp} (a : Nat) (v weak : BitVec 39) (h : BurnedFrom w o.words) :
    BurnedFrom w (if otpBlank (otpWord o a) then otpBurn o a v weak 0 else o).words := by
  split
  · exact h.burn ..
  · exact h

theorem burnedFrom_foldl {α : Type} {w : Tab OtpSense} (f : Otp → α → Otp)
    (hf : ∀ o x, BurnedFrom w o.words → BurnedFrom w (f o x).words) (l : List α) (o : Otp) (h : BurnedFrom w o.words) :
    BurnedFrom w (l.foldl f o).words := by
  induction l generalizing o with
  | nil => exact h
  | cons x l ih => exact ih _ (hf o x h)

@[simp] theorem burnedFrom_bindOwner {w : Tab OtpSense} {o : Otp} (oid : Bytes) (opt : Nat) (key : Bytes) (burnOk : Bool)
    (h : BurnedFrom w o.words) : BurnedFrom w (bindOwner o oid opt key burnOk).words := by
  unfold bindOwner
  dsimp only
  refine burnedFrom_foldl _ (fun o i ho => burnedFrom_bindWord _ _ _ ho) _ _ ?_
  split
  · exact h
  · exact burnedFrom_foldl _ (fun o x ho => burnedFrom_bindWord _ _ _ ho) _ _ h

/-! ### Outcomes -/

/-- All that a command does to the OTP array w is to burn words of it. -/
def OnlyBurns (w : Tab OtpSense) (o : Out) : Prop := ∀ t, o = .next t → BurnedFrom w t.otp.words

@[simp] theorem onlyBurns_done (w : Tab OtpSense) (s : State) : OnlyBurns w (done s) ↔ BurnedFrom w s.otp.words := by
  simp [OnlyBurns, done]

@[simp] theorem onlyBurns_answer (w : Tab OtpSense) (r : Reply) (s : State) :
    OnlyBurns w (answer r s) ↔ BurnedFrom w s.otp.words := by
  simp [OnlyBurns, answer]

@[simp] theorem onlyBurns_notNow (w : Tab OtpSense) (s : State) : OnlyBurns w (notNow s) ↔ BurnedFrom w s.otp.words := by
  simp [OnlyBurns, notNow]

@[simp] theorem onlyBurns_busError (w : Tab OtpSense) (s : State) : OnlyBurns w (busError s) ↔ BurnedFrom w s.otp.words := by
  simp [busError]

@[simp] theorem onlyBurns_sramDone (w : Tab OtpSense) (l : List (Nat × Nat)) (s t : State) :
    OnlyBurns w (sramDone l s t) ↔ BurnedFrom w t.otp.words := by
  unfold sramDone
  split <;> simp

@[simp] theorem onlyBurns_ite (w : Tab OtpSense) (c : Prop) [Decidable c] (o o' : Out) :
    OnlyBurns w (if c then o else o') ↔ (c → OnlyBurns w o) ∧ (¬ c → OnlyBurns w o') := by
  split <;> simp [*]

@[simp] theorem onlyBurns_when (w : Tab OtpSense) (c : Bool) (s : State) (o : Out) :
    OnlyBurns w (when c s o) ↔ (c = true → OnlyBurns w o) ∧ (¬ c = true → BurnedFrom w s.otp.words) := by
  simp [when]

@[simp] theorem onlyBurns_mordantAccess (w : Tab OtpSense) (s : State) (o : Out) :
    OnlyBurns w (mordantAccess s o) ↔ (aocRuns s = true → OnlyBurns w o) ∧ (¬ aocRuns s = true → BurnedFrom w s.otp.words) := by
  simp [mordantAccess]

@[simp] theorem burnedFrom_ite (w : Tab OtpSense) (c : Prop) [Decidable c] (s t : State) :
    BurnedFrom w (if c then s else t).otp.words ↔ (c → BurnedFrom w s.otp.words) ∧ (¬ c → BurnedFrom w t.otp.words) := by
  split <;> simp [*]

@[simp] theorem ite_words (w : Tab OtpSense) (c : Prop) [Decidable c] (s t : State) :
    (if c then s else t).otp.words = w ↔ (c → s.otp.words = w) ∧ (¬ c → t.otp.words = w) := by
  split <;> simp [*]

/-! ### Effects on every member of a list, and effects that wait for a record -/

@[simp] theorem foldl_words {α : Type} (l : List α) (f : State → α → State) (s : State)
    (h : ∀ s x, (f s x).otp.words = s.otp.words) : (l.foldl f s).otp.words = s.otp.words := by
  induction l generalizing s with
  | nil => rfl
  | cons x l ih => exact (ih _).trans (h s x)

@[simp] theorem each_words (l : List Nat) (f : Nat → State → State) (s : State) (h : ∀ n s, (f n s).otp.words = s.otp.words) :
    (each l f s).otp.words = s.otp.words := foldl_words l _ s (fun s n => h n s)

@[simp] theorem gated_words (code src : Nat) (body : Bytes) (g : Gate) (eff : State → State) (s : State)
    (h : ∀ s, (eff s).otp.words = s.otp.words) : (gated code src body g eff s).otp.words = s.otp.words := by
  unfold gated
  dsimp only
  (repeat' split) <;> simp [h]

/-! ### The reset events -/

@[simp] theorem burnedFrom_sEvent (w : Tab OtpSense) (s : State) (hs : BurnedFrom w s.otp.words) :
    BurnedFrom w (sEvent s).otp.words := by
  rw [sEvent, blockNoLimit_otp]
  exact burnedFrom_otpInterrupt hs

@[simp] theorem burnedFrom_cEvent (w : Tab OtpSense) (s : State) (hs : BurnedFrom w s.otp.words) :
    BurnedFrom w (cEvent s).otp.words := by
  rw [cEvent_words]
  exact burnedFrom_otpInterrupt hs

@[simp] theorem burnedFrom_pEvent (w : Tab OtpSense) (s : State) (hs : BurnedFrom w s.otp.words) :
    BurnedFrom w (pEvent s).otp.words := by
  rw [pEvent_words]
  exact burnedFrom_otpInterrupt hs

/-! ### Rings -/

@[simp] theorem debugOpen_words (scope : BitVec 4) (s : State) : (debugOpen scope s).otp.words = s.otp.words := by
  simp [debugOpen]

@[simp] theorem debugGo_words (s : State) : (debugGo s).otp.words = s.otp.words := by
  simp [debugGo]

@[simp] theorem ringsDie_words (q : Nat → Nat → Bool) (s : State) : (ringsDie q s).otp.words = s.otp.words := by
  simp [ringsDie]

@[simp] theorem ringDies_words (p g : Nat) (s : State) : (ringDies p g s).otp.words = s.otp.words := by
  simp [ringDies]

@[simp] theorem ringFail_words (p g : Nat) (s : State) : (ringFail p g s).otp.words = s.otp.words := by
  simp [ringFail]

@[simp] theorem ringError_words (p g cause : Nat) (s : State) : (ringError p g cause s).otp.words = s.otp.words := by
  simp [ringError]

@[simp] theorem ringGone_words (p g : Nat) (s : State) : (ringGone p g s).otp.words = s.otp.words := by
  simp [ringGone]

@[simp] theorem ringDestroyed_words (p g : Nat) (s : State) : (ringDestroyed p g s).otp.words = s.otp.words := by
  simp [ringDestroyed]

@[simp] theorem ringDestroy_words (p g : Nat) (by' : Option (Nat × Nat)) (s : State) : (ringDestroy p g by' s).otp.words = s.otp.words := by
  simp [ringDestroy]

@[simp] theorem jobEffect_words (j : RingCmd) (s : State) : (jobEffect j s).1.otp.words = s.otp.words := by
  unfold jobEffect
  (repeat' split) <;> simp

@[simp] theorem applyNext_words (s : State) : (applyNext s).otp.words = s.otp.words := by
  unfold applyNext
  split <;> simp

@[simp] theorem applyAll_words (s : State) : (applyAll s).otp.words = s.otp.words := by
  simp [applyAll]

@[simp] theorem ringsReset_words (p : Nat) (s : State) : (ringsReset p s).otp.words = s.otp.words := by
  simp [ringsReset]

/-! ### Presentation ports and the Lake -/

@[simp] theorem prsFrame_onlyBurns (w : Tab OtpSense) (f : PrsFrame) (m : PolicyImage → PresentRec → EmDev → State → Out) (s : State)
    (hs : BurnedFrom w s.otp.words)
    (hm : ∀ p r e, OnlyBurns w (m p r e (upEm (emKey f.port (b2n f.dev)) (fun e => { e with rstEn := false }) s))) :
    OnlyBurns w (prsFrame f m s) := by
  unfold prsFrame
  split
  · simp [hs, hm]
  · simp [hs]

@[simp] theorem prsUnknown_onlyBurns (w : Tab OtpSense) (r : PresentRec) (e : EmDev) (op second : Byte) (len : Nat) (s : State)
    (hs : BurnedFrom w s.otp.words) :
    OnlyBurns w (prsUnknown r e op second len s) := by
  simp [prsUnknown, hs]

@[simp] theorem prsListed_onlyBurns (w : Tab OtpSense) (c : Bool) (r : PresentRec) (e : EmDev) (op : Byte) (len : Nat) (s : State) (o : Out)
    (hs : BurnedFrom w s.otp.words) : OnlyBurns w (prsListed c r e op len s o) ↔ (c = true → OnlyBurns w o) := by
  simp [prsListed, hs]

@[simp] theorem prsServe_onlyBurns (w : Tab OtpSense) (p : PolicyImage) (r : PresentRec) (a : Nat) (q : PrsRead) (clocked : Bool)
    (s : State) (hs : BurnedFrom w s.otp.words) :
    OnlyBurns w (prsServe p r a q clocked s) := by
  unfold prsServe
  (repeat' split) <;> simp [hs]

@[simp] theorem prsWrite_onlyBurns (w : Tab OtpSense) (p : PolicyImage) (r : PresentRec) (e : EmDev) (op a n : Nat) (isErase : Bool)
    (data : Bytes) (s : State) (hs : BurnedFrom w s.otp.words) :
    OnlyBurns w (prsWrite p r e op a n isErase data s) := by
  unfold prsWrite
  dsimp only
  (repeat' split) <;> simp [hs]

/-! ### Judgements -/

@[simp] theorem execJudgementDone_onlyBurns (slot : Nat) (sig : Sig2) (bad : BitVec 2) (s : State) :
    OnlyBurns s.otp.words (execJudgementDone slot sig bad s) := by
  unfold execJudgementDone
  split <;> simp

@[simp] theorem execVerifyDeadlineExpiry_onlyBurns (slot : Nat) (sig : Sig2) (s : State) :
    OnlyBurns s.otp.words (execVerifyDeadlineExpiry slot sig s) := by
  unfold execVerifyDeadlineExpiry
  split <;> simp

@[simp] theorem execRestoreVaultBegin_onlyBurns (slot : Nat) (s : State) : OnlyBurns s.otp.words (execRestoreVaultBegin slot s) := by
  unfold execRestoreVaultBegin
  split <;> simp

theorem vaultStore_words {obj slot len : Nat} {cells : List (Nat × Byte)} {m : Option Manifest} {s t : State}
    (h : vaultStore obj slot len cells m s = some t) : t.otp.words = s.otp.words := by
  obtain ⟨a, -, rfl⟩ := Option.map_eq_some_iff.1 h
  simp

@[simp] theorem execGoldenStore_onlyBurns (slot : Nat) (read : List (Nat × Byte)) (s : State) :
    OnlyBurns s.otp.words (execGoldenStore slot read s) := by
  unfold execGoldenStore
  split
  · rename_i r q _ _
    have store (cells : List (Nat × Byte)) :
        OnlyBurns s.otp.words (match vaultStore q.vaultObject slot r.length cells (imgOf s slot).manifest s with
          | some t => done t
          | none => done (upImg slot (fun i => { i with storeDue := false }) s)) := by
      split
      · rename_i t h
        simp [vaultStore_words h]
      · simp
    refine (onlyBurns_when ..).2 ⟨fun _ => ?_, fun _ => .same⟩
    dsimp only
    split
    · split
      · exact store _
      · simp
    · split
      · exact store _
      · simp
  · simp

@[simp] theorem execImageSvnAdvance_onlyBurns (slot : Nat) (goldens : List (Nat × Manifest)) (s : State) :
    OnlyBurns s.otp.words (execImageSvnAdvance slot goldens s) := by
  unfold execImageSvnAdvance
  split <;> simp

@[simp] theorem execPolicySvnAdvance_onlyBurns (s : State) : OnlyBurns s.otp.words (execPolicySvnAdvance s) := by
  unfold execPolicySvnAdvance
  split <;> simp

/-! ### Updates -/

@[simp] theorem capsuleVault_words (j : CapsuleJob) (s : State) : (capsuleVault j s).otp.words = s.otp.words := by
  unfold capsuleVault
  split
  · simp
  · split
    · rename_i t h
      obtain ⟨q, -, hq⟩ := Option.bind_eq_some_iff.1 h
      simp [vaultStore_words hq]
    · simp

@[simp] theorem execCapsuleStage_onlyBurns (back : Option (List (Nat × Byte))) (bad : BitVec 2) (s : State) :
    OnlyBurns s.otp.words (execCapsuleStage back bad s) := by
  unfold execCapsuleStage
  split <;> simp

@[simp] theorem applyComplete_onlyBurns (w : Tab OtpSense) (b : Bool) (code : Nat) (s : State) (hs : BurnedFrom w s.otp.words) :
    OnlyBurns w (applyComplete b code s) := by
  simp [applyComplete, hs]

/-! ### Custody channels -/

@[simp] theorem cchQpush_onlyBurns (w : Tab OtpSense) (k : Nat) (buf : BitVec 32) (s : State) (hs : BurnedFrom w s.otp.words) :
    OnlyBurns w (cchQpush k buf s) := by
  simp [cchQpush, hs]

@[simp] theorem qdoneRead_onlyBurns (w : Tab OtpSense) (k : Nat) (s : State) (hs : BurnedFrom w s.otp.words) :
    OnlyBurns w (qdoneRead k s) := by
  unfold qdoneRead
  split <;> simp [hs]

@[simp] theorem execCchFrameStart_onlyBurns (k : Nat) (s : State) : OnlyBurns s.otp.words (execCchFrameStart k s) := by
  unfold execCchFrameStart
  dsimp only
  (repeat' split) <;> simp

@[simp] theorem execCchFrameEnd_onlyBurns (k : Nat) (ok : Bool) (cal : Cal) (data : Bytes) (s : State) :
    OnlyBurns s.otp.words (execCchFrameEnd k ok cal data s) := by
  unfold execCchFrameEnd
  split <;> simp

@[simp] theorem execCchContTimeout_onlyBurns (k : Nat) (s : State) : OnlyBurns s.otp.words (execCchContTimeout k s) := by
  unfold execCchContTimeout
  (repeat' split) <;> simp

@[simp] theorem execCchWipPoll_onlyBurns (k : Nat) (dev : Bool) (clear : Bool) (s : State) :
    OnlyBurns s.otp.words (execCchWipPoll k dev clear s) := by
  unfold execCchWipPoll
  (repeat' split) <;> simp

@[simp] theorem execCchWipTimeout_onlyBurns (k : Nat) (dev : Bool) (s : State) : OnlyBurns s.otp.words (execCchWipTimeout k dev s) := by
  unfold execCchWipTimeout
  (repeat' split) <;> simp

@[simp] theorem execCommitEntryStart_onlyBurns (k : Nat) (s : State) : OnlyBurns s.otp.words (execCommitEntryStart k s) := by
  unfold execCommitEntryStart
  dsimp only
  (repeat' split) <;> simp

/-! ### Engines -/

@[simp] theorem dgaOpen_onlyBurns (w : Tab OtpSense) (alg : BitVec 3) (s : State) (hs : BurnedFrom w s.otp.words) :
    OnlyBurns w (dgaOpen alg s) := by
  simp [dgaOpen, hs]

@[simp] theorem execDgaOpenGrant_onlyBurns (s : State) : OnlyBurns s.otp.words (execDgaOpenGrant s) := by
  unfold execDgaOpenGrant
  dsimp only
  split <;> simp

@[simp] theorem dgaAccess_onlyBurns (w : Tab OtpSense) (c : Nat) (f : DgaCtx → Option DgaCtx) (s : State) (hs : BurnedFrom w s.otp.words) :
    OnlyBurns w (dgaAccess c f s) := by
  unfold dgaAccess
  split <;> simp [hs]

@[simp] theorem dgaData_onlyBurns (w : Tab OtpSense) (word : BitVec 32) (s : State) (hs : BurnedFrom w s.otp.words) :
    OnlyBurns w (dgaData word s) := by
  simp [dgaData, hs]

@[simp] theorem dgaLast_onlyBurns (w : Tab OtpSense) (word : DgaLast) (s : State) (hs : BurnedFrom w s.otp.words) :
    OnlyBurns w (dgaLast word s) := by
  simp [dgaLast, hs]

@[simp] theorem dgaClose_onlyBurns (w : Tab OtpSense) (ctx : BitVec 8) (s : State) (hs : BurnedFrom w s.otp.words) :
    OnlyBurns w (dgaClose ctx s) := by
  simp [dgaClose, hs]

@[simp] theorem dgaExpect_onlyBurns (w : Tab OtpSense) (i : BitVec 4) (word : BitVec 32) (s : State) (hs : BurnedFrom w s.otp.words) :
    OnlyBurns w (dgaExpect i word s) := by
  simp [dgaExpect, hs]

@[simp] theorem sigStart_onlyBurns (w : Tab OtpSense) (op : Nat) (e : Bool) (ctx key : BitVec 8) (s : State)
    (hs : BurnedFrom w s.otp.words) :
    OnlyBurns w (sigStart op e ctx key s) := by
  simp [sigStart, hs]

@[simp] theorem sigGo_onlyBurns (w : Tab OtpSense) (op : Nat) (e : Bool) (ctx key : BitVec 8) (s : State) (hs : BurnedFrom w s.otp.words) :
    OnlyBurns w (sigGo op e ctx key s) := by
  simp [sigGo, hs]

@[simp] theorem execSigOpDone_onlyBurns (e : Bool) (rails : BitVec 2) (s : State) : OnlyBurns s.otp.words (execSigOpDone e rails s) := by
  unfold execSigOpDone
  (repeat' split) <;> simp

@[simp] theorem kldFwid_onlyBurns (w : Tab OtpSense) (i : BitVec 4) (word : BitVec 32) (s : State) (hs : BurnedFrom w s.otp.words) :
    OnlyBurns w (kldFwid i word s) := by
  simp [kldFwid, hs]

@[simp] theorem kldSvn_onlyBurns (w : Tab OtpSense) (svn : BitVec 5) (s : State) (hs : BurnedFrom w s.otp.words) :
    OnlyBurns w (kldSvn svn s) := by
  simp [kldSvn, hs]

/-! ### Evidence -/

@[simp] theorem execBlockTimedClose_onlyBurns (ring : Bool) (s : State) : OnlyBurns s.otp.words (execBlockTimedClose ring s) := by
  unfold execBlockTimedClose
  split <;> simp

@[simp] theorem execBootRecordSigned_onlyBurns (s : State) : OnlyBurns s.otp.words (execBootRecordSigned s) := by
  unfold execBootRecordSigned
  split <;> simp

/-! ### Management ports -/

@[simp] theorem vendorAnswer_onlyBurns (w : Tab OtpSense) (cmd : Nat) (b : Bool) (h : VendorHdr) (result : Nat) (body : Bytes)
    (s : State) (hs : BurnedFrom w s.otp.words) :
    OnlyBurns w (vendorAnswer cmd b h result body s) := by
  simp [vendorAnswer, hs]

@[simp] theorem journalCmd_onlyBurns (w : Tab OtpSense) (cmd : Nat) (b : Bool) (h : VendorHdr) (s : State) (o : Out)
    (hs : BurnedFrom w s.otp.words) (ho : OnlyBurns w o) : OnlyBurns w (journalCmd cmd b h s o) := by
  simp [journalCmd, hs, ho]

@[simp] theorem vaultAsk_onlyBurns (w : Tab OtpSense) (b : Bool) (h : VendorHdr) (q : VaultRead) (s : State)
    (hs : BurnedFrom w s.otp.words) :
    OnlyBurns w (vaultAsk b h q s) := by
  simp [vaultAsk, hs]

@[simp] theorem execReadBlock_onlyBurns (b : Bool) (h : VendorHdr) (index offset length : Nat) (s : State) :
    OnlyBurns s.otp.words (execReadBlock b h index offset length s) := by
  unfold execReadBlock
  (repeat' split) <;> simp

theorem mgtTry_words {q : MgtAsk} {s t : State} {r : Nat} {body : Bytes} (h : mgtTry q s = some (r, body, t)) :
    t.otp.words = s.otp.words := by
  unfold mgtTry at h
  dsimp only at h
  (repeat' split at h) <;> simp at h <;> obtain ⟨-, -, rfl⟩ := h <;> rfl

@[simp] theorem mgtAsk_onlyBurns (w : Tab OtpSense) (b : Bool) (h : VendorHdr) (q : MgtAsk) (s : State) (hs : BurnedFrom w s.otp.words) :
    OnlyBurns w (mgtAsk b h q s) := by
  unfold mgtAsk
  split
  · rename_i ht
    simp [mgtTry_words ht, hs]
  · simp [hs]

@[simp] theorem mgtServe_words (b : Bool) (s : State) : (mgtServe b s).otp.words = s.otp.words := by
  unfold mgtServe
  split
  · rfl
  · split
    · split
      · rename_i ht
        simp [mgtTry_words ht]
      · rfl
    · rfl

@[simp] theorem execIbiRetry_onlyBurns (b acked : Bool) (s : State) : OnlyBurns s.otp.words (execIbiRetry b acked s) := by
  unfold execIbiRetry
  split <;> simp

@[simp] theorem execCbusRetry_onlyBurns (i : Nat) (ack : Bool) (s : State) : OnlyBurns s.otp.words (execCbusRetry i ack s) := by
  unfold execCbusRetry
  split <;> simp

/-! ### The OTP controller -/

@[simp] theorem otpGoRead_onlyBurns (w : Tab OtpSense) (addr : BitVec 11) (s : State) (hs : BurnedFrom w s.otp.words) :
    OnlyBurns w (otpGoRead addr s) := by
  simp [otpGoRead, hs]

@[simp] theorem otpDropped_words (s : State) : (otpDropped s).otp.words = s.otp.words := by
  simp [otpDropped]

@[simp] theorem otpRefuse_words (op addr : Nat) (s : State) : (otpRefuse op addr s).otp.words = s.otp.words := by
  simp [otpRefuse]

@[simp] theorem otpAfter_words (p : OtpPend) (s : State) : (otpAfter p s).otp.words = s.otp.words := by
  simp [otpAfter]

@[simp] theorem ratchetBurn_words (n : Nat) (s : State) : (ratchetBurn n s).otp.words = s.otp.words := by
  simp [ratchetBurn]

@[simp] theorem otpGoProgram_onlyBurns (w : Tab OtpSense) (addr : BitVec 11) (data : BitVec 32) (s : State)
    (hs : BurnedFrom w s.otp.words) :
    OnlyBurns w (otpGoProgram addr data s) := by
  simp [otpGoProgram, hs]

@[simp] theorem otpGoScan_onlyBurns (w : Tab OtpSense) (s : State) (hs : BurnedFrom w s.otp.words) : OnlyBurns w (otpGoScan s) := by
  simp [otpGoScan, hs]

@[simp] theorem lcStepBegin_words (s : State) : (lcStepBegin s).otp.words = s.otp.words := by
  simp [lcStepBegin]

@[simp] theorem lcStepGo_words (auth : Nat) (s : State) : (lcStepGo auth s).otp.words = s.otp.words := by
  simp [lcStepGo]

@[simp] theorem otpGoLcStep_onlyBurns (w : Tab OtpSense) (owner : Bool) (s : State) (hs : BurnedFrom w s.otp.words) :
    OnlyBurns w (otpGoLcStep owner s) := by
  simp [otpGoLcStep, hs]

@[simp] theorem otpNext_words (s : State) : (otpNext s).otp.words = s.otp.words := by
  unfold otpNext
  (repeat' split) <;> simp

/-! ### Tokens and the mailbox -/

@[simp] theorem tokenAct_words (t : Token) (s : State) : (tokenAct t s).otp.words = s.otp.words := by
  simp [tokenAct]

@[simp] theorem newChallenge_words (s : State) : (newChallenge s).otp.words = s.otp.words := by
  simp [newChallenge]

@[simp] theorem mbxEnd_onlyBurns (w : Tab OtpSense) (b : Bool) (result : Nat) (s : State) (hs : BurnedFrom w s.otp.words) :
    OnlyBurns w (mbxEnd b result s) := by
  simp [mbxEnd, hs]

@[simp] theorem execExportAck_onlyBurns (b : Bool) (sig : Sig2) (s : State) : OnlyBurns s.otp.words (execExportAck b sig s) := by
  unfold execExportAck
  split <;> simp

/-! ### Reset events -/

@[simp] theorem hEvent_words (p : Nat) (s : State) : (hEvent p s).otp.words = s.otp.words := by
  simp [hEvent]

/-! ### Mediated updates -/

@[simp] theorem updateRecords_words (j port : Nat) (eff : State → State) (h : ∀ s, (eff s).otp.words = s.otp.words) (n : Nat)
    (l : List MedComp) (s : State) : (updateRecords j port eff n l s).otp.words = s.otp.words := by
  induction n generalizing l s with
  | zero => exact h s
  | succ n ih => 
    unfold updateRecords
    dsimp only
    (repeat' split) <;> simp [h, ih]

@[simp] theorem medRecords_words (j port : Nat) (s : State) : (medRecords j port s).otp.words = s.otp.words := by
  unfold medRecords
  split <;> simp

@[simp] theorem medTrack_words (j : Nat) (m : MedPkt) (s : State) : (medTrack j m s).otp.words = s.otp.words := by
  unfold medTrack
  split <;> simp

@[simp] theorem medHandle_words (j : Nat) (m : MedPkt) (s : State) : (medHandle j m s).1.otp.words = s.otp.words := by
  unfold medHandle
  (repeat' split) <;> simp

@[simp] theorem medOne_words (m : MedPkt) (s : State) : (medOne m s).1.otp.words = s.otp.words := by
  unfold medOne
  (repeat' split) <;> simp

theorem medOne_foldl_words (l : List MedPkt) (a : State × List MedReply) :
    (l.foldl (fun a m => ((medOne m a.1).1, a.2 ++ (medOne m a.1).2)) a).1.otp.words = a.1.otp.words := by
  induction l generalizing a with
  | nil => rfl
  | cons m l ih => exact (ih _).trans (medOne_words m a.1)

@[simp] theorem medResume_words (s : State) : (medResume s).1.otp.words = s.otp.words :=
  medOne_foldl_words _ _

/-! ### Supplies, oscillators and Mordant requests -/

@[simp] theorem execAocResumed_onlyBurns (b : Bool) (s : State) : OnlyBurns s.otp.words (execAocResumed b s) := by
  unfold execAocResumed
  dsimp only
  (repeat' split) <;> simp

@[simp] theorem execTripRecord_onlyBurns (s : State) : OnlyBurns s.otp.words (execTripRecord s) := by
  unfold execTripRecord
  split <;> simp

@[simp] theorem tripReq_onlyBurns (w : Tab OtpSense) (value : BitVec 32) (s : State) (hs : BurnedFrom w s.otp.words) :
    OnlyBurns w (tripReq value s) := by
  simp [tripReq, hs]

@[simp] theorem holdReq_onlyBurns (w : Tab OtpSense) (mask : BitVec 32) (s : State) (hs : BurnedFrom w s.otp.words) :
    OnlyBurns w (holdReq mask s) := by
  simp [holdReq, hs]

@[simp] theorem releaseReq_onlyBurns (w : Tab OtpSense) (mask : BitVec 32) (s : State) (hs : BurnedFrom w s.otp.words) :
    OnlyBurns w (releaseReq mask s) := by
  simp [releaseReq, hs]

/-! ### Waiting records -/

@[simp] theorem gateEffect_words (g : Gate) (s : State) : (gateEffect g s).otp.words = s.otp.words := by
  unfold gateEffect
  split <;> simp

@[simp] theorem writeWaiting_words (s : State) : (writeWaiting s).otp.words = s.otp.words := by
  unfold writeWaiting
  split <;> simp

@[simp] theorem writeAllWaiting_words (s : State) : (writeAllWaiting s).otp.words = s.otp.words := by
  simp [writeAllWaiting]

/-! ### The window -/

@[simp] theorem execXipFetch_onlyBurns (offset : BitVec 29) (s : State) : OnlyBurns s.otp.words (execXipFetch offset s) := by
  unfold execXipFetch
  dsimp only
  (repeat' split) <;> simp

@[simp] theorem execXipFillDone_onlyBurns (data : Bytes) (bad : BitVec 2) (s : State) :
    OnlyBurns s.otp.words (execXipFillDone data bad s) := by
  unfold execXipFillDone
  (repeat' split) <;> simp

/-! ### Failovers -/

@[simp] theorem dgaRemove_words (e : Nat) (s : State) : (dgaRemove e s).otp.words = s.otp.words := by
  unfold dgaRemove
  dsimp only
  rw [foldl_words]
  · simp
  · intro s o
    split <;> simp

@[simp] theorem execDgaKnownAnswerCheck_onlyBurns (e : Nat) (ok : Bool) (_slots : List Nat) (_xip : Bool) (_meds : List Nat) (s : State) :
    OnlyBurns s.otp.words (execDgaKnownAnswerCheck e ok _slots _xip _meds s) := by
  unfold execDgaKnownAnswerCheck
  (repeat' split) <;> simp

/-! ### Ring commands -/

@[simp] theorem queueFails_words (p g : Nat) (s : State) : (queueFails p g s).otp.words = s.otp.words := by
  simp [queueFails]

@[simp] theorem accessFail_words (p g : Nat) (u : AccessUse) (s : State) : (accessFail p g u s).otp.words = s.otp.words := by
  simp [accessFail]

@[simp] theorem destroyFirst_words (p g : Nat) (s : State) : (destroyFirst p g s).otp.words = s.otp.words := by
  simp [destroyFirst]

@[simp] theorem sqDoorbellGo_words (p : BitVec 2) (g : BitVec 18) (value : BitVec 32) (bound : Bool) (s : State) :
    (sqDoorbellGo p g value bound s).otp.words = s.otp.words := by
  simp [sqDoorbellGo]

@[simp] theorem cqDoorbellGo_words (p : BitVec 2) (g : BitVec 18) (value : BitVec 32) (bound : Bool) (s : State) :
    (cqDoorbellGo p g value bound s).otp.words = s.otp.words := by
  simp [cqDoorbellGo]

@[simp] theorem doorbell_onlyBurns (w : Tab OtpSense) (p : BitVec 2) (bound : Bool) (q : LakeReq) (go : State → State) (s : State)
    (hs : BurnedFrom w s.otp.words) (hg : BurnedFrom w (go s).otp.words) : OnlyBurns w (doorbell p bound q go s) := by
  simp [doorbell, hs, hg]

@[simp] theorem execDoorbellSq_onlyBurns (w : Tab OtpSense) (p : BitVec 2) (g : BitVec 18) (value : BitVec 32) (bound : Bool) (s : State)
    (hs : BurnedFrom w s.otp.words) : OnlyBurns w (execDoorbellSq p g value bound s) := by
  simp [execDoorbellSq, hs]

@[simp] theorem execDoorbellCq_onlyBurns (w : Tab OtpSense) (p : BitVec 2) (g : BitVec 18) (value : BitVec 32) (bound : Bool) (s : State)
    (hs : BurnedFrom w s.otp.words) : OnlyBurns w (execDoorbellCq p g value bound s) := by
  simp [execDoorbellCq, hs]

@[simp] theorem fetchHold_onlyBurns (w : Tab OtpSense) (p g : Nat) (e : Bytes) (s : State) (hs : BurnedFrom w s.otp.words) :
    OnlyBurns w (fetchHold p g e s) := by
  simp [fetchHold, hs]

@[simp] theorem fetchActive_onlyBurns (w : Tab OtpSense) (p g : Nat) (rec' : RingsRec) (f : Fetched) (s0 s : State)
    (h0 : BurnedFrom w s0.otp.words) (hs : BurnedFrom w s.otp.words) : OnlyBurns w (fetchActive p g rec' f s0 s) := by
  simp [fetchActive, h0, hs]

@[simp] theorem fetchGo_onlyBurns (w : Tab OtpSense) (p g : Nat) (rec' : RingsRec) (f : Fetched) (s : State)
    (hs : BurnedFrom w s.otp.words) :
    OnlyBurns w (fetchGo p g rec' f s) := by
  simp [fetchGo, hs]

@[simp] theorem againEnd_words (j : RingCmd) (status : Nat) (result : Bytes) (out : List (Nat × Bytes)) (s : State) :
    (againEnd j status result out s).otp.words = s.otp.words := by
  simp [againEnd]

@[simp] theorem againGo_onlyBurns (w : Tab OtpSense) (j : RingCmd) (bufOk : Bool) (buf : Bytes) (s : State)
    (hs : BurnedFrom w s.otp.words) :
    OnlyBurns w (againGo j bufOk buf s) := by
  unfold againGo
  (repeat' split) <;> simp [hs]

@[simp] theorem execCommandFetch_onlyBurns (p : BitVec 2) (g : BitVec 18) (ok : Bool) (f : Fetched) (s : State) :
    OnlyBurns s.otp.words (execCommandFetch p g ok f s) := by
  unfold execCommandFetch
  (repeat' split) <;> simp

@[simp] theorem opcodeEffect_onlyBurns (w : Tab OtpSense) (s : State) (test : RingCmd → Bool) (hs : BurnedFrom w s.otp.words) :
    OnlyBurns w (opcodeEffect s test) := by
  simp [opcodeEffect, hs]

@[simp] theorem execCapsuleSubmit_onlyBurns (s : State) : OnlyBurns s.otp.words (execCapsuleSubmit s) := by
  unfold execCapsuleSubmit
  split <;> simp

@[simp] theorem execCompletionPost_onlyBurns (p : BitVec 2) (g : BitVec 18) (ok outOk : Bool) (s : State) :
    OnlyBurns s.otp.words (execCompletionPost p g ok outOk s) := by
  unfold execCompletionPost
  dsimp only
  split <;> simp

@[simp] theorem execMsixGapEnd_onlyBurns (p : BitVec 2) (v : BitVec 11) (s : State) : OnlyBurns s.otp.words (execMsixGapEnd p v s) := by
  unfold execMsixGapEnd
  dsimp only
  split <;> simp

@[simp] theorem execBatchSigned_onlyBurns (second : Bool) (s : State) : OnlyBurns s.otp.words (execBatchSigned second s) := by
  unfold execBatchSigned
  split <;> simp

/-! ### The Service Complex -/

@[simp] theorem scReset_onlyBurns (w : Tab OtpSense) (value : BitVec 32) (s : State) (hs : BurnedFrom w s.otp.words) :
    OnlyBurns w (scReset value s) := by
  simp [scReset, hs]

@[simp] theorem ringResume_words (s : State) : (ringResume s).otp.words = s.otp.words := by
  simp [ringResume]

@[simp] theorem sramWp_onlyBurns (w : Tab OtpSense) (limit : BitVec 8) (s : State) (hs : BurnedFrom w s.otp.words) :
    OnlyBurns w (sramWp limit s) := by
  simp [sramWp, hs]

@[simp] theorem sicDone_onlyBurns (w : Tab OtpSense) (nn : BitVec 4) (value : BitVec 32) (s : State) (hs : BurnedFrom w s.otp.words) :
    OnlyBurns w (sicDone nn value s) := by
  simp [sicDone, hs]

@[simp] theorem wdtServe_onlyBurns (w : Tab OtpSense) (value : BitVec 32) (s : State) (hs : BurnedFrom w s.otp.words) :
    OnlyBurns w (wdtServe value s) := by
  simp [wdtServe, hs]

@[simp] theorem wdtKey_onlyBurns (w : Tab OtpSense) (value : BitVec 32) (inTime : Bool) (s : State) (hs : BurnedFrom w s.otp.words) :
    OnlyBurns w (wdtKey value inTime s) := by
  simp [wdtKey, hs]

/-! ### Registers -/

@[simp] theorem writeDoorbell_onlyBurns (w : Tab OtpSense) (p : BitVec 2) (a len : Nat) (v : BitVec 32) (bound : Bool) (s : State)
    (hs : BurnedFrom w s.otp.words) :
    OnlyBurns w (writeDoorbell p a len v bound s) := by
  simp [writeDoorbell, hs]

@[simp] theorem writeOtpc_words (a : Nat) (v : BitVec 32) (s : State) : (writeOtpc a v s).otp.words = s.otp.words := by
  unfold writeOtpc
  split <;> simp

@[simp] theorem writeBlock_words (n a : Nat) (v : BitVec 32) (s : State) : (writeBlock n a v s).otp.words = s.otp.words := by
  unfold writeBlock
  (repeat' split) <;> simp

/-! ### The gate -/

@[simp] theorem execEndpointTlp_onlyBurns (q : Nat) (t : Tlp) (bad : BitVec 3) (s : State) :
    OnlyBurns s.otp.words (execEndpointTlp q t bad s) := by
  unfold execEndpointTlp
  split <;> simp

@[simp] theorem execHostTlp_onlyBurns (p : Nat) (t : Tlp) (s : State) : OnlyBurns s.otp.words (execHostTlp p t s) := by
  unfold execHostTlp
  split <;> simp

@[simp] theorem execVaultDriveRequest_onlyBurns (inside posted : Bool) (s : State) :
    OnlyBurns s.otp.words (execVaultDriveRequest inside posted s) := by
  unfold execVaultDriveRequest
  split <;> simp

@[simp] theorem execDeclareResult_onlyBurns (p : Nat) (s : State) : OnlyBurns s.otp.words (execDeclareResult p s) := by
  unfold execDeclareResult
  split <;> simp

@[simp] theorem execResistArmEffect_onlyBurns (p : Nat) (s : State) : OnlyBurns s.otp.words (execResistArmEffect p s) := by
  unfold execResistArmEffect
  split <;> simp

/-! ### JTAG -/

@[simp] theorem debugRead_onlyBurns (w : Tab OtpSense) (a len : Nat) (s : State) (hs : BurnedFrom w s.otp.words) :
    OnlyBurns w (debugRead a len s) := by
  unfold debugRead
  (repeat' split) <;> simp [hs]

@[simp] theorem execJtagInstruction_onlyBurns (i : JtagOp) (s : State) :
    OnlyBurns s.otp.words (execJtagInstruction i s) := by
  refine (onlyBurns_when ..).2 ⟨fun _ => ?_, fun _ => .same⟩
  cases i with
  | otpProgram a data weakLo weakHi =>
    dsimp only
    (repeat' split) <;> simp [burnedFrom_otpBurn]
  | regRead a len => exact (onlyBurns_when ..).2 ⟨fun _ => debugRead_onlyBurns _ a len _ .same, fun _ => .same⟩
  | mandatory | idcode | challenge | memoryTest | otpRead | halt | step | memRead | trace =>
    dsimp only
    (repeat' split) <;> simp

/-! ### The Lake -/

@[simp] theorem execLakeIntegrityFail_onlyBurns (n : BitVec 3) (reread rebuilt : Bool) (s : State) :
    OnlyBurns s.otp.words (execLakeIntegrityFail n reread rebuilt s) := by
  unfold execLakeIntegrityFail
  (repeat' split) <;> simp

@[simp] theorem lakeReqGo_words (q : LakeReq) (s : State) : (lakeReqGo q s).otp.words = s.otp.words := by
  unfold lakeReqGo
  split <;> simp

/-! ### Links and endpoints -/

@[simp] theorem execLinkUp_onlyBurns (port rate width : Nat) (flit l0p : Bool) (s : State) :
    OnlyBurns s.otp.words (execLinkUp port rate width flit l0p s) := by
  unfold execLinkUp
  (repeat' split) <;> simp

@[simp] theorem execLinkDown_onlyBurns (port : Nat) (s : State) : OnlyBurns s.otp.words (execLinkDown port s) := by
  unfold execLinkDown
  split <;> simp

@[simp] theorem execSpdmMeasurements_onlyBurns (j : Nat) (block : Option Bytes) (sig : Half) (s : State) :
    OnlyBurns s.otp.words (execSpdmMeasurements j block sig s) := by
  unfold execSpdmMeasurements
  split <;> simp

@[simp] theorem execSpdmSendTimeout_onlyBurns (j : Nat) (s : State) : OnlyBurns s.otp.words (execSpdmSendTimeout j s) := by
  unfold execSpdmSendTimeout
  split <;> simp

@[simp] theorem gateContain_onlyBurns (w : Tab OtpSense) (mask : BitVec 32) (s : State) (hs : BurnedFrom w s.otp.words) :
    OnlyBurns w (gateContain mask s) := by
  simp [gateContain, hs]

@[simp] theorem gateRecheck_onlyBurns (w : Tab OtpSense) (mask : BitVec 32) (s : State) (hs : BurnedFrom w s.otp.words) :
    OnlyBurns w (gateRecheck mask s) := by
  simp [gateRecheck, hs]

@[simp] theorem execHostConfigRequest_onlyBurns (port : Nat) (s : State) : OnlyBurns s.otp.words (execHostConfigRequest port s) := by
  unfold execHostConfigRequest
  (repeat' split) <;> simp

@[simp] theorem execHostDpcTriggerWrite_onlyBurns (port : Nat) (trigger : Bool) (s : State) :
    OnlyBurns s.otp.words (execHostDpcTriggerWrite port trigger s) := by
  unfold execHostDpcTriggerWrite
  split <;> simp

/-! ### Mediated updates -/

@[simp] theorem execPldmMediatedPacket_onlyBurns (port : Nat) (m : MedMsg) (size : Nat) (s : State) :
    OnlyBurns s.otp.words (execPldmMediatedPacket port m size s) := by
  unfold execPldmMediatedPacket
  (repeat' split) <;> simp

@[simp] theorem execActivateFirmwareRelease_onlyBurns (port : Nat) (s : State) :
    OnlyBurns s.otp.words (execActivateFirmwareRelease port s) := by
  unfold execActivateFirmwareRelease
  (repeat' split) <;> simp

@[simp] theorem execActivateFirmwareResponse_onlyBurns (port : Nat) (s : State) :
    OnlyBurns s.otp.words (execActivateFirmwareResponse port s) := by
  unfold execActivateFirmwareResponse
  split <;> simp

/-! ### Presentation ports -/

@[simp] theorem prsModeRead_onlyBurns (w : Tab OtpSense) (f : PrsFrame) (q : PrsRead) (m : ReadMode) (cond : PresentRec → Bool)
    (op3 op4 : Byte) (s : State) (hs : BurnedFrom w s.otp.words) :
    OnlyBurns w (prsModeRead f q m cond op3 op4 s) := by
  simp [prsModeRead, hs]

@[simp] theorem execPrsSectorErase_onlyBurns (f : PrsFrame) (op : Byte) (s : State) :
    OnlyBurns s.otp.words (execPrsSectorErase f op s) := by
  refine prsFrame_onlyBurns _ _ _ _ .same (fun p r e => ?_)
  split <;> simp

@[simp] theorem prsAddrMode_onlyBurns (w : Tab OtpSense) (f : PrsFrame) (op : Byte) (on : Bool) (s : State)
    (hs : BurnedFrom w s.otp.words) :
    OnlyBurns w (prsAddrMode f op on s) := by
  simp [prsAddrMode, hs]

@[simp] theorem execWriteJournalEntry_onlyBurns (port : Nat) (dev : Bool) (s : State) :
    OnlyBurns s.otp.words (execWriteJournalEntry port dev s) := by
  unfold execWriteJournalEntry
  dsimp only
  split <;> simp

@[simp] theorem execWriteDurable_onlyBurns (port : Nat) (dev : Bool) (s : State) : OnlyBurns s.otp.words (execWriteDurable port dev s) := by
  unfold execWriteDurable
  dsimp only
  split <;> simp

@[simp] theorem execWriteApply_onlyBurns (port : Nat) (dev : Bool) (s : State) : OnlyBurns s.otp.words (execWriteApply port dev s) := by
  unfold execWriteApply
  dsimp only
  split <;> simp

@[simp] theorem execDeviceLoadDone_onlyBurns (port : Nat) (dev : Bool) (content : List (Nat × Byte)) (ok : Bool) (s : State) :
    OnlyBurns s.otp.words (execDeviceLoadDone port dev content ok s) := by
  unfold execDeviceLoadDone
  split <;> simp

/-! ### Register writes -/

theorem writeInternal_words {a : Nat} {b : Bytes} {s t : State} (h : writeInternal a b s = some t) : t.otp.words = s.otp.words := by
  unfold writeInternal at h
  (repeat' split at h) <;> cases h <;> simp

theorem ownWrite_onlyBurns {w : Tab OtpSense} {n a : Nat} {v : BitVec 32} {s : State} {o : Out} (hs : BurnedFrom w s.otp.words)
    (h : ownWrite n a v s = some o) : OnlyBurns w o := by
  unfold ownWrite at h
  (repeat' split at h) <;> cases h <;> simp [hs]

@[simp] theorem jtagOut_onlyBurns (w : Tab OtpSense) (s : State) (o : Out) (hs : BurnedFrom w s.otp.words) (ho : OnlyBurns w o) :
    OnlyBurns w (jtagOut s o) := by
  unfold jtagOut
  split
  · split
    · simpa using hs
    · exact ho
  · exact ho

@[simp] theorem jtagWrite_onlyBurns (w : Tab OtpSense) (a len : Nat) (v : BitVec 32) (s : State) (hs : BurnedFrom w s.otp.words) :
    OnlyBurns w (jtagWrite a len v s) := by
  unfold jtagWrite
  split
  · simp [hs]
  · split
    · rename_i h
      simp [hs, ownWrite_onlyBurns hs h]
    · simp [hs]

@[simp] theorem execRegisterWrite_onlyBurns (sp : RegSpace) (a : Nat) (v : BitVec 32) (s : State) :
    OnlyBurns s.otp.words (execRegisterWrite sp a v s) := by
  unfold execRegisterWrite
  split
  · simp
  · simp
  · simp
  · refine (onlyBurns_when ..).2 ⟨fun _ => ?_, fun _ => .same⟩
    split
    · rename_i h
      simp [writeInternal_words h]
    · simp
  · simp

/-! ### Self-test and ROM -/

@[simp] theorem burnedFrom_romFuses (w : Tab OtpSense) (t : SelfTest) (s : State) (hs : BurnedFrom w s.otp.words) :
    BurnedFrom w (romFuses t s).otp.words := by
  unfold romFuses
  show BurnedFrom w (if lcNeedsReburn s.otp && t.reburnOk then lcBurnCell s.otp (lcLowest s.otp) else s.otp).words
  split
  · exact burnedFrom_lcBurnCell _ hs
  · exact hs

@[simp] theorem burnedFrom_romSlot (w : Tab OtpSense) (t : SelfTest) (slot : Bool) (s : State) (hs : BurnedFrom w s.otp.words) :
    BurnedFrom w (romSlot t slot s).otp.words := by
  unfold romSlot
  (repeat' split) <;> simp [hs]

@[simp] theorem burnedFrom_romPolicy (w : Tab OtpSense) (t : SelfTest) (s : State) (hs : BurnedFrom w s.otp.words) :
    BurnedFrom w (romPolicy t s).otp.words := by
  simp [romPolicy, hs]

@[simp] theorem romNoPolicy_words (s : State) : (romNoPolicy s).otp.words = s.otp.words := by
  simp [romNoPolicy]

@[simp] theorem execSelfTestDone_onlyBurns (t : SelfTest) (s : State) : OnlyBurns s.otp.words (execSelfTestDone t s) := by
  unfold execSelfTestDone
  dsimp only
  (repeat' split) <;> simp

/-! ### The Vault -/

@[simp] theorem execNvmeCommandDone_onlyBurns (back : List DriveBlock) (s : State) :
    OnlyBurns s.otp.words (execNvmeCommandDone back s) := by
  unfold execNvmeCommandDone
  split <;> simp

@[simp] theorem execNvmeCommandTimeout_onlyBurns (s : State) : OnlyBurns s.otp.words (execNvmeCommandTimeout s) := by
  unfold execNvmeCommandTimeout
  split <;> simp

@[simp] theorem execNvmeControllerReady_onlyBurns (s : State) : OnlyBurns s.otp.words (execNvmeControllerReady s) := by
  unfold execNvmeControllerReady
  split <;> simp

@[simp] theorem execCheckpointDone_onlyBurns (s : State) : OnlyBurns s.otp.words (execCheckpointDone s) := by
  unfold execCheckpointDone
  split <;> simp

/-! ### The tick -/

@[simp] theorem tick_words (s : State) : (tick s).otp.words = s.otp.words := by
  simp [tick]

/-! ### The commands -/

theorem exec_onlyBurns (c : Instr) (s : State) : OnlyBurns s.otp.words (exec c s) := by
  cases c with
  | vsecPowerOn | criticalFuseLatchComplete | vsecBrownout | vsecOff | mainSetGood | mainRailFail | pllLossOfLock | vioRstGood |
    vioRstLost | vioBankLow | hotReset | upstreamLinkDown | aocDisagreement | aocStopped | aocResumed | tamperAssert | tripRecord |
    tripReqWrite | holdRequest | releaseRequest | tamperRelease | vsecAboveVBod | aocAgreement =>
    simp [exec, execVsecPowerOn, execCriticalFuseLatchComplete, execVsecBrownout, execVsecOff, execMainSetGood, execMainRailFail,
      execPllLossOfLock, execVioRstGood, execVioRstLost, execVioBankLow, execHotReset, execUpstreamLinkDown, execAocDisagreement,
      execAocStopped, execTamperAssert, execTripReqWrite, execHoldRequest, execReleaseRequest, execTamperRelease, execVsecAboveVBod,
      execAocAgreement]
  | tripClear | challenge | token | jtagTokenSubmit | lcClose | exportAck =>
    simp [exec, execTripClear, execChallenge, execToken, execJtagTokenSubmit, execLcClose]
  | registerWrite =>
    simp [exec]
  | selfTestDone | microcodeLoadDone =>
    simp [exec, execMicrocodeLoadDone]
  | otpRead | otpProgram | otpScan | otpLcStep | otpOpDone =>
    simp [exec, execOtpRead, execOtpProgram, execOtpScan, execOtpLcStep, execOtpOpDone]
  | jtagInstruction =>
    simp [exec]
  | pldmRequestUpdate | pldmComponentPush | pldmCapsulePush | capsuleStage | pldmCancelUpdate =>
    simp [exec, execPldmRequestUpdate, execPldmComponentPush, execPldmCapsulePush, execPldmCancelUpdate]
  | cchQpush | cchQdoneRead | cchFrameStart | cchFrameEnd | cchWipPoll | cchWipTimeout | cchContTimeout | cchPeriodicCalibration |
    cchSelftestDone | scrubPassStart | commitEntryStart =>
    simp [exec, execCchQpush, execCchQdoneRead, execCchPeriodicCalibration, execCchSelftestDone, execScrubPassStart]
  | xipFetch | xipFillDone =>
    simp [exec]
  | prsRead | prsFastRead | prsReadDual | prsReadQuad | prsReadQuadDtr | prsReadOctal | prsReadOctalDtr | prsPageProgram |
    prsPageProgramQuad | prsSectorErase | prsChipErase | prsWriteEnable | prsWriteDisable | prsReadStatus | prsWriteStatus | prsReadId |
    prsReadSfdp | prsEnter4b | prsExit4b | prsProtocolSelect | prsResetEnable | prsReset | prsPowerDown | prsReleasePowerDown |
    prsUnknownOpcode | prsFrameReject | writeJournalEntry | writeDurable | writeApply | deviceLoadDone =>
    simp [exec, execPrsRead, execPrsFastRead, execPrsReadDual, execPrsReadQuad, execPrsReadQuadDtr, execPrsReadOctal,
      execPrsReadOctalDtr, execPrsPageProgram, execPrsPageProgramQuad, execPrsChipErase, execPrsWriteEnable, execPrsWriteDisable,
      execPrsReadStatus, execPrsWriteStatus, execPrsReadId, execPrsReadSfdp, execPrsEnter4b, execPrsExit4b, execPrsProtocolSelect,
      execPrsResetEnable, execPrsReset, execPrsPowerDown, execPrsReleasePowerDown, execPrsUnknownOpcode, execPrsFrameReject]
  | lakeIntegrityFail | lakeChannelFault | lakeFailoverDone =>
    simp [exec, execLakeChannelFault, execLakeFailoverDone]
  | judgeStart | judgementDone | verifyDeadlineExpiry | restoreVaultBegin | vaultWaitExpiry | goldenStore | imageSvnAdvance |
    policySvnAdvance =>
    simp [exec, execJudgeStart, execVaultWaitExpiry]
  | linkUp | linkDown | endpointLinkTimeout | endpointReadyWaitEnd | deviceReadinessStatus | configRetry | endpointConfigSuccess |
    endpointReadyTimeout | spdmVersion | spdmCapabilities | spdmAlgorithms | spdmDigests | spdmCertificate | spdmMeasurements |
    spdmError | spdmSendTimeout | attestationTimeout | recheckDue | gateContainReq | gateRechkReq | hostConfigRequest |
    hostDpcTriggerWrite | altProtocolNegotiation =>
    simp [exec, execEndpointLinkTimeout, execEndpointReadyWaitEnd, execDeviceReadinessStatus, execConfigRetry, execEndpointConfigSuccess,
      execEndpointReadyTimeout, execSpdmVersion, execSpdmCapabilities, execSpdmAlgorithms, execSpdmDigests, execSpdmCertificate,
      execSpdmError, execAttestationTimeout, execRecheckDue, execGateContainReq, execGateRechkReq, execAltProtocolNegotiation]
  | endpointTlp | hostTlp | vaultDriveRequest | ideStreamSecure | ideStreamLeaveSecure | ideKmRequest | tdispLockInterface | tdiError |
    declare | declareResult | arm | armDeadline | resistArmEffect | violWindowEnd | sliceCheck | sliceFailoverDone | planeFault |
    planeFailoverDone | spdmSecuredSession | tdispStartInterface | tdispStopInterface =>
    simp [exec, execIdeStreamSecure, execIdeStreamLeaveSecure, execIdeKmRequest, execTdispLockInterface, execTdiError, execDeclare,
      execArm, execArmDeadline, execViolWindowEnd, execSliceCheck, execSliceFailoverDone, execPlaneFault, execPlaneFailoverDone,
      execSpdmSecuredSession, execTdispStartInterface, execTdispStopInterface]
  | pldmMediatedPacket | activateFirmwareRelease | activateFirmwareResponse =>
    simp [exec]
  | recordSubmit | recordDurable | blockTimedClose | chainDone | bootRecordSigned =>
    simp [exec, execRecordSubmit, execRecordDurable, execChainDone]
  | waitingRecordWrite =>
    simp [exec, execWaitingRecordWrite]
  | archiveBlock | nvmeCommandDone | nvmeCommandTimeout | nvmeControllerReady | nvmeResetTimeout | checkpoint | checkpointDone =>
    simp [exec, execArchiveBlock, execNvmeResetTimeout, execCheckpoint]
  | journalState | readBlock | closeBlock | signedHead | readBootRecord | readAliasCert | cbusPoll | cbusRetry | ibiRetry |
    smbusAlertResponse | smbusSclTimeout | tempSensorUpdate | mctpControl | getVersion | getCapabilities | getCertificate | entdaa |
    setdasa =>
    simp [exec, execJournalState, execCloseBlock, execSignedHead, execReadBootRecord, execReadAliasCert, execCbusPoll,
      execSmbusAlertResponse, execSmbusSclTimeout, execTempSensorUpdate, execMctpControl, execGetVersion, execGetCapabilities,
      execGetCertificate, execEntdaa, execSetdasa]
  | doorbellSq | doorbellCq | commandFetch | ledgerExtend | ledgerRead | quote | quotePlatform | counterIncrement | counterRead |
    journalNote | ringCreate | ringDestroy | quotaSet | ledgerAlloc | ledgerRelease | counterAlloc | counterRelease |
    capsuleSubmit | completionPost | msixGapEnd | batchClose | batchSigned | hostMemoryRetry | dmaTimeout | ringWatchdog |
    adminRingEnable | adminRingDisable =>
    simp [exec, execLedgerExtend, execLedgerRead, execQuote, execQuotePlatform, execCounterIncrement, execCounterRead,
      execJournalNote, execRingCreate, execRingDestroy, execQuotaSet, execLedgerAlloc, execLedgerRelease, execCounterAlloc,
      execCounterRelease, execBatchClose, execHostMemoryRetry, execDmaTimeout, execRingWatchdog, execAdminRingEnable,
      execAdminRingDisable]
  | lockstepMismatch | spareMismatch | pairSwitchDone | scResetWrite | firmwareRestart | sramWpWrite | busTimeout | sicDoneWrite |
    waitForInterrupt | sicWake | wdtServe | wdtKeyWrite | wdtEnableWrite | wdtExpiry | wdtHardTimerEnd | wdtClockMonitor =>
    simp [exec, execLockstepMismatch, execSpareMismatch, execPairSwitchDone, execScResetWrite, execFirmwareRestart, execSramWpWrite,
      execBusTimeout, execSicDoneWrite, execWaitForInterrupt, execSicWake, execWdtServe, execWdtKeyWrite, execWdtEnableWrite,
      execWdtExpiry, execWdtHardTimerEnd, execWdtClockMonitor]
  | dgaOpen | dgaOpenGrant | dgaDataWrite | dgaLastWrite | dgaClose | dgaExpectWrite | ecdsaP384Verify | ecdsaP384Sign | mlDsa65Verify |
    mlDsa65Sign | mlDsa87Verify | mlDsa87Sign | hssVerify | ecdhP384 | mlKem1024Keygen | mlKem1024Encaps | mlKem1024Decaps | sigOpDone |
    kldFwidWrite | kldSvnWrite | kldRandRead | rngHealthFail =>
    simp [exec, execDgaOpen, execDgaDataWrite, execDgaLastWrite, execDgaClose, execDgaExpectWrite, execEcdsaP384Verify,
      execEcdsaP384Sign, execMlDsa65Verify, execMlDsa65Sign, execMlDsa87Verify, execMlDsa87Sign, execHssVerify, execEcdhP384,
      execMlKem1024Keygen, execMlKem1024Encaps, execMlKem1024Decaps, execKldFwidWrite, execKldSvnWrite, execKldRandRead,
      execRngHealthFail]
  | dgaKnownAnswerCheck | dgaFailoverDone | sigKnownAnswerCheck | sigFailoverDone | persistBankFault | persistFailoverDone =>
    simp [exec, execDgaFailoverDone, execSigKnownAnswerCheck, execSigFailoverDone, execPersistBankFault, execPersistFailoverDone]
  | regRead | regWrite =>
    simp [exec, execRegRead, execRegWrite]
  -- The two ring commands left: a bare case label cannot name them, since Lean reserves both words.
  | _ =>
    simp [exec, execSeal, execUnseal]

theorem step_burnedFrom {s t : State} (h : step s = .next t) : BurnedFrom s.otp.words t.otp.words := by
  unfold step at h
  split at h
  · cases h
    rw [tick_words]
    exact .same
  · rename_i c r _
    exact exec_onlyBurns c (withPending r s) t h

/-- Settles O4: a step does nothing to the array but burn words of it, and a burn clears no bit. -/
theorem burnedFusesStayBurned : Obligations.BurnedFusesStayBurned := by
  unfold Obligations.BurnedFusesStayBurned
  exact fun s t h => otpKept_of_burnedFrom (step_burnedFrom h)

end Sys2Proof.Machine
end

section
/-!
PROOF. Only the verdict path writes PASS (R30): every operation but the ends of a judgement and of an attestation leaves a slot that does
not hold PASS without it, since it writes no Verdict pair, clears it, or writes FAIL.
-/
namespace Sys2Proof.Machine

open Sys2Proof

variable {i : Nat}

/-- The table of Verdict pairs w does not hold PASS for slot i. -/
def Unpassed (i : Nat) (w : Tab (BitVec 32)) : Prop := tabGet 0 w i ≠ passPair

theorem unpassed_tabSet {w : Tab (BitVec 32)} (k : Nat) {v : BitVec 32} (h : Unpassed i w) (hv : i = k → v ≠ passPair) :
    Unpassed i (tabSet 0 w k v) := by
  unfold Unpassed
  rw [tabGet_tabSet]
  split
  · exact hv ‹_›
  · exact h

@[simp] theorem unpassed_tabEmpty (i : Nat) : Unpassed i tabEmpty := by
  simp [Unpassed, passPair, tabGet, tabEmpty, cellsGet]

@[simp] theorem unpassed_ite (i : Nat) (c : Prop) [Decidable c] (s t : State) :
    Unpassed i (if c then s else t).mor.vslot ↔ (c → Unpassed i s.mor.vslot) ∧ (¬ c → Unpassed i t.mor.vslot) := by
  split <;> simp [*]

theorem setPair_unpassed (k : Nat) {v : BitVec 32} {s : State} (hs : Unpassed i s.mor.vslot) (hv : i = k → v ≠ passPair) :
    Unpassed i (setPair k v s).mor.vslot := by
  unfold setPair
  split
  · exact unpassed_tabSet k hs hv
  · exact hs

@[simp] theorem setPair_zero_unpassed (k : Nat) (s : State) (hs : Unpassed i s.mor.vslot) :
    Unpassed i (setPair k 0#32 s).mor.vslot := setPair_unpassed k hs (by simp [passPair])

@[simp] theorem setPair_fail_unpassed (k : Nat) (s : State) (hs : Unpassed i s.mor.vslot) :
    Unpassed i (setPair k failPair s).mor.vslot := setPair_unpassed k hs (by simp [passPair, failPair])

@[simp] theorem foldl_unpassed {α : Type} (l : List α) (f : State → α → State) (s : State)
    (h : ∀ s x, Unpassed i s.mor.vslot → Unpassed i (f s x).mor.vslot) (hs : Unpassed i s.mor.vslot) :
    Unpassed i (l.foldl f s).mor.vslot := by
  induction l generalizing s with
  | nil => exact hs
  | cons x l ih => exact ih _ (h s x hs)

@[simp] theorem each_unpassed (l : List Nat) (f : Nat → State → State) (s : State)
    (h : ∀ n s, Unpassed i s.mor.vslot → Unpassed i (f n s).mor.vslot) (hs : Unpassed i s.mor.vslot) :
    Unpassed i (each l f s).mor.vslot := foldl_unpassed l _ s (fun s n => h n s) hs

@[simp] theorem ite_vslot (c : Prop) [Decidable c] (s t : State) (w : Tab (BitVec 32)) :
    (if c then s else t).mor.vslot = w ↔ (c → s.mor.vslot = w) ∧ (¬ c → t.mor.vslot = w) := by
  split <;> simp [*]

@[simp] theorem foldl_vslot {α : Type} (l : List α) (f : State → α → State) (s : State)
    (h : ∀ s x, (f s x).mor.vslot = s.mor.vslot) : (l.foldl f s).mor.vslot = s.mor.vslot := by
  induction l generalizing s with
  | nil => rfl
  | cons x l ih => exact (ih _).trans (h s x)

@[simp] theorem each_vslot (l : List Nat) (f : Nat → State → State) (s : State) (h : ∀ n s, (f n s).mor.vslot = s.mor.vslot) :
    (each l f s).mor.vslot = s.mor.vslot := foldl_vslot l _ s (fun s n => h n s)

@[simp] theorem gated_vslot (code src : Nat) (body : Bytes) (g : Gate) (eff : State → State) (s : State)
    (h : ∀ s, (eff s).mor.vslot = s.mor.vslot) : (gated code src body g eff s).mor.vslot = s.mor.vslot := by
  unfold gated
  dsimp only
  (repeat' split) <;> simp [h]

@[simp] theorem mordantWrite_vslot (f : State → State) (s : State) (h : ∀ s, (f s).mor.vslot = s.mor.vslot) :
    (mordantWrite f s).mor.vslot = s.mor.vslot := by
  unfold mordantWrite
  split <;> simp [h]

-- The lemmas of Laws/State.lean hold by rfl, and simp proves a side condition with them only with a proof term of its own: hence the
-- option implicitDefEqProofs, off in what follows.
@[simp] theorem gated_unpassed {i : Nat} (code src : Nat) (body : Bytes) (g : Gate) (eff : State → State) (s : State)
    (h : ∀ s, Unpassed i s.mor.vslot → Unpassed i (eff s).mor.vslot) (hs : Unpassed i s.mor.vslot) :
    Unpassed i (gated code src body g eff s).mor.vslot := by
  unfold gated
  dsimp only
  (repeat' split) <;> simp -implicitDefEqProofs +contextual [h, hs]

@[simp] theorem mordantWrite_unpassed (f : State → State) (s : State) (h : ∀ s, Unpassed i s.mor.vslot → Unpassed i (f s).mor.vslot)
    (hs : Unpassed i s.mor.vslot) : Unpassed i (mordantWrite f s).mor.vslot := by
  simp -implicitDefEqProofs +contextual [mordantWrite, h, hs]

/-! ### Outcomes -/

/-- No next state of the outcome holds PASS for slot i. -/
def NoPass (i : Nat) (o : Out) : Prop := ∀ t, o = .next t → Unpassed i t.mor.vslot

@[simp] theorem noPass_done (i : Nat) (s : State) : NoPass i (done s) ↔ Unpassed i s.mor.vslot := by
  simp [NoPass, done]

@[simp] theorem noPass_answer (i : Nat) (r : Reply) (s : State) : NoPass i (answer r s) ↔ Unpassed i s.mor.vslot := by
  simp [NoPass, answer]

@[simp] theorem noPass_notNow (i : Nat) (s : State) : NoPass i (notNow s) ↔ Unpassed i s.mor.vslot := by
  simp [NoPass, notNow]

@[simp] theorem noPass_busError (i : Nat) (s : State) : NoPass i (busError s) ↔ Unpassed i s.mor.vslot := by
  simp [busError]

@[simp] theorem noPass_ite (i : Nat) (c : Prop) [Decidable c] (o o' : Out) :
    NoPass i (if c then o else o') ↔ (c → NoPass i o) ∧ (¬ c → NoPass i o') := by
  split <;> simp [*]

@[simp] theorem noPass_when (i : Nat) (c : Bool) (s : State) (o : Out) :
    NoPass i (when c s o) ↔ (c = true → NoPass i o) ∧ (¬ c = true → Unpassed i s.mor.vslot) := by
  simp [when]

@[simp] theorem noPass_mordantAccess (i : Nat) (s : State) (o : Out) :
    NoPass i (mordantAccess s o) ↔ (aocRuns s = true → NoPass i o) ∧ (¬ aocRuns s = true → Unpassed i s.mor.vslot) := by
  simp [mordantAccess]

@[simp] theorem noPass_sramDone (i : Nat) (l : List (Nat × Nat)) (s t : State) : NoPass i (sramDone l s t) ↔ Unpassed i t.mor.vslot := by
  unfold sramDone
  split <;> simp

/-! ### Domains, endpoints and what follows an event -/

@[simp] theorem epUnvat_unpassed (j : Nat) (s : State) (hs : Unpassed i s.mor.vslot) : Unpassed i (epUnvat j s).mor.vslot := by
  simp [epUnvat, hs]

@[simp] theorem epSealIt_unpassed (j : Nat) (s : State) (hs : Unpassed i s.mor.vslot) : Unpassed i (epSealIt j s).mor.vslot := by
  simp [epSealIt, hs]

@[simp] theorem heldRecord_vslot (d cause : Nat) (final : Bool) (s : State) : (heldRecord d cause final s).mor.vslot = s.mor.vslot := by
  simp [heldRecord]

@[simp] theorem clearSlots_unpassed (d : Nat) (s : State) (hs : Unpassed i s.mor.vslot) : Unpassed i (clearSlots d s).mor.vslot := by
  simp -implicitDefEqProofs +contextual [clearSlots, hs]

@[simp] theorem domUnslot_unpassed (d : Nat) (s : State) (hs : Unpassed i s.mor.vslot) : Unpassed i (domUnslot d s).mor.vslot := by
  simp -implicitDefEqProofs +contextual [domUnslot, hs]

@[simp] theorem domLost_unpassed (d : Nat) (s : State) (hs : Unpassed i s.mor.vslot) : Unpassed i (domLost d s).mor.vslot := by
  simp [domLost, hs]

@[simp] theorem holdDom_unpassed (cause : Nat) (final : Bool) (d : Nat) (s : State) (hs : Unpassed i s.mor.vslot) :
    Unpassed i (holdDom cause final d s).mor.vslot := by
  simp -implicitDefEqProofs [holdDom, hs]

@[simp] theorem cascade_unpassed (n : Nat) (s : State) (hs : Unpassed i s.mor.vslot) : Unpassed i (cascade n s).mor.vslot := by
  induction n generalizing s with
  | zero => exact hs
  | succ n ih =>
    unfold cascade
    dsimp only
    split
    · exact hs
    · exact ih _ (each_unpassed _ _ s (fun d s => holdDom_unpassed 2 false d s) hs)

@[simp] theorem markFinal_vslot (cause d : Nat) (s : State) : (markFinal cause d s).mor.vslot = s.mor.vslot := by
  simp [markFinal]

@[simp] theorem holdFinal_unpassed (cause d : Nat) (s : State) (hs : Unpassed i s.mor.vslot) :
    Unpassed i (holdFinal cause d s).mor.vslot := by
  simp [holdFinal, hs]

@[simp] theorem finalCascade_vslot (n : Nat) (s : State) : (finalCascade n s).mor.vslot = s.mor.vslot := by
  induction n generalizing s with
  | zero => rfl
  | succ n ih =>
    unfold finalCascade
    simp [ih]

@[simp] theorem releaseDom_vslot (d : Nat) (s : State) : (releaseDom d s).mor.vslot = s.mor.vslot := by
  simp [releaseDom]

@[simp] theorem interlock_vslot (n : Nat) (s : State) : (interlock n s).mor.vslot = s.mor.vslot := by
  induction n generalizing s with
  | zero => rfl
  | succ n ih =>
    unfold interlock
    simp [ih]

@[simp] theorem vioHold_unpassed (s : State) (hs : Unpassed i s.mor.vslot) : Unpassed i (vioHold s).mor.vslot := by
  simp -implicitDefEqProofs +contextual [vioHold, hs]

@[simp] theorem vatWithdraw_unpassed (s : State) (hs : Unpassed i s.mor.vslot) : Unpassed i (vatWithdraw s).mor.vslot := by
  simp -implicitDefEqProofs +contextual [vatWithdraw, hs]

@[simp] theorem phaseStep_vslot (s : State) : (phaseStep s).mor.vslot = s.mor.vslot := by
  simp [phaseStep]

@[simp] theorem settle_unpassed (s : State) (hs : Unpassed i s.mor.vslot) : Unpassed i (settle s).mor.vslot := by
  unfold settle
  dsimp only
  split
  · exact hs
  · simpa using vatWithdraw_unpassed _ (cascade_unpassed 33 _ (vioHold_unpassed s hs))

@[simp] theorem tripDom_unpassed (d : Nat) (s : State) (hs : Unpassed i s.mor.vslot) : Unpassed i (tripDom d s).mor.vslot := by
  simp -implicitDefEqProofs [tripDom, hs]

@[simp] theorem custodyTrip_unpassed (src : Nat) (s : State) (hs : Unpassed i s.mor.vslot) :
    Unpassed i (custodyTrip src s).mor.vslot := by
  unfold custodyTrip
  dsimp only
  split
  · exact hs
  · split
    · exact hs
    · split
      · refine settle_unpassed _ (each_unpassed _ _ _ (fun d s => tripDom_unpassed d s) ?_)
        rw [tripGate_mor]
        exact hs
      · rw [tripGate_mor]
        exact hs

/-! ### Images, channels and escalations -/

@[simp] theorem imgFinal_vslot (cause slot : Nat) (s : State) : (imgFinal cause slot s).mor.vslot = s.mor.vslot := by
  simp [imgFinal]

@[simp] theorem chanLost_vslot (k : Nat) (s : State) : (chanLost k s).mor.vslot = s.mor.vslot := by
  simp [chanLost]

@[simp] theorem chanStop_vslot (k : Nat) (s : State) : (chanStop k s).mor.vslot = s.mor.vslot := by
  simp [chanStop]

@[simp] theorem bankStop_vslot (k : Nat) (s : State) : (bankStop k s).mor.vslot = s.mor.vslot := by
  unfold bankStop
  split <;> simp

@[simp] theorem chanFail_vslot (k : Nat) (s : State) : (chanFail k s).mor.vslot = s.mor.vslot := by
  simp [chanFail]

@[simp] theorem commitHalt_vslot (k : Nat) (s : State) : (commitHalt k s).mor.vslot = s.mor.vslot := by
  simp [commitHalt]

@[simp] theorem escalateNow_unpassed (trip src scope : Nat) (doms : List Nat) (s : State) (hs : Unpassed i s.mor.vslot) :
    Unpassed i (escalateNow trip src scope doms s).mor.vslot := by
  unfold escalateNow
  split
  · exact custodyTrip_unpassed _ _ hs
  · refine settle_unpassed _ (each_unpassed _ _ _ (fun d s h => ?_) hs)
    split
    · exact holdDom_unpassed _ _ _ _ h
    · simpa using h
  · exact hs

@[simp] theorem escalateFw_unpassed (src scope : Nat) (doms : List Nat) (s : State) (hs : Unpassed i s.mor.vslot) :
    Unpassed i (escalateFw src scope doms s).mor.vslot := by
  simp [escalateFw, hs]

@[simp] theorem lakeOutHold_unpassed (s : State) (hs : Unpassed i s.mor.vslot) : Unpassed i (lakeOutHold s).mor.vslot := by
  unfold lakeOutHold
  dsimp only
  split
  · exact mordantWrite_unpassed _ s (fun s h => each_unpassed _ _ s (fun d s => holdFinal_unpassed 12 d s) h) hs
  · exact hs

/-! ### Rings -/

@[simp] theorem debugOpen_unpassed (scope : BitVec 4) (s : State) (hs : Unpassed i s.mor.vslot) :
    Unpassed i (debugOpen scope s).mor.vslot := by
  simp -implicitDefEqProofs [debugOpen, hs]

@[simp] theorem debugGo_unpassed (s : State) (hs : Unpassed i s.mor.vslot) : Unpassed i (debugGo s).mor.vslot := by
  unfold debugGo
  split
  · exact hs
  · exact foldl_unpassed _ _ _ (fun s w h => gated_unpassed _ _ _ _ _ s (fun s => debugOpen_unpassed w.1 s) h) hs

@[simp] theorem ringsDie_unpassed (q : Nat → Nat → Bool) (s : State) (hs : Unpassed i s.mor.vslot) :
    Unpassed i (ringsDie q s).mor.vslot := by
  simp [ringsDie, hs]

@[simp] theorem ringDies_unpassed (p g : Nat) (s : State) (hs : Unpassed i s.mor.vslot) : Unpassed i (ringDies p g s).mor.vslot := by
  simp [ringDies, hs]

@[simp] theorem ringFail_unpassed (p g : Nat) (s : State) (hs : Unpassed i s.mor.vslot) : Unpassed i (ringFail p g s).mor.vslot := by
  simp [ringFail, hs]

@[simp] theorem ringError_unpassed (p g cause : Nat) (s : State) (hs : Unpassed i s.mor.vslot) :
    Unpassed i (ringError p g cause s).mor.vslot := by
  simp [ringError, hs]

@[simp] theorem ringGone_unpassed (p g : Nat) (s : State) (hs : Unpassed i s.mor.vslot) : Unpassed i (ringGone p g s).mor.vslot := by
  simp [ringGone, hs]

@[simp] theorem ringDestroyed_unpassed (p g : Nat) (s : State) (hs : Unpassed i s.mor.vslot) :
    Unpassed i (ringDestroyed p g s).mor.vslot := by
  simp [ringDestroyed, hs]

@[simp] theorem ringDestroy_unpassed (p g : Nat) (by' : Option (Nat × Nat)) (s : State) (hs : Unpassed i s.mor.vslot) :
    Unpassed i (ringDestroy p g by' s).mor.vslot := by
  simp [ringDestroy, hs]

@[simp] theorem jobEffect_unpassed (j : RingCmd) (s : State) (hs : Unpassed i s.mor.vslot) :
    Unpassed i (jobEffect j s).1.mor.vslot := by
  unfold jobEffect
  (repeat' split) <;> simp -implicitDefEqProofs [hs]

@[simp] theorem applyNext_unpassed (s : State) (hs : Unpassed i s.mor.vslot) : Unpassed i (applyNext s).mor.vslot := by
  unfold applyNext
  split <;> simp [hs]

@[simp] theorem applyAll_unpassed (s : State) (hs : Unpassed i s.mor.vslot) : Unpassed i (applyAll s).mor.vslot := by
  simp -implicitDefEqProofs +contextual [applyAll, hs]

@[simp] theorem ringsReset_unpassed (p : Nat) (s : State) (hs : Unpassed i s.mor.vslot) : Unpassed i (ringsReset p s).mor.vslot := by
  simp [ringsReset, hs]

/-! ### Presentation ports -/

@[simp] theorem prsFrame_noPass (f : PrsFrame) (m : PolicyImage → PresentRec → EmDev → State → Out) (s : State)
    (hs : Unpassed i s.mor.vslot)
    (hm : ∀ p r e, NoPass i (m p r e (upEm (emKey f.port (b2n f.dev)) (fun e => { e with rstEn := false }) s))) :
    NoPass i (prsFrame f m s) := by
  unfold prsFrame
  split
  · simp [hs, hm]
  · simp [hs]

@[simp] theorem prsUnknown_noPass (r : PresentRec) (e : EmDev) (op second : Byte) (len : Nat) (s : State) (hs : Unpassed i s.mor.vslot)
    : NoPass i (prsUnknown r e op second len s) := by
  simp [prsUnknown, hs]

@[simp] theorem prsListed_noPass {i : Nat} (c : Bool) (r : PresentRec) (e : EmDev) (op : Byte) (len : Nat) (s : State) (o : Out)
    (hs : Unpassed i s.mor.vslot) : NoPass i (prsListed c r e op len s o) ↔ (c = true → NoPass i o) := by
  simp [prsListed, hs]

@[simp] theorem prsServe_noPass (p : PolicyImage) (r : PresentRec) (a : Nat) (q : PrsRead) (clocked : Bool) (s : State)
    (hs : Unpassed i s.mor.vslot) : NoPass i (prsServe p r a q clocked s) := by
  unfold prsServe
  (repeat' split) <;> simp [hs]

@[simp] theorem prsWrite_noPass (p : PolicyImage) (r : PresentRec) (e : EmDev) (op a n : Nat) (isErase : Bool) (data : Bytes)
    (s : State) (hs : Unpassed i s.mor.vslot) : NoPass i (prsWrite p r e op a n isErase data s) := by
  unfold prsWrite
  dsimp only
  (repeat' split) <;> simp -implicitDefEqProofs +contextual [hs]

/-! ### Judgements and recovery -/

@[simp] theorem clearFail_unpassed (k : Nat) (s : State) (hs : Unpassed i s.mor.vslot) : Unpassed i (clearFail k s).mor.vslot := by
  simp [clearFail, hs]

@[simp] theorem streamGo_unpassed (k : Nat) (x : Source) (s : State) (hs : Unpassed i s.mor.vslot) :
    Unpassed i (streamGo k x s).mor.vslot := by
  unfold streamGo
  split <;> simp [hs]

@[simp] theorem takeAction_vslot (k : Nat) (fallback : Bool) (fails : State → State) (s : State)
    (h : ∀ s, (fails s).mor.vslot = s.mor.vslot) : (takeAction k fallback fails s).mor.vslot = s.mor.vslot := by
  unfold takeAction
  dsimp only
  (repeat' split) <;> simp [h]

@[simp] theorem fallbackAction_vslot (k : Nat) (s : State) : (fallbackAction k s).mor.vslot = s.mor.vslot := by
  simp [fallbackAction]

@[simp] theorem actionFails_vslot (k : Nat) (s : State) : (actionFails k s).mor.vslot = s.mor.vslot := by
  simp [actionFails]

@[simp] theorem actionStart_vslot (k : Nat) (s : State) : (actionStart k s).mor.vslot = s.mor.vslot := by
  simp [actionStart]

@[simp] theorem afterFail_vslot (k : Nat) (x : Source) (s : State) : (afterFail k x s).mor.vslot = s.mor.vslot := by
  simp [afterFail]

/-- The verdict path writes the pair of its own slot alone, and PASS only where the judgement passed (R263). -/
theorem writeVerdict_unpassed (k : Nat) (x : Source) (m : Option Manifest) (digest : Bytes) (pass : Bool) (cause : Nat) (s : State)
    (hs : Unpassed i s.mor.vslot) (h : i = k → pass = false) : Unpassed i (writeVerdict k x m digest pass cause s).mor.vslot := by
  unfold writeVerdict
  cases pass with
  | false => simp [hs]
  | true => simpa using setPair_unpassed k hs (fun hk => absurd (h hk) (by simp))

/-! ### Judgement commands -/

theorem execJudgementDone_noPass {i slot : Nat} (sig : Sig2) (bad : BitVec 2) (s : State) (hs : Unpassed i s.mor.vslot)
    (h : i ≠ slot) : NoPass i (execJudgementDone slot sig bad s) := by
  unfold execJudgementDone
  split
  · simp [hs, settle_unpassed, writeVerdict_unpassed, h]
  · simp [hs]

@[simp] theorem execVerifyDeadlineExpiry_noPass (slot : Nat) (sig : Sig2) (s : State) (hs : Unpassed i s.mor.vslot) :
    NoPass i (execVerifyDeadlineExpiry slot sig s) := by
  unfold execVerifyDeadlineExpiry
  split
  · simp [hs, settle_unpassed, writeVerdict_unpassed]
  · simp [hs]

@[simp] theorem execRestoreVaultBegin_noPass (slot : Nat) (s : State) (hs : Unpassed i s.mor.vslot) :
    NoPass i (execRestoreVaultBegin slot s) := by
  unfold execRestoreVaultBegin
  split <;> simp [hs]

theorem vaultStore_mor {obj slot len : Nat} {cells : List (Nat × Byte)} {m : Option Manifest} {s t : State}
    (h : vaultStore obj slot len cells m s = some t) : t.mor = s.mor := by
  obtain ⟨a, -, rfl⟩ := Option.map_eq_some_iff.1 h
  simp

@[simp] theorem execGoldenStore_noPass (slot : Nat) (read : List (Nat × Byte)) (s : State) (hs : Unpassed i s.mor.vslot) :
    NoPass i (execGoldenStore slot read s) := by
  unfold execGoldenStore
  split
  · rename_i r q _ _
    have store (cells : List (Nat × Byte)) :
        NoPass i (match vaultStore q.vaultObject slot r.length cells (imgOf s slot).manifest s with
          | some t => done t
          | none => done (upImg slot (fun i => { i with storeDue := false }) s)) := by
      split
      · rename_i t h
        simp [vaultStore_mor h, hs]
      · simp [hs]
    refine (noPass_when ..).2 ⟨fun _ => ?_, fun _ => hs⟩
    dsimp only
    split
    · split
      · exact store _
      · simp [hs]
    · split
      · exact store _
      · simp [hs]
  · simp [hs]

@[simp] theorem execImageSvnAdvance_noPass (slot : Nat) (goldens : List (Nat × Manifest)) (s : State) (hs : Unpassed i s.mor.vslot) :
    NoPass i (execImageSvnAdvance slot goldens s) := by
  unfold execImageSvnAdvance
  split <;> simp [hs]

@[simp] theorem execPolicySvnAdvance_noPass (s : State) (hs : Unpassed i s.mor.vslot) : NoPass i (execPolicySvnAdvance s) := by
  unfold execPolicySvnAdvance
  split <;> simp [hs]

/-! ### Updates -/

@[simp] theorem capsuleVault_mor (j : CapsuleJob) (s : State) : (capsuleVault j s).mor = s.mor := by
  unfold capsuleVault
  split
  · simp
  · split
    · rename_i t h
      obtain ⟨q, -, hq⟩ := Option.bind_eq_some_iff.1 h
      simp [vaultStore_mor hq]
    · simp

@[simp] theorem execCapsuleStage_noPass (back : Option (List (Nat × Byte))) (bad : BitVec 2) (s : State) (hs : Unpassed i s.mor.vslot) :
    NoPass i (execCapsuleStage back bad s) := by
  unfold execCapsuleStage
  split <;> simp [hs]

@[simp] theorem applyComplete_noPass (b : Bool) (code : Nat) (s : State) (hs : Unpassed i s.mor.vslot) :
    NoPass i (applyComplete b code s) := by
  simp [applyComplete, hs]

@[simp] theorem execPldmComponentPush_noPass (b : Bool) (c : Component) (f : PushFrames) (last : Bool) (s : State)
    (hs : Unpassed i s.mor.vslot) : NoPass i (execPldmComponentPush b c f last s) := by
  simp [execPldmComponentPush, hs]

/-! ### The end of the ROM stage -/

@[simp] theorem romPrepare_vslot (p : PolicyImage) (s : State) : (romPrepare p s).mor.vslot = s.mor.vslot := by
  simp [romPrepare]

@[simp] theorem romLock_vslot (p : PolicyImage) (s : State) : (romLock p s).mor.vslot = s.mor.vslot := by
  simp [romLock]

@[simp] theorem bayHolds_vslot (s : State) : (bayHolds s).mor.vslot = s.mor.vslot := by
  unfold bayHolds
  refine each_vslot _ _ s (fun j s => ?_)
  split <;> simp

@[simp] theorem cbusStart_vslot (found : List (Nat × Nat)) (s : State) : (cbusStart found s).mor.vslot = s.mor.vslot := by
  unfold cbusStart
  split <;> simp

@[simp] theorem firmwareStart_unpassed (found : List (Nat × Nat)) (s : State) (hs : Unpassed i s.mor.vslot) :
    Unpassed i (firmwareStart found s).mor.vslot := by
  simp [firmwareStart, hs]

@[simp] theorem romGo_unpassed (found : List (Nat × Nat)) (s : State) (hs : Unpassed i s.mor.vslot) :
    Unpassed i (romGo found s).mor.vslot := by
  unfold romGo
  split <;> simp [hs]

@[simp] theorem romResume_unpassed (s : State) (hs : Unpassed i s.mor.vslot) : Unpassed i (romResume s).mor.vslot := by
  unfold romResume
  split <;> simp [hs]

/-! ### Scrub -/

@[simp] theorem scrubMismatch_unpassed (k : Nat) (f : Frame) (s : State) (hs : Unpassed i s.mor.vslot) :
    Unpassed i (scrubMismatch k f s).mor.vslot := by
  simp [scrubMismatch, hs]

@[simp] theorem scrubResult_unpassed (k : Nat) (f : Frame) (bad : List Nat) (s : State) (hs : Unpassed i s.mor.vslot) :
    Unpassed i (scrubResult k f bad s).mor.vslot := by
  simp [scrubResult, hs]

@[simp] theorem scrubOver_unpassed (k : Nat) (f : Frame) (ok : Bool) (data : Bytes) (s : State) (hs : Unpassed i s.mor.vslot) :
    Unpassed i (scrubOver k f ok data s).mor.vslot := by
  simp [scrubOver, hs]

/-! ### Custody channels -/

@[simp] theorem cchQpush_noPass (k : Nat) (buf : BitVec 32) (s : State) (hs : Unpassed i s.mor.vslot) :
    NoPass i (cchQpush k buf s) := by
  simp [cchQpush, hs]

@[simp] theorem qdoneRead_noPass (k : Nat) (s : State) (hs : Unpassed i s.mor.vslot) : NoPass i (qdoneRead k s) := by
  unfold qdoneRead
  split <;> simp [hs]

@[simp] theorem grantFrame_vslot (k : Nat) (cl : Client) (s : State) : (grantFrame k cl s).mor.vslot = s.mor.vslot := by
  unfold grantFrame
  dsimp only
  (repeat' split) <;> simp

@[simp] theorem execCchFrameStart_noPass (k : Nat) (s : State) (hs : Unpassed i s.mor.vslot) : NoPass i (execCchFrameStart k s) := by
  unfold execCchFrameStart
  dsimp only
  (repeat' split) <;> simp -implicitDefEqProofs +contextual [hs]

@[simp] theorem frameOver_unpassed (k : Nat) (f : Frame) (ok : Bool) (data : Bytes) (s : State) (hs : Unpassed i s.mor.vslot) :
    Unpassed i (frameOver k f ok data s).mor.vslot := by
  unfold frameOver
  (repeat' split) <;> simp [hs]

@[simp] theorem execCchFrameEnd_noPass (k : Nat) (ok : Bool) (cal : Cal) (data : Bytes) (s : State) (hs : Unpassed i s.mor.vslot) :
    NoPass i (execCchFrameEnd k ok cal data s) := by
  unfold execCchFrameEnd
  split
  · simp [hs]
  · rename_i f _
    dsimp only
    refine (noPass_when ..).2 ⟨fun _ => ?_, fun _ => hs⟩
    split
    · rw [noPass_sramDone]
      refine romResume_unpassed _ (settle_unpassed _ (frameOver_unpassed _ _ _ _ _ ?_))
      simp [hs]
    · simp -implicitDefEqProofs [hs]

@[simp] theorem execCchContTimeout_noPass (k : Nat) (s : State) (hs : Unpassed i s.mor.vslot) : NoPass i (execCchContTimeout k s) := by
  unfold execCchContTimeout
  (repeat' split) <;> simp [hs]

@[simp] theorem execCchWipPoll_noPass (k : Nat) (dev : Bool) (clear : Bool) (s : State) (hs : Unpassed i s.mor.vslot) :
    NoPass i (execCchWipPoll k dev clear s) := by
  unfold execCchWipPoll
  (repeat' split) <;> simp [hs]

@[simp] theorem execCchWipTimeout_noPass (k : Nat) (dev : Bool) (s : State) (hs : Unpassed i s.mor.vslot) :
    NoPass i (execCchWipTimeout k dev s) := by
  unfold execCchWipTimeout
  (repeat' split) <;> simp [hs]

@[simp] theorem execCommitEntryStart_noPass (k : Nat) (s : State) (hs : Unpassed i s.mor.vslot) :
    NoPass i (execCommitEntryStart k s) := by
  unfold execCommitEntryStart
  dsimp only
  (repeat' split) <;> simp -implicitDefEqProofs +contextual [hs]

/-! ### Engines -/

@[simp] theorem dgaOpen_noPass (alg : BitVec 3) (s : State) (hs : Unpassed i s.mor.vslot) : NoPass i (dgaOpen alg s) := by
  simp [dgaOpen, hs]

@[simp] theorem execDgaOpenGrant_noPass (s : State) (hs : Unpassed i s.mor.vslot) : NoPass i (execDgaOpenGrant s) := by
  unfold execDgaOpenGrant
  dsimp only
  (repeat' split) <;> simp -implicitDefEqProofs +contextual [hs]

@[simp] theorem dgaAccess_noPass (c : Nat) (f : DgaCtx → Option DgaCtx) (s : State) (hs : Unpassed i s.mor.vslot) :
    NoPass i (dgaAccess c f s) := by
  unfold dgaAccess
  split <;> simp [hs]

@[simp] theorem dgaData_noPass (word : BitVec 32) (s : State) (hs : Unpassed i s.mor.vslot) : NoPass i (dgaData word s) := by
  simp [dgaData, hs]

@[simp] theorem dgaLast_noPass (word : DgaLast) (s : State) (hs : Unpassed i s.mor.vslot) : NoPass i (dgaLast word s) := by
  simp [dgaLast, hs]

@[simp] theorem dgaClose_noPass (ctx : BitVec 8) (s : State) (hs : Unpassed i s.mor.vslot) : NoPass i (dgaClose ctx s) := by
  simp [dgaClose, hs]

@[simp] theorem dgaExpect_noPass (n : BitVec 4) (word : BitVec 32) (s : State) (hs : Unpassed i s.mor.vslot) :
    NoPass i (dgaExpect n word s) := by
  simp [dgaExpect, hs]

@[simp] theorem sigStart_noPass (op : Nat) (e : Bool) (ctx key : BitVec 8) (s : State) (hs : Unpassed i s.mor.vslot) :
    NoPass i (sigStart op e ctx key s) := by
  simp [sigStart, hs]

@[simp] theorem sigGo_noPass (op : Nat) (e : Bool) (ctx key : BitVec 8) (s : State) (hs : Unpassed i s.mor.vslot) :
    NoPass i (sigGo op e ctx key s) := by
  simp [sigGo, hs]

@[simp] theorem execSigOpDone_noPass (e : Bool) (rails : BitVec 2) (s : State) (hs : Unpassed i s.mor.vslot) :
    NoPass i (execSigOpDone e rails s) := by
  unfold execSigOpDone
  (repeat' split) <;> simp [hs]

@[simp] theorem kldFwid_noPass (n : BitVec 4) (word : BitVec 32) (s : State) (hs : Unpassed i s.mor.vslot) :
    NoPass i (kldFwid n word s) := by
  simp [kldFwid, hs]

@[simp] theorem kldSvn_noPass (svn : BitVec 5) (s : State) (hs : Unpassed i s.mor.vslot) : NoPass i (kldSvn svn s) := by
  simp [kldSvn, hs]

/-! ### Evidence -/

@[simp] theorem execBlockTimedClose_noPass (ring : Bool) (s : State) (hs : Unpassed i s.mor.vslot) :
    NoPass i (execBlockTimedClose ring s) := by
  unfold execBlockTimedClose
  split <;> simp [hs]

@[simp] theorem execBootRecordSigned_noPass (s : State) (hs : Unpassed i s.mor.vslot) : NoPass i (execBootRecordSigned s) := by
  unfold execBootRecordSigned
  split <;> simp [hs]

/-! ### Management ports -/

@[simp] theorem vendorAnswer_noPass (cmd : Nat) (b : Bool) (h : VendorHdr) (result : Nat) (body : Bytes) (s : State)
    (hs : Unpassed i s.mor.vslot) : NoPass i (vendorAnswer cmd b h result body s) := by
  simp [vendorAnswer, hs]

@[simp] theorem journalCmd_noPass (cmd : Nat) (b : Bool) (h : VendorHdr) (s : State) (o : Out) (hs : Unpassed i s.mor.vslot)
    (ho : NoPass i o) : NoPass i (journalCmd cmd b h s o) := by
  simp [journalCmd, hs, ho]

@[simp] theorem vaultAsk_noPass (b : Bool) (h : VendorHdr) (q : VaultRead) (s : State) (hs : Unpassed i s.mor.vslot) :
    NoPass i (vaultAsk b h q s) := by
  simp [vaultAsk, hs]

@[simp] theorem execReadBlock_noPass (b : Bool) (h : VendorHdr) (index offset length : Nat) (s : State) (hs : Unpassed i s.mor.vslot) :
    NoPass i (execReadBlock b h index offset length s) := by
  unfold execReadBlock
  (repeat' split) <;> simp [hs]

theorem mgtTry_mor {q : MgtAsk} {s t : State} {r : Nat} {body : Bytes} (h : mgtTry q s = some (r, body, t)) : t.mor = s.mor := by
  unfold mgtTry at h
  dsimp only at h
  (repeat' split at h) <;> simp at h <;> obtain ⟨-, -, rfl⟩ := h <;> rfl

@[simp] theorem mgtAsk_noPass (b : Bool) (h : VendorHdr) (q : MgtAsk) (s : State) (hs : Unpassed i s.mor.vslot) :
    NoPass i (mgtAsk b h q s) := by
  unfold mgtAsk
  split
  · rename_i ht
    simp [mgtTry_mor ht, hs]
  · simp [hs]

@[simp] theorem mgtServe_mor (b : Bool) (s : State) : (mgtServe b s).mor = s.mor := by
  unfold mgtServe
  split
  · rfl
  · split
    · split
      · rename_i ht
        simp [mgtTry_mor ht]
      · rfl
    · rfl

@[simp] theorem execIbiRetry_noPass (b acked : Bool) (s : State) (hs : Unpassed i s.mor.vslot) : NoPass i (execIbiRetry b acked s) := by
  unfold execIbiRetry
  split <;> simp [hs]

@[simp] theorem cbusLost_unpassed (n : Nat) (r : CbusRec) (s : State) (hs : Unpassed i s.mor.vslot) :
    Unpassed i (cbusLost n r s).mor.vslot := by
  unfold cbusLost
  dsimp only
  (repeat' split) <;> simp -implicitDefEqProofs +contextual [hs]

@[simp] theorem execCbusRetry_noPass (n : Nat) (ack : Bool) (s : State) (hs : Unpassed i s.mor.vslot) :
    NoPass i (execCbusRetry n ack s) := by
  unfold execCbusRetry
  split <;> simp [hs]

/-! ### The OTP controller -/

@[simp] theorem otpGoRead_noPass (addr : BitVec 11) (s : State) (hs : Unpassed i s.mor.vslot) : NoPass i (otpGoRead addr s) := by
  simp [otpGoRead, hs]

@[simp] theorem otpGoProgram_noPass (addr : BitVec 11) (data : BitVec 32) (s : State) (hs : Unpassed i s.mor.vslot) :
    NoPass i (otpGoProgram addr data s) := by
  simp [otpGoProgram, hs]

@[simp] theorem otpGoScan_noPass (s : State) (hs : Unpassed i s.mor.vslot) : NoPass i (otpGoScan s) := by
  simp [otpGoScan, hs]

@[simp] theorem otpGoLcStep_noPass (owner : Bool) (s : State) (hs : Unpassed i s.mor.vslot) : NoPass i (otpGoLcStep owner s) := by
  simp [otpGoLcStep, hs]

/-! ### Tokens and the mailbox -/

@[simp] theorem tokenAct_unpassed (t : Token) (s : State) (hs : Unpassed i s.mor.vslot) : Unpassed i (tokenAct t s).mor.vslot := by
  simp -implicitDefEqProofs [tokenAct, hs]

@[simp] theorem mbxEnd_noPass (b : Bool) (result : Nat) (s : State) (hs : Unpassed i s.mor.vslot) : NoPass i (mbxEnd b result s) := by
  simp [mbxEnd, hs]

@[simp] theorem tripClear_unpassed (s : State) (hs : Unpassed i s.mor.vslot) : Unpassed i (tripClear s).mor.vslot := by
  simp -implicitDefEqProofs [tripClear, hs]

@[simp] theorem execTripClear_noPass (b : Bool) (sig : Sig2) (s : State) (hs : Unpassed i s.mor.vslot) :
    NoPass i (execTripClear b sig s) := by
  have hg (body : Bytes) := gated_unpassed 8 1 body .tripClear tripClear s (fun s => tripClear_unpassed s) hs
  unfold execTripClear
  dsimp only
  (repeat' split) <;> simp [hs, hg]

@[simp] theorem ackAccept_unpassed (n : Nat) (s : State) (hs : Unpassed i s.mor.vslot) : Unpassed i (ackAccept n s).mor.vslot := by
  simp [ackAccept, hs]

@[simp] theorem ackEnd_unpassed (b : Bool) (chain : Option Bytes) (s : State) (hs : Unpassed i s.mor.vslot) :
    Unpassed i (ackEnd b chain s).mor.vslot := by
  simp [ackEnd, hs]

@[simp] theorem execExportAck_noPass (b : Bool) (sig : Sig2) (s : State) (hs : Unpassed i s.mor.vslot) :
    NoPass i (execExportAck b sig s) := by
  unfold execExportAck
  split <;> simp [hs]

/-! ### Reset events -/

@[simp] theorem sState_unpassed (s : State) (hs : Unpassed i s.mor.vslot) : Unpassed i (sState s).mor.vslot := by
  simp [sState, hs]

@[simp] theorem sEvent_unpassed (s : State) (hs : Unpassed i s.mor.vslot) : Unpassed i (sEvent s).mor.vslot := by
  simp [sEvent, hs]

@[simp] theorem hEvent_unpassed (p : Nat) (s : State) (hs : Unpassed i s.mor.vslot) : Unpassed i (hEvent p s).mor.vslot := by
  unfold hEvent
  refine settle_unpassed _ ?_
  simpa using ringsReset_unpassed p s hs

/-- A C event clears every Verdict pair (R105). -/
@[simp] theorem cEvent_unpassed (i : Nat) (s : State) : Unpassed i (cEvent s).mor.vslot := by
  obtain ⟨n, e, h⟩ := cEvent_eq s
  rw [h]
  exact settle_unpassed _ (unpassed_tabEmpty i)

@[simp] theorem pEvent_unpassed (i : Nat) (s : State) : Unpassed i (pEvent s).mor.vslot := by
  unfold pEvent
  exact unpassed_tabEmpty i

/-! ### Attestations -/

@[simp] theorem epFail_unpassed (cause : Nat) (digest : Bytes) (j : Nat) (s : State) (hs : Unpassed i s.mor.vslot) :
    Unpassed i (epFail cause digest j s).mor.vslot := by
  unfold epFail
  split <;> simp [hs]

@[simp] theorem escalateEp_unpassed (j : Nat) (s : State) (hs : Unpassed i s.mor.vslot) : Unpassed i (escalateEp j s).mor.vslot := by
  unfold escalateEp
  exact escalateFw_unpassed _ _ _ s hs

/-- An attestation writes the pair of its own endpoint alone, and PASS only where it ends with CAUSE 0 (R298, R304). -/
theorem attEnd_unpassed {i : Nat} (cause : Nat) (digest : Bytes) (j : Nat) (s : State) (hs : Unpassed i s.mor.vslot)
    (h : i = 256 + j → cause ≠ 0) : Unpassed i (attEnd cause digest j s).mor.vslot := by
  unfold attEnd
  dsimp only
  split
  · exact hs
  · split
    · split
      · rename_i hc
        rw [emitAttested_mor, upEp_mor]
        exact setPair_unpassed (256 + j) (by simpa using hs) (fun hi => absurd (of_decide_eq_true hc) (h hi))
      · simp [hs]
    · (repeat' split) <;> simp [hs]

@[simp] theorem attEnd_fail_unpassed {i : Nat} (cause : Nat) (digest : Bytes) (j : Nat) (s : State) (hc : cause ≠ 0)
    (hs : Unpassed i s.mor.vslot) : Unpassed i (attEnd cause digest j s).mor.vslot := attEnd_unpassed cause digest j s hs (fun _ => hc)

/-! ### The gate -/

@[simp] theorem violEscalate_unpassed (j p : Nat) (s : State) (hs : Unpassed i s.mor.vslot) :
    Unpassed i (violEscalate j p s).mor.vslot := by
  unfold violEscalate
  split
  · exact hs
  · dsimp only
    split
    · refine escalateNow_unpassed _ _ _ _ _ ?_
      rw [upPart_mor]
      exact hs
    · exact hs

@[simp] theorem violate_unpassed (j q p : Nat) (k : Viol) (t : Tlp) (s : State) (hs : Unpassed i s.mor.vslot) :
    Unpassed i (violate j q p k t s).1.mor.vslot := by
  unfold violate
  refine settle_unpassed _ (violEscalate_unpassed _ _ _ ?_)
  (repeat' split) <;> simp [hs]

@[simp] theorem endpointTlp_unpassed (j q p : Nat) (t : Tlp) (s : State) (hs : Unpassed i s.mor.vslot) :
    Unpassed i (endpointTlp j q p t s).1.mor.vslot := by
  unfold endpointTlp
  (repeat' split) <;> simp [hs]

/-! ### Mediated updates -/

@[simp] theorem updateRecords_mor (j port : Nat) (eff : State → State) (h : ∀ s, (eff s).mor = s.mor) (n : Nat)
    (l : List MedComp) (s : State) : (updateRecords j port eff n l s).mor = s.mor := by
  induction n generalizing l s with
  | zero => exact h s
  | succ n ih =>
    unfold updateRecords
    dsimp only
    (repeat' split) <;> simp [h, ih]

@[simp] theorem medRecords_mor (j port : Nat) (s : State) : (medRecords j port s).mor = s.mor := by
  unfold medRecords
  split <;> simp [apply_ite State.mor]

@[simp] theorem medTrack_mor (j : Nat) (m : MedPkt) (s : State) : (medTrack j m s).mor = s.mor := by
  unfold medTrack
  split <;> simp

@[simp] theorem medHandle_mor (j : Nat) (m : MedPkt) (s : State) : (medHandle j m s).1.mor = s.mor := by
  unfold medHandle
  (repeat' split) <;> simp

@[simp] theorem medOne_mor (m : MedPkt) (s : State) : (medOne m s).1.mor = s.mor := by
  unfold medOne
  (repeat' split) <;> simp

theorem medOne_foldl_mor (l : List MedPkt) (a : State × List MedReply) :
    (l.foldl (fun a m => ((medOne m a.1).1, a.2 ++ (medOne m a.1).2)) a).1.mor = a.1.mor := by
  induction l generalizing a with
  | nil => rfl
  | cons m l ih => exact (ih _).trans (medOne_mor m a.1)

@[simp] theorem medResume_mor (s : State) : (medResume s).1.mor = s.mor := medOne_foldl_mor _ _

@[simp] theorem aocPick_vslot (m : Mordant) : (aocPick m).vslot = m.vslot := by
  unfold aocPick
  split <;> rfl

/-! ### Supplies, oscillators and Mordant requests -/

@[simp] theorem execAocStopped_noPass (b : Bool) (s : State) (hs : Unpassed i s.mor.vslot) : NoPass i (execAocStopped b s) := by
  unfold execAocStopped
  cases b <;> simp -implicitDefEqProofs [hs]

@[simp] theorem execAocResumed_noPass (b : Bool) (s : State) (hs : Unpassed i s.mor.vslot) : NoPass i (execAocResumed b s) := by
  unfold execAocResumed
  dsimp only
  refine (noPass_when ..).2 ⟨fun _ => ?_, fun _ => hs⟩
  split
  · refine (noPass_done ..).2 (settle_unpassed _ ?_)
    cases b <;> split <;> simp -implicitDefEqProofs +contextual [hs]
  · cases b <;> simp [hs]

@[simp] theorem execTripRecord_noPass (s : State) (hs : Unpassed i s.mor.vslot) : NoPass i (execTripRecord s) := by
  unfold execTripRecord
  split <;> simp [hs]

@[simp] theorem tripReq_noPass (value : BitVec 32) (s : State) (hs : Unpassed i s.mor.vslot) : NoPass i (tripReq value s) := by
  simp [tripReq, hs]

@[simp] theorem holdReq_noPass (mask : BitVec 32) (s : State) (hs : Unpassed i s.mor.vslot) : NoPass i (holdReq mask s) := by
  unfold holdReq
  refine (noPass_mordantAccess ..).2 ⟨fun _ => (noPass_done ..).2 ?_, fun _ => hs⟩
  exact settle_unpassed _ (each_unpassed _ _ s (fun d s => holdDom_unpassed 1 false d s) hs)

@[simp] theorem relReqBit_vslot (d : Nat) (s : State) : (relReqBit d s).mor.vslot = s.mor.vslot := by
  simp [relReqBit]

@[simp] theorem relEvaluate_unpassed (l : List Nat) (s : State) (hs : Unpassed i s.mor.vslot) :
    Unpassed i (relEvaluate l s).mor.vslot := by
  simp [relEvaluate, hs]

@[simp] theorem relReqSet_unpassed (d : Nat) (s : State) (hs : Unpassed i s.mor.vslot) : Unpassed i (relReqSet d s).mor.vslot := by
  simp -implicitDefEqProofs +contextual [relReqSet, hs]

@[simp] theorem releaseReq_noPass (mask : BitVec 32) (s : State) (hs : Unpassed i s.mor.vslot) : NoPass i (releaseReq mask s) := by
  unfold releaseReq
  refine (noPass_mordantAccess ..).2 ⟨fun _ => (noPass_done ..).2 (relEvaluate_unpassed _ _ ?_), fun _ => hs⟩
  rw [each_vslot]
  · exact hs
  · simp

/-! ### Waiting records -/

@[simp] theorem gateEffect_unpassed (g : Gate) (s : State) (hs : Unpassed i s.mor.vslot) : Unpassed i (gateEffect g s).mor.vslot := by
  unfold gateEffect
  split <;> simp [hs]

@[simp] theorem writeWaiting_unpassed (s : State) (hs : Unpassed i s.mor.vslot) : Unpassed i (writeWaiting s).mor.vslot := by
  unfold writeWaiting
  split <;> simp -implicitDefEqProofs [hs]

@[simp] theorem writeAllWaiting_unpassed (s : State) (hs : Unpassed i s.mor.vslot) : Unpassed i (writeAllWaiting s).mor.vslot := by
  simp -implicitDefEqProofs +contextual [writeAllWaiting, hs]

/-! ### The window -/

@[simp] theorem execXipFetch_noPass (offset : BitVec 29) (s : State) (hs : Unpassed i s.mor.vslot) :
    NoPass i (execXipFetch offset s) := by
  unfold execXipFetch
  dsimp only
  (repeat' split) <;> simp -implicitDefEqProofs +contextual [hs]

@[simp] theorem execXipFillDone_noPass (data : Bytes) (bad : BitVec 2) (s : State) (hs : Unpassed i s.mor.vslot) :
    NoPass i (execXipFillDone data bad s) := by
  unfold execXipFillDone
  (repeat' split) <;> simp [hs]

/-! ### Failovers -/

@[simp] theorem restartStream_unpassed (k : Nat) (s : State) (hs : Unpassed i s.mor.vslot) :
    Unpassed i (restartStream k s).mor.vslot := by
  unfold restartStream
  split <;> simp [hs]

@[simp] theorem dgaRemove_unpassed (e : Nat) (s : State) (hs : Unpassed i s.mor.vslot) : Unpassed i (dgaRemove e s).mor.vslot := by
  unfold dgaRemove
  refine foldl_unpassed _ _ _ (fun s o h => ?_) (by simpa using hs)
  split <;> simp [h]

@[simp] theorem execDgaKnownAnswerCheck_noPass (e : Nat) (ok : Bool) (_slots : List Nat) (_xip : Bool) (_meds : List Nat) (s : State)
    (hs : Unpassed i s.mor.vslot) : NoPass i (execDgaKnownAnswerCheck e ok _slots _xip _meds s) := by
  unfold execDgaKnownAnswerCheck
  (repeat' split) <;> simp [hs]

/-! ### Ring errors -/

@[simp] theorem queueFails_unpassed (p g : Nat) (s : State) (hs : Unpassed i s.mor.vslot) :
    Unpassed i (queueFails p g s).mor.vslot := by
  simp [queueFails, hs]

@[simp] theorem accessFail_unpassed (p g : Nat) (u : AccessUse) (s : State) (hs : Unpassed i s.mor.vslot) :
    Unpassed i (accessFail p g u s).mor.vslot := by
  simp [accessFail, hs]

/-! ### Ring commands -/

@[simp] theorem destroyFirst_unpassed (p g : Nat) (s : State) (hs : Unpassed i s.mor.vslot) :
    Unpassed i (destroyFirst p g s).mor.vslot := by
  simp [destroyFirst, hs]

@[simp] theorem sqDoorbellGo_unpassed (p : BitVec 2) (g : BitVec 18) (value : BitVec 32) (bound : Bool) (s : State)
    (hs : Unpassed i s.mor.vslot) : Unpassed i (sqDoorbellGo p g value bound s).mor.vslot := by
  simp [sqDoorbellGo, hs]

@[simp] theorem cqDoorbellGo_unpassed (p : BitVec 2) (g : BitVec 18) (value : BitVec 32) (bound : Bool) (s : State)
    (hs : Unpassed i s.mor.vslot) : Unpassed i (cqDoorbellGo p g value bound s).mor.vslot := by
  simp [cqDoorbellGo, hs]

@[simp] theorem doorbell_noPass {i : Nat} (p : BitVec 2) (bound : Bool) (q : LakeReq) (go : State → State) (s : State)
    (hs : Unpassed i s.mor.vslot) (hg : Unpassed i (go s).mor.vslot) : NoPass i (doorbell p bound q go s) := by
  unfold doorbell
  (repeat' split) <;> simp [hs, hg]

@[simp] theorem execDoorbellSq_noPass (p : BitVec 2) (g : BitVec 18) (value : BitVec 32) (bound : Bool) (s : State)
    (hs : Unpassed i s.mor.vslot) : NoPass i (execDoorbellSq p g value bound s) := by
  simp [execDoorbellSq, hs]

@[simp] theorem execDoorbellCq_noPass (p : BitVec 2) (g : BitVec 18) (value : BitVec 32) (bound : Bool) (s : State)
    (hs : Unpassed i s.mor.vslot) : NoPass i (execDoorbellCq p g value bound s) := by
  simp [execDoorbellCq, hs]

@[simp] theorem fetchHold_noPass (p g : Nat) (e : Bytes) (s : State) (hs : Unpassed i s.mor.vslot) : NoPass i (fetchHold p g e s) := by
  simp [fetchHold, hs]

@[simp] theorem fetchActive_noPass {i : Nat} (p g : Nat) (rec' : RingsRec) (f : Fetched) (s0 s : State)
    (h0 : Unpassed i s0.mor.vslot) (hs : Unpassed i s.mor.vslot) : NoPass i (fetchActive p g rec' f s0 s) := by
  unfold fetchActive
  (repeat' split) <;> simp [h0, hs]

@[simp] theorem fetchGo_noPass (p g : Nat) (rec' : RingsRec) (f : Fetched) (s : State) (hs : Unpassed i s.mor.vslot) :
    NoPass i (fetchGo p g rec' f s) := by
  simp [fetchGo, hs]

@[simp] theorem againEnd_unpassed (j : RingCmd) (status : Nat) (result : Bytes) (out : List (Nat × Bytes)) (s : State)
    (hs : Unpassed i s.mor.vslot) : Unpassed i (againEnd j status result out s).mor.vslot := by
  simp [againEnd, hs]

@[simp] theorem againGo_noPass (j : RingCmd) (bufOk : Bool) (buf : Bytes) (s : State) (hs : Unpassed i s.mor.vslot) :
    NoPass i (againGo j bufOk buf s) := by
  unfold againGo
  (repeat' split) <;> simp [hs]

@[simp] theorem execCommandFetch_noPass (p : BitVec 2) (g : BitVec 18) (ok : Bool) (f : Fetched) (s : State)
    (hs : Unpassed i s.mor.vslot) : NoPass i (execCommandFetch p g ok f s) := by
  unfold execCommandFetch
  (repeat' split) <;> simp [hs]

@[simp] theorem opcodeEffect_noPass (s : State) (test : RingCmd → Bool) (hs : Unpassed i s.mor.vslot) :
    NoPass i (opcodeEffect s test) := by
  simp [opcodeEffect, hs]

@[simp] theorem execCapsuleSubmit_noPass (s : State) (hs : Unpassed i s.mor.vslot) : NoPass i (execCapsuleSubmit s) := by
  unfold execCapsuleSubmit
  split <;> simp [hs]

@[simp] theorem execCompletionPost_noPass (p : BitVec 2) (g : BitVec 18) (ok outOk : Bool) (s : State) (hs : Unpassed i s.mor.vslot) :
    NoPass i (execCompletionPost p g ok outOk s) := by
  unfold execCompletionPost
  dsimp only
  (repeat' split) <;> simp -implicitDefEqProofs +contextual [hs]

@[simp] theorem execMsixGapEnd_noPass (p : BitVec 2) (v : BitVec 11) (s : State) (hs : Unpassed i s.mor.vslot) :
    NoPass i (execMsixGapEnd p v s) := by
  unfold execMsixGapEnd
  dsimp only
  (repeat' split) <;> simp -implicitDefEqProofs +contextual [hs]

@[simp] theorem execBatchSigned_noPass (second : Bool) (s : State) (hs : Unpassed i s.mor.vslot) :
    NoPass i (execBatchSigned second s) := by
  unfold execBatchSigned
  split <;> simp [hs]

/-! ### The Service Complex -/

@[simp] theorem scReset_noPass (value : BitVec 32) (s : State) (hs : Unpassed i s.mor.vslot) : NoPass i (scReset value s) := by
  simp [scReset, hs]

@[simp] theorem escalateAll_unpassed (s : State) (hs : Unpassed i s.mor.vslot) : Unpassed i (escalateAll s).mor.vslot := by
  simp -implicitDefEqProofs +contextual [escalateAll, hs]

@[simp] theorem execPairSwitchDone_noPass (s : State) (hs : Unpassed i s.mor.vslot) : NoPass i (execPairSwitchDone s) := by
  unfold execPairSwitchDone
  have h := lakeOutHold_unpassed _
    (escalateAll_unpassed (resubmitAll (upSc (fun c => { c with switching := false }) s)) (by simpa using hs))
  simp -implicitDefEqProofs [hs, h]

@[simp] theorem ringResume_unpassed (s : State) (hs : Unpassed i s.mor.vslot) : Unpassed i (ringResume s).mor.vslot := by
  simp [ringResume, hs]

@[simp] theorem execFirmwareRestart_noPass (okA okB : Bool) (s : State) (hs : Unpassed i s.mor.vslot) :
    NoPass i (execFirmwareRestart okA okB s) := by
  unfold execFirmwareRestart
  dsimp only
  refine (noPass_when ..).2 ⟨fun _ => ?_, fun _ => hs⟩
  split
  · simpa using hs
  · split
    · refine (noPass_answer ..).2 ?_
      rw [tempAlert_mor]
      refine settle_unpassed _ ?_
      rw [medResume_mor]
      refine lakeOutHold_unpassed _ (escalateAll_unpassed _ ?_)
      rw [resubmitAll_mor]
      exact ringResume_unpassed _ (by simpa using hs)
    · simp -implicitDefEqProofs [hs]

@[simp] theorem sramWp_noPass (limit : BitVec 8) (s : State) (hs : Unpassed i s.mor.vslot) : NoPass i (sramWp limit s) := by
  simp [sramWp, hs]

@[simp] theorem sicDone_noPass (nn : BitVec 4) (value : BitVec 32) (s : State) (hs : Unpassed i s.mor.vslot) :
    NoPass i (sicDone nn value s) := by
  simp [sicDone, hs]

@[simp] theorem wdtServe_noPass (value : BitVec 32) (s : State) (hs : Unpassed i s.mor.vslot) : NoPass i (wdtServe value s) := by
  simp [wdtServe, hs]

@[simp] theorem wdtKey_noPass (value : BitVec 32) (inTime : Bool) (s : State) (hs : Unpassed i s.mor.vslot) :
    NoPass i (wdtKey value inTime s) := by
  simp [wdtKey, hs]

/-! ### Registers -/

@[simp] theorem writeDoorbell_noPass (p : BitVec 2) (a len : Nat) (v : BitVec 32) (bound : Bool) (s : State)
    (hs : Unpassed i s.mor.vslot) : NoPass i (writeDoorbell p a len v bound s) := by
  simp [writeDoorbell, hs]

@[simp] theorem writeMordant_unpassed (a : Nat) (v : BitVec 32) (s : State) (hs : Unpassed i s.mor.vslot) :
    Unpassed i (writeMordant a v s).mor.vslot := by
  unfold writeMordant
  dsimp only
  (repeat' split) <;> simp -implicitDefEqProofs [hs, apply_ite Mordant.vslot]

@[simp] theorem writeBlock_unpassed (n a : Nat) (v : BitVec 32) (s : State) (hs : Unpassed i s.mor.vslot) :
    Unpassed i (writeBlock n a v s).mor.vslot := by
  unfold writeBlock
  (repeat' split) <;> simp [hs]

/-! ### Gate commands -/

@[simp] theorem execEndpointTlp_noPass (q : Nat) (t : Tlp) (bad : BitVec 3) (s : State) (hs : Unpassed i s.mor.vslot) :
    NoPass i (execEndpointTlp q t bad s) := by
  unfold execEndpointTlp
  split <;> simp [hs]

@[simp] theorem execHostTlp_noPass (p : Nat) (t : Tlp) (s : State) (hs : Unpassed i s.mor.vslot) : NoPass i (execHostTlp p t s) := by
  unfold execHostTlp
  split <;> simp [hs]

@[simp] theorem execVaultDriveRequest_noPass (inside posted : Bool) (s : State) (hs : Unpassed i s.mor.vslot) :
    NoPass i (execVaultDriveRequest inside posted s) := by
  unfold execVaultDriveRequest
  split <;> simp [hs]

@[simp] theorem execDeclareResult_noPass (p : Nat) (s : State) (hs : Unpassed i s.mor.vslot) : NoPass i (execDeclareResult p s) := by
  unfold execDeclareResult
  split <;> simp [hs]

@[simp] theorem execResistArmEffect_noPass (p : Nat) (s : State) (hs : Unpassed i s.mor.vslot) :
    NoPass i (execResistArmEffect p s) := by
  unfold execResistArmEffect
  split <;> simp [hs]

/-! ### JTAG -/

@[simp] theorem debugRead_noPass (a len : Nat) (s : State) (hs : Unpassed i s.mor.vslot) : NoPass i (debugRead a len s) := by
  unfold debugRead
  (repeat' split) <;> simp [hs]

@[simp] theorem execJtagInstruction_noPass (n : JtagOp) (s0 : State) (hs : Unpassed i s0.mor.vslot) :
    NoPass i (execJtagInstruction n s0) := by
  unfold execJtagInstruction
  split <;> simp -implicitDefEqProofs [hs]

/-! ### The Lake -/

@[simp] theorem lakeReqFail_unpassed (q : LakeReq) (s : State) (hs : Unpassed i s.mor.vslot) :
    Unpassed i (lakeReqFail q s).mor.vslot := by
  unfold lakeReqFail
  split <;> simp [hs]

@[simp] theorem lakeOut_unpassed (s : State) (hs : Unpassed i s.mor.vslot) : Unpassed i (lakeOut s).mor.vslot := by
  unfold lakeOut
  dsimp only
  refine settle_unpassed _ (lakeOutHold_unpassed _ ?_)
  have h := foldl_unpassed s.lake.held (fun s q => lakeReqFail q s) s (fun s q => lakeReqFail_unpassed q s) hs
  simpa using ⟨fun _ _ _ => h, fun _ => h⟩

@[simp] theorem lakeRemove_unpassed (n : Nat) (s : State) (hs : Unpassed i s.mor.vslot) : Unpassed i (lakeRemove n s).mor.vslot := by
  simp -implicitDefEqProofs [lakeRemove, hs]

@[simp] theorem execLakeIntegrityFail_noPass (n : BitVec 3) (reread rebuilt : Bool) (s : State) (hs : Unpassed i s.mor.vslot) :
    NoPass i (execLakeIntegrityFail n reread rebuilt s) := by
  unfold execLakeIntegrityFail
  (repeat' split) <;> simp -implicitDefEqProofs [hs]

@[simp] theorem lakeReqGo_unpassed (q : LakeReq) (s : State) (hs : Unpassed i s.mor.vslot) : Unpassed i (lakeReqGo q s).mor.vslot := by
  unfold lakeReqGo
  split <;> simp [hs]

/-! ### Links and endpoints -/

@[simp] theorem execLinkUp_noPass (port rate width : Nat) (flit l0p : Bool) (s : State) (hs : Unpassed i s.mor.vslot) :
    NoPass i (execLinkUp port rate width flit l0p s) := by
  unfold execLinkUp
  (repeat' split) <;> simp [hs]

@[simp] theorem execLinkDown_noPass (port : Nat) (s : State) (hs : Unpassed i s.mor.vslot) : NoPass i (execLinkDown port s) := by
  unfold execLinkDown
  split <;> simp [hs]

@[simp] theorem execSpdmSendTimeout_noPass (j : Nat) (s : State) (hs : Unpassed i s.mor.vslot) :
    NoPass i (execSpdmSendTimeout j s) := by
  unfold execSpdmSendTimeout
  split <;> simp [hs]

@[simp] theorem gateContain_noPass (mask : BitVec 32) (s : State) (hs : Unpassed i s.mor.vslot) : NoPass i (gateContain mask s) := by
  simp [gateContain, hs]

@[simp] theorem gateRecheck_noPass (mask : BitVec 32) (s : State) (hs : Unpassed i s.mor.vslot) : NoPass i (gateRecheck mask s) := by
  simp [gateRecheck, hs]

@[simp] theorem execHostConfigRequest_noPass (port : Nat) (s : State) (hs : Unpassed i s.mor.vslot) :
    NoPass i (execHostConfigRequest port s) := by
  unfold execHostConfigRequest
  (repeat' split) <;> simp [hs]

@[simp] theorem execHostDpcTriggerWrite_noPass (port : Nat) (trigger : Bool) (s : State) (hs : Unpassed i s.mor.vslot) :
    NoPass i (execHostDpcTriggerWrite port trigger s) := by
  unfold execHostDpcTriggerWrite
  split <;> simp [hs]

/-! ### Mediated update commands -/

@[simp] theorem execPldmMediatedPacket_noPass (port : Nat) (m : MedMsg) (size : Nat) (s : State) (hs : Unpassed i s.mor.vslot) :
    NoPass i (execPldmMediatedPacket port m size s) := by
  unfold execPldmMediatedPacket
  (repeat' split) <;> simp [hs]

@[simp] theorem execActivateFirmwareRelease_noPass (port : Nat) (s : State) (hs : Unpassed i s.mor.vslot) :
    NoPass i (execActivateFirmwareRelease port s) := by
  unfold execActivateFirmwareRelease
  (repeat' split) <;> simp [hs]

@[simp] theorem execActivateFirmwareResponse_noPass (port : Nat) (s : State) (hs : Unpassed i s.mor.vslot) :
    NoPass i (execActivateFirmwareResponse port s) := by
  unfold execActivateFirmwareResponse
  split <;> simp [hs]

/-! ### Presentation port commands -/

@[simp] theorem prsModeRead_noPass (f : PrsFrame) (q : PrsRead) (m : ReadMode) (cond : PresentRec → Bool) (op3 op4 : Byte) (s : State)
    (hs : Unpassed i s.mor.vslot) : NoPass i (prsModeRead f q m cond op3 op4 s) := by
  simp [prsModeRead, hs]

@[simp] theorem execPrsSectorErase_noPass (f : PrsFrame) (op : Byte) (s : State) (hs : Unpassed i s.mor.vslot) :
    NoPass i (execPrsSectorErase f op s) := by
  refine prsFrame_noPass _ _ _ hs (fun p r e => ?_)
  split <;> simp [hs]

@[simp] theorem prsAddrMode_noPass (f : PrsFrame) (op : Byte) (on : Bool) (s : State) (hs : Unpassed i s.mor.vslot) :
    NoPass i (prsAddrMode f op on s) := by
  simp [prsAddrMode, hs]

@[simp] theorem execWriteJournalEntry_noPass (port : Nat) (dev : Bool) (s : State) (hs : Unpassed i s.mor.vslot) :
    NoPass i (execWriteJournalEntry port dev s) := by
  unfold execWriteJournalEntry
  dsimp only
  (repeat' split) <;> simp -implicitDefEqProofs +contextual [hs]

@[simp] theorem execWriteDurable_noPass (port : Nat) (dev : Bool) (s : State) (hs : Unpassed i s.mor.vslot) :
    NoPass i (execWriteDurable port dev s) := by
  unfold execWriteDurable
  dsimp only
  (repeat' split) <;> simp -implicitDefEqProofs +contextual [hs]

@[simp] theorem execWriteApply_noPass (port : Nat) (dev : Bool) (s : State) (hs : Unpassed i s.mor.vslot) :
    NoPass i (execWriteApply port dev s) := by
  unfold execWriteApply
  dsimp only
  (repeat' split) <;> simp -implicitDefEqProofs +contextual [hs]

@[simp] theorem execDeviceLoadDone_noPass (port : Nat) (dev : Bool) (content : List (Nat × Byte)) (ok : Bool) (s : State)
    (hs : Unpassed i s.mor.vslot) : NoPass i (execDeviceLoadDone port dev content ok s) := by
  unfold execDeviceLoadDone
  split <;> simp [hs]

/-! ### Register writes -/

theorem writeInternal_unpassed {a : Nat} {b : Bytes} {s t : State} (h : writeInternal a b s = some t) (hs : Unpassed i s.mor.vslot) :
    Unpassed i t.mor.vslot := by
  unfold writeInternal at h
  (repeat' split at h) <;> cases h <;> simp [hs]

theorem ownWrite_noPass {i n a : Nat} {v : BitVec 32} {s : State} {o : Out} (hs : Unpassed i s.mor.vslot)
    (h : ownWrite n a v s = some o) : NoPass i o := by
  unfold ownWrite at h
  (repeat' split at h) <;> cases h <;> simp [hs]

@[simp] theorem jtagOut_noPass (s : State) (o : Out) (hs : Unpassed i s.mor.vslot) (ho : NoPass i o) : NoPass i (jtagOut s o) := by
  unfold jtagOut
  split
  · split
    · simpa using hs
    · exact ho
  · exact ho

@[simp] theorem jtagWrite_noPass (a len : Nat) (v : BitVec 32) (s : State) (hs : Unpassed i s.mor.vslot) :
    NoPass i (jtagWrite a len v s) := by
  unfold jtagWrite
  split
  · simp [hs]
  · split
    · rename_i h
      simp [hs, ownWrite_noPass hs h]
    · simp [hs]

@[simp] theorem execRegisterWrite_noPass (sp : RegSpace) (a : Nat) (v : BitVec 32) (s : State) (hs : Unpassed i s.mor.vslot) :
    NoPass i (execRegisterWrite sp a v s) := by
  unfold execRegisterWrite
  split
  · simp [hs]
  · simp [hs]
  · simp [hs]
  · refine (noPass_when ..).2 ⟨fun _ => ?_, fun _ => hs⟩
    split
    · rename_i h
      simp [writeInternal_unpassed h hs]
    · simp [hs]
  · simp [hs]

/-! ### Self-test and ROM -/

@[simp] theorem romFloor_vslot (cause : Nat) (s : State) : (romFloor cause s).mor.vslot = s.mor.vslot := by
  simp [romFloor]

@[simp] theorem romSlot_vslot (t : SelfTest) (slot : Bool) (s : State) : (romSlot t slot s).mor.vslot = s.mor.vslot := by
  unfold romSlot
  (repeat' split) <;> simp

@[simp] theorem romPolicy_vslot (t : SelfTest) (s : State) : (romPolicy t s).mor.vslot = s.mor.vslot := by
  simp [romPolicy]

@[simp] theorem romNoPolicy_vslot (s : State) : (romNoPolicy s).mor.vslot = s.mor.vslot := by
  simp [romNoPolicy]

@[simp] theorem execSelfTestDone_noPass (t : SelfTest) (s : State) (hs : Unpassed i s.mor.vslot) : NoPass i (execSelfTestDone t s) := by
  unfold execSelfTestDone
  dsimp only
  (repeat' split) <;> simp -implicitDefEqProofs +contextual [hs]

/-! ### The Vault -/

@[simp] theorem nvmeEffect_unpassed (back : List DriveBlock) (u : NvmeUse) (s : State) (hs : Unpassed i s.mor.vslot) :
    Unpassed i (nvmeEffect back u s).mor.vslot := by
  unfold nvmeEffect
  (repeat' split) <;> simp [hs]

@[simp] theorem execNvmeCommandDone_noPass (back : List DriveBlock) (s : State) (hs : Unpassed i s.mor.vslot) :
    NoPass i (execNvmeCommandDone back s) := by
  unfold execNvmeCommandDone
  split <;> simp -implicitDefEqProofs [hs]

@[simp] theorem execNvmeCommandTimeout_noPass (s : State) (hs : Unpassed i s.mor.vslot) : NoPass i (execNvmeCommandTimeout s) := by
  unfold execNvmeCommandTimeout
  split <;> simp [hs]

@[simp] theorem execNvmeControllerReady_noPass (s : State) (hs : Unpassed i s.mor.vslot) : NoPass i (execNvmeControllerReady s) := by
  unfold execNvmeControllerReady
  split <;> simp [hs]

@[simp] theorem execCheckpointDone_noPass (s : State) (hs : Unpassed i s.mor.vslot) : NoPass i (execCheckpointDone s) := by
  unfold execCheckpointDone
  split <;> simp [hs]

/-! ### The tick -/

@[simp] theorem tick_unpassed (s : State) (hs : Unpassed i s.mor.vslot) : Unpassed i (tick s).mor.vslot := by
  simp [tick, hs]

/-! ### Links and endpoints -/

theorem execSpdmMeasurements_noPass {i : Nat} (j : Nat) (block : Option Bytes) (sig : Half) (s : State) (hs : Unpassed i s.mor.vslot)
    (h : i ≠ 256 + j) : NoPass i (execSpdmMeasurements j block sig s) := by
  have hd (cause : Nat) (d : Bytes) : Unpassed i (attEnd cause d j s).mor.vslot := attEnd_unpassed cause d j s hs (fun hi => absurd hi h)
  unfold execSpdmMeasurements
  refine (noPass_when ..).2 ⟨fun _ => ?_, fun _ => hs⟩
  split
  · simp [hs, hd]
  · simp [hd]

/-! ### The commands -/

/-- No command but JUDGEMENT_DONE of an image slot, or an SPDM response of an endpoint, gives that slot PASS (R30). -/
theorem exec_noPass {i : Nat} (c : Instr) (s : State) (hs : Unpassed i s.mor.vslot) (hj : ∀ sig b, c ≠ .judgementDone i sig b)
    (hm : ∀ j b g, c = .spdmMeasurements j b g → i ≠ 256 + j) : NoPass i (exec c s) := by
  cases c with
  | vsecPowerOn | criticalFuseLatchComplete | vsecBrownout | vsecOff | mainSetGood | mainRailFail | pllLossOfLock | vioRstGood |
    vioRstLost | vioBankLow | hotReset | upstreamLinkDown | aocDisagreement | aocStopped | aocResumed | tamperAssert | tripRecord |
    tripReqWrite | holdRequest | releaseRequest | tamperRelease | vsecAboveVBod | aocAgreement =>
    simp -implicitDefEqProofs +contextual [exec, execVsecPowerOn, execCriticalFuseLatchComplete, execVsecBrownout, execVsecOff,
      execMainSetGood, execMainRailFail, execPllLossOfLock, execVioRstGood, execVioRstLost, execVioBankLow, execHotReset,
      execUpstreamLinkDown, execAocDisagreement, execTamperAssert, execTripReqWrite, execHoldRequest, execReleaseRequest,
      execTamperRelease, execVsecAboveVBod, execAocAgreement, hs]
  | tripClear | challenge | token | jtagTokenSubmit | lcClose | exportAck =>
    simp -implicitDefEqProofs +contextual [exec, execChallenge, execToken, execJtagTokenSubmit, execLcClose, hs]
  | registerWrite =>
    simp -implicitDefEqProofs +contextual [exec, hs]
  | selfTestDone | microcodeLoadDone =>
    simp -implicitDefEqProofs +contextual [exec, execMicrocodeLoadDone, hs]
  | otpRead | otpProgram | otpScan | otpLcStep | otpOpDone =>
    simp -implicitDefEqProofs +contextual [exec, execOtpRead, execOtpProgram, execOtpScan, execOtpLcStep, execOtpOpDone, hs]
  | jtagInstruction =>
    simp -implicitDefEqProofs +contextual [exec, hs]
  | pldmRequestUpdate | pldmComponentPush | pldmCapsulePush | capsuleStage | pldmCancelUpdate =>
    simp -implicitDefEqProofs +contextual [exec, execPldmRequestUpdate, execPldmCapsulePush, execPldmCancelUpdate, hs]
  | cchQpush | cchQdoneRead | cchFrameStart | cchFrameEnd | cchWipPoll | cchWipTimeout | cchContTimeout | cchPeriodicCalibration |
    cchSelftestDone | scrubPassStart | commitEntryStart =>
    simp -implicitDefEqProofs +contextual [exec, execCchQpush, execCchQdoneRead, execCchPeriodicCalibration, execCchSelftestDone,
      execScrubPassStart, hs]
  | xipFetch | xipFillDone =>
    simp -implicitDefEqProofs +contextual [exec, hs]
  | prsRead | prsFastRead | prsReadDual | prsReadQuad | prsReadQuadDtr | prsReadOctal | prsReadOctalDtr | prsPageProgram |
    prsPageProgramQuad | prsSectorErase | prsChipErase | prsWriteEnable | prsWriteDisable | prsReadStatus | prsWriteStatus |
    prsReadId | prsReadSfdp | prsEnter4b | prsExit4b | prsProtocolSelect | prsResetEnable | prsReset | prsPowerDown |
    prsReleasePowerDown | prsUnknownOpcode | prsFrameReject | writeJournalEntry | writeDurable | writeApply | deviceLoadDone =>
    simp -implicitDefEqProofs +contextual [exec, execPrsRead, execPrsFastRead, execPrsReadDual, execPrsReadQuad, execPrsReadQuadDtr,
      execPrsReadOctal, execPrsReadOctalDtr, execPrsPageProgram, execPrsPageProgramQuad, execPrsChipErase, execPrsWriteEnable,
      execPrsWriteDisable, execPrsReadStatus, execPrsWriteStatus, execPrsReadId, execPrsReadSfdp, execPrsEnter4b, execPrsExit4b,
      execPrsProtocolSelect, execPrsResetEnable, execPrsReset, execPrsPowerDown, execPrsReleasePowerDown, execPrsUnknownOpcode,
      execPrsFrameReject, hs]
  | lakeIntegrityFail | lakeChannelFault | lakeFailoverDone =>
    simp -implicitDefEqProofs +contextual [exec, execLakeChannelFault, execLakeFailoverDone, hs]
  | judgeStart | verifyDeadlineExpiry | restoreVaultBegin | vaultWaitExpiry | goldenStore | imageSvnAdvance | policySvnAdvance =>
    simp -implicitDefEqProofs +contextual [exec, execJudgeStart, execVaultWaitExpiry, hs]
  | linkUp | linkDown | endpointLinkTimeout | endpointReadyWaitEnd | deviceReadinessStatus | configRetry | endpointConfigSuccess |
    endpointReadyTimeout | spdmVersion | spdmCapabilities | spdmAlgorithms | spdmDigests | spdmCertificate | spdmError |
    spdmSendTimeout | attestationTimeout | recheckDue | gateContainReq | gateRechkReq | hostConfigRequest | hostDpcTriggerWrite |
    altProtocolNegotiation =>
    simp -implicitDefEqProofs +contextual [exec, execEndpointLinkTimeout, execEndpointReadyWaitEnd, execDeviceReadinessStatus,
      execConfigRetry, execEndpointConfigSuccess, execEndpointReadyTimeout, execSpdmVersion, execSpdmCapabilities,
      execSpdmAlgorithms, execSpdmDigests, execSpdmCertificate, execSpdmError, execAttestationTimeout, execRecheckDue,
      execGateContainReq, execGateRechkReq, execAltProtocolNegotiation, hs]
  | endpointTlp | hostTlp | vaultDriveRequest | ideStreamSecure | ideStreamLeaveSecure | ideKmRequest | tdispLockInterface |
    tdiError | declare | declareResult | arm | armDeadline | resistArmEffect | violWindowEnd | sliceCheck | sliceFailoverDone |
    planeFault | planeFailoverDone | spdmSecuredSession | tdispStartInterface | tdispStopInterface =>
    simp -implicitDefEqProofs +contextual [exec, execIdeStreamSecure, execIdeStreamLeaveSecure, execIdeKmRequest,
      execTdispLockInterface, execTdiError, execDeclare, execArm, execArmDeadline, execViolWindowEnd, execSliceCheck,
      execSliceFailoverDone, execPlaneFault, execPlaneFailoverDone, execSpdmSecuredSession, execTdispStartInterface,
      execTdispStopInterface, hs]
  | pldmMediatedPacket | activateFirmwareRelease | activateFirmwareResponse =>
    simp -implicitDefEqProofs +contextual [exec, hs]
  | recordSubmit | recordDurable | blockTimedClose | chainDone | bootRecordSigned =>
    simp -implicitDefEqProofs +contextual [exec, execRecordSubmit, execRecordDurable, execChainDone, hs]
  | waitingRecordWrite =>
    simp -implicitDefEqProofs +contextual [exec, execWaitingRecordWrite, hs]
  | archiveBlock | nvmeCommandDone | nvmeCommandTimeout | nvmeControllerReady | nvmeResetTimeout | checkpoint | checkpointDone =>
    simp -implicitDefEqProofs +contextual [exec, execArchiveBlock, execNvmeResetTimeout, execCheckpoint, hs]
  | journalState | readBlock | closeBlock | signedHead | readBootRecord | readAliasCert | cbusPoll | cbusRetry | ibiRetry |
    smbusAlertResponse | smbusSclTimeout | tempSensorUpdate | mctpControl | getVersion | getCapabilities | getCertificate | entdaa |
    setdasa =>
    simp -implicitDefEqProofs +contextual [exec, execJournalState, execCloseBlock, execSignedHead, execReadBootRecord,
      execReadAliasCert, execCbusPoll, execSmbusAlertResponse, execSmbusSclTimeout, execTempSensorUpdate, execMctpControl,
      execGetVersion, execGetCapabilities, execGetCertificate, execEntdaa, execSetdasa, hs]
  | doorbellSq | doorbellCq | commandFetch | ledgerExtend | ledgerRead | quote | quotePlatform | counterIncrement | counterRead |
    journalNote | ringCreate | ringDestroy | quotaSet | ledgerAlloc | ledgerRelease | counterAlloc | counterRelease |
    capsuleSubmit | completionPost | msixGapEnd | batchClose | batchSigned | hostMemoryRetry | dmaTimeout | ringWatchdog |
    adminRingEnable | adminRingDisable =>
    simp -implicitDefEqProofs +contextual [exec, execLedgerExtend, execLedgerRead, execQuote, execQuotePlatform,
      execCounterIncrement, execCounterRead, execJournalNote, execRingCreate, execRingDestroy, execQuotaSet, execLedgerAlloc,
      execLedgerRelease, execCounterAlloc, execCounterRelease, execBatchClose, execHostMemoryRetry, execDmaTimeout,
      execRingWatchdog, execAdminRingEnable, execAdminRingDisable, hs]
  | lockstepMismatch | spareMismatch | pairSwitchDone | scResetWrite | firmwareRestart | sramWpWrite | busTimeout | sicDoneWrite |
    waitForInterrupt | sicWake | wdtServe | wdtKeyWrite | wdtEnableWrite | wdtExpiry | wdtHardTimerEnd | wdtClockMonitor =>
    simp -implicitDefEqProofs +contextual [exec, execLockstepMismatch, execSpareMismatch, execScResetWrite, execSramWpWrite,
      execBusTimeout, execSicDoneWrite, execWaitForInterrupt, execSicWake, execWdtServe, execWdtKeyWrite, execWdtEnableWrite,
      execWdtExpiry, execWdtHardTimerEnd, execWdtClockMonitor, hs]
  | dgaOpen | dgaOpenGrant | dgaDataWrite | dgaLastWrite | dgaClose | dgaExpectWrite | ecdsaP384Verify | ecdsaP384Sign |
    mlDsa65Verify | mlDsa65Sign | mlDsa87Verify | mlDsa87Sign | hssVerify | ecdhP384 | mlKem1024Keygen | mlKem1024Encaps |
    mlKem1024Decaps | sigOpDone | kldFwidWrite | kldSvnWrite | kldRandRead | rngHealthFail =>
    simp -implicitDefEqProofs +contextual [exec, execDgaOpen, execDgaDataWrite, execDgaLastWrite, execDgaClose, execDgaExpectWrite,
      execEcdsaP384Verify, execEcdsaP384Sign, execMlDsa65Verify, execMlDsa65Sign, execMlDsa87Verify, execMlDsa87Sign, execHssVerify,
      execEcdhP384, execMlKem1024Keygen, execMlKem1024Encaps, execMlKem1024Decaps, execKldFwidWrite, execKldSvnWrite,
      execKldRandRead, execRngHealthFail, hs]
  | dgaKnownAnswerCheck | dgaFailoverDone | sigKnownAnswerCheck | sigFailoverDone | persistBankFault | persistFailoverDone =>
    simp -implicitDefEqProofs +contextual [exec, execDgaFailoverDone, execSigKnownAnswerCheck, execSigFailoverDone,
      execPersistBankFault, execPersistFailoverDone, hs]
  | regRead | regWrite =>
    simp -implicitDefEqProofs +contextual [exec, execRegRead, execRegWrite, hs]
  | judgementDone slot sig b => exact execJudgementDone_noPass sig b s hs (fun h => hj sig b (h ▸ rfl))
  | spdmMeasurements j b g => exact execSpdmMeasurements_noPass j b g s hs (hm j b g rfl)
  -- The two ring commands left: a bare case label cannot name them, since Lean reserves both words.
  | _ =>
    simp -implicitDefEqProofs [exec, execSeal, execUnseal, hs]

/-- Settles O39: a slot that a command gives PASS is the slot of a judgement or of an attestation that ended. -/
theorem verdictsComeFromTheVerdictPath : Obligations.VerdictsComeFromTheVerdictPath := by
  unfold Obligations.VerdictsComeFromTheVerdictPath
  intro c s t k ⟨hx, ht⟩
  by_contra hn
  obtain ⟨hs, hj, hm⟩ : pairOf s k ≠ passPair ∧ (∀ sig b, c ≠ .judgementDone k sig b) ∧
      (∀ j b g, c = .spdmMeasurements j b g → k ≠ 256 + j) := by
    exact ⟨fun h => hn (.inl h), fun sig b h => hn (.inr (.inl ⟨sig, b, h⟩)),
      fun j b g h hk => hn (.inr (.inr ⟨j, b, g, h, hk⟩))⟩
  exact exec_noPass c s hs hj hm t hx ht

end Sys2Proof.Machine
end

section
/-!
PROOF. What settling leaves as it is (R101, R105, R118): the configuration of the Mordant, a domain whose Release is not due, and a link
that is down.
-/
namespace Sys2Proof.Machine

open Sys2Proof

/-! ### An effect on each number of a list -/

theorem each_cons (n : Nat) (l : List Nat) (f : Nat → State → State) (s : State) : each (n :: l) f s = each l f (f n s) := rfl

/-- A property that the effect keeps for every number of the list is kept. -/
theorem each_keeps {P : State → Prop} {l : List Nat} {f : Nat → State → State} {s : State}
    (h : ∀ n ∈ l, ∀ s, P s → P (f n s)) (hs : P s) : P (each l f s) := by
  induction l generalizing s with
  | nil => exact hs
  | cons x l ih => exact ih (fun n hn => h n (List.mem_cons_of_mem x hn)) (h x List.mem_cons_self s hs)

/-- A property that the effect brings for one number of the list, and keeps for all, holds in the end. -/
theorem each_makes {P : State → Prop} {l : List Nat} {n : Nat} {f : Nat → State → State} (s : State) (hn : n ∈ l)
    (hm : ∀ s, P (f n s)) (hk : ∀ m ∈ l, ∀ s, P s → P (f m s)) : P (each l f s) := by
  induction l generalizing s with
  | nil => simp at hn
  | cons x l ih =>
    have hl : ∀ m ∈ l, ∀ s, P s → P (f m s) := fun m h => hk m (List.mem_cons_of_mem x h)
    rcases List.mem_cons.1 hn with rfl | h
    · rw [each_cons]
      exact each_keeps hl (hm s)
    · exact ih (f x s) h hl

/-! ### The Mordant's clock -/

theorem latched_of_clocked {s : State} (h : clocked s = true) : s.mor.latched = true :=
  (Bool.and_eq_true_iff.1 (Bool.and_eq_true_iff.1 h).1).2

theorem aocRuns_of_clocked {s : State} (h : clocked s = true) : aocRuns s = true := (Bool.and_eq_true_iff.1 h).2

/-! ### What holds, Releases and grants leave of the Mordant -/

/-- The Mordant without what a hold, a Release or a grant can change. -/
def unmoved (m : Mordant) : Mordant :=
  { m with
    dom := tabEmpty, relReq := 0#32, final := tabEmpty, heldCause := tabEmpty, vslot := tabEmpty, phase := 0, allDecided := false
    vioLost := false }

@[simp] theorem each_unmoved (l : List Nat) (f : Nat → State → State) (s : State) (h : ∀ n s, unmoved (f n s).mor = unmoved s.mor) :
    unmoved (each l f s).mor = unmoved s.mor :=
  each_keeps (P := fun t => unmoved t.mor = unmoved s.mor) (fun n _ t ht => (h n t).trans ht) rfl

@[simp] theorem setPair_unmoved (k : Nat) (v : BitVec 32) (s : State) : unmoved (setPair k v s).mor = unmoved s.mor := by
  unfold setPair
  split <;> rfl

@[simp] theorem epUnvat_unmoved (j : Nat) (s : State) : unmoved (epUnvat j s).mor = unmoved s.mor := by
  simp [epUnvat]

@[simp] theorem epSealIt_unmoved (j : Nat) (s : State) : unmoved (epSealIt j s).mor = unmoved s.mor := by
  simp [epSealIt]

@[simp] theorem heldRecord_unmoved (d cause : Nat) (final : Bool) (s : State) :
    unmoved (heldRecord d cause final s).mor = unmoved s.mor := by
  rw [heldRecord, emitFw_mor]
  rfl

@[simp] theorem clearSlots_unmoved (d : Nat) (s : State) : unmoved (clearSlots d s).mor = unmoved s.mor := by
  simp [clearSlots]

@[simp] theorem domUnslot_unmoved (d : Nat) (s : State) : unmoved (domUnslot d s).mor = unmoved s.mor := by
  simp [domUnslot]

@[simp] theorem domLost_unmoved (d : Nat) (s : State) : unmoved (domLost d s).mor = unmoved s.mor := by
  simp [domLost]

@[simp] theorem holdDom_unmoved (cause : Nat) (final : Bool) (d : Nat) (s : State) :
    unmoved (holdDom cause final d s).mor = unmoved s.mor := by
  unfold holdDom
  split
  · rfl
  · rw [heldRecord_unmoved, domLost_unmoved]
    rfl

@[simp] theorem cascade_unmoved (n : Nat) (s : State) : unmoved (cascade n s).mor = unmoved s.mor := by
  induction n generalizing s with
  | zero => rfl
  | succ n ih =>
    unfold cascade
    dsimp only
    split <;> simp [ih]

@[simp] theorem markFinal_unmoved (cause d : Nat) (s : State) : unmoved (markFinal cause d s).mor = unmoved s.mor := by
  unfold markFinal
  split <;> simp

@[simp] theorem finalCascade_unmoved (n : Nat) (s : State) : unmoved (finalCascade n s).mor = unmoved s.mor := by
  induction n generalizing s with
  | zero => rfl
  | succ n ih =>
    unfold finalCascade
    dsimp only
    split <;> simp [ih]

@[simp] theorem releaseDom_unmoved (d : Nat) (s : State) : unmoved (releaseDom d s).mor = unmoved s.mor := by
  rw [releaseDom, each_unmoved _ _ _ (by simp)]
  rfl

@[simp] theorem interlock_unmoved (n : Nat) (s : State) : unmoved (interlock n s).mor = unmoved s.mor := by
  induction n generalizing s with
  | zero => rfl
  | succ n ih =>
    unfold interlock
    dsimp only
    split <;> simp [ih]

@[simp] theorem vioHold_unmoved (s : State) : unmoved (vioHold s).mor = unmoved s.mor := by
  unfold vioHold
  split
  · rfl
  · rw [each_unmoved _ _ _ (by simp)]
    rfl

@[simp] theorem vatWithdraw_unmoved (s : State) : unmoved (vatWithdraw s).mor = unmoved s.mor := by
  simp [vatWithdraw]

@[simp] theorem phaseStep_unmoved (s : State) : unmoved (phaseStep s).mor = unmoved s.mor := rfl

@[simp] theorem settle_unmoved (s : State) : unmoved (settle s).mor = unmoved s.mor := by
  unfold settle
  split <;> simp

@[simp] theorem tripDom_unmoved (d : Nat) (s : State) : unmoved (tripDom d s).mor = unmoved s.mor := by
  unfold tripDom
  dsimp only
  split <;> simp <;> rfl

theorem attr_of_unmoved {s t : State} (h : unmoved t.mor = unmoved s.mor) : t.mor.attr = s.mor.attr := (congrArg Mordant.attr h :)

theorem outMap_of_unmoved {s t : State} (h : unmoved t.mor = unmoved s.mor) : t.mor.outMap = s.mor.outMap :=
  (congrArg Mordant.outMap h :)

theorem tripHold_of_unmoved {s t : State} (h : unmoved t.mor = unmoved s.mor) (d : Nat) : tripHold t d = tripHold s d := by
  rw [tripHold, tripHold, domAttr, domAttr, attr_of_unmoved h]

theorem outDom_of_unmoved {s t : State} (h : unmoved t.mor = unmoved s.mor) (o : Nat) : outDom t o = outDom s o := by
  rw [outDom, outDom, outMap_of_unmoved h]

@[simp] theorem settle_mor_lock (s : State) : (settle s).mor.lock = s.mor.lock := (congrArg Mordant.lock (settle_unmoved s) :)

@[simp] theorem settle_mor_vioRst (s : State) : (settle s).mor.vioRst = s.mor.vioRst := (congrArg Mordant.vioRst (settle_unmoved s) :)

/-! ### What moves no domain -/

/-- The states of the domains and their release requests. -/
def domPart (m : Mordant) : Tab DomState × BitVec 32 := (m.dom, m.relReq)

@[simp] theorem each_domPart (l : List Nat) (f : Nat → State → State) (s : State) (h : ∀ n s, domPart (f n s).mor = domPart s.mor) :
    domPart (each l f s).mor = domPart s.mor :=
  each_keeps (P := fun t => domPart t.mor = domPart s.mor) (fun n _ t ht => (h n t).trans ht) rfl

@[simp] theorem setPair_domPart (k : Nat) (v : BitVec 32) (s : State) : domPart (setPair k v s).mor = domPart s.mor := by
  unfold setPair
  split <;> rfl

@[simp] theorem epUnvat_domPart (j : Nat) (s : State) : domPart (epUnvat j s).mor = domPart s.mor := by
  simp [epUnvat]

@[simp] theorem epSealIt_domPart (j : Nat) (s : State) : domPart (epSealIt j s).mor = domPart s.mor := by
  simp [epSealIt]

@[simp] theorem heldRecord_domPart (d cause : Nat) (final : Bool) (s : State) :
    domPart (heldRecord d cause final s).mor = domPart s.mor := by
  rw [heldRecord, emitFw_mor]
  rfl

@[simp] theorem domUnslot_domPart (d : Nat) (s : State) : domPart (domUnslot d s).mor = domPart s.mor := by
  simp [domUnslot, clearSlots]

@[simp] theorem domLost_domPart (d : Nat) (s : State) : domPart (domLost d s).mor = domPart s.mor := by
  simp [domLost]

@[simp] theorem markFinal_domPart (cause d : Nat) (s : State) : domPart (markFinal cause d s).mor = domPart s.mor := by
  unfold markFinal
  split <;> simp

@[simp] theorem finalCascade_domPart (n : Nat) (s : State) : domPart (finalCascade n s).mor = domPart s.mor := by
  induction n generalizing s with
  | zero => rfl
  | succ n ih =>
    unfold finalCascade
    dsimp only
    split <;> simp [ih]

@[simp] theorem vatWithdraw_domPart (s : State) : domPart (vatWithdraw s).mor = domPart s.mor := by
  simp [vatWithdraw]

@[simp] theorem phaseStep_domPart (s : State) : domPart (phaseStep s).mor = domPart s.mor := rfl

/-! ### A domain whose Release is not due -/

/-- D_d is in the state x and is not to be released: it is HELD without a request, or TRIP_HELD. -/
def Withheld (d : Nat) (x : DomState) (m : Mordant) : Prop :=
  tabGet .held m.dom d = x ∧ x ≠ .released ∧ (x = .held → m.relReq.getLsbD d = false)

variable {d : Nat} {x : DomState} {s : State}

theorem withheld_of_domPart {m m' : Mordant} (h : domPart m' = domPart m) (hw : Withheld d x m) : Withheld d x m' := by
  have hd : m'.dom = m.dom := congrArg Prod.fst h
  have hr : m'.relReq = m.relReq := congrArg Prod.snd h
  rw [Withheld, hd, hr]
  exact hw

theorem getLsbD_putBit_false {w : Nat} {v : BitVec w} (n i : Nat) (h : v.getLsbD i = false) : (putBit v n false).getLsbD i = false := by
  simp [putBit, h]

theorem getLsbD_putBit_false_self (v : BitVec 32) (i : Nat) : (putBit v i false).getLsbD i = false := by
  by_cases h : i < 32
  · simp [putBit, h]
  · exact BitVec.getLsbD_of_ge _ _ (by omega)

/-- A hold acts on a released domain alone, and with a clock (R105, R514). -/
theorem holdDom_cases (cause : Nat) (final : Bool) (n : Nat) (s : State) :
    holdDom cause final n s = s ∨ domSt s n = .released ∧ aocRuns s = true := by
  by_cases h : domSt s n = .released ∧ aocRuns s = true
  · exact .inr h
  · refine .inl (if_pos ?_)
    rcases not_and_or.1 h with h | h <;> simp [h]

theorem holdDom_domPart (cause : Nat) (final : Bool) (n : Nat) (h : domSt s n = .released) (ha : aocRuns s = true) :
    domPart (holdDom cause final n s).mor = (tabSet .held s.mor.dom n .held, putBit s.mor.relReq n false) := by
  have hg : ¬ (domSt s n ≠ .released || !aocRuns s) = true := by simp [h, ha]
  rw [holdDom, if_neg hg]
  exact (heldRecord_domPart n cause final _).trans (domLost_domPart n _)

theorem holdDom_withheld (cause : Nat) (final : Bool) (n : Nat) {s : State} (h : Withheld d x s.mor) :
    Withheld d x (holdDom cause final n s).mor := by
  rcases holdDom_cases cause final n s with hs | ⟨hn, ha⟩
  · rw [hs]
    exact h
  · obtain ⟨hx, hr, hq⟩ := h
    have hne : d ≠ n := by
      rintro rfl
      exact hr (hx.symm.trans hn)
    have hp := holdDom_domPart cause final n hn ha
    have hdom : (holdDom cause final n s).mor.dom = _ := congrArg Prod.fst hp
    have hreq : (holdDom cause final n s).mor.relReq = _ := congrArg Prod.snd hp
    rw [Withheld, hdom, hreq, tabGet_tabSet_ne _ _ _ _ _ hne]
    exact ⟨hx, hr, fun h => getLsbD_putBit_false n d (hq h)⟩

theorem cascade_withheld (n : Nat) {s : State} (h : Withheld d x s.mor) : Withheld d x (cascade n s).mor := by
  induction n generalizing s with
  | zero => exact h
  | succ n ih =>
    unfold cascade
    dsimp only
    split
    · exact h
    · exact ih (each_keeps (P := fun t => Withheld d x t.mor) (fun n _ t ht => holdDom_withheld 2 false n ht) h)

theorem vioHold_withheld {s : State} (h : Withheld d x s.mor) : Withheld d x (vioHold s).mor := by
  unfold vioHold
  split
  · exact h
  · exact each_keeps (P := fun t => Withheld d x t.mor) (fun n _ t ht => holdDom_withheld 8 false n ht) h

theorem releaseDom_withheld {n : Nat} (hn : d ≠ n) {s : State} (h : Withheld d x s.mor) : Withheld d x (releaseDom n s).mor := by
  obtain ⟨hx, hr, hq⟩ := h
  rw [releaseDom, each_mor _ _ _ (by simp)]
  exact ⟨by simpa [hn] using hx, hr, hq⟩

/-- The Interlock releases a domain only if it is HELD with a request (R111). -/
theorem interlockOk_of_withheld {s : State} (h : Withheld d x s.mor) : interlockOk s d = false := by
  obtain ⟨hx, hr, hq⟩ := h
  cases x with
  | held => simp [interlockOk, hq rfl]
  | released => exact absurd rfl hr
  | tripHeld => simp [interlockOk, domSt, hx]

theorem interlock_withheld (n : Nat) {s : State} (h : Withheld d x s.mor) : Withheld d x (interlock n s).mor := by
  induction n generalizing s with
  | zero => exact h
  | succ n ih =>
    unfold interlock
    dsimp only
    split
    · exact h
    · refine ih (each_keeps (P := fun t => Withheld d x t.mor) (fun n hn t ht => releaseDom_withheld ?_ ht) h)
      rintro rfl
      simp [interlockOk_of_withheld h] at hn

theorem settle_withheld {s : State} (h : Withheld d x s.mor) : Withheld d x (settle s).mor := by
  unfold settle
  split
  · exact h
  · have h1 := withheld_of_domPart (vatWithdraw_domPart _) (cascade_withheld 33 (vioHold_withheld h))
    exact withheld_of_domPart (by simp) (interlock_withheld 33 h1)

/-! ### A link that is down -/

/-- The link of PERST_N_jj is down in the fabric f. -/
def LinkDown (j : Nat) (f : Fabric) : Prop := (tabGet ep0 f.eps j).link = false

variable {j : Nat}

@[simp] theorem each_linkDown (l : List Nat) (f : Nat → State → State) (s : State)
    (h : ∀ n s, LinkDown j s.fab → LinkDown j (f n s).fab) (hs : LinkDown j s.fab) : LinkDown j (each l f s).fab :=
  each_keeps (P := fun t => LinkDown j t.fab) (fun n _ t => h n t) hs

@[simp] theorem gated_linkDown (code src : Nat) (body : Bytes) (g : Gate) (eff : State → State) (s : State)
    (h : ∀ s, LinkDown j s.fab → LinkDown j (eff s).fab) (hs : LinkDown j s.fab) : LinkDown j (gated code src body g eff s).fab := by
  unfold gated
  dsimp only
  (repeat' split) <;> simp -implicitDefEqProofs [h, hs]

@[simp] theorem upEp_linkDown (n : Nat) (f : Ep → Ep) (s : State) (h : ∀ e, e.link = false → (f e).link = false)
    (hs : LinkDown j s.fab) : LinkDown j (upEp n f s).fab := by
  rw [LinkDown, upEp, upFab_fab, tabGet_tabSet]
  split
  · next h' => exact h _ (h' ▸ hs)
  · exact hs

/-- An endpoint whose change brings its link down has it down. -/
theorem upEp_link_self (n : Nat) (f : Ep → Ep) (s : State) (h : ∀ e, (f e).link = false) : LinkDown n (upEp n f s).fab := by
  rw [LinkDown, upEp, upFab_fab, tabGet_tabSet_self]
  exact h _

@[simp] theorem linkDrop_linkDown (p : Nat) (s : State) : LinkDown j (linkDrop p s).fab ↔ LinkDown j s.fab := Iff.rfl

@[simp] theorem endMediation_linkDown (p : Nat) (s : State) : LinkDown j (endMediation p s).fab ↔ LinkDown j s.fab := Iff.rfl

@[simp] theorem aerReport_linkDown (p n : Nat) (s : State) : LinkDown j (aerReport p n s).fab ↔ LinkDown j s.fab := Iff.rfl

@[simp] theorem dropHeld_linkDown (p : Nat) (s : State) : LinkDown j (dropHeld p s).fab ↔ LinkDown j s.fab := Iff.rfl

@[simp] theorem epUnvat_linkDown (n : Nat) (s : State) (hs : LinkDown j s.fab) : LinkDown j (epUnvat n s).fab := by
  simp [epUnvat, hs]

@[simp] theorem epSealIt_linkDown (n : Nat) (s : State) (hs : LinkDown j s.fab) : LinkDown j (epSealIt n s).fab := by
  simp [epSealIt, hs]

@[simp] theorem startRecheck_linkDown (k : AttKind) (n : Nat) (s : State) (hs : LinkDown j s.fab) :
    LinkDown j (startRecheck k n s).fab := by
  simp [startRecheck, hs]

@[simp] theorem epContain_linkDown (f : Causes → Causes) (n : Nat) (s : State) (hs : LinkDown j s.fab) :
    LinkDown j (epContain f n s).fab := by
  simp [epContain, hs]

@[simp] theorem epRecheck_linkDown (f : Causes → Causes) (wait : Bool) (n : Nat) (s : State) (hs : LinkDown j s.fab) :
    LinkDown j (epRecheck f wait n s).fab := by
  unfold epRecheck
  dsimp only
  split <;> simp [hs]

@[simp] theorem epOpen_linkDown (n : Nat) (s : State) (hs : LinkDown j s.fab) : LinkDown j (epOpen n s).fab := by
  unfold epOpen
  dsimp only
  (repeat' split) <;> simp -implicitDefEqProofs [hs]

@[simp] theorem epRelease_linkDown (d n : Nat) (s : State) (hs : LinkDown j s.fab) : LinkDown j (epRelease d n s).fab := by
  have h1 : LinkDown j (upEp n (fun e => { e with releaseDue := true, att := none, epWait := false, configuring := false }) s).fab := by
    simp [hs]
  unfold epRelease
  dsimp only
  split
  · exact h1
  · exact gated_linkDown _ _ _ _ _ _ (epOpen_linkDown n) h1

@[simp] theorem domUnslot_linkDown (d : Nat) (s : State) (hs : LinkDown j s.fab) : LinkDown j (domUnslot d s).fab := by
  refine each_linkDown _ _ _ epSealIt_linkDown (each_linkDown _ _ _ (fun n t ht => ?_) (by simpa using hs))
  exact upEp_linkDown n _ t (fun _ h => h) ht

@[simp] theorem domLost_linkDown (d : Nat) (s : State) (hs : LinkDown j s.fab) : LinkDown j (domLost d s).fab := by
  simp [domLost, hs]

@[simp] theorem holdDom_linkDown (cause : Nat) (final : Bool) (d : Nat) (s : State) (hs : LinkDown j s.fab) :
    LinkDown j (holdDom cause final d s).fab := by
  unfold holdDom
  dsimp only
  split <;> simp -implicitDefEqProofs [hs]

@[simp] theorem cascade_linkDown (n : Nat) (s : State) (hs : LinkDown j s.fab) : LinkDown j (cascade n s).fab := by
  induction n generalizing s with
  | zero => exact hs
  | succ n ih =>
    unfold cascade
    dsimp only
    split
    · exact hs
    · exact ih _ (each_linkDown _ _ _ (fun n t => holdDom_linkDown 2 false n t) hs)

@[simp] theorem releaseDom_linkDown (d : Nat) (s : State) (hs : LinkDown j s.fab) : LinkDown j (releaseDom d s).fab :=
  each_linkDown _ _ _ (fun n t => epRelease_linkDown d n t) hs

@[simp] theorem interlock_linkDown (n : Nat) (s : State) (hs : LinkDown j s.fab) : LinkDown j (interlock n s).fab := by
  induction n generalizing s with
  | zero => exact hs
  | succ n ih =>
    unfold interlock
    dsimp only
    split
    · exact hs
    · exact ih _ (each_linkDown _ _ _ releaseDom_linkDown hs)

@[simp] theorem vioHold_linkDown (s : State) (hs : LinkDown j s.fab) : LinkDown j (vioHold s).fab := by
  unfold vioHold
  split
  · exact hs
  · exact each_linkDown _ _ _ (fun n t => holdDom_linkDown 8 false n t) hs

@[simp] theorem vatWithdraw_linkDown (s : State) (hs : LinkDown j s.fab) : LinkDown j (vatWithdraw s).fab :=
  each_linkDown _ _ _ epUnvat_linkDown hs

@[simp] theorem vatRelease_linkDown (s : State) (hs : LinkDown j s.fab) : LinkDown j (vatRelease s).fab := by
  refine each_linkDown _ _ _ (fun n t ht => ?_) hs
  split <;> simp [ht]

@[simp] theorem vatGrant_linkDown (s : State) (hs : LinkDown j s.fab) : LinkDown j (vatGrant s).fab :=
  each_linkDown _ _ _ (fun n t ht => upEp_linkDown n _ t (fun _ h => h) ht) hs

@[simp] theorem recheckGo_linkDown (s : State) (hs : LinkDown j s.fab) : LinkDown j (recheckGo s).fab :=
  each_linkDown _ _ _ (fun n t => epRecheck_linkDown id _ n t) hs

/-- Settling brings no link up. -/
theorem settle_linkDown {s : State} (hs : LinkDown j s.fab) : LinkDown j (settle s).fab := by
  unfold settle
  split
  · exact hs
  · simp only [highAlert_fab, brClose_fab, vaultSync_fab, phaseStep_fab, finalCascade_fab]
    exact recheckGo_linkDown _ (vatGrant_linkDown _ (vatRelease_linkDown _ (interlock_linkDown 33 _
      (vatWithdraw_linkDown _ (cascade_linkDown 33 _ (vioHold_linkDown _ hs))))))

@[simp] theorem tripDom_linkDown (d : Nat) (s : State) (hs : LinkDown j s.fab) : LinkDown j (tripDom d s).fab := by
  unfold tripDom
  dsimp only
  split <;> simp -implicitDefEqProofs [hs]

end Sys2Proof.Machine
end

section
/-!
PROOF. A Custody Trip holds every TRIP_HOLD domain at once and brings every downstream link down (R49, R116, R118), and an output of no
domain stays low (R23).
-/
namespace Sys2Proof.Machine

open Sys2Proof

variable {s : State} {d : Nat}

/-- Only a listed domain carries TRIP_HOLD. -/
theorem mem_domsListed_of_tripHold (h : tripHold s d = true) : d ∈ domsListed s := by
  rcases cellsGet_mem 0 d s.mor.attr.cells with h0 | hm
  · have hz : domAttr s d = 0 := h0
    simp [tripHold, hz] at h
  · exact List.mem_map.2 ⟨_, hm, rfl⟩

theorem mem_tripList (h : tripHold s d = true) (hd : domSt s d ≠ .tripHeld) : d ∈ tripList s := by
  simp [tripList, mem_domsListed_of_tripHold h, h, hd]

theorem tripDom_domSt (n : Nat) (s : State) : domSt (tripDom n s) d = if d = n then .tripHeld else domSt s d := by
  have h : (tripDom n s).mor.dom = tabSet .held s.mor.dom n .tripHeld := by
    unfold tripDom
    dsimp only
    split
    · exact congrArg Prod.fst ((congrArg domPart (domProtoReset_mor n _)).trans (domUnslot_domPart n _))
    · exact congrArg Prod.fst (domUnslot_domPart n _)
  rw [domSt, h, tabGet_tabSet]
  rfl

/-- A trip holds a domain that it lists, and one that is TRIP_HELD already. -/
theorem each_tripDom_domSt {l : List Nat} (h : d ∈ l ∨ domSt s d = .tripHeld) : domSt (each l tripDom s) d = .tripHeld := by
  have hk : ∀ n ∈ l, ∀ t, domSt t d = .tripHeld → domSt (tripDom n t) d = .tripHeld := by
    intro n _ t ht
    rw [tripDom_domSt, ht, ite_self]
  rcases h with h | h
  · exact each_makes s h (fun t => by rw [tripDom_domSt, if_pos rfl]) hk
  · exact each_keeps hk h

theorem settle_tripHeld (h : domSt s d = .tripHeld) : domSt (settle s) d = .tripHeld :=
  (settle_withheld (x := .tripHeld) ⟨h, by simp, by simp⟩).1

/-- A trip has acted on the domains, and everything has followed. -/
def tripActed (s : State) : State := settle (each (tripList s) tripDom s)

/-- After a trip has acted, every TRIP_HOLD domain is TRIP_HELD. -/
theorem tripActed_domSt (h : tripHold s d = true) : domSt (tripActed s) d = .tripHeld := by
  refine settle_tripHeld (each_tripDom_domSt ?_)
  by_cases hd : domSt s d = .tripHeld
  · exact .inr hd
  · exact .inl (mem_tripList h hd)

theorem tripActed_unmoved (s : State) : unmoved (tripActed s).mor = unmoved s.mor := by
  simp [tripActed]

theorem tripActed_tripHold (s : State) (d : Nat) : tripHold (tripActed s) d = tripHold s d := tripHold_of_unmoved (tripActed_unmoved s) d

theorem tripActed_outDom (s : State) (o : Nat) : outDom (tripActed s) o = outDom s o := outDom_of_unmoved (tripActed_unmoved s) o

theorem tripActed_trip (s : State) : (tripActed s).mor.trip = s.mor.trip := by
  simp [tripActed]

theorem tripActed_linkDown {j : Nat} (hs : LinkDown j s.fab) : LinkDown j (tripActed s).fab :=
  settle_linkDown (each_linkDown _ _ _ tripDom_linkDown hs)

/-- An output of a TRIP_HOLD domain is low while a trip is shown (R118). -/
theorem outLevel_tripHold {o : Nat} (ht : s.mor.trip = true) (h : tripHold s d = true) (ho : outDom s o = some d) :
    outLevel s o = false := by
  have hoff : outOn s o = false := by simp [outOn, ho, ht, h]
  unfold outLevel pad
  split
  · rfl
  · simp [hoff]

/-- Every downstream transmitter is in electrical idle: no endpoint's link stays up (R118). -/
theorem tripGate_linkDown {j : Nat} (hj : j ∈ epsAll s) : LinkDown j (tripGate s).fab :=
  each_makes (P := fun t => LinkDown j t.fab) _ hj (fun t => upEp_link_self j _ t (fun _ => rfl))
    (fun n _ t ht => upEp_linkDown n _ t (fun _ _ => rfl) ht)

/-- The first trip of its time is shown, before it acts on the gate and the domains. -/
def tripShown (src : Nat) (s : State) : State :=
  upMor (fun m => { m with
    tripNotes := m.tripNotes ++ [⟨src, maskOf 32 (tripList s), !m.trip⟩], trip := true, asyncTrip := !clocked s }) s

/-- A trip that comes with the clock acts at once, on the gate and on the domains. -/
theorem custodyTrip_of_clocked (src : Nat) (hc : clocked s = true) (ht : s.mor.trip = false) :
    custodyTrip src s = tripActed (tripGate (tripShown src s)) := by
  have hl : s.mor.latched = true := latched_of_clocked hc
  have hg : tripList (tripGate (tripShown src s)) = tripList s := by
    unfold tripList domsListed tripHold domAttr domSt
    rw [tripGate_mor]
    rfl
  rw [tripActed, hg]
  simp [custodyTrip, hl, ht, hc, tripShown]
  rfl

/-- After both oscillators have stopped, oscillator b resumes. -/
def resumedOn (b : Bool) (s : State) : State :=
  upMor (fun m => { m with aocSel := b, asyncTrip := false })
    (upMor (fun m => if b then { m with aocB := true } else { m with aocA := true }) s)

@[simp] theorem resumedOn_trip (b : Bool) (s : State) : (resumedOn b s).mor.trip = s.mor.trip := by
  cases b <;> rfl

/-- A trip that came with no clock acts on the domains when a clock resumes (R514). -/
theorem aocResumed_of_trip (b : Bool) (hv : s.mor.vsec = true) (ha : s.mor.aocA = false) (hb : s.mor.aocB = false)
    (ht : s.mor.trip = true) : exec (.aocResumed b) s = done (tripActed (resumedOn b s)) := by
  have hg : (s.mor.vsec && !(if b then s.mor.aocB else s.mor.aocA)) = true := by simp [hv, ha, hb]
  have hboth : (!s.mor.aocA && !s.mor.aocB) = true := by simp [ha, hb]
  have ht2 : (resumedOn b s).mor.trip = true := (resumedOn_trip b s).trans ht
  simp only [exec, execAocResumed, when_of_true hg, if_pos hboth]
  exact congrArg done (congrArg settle (if_pos ht2))

/-- Settles O14: the trip acts on every TRIP_HOLD domain in its own step, and settling releases none of them and brings no link up. -/
theorem tripActs : Obligations.TripActs := by
  unfold Obligations.TripActs
  refine ⟨?_, ?_, ?_⟩
  · intro s ⟨hr, hc, ht⟩
    have ha : aocRuns s = true := aocRuns_of_clocked hc
    have hm : (tripGate (tripShown 8 s)).mor = (tripShown 8 s).mor := tripGate_mor _
    have hold : ∀ d, tripHold s d = true → tripHold (tripGate (tripShown 8 s)) d = true := fun d h =>
      (tripHold_of_unmoved (congrArg unmoved hm) d).trans h
    have hout : ∀ o, outDom (tripGate (tripShown 8 s)) o = outDom s o := outDom_of_unmoved (s := tripShown 8 s) (congrArg unmoved hm)
    have htrip : (tripActed (tripGate (tripShown 8 s))).mor.trip = true := (tripActed_trip _).trans (congrArg Mordant.trip hm)
    refine ⟨say .none (tripActed (tripGate (tripShown 8 s))), ?_, htrip, fun d hd => ⟨?_, fun o ho => ?_⟩, fun j hj => ?_⟩
    · simp only [exec, execTripReqWrite, when_of_true hr, tripReq, mordantAccess, if_pos ha, if_true, custodyTrip_of_clocked 8 hc ht]
      rfl
    · exact tripActed_domSt (hold d hd)
    · exact outLevel_tripHold (s := say .none _) htrip ((tripActed_tripHold _ d).trans (hold d hd))
        ((tripActed_outDom _ o).trans ((hout o).trans ho))
    · exact tripActed_linkDown (tripGate_linkDown (s := tripShown 8 s) hj)
  · intro v s ⟨hr, ha, hv⟩
    have ha : aocRuns s = true := by simpa [aocRuns] using ha
    simp only [exec, execTripReqWrite, when_of_true hr, tripReq, mordantAccess, if_pos ha, if_neg hv]
    rfl
  · intro b s ⟨hv, hl, ha, hb, ht⟩
    refine ⟨_, aocResumed_of_trip b hv ha hb ht, (tripActed_trip _).trans ((resumedOn_trip b s).trans ht), fun _ _ d hd h => ?_⟩
    have hh : domSt (tripActed (resumedOn b s)) d = .tripHeld := tripActed_domSt ((tripActed_tripHold _ d).symm.trans hd)
    exact DomState.noConfusion (h.symm.trans hh)

/-- Settles O7: the Mordant enables an output for its domain alone. -/
theorem unassignedOutputsStayLow : Obligations.UnassignedOutputsStayLow := by
  unfold Obligations.UnassignedOutputsStayLow
  exact ⟨fun s o h => outLevel_unassigned h, fun s o d e ⟨hd, he⟩ => Option.some.inj (hd.symm.trans he)⟩

end Sys2Proof.Machine
end

section
/-!
PROOF. The record of a trip, hold requests and release requests (R31, R105, R106, R111, R119).
-/
namespace Sys2Proof.Machine

open Sys2Proof

variable {s : State} {d : Nat}

/-! ### TRIP_SEQ is written by TRIP_RECORD alone -/

theorem evReportSuppressed_tripSeq (code : Nat) (e : Evid) : (evReportSuppressed code e).tripSeq = e.tripSeq := by
  unfold evReportSuppressed
  split <;> rfl

theorem evTake_tripSeq (code src : Nat) (body : Bytes) (e : Evid) : (evSubmit.evTake code src body e).tripSeq = e.tripSeq := by
  unfold evSubmit.evTake
  split <;> rfl

theorem takeToken_tripSeq (now : Nat) (rate : Nat → Nat × Nat) (code : Nat) (e : Evid) :
    (takeToken now rate code e).1.tripSeq = e.tripSeq := by
  unfold takeToken
  dsimp only
  split <;> rfl

theorem evSubmit_tripSeq (now : Nat) (rate : Nat → Nat × Nat) (code src : Nat) (body : Bytes) (e : Evid) :
    (evSubmit now rate code src body e).tripSeq = e.tripSeq := by
  have ht := takeToken_tripSeq now rate code e
  unfold evSubmit
  dsimp only
  split
  · split
    · exact ht
    · rw [evTake_tripSeq, evReportSuppressed_tripSeq, ht]
  · exact evTake_tripSeq code src body e

theorem emit_tripSeq (code src : Nat) (body : Bytes) (s : State) : (emit code src body s).ev.tripSeq = s.ev.tripSeq := by
  unfold emit
  split
  · exact evSubmit_tripSeq ..
  · rfl

/-- The state once the record takes its note: the note's source is shown, and TRIP_SEQ counts the note that set the trip. -/
def tripTaken (n : TripNote) (r : List TripNote) (s : State) : State :=
  upEv (fun e => { e with tripSeq := e.tripSeq + (if n.first then 1 else 0) })
    (upMor (fun m => { m with tripNotes := r, tripSrc := n.src }) s)

theorem exec_tripRecord {n : TripNote} {r : List TripNote} (hn : s.mor.tripNotes = n :: r) (hm : s.sc.mainGood = true)
    (hd : s.sc.selfTestDue = false) (ho : s.sc.holdOnly = false) (ha : s.mor.aocA = true) :
    exec .tripRecord s = done (emit 0x0007 2 (le 1 n.src ++ le 3 0 ++ le 4 n.heldMask.toNat ++ le 8 (tripTaken n r s).ev.tripSeq)
      (tripTaken n r s)) := by
  cases hf : n.first <;> simp [exec, execTripRecord, hn, hm, hd, ho, ha, hf, when, tripTaken, upEv, upMor]

/-! ### A hold request -/

theorem mem_bitsOf {w : Nat} (v : BitVec w) (i : Nat) : i ∈ bitsOf v ↔ i < w ∧ v.getLsbD i = true := by
  simp [bitsOf]

/-- A released domain whose hold is acted on is HELD, with no release request. -/
theorem holdDom_holds (cause : Nat) (final : Bool) (h : domSt s d = .released) (ha : aocRuns s = true) :
    Withheld d .held (holdDom cause final d s).mor := by
  have hd := holdDom_domPart cause final d h ha
  have hdom : (holdDom cause final d s).mor.dom = _ := congrArg Prod.fst hd
  have hreq : (holdDom cause final d s).mor.relReq = _ := congrArg Prod.snd hd
  rw [Withheld, hdom, hreq]
  exact ⟨tabGet_tabSet_self .., by simp, fun _ => getLsbD_putBit_false_self _ d⟩

@[simp] theorem aocRuns_holdDom (cause : Nat) (final : Bool) (n : Nat) (s : State) : aocRuns (holdDom cause final n s) = aocRuns s := by
  have h := holdDom_unmoved cause final n s
  have ha : (holdDom cause final n s).mor.aocA = s.mor.aocA := (congrArg Mordant.aocA h :)
  have hb : (holdDom cause final n s).mor.aocB = s.mor.aocB := (congrArg Mordant.aocB h :)
  rw [aocRuns, aocRuns, ha, hb]

/-- A hold of another domain leaves D_d as it is. -/
theorem holdDom_domSt_ne (cause : Nat) (final : Bool) {n : Nat} (hn : d ≠ n) (s : State) :
    domSt (holdDom cause final n s) d = domSt s d := by
  rcases holdDom_cases cause final n s with hs | ⟨h, ha⟩
  · rw [hs]
  · have hd : (holdDom cause final n s).mor.dom = _ := congrArg Prod.fst (holdDom_domPart cause final n h ha)
    rw [domSt, hd, tabGet_tabSet_ne _ _ _ _ _ hn]
    rfl

/-- Of the domains that a hold request names, each that is released is HELD. -/
theorem each_holdDom_holds {l : List Nat} (cause : Nat) (final : Bool) (hl : d ∈ l) (h : domSt s d = .released) (ha : aocRuns s = true) :
    Withheld d .held (each l (holdDom cause final) s).mor := by
  induction l generalizing s with
  | nil => simp at hl
  | cons n l ih =>
    rw [each_cons]
    by_cases hn : d = n
    · subst hn
      exact each_keeps (P := fun t => Withheld d .held t.mor) (fun m _ t ht => holdDom_withheld cause final m ht)
        (holdDom_holds cause final h ha)
    · refine ih ?_ ?_ ?_
      · exact (List.mem_cons.1 hl).resolve_left hn
      · rw [holdDom_domSt_ne cause final hn, h]
      · rw [aocRuns_holdDom, ha]

/-! ### A release request for one domain -/

theorem bitsOf_one_shiftLeft : ∀ d : Fin 32, bitsOf (BitVec.ofNat 32 1 <<< d.val) = [d.val] := by decide

theorem mem_bitsOf_one_shiftLeft {n : Nat} (h : n ∈ bitsOf (BitVec.ofNat 32 1 <<< d)) : n = d := by
  obtain ⟨hn, hb⟩ := (mem_bitsOf _ n).1 h
  rw [BitVec.getLsbD_shiftLeft, BitVec.getLsbD_ofNat] at hb
  simp [Nat.testBit_one_eq_true_iff_self_eq_zero] at hb
  omega

/-- A record that is durable at once has its effect at once (R31). -/
theorem gated_of_durableNow {code src : Nat} {body : Bytes} {g : Gate} (eff : State → State) (h : durableNow s code src body g = true) :
    gated code src body g eff s = eff (recorded s code src body g) := by
  obtain ⟨hp, hw⟩ := Bool.and_eq_true_iff.1 h
  unfold gated
  rw [if_pos hp]
  exact if_pos hw

theorem exec_releaseRequest (mask : BitVec 32) (hf : fwRuns s = true) (ha : s.mor.aocA = true) :
    exec (.releaseRequest mask) s = done (relEvaluate ((bitsOf mask).filter (fun d => !s.mor.relReq.getLsbD d && relAble s d))
      (each ((bitsOf mask).filter (fun d => !s.mor.relReq.getLsbD d && relAble s d))
        (fun d s => gated 0x0004 1 (releasedBody s d) (.relReq d) (relReqBit d) s) s)) := by
  have hr : aocRuns s = true := by simp [aocRuns, ha]
  simp only [exec, execReleaseRequest, when_of_true hf, releaseReq, mordantAccess, if_pos hr]

/-- Settles O15: each request is acted on in its own step, and settling releases no domain that is HELD without a request. -/
theorem tripRecordAndRequests : Obligations.TripRecordAndRequests := by
  unfold Obligations.TripRecordAndRequests
  refine ⟨?_, ?_, ?_, ?_⟩
  · intro s n r ⟨hn, hm, hd, ho, ha, hp⟩
    exact ⟨_, exec_tripRecord hn hm hd ho ha, emit_mor .., emit_tripSeq .., emit_otp .., emit_fab ..⟩
  · intro m s d ⟨hr, hc, hd, hm, hs⟩
    have ha : aocRuns s = true := aocRuns_of_clocked hc
    have hw : Withheld d .held (settle (each (bitsOf m) (holdDom 1 false) s)).mor :=
      settle_withheld (each_holdDom_holds 1 false ((mem_bitsOf m d).2 ⟨hd, hm⟩) hs ha)
    obtain ⟨hst, hne, hreq⟩ := hw
    refine ⟨say .none (settle (each (bitsOf m) (holdDom 1 false) s)), ?_, ?_, hreq rfl, ?_⟩
    · simp only [exec, execHoldRequest, when_of_true hr, holdReq, mordantAccess, if_pos ha]
      rfl
    · exact fun h => hne (hst.symm.trans h)
    · simp
  · intro d s ⟨hf, ha, hd, hb, hr, hn⟩
    have hl : (bitsOf (BitVec.ofNat 32 1 <<< d)).filter (fun d => !s.mor.relReq.getLsbD d && relAble s d) = [d] := by
      simp [bitsOf_one_shiftLeft ⟨d, hd⟩, hb, hr]
    rw [exec_releaseRequest _ hf ha, hl, each_cons, gated_of_durableNow (relReqBit d) hn]
    rfl
  · intro d s ⟨hf, ha, hr⟩
    have hl : (bitsOf (BitVec.ofNat 32 1 <<< d)).filter (fun d => !s.mor.relReq.getLsbD d && relAble s d) = [] := by
      refine List.filter_eq_nil_iff.2 (fun n hn => ?_)
      rw [mem_bitsOf_one_shiftLeft hn, hr]
      simp
    rw [exec_releaseRequest _ hf ha, hl]
    exact ⟨rfl, rfl⟩

end Sys2Proof.Machine
end

section
/-!
PROOF. What VIO banks that become good, fail or fall low do, and what the output pads show (R18, R23, R77, R80, R94, R213).
-/
namespace Sys2Proof.Machine

open Sys2Proof

/-! ### What leaves the custody channels as they are -/

@[simp] theorem each_chans (l : List Nat) (f : Nat → State → State) (s : State) (h : ∀ n s, (f n s).chans = s.chans) :
    (each l f s).chans = s.chans := by
  unfold each
  induction l generalizing s with
  | nil => rfl
  | cons a r ih => simp [ih, h]

@[simp] theorem foldl_chans {α : Type} (l : List α) (f : State → α → State) (s : State) (h : ∀ s n, (f s n).chans = s.chans) :
    (l.foldl f s).chans = s.chans := by
  induction l generalizing s with
  | nil => rfl
  | cons a r ih => simp [ih, h]

@[simp] theorem gated_chans (code src : Nat) (body : Bytes) (g : Gate) (eff : State → State) (s : State)
    (h : ∀ s, (eff s).chans = s.chans) : (gated code src body g eff s).chans = s.chans := by
  unfold gated
  dsimp only
  (repeat' split) <;> simp [h]

@[simp] theorem say_chans (r : Reply) (s : State) : (say r s).chans = s.chans := by
  simp [say]

@[simp] theorem emit_chans (code src : Nat) (body : Bytes) (s : State) : (emit code src body s).chans = s.chans := by
  unfold emit
  (repeat' split) <;> simp

@[simp] theorem emitFw_chans (code : Nat) (body : Bytes) (s : State) : (emitFw code body s).chans = s.chans := by
  unfold emitFw
  (repeat' split) <;> simp

@[simp] theorem setPair_chans (k : Nat) (v : BitVec 32) (s : State) : (setPair k v s).chans = s.chans := by
  unfold setPair
  (repeat' split) <;> simp

@[simp] theorem upImg_chans (k : Nat) (f : Img → Img) (s : State) : (upImg k f s).chans = s.chans := by
  simp [upImg]

@[simp] theorem upEm_chans (k : Nat) (f : EmDev → EmDev) (s : State) : (upEm k f s).chans = s.chans := by
  simp [upEm]

@[simp] theorem domProtoReset_chans (d : Nat) (s : State) : (domProtoReset d s).chans = s.chans := by
  unfold domProtoReset
  (repeat' split) <;> simp

@[simp] theorem upEp_chans (j : Nat) (f : Ep → Ep) (s : State) : (upEp j f s).chans = s.chans := by
  simp [upEp]

@[simp] theorem upCbus_chans (i : Nat) (f : CbusComp → CbusComp) (s : State) : (upCbus i f s).chans = s.chans := by
  simp [upCbus]

@[simp] theorem aerReport_chans (port n : Nat) (s : State) : (aerReport port n s).chans = s.chans := by
  simp [aerReport]

@[simp] theorem dropHeld_chans (port : Nat) (s : State) : (dropHeld port s).chans = s.chans := by
  simp [dropHeld]

@[simp] theorem endMediation_chans (port : Nat) (s : State) : (endMediation port s).chans = s.chans := by
  simp [endMediation]

@[simp] theorem linkDrop_chans (port : Nat) (s : State) : (linkDrop port s).chans = s.chans := by
  simp [linkDrop]

@[simp] theorem epUnvat_chans (j : Nat) (s : State) : (epUnvat j s).chans = s.chans := by
  simp [epUnvat]

@[simp] theorem epSealIt_chans (j : Nat) (s : State) : (epSealIt j s).chans = s.chans := by
  simp [epSealIt]

@[simp] theorem startRecheck_chans (k : AttKind) (j : Nat) (s : State) : (startRecheck k j s).chans = s.chans := by
  simp [startRecheck]

@[simp] theorem emitContained_chans (j : Nat) (s : State) : (emitContained j s).chans = s.chans := by
  simp [emitContained]

@[simp] theorem epContain_chans (f : Causes → Causes) (j : Nat) (s : State) : (epContain f j s).chans = s.chans := by
  simp [epContain]

@[simp] theorem epRecheck_chans (f : Causes → Causes) (wait : Bool) (j : Nat) (s : State) : (epRecheck f wait j s).chans = s.chans := by
  unfold epRecheck
  (repeat' split) <;> simp

@[simp] theorem epOpen_chans (j : Nat) (s : State) : (epOpen j s).chans = s.chans := by
  unfold epOpen
  dsimp only
  (repeat' split) <;> simp [*]

@[simp] theorem heldRecord_chans (d cause : Nat) (final : Bool) (s : State) : (heldRecord d cause final s).chans = s.chans := by
  simp [heldRecord]

@[simp] theorem clearSlots_chans (d : Nat) (s : State) : (clearSlots d s).chans = s.chans := by
  simp [clearSlots]

@[simp] theorem imgAgain_chans (k : Nat) (s : State) : (imgAgain k s).chans = s.chans := by
  simp [imgAgain]

@[simp] theorem domUnslot_chans (d : Nat) (s : State) : (domUnslot d s).chans = s.chans := by
  simp [domUnslot]

@[simp] theorem domLost_chans (d : Nat) (s : State) : (domLost d s).chans = s.chans := by
  simp [domLost]

@[simp] theorem holdDom_chans (cause : Nat) (final : Bool) (d : Nat) (s : State) : (holdDom cause final d s).chans = s.chans := by
  unfold holdDom
  (repeat' split) <;> simp

@[simp] theorem cascade_chans (n : Nat) (s : State) : (cascade n s).chans = s.chans := by
  induction n generalizing s with
  | zero => rfl
  | succ n ih =>
    unfold cascade
    dsimp only
    split <;> simp [ih]

@[simp] theorem markFinal_chans (cause d : Nat) (s : State) : (markFinal cause d s).chans = s.chans := by
  unfold markFinal
  (repeat' split) <;> simp

@[simp] theorem holdFinal_chans (cause d : Nat) (s : State) : (holdFinal cause d s).chans = s.chans := by
  unfold holdFinal
  (repeat' split) <;> simp

@[simp] theorem finalCascade_chans (n : Nat) (s : State) : (finalCascade n s).chans = s.chans := by
  induction n generalizing s with
  | zero => rfl
  | succ n ih =>
    unfold finalCascade
    dsimp only
    split <;> simp [ih]

@[simp] theorem epRelease_chans (d j : Nat) (s : State) : (epRelease d j s).chans = s.chans := by
  unfold epRelease
  (repeat' split) <;> simp

@[simp] theorem releaseDom_chans (d : Nat) (s : State) : (releaseDom d s).chans = s.chans := by
  simp [releaseDom]

@[simp] theorem interlock_chans (n : Nat) (s : State) : (interlock n s).chans = s.chans := by
  induction n generalizing s with
  | zero => rfl
  | succ n ih =>
    unfold interlock
    dsimp only
    split <;> simp [ih]

@[simp] theorem vioHold_chans (s : State) : (vioHold s).chans = s.chans := by
  unfold vioHold
  (repeat' split) <;> simp

@[simp] theorem vatWithdraw_chans (s : State) : (vatWithdraw s).chans = s.chans := by
  simp [vatWithdraw]

@[simp] theorem vatRelease_chans (s : State) : (vatRelease s).chans = s.chans := by
  unfold vatRelease
  apply each_chans
  intro j s
  try dsimp only
  split <;> simp

@[simp] theorem vatGrant_chans (s : State) : (vatGrant s).chans = s.chans := by
  simp [vatGrant]

@[simp] theorem recheckGo_chans (s : State) : (recheckGo s).chans = s.chans := by
  simp [recheckGo]

@[simp] theorem phaseStep_chans (s : State) : (phaseStep s).chans = s.chans := by
  simp [phaseStep]

@[simp] theorem brClose_chans (s : State) : (brClose s).chans = s.chans := by
  unfold brClose
  (repeat' split) <;> simp

@[simp] theorem lateAnswer_chans (b : Bool) (cmd flags result : Nat) (body : Bytes) (s : State) :
    (lateAnswer b cmd flags result body s).chans = s.chans := by
  unfold lateAnswer
  (repeat' split) <;> simp

@[simp] theorem nvmeDrop_chans (s : State) : (nvmeDrop s).chans = s.chans := by
  unfold nvmeDrop
  refine (foldl_chans _ _ _ ?_).trans (by simp)
  intro s c
  try dsimp only
  split <;> simp

@[simp] theorem vaultSet_chans (st : VaultState) (code cause : Nat) (s : State) : (vaultSet st code cause s).chans = s.chans := by
  unfold vaultSet
  (repeat' split) <;> simp

@[simp] theorem nvmeIssue_chans (l : List NvmeUse) (s : State) : (nvmeIssue l s).chans = s.chans := by
  simp [nvmeIssue]

@[simp] theorem vaultSync_chans (s : State) : (vaultSync s).chans = s.chans := by
  unfold vaultSync
  dsimp only
  (repeat' split) <;> simp [*]

@[simp] theorem alertBoth_chans (s : State) : (alertBoth s).chans = s.chans := by
  simp [alertBoth]

@[simp] theorem tempAlert_chans (s : State) : (tempAlert s).chans = s.chans := by
  unfold tempAlert
  (repeat' split) <;> simp

@[simp] theorem highAlert_chans (s : State) : (highAlert s).chans = s.chans := by
  unfold highAlert
  (repeat' split) <;> simp

@[simp] theorem settle_chans (s : State) : (settle s).chans = s.chans := by
  unfold settle
  (repeat' split) <;> simp

@[simp] theorem mordantWrite_chans (f : State → State) (s : State) (h : ∀ s, (f s).chans = s.chans) :
    (mordantWrite f s).chans = s.chans := by
  unfold mordantWrite
  split
  · exact h s
  · simp

@[simp] theorem imgFinal_chans (cause slot : Nat) (s : State) : (imgFinal cause slot s).chans = s.chans := by
  simp [imgFinal]

@[simp] theorem chanLost_chans (k : Nat) (s : State) : (chanLost k s).chans = s.chans := by
  simp [chanLost]

@[simp] theorem failStreams_chans (k : Nat) (s : State) : (failStreams k s).chans = s.chans := by
  simp [failStreams]

@[simp] theorem fillStop_chans (k : Nat) (s : State) : (fillStop k s).chans = s.chans := by
  unfold fillStop
  (repeat' split) <;> simp

@[simp] theorem lakeOutHold_chans (s : State) : (lakeOutHold s).chans = s.chans := by
  unfold lakeOutHold
  dsimp only
  (repeat' split) <;> simp [*]

@[simp] theorem cfgWrite_chans (f : CfgFlash → CfgFlash) (s : State) : (cfgWrite f s).chans = s.chans := by
  unfold cfgWrite
  (repeat' split) <;> simp

@[simp] theorem putDir_chans (second : Bool) (d : DirCopy) (s : State) : (putDir second d s).chans = s.chans := by
  simp [putDir]

@[simp] theorem breakDir_chans (s : State) : (breakDir s).chans = s.chans := by
  simp [breakDir]

@[simp] theorem rewriteDir_chans (f : BootDir → BootDir) (s : State) : (rewriteDir f s).chans = s.chans := by
  simp [rewriteDir]

@[simp] theorem putComponent_chans (c : Component) (b : Bool) (s : State) : (putComponent c b s).chans = s.chans := by
  unfold putComponent
  (repeat' split) <;> simp

@[simp] theorem dropComponent_chans (c : Component) (b : Bool) (s : State) : (dropComponent c b s).chans = s.chans := by
  unfold dropComponent
  (repeat' split) <;> simp

@[simp] theorem pushedRecord_chans (c : Component) (slot : Bool) (outcome : Nat) (g : Gate) (eff : State → State) (s : State)
    (h : ∀ s, (eff s).chans = s.chans) : (pushedRecord c slot outcome g eff s).chans = s.chans := by
  unfold pushedRecord
  split
  · exact h s
  · exact gated_chans _ _ _ _ _ _ h

@[simp] theorem promoted_chans (c : Component) (cleared : Bool) (s : State) : (promoted c cleared s).chans = s.chans := by
  unfold promoted
  (repeat' split) <;> simp

@[simp] theorem promote_chans (c : Component) (copied cleared : Bool) (s : State) : (promote c copied cleared s).chans = s.chans := by
  unfold promote
  (repeat' split) <;> simp

@[simp] theorem romLock_chans (p : PolicyImage) (s : State) : (romLock p s).chans = s.chans := by
  simp [romLock]

@[simp] theorem bayHolds_chans (s : State) : (bayHolds s).chans = s.chans := by
  unfold bayHolds
  apply each_chans
  intro n s
  split <;> simp

@[simp] theorem finishPromotions_chans (s : State) : (finishPromotions s).chans = s.chans := by
  unfold finishPromotions
  (repeat' split) <;> simp

@[simp] theorem refreshDir_chans (s : State) : (refreshDir s).chans = s.chans := by
  unfold refreshDir
  (repeat' split) <;> simp

@[simp] theorem cbusStart_chans (found : List (Nat × Nat)) (s : State) : (cbusStart found s).chans = s.chans := by
  unfold cbusStart
  dsimp only
  (repeat' split) <;> simp [*, apply_ite State.chans]

@[simp] theorem firmwareStart_chans (found : List (Nat × Nat)) (s : State) : (firmwareStart found s).chans = s.chans := by
  simp [firmwareStart]

@[simp] theorem romGo_chans (found : List (Nat × Nat)) (s : State) : (romGo found s).chans = s.chans := by
  unfold romGo
  (repeat' split) <;> simp

@[simp] theorem romResume_chans (s : State) : (romResume s).chans = s.chans := by
  unfold romResume
  (repeat' split) <;> simp

@[simp] theorem away_chans (q : Nat) (k : TlpKind) (s : State) : (away q k s).1.chans = s.chans := by
  unfold away
  (repeat' split) <;> simp

/-! ### A custody channel that stops stays stopped -/

/-- What a channel's status shows of its service: its state, the frame in progress and the class of its bank. -/
def chanFace (c : Channel) : ChanState × Option Frame × Option VioClass := (c.st, c.frame, c.vio)

/-- Channel k has stopped, with no frame and its bank in the class v. -/
def ChanStopped (k : Nat) (v : Option VioClass) (s : State) : Prop := chanFace (chanOf s k) = (.stopped, none, v)

variable {k : Nat} {v : Option VioClass} {s : State}

theorem chanStopped_of_chans {t : State} (h : t.chans = s.chans) (hs : ChanStopped k v s) : ChanStopped k v t := by
  rw [ChanStopped, chanOf, h]
  exact hs

theorem chanOf_upChan (n : Nat) (f : Channel → Channel) (s : State) :
    chanOf (upChan n f s) k = if k = n then f (chanOf s k) else chanOf s k := by
  rw [chanOf, upChan, upChans_chans, tabGet_tabSet]
  split
  · next h => rw [h]; rfl
  · rfl

/-- A change that leaves the face of a channel leaves it stopped. -/
theorem chanStopped_upChan {f : Channel → Channel} (n : Nat) (h : ∀ c, chanFace (f c) = chanFace c) (hs : ChanStopped k v s) :
    ChanStopped k v (upChan n f s) := by
  rw [ChanStopped, chanOf_upChan]
  split
  · exact (h _).trans hs
  · exact hs

@[simp] theorem complete_vio (e : QEntry) (st : Nat) (c : Channel) : (complete e st c).vio = c.vio := rfl

@[simp] theorem completeTail_vio (x : Option (QEntry × Nat)) (c : Channel) : (completeTail x c).vio = c.vio := by
  cases x <;> rfl

@[simp] theorem foldl_complete_vio (l : List QEntry) (st : Nat) (c : Channel) : (l.foldl (fun c e => complete e st c) c).vio = c.vio := by
  induction l generalizing c with
  | nil => rfl
  | cons e l ih => exact ih _

@[simp] theorem elim_complete_vio (x : Option QEntry) (st : Nat) (c : Channel) : (x.elim c (fun e => complete e st c)).vio = c.vio := by
  cases x <;> rfl

theorem commitLeave_chanStopped (n : Nat) (hs : ChanStopped k v s) : ChanStopped k v (commitLeave n s) := by
  unfold commitLeave
  split
  · exact hs
  · have h1 := chanStopped_upChan (f := fun c => { c with commit := none }) n (fun _ => rfl) hs
    dsimp only
    split <;> exact h1

theorem fwAdvance_chanStopped (n m : Nat) (hs : ChanStopped k v s) : ChanStopped k v (fwAdvance n m s) := by
  induction m generalizing s with
  | zero => exact hs
  | succ m ih =>
    unfold fwAdvance
    dsimp only
    split
    · exact hs
    · split
      · exact hs
      · split
        · exact ih (chanStopped_upChan n (fun _ => rfl) hs)
        · split
          · exact hs
          · split
            · exact hs
            · exact ih (chanStopped_upChan n (fun _ => rfl) hs)

/-- A channel in service stops without a frame; the class of its bank stays (R213). -/
theorem chanStop_chanStopped (h : (chanOf s k).st = .ready) : ChanStopped k (chanOf s k).vio (chanStop k s) := by
  unfold chanStop
  dsimp only
  rw [if_pos (.inl h)]
  refine chanStopped_of_chans ((chanLost_chans ..).trans ((failStreams_chans ..).trans (fillStop_chans ..)))
    (fwAdvance_chanStopped k 65 (commitLeave_chanStopped k ?_))
  rw [ChanStopped, chanOf_upChan, if_pos rfl]
  cases h0 : (chanOf s k).wip0 <;> cases h1 : (chanOf s k).wip1 <;> simp [chanFace]

/-! ### The bank of a presentation port -/

theorem emOf_upEm (n : Nat) (f : EmDev → EmDev) (s : State) : emOf (upEm n f s) k = if k = n then f (emOf s k) else emOf s k := by
  rw [emOf, upEm, upEms_ems, tabGet_tabSet]
  split
  · next h => rw [h]; rfl
  · rfl

/-- A serving device of a port whose bank falls has failed, with no write pending (R225). -/
theorem portFail_emOf {d : Nat} (hd : d < 2) (h : (emOf s (emKey k d)).st = .serving) :
    emOf (portFail k s) (emKey k d) = { emOf s (emKey k d) with st := .failed, pend := none } := by
  have hp : emOf (upPort k (fun p => { p with vio := none }) s) (emKey k d) = emOf s (emKey k d) := rfl
  have he : emKey k 1 ≠ emKey k 0 := by simp [emKey]
  obtain rfl | rfl : d = 0 ∨ d = 1 := by omega
  · simp [portFail, each, emOf_upEm, he.symm, hp, h]
  · simp [portFail, each, emOf_upEm, he, hp, h]

/-! ### The pads -/

theorem pad_hiZ {o : Nat} (h : s.mor.vsec = false ∨ s.mor.vioRst = none) : pad s o = .hiZ := by
  rcases h with h | h <;> simp [pad, h]

theorem outLevel_hiZ {o : Nat} (h : s.mor.vioRst = none) : outLevel s o = false := by
  simp [outLevel, pad_hiZ (.inr h)]

/-- A pad is low where a boundary-scan cell drives it low, or where the Mordant does not enable the output. -/
theorem pad_low {o : Nat} (hv : s.mor.vsec = true) (hr : s.mor.vioRst.isSome = true)
    (h : s.mor.bscan.getLsbD o = true ∨ outOn s o = false) :
    pad s o = .low := by
  obtain ⟨c, hc⟩ := Option.isSome_iff_exists.1 hr
  rcases h with h | h
  · simp [pad, hv, hc, h]
  · simp [pad, hv, hc, h]

theorem outLevel_of_outOn {o : Nat} (h : outOn s o = false) : outLevel s o = false := by
  unfold outLevel pad
  split
  · rfl
  · simp [h]

theorem outOn_held {o d : Nat} (ho : outDom s o = some d) (hd : domSt s d ≠ .released)
    (hv : o < 48 ∨ inVat (epOf s (o - 48)).st = false) : outOn s o = false := by
  rcases hv with hv | hv
  · simp [outOn, ho, hv, hd]
  · simp [outOn, ho, perstOn, underVat, hd, hv]

/-- Settles O11: each bank event acts on its own unit, settling leaves the rest, and a pad is high only where the Mordant enables it. -/
theorem bankEvents : Obligations.BankEvents := by
  unfold Obligations.BankEvents
  refine ⟨?_, ?_, ?_, ?_, fun s o => pad_hiZ, ?_, ?_⟩
  · intro v s ⟨hv, hr⟩
    have hg : (s.mor.vsec && s.mor.vioRst.isNone) = true := by simp [hv, hr]
    refine ⟨_, when_of_true hg _ _, ?_, ?_, ?_, ?_⟩ <;> simp
  · intro s ⟨hv, hr⟩
    have hg : (s.mor.vsec && s.mor.vioRst.isSome) = true := by simp [hv, hr]
    refine ⟨_, when_of_true hg _ _, ?_, fun o => outLevel_hiZ ?_, ?_, ?_⟩
    · simp
    · simp
    · simp
    · simp
  · intro k s ⟨hk, hv, hs⟩
    have hg : (decide (k ≠ 0) && (chanOf s k).vio.isSome) = true := by simp [hk, hv]
    have hb : bankStop k s = chanStop k s := by simp [bankStop, hs]
    have ht : ChanStopped k (chanOf s k).vio (romResume (settle (bankStop k s))) :=
      chanStopped_of_chans ((romResume_chans _).trans (settle_chans _)) (hb ▸ chanStop_chanStopped hs)
    obtain ⟨hst, hfr, hvio⟩ : _ ∧ _ ∧ _ := by simpa [ChanStopped, chanFace] using ht
    exact ⟨_, when_of_true hg _ _, hst, hfr, hvio⟩
  · intro k d s ⟨hv, hd, hs⟩
    have he := portFail_emOf hd hs
    refine ⟨_, when_of_true hv _ _, congrArg EmDev.st he, congrArg EmDev.pend he, ?_, ?_, ?_⟩
    · exact congrArg Port.vio (tabGet_tabSet_self port0 _ s.ports k)
    · simp [portFail]
    · simp [portFail, upPort]
  · intro s o ⟨hv, hr, hb⟩
    have hp := pad_low hv hr (.inl hb)
    exact ⟨hp, by simp [outLevel, hp]⟩
  · exact fun s o d ho hd hv => outLevel_of_outOn (outOn_held ho hd hv)

end Sys2Proof.Machine
end

section
/-!
PROOF. Program and erase frames of an emulated device: what the Lock Map refuses changes no byte, and what it lets through waits as the
device's pending write (R229, R230, R233, R243, R244, R245).
-/
namespace Sys2Proof.Machine

open Sys2Proof

variable {s t : State} {f : PrsFrame} {p : PolicyImage} {r : PresentRec} {k : Nat}

/-- A submitted record changes the Evidence alone. -/
theorem emit_evOnly (code src : Nat) (body : Bytes) (s : State) : ∃ e, emit code src body s = { s with ev := e } := by
  unfold emit
  split
  · exact ⟨_, rfl⟩
  · exact ⟨_, rfl⟩

/-! ### Frames -/

/-- The key of the device that a frame selects. -/
abbrev frameKey (f : PrsFrame) : Nat := emKey f.port (b2n f.dev)

/-- The device that a frame selects. -/
abbrev frameDev (s : State) (f : PrsFrame) : EmDev := emOf s (frameKey f)

/-- The device with its reset sequence ended, as every frame but 0x66 leaves it (R226). -/
def rstOff (k : Nat) (s : State) : State := upEm k (fun e => { e with rstEn := false }) s

theorem emOf_upEm_self (k : Nat) (g : EmDev → EmDev) (s : State) : emOf (upEm k g s) k = g (emOf s k) := by
  rw [emOf_upEm, if_pos rfl]

theorem rstOff_pend (k : Nat) (s : State) : (emOf (rstOff k s) k).pend = (emOf s k).pend :=
  (congrArg EmDev.pend (emOf_upEm_self k (fun e => { e with rstEn := false }) s) :)

theorem rstOff_wel (k : Nat) (s : State) : (emOf (rstOff k s) k).wel = (emOf s k).wel :=
  (congrArg EmDev.wel (emOf_upEm_self k (fun e => { e with rstEn := false }) s) :)

/-- A frame leaves no mark at all, or has its meaning under some record. -/
theorem prsFrame_cases (f : PrsFrame) (m : PolicyImage → PresentRec → EmDev → State → Out) (s : State) :
    prsFrame f m s = done s ∨ ∃ p r, prsFrame f m s = m p r (frameDev s f) (rstOff (frameKey f) s) := by
  unfold prsFrame
  split
  · split
    · exact .inr ⟨_, _, rfl⟩
    · exact .inl rfl
  · exact .inl rfl

section
variable (hp : s.run.policy = some p) (hr : prsRec s f.port (b2n f.dev) = some r) (ha : prsAnswers s f = true)
include hp hr ha

/-- A frame that a device answers has its meaning. -/
theorem prsFrame_answered (m : PolicyImage → PresentRec → EmDev → State → Out) :
    prsFrame f m s = m p r (frameDev s f) (rstOff (frameKey f) s) := by
  unfold prsFrame
  rw [hp, hr]
  exact if_pos ha

theorem exec_prsPageProgram {d : Bytes} (hd : d ≠ []) (hl : (frameDev s f).proto = .p1s ∨ f.form4 = true)
    (he : (frameDev s f).proto = .p8d → d.length % 2 = 0) :
    exec (.prsPageProgram f d) s = prsWrite p r (frameDev s f) 1 (programSpan r (prsAddr f (frameDev s f)) d).1
      (programSpan r (prsAddr f (frameDev s f)) d).2.length false (programSpan r (prsAddr f (frameDev s f)) d).2
      (rstOff (frameKey f) s) := by
  have hc : (decide ((frameDev s f).proto = .p1s) || f.form4) = true := by simpa using hl
  have hn : ¬ (d.isEmpty || (decide ((frameDev s f).proto = .p8d) && decide (d.length % 2 = 1))) = true := by
    simpa [hd] using he
  simp only [exec, execPrsPageProgram, prsFrame_answered hp hr ha, prsListed, if_pos hc, if_neg hn]

theorem exec_prsPageProgramQuad {d : Bytes} (hd : d ≠ []) (hl : (frameDev s f).proto = .p1s) (hw : 4 ≤ r.width) :
    exec (.prsPageProgramQuad f d) s = prsWrite p r (frameDev s f) 1 (programSpan r (prsAddr f (frameDev s f)) d).1
      (programSpan r (prsAddr f (frameDev s f)) d).2.length false (programSpan r (prsAddr f (frameDev s f)) d).2
      (rstOff (frameKey f) s) := by
  have hc : (decide ((frameDev s f).proto = .p1s) && decide (4 ≤ r.width)) = true := by simp [hl, hw]
  have hn : ¬ d.isEmpty = true := by simpa using hd
  simp only [exec, execPrsPageProgramQuad, prsFrame_answered hp hr ha, prsListed, if_pos hc, if_neg hn]

theorem exec_prsSectorErase {op : Byte} {g : Nat} {x : Bool} (he : eraseType r (frameDev s f) f.form4 op = some (g, x)) :
    exec (.prsSectorErase f op) s = prsWrite p r (frameDev s f) 2 (prsAddr { f with form4 := x } (frameDev s f) / 2 ^ g * 2 ^ g) (2 ^ g)
      true [] (rstOff (frameKey f) s) := by
  simp only [exec, execPrsSectorErase, prsFrame_answered hp hr ha, he]

theorem exec_prsChipErase :
    exec (.prsChipErase f) s = prsWrite p r (frameDev s f) 3 0 (prsSize p r) true [] (rstOff (frameKey f) s) := by
  simp only [exec, execPrsChipErase, prsFrame_answered hp hr ha]

end

theorem recKey_eq (hport : r.port = f.port) (hdev : r.device = b2n f.dev) : recKey r = frameKey f := by
  rw [recKey, hport, hdev]

/-! ### What a frame without effect leaves -/

/-- The Lake, the write journals and the flash channels are as they were, and no write identifier is used. -/
def SameBytes (s t : State) : Prop := t.lake = s.lake ∧ t.ports = s.ports ∧ t.chans = s.chans ∧ t.nextWriteId = s.nextWriteId

/-- In t the device k has the write w pending and WEL as given, and every byte is as it was in s. -/
def Left (k : Nat) (w : Option PendWrite) (wel : Bool) (s t : State) : Prop :=
  (emOf t k).pend = w ∧ (emOf t k).wel = wel ∧ SameBytes s t

/-- The next state of the outcome leaves device and bytes so. -/
def Leaves (k : Nat) (w : Option PendWrite) (wel : Bool) (s : State) (o : Out) : Prop := ∃ t, o = .next t ∧ Left k w wel s t

variable {w : Option PendWrite} {wel : Bool}

/-- A record changes neither device nor bytes. -/
theorem left_emit (code src : Nat) (body : Bytes) (h : Left k w wel s t) : Left k w wel s (emit code src body t) := by
  obtain ⟨v, hv⟩ := emit_evOnly code src body t
  rw [hv]
  exact h

theorem left_rstOff (hp : (emOf s k).pend = w) (hw : (emOf s k).wel = wel) : Left k w wel s (rstOff k s) :=
  ⟨(rstOff_pend k s).trans hp, (rstOff_wel k s).trans hw, rfl, rfl, rfl, rfl⟩

theorem leaves_done (h : Left k w wel s t) : Leaves k w wel s (done t) := ⟨_, rfl, h⟩

theorem leaves_done_rstOff (hp : (emOf s k).pend = w) (hw : (emOf s k).wel = wel) : Leaves k w wel s (done (rstOff k s)) :=
  leaves_done (left_rstOff hp hw)

theorem leaves_prsUnknown (e : EmDev) (op second : Byte) (len : Nat) (hp : (emOf s k).pend = w) (hw : (emOf s k).wel = wel) :
    Leaves k w wel s (prsUnknown r e op second len (rstOff k s)) :=
  ⟨_, rfl, left_emit _ _ _ (left_rstOff hp hw)⟩

/-- A program or erase frame that comes without WEL, or during a write, is consumed with no effect. -/
theorem leaves_prsWrite_idle (op a n : Nat) (er : Bool) (data : Bytes) (h : (emOf s k).wel = false ∨ (emOf s k).pend.isSome = true) :
    Leaves k (emOf s k).pend (emOf s k).wel s (prsWrite p r (emOf s k) op a n er data (rstOff k s)) := by
  have hg : (!(emOf s k).wel || (emOf s k).pend.isSome) = true := by rcases h with h | h <;> simp [h]
  unfold prsWrite
  rw [if_pos hg]
  exact leaves_done_rstOff rfl rfl

/-- A frame over pages of a refusing class is refused: WEL is cleared, 0x0111 is submitted, and no byte changes. -/
theorem leaves_prsWrite_refused (hk : recKey r = k) (op a n : Nat) (er : Bool) (data : Bytes) (hp : (emOf s k).pend = none)
    (hw : (emOf s k).wel = false ∨ refusingClass (pageClasses p r a n) ≠ none) :
    Leaves k none false s (prsWrite p r (emOf s k) op a n er data (rstOff k s)) := by
  cases hwel : (emOf s k).wel with
  | false =>
    have h := leaves_prsWrite_idle (p := p) (r := r) op a n er data (.inl hwel)
    rwa [hp, hwel] at h
  | true =>
    have hg : ¬ (!(emOf s k).wel || (emOf s k).pend.isSome) = true := by simp [hwel, hp]
    obtain ⟨c, hc⟩ := Option.ne_none_iff_exists'.1 (hw.resolve_left (by simp [hwel]))
    have he := emOf_upEm_self k (fun e => { e with wel := false }) (rstOff k s)
    unfold prsWrite
    rw [if_neg hg]
    dsimp only
    rw [hc, hk]
    exact leaves_done (left_emit _ _ _
      ⟨(congrArg EmDev.pend he :).trans ((rstOff_pend k s).trans hp), (congrArg EmDev.wel he :), rfl, rfl, rfl, rfl⟩)

/-! ### A frame during a write -/

section
variable (hp : (frameDev s f).pend = w) (hw : (frameDev s f).wel = wel)
include hp hw

theorem leaves_prsFrame {m : PolicyImage → PresentRec → EmDev → State → Out}
    (h : ∀ p r, Leaves (frameKey f) w wel s (m p r (frameDev s f) (rstOff (frameKey f) s))) :
    Leaves (frameKey f) w wel s (prsFrame f m s) := by
  rcases prsFrame_cases f m s with h0 | ⟨p, r, h0⟩
  · rw [h0]
    exact leaves_done ⟨hp, hw, rfl, rfl, rfl, rfl⟩
  · rw [h0]
    exact h p r

theorem leaves_prsListed (c : Bool) (op : Byte) (len : Nat) {o : Out} (ho : Leaves (frameKey f) w wel s o) :
    Leaves (frameKey f) w wel s (prsListed c r (frameDev s f) op len (rstOff (frameKey f) s) o) := by
  unfold prsListed
  split
  · exact ho
  · exact leaves_prsUnknown _ op _ len hp hw

theorem leaves_rejected (c : Prop) [Decidable c] {o : Out} (ho : Leaves (frameKey f) w wel s o) :
    Leaves (frameKey f) w wel s (if c then done (rstOff (frameKey f) s) else o) := by
  split
  · exact leaves_done_rstOff hp hw
  · exact ho

end

section
variable {w : PendWrite} (hp : (frameDev s f).pend = some w)
include hp

theorem leaves_prsWrite_busy (op a n : Nat) (er : Bool) (data : Bytes) :
    Leaves (frameKey f) (some w) (frameDev s f).wel s (prsWrite p r (frameDev s f) op a n er data (rstOff (frameKey f) s)) := by
  have h := leaves_prsWrite_idle (s := s) (k := frameKey f) (p := p) (r := r) op a n er data (.inr (by simp [hp]))
  rwa [hp] at h

theorem leaves_prsPageProgram (d : Bytes) : Leaves (frameKey f) (some w) (frameDev s f).wel s (exec (.prsPageProgram f d) s) := by
  simp only [exec, execPrsPageProgram]
  exact leaves_prsFrame hp rfl (fun _ _ => leaves_prsListed hp rfl _ _ _ (leaves_rejected hp rfl _ (leaves_prsWrite_busy hp ..)))

theorem leaves_prsPageProgramQuad (d : Bytes) : Leaves (frameKey f) (some w) (frameDev s f).wel s (exec (.prsPageProgramQuad f d) s) := by
  simp only [exec, execPrsPageProgramQuad]
  exact leaves_prsFrame hp rfl (fun _ _ => leaves_prsListed hp rfl _ _ _ (leaves_rejected hp rfl _ (leaves_prsWrite_busy hp ..)))

theorem leaves_prsSectorErase (op : Byte) : Leaves (frameKey f) (some w) (frameDev s f).wel s (exec (.prsSectorErase f op) s) := by
  simp only [exec, execPrsSectorErase]
  refine leaves_prsFrame hp rfl (fun p r => ?_)
  split
  · exact leaves_prsUnknown _ op _ 0 hp rfl
  · exact leaves_prsWrite_busy hp ..

theorem leaves_prsChipErase : Leaves (frameKey f) (some w) (frameDev s f).wel s (exec (.prsChipErase f) s) := by
  simp only [exec, execPrsChipErase]
  exact leaves_prsFrame hp rfl (fun _ _ => leaves_prsWrite_busy hp ..)

end

/-- Settles O35: a frame whose class refuses it, or that comes without WEL, is consumed; one during a write finds WIP set. -/
theorem writesOutsideTheLockMapDoNothing : Obligations.WritesOutsideTheLockMapDoNothing := by
  unfold Obligations.WritesOutsideTheLockMapDoNothing
  refine ⟨?_, ?_, ?_, ?_, ?_⟩
  · intro f d s p r ⟨hp, hr, ha, hport, hdev, hpend, hd, hl, he, hw⟩
    rw [exec_prsPageProgram hp hr ha hd hl he]
    exact leaves_prsWrite_refused (recKey_eq hport hdev) _ _ _ _ _ hpend hw
  · intro f d s p r ⟨hp, hr, ha, hport, hdev, hpend, hd, hl, hwidth, hw⟩
    rw [exec_prsPageProgramQuad hp hr ha hd hl hwidth]
    exact leaves_prsWrite_refused (recKey_eq hport hdev) _ _ _ _ _ hpend hw
  · intro f op g x s p r ⟨hp, hr, ha, hport, hdev, hpend, he, hw⟩
    rw [exec_prsSectorErase hp hr ha he]
    exact leaves_prsWrite_refused (recKey_eq hport hdev) _ _ _ _ _ hpend hw
  · intro f s p r ⟨hp, hr, ha, hport, hdev, hpend, hw⟩
    rw [exec_prsChipErase hp hr ha]
    exact leaves_prsWrite_refused (recKey_eq hport hdev) _ _ _ _ _ hpend hw
  · exact fun f op d s w hp =>
      ⟨leaves_prsPageProgram hp d, leaves_prsPageProgramQuad hp d, leaves_prsSectorErase hp op, leaves_prsChipErase hp⟩

end Sys2Proof.Machine
end

section
/-!
PROOF. What the Lock Map lets through: a write waits as the device's pending write, takes its journal place, becomes durable and is applied
(R229, R230, R232, R244, R245, R246).
-/
namespace Sys2Proof.Machine

open Sys2Proof

variable {s : State} {f : PrsFrame} {p : PolicyImage} {r : PresentRec} {k : Nat}

/-- Only one class, MUTABLE or SHADOW, is not refused. -/
theorem eq_singleton_of_refusingClass {cls : List Nat} (h : refusingClass cls = none) : ∃ c, (c = 3 ∨ c = 4) ∧ cls = [c] := by
  unfold refusingClass at h
  split at h
  · next c =>
    split at h
    · exact ⟨c, ‹_›, rfl⟩
    · simp at h
  · simp at h

/-- The write that a frame asks for, as its journal entry. -/
def askedWrite (r : PresentRec) (id a n : Nat) (er : Bool) (data : Bytes) (c : Nat) : JEntry :=
  ⟨id, r.port, r.device, r.channel, r.srcDevice, er, a, n, data, c, none⟩

/-- The write is the pending write of device k, the next write identifier is used, and nothing else is written. -/
def WriteWaits (k : Nat) (r : PresentRec) (a n : Nat) (er : Bool) (data : Bytes) (s t : State) : Prop :=
  ∃ c, (c = 3 ∨ c = 4) ∧ (emOf t k).pend = some ⟨askedWrite r s.nextWriteId a n er data c, .journal⟩ ∧
    t.nextWriteId = s.nextWriteId + 1 ∧ t.lake = s.lake ∧ t.ports = s.ports ∧ t.ev = s.ev

/-- With WEL set and no write in progress, a frame over pages of one class MUTABLE or SHADOW becomes the pending write. -/
theorem prsWrite_waits (hk : recKey r = k) (op a n : Nat) (er : Bool) (data : Bytes) (hw : (emOf s k).wel = true)
    (hp : (emOf s k).pend = none) (hc : refusingClass (pageClasses p r a n) = none) :
    ∃ t, prsWrite p r (emOf s k) op a n er data (rstOff k s) = .next t ∧ WriteWaits k r a n er data s t := by
  obtain ⟨c, h34, hcls⟩ := eq_singleton_of_refusingClass hc
  have hg : ¬ (!(emOf s k).wel || (emOf s k).pend.isSome) = true := by simp [hw, hp]
  have he := emOf_upEm_self k (fun e => { e with pend := some ⟨askedWrite r s.nextWriteId a n er data c, .journal⟩ }) (rstOff k s)
  unfold prsWrite
  rw [if_neg hg]
  dsimp only
  rw [hc, hk, hcls]
  exact ⟨_, rfl, c, h34, (congrArg EmDev.pend he :), rfl, rfl, rfl, rfl⟩

/-- Where only a 4-byte form is listed, the erase type is one of a 4-byte opcode (R229). -/
theorem eraseType_form4 {e : EmDev} {x b : Bool} {op : Byte} {g : Nat} (h : eraseType r e x op = some (g, b))
    (hx : e.proto ≠ .p1s ∨ x = true) : b = true := by
  have h3 : ¬ (e.proto = .p1s ∧ (!x) = true) := by
    rintro ⟨hp, hn⟩
    rcases hx with hx | hx
    · exact hx hp
    · simp [hx] at hn
  rw [eraseType, if_neg h3] at h
  obtain ⟨y, _, hy⟩ := Option.map_eq_some_iff.1 h
  exact (congrArg Prod.snd hy).symm

/-! ### Frames that are rejected or unknown -/

section
variable (hp : s.run.policy = some p) (hr : prsRec s f.port (b2n f.dev) = some r) (ha : prsAnswers s f = true)
include hp hr ha

/-- In 8D a page program that ends inside a 2-byte word is rejected (R232). -/
theorem exec_prsPageProgram_odd {d : Bytes} (h8 : (frameDev s f).proto = .p8d) (h4 : f.form4 = true) (hd : d.length % 2 = 1) :
    exec (.prsPageProgram f d) s = done (rstOff (frameKey f) s) := by
  have hc : (decide ((frameDev s f).proto = .p1s) || f.form4) = true := by simp [h4]
  have hn : (d.isEmpty || (decide ((frameDev s f).proto = .p8d) && decide (d.length % 2 = 1))) = true := by simp [h8, hd]
  simp only [exec, execPrsPageProgram, prsFrame_answered hp hr ha, prsListed, if_pos hc, if_pos hn]

/-- In an octal protocol 0x02 is an unknown opcode (R229, R230). -/
theorem exec_prsPageProgram_octal {d : Bytes} (h8 : (frameDev s f).proto ≠ .p1s) (h4 : f.form4 = false) :
    exec (.prsPageProgram f d) s = prsUnknown r (frameDev s f) 0x02 (~~~0x02) 0 (rstOff (frameKey f) s) := by
  have hc : ¬ (decide ((frameDev s f).proto = .p1s) || f.form4) = true := by simp [h8, h4]
  have ho : prsOp f 0x02 0x12 = 0x02 := by simp [prsOp, h4]
  simp only [exec, execPrsPageProgram, prsFrame_answered hp hr ha, prsListed, if_neg hc, ho]

end

theorem prsUnknown_reply (e : EmDev) (op second : Byte) (len : Nat) (s : State) :
    ∀ t, prsUnknown r e op second len s = .next t → t.reply = .dq (List.replicate len 0xff) 0 := by
  intro t ht
  obtain rfl := by simpa [prsUnknown, answer] using ht
  rfl

/-! ### The steps of a write -/

section
variable {port : Nat} {dev : Bool} {w : PendWrite} (hp : (emOf s (emKey port (b2n dev))).pend = some w)
include hp

theorem exec_writeJournalEntry (hw : w.step = .journal) (hj : journalTaken s port < 2048) :
    exec (.writeJournalEntry port dev) s =
      done (upEm (emKey port (b2n dev)) (fun e => { e with pend := some { w with step := .durable } }) s) := by
  have hg : (decide (w.step = .journal) && decide (journalTaken s port < 2048)) = true := by simp [hw, hj]
  simp only [exec, execWriteJournalEntry, hp, when_of_true hg]

theorem exec_writeDurable (hw : w.step = .durable) (hf : entryFits s = true) :
    exec (.writeDurable port dev) s = done (upEm (emKey port (b2n dev)) (fun e => { e with pend := some { w with step := .apply } })
      (upEv (fun v => (evWriteJournal w.entry.id w.entry.data.length v).1) s)) := by
  have hg : (decide (w.step = .durable) && entryFits s) = true := by simp [hw, hf]
  simp only [exec, execWriteDurable, hp, when_of_true hg]

/-- A MUTABLE write that is applied joins the journal of its port (R246). -/
theorem exec_writeApply_mutable (hw : w.step = .apply) (hl : lakeUp s = true) (hpol : s.run.policy = some p)
    (hr : prsRec s port (b2n dev) = some r) (hc : w.entry.cls = 3) :
    exec (.writeApply port dev) s = done (upPort port (fun q => { q with journal := q.journal ++ [w.entry] })
      (upEm (emKey port (b2n dev)) (fun e => { e with pend := none, wel := false }) (applyWrite p r w.entry s))) := by
  have hg : (decide (w.step = .apply) && lakeUp s) = true := by simp [hw, hl]
  simp only [exec, execWriteApply, hp, hpol, hr, when_of_true hg, if_pos hc]

end

/-- Settles O34: an accepted write changes only its device, and each of its steps only what that step is for. -/
theorem presentedWrites : Obligations.PresentedWrites := by
  unfold Obligations.PresentedWrites
  refine ⟨?_, ?_, ?_, ?_, ?_, ?_, ?_, ?_, ?_, ?_⟩
  · intro f d s p r ⟨hp, hr, ha, hw, hpend, hport, hdev, hd, hl, he, hc⟩
    rw [exec_prsPageProgram hp hr ha hd hl he]
    exact prsWrite_waits (recKey_eq hport hdev) _ _ _ _ _ hw hpend hc
  · intro f d s p r ⟨hp, hr, ha, hw, hpend, hport, hdev, hd, hl, hwidth, hc⟩
    rw [exec_prsPageProgramQuad hp hr ha hd hl hwidth]
    exact prsWrite_waits (recKey_eq hport hdev) _ _ _ _ _ hw hpend hc
  · intro f op g x s p r ⟨hp, hr, ha, hw, hpend, hport, hdev, he, hc⟩
    rw [exec_prsSectorErase hp hr ha he]
    exact prsWrite_waits (recKey_eq hport hdev) _ _ _ _ _ hw hpend hc
  · exact fun r e x op g b ⟨h, hx⟩ => eraseType_form4 h hx
  · intro f d s p r ⟨hp, hr, ha, _, _, h8, h4, hd⟩
    exact exec_prsPageProgram_odd hp hr ha h8 h4 hd
  · intro f d s p r ⟨hp, hr, ha, hw, hpend, h8, h4⟩
    have hx := exec_prsPageProgram_octal (d := d) hp hr ha h8 h4
    obtain ⟨t, ht, hpt, hwt, hlake, hports, hchans, _⟩ := leaves_prsUnknown (r := r) (frameDev s f) 0x02 (~~~0x02) 0 hpend hw
    exact ⟨t, hx.trans ht, prsUnknown_reply _ _ _ 0 _ t ht, hpt, hwt, hlake, hports, hchans⟩
  · intro f s p r ⟨hp, hr, ha, hw, hpend, hport, hdev, hc⟩
    rw [exec_prsChipErase hp hr ha]
    exact prsWrite_waits (recKey_eq hport hdev) _ _ _ _ _ hw hpend hc
  · exact fun port dev s w ⟨hp, hw, hj⟩ => exec_writeJournalEntry hp hw hj
  · intro port dev s w ⟨hp, hw, hf⟩
    have he := emOf_upEm_self (emKey port (b2n dev)) (fun e => { e with pend := some { w with step := .apply } })
      (upEv (fun v => (evWriteJournal w.entry.id w.entry.data.length v).1) s)
    exact ⟨_, exec_writeDurable hp hw hf, (congrArg EmDev.pend he :), rfl, rfl, rfl⟩
  · intro port dev s w p r ⟨hp, hw, hl, hpol, hr, hc⟩
    have he := emOf_upEm_self (emKey port (b2n dev)) (fun e => { e with pend := none, wel := false }) (applyWrite p r w.entry s)
    exact ⟨_, exec_writeApply_mutable hp hw hl hpol hr hc, (congrArg EmDev.pend he :), (congrArg EmDev.wel he :),
      congrArg Port.journal (tabGet_tabSet_self port0 _ s.ports port), rfl, applyWrite_ev p r w.entry s⟩

end Sys2Proof.Machine
end

section
/-!
PROOF. Re-checks, containment by firmware and by the host, and what the host sees of a port (R49, R293 to R299, R306).
-/
namespace Sys2Proof.Machine

open Sys2Proof

variable {s : State} {j k port : Nat}

/-! ### Endpoints -/

theorem epOf_upEp (n : Nat) (f : Ep → Ep) (s : State) : epOf (upEp n f s) k = if k = n then f (epOf s k) else epOf s k := by
  rw [epOf, upEp, upFab_fab, tabGet_tabSet]
  split
  · next h => rw [h]; rfl
  · rfl

theorem epOf_upEp_self (n : Nat) (f : Ep → Ep) (s : State) : epOf (upEp n f s) n = f (epOf s n) := by
  rw [epOf_upEp, if_pos rfl]

/-- What becomes of an endpoint that is contained (R298, R306). -/
def contained (f : Causes → Causes) (e : Ep) : Ep :=
  { e with st := .contained, causes := f e.causes, att := none, epWait := false, relink := e.relink || !e.link }

/-- A containment changes its endpoint alone. -/
theorem epContain_eps (f : Causes → Causes) (j : Nat) (s : State) : (epContain f j s).fab.eps = (upEp j (contained f) s).fab.eps := by
  rw [epContain, emitContained_fab]
  rfl

theorem epOf_of_eps {t : State} (h : t.fab.eps = s.fab.eps) (k : Nat) : epOf t k = epOf s k := by
  rw [epOf, epOf, h]

theorem epOf_epContain_self (f : Causes → Causes) (j : Nat) (s : State) : epOf (epContain f j s) j = contained f (epOf s j) :=
  (epOf_of_eps (epContain_eps f j s) j).trans (epOf_upEp_self j (contained f) s)

theorem epOf_epContain_ne (f : Causes → Causes) (h : k ≠ j) (s : State) : epOf (epContain f j s) k = epOf s k :=
  (epOf_of_eps (epContain_eps f j s) k).trans (by rw [epOf_upEp, if_neg h])

/-! ### Firmware containment -/

theorem epFirmware_takes (h : (epOf s j).st = .opened ∨ (epOf s j).st = .recheck) :
    epFirmware j s = epContain (fun c => { c with firmware := true }) j s := if_pos h

theorem epFirmware_marks (h : ¬ ((epOf s j).st = .opened ∨ (epOf s j).st = .recheck)) :
    epFirmware j s = upEp j (fun e => { e with causes := { e.causes with firmware := true } }) s := if_neg h

/-- A containment request contains an OPEN endpoint and one in RECHECK, only marks another, and changes no other endpoint (R49, R298). -/
theorem epFirmware_epOf (j : Nat) (s : State) :
    (((epOf s j).st = .opened ∨ (epOf s j).st = .recheck) → (epOf (epFirmware j s) j).st = .contained) ∧
    (((epOf s j).st ≠ .opened ∧ (epOf s j).st ≠ .recheck) → (epOf (epFirmware j s) j).st = (epOf s j).st) ∧
    (epOf (epFirmware j s) j).causes.firmware = true ∧ (∀ k, k ≠ j → epOf (epFirmware j s) k = epOf s k) := by
  by_cases h : (epOf s j).st = .opened ∨ (epOf s j).st = .recheck
  · have he := epOf_epContain_self (fun c => { c with firmware := true }) j s
    rw [epFirmware_takes h]
    refine ⟨fun _ => (congrArg Ep.st he :), fun hn => ?_, (congrArg (fun e => e.causes.firmware) he :),
      fun k hk => epOf_epContain_ne _ hk s⟩
    exact absurd h (not_or.2 hn)
  · have he := epOf_upEp_self j (fun e => { e with causes := { e.causes with firmware := true } }) s
    rw [epFirmware_marks h]
    refine ⟨fun ho => absurd ho h, fun _ => (congrArg Ep.st he :), (congrArg (fun e => e.causes.firmware) he :), fun k hk => ?_⟩
    rw [epOf_upEp, if_neg hk]

/-! ### Configuration requests of the host -/

theorem not_barred (hp : s.fab.planes ≠ 0) (hi : ideBlocked s (portPart s port) = false) :
    ¬ (s.fab.planes = 0 ∨ ideBlocked s (portPart s port) = true) := not_or.2 ⟨hp, by simp [hi]⟩

section
variable (hr : portRole s port = 2) (hu : (partOf s (portPart s port)).up = true)
include hr hu

/-- The bridge of the port is there for the host, on a link that is up. -/
theorem bridge_guard : (decide (portRole s port = 2) && (tabGet part0 s.fab.parts (portPart s port)).up) = true := by
  have hu' : (tabGet part0 s.fab.parts (portPart s port)).up = true := hu
  simp [hr, hu']

variable (ha : epAt s port = some j)
include ha

/-- With no plane in service, or with link IDE required and not secure, the host is turned away (R296, R340). -/
theorem exec_hostConfigRequest_barred (hb : s.fab.planes = 0 ∨ ideBlocked s (portPart s port) = true) :
    exec (.hostConfigRequest port) s = answer (.tlp .unsupported) s := by
  simp only [exec, execHostConfigRequest, ha, when_of_true (bridge_guard hr hu), if_pos hb]

section
variable (hp : s.fab.planes ≠ 0) (hi : ideBlocked s (portPart s port) = false)
include hp hi

/-- A port whose endpoint is refused or changed answers Unsupported Request. -/
theorem exec_hostConfigRequest_refused
    (hs : (epOf s j).st = .refused ∨ ((epOf s j).st = .contained ∧ (epOf s j).causes.changed = true)) :
    exec (.hostConfigRequest port) s = answer (.tlp .unsupported) s := by
  rcases hs with hs | ⟨hs, hc⟩
  · simp only [exec, execHostConfigRequest, ha, when_of_true (bridge_guard hr hu), if_neg (not_barred hp hi), hs]
  · simp only [exec, execHostConfigRequest, ha, when_of_true (bridge_guard hr hu), if_neg (not_barred hp hi), hs, if_pos hc]

/-- A port whose endpoint is sealed, or CONTAINED with nothing changed, answers retry. -/
theorem exec_hostConfigRequest_retry
    (hs : (epOf s j).st = .isSealed ∨ (epOf s j).st = .vat ∨ (epOf s j).st = .attesting ∨ (epOf s j).st = .attested ∨
      (epOf s j).st = .recheck ∨ ((epOf s j).st = .contained ∧ (epOf s j).causes.changed = false)) :
    exec (.hostConfigRequest port) s = answer (.tlp .retry) s := by
  rcases hs with hs | hs | hs | hs | hs | ⟨hs, hc⟩
  case inr.inr.inr.inr.inr =>
    have hn : ¬ (epOf s j).causes.changed = true := by simp [hc]
    simp only [exec, execHostConfigRequest, ha, when_of_true (bridge_guard hr hu), if_neg (not_barred hp hi), hs, if_neg hn]
  all_goals simp only [exec, execHostConfigRequest, ha, when_of_true (bridge_guard hr hu), if_neg (not_barred hp hi), hs]

/-- The request reaches an OPEN endpoint, on a plane that does not fail. -/
theorem exec_hostConfigRequest_opened (hs : (epOf s j).st = .opened) (hf : s.fab.planeFail = 0)
    (hc : tlpCredit s (upPort' s (portPart s port)) (freeTlp s .config 4 (.port port)) = true) :
    exec (.hostConfigRequest port) s = answer (.tlp (.forwarded port))
      (dispatchTlp (upPort' s (portPart s port)) port (freeTlp s .config 4 (.port port)) (drawn s)) := by
  have hn : ∀ i e (t : Tlp), pairFails (dispatchTlp i e t (drawn s)).fab i e = false := fun i e t => by
    simp [pairFails, dispatchTlp, drawn, hf]
  simp only [exec, execHostConfigRequest, ha, when_of_true (bridge_guard hr hu), if_neg (not_barred hp hi), hs, when_of_true hc,
    forwardTlp, hn]
  rfl

end

/-! ### DPC -/

/-- The host contains an OPEN endpoint through DPC (R299). -/
theorem exec_hostDpcTriggerWrite_set (hs : (epOf s j).st = .opened) :
    exec (.hostDpcTriggerWrite port true) s = done (epContain id j (upEp j (fun e => { e with hostDpc := true }) s)) := by
  simp only [exec, execHostDpcTriggerWrite, ha, when_of_true (bridge_guard hr hu), if_true, if_pos hs]

/-- Clearing DPC ends the host's part of a containment and nothing else (R299). -/
theorem exec_hostDpcTriggerWrite_clear :
    exec (.hostDpcTriggerWrite port false) s = done (settle (upEp j (fun e => { e with hostDpc := false }) s)) := by
  simp only [exec, execHostDpcTriggerWrite, ha, when_of_true (bridge_guard hr hu)]
  rfl

end

theorem bridgeLinkActive_of_not_opened (ha : epAt s port = some j) (hs : (epOf s j).st ≠ .opened) : bridgeLinkActive s port = false := by
  simp [bridgeLinkActive, ha, hs]

/-- Settles O44: each request is decided by the endpoint's state, and changes the endpoints it names alone. -/
theorem rechecksAndContainment : Obligations.RechecksAndContainment := by
  unfold Obligations.RechecksAndContainment
  refine ⟨?_, ?_, fun j s => epFirmware_epOf j s, ?_, ?_, ?_, ?_, ?_, ?_, ?_⟩
  · intro j s ⟨hf, hs, ha⟩
    have hg : (fwRuns s && decide ((epOf s j).st = .opened) && (epOf s j).att.isNone) = true := by simp [hf, hs, ha]
    have he := epOf_upEp_self j (fun e => { e with att := some (newAtt .periodic), recheckPair := 0 }) s
    exact ⟨_, when_of_true hg _ _, (congrArg Ep.st he :).trans hs, (congrArg Ep.att he :), (congrArg Ep.recheckPair he :),
      startRecheck_mor .periodic j s⟩
  · exact fun m s hr => ⟨when_of_true hr _ _, when_of_true hr _ _⟩
  · intro port j s ⟨ha, hr, hu, hp, hi, hs, hf, hc⟩
    exact ⟨_, exec_hostConfigRequest_opened hr hu ha hp hi hs hf hc, rfl, rfl, rfl, rfl⟩
  · exact fun port j s ⟨ha, hr, hu, hp, hi, hs⟩ => exec_hostConfigRequest_refused hr hu ha hp hi hs
  · exact fun port j s ⟨ha, hr, hu, hp, hi, hs⟩ => exec_hostConfigRequest_retry hr hu ha hp hi hs
  · exact fun port j s ⟨ha, hs⟩ => bridgeLinkActive_of_not_opened ha hs
  · exact fun port j s ⟨ha, hr, hu, hb⟩ => exec_hostConfigRequest_barred hr hu ha hb
  · intro port j s ⟨ha, hr, hu, hs⟩
    have he := epOf_epContain_self id j (upEp j (fun e => { e with hostDpc := true }) s)
    rw [epOf_upEp_self] at he
    refine ⟨⟨_, exec_hostDpcTriggerWrite_set hr hu ha hs, (congrArg Ep.st he :), (congrArg Ep.hostDpc he :), (congrArg Ep.causes he :),
      ?_⟩,
      exec_hostDpcTriggerWrite_clear hr hu ha⟩
    simp
  · exact fun port s ht => when_of_true ht _ _

end Sys2Proof.Machine
end

section
/-!
PROOF. A life-cycle step follows its record, and its end burns the lowest blank cell (R144, R147, R148).
-/
namespace Sys2Proof.Machine

open Sys2Proof

variable {o : Otp} {i n : Nat}

/-! ### The life-cycle cells -/

theorem not_lcBurned_of_lcBlank (h : lcBlank o i = true) : lcBurned o i = false := by
  simp [lcBlank, lcCell] at h
  simp [lcBurned, lcCell, h]

/-- On a thermometer array the burned cells are the lowest ones. -/
theorem lcBurned_of_lcThermometer (ht : lcThermometer o = true) (hi : i < 32) : lcBurned o i = decide (i < lcCount o) := by
  have h := List.all_eq_true.1 ht i (List.mem_range.2 hi)
  by_cases hc : i < lcCount o
  · simpa [hc] using h
  · have hb : lcBlank o i = true := by simpa [hc] using h
    simp [not_lcBurned_of_lcBlank hb, hc]

theorem lcBlank_of_lcThermometer (ht : lcThermometer o = true) (hi : i < 32) : lcBlank o i = decide (lcCount o ≤ i) := by
  have h := List.all_eq_true.1 ht i (List.mem_range.2 hi)
  by_cases hc : i < lcCount o
  · have hb : lcBurned o i = true := by simpa [hc] using h
    have hn : lcBlank o i ≠ true := fun h => by simp [not_lcBurned_of_lcBlank h] at hb
    simp [Bool.eq_false_iff.2 hn, hc]
  · have hb : lcBlank o i = true := by simpa [hc] using h
    simp [hb, Nat.le_of_not_lt hc]

theorem find?_le_range : ∀ n : Fin 32, ((List.range 32).find? (fun i => decide (n.val ≤ i))).getD 32 = n.val := by decide

theorem countIf_lt_range : ∀ n : Fin 33, countIf (fun i => decide (i < n.val)) (List.range 32) = n.val := by decide

/-- On a thermometer array the lowest blank cell is the one above the burned ones. -/
theorem lcNext_of_lcThermometer (ht : lcThermometer o = true) (hc : lcCount o < 32) : lcNext o = lcCount o := by
  have h : (List.range 32).find? (lcBlank o) = (List.range 32).find? (fun i => decide (lcCount o ≤ i)) :=
    List.find?_congr (fun i hi => lcBlank_of_lcThermometer ht (List.mem_range.1 hi))
  rw [lcNext, h]
  exact find?_le_range ⟨lcCount o, hc⟩

/-- An array whose burned cells are those below n has the count n. -/
theorem lcCount_of_lcBurned (hn : n ≤ 32) (h : ∀ i, i < 32 → lcBurned o i = decide (i < n)) : lcCount o = n := by
  have hf : (List.range 32).filter (lcBurned o) = (List.range 32).filter (fun i => decide (i < n)) :=
    List.filter_congr (fun i hi => h i (List.mem_range.1 hi))
  rw [lcCount, countIf, hf]
  exact countIf_lt_range ⟨n, by omega⟩

/-! ### The burn of a cell -/

/-- The two bits of a cell in its word. -/
theorem getLsbD_cellBits (m b : Nat) (hb : b < 39) :
    (BitVec.ofNat 39 3 <<< (2 * m)).getLsbD b = (decide (2 * m ≤ b) && decide (b < 2 * m + 2)) := by
  rw [BitVec.getLsbD_shiftLeft, BitVec.getLsbD_ofNat, show (3 : Nat) = 2 ^ 2 - 1 from rfl, Nat.testBit_two_pow_sub_one]
  rw [Bool.eq_iff_iff]
  simp only [Bool.and_eq_true, Bool.not_eq_true', decide_eq_true_eq, decide_eq_false_iff_not]
  omega

theorem and_not_zero (v : BitVec 39) : v &&& ~~~ (0 : BitVec 39) = v := by
  rw [show (~~~ (0 : BitVec 39)) = BitVec.allOnes 39 from rfl, BitVec.and_allOnes]

/-- The burn of cell n adds its two bits at both margins. -/
theorem lcCell_lcBurnCell (o : Otp) (n i : Nat) :
    lcCell (lcBurnCell o n) i = if i = n then [true, true, true, true] else lcCell o i := by
  have hb : ∀ j, j < 2 → 2 * (i % 16) + j < 39 := by omega
  by_cases hw : 512 + i / 16 = 512 + n / 16
  · have hbit : ∀ j, j < 2 → (BitVec.ofNat 39 3 <<< (2 * (n % 16))).getLsbD (2 * (i % 16) + j) = decide (i = n) := by
      intro j hj
      rw [getLsbD_cellBits _ _ (hb j hj), Bool.eq_iff_iff]
      simp only [Bool.and_eq_true, decide_eq_true_eq]
      omega
    have h0 := hbit 0 (by omega)
    have h1 := hbit 1 (by omega)
    rw [Nat.add_zero] at h0
    simp only [lcCell, lcBurnCell, otpWord_otpBurn, hw, if_true, and_not_zero, BitVec.getLsbD_or, h0, h1]
    by_cases hn : i = n <;> simp [hn]
  · have hn : i ≠ n := fun h => hw (by rw [h])
    simp only [lcCell, lcBurnCell, otpWord_otpBurn, if_neg hw, if_neg hn]

theorem lcBurned_lcBurnCell (o : Otp) (n i : Nat) : lcBurned (lcBurnCell o n) i = if i = n then true else lcBurned o i := by
  rw [lcBurned, lcCell_lcBurnCell]
  split <;> rfl

/-- A life-cycle step burns the cell above the burned ones, and LC_COMPAT apart no other word but the cell's. -/
theorem otpWord_lcStep (o : Otp) (a : Nat) (ha : a ≠ 514) : otpWord (lcStep o 0 0) a = otpWord (lcBurnCell o (lcNext o)) a := by
  unfold lcStep
  dsimp only
  split
  · rw [otpWord_otpBurn, if_neg ha]
    rfl
  · rfl

theorem lcBurned_lcStep (o : Otp) (hi : i < 32) : lcBurned (lcStep o 0 0) i = if i = lcNext o then true else lcBurned o i := by
  rw [← lcBurned_lcBurnCell, lcBurned, lcBurned, lcCell, lcCell, otpWord_lcStep o _ (by omega)]

/-- Each step from a thermometer array raises the count by one (R144, R147). -/
theorem lcCount_lcStep (ht : lcThermometer o = true) (hc : lcCount o < 31) : lcCount (lcStep o 0 0) = lcCount o + 1 := by
  refine lcCount_of_lcBurned (by omega) (fun i hi => ?_)
  rw [lcBurned_lcStep o hi, lcNext_of_lcThermometer ht (by omega), lcBurned_of_lcThermometer ht hi]
  by_cases h : i = lcCount o
  · simp [h]
  · rw [if_neg h, decide_eq_decide]
    omega

/-- A life-cycle step leaves every word that holds no cell and no LC_COMPAT. -/
theorem otpWord_lcStep_of_lt_or_gt (hn : lcNext o < 32) {a : Nat} (ha : a < 512 ∨ 514 < a) : otpWord (lcStep o 0 0) a = otpWord o a := by
  rw [otpWord_lcStep o a (by omega), lcBurnCell, otpWord_otpBurn, if_neg (by omega)]

/-! ### The commands -/

variable {s : State}

theorem lcStepBegin_idle (hb : s.otp.busy = none) (hp : lcStepPermitted s.otp = true) :
    lcStepBegin s = upOtp (fun o => { o with op := 3, addr := 0, dropped := false, busy := some .lcStep }) s := by
  simp [lcStepBegin, hb, hp, upOtp, otpBegin]

/-- The end of a life-cycle step, with nothing waiting for the OTPC. -/
theorem exec_otpOpDone_lcStep (hb : s.otp.busy = some .lcStep) (hd : s.otp.due = []) :
    exec (.otpOpDone 0 0) s = done (upOtp (fun o => otpDone o 0 0) s) := by
  have hs : s.otp.busy.isSome = true := by simp [hb]
  have hdue : (otpDone s.otp 0 0).due = [] := by
    simp only [otpDone, hb, lcStep]
    split <;> exact hd
  simp only [exec, execOtpOpDone, when_of_true hs, otpNext, upOtp_otp, hdue]

theorem otpDone_lcStep_words (hb : o.busy = some .lcStep) : (otpDone o 0 0).words = (lcStep { o with busy := none } 0 0).words := by
  simp only [otpDone, hb]

theorem lcCount_of_words {o o' : Otp} (h : o'.words = o.words) : lcCount o' = lcCount o := by
  have hb : lcBurned o' = lcBurned o := by
    funext i
    rw [lcBurned, lcBurned, lcCell, lcCell, otpWord, otpWord, h]
  rw [lcCount, lcCount, hb]

theorem otpWord_of_words {o o' : Otp} (h : o'.words = o.words) (a : Nat) : otpWord o' a = otpWord o a := by
  rw [otpWord, otpWord, h]

/-- Settles O18: the step begins with its record, and its end burns the one cell above the burned ones. -/
theorem lifeCycleSteps : Obligations.LifeCycleSteps := by
  unfold Obligations.LifeCycleSteps
  refine ⟨?_, ?_⟩
  · intro ow s ⟨hr, hb, hp, hn⟩
    have hi : ¬ s.otp.busy.isSome = true := by simp [hb]
    simp only [exec, execOtpLcStep, when_of_true hr, otpGoLcStep, if_neg hi, lcStepGo, if_pos hp, gated_of_durableNow lcStepBegin hn]
    rw [lcStepBegin_idle (s := recorded s _ _ _ _) hb hp]
    rfl
  · intro s ⟨hb, hd, ht, hc⟩
    have hw := otpDone_lcStep_words hb
    have ht0 : lcThermometer { s.otp with busy := none } = true := ht
    refine ⟨_, exec_otpOpDone_lcStep hb hd, (lcCount_of_words hw).trans (lcCount_lcStep ht0 hc), fun a ha => ?_⟩
    have hn : lcNext { s.otp with busy := none } < 32 := by
      rw [lcNext_of_lcThermometer ht0 (Nat.lt_trans hc (by omega))]
      exact Nat.lt_trans hc (by omega)
    exact (otpWord_of_words hw a).trans (otpWord_lcStep_of_lt_or_gt hn ha)

end Sys2Proof.Machine
end

section
/-!
PROOF. Vault restores, golden objects and the security version floors (R48, R181, R266, R267, R271, R272).
-/
namespace Sys2Proof.Machine

open Sys2Proof

variable {s : State} {k : Nat}

/-! ### Restores -/

/-- A restore waits for the Vault. -/
def RestoreWaits (s : State) (k : Nat) : Prop := (imgOf s k).st = .recovering ∧ (imgOf s k).action = 2 ∧ (imgOf s k).waitVault = true

/-- The restore goes on: its device loads. -/
def restoring (k : Nat) (s : State) : State := imgLoading k (upImg k (fun i => { i with waitVault := false }) s)

section
variable (hf : fwRuns s = true) (hw : RestoreWaits s k) (hv : s.vault.state ≠ .out)
include hf hw hv

theorem restoreVaultBegin_guard : (fwRuns s && decide ((imgOf s k).st = .recovering) && decide ((imgOf s k).action = 2)
    && (imgOf s k).waitVault && decide (s.vault.state ≠ .out)) = true := by
  obtain ⟨hst, hact, hwait⟩ := hw
  simp [hf, hst, hact, hwait, hv]

variable {q : RecoveryRec} (hq : recRec s k = some q)
include hq

/-- Once the Vault serves, a restore that waits for it judges its object (R267). -/
theorem exec_restoreVaultBegin {o : VaultObj} (ho : tabGet none s.vault.objects q.vaultObject = some o) :
    exec (.restoreVaultBegin k) s = done (streamGo k .vault (restoring k s)) := by
  simp only [exec, execRestoreVaultBegin, when_of_true (restoreVaultBegin_guard hf hw hv), hq, Option.bind_some, ho]
  rfl

/-- An empty object fails the action (R267). -/
theorem exec_restoreVaultBegin_empty (ho : tabGet none s.vault.objects q.vaultObject = none) :
    exec (.restoreVaultBegin k) s = done (settle (actionFails k s)) := by
  simp only [exec, execRestoreVaultBegin, when_of_true (restoreVaultBegin_guard hf hw hv), hq, Option.bind_some, ho]

end

theorem imgOf_upImg_self (k : Nat) (f : Img → Img) (s : State) : imgOf (upImg k f s) k = f (imgOf s k) := tabGet_tabSet_self ..

theorem imgLoading_imgs (k : Nat) (s : State) : (imgLoading k s).imgs = s.imgs := by
  unfold imgLoading
  split <;> rfl

theorem imgLoading_run (k : Nat) (s : State) : (imgLoading k s).run = s.run := by
  unfold imgLoading
  split <;> rfl

theorem clearFail_imgs (k : Nat) (s : State) : (clearFail k s).imgs = s.imgs := by
  unfold clearFail setPair
  (repeat' split) <;> rfl

/-- What a slot becomes whose judgement reads a Vault object of n bytes. -/
def judgesVault (n : Nat) (i : Img) : Img :=
  { i with stream := some ⟨.vault, 0, n, false, []⟩, lastSrc := some .vault, judged := some .vault, inLake := none }

/-- A judgement that reads the Vault starts (R259, R262). -/
theorem streamGo_vault {r : ImageRec} (hr : imgRec s k = some r) :
    streamGo k .vault s = dgaServe (nvmeIssue [.restore k] (upImg k (judgesVault r.length) (clearFail k s))) := by
  simp only [streamGo, hr]
  rfl

theorem imgOf_streamGo_vault {r : ImageRec} (hr : imgRec s k = some r) :
    imgOf (streamGo k .vault s) k = judgesVault r.length (imgOf s k) := by
  have hc : imgOf (clearFail k s) k = imgOf s k := by rw [imgOf, imgOf, clearFail_imgs]
  rw [streamGo_vault hr, ← hc]
  exact imgOf_upImg_self k (judgesVault r.length) (clearFail k s)

theorem streamGo_vault_objects {r : ImageRec} (hr : imgRec s k = some r) :
    (streamGo k .vault s).vault.objects = s.vault.objects := by
  rw [streamGo_vault hr]
  unfold clearFail setPair
  (repeat' split) <;> rfl

theorem exec_vaultWaitExpiry (hw : RestoreWaits s k) (hv : s.vault.state = .out) :
    exec (.vaultWaitExpiry k) s = done (settle (actionFails k s)) := by
  obtain ⟨hst, hact, hwait⟩ := hw
  have hg : (decide ((imgOf s k).st = .recovering) && decide ((imgOf s k).action = 2) && (imgOf s k).waitVault
      && decide (s.vault.state = .out)) = true := by simp [hst, hact, hwait, hv]
  exact when_of_true hg _ _

/-! ### Golden objects -/

/-- A passed image is due to be stored, and its VAULT_OBJECT can be written (R271). -/
def StoreReady (s : State) (k : Nat) (q : RecoveryRec) : Prop :=
  fwRuns s = true ∧ (imgOf s k).storeDue = true ∧ (imgOf s k).st = .passed ∧ s.vault.state = .inService ∧ s.otp.session = none ∧
    tabGet none s.vault.objects q.vaultObject = none ∧ objPending s.vault q.vaultObject = false

/-- The data of a new golden object begins to be written. -/
def storeBegins (k : Nat) (q : RecoveryRec) (r : ImageRec) (a : Nat) (cells : List (Nat × Byte)) (s : State) : State :=
  nvmeWrite (.objData q.vaultObject ⟨k, r.length, a, sha384 (cellBytes cells 0 r.length), cells, (imgOf s k).manifest⟩)
    (ceilDiv r.length 4096) kindGolden a (ceilDiv r.length 4096) s

section
variable {r : ImageRec} {q : RecoveryRec} {a : Nat} (hr : imgRec s k = some r) (hq : recRec s k = some q) (hs : StoreReady s k q)
  (ha : vaultPlace s (ceilDiv r.length 4096) = some a)
include hs

theorem goldenStore_guard : (fwRuns s && (imgOf s k).storeDue && decide ((imgOf s k).st = .passed) && decide (s.vault.state = .inService)
    && s.otp.session.isNone && (tabGet none s.vault.objects q.vaultObject).isNone && !objPending s.vault q.vaultObject) = true := by
  obtain ⟨hf, hd, hst, hv, hn, ho, hp⟩ := hs
  simp [hf, hd, hst, hv, hn, ho, hp]

include hr hq ha

/-- A presented device's image is stored from the Lake. -/
theorem exec_goldenStore_lake (read : List (Nat × Byte)) {p : PolicyImage} {e : PresentRec} (hp : s.run.policy = some p)
    (he : imgPresent s k = some e) (hl : lakeUp s = true) :
    exec (.goldenStore k read) s = done (storeBegins k q r a (lakeCells s (lakeBase p e + r.offset) r.length) s) := by
  simp only [exec, execGoldenStore, hr, hq, when_of_true (goldenStore_guard hs), hp, he, if_pos hl, vaultStore, ha]
  rfl

/-- The image of a device that is not presented is stored from the bytes read again, which must be those that passed. -/
theorem exec_goldenStore_read (read : List (Nat × Byte)) (he : imgPresent s k = none) (hb : passedBytes s r read = true) :
    exec (.goldenStore k read) s = done (storeBegins k q r a read s) := by
  cases hp : s.run.policy with
  | none =>
    simp only [exec, execGoldenStore, hr, hq, when_of_true (goldenStore_guard hs), hp, he, if_pos hb, vaultStore, ha]
    rfl
  | some p =>
    simp only [exec, execGoldenStore, hr, hq, when_of_true (goldenStore_guard hs), hp, he, if_pos hb, vaultStore, ha]
    rfl

end

/-- With its directory entry written, the object is its slot's. -/
theorem nvmeEffect_objDir_objects (d : List DriveBlock) (b : Nat) (o : VaultObj) (s : State) :
    (nvmeEffect d (.objDir b o) s).vault.objects = tabSet none s.vault.objects b (some o) := by
  simp only [nvmeEffect]
  split
  · rfl
  · rw [emitFw_vault]
    rfl

/-! ### Security version floors -/

/-- An advance that is permitted raises the counter, for an image that passed (R48, R272). -/
theorem svnAdvanceOk_raises {n idx : Nat} {g : List (Nat × Manifest)} (h : svnAdvanceOk s k idx n g = true) :
    tabGet 0 s.nrx.counters idx < n ∧ (imgOf s k).st = .passed := by
  unfold svnAdvanceOk at h
  simp only [Bool.and_eq_true, decide_eq_true_eq] at h
  obtain ⟨⟨⟨⟨hm, hst⟩, _⟩, _⟩, _⟩ := h
  refine ⟨?_, hst⟩
  split at hm
  · simp at hm
    exact hm.2
  · simp at hm

section
variable {r : ImageRec} {m : Manifest} {g : List (Nat × Manifest)} (hr : imgRec s k = some r) (hm : (imgOf s k).manifest = some m)
include hr hm

theorem nvmeEffect_svnRead (d : List DriveBlock) : nvmeEffect d (.svnRead k g) s =
    if (svnAdvanceOk s k r.svnIndex m.svn g && sourcesRead d s r.svnIndex) = true then svnRecord r.svnIndex m.svn s else s := by
  simp only [nvmeEffect, hr, hm]

variable (hf : fwRuns s = true) (hsig : sigIn s = true) (hmode : r.mode = 2) (hi : r.svnIndex ≠ 0xffff)
  (hok : svnAdvanceOk s k r.svnIndex m.svn g = true)
include hf hsig hmode hi hok

theorem exec_imageSvnAdvance : exec (.imageSvnAdvance k g) s =
    if vaultSources s r.svnIndex = [] then done (svnRecord r.svnIndex m.svn s)
    else when (decide (s.vault.state ≠ .out) && !s.vault.nvme.any (fun c => decide (c.use = .svnRead k g))) s
      (done (nvmeIssue [.svnRead k g] s)) := by
  have hg : (fwRuns s && sigIn s && decide (r.mode = 2) && decide (r.svnIndex ≠ 0xffff) && svnAdvanceOk s k r.svnIndex m.svn g)
      = true := by
    simp [hf, hsig, hmode, hi, hok]
  simp only [exec, execImageSvnAdvance, hr, hm, when_of_true hg]

end

/-- A permitted advance raises its counter to the image's version, and no other (R48, R272). -/
theorem svnRaise_counters {idx n : Nat} (h : tabGet 0 s.nrx.counters idx < n) (i : Nat) :
    tabGet 0 (svnRaise idx n s).nrx.counters i = if i = idx then n else tabGet 0 s.nrx.counters i := by
  rw [svnRaise, upNrx_nrx, tabGet_tabSet, Nat.max_eq_left (Nat.le_of_lt h)]

theorem svnRecord_of_durableNow {idx n : Nat}
    (h : durableNow s 0x0009 1 (le 2 idx ++ le 2 0 ++ le 8 (tabGet 0 s.nrx.counters idx) ++ le 8 n) (.svnAdvance idx n) = true) :
    svnRecord idx n s = svnRaise idx n
      (recorded s 0x0009 1 (le 2 idx ++ le 2 0 ++ le 8 (tabGet 0 s.nrx.counters idx) ++ le 8 n) (.svnAdvance idx n)) :=
  gated_of_durableNow (svnRaise idx n) h

theorem polFloorRaise_of_lt {n : Nat} (h : s.polFloor < n) : polFloorRaise n s = { s with polFloor := n } := by
  rw [polFloorRaise, Nat.max_eq_left (Nat.le_of_lt h)]

theorem exec_policySvnAdvance {p o : PolicyImage} (hp : s.run.policy = some p) (ho : otherPolicy s = some o) (hf : fwRuns s = true)
    (hsig : sigIn s = true) (hd : dgaIn s = true) (ha : polSvnAdvance p = true) (hlt : s.polFloor < p.hdr.svn) (hph : 3 ≤ s.mor.phase)
    (hv : polVerdict s.otp (fwFormats s) s.polFloor o = .accepted) (hle : p.hdr.svn ≤ o.hdr.svn) :
    exec .policySvnAdvance s = done (gated 0x0044 1 (le 4 s.polFloor ++ le 4 p.hdr.svn ++ polDigest p) (.policySvn p.hdr.svn)
      (polFloorRaise p.hdr.svn) s) := by
  have hg : (fwRuns s && sigIn s && dgaIn s && polSvnAdvance p && decide (s.polFloor < p.hdr.svn) && decide (3 ≤ s.mor.phase)
      && decide (polVerdict s.otp (fwFormats s) s.polFloor o = .accepted) && decide (p.hdr.svn ≤ o.hdr.svn)) = true := by
    simp [hf, hsig, hd, ha, hlt, hph, hv, hle]
  simp only [exec, execPolicySvnAdvance, hp, ho, when_of_true hg]

/-- Settles O40: each command has its effect under its conditions, and a floor is raised by the advance that its conditions permit. -/
theorem recoveryAndSvn : Obligations.RecoveryAndSvn := by
  unfold Obligations.RecoveryAndSvn
  refine ⟨?_, ?_, ?_, ?_, ?_, ?_, ?_, ?_, ?_, ?_, ?_⟩
  · intro k s q o r ⟨hf, hst, hact, hwait, hv, hq, ho, hr⟩
    have hr1 : imgRec (restoring k s) k = some r := by
      rw [imgRec, restoring, imgLoading_run]
      exact hr
    have he : imgOf (restoring k s) k = { imgOf s k with waitVault := false } := by
      rw [imgOf, restoring, imgLoading_imgs]
      exact imgOf_upImg_self k _ s
    have hs := imgOf_streamGo_vault hr1
    rw [he] at hs
    refine ⟨_, exec_restoreVaultBegin hf ⟨hst, hact, hwait⟩ hv hq ho, (congrArg Img.stream hs :), (congrArg Img.waitVault hs :),
      (congrArg Img.st hs :).trans hst, ?_⟩
    exact (streamGo_vault_objects hr1).trans (congrArg Vault.objects (imgLoading_vault ..))
  · exact fun k s q ⟨hf, hst, hact, hwait, hv, hq, ho⟩ => exec_restoreVaultBegin_empty hf ⟨hst, hact, hwait⟩ hv hq ho
  · exact fun k s ⟨hst, hact, hwait, hv⟩ => exec_vaultWaitExpiry ⟨hst, hact, hwait⟩ hv
  · exact fun k a read s r q p e ⟨hr, hq, hp, he, hl, hf, hd, hst, hv, hn, ho, hpend, ha⟩ =>
      exec_goldenStore_lake hr hq ⟨hf, hd, hst, hv, hn, ho, hpend⟩ ha read hp he hl
  · exact fun k a read s r q ⟨hr, hq, he, hb, hf, hd, hst, hv, hn, ho, hpend, ha⟩ =>
      exec_goldenStore_read hr hq ⟨hf, hd, hst, hv, hn, ho, hpend⟩ ha read he hb
  · intro b o d s
    refine ⟨rfl, ?_, fun c hc => ?_⟩
    · rw [nvmeEffect_objDir_objects, tabGet_tabSet_self]
    · rw [nvmeEffect_objDir_objects, tabGet_tabSet_ne _ _ _ _ _ hc]
  · intro k g s r m ⟨hr, hm, hf, hsig, hmode, hi, hok, hsrc, hdur⟩
    have hlt := (svnAdvanceOk_raises hok).1
    have hc := svnRaise_counters (s := recorded s 0x0009 1 (le 2 r.svnIndex ++ le 2 0 ++ le 8 (tabGet 0 s.nrx.counters r.svnIndex)
      ++ le 8 m.svn) (.svnAdvance r.svnIndex m.svn)) hlt
    have hx := (exec_imageSvnAdvance hr hm hf hsig hmode hi hok).trans (if_pos hsrc)
    rw [svnRecord_of_durableNow hdur] at hx
    exact ⟨_, hx, (hc r.svnIndex).trans (if_pos rfl), hlt, fun i hne => (hc i).trans (if_neg hne), rfl⟩
  · intro s p o ⟨hp, ho, hf, hsig, hd, ha, hlt, hph, hv, hle, hdur⟩
    rw [exec_policySvnAdvance hp ho hf hsig hd ha hlt hph hv hle, gated_of_durableNow (polFloorRaise p.hdr.svn) hdur,
      polFloorRaise_of_lt (s := recorded s _ _ _ _) hlt]
    rfl
  · intro k g s r m ⟨hr, hm, hf, hsig, hmode, hi, hok, hsrc, hv, hn⟩
    have hg : (decide (s.vault.state ≠ .out) && !s.vault.nvme.any (fun c => decide (c.use = .svnRead k g))) = true := by
      rw [hn]
      simp [hv]
    rw [exec_imageSvnAdvance hr hm hf hsig hmode hi hok, if_neg hsrc, when_of_true hg]
    rfl
  · exact fun k g d s r m ⟨hr, hm⟩ => nvmeEffect_svnRead hr hm d
  · exact fun k n idx g s h => svnAdvanceOk_raises h

end Sys2Proof.Machine
end

section
/-!
PROOF. Register accesses by the management ports, the host, a core and JTAG (R110, R428, R499 to R502, R507 to R509).
-/
namespace Sys2Proof.Machine

open Sys2Proof

variable {s : State} {b : Bool} {h : VendorHdr}

/-! ### REG_READ and REG_WRITE -/

section
variable {part rsvd : Byte} {n : BitVec 16} {o : BitVec 32} (hu : mgtUp s b = true)
include hu

theorem exec_regRead_field (hb : hdrOk h = false ∨ regReadOk part rsvd n o = false) :
    exec (.regRead b h part rsvd n o) s = vendorAnswer 0x10 b h 1 [] s := by
  have hc : (!hdrOk h || !regReadOk part rsvd n o) = true := by rcases hb with hb | hb <;> simp [hb]
  simp only [exec, execRegRead, when_of_true hu, if_pos hc]

variable (hh : hdrOk h = true) (hr : regReadOk part rsvd n o = true)
include hh hr

theorem exec_regRead_notReady (hf : regFloorOk s n.toNat o.toNat = false) :
    exec (.regRead b h part rsvd n o) s = vendorAnswer 0x10 b h 3 [] s := by
  have hc : ¬ (!hdrOk h || !regReadOk part rsvd n o) = true := by simp [hh, hr]
  simp only [exec, execRegRead, when_of_true hu, if_neg hc, hf]
  rfl

theorem exec_regRead_words (hf : regFloorOk s n.toNat o.toNat = true) :
    exec (.regRead b h part rsvd n o) s = vendorAnswer 0x10 b h 0
      (((List.range n.toNat).map (fun i => le 4 (readMgmt s b part.toNat (o.toNat + 4 * i)).toNat)).flatten) s := by
  have hc : ¬ (!hdrOk h || !regReadOk part rsvd n o) = true := by simp [hh, hr]
  simp only [exec, execRegRead, when_of_true hu, if_neg hc, hf]
  rfl

end

/-- The words of a REG_WRITE, written to the mailbox in order. -/
def mailboxWritten (b : Bool) (o : BitVec 32) (w : List (BitVec 32)) (s : State) : State :=
  w.zipIdx.foldl (fun s x => writeMailbox b (o.toNat + 4 * x.2) x.1 s) s

section
variable {o : BitVec 32} {n rsvd : BitVec 16} {w : List (BitVec 32)} (hu : mgtUp s b = true)
include hu

theorem exec_regWrite_field (hb : hdrOk h = false ∨ regWriteOk o n rsvd w = false) :
    exec (.regWrite b h o n rsvd w) s = vendorAnswer 0x11 b h 1 [] s := by
  have hc : (!hdrOk h || !regWriteOk o n rsvd w) = true := by rcases hb with hb | hb <;> simp [hb]
  simp only [exec, execRegWrite, when_of_true hu, if_pos hc]

variable (hh : hdrOk h = true) (hw : regWriteOk o n rsvd w = true)
include hh hw

theorem exec_regWrite_notReady (hf : floorService s = true) :
    exec (.regWrite b h o n rsvd w) s = vendorAnswer 0x11 b h 3 [] s := by
  have hc : ¬ (!hdrOk h || !regWriteOk o n rsvd w) = true := by simp [hh, hw]
  simp only [exec, execRegWrite, when_of_true hu, if_neg hc, if_pos hf]

theorem exec_regWrite_words (hf : floorService s = false) :
    exec (.regWrite b h o n rsvd w) s = vendorAnswer 0x11 b h 0 [] (mailboxWritten b o w s) := by
  have hc : ¬ (!hdrOk h || !regWriteOk o n rsvd w) = true := by simp [hh, hw]
  simp only [exec, execRegWrite, when_of_true hu, if_neg hc, hf]
  rfl

end

/-- A word for a mailbox changes its own management port and the queue of messages alone (R509). -/
theorem writeMailbox_changes (b : Bool) (a : Nat) (w : BitVec 32) (s : State) :
    (writeMailbox b a w s).sc = s.sc ∧ mgtOf (writeMailbox b a w s) (!b) = mgtOf s (!b) := by
  have hm : ∀ f s, (upMgt b f s).sc = s.sc ∧ mgtOf (upMgt b f s) (!b) = mgtOf s (!b) := by
    intro f s
    cases b <;> exact ⟨rfl, rfl⟩
  unfold writeMailbox
  dsimp only
  split
  · split
    · unfold mbxGo
      dsimp only
      split
      · exact hm _ s
      · split
        · exact ⟨(hm _ _).1.trans (hm _ s).1, (hm _ _).2.trans (hm _ s).2⟩
        · exact hm _ s
    · exact hm _ s
  · split
    · exact hm _ s
    · exact ⟨rfl, rfl⟩

theorem mailboxWritten_changes (b : Bool) (o : BitVec 32) (w : List (BitVec 32)) (s : State) :
    (mailboxWritten b o w s).ev = s.ev ∧ (mailboxWritten b o w s).sc = s.sc ∧
      mgtOf (mailboxWritten b o w s) (!b) = mgtOf s (!b) := by
  unfold mailboxWritten
  generalize w.zipIdx = l
  induction l generalizing s with
  | nil => exact ⟨rfl, rfl, rfl⟩
  | cons x l ih =>
    obtain ⟨hsc, hother⟩ := writeMailbox_changes b (o.toNat + 4 * x.2) x.1 s
    obtain ⟨hev', hsc', hother'⟩ := ih (writeMailbox b (o.toNat + 4 * x.2) x.1 s)
    exact ⟨hev'.trans (writeMailbox_ev ..), hsc'.trans hsc, hother'.trans hother⟩

theorem mailboxWritten_mor (b : Bool) (o : BitVec 32) (w : List (BitVec 32)) (s : State) : (mailboxWritten b o w s).mor = s.mor := by
  simp [mailboxWritten]

/-! ### Writes of the host -/

theorem writeBar_eps (n p a len : Nat) (v : BitVec 32) (s : State) : (writeBar n p a len v s).fab.eps = s.fab.eps := by
  unfold writeBar writeBar0
  dsimp only
  (repeat' split) <;> rfl

section
variable {n a len : Nat} {p : BitVec 2} {v : BitVec 32} (hc : csfReach s p.toNat b = true)
include hc

theorem exec_registerWrite_bar (hn : n ≠ 2) :
    exec (.registerWrite (.bar n p len b) a v) s = done (writeBar n p.toNat a len v s) := by
  simp only [exec, execRegisterWrite, when_of_true hc, if_neg hn]

/-- Anything but four bytes at a multiple of 4 is dropped (R395, R501). -/
theorem exec_registerWrite_bar_dropped (hl : len ≠ 4 ∨ a % 4 ≠ 0) : exec (.registerWrite (.bar n p len b) a v) s = done s := by
  by_cases hn : n = 2
  · have hd : len ≠ 4 ∨ a % 4 ≠ 0 ∨ barSize s p.toNat 2 ≤ a ∨ (!hostRings s p.toNat b) = true := hl.imp_right .inl
    simp only [exec, execRegisterWrite, when_of_true hc, if_pos hn, writeDoorbell, if_pos hd]
  · rw [exec_registerWrite_bar hc hn, writeBar, if_pos hl]

variable (hr : hostRings s p.toNat b = true) (ha : a < barSize s p.toNat 2) (h4 : dbStride s p.toNat % 4 = 0)
include hr ha h4

/-- A write of four bytes to BAR2 is a doorbell of the ring at its place, or nothing. -/
theorem exec_registerWrite_doorbell (hm : a % dbStride s p.toNat % 4 = 0) : exec (.registerWrite (.bar 2 p 4 b) a v) s =
    if a % dbStride s p.toNat = 0 then exec (.doorbellSq p (BitVec.ofNat 18 (a / dbStride s p.toNat)) v b) s
    else if a % dbStride s p.toNat = 4 then exec (.doorbellCq p (BitVec.ofNat 18 (a / dbStride s p.toNat)) v b) s
    else done s := by
  have ha4 : a % 4 = 0 := (Nat.mod_mod_of_dvd a (Nat.dvd_of_mod_eq_zero h4)).symm.trans hm
  have hd : ¬ (4 ≠ 4 ∨ a % 4 ≠ 0 ∨ barSize s p.toNat 2 ≤ a ∨ (!hostRings s p.toNat b) = true) := by
    simp [ha4, ha, hr]
  simp only [exec, execRegisterWrite, when_of_true hc, if_true, writeDoorbell, if_neg hd]

end

/-! ### Writes of a core -/

theorem le_length (k n : Nat) : (le k n).length = k := by
  simp [le]

theorem unle_le_four (v : BitVec 32) : BitVec.ofNat 32 (unle (le 4 v.toNat)) = v := by
  have hl : le 4 v.toNat = [BitVec.ofNat 8 v.toNat, BitVec.ofNat 8 (v.toNat >>> 8), BitVec.ofNat 8 (v.toNat >>> 16),
      BitVec.ofNat 8 (v.toNat >>> 24)] := rfl
  have hv := v.isLt
  apply BitVec.eq_of_toNat_eq
  simp only [hl, unle, BitVec.toNat_ofNat, Nat.shiftRight_eq_div_pow]
  omega

section
variable {a : Nat} {v : BitVec 32} (hr : coreRuns s = true)
include hr

/-- A core's write of four bytes takes place. -/
theorem exec_registerWrite_core {t : State} (hw : writeInternal a (le 4 v.toNat) s = some t) :
    exec (.registerWrite (.internal false 4 0) a v) s = done t := by
  have ht : (le 4 v.toNat ++ le 4 (BitVec.toNat (0 : BitVec 32))).take 4 = le 4 v.toNat := List.take_left' (le_length 4 _)
  simp only [exec, execRegisterWrite, when_of_true hr, ht, hw]

/-- A core's write that the space refuses is a bus error. -/
theorem exec_registerWrite_core_refused (hw : writeInternal a (le 4 v.toNat) s = none) :
    exec (.registerWrite (.internal false 4 0) a v) s = busError s := by
  have ht : (le 4 v.toNat ++ le 4 (BitVec.toNat (0 : BitVec 32))).take 4 = le 4 v.toNat := List.take_left' (le_length 4 _)
  simp only [exec, execRegisterWrite, when_of_true hr, ht, hw]

end

/-- A word at an offset of the Mordant's block is a write of that register, while an oscillator toggles. -/
theorem writeInternal_mordant {a : Nat} (v : BitVec 32) (ha : aocRuns s = true) (h4 : a % 4 = 0) (hlt : a < 0x10000) :
    writeInternal (0x40080000 + a) (le 4 v.toNat) s = some (writeMordant a v s) := by
  have hn : (0x40080000 + a - 0x40000000) / 0x10000 = 8 := by omega
  have hm : (0x40080000 + a) % 0x10000 = a := by omega
  have hb : blockBars s (0x40080000 + a) 4 = false := by
    have h4' : (0x40080000 + a) % 4 = 0 := by omega
    simp [blockBars, hn, ha, h4']
  have h1 : ¬ (0x10000000 ≤ 0x40080000 + a ∧ 0x40080000 + a + 4 ≤ 0x10800000) := by omega
  have h2 : ¬ (0x80000000 ≤ 0x40080000 + a ∧ 0x40080000 + a + 4 ≤ 0x80000000 + workSize) := by omega
  have h3 : 0x40000000 ≤ 0x40080000 + a ∧ 0x40080000 + a < 0x402f0000 := by omega
  simp only [writeInternal, le_length, if_neg h1, if_neg h2, if_pos h3, hb, hn, hm, unle_le_four]
  rfl

/-- The configuration of the Mordant and its lock (R110). -/
def configPart (m : Mordant) : Tab (BitVec 4) × Tab (BitVec 32) × Tab (BitVec 6) × Tab (BitVec 6) × Bool :=
  (m.attr, m.prereq, m.outMap, m.vslotMap, m.lock)

/-- A locked configuration is not written (R110). -/
theorem writeMordant_locked (a : Nat) (v : BitVec 32) (hl : s.mor.lock = true) :
    configPart (writeMordant a v s).mor = configPart s.mor := by
  unfold writeMordant
  rw [hl]
  dsimp only
  split
  · split
    · have hu := settle_unmoved (upMor (fun m => { m with lock := true }) s)
      have hc : configPart (upMor (fun m => { m with lock := true }) s).mor = configPart s.mor := by
        simp [configPart, hl]
      exact (congrArg configPart hu :).trans hc
    · rfl
  all_goals rfl

/-- With the lock open, MORDANT_DOM_ATTR writes the attributes of the selected domain and nothing else of the configuration. -/
theorem writeMordant_attr (v : BitVec 32) (hl : s.mor.lock = false) :
    (writeMordant 0x44 v s).mor = { s.mor with attr := tabSet 0 s.mor.attr s.mor.selDom (v.setWidth 4) } := by
  simp [writeMordant, hl]

/-- A write below the SRAM's protected end is refused (R428). -/
theorem writeInternal_protected {a : Nat} (v : BitVec 32) (hlo : 0x10000000 ≤ a) (hhi : a + 4 ≤ 0x10800000) (hp : a < sramProtected s) :
    writeInternal a (le 4 v.toNat) s = none := by
  rw [writeInternal, le_length, if_pos ⟨hlo, hhi⟩, if_pos hp]

theorem writeInternal_sram {a : Nat} (v : BitVec 32) (hlo : 0x10000000 ≤ a) (hhi : a + 4 ≤ 0x10800000) (hp : sramProtected s ≤ a) :
    writeInternal a (le 4 v.toNat) s =
      some (upSc (fun c => { c with sram := memWrite 0 c.sram (a - 0x10000000) (le 4 v.toNat) }) s) := by
  rw [writeInternal, le_length, if_pos ⟨hlo, hhi⟩, if_neg (Nat.not_lt.2 hp)]

/-! ### Writes of JTAG -/

/-- Without a session JTAG reaches no register (R153, R499). -/
theorem exec_registerWrite_jtag_none {a len : Nat} {v high : BitVec 32} (hs : s.otp.session = none) :
    exec (.registerWrite (.internal true len high) a v) s = notNow s := by
  have hj : jtagReach s = false := by simp [jtagReach, hs]
  simp [exec, execRegisterWrite, when, hj]

theorem exec_registerWrite_jtag {a len : Nat} {v high : BitVec 32} (hj : jtagReach s = true) (hlo : 0x40000000 ≤ a)
    (hhi : a < 0x80000000) : exec (.registerWrite (.internal true len high) a v) s = jtagWrite a len v s := by
  have hg : (jtagReach s && decide (0x40000000 ≤ a) && decide (a < 0x80000000)) = true := by simp [hj, hlo, hhi]
  exact when_of_true hg _ _

theorem jtagOut_busError (s : State) : jtagOut s (busError s) = answer .busError s := rfl

/-- A JTAG write of a Mordant register that is a command of its own does what that command does, and is a bus error while no oscillator
toggles (R499, R501, R514). -/
theorem jtagWrite_mordant {a : Nat} {v : BitVec 32} {o : Out} (h4 : a % 4 = 0) (hlt : a < 0x10000)
    (ho : ownWrite 8 a v s = some (mordantAccess s o)) :
    jtagWrite (0x40080000 + a) 4 v s = jtagOut s (mordantAccess s o) := by
  have hn : (0x40080000 + a - 0x40000000) / 0x10000 = 8 := by omega
  have hm : (0x40080000 + a) % 0x10000 = a := by omega
  have h4' : (0x40080000 + a) % 4 = 0 := by omega
  have hlt' : ¬ 0x402f0000 ≤ 0x40080000 + a := by omega
  cases ha : aocRuns s with
  | false =>
    have hb : blockBars s (0x40080000 + a) 4 = true := by simp [blockBars, hn, ha]
    simp [jtagWrite, hb, mordantAccess, ha, jtagOut_busError]
  | true =>
    have hb : blockBars s (0x40080000 + a) 4 = false := by simp [blockBars, hn, ha, h4']
    simp only [jtagWrite, hb, hn, hm, ho, hlt']
    simp

/-! ### What the accesses leave -/

theorem exec_regWrite_leaves {o : BitVec 32} {n rsvd : BitVec 16} {w : List (BitVec 32)} (hu : mgtUp s b = true) (hh : hdrOk h = true)
    (hw : regWriteOk o n rsvd w = true) (hf : floorService s = false) :
    ∃ t, exec (.regWrite b h o n rsvd w) s = .next t ∧
      t = say (.response (vendorReply 0x11 h s 0 [])) (mgtMsg b (mailboxWritten b o w s)) ∧ t.mor = s.mor ∧ t.otp = s.otp ∧
      t.ev = s.ev ∧ t.fab = s.fab ∧ t.nrx = s.nrx ∧ t.sc = s.sc ∧ mgtOf t (!b) = mgtOf s (!b) := by
  have hm := mailboxWritten_mor b o w s
  have hr : vendorReply 0x11 h (mailboxWritten b o w s) 0 [] = vendorReply 0x11 h s 0 [] := by rw [vendorReply, vendorReply, hm]
  obtain ⟨hev, hsc, hother⟩ := mailboxWritten_changes b o w s
  have hx := exec_regWrite_words hu hh hw hf
  rw [vendorAnswer, hr] at hx
  refine ⟨_, hx, rfl, ?_, ?_, ?_, ?_, ?_, ?_, ?_⟩
  · simp [hm]
  · simp [mailboxWritten]
  · simp [hev]
  · simp [mailboxWritten]
  · simp [mailboxWritten]
  · cases b <;> exact hsc
  · cases b <;> exact hother

section
variable {a : Nat} {v : BitVec 32} (hr : coreRuns s = true) (ha : s.mor.aocA = true)
include hr ha

theorem exec_registerWrite_mordant (h4 : a % 4 = 0) (hlt : a < 0x10000) :
    exec (.registerWrite (.internal false 4 0) (0x40080000 + a) v) s = done (writeMordant a v s) := by
  have haoc : aocRuns s = true := by simp [aocRuns, ha]
  exact exec_registerWrite_core hr (writeInternal_mordant v haoc h4 hlt)

theorem exec_registerWrite_locked (hl : s.mor.lock = true) (h4 : a % 4 = 0) (hlt : a < 0x10000) :
    ∃ t, exec (.registerWrite (.internal false 4 0) (0x40080000 + a) v) s = .next t ∧ t.mor.attr = s.mor.attr ∧
      t.mor.prereq = s.mor.prereq ∧ t.mor.outMap = s.mor.outMap ∧ t.mor.vslotMap = s.mor.vslotMap ∧ t.mor.lock = true := by
  obtain ⟨hattr, hpre, hout, hslot, hlock⟩ : _ ∧ _ ∧ _ ∧ _ ∧ _ := by simpa [configPart] using writeMordant_locked a v hl
  exact ⟨_, exec_registerWrite_mordant hr ha h4 hlt, hattr, hpre, hout, hslot, hlock.trans hl⟩

theorem exec_registerWrite_attr (hl : s.mor.lock = false) :
    ∃ t, exec (.registerWrite (.internal false 4 0) 0x40080044 v) s = .next t ∧
      tabGet 0 t.mor.attr s.mor.selDom = v.setWidth 4 ∧ (∀ d, d ≠ s.mor.selDom → domAttr t d = domAttr s d) ∧
      t.mor.outMap = s.mor.outMap ∧ t.mor.dom = s.mor.dom := by
  have hm := writeMordant_attr v hl
  have hattr : (writeMordant 0x44 v s).mor.attr = tabSet 0 s.mor.attr s.mor.selDom (v.setWidth 4) := congrArg Mordant.attr hm
  refine ⟨_, exec_registerWrite_mordant (a := 0x44) hr ha (by omega) (by omega), ?_, fun d hd => ?_, ?_, ?_⟩
  · exact (congrArg (fun t => tabGet 0 t s.mor.selDom) hattr).trans (tabGet_tabSet_self ..)
  · exact (congrArg (fun t => tabGet 0 t d) hattr).trans (tabGet_tabSet_ne _ _ _ _ _ hd)
  · exact (congrArg Mordant.outMap hm :)
  · exact (congrArg Mordant.dom hm :)

end

/-- JTAG's writes of the request registers do what those requests do. -/
theorem exec_registerWrite_jtag_requests {v high : BitVec 32} (hj : jtagReach s = true) :
    exec (.registerWrite (.internal true 4 high) 0x4008003c v) s = jtagOut s (tripReq v s) ∧
    exec (.registerWrite (.internal true 4 high) 0x4008001c v) s = jtagOut s (holdReq v s) ∧
    exec (.registerWrite (.internal true 4 high) 0x40080018 v) s = jtagOut s (releaseReq v s) := by
  refine ⟨?_, ?_, ?_⟩
  · rw [exec_registerWrite_jtag hj (by omega) (by omega)]
    exact jtagWrite_mordant (a := 0x3c) (by omega) (by omega) rfl
  · rw [exec_registerWrite_jtag hj (by omega) (by omega)]
    exact jtagWrite_mordant (a := 0x1c) (by omega) (by omega) rfl
  · rw [exec_registerWrite_jtag hj (by omega) (by omega)]
    exact jtagWrite_mordant (a := 0x18) (by omega) (by omega) rfl

end Sys2Proof.Machine
end

section
/-!
PROOF. Self-test and the ROM stage (R34, R110, R122, R214, R285, R461).
-/
namespace Sys2Proof.Machine

open Sys2Proof

variable {s : State} {t : SelfTest}

/-! ### From self-test to the fuses -/

/-- The state in which ROM begins: the units that passed, the fuses sensed, the watchdog served. -/
def romStart (t : SelfTest) (s : State) : State := wdtServed (unitsScanned (romFuses t (unitsAfter t s)))

theorem romStart_eq (t : SelfTest) (s : State) : wdtServed (unitsScanned (romFuses t (unitsAfter t s))) = romStart t s := rfl

theorem wdtServed_wdtOnly (s : State) : ∃ w, wdtServed s = { s with wdt := w } := by
  unfold wdtServed
  split
  · exact ⟨s.wdt, rfl⟩
  · exact ⟨_, rfl⟩

theorem romStart_running (t : SelfTest) (s : State) : (romStart t s).sc.running = s.sc.running := by
  obtain ⟨w, hw⟩ := wdtServed_wdtOnly (unitsScanned (romFuses t (unitsAfter t s)))
  rw [romStart, hw]
  rfl

theorem romStart_cfg (t : SelfTest) (s : State) : (romStart t s).cfg = s.cfg := by
  obtain ⟨w, hw⟩ := wdtServed_wdtOnly (unitsScanned (romFuses t (unitsAfter t s)))
  rw [romStart, hw]
  rfl

theorem romStart_mor (t : SelfTest) (s : State) : (romStart t s).mor = s.mor := by
  simp [romStart]

section
variable (hm : s.sc.mainGood = true) (hd : s.sc.selfTestDue = true)
include hm hd

theorem selfTestDone_guard : (s.sc.mainGood && s.sc.selfTestDue) = true := by
  simp [hm, hd]

/-- A bad core set leaves Hold as the only service (R34). -/
theorem exec_selfTestDone_coreBad (hc : coreSetOk t (unitsAfter t s) = false) :
    exec (.selfTestDone t) s = done (upSc (fun c => { c with holdOnly := true }) (unitsAfter t s)) := by
  simp only [exec, execSelfTestDone, when_of_true (selfTestDone_guard hm hd), hc]
  rfl

variable (hc : coreSetOk t (unitsAfter t s) = true) (ha : aocRuns (romStart t s) = true)
include hc ha

/-- Fuses that decide FLOOR end the start with cause 3 (R140). -/
theorem exec_selfTestDone_fusesBad (hf : fusesBad (romStart t s) = true) :
    exec (.selfTestDone t) s = done (romFloor 3 (romStart t s)) := by
  simp only [exec, execSelfTestDone, when_of_true (selfTestDone_guard hm hd), hc, romStart_eq, ha, hf]
  rfl

variable (hf : fusesBad (romStart t s) = false) (hp : paUp (romStart t s) = true)
include hf hp

/-- With no directory, or no bundle, the start ends with cause 1 (R122). -/
theorem exec_selfTestDone_noBundle (hb : bootDir s.cfg = none ∨ romBundle (romStart t s) = none) :
    exec (.selfTestDone t) s = done (romFloor 1 (romStart t s)) := by
  cases hdir : (bootDir (romStart t s).cfg).isNone with
  | true =>
    simp only [exec, execSelfTestDone, when_of_true (selfTestDone_guard hm hd), hc, romStart_eq, ha, hf, hp, hdir]
    rfl
  | false =>
    have hn : romBundle (romStart t s) = none := hb.resolve_left (fun h => by simp [romStart_cfg, h] at hdir)
    simp only [exec, execSelfTestDone, when_of_true (selfTestDone_guard hm hd), hc, romStart_eq, ha, hf, hp, hdir, hn]
    rfl

/-- With a bundle and a policy accepted ROM prepares the configuration and goes on (R122). -/
theorem exec_selfTestDone_policy {k : Bool} {b : Bundle} {p : PolicyImage} (hdir : (bootDir (romStart t s).cfg).isSome = true)
    (hb : romBundle (romStart t s) = some (k, b)) (hfl : (romPolicy t (romTake k b (romStart t s))).mor.floorCause = 0)
    (hpol : (romPolicy t (romTake k b (romStart t s))).run.policy = some p) :
    exec (.selfTestDone t) s = done (romGo t.cbus (romPrepare p (romPolicy t (romTake k b (romStart t s))))) := by
  obtain ⟨x, hx⟩ := Option.isSome_iff_exists.1 hdir
  simp only [exec, execSelfTestDone, when_of_true (selfTestDone_guard hm hd), hc, romStart_eq, ha, hf, hp, hx, hb, hfl, hpol]
  rfl

end

/-! ### The configuration and its lock -/

/-- Changes of channels change the channels alone. -/
theorem foldl_upChan {α : Type} (l : List α) (k : α → Nat) (f : α → Channel → Channel) (s : State) :
    ∃ c, l.foldl (fun s r => upChan (k r) (f r) s) s = { s with chans := c } := by
  induction l generalizing s with
  | nil => exact ⟨s.chans, rfl⟩
  | cons x l ih =>
    obtain ⟨c, hc⟩ := ih (upChan (k x) (f x) s)
    exact ⟨c, hc⟩

/-- The configuration of the policy is written, before its channels begin their self-test. -/
def romPrepared (p : PolicyImage) (s : State) : State :=
  { upMor (fun m => { m with
      attr := tabSetAll 0 tabEmpty (p.domains.map (fun d => (d.domain, BitVec.ofNat 4 (1 + 2 * d.attr))))
      prereq := tabSetAll 0 tabEmpty (p.domains.map (fun d => (d.domain, d.prereq)))
      outMap := tabSetAll 0 tabEmpty (p.resets.map (fun r => (r.output, BitVec.ofNat 6 (32 + r.domain))))
      vslotMap := tabSetAll 0 tabEmpty (p.images.map (fun r => (r.slot, BitVec.ofNat 6 (32 + r.domain)))) }) s with
    run := { s.run with tblActive := s.activeHalf, tblStaged := s.staged }
    chans := ⟨s.chans.cells.map (fun c => (c.1, if c.1 ≠ 0 ∧ (polChannel p c.1).isNone then { c.2 with st := .off } else c.2))⟩ }

/-- Preparing the configuration leaves the policy, the Service Complex, the oscillators, the lock and the domains. -/
theorem romPrepare_keeps (p : PolicyImage) (s : State) :
    (romPrepare p s).run.policy = s.run.policy ∧ (romPrepare p s).sc = s.sc ∧ aocRuns (romPrepare p s) = aocRuns s ∧
      (romPrepare p s).mor.lock = s.mor.lock ∧ (romPrepare p s).mor.dom = s.mor.dom := by
  obtain ⟨c, hc⟩ := foldl_upChan p.channels (fun r => r.channel)
    (fun r c => { c with cfg := chCfgWord r, ops := chOpsWord r, geom := chGeomWord r, st := if c.st = .off then .selftest else c.st })
    (romPrepared p s)
  have he : romPrepare p s = { romPrepared p s with chans := c } := hc
  rw [he]
  exact ⟨rfl, rfl, rfl, rfl, rfl⟩

/-- The lock of the configuration and the start phase. -/
def lockPart (m : Mordant) : Bool × Nat := (m.lock, m.phase)

theorem heldRecord_lockPart (d cause : Nat) (final : Bool) (s : State) : lockPart (heldRecord d cause final s).mor = lockPart s.mor := by
  rw [heldRecord, emitFw_mor]
  rfl

theorem imgFinal_lockPart (cause k : Nat) (s : State) : lockPart (imgFinal cause k s).mor = lockPart s.mor := by
  unfold imgFinal markFinal
  split
  · rfl
  · exact heldRecord_lockPart ..

theorem chanLost_lockPart (k : Nat) (s : State) : lockPart (chanLost k s).mor = lockPart s.mor :=
  each_keeps (P := fun t => lockPart t.mor = lockPart s.mor) (fun n _ t ht => (imgFinal_lockPart 4 n t).trans ht) rfl

theorem foldl_chanLost_lockPart (l : List ChannelRec) (s : State) :
    lockPart (l.foldl (fun s r => chanLost r.channel s) s).mor = lockPart s.mor := by
  induction l generalizing s with
  | nil => rfl
  | cons x l ih => exact (ih _).trans (chanLost_lockPart x.channel s)

/-- ROM locks the configuration, and the start verifies (R101, R110). -/
theorem romLock_lockPart (p : PolicyImage) (s : State) : lockPart (romLock p s).mor = (true, 2) := by
  unfold romLock
  dsimp only
  rw [foldl_mor _ _ _ (by simp), foldl_chanLost_lockPart, upWdt_mor, emit_mor]
  rfl

theorem romSlot_aocRuns (t : SelfTest) (k : Bool) (s : State) : aocRuns (romSlot t k s) = aocRuns s := by
  unfold romSlot
  dsimp only
  (repeat' split) <;> simp [aocRuns, romFloor]

/-! ### Once the configuration is written -/

theorem romGo_waits {found : List (Nat × Nat)} {p : PolicyImage} (hp : s.run.policy = some p) (hw : replayWaits s = true) :
    romGo found s = { s with run := { s.run with romWait := some found } } := by
  simp only [romGo, hp, if_pos hw]

theorem romGo_starts {found : List (Nat × Nat)} {p : PolicyImage} (hp : s.run.policy = some p) (hw : replayWaits s = false)
    (ha : aocRuns s = true) :
    romGo found s = firmwareStart found (romLock p { s with run := { s.run with romWait := none } }) := by
  simp [romGo, hp, hw, ha]

theorem romPolicy_aocRuns {k : Bool} {b : Bundle} : aocRuns (romPolicy t (romTake k b s)) = aocRuns s := by
  rw [romPolicy, romSlot_aocRuns, romSlot_aocRuns, aocRuns, romTake_mor]
  rfl

/-- With the configuration written ROM waits for replay, if there is any to do, or locks it and starts firmware (R122, R214). -/
theorem romGo_romPrepare (found : List (Nat × Nat)) {p : PolicyImage} (hp : s.run.policy = some p) (ha : aocRuns s = true) :
    (replayWaits (romPrepare p s) = true →
      (romGo found (romPrepare p s)).mor.lock = s.mor.lock ∧ (romGo found (romPrepare p s)).sc = s.sc) ∧
    (replayWaits (romPrepare p s) = false → romGo found (romPrepare p s) =
      firmwareStart found (romLock p { romPrepare p s with run := { (romPrepare p s).run with romWait := none } })) ∧
    (romLock p (romPrepare p s)).mor.lock = true ∧ (romLock p (romPrepare p s)).mor.phase = 2 ∧
    (∀ d, domSt (romPrepare p s) d = domSt s d) := by
  obtain ⟨hpol, hsc, haoc, hlock, hdom⟩ := romPrepare_keeps p s
  refine ⟨fun hw => ?_, fun hw => romGo_starts (hpol.trans hp) hw (haoc.trans ha), congrArg Prod.fst (romLock_lockPart p _),
    congrArg Prod.snd (romLock_lockPart p _), fun d => congrArg (fun t => tabGet DomState.held t d) hdom⟩
  rw [romGo_waits (hpol.trans hp) hw]
  exact ⟨hlock, hsc⟩

/-- Settles O60: an access does what its register's rule says, and the start goes as far as self-test, fuses, slots and replay let it. -/
theorem registersAndTheStart : Obligations.RegistersAndTheStart := by
  unfold Obligations.RegistersAndTheStart
  refine ⟨?_, ?_, ?_, ?_, ?_, ?_, ?_, ?_, ?_, ?_, ?_, ?_, ?_, ?_, ?_, ?_, ?_, ?_, ?_, ?_, ?_⟩
  · exact fun b h part rsvd n o s ⟨hu, hb⟩ => exec_regRead_field hu hb
  · exact fun b h part rsvd n o s ⟨hu, hh, hr, hf⟩ => exec_regRead_notReady hu hh hr hf
  · exact fun b h part rsvd n o s ⟨hu, hh, hr, hf⟩ => exec_regRead_words hu hh hr hf
  · exact fun b h o n rsvd w s ⟨hu, hb⟩ => exec_regWrite_field hu hb
  · exact fun b h o n rsvd w s ⟨hu, hh, hw, hf⟩ => exec_regWrite_notReady hu hh hw hf
  · exact fun b h o n rsvd w s ⟨hu, hh, hw, hf⟩ => exec_regWrite_leaves hu hh hw hf
  · exact fun n a len p b v s ⟨hc, hn⟩ =>
      ⟨_, exec_registerWrite_bar hc hn, rfl, writeBar_mor .., writeBar_otp .., writeBar_ev .., writeBar_eps ..⟩
  · exact fun n a len p b v s ⟨hc, hl⟩ => exec_registerWrite_bar_dropped hc hl
  · intro a p b v s ⟨hc, hr, ha, h4⟩
    refine ⟨fun h0 => ?_, fun h4' => ?_⟩
    · rw [exec_registerWrite_doorbell hc hr ha h4 (by rw [h0]), if_pos h0]
    · rw [exec_registerWrite_doorbell hc hr ha h4 (by rw [h4']), if_neg (by rw [h4']; simp), if_pos h4']
  · exact fun a v s ⟨hr, ha, hl, h4, hlt⟩ => exec_registerWrite_locked hr ha hl h4 hlt
  · exact fun v s ⟨hr, ha, hl⟩ => exec_registerWrite_attr hr ha hl
  · exact fun a v s ⟨hr, hlo, hhi, hp⟩ =>
      ⟨_, exec_registerWrite_core_refused hr (writeInternal_protected v hlo hhi hp), rfl, rfl, rfl, rfl⟩
  · exact fun a v s ⟨hr, hhi, hlo, hp⟩ => exec_registerWrite_core hr (writeInternal_sram v hlo hhi hp)
  · exact fun a len v h s hs => exec_registerWrite_jtag_none hs
  · intro a len v h s ⟨hj, hlo, hhi, hb⟩
    rw [exec_registerWrite_jtag hj hlo hhi, jtagWrite, if_pos (.inr hb)]
    rfl
  · exact fun v h s hj => exec_registerWrite_jtag_requests hj
  · exact fun t s ⟨hm, hd, hc⟩ => exec_selfTestDone_coreBad hm hd hc
  · exact fun t s ⟨hm, hd, hc, ha, hf⟩ =>
      ⟨_, exec_selfTestDone_fusesBad hm hd hc ha hf, rfl, (congrArg Mordant.lock (romStart_mor t s) :), romStart_running t s⟩
  · exact fun t s ⟨hm, hd, hc, ha, hf, hp, hb⟩ =>
      ⟨_, exec_selfTestDone_noBundle hm hd hc ha hf hp hb, rfl, (congrArg Mordant.lock (romStart_mor t s) :), romStart_running t s⟩
  · intro t s k b p s1 s2 ⟨hm, hd, hc, h1, ha, hf, hp, hdir, hb, h2, hfl, hpol⟩
    obtain rfl : s1 = romStart t s := h1
    subst h2
    exact ⟨exec_selfTestDone_policy hm hd hc ha hf hp hdir hb hfl hpol, romGo_romPrepare t.cbus hpol (romPolicy_aocRuns.trans ha)⟩
  · intro s ⟨hf, he, hm⟩
    have hg : (fwRuns s && fabricEn s && !s.run.microcode) = true := by simp [hf, he, hm]
    exact when_of_true hg _ _

end Sys2Proof.Machine
end

section
/-!
PROOF. The loss of VIO_RST holds every domain (R80, R81, R105).
-/
namespace Sys2Proof.Machine

open Sys2Proof

variable {s : State} {d : Nat}

/-! ### A domain that is not released, while VIO_RST is not good -/

/-- No hold makes a domain released. -/
theorem holdDom_not_released (cause : Nat) (final : Bool) (n : Nat) (h : domSt s d ≠ .released) :
    domSt (holdDom cause final n s) d ≠ .released := by
  by_cases hn : d = n
  · subst hn
    rcases holdDom_cases cause final d s with hs | ⟨hr, -⟩
    · rwa [hs]
    · exact absurd hr h
  · rwa [holdDom_domSt_ne cause final hn]

theorem each_holdDom_not_released (l : List Nat) (cause : Nat) (final : Bool) (h : domSt s d ≠ .released) :
    domSt (each l (holdDom cause final) s) d ≠ .released :=
  each_keeps (P := fun t => domSt t d ≠ .released) (fun n _ _ ht => holdDom_not_released cause final n ht) h

theorem cascade_not_released (n : Nat) (h : domSt s d ≠ .released) : domSt (cascade n s) d ≠ .released := by
  induction n generalizing s with
  | zero => exact h
  | succ n ih =>
    unfold cascade
    dsimp only
    split
    · exact h
    · exact ih (each_holdDom_not_released _ 2 false h)

theorem interlockOk_of_no_vioRst (h : s.mor.vioRst = none) (d : Nat) : interlockOk s d = false := by
  simp [interlockOk, h]

/-- With VIO_RST not good the Interlock releases nothing (R111). -/
theorem interlock_of_no_vioRst (h : s.mor.vioRst = none) (n : Nat) : interlock n s = s := by
  cases n with
  | zero => rfl
  | succ n => simp [interlock, interlockOk_of_no_vioRst h]

/-- With a clock and VIO_RST not good, no listed domain stays RELEASED (R81). -/
theorem vioHold_not_released (hv : s.mor.vioRst = none) (ha : aocRuns s = true) (hl : domSt s d = .released → d ∈ domsListed s) :
    domSt (vioHold s) d ≠ .released := by
  have hg : ¬ (s.mor.vioRst.isSome && !s.mor.vioLost) = true := by simp [hv]
  rw [vioHold, if_neg hg]
  by_cases hd : domSt s d = .released
  · have hm : d ∈ (domsListed s).filter (fun d => decide (domSt s d = .released)) := by simp [hl hd, hd]
    obtain ⟨hheld, hne, -⟩ := each_holdDom_holds (s := upMor (fun m => { m with vioLost := false }) s) 8 false hm hd ha
    exact fun h => hne (hheld.symm.trans h)
  · exact each_holdDom_not_released _ 8 false hd

theorem domSt_of_domPart {s t : State} (h : domPart t.mor = domPart s.mor) (d : Nat) : domSt t d = domSt s d := by
  have hd : t.mor.dom = s.mor.dom := congrArg Prod.fst h
  rw [domSt, domSt, hd]

/-- Once VIO_RST is not good, settling holds every listed domain and releases none. -/
theorem settle_not_released (hc : clocked s = true) (hv : s.mor.vioRst = none) (hl : domSt s d = .released → d ∈ domsListed s) :
    domSt (settle s) d ≠ .released := by
  have hh : domSt (cascade 33 (vioHold s)) d ≠ .released :=
    cascade_not_released 33 (vioHold_not_released hv (aocRuns_of_clocked hc) hl)
  have hu : unmoved (vatWithdraw (cascade 33 (vioHold s))).mor = unmoved s.mor := by simp
  have hr : (vatWithdraw (cascade 33 (vioHold s))).mor.vioRst = none := (congrArg Mordant.vioRst hu :).trans hv
  have hg : ¬ (!clocked s) = true := by simp [hc]
  have hp : domPart (settle s).mor = domPart (cascade 33 (vioHold s)).mor := by
    rw [settle, if_neg hg]
    dsimp only
    rw [interlock_of_no_vioRst hr]
    simp
  rwa [domSt_of_domPart hp]

/-- Settles O12: every released domain is listed, so the loss holds each of them, and the Interlock releases none without VIO_RST. -/
theorem vioRstLossHoldsEverything : Obligations.VioRstLossHoldsEverything := by
  unfold Obligations.VioRstLossHoldsEverything
  intro s ⟨hc, hv, hl⟩
  obtain ⟨⟨hvsec, -⟩, -⟩ : (s.mor.vsec = true ∧ s.mor.latched = true) ∧ (s.mor.aocA = true ∨ s.mor.aocB = true) := by
    simpa [clocked] using hc
  have hg : (s.mor.vsec && s.mor.vioRst.isSome) = true := by simp [hvsec, hv]
  exact ⟨_, when_of_true hg _ _, fun d =>
    settle_not_released (s := upMor (fun m => { m with vioRst := none, vioLost := true }) s) hc rfl (hl d)⟩

end Sys2Proof.Machine
end

section
/-!
PROOF. A custody channel whose bank falls low stops with nothing in progress, and no other channel changes (R77, R213).
-/
namespace Sys2Proof.Machine

open Sys2Proof

variable {s : State} {j k : Nat}

/-- A channel that has stopped with no frame, status poll or commit in progress, and no pass active. -/
structure ChanEmptied (c : Channel) : Prop where
  st : c.st = .stopped
  frame : c.frame = none
  wip0 : c.wip0 = none
  wip1 : c.wip1 = none
  commit : c.commit = none
  scrubActive : c.scrubActive = false

/-- Queue entries that leave with a completion keep what every single such completion keeps. -/
theorem fwAdvance_keeps {P : State → Prop} (k n : Nat)
    (h : ∀ (t : State) (e : QEntry) (st : Nat) (r : List QEntry) (b : Bool), P t →
      P (upChan k (fun c => { complete e st c with fwq := r, contBroken := b }) t))
    (hs : P s) : P (fwAdvance k n s) := by
  induction n generalizing s with
  | zero => exact hs
  | succ n ih =>
    unfold fwAdvance
    dsimp only
    split
    case h_1 => exact hs
    case h_2 =>
      split
      · exact hs
      · split
        · exact ih (h _ _ _ _ _ hs)
        · split
          · exact hs
          · split
            · exact hs
            · exact ih (h _ _ _ _ _ hs)

theorem fwAdvance_chanEmptied (n : Nat) (hs : ChanEmptied (chanOf s k)) : ChanEmptied (chanOf (fwAdvance k n s) k) := by
  refine fwAdvance_keeps (P := fun t => ChanEmptied (chanOf t k)) k n (fun t e st r b ht => ?_) hs
  rw [chanOf_upChan, if_pos rfl]
  exact { ht with }

theorem fwAdvance_chanOf_ne (hj : j ≠ k) (n : Nat) (s : State) : chanOf (fwAdvance k n s) j = chanOf s j := by
  refine fwAdvance_keeps (P := fun t => chanOf t j = chanOf s j) k n (fun t e st r b ht => ?_) rfl
  rw [chanOf_upChan, if_neg hj, ht]

/-- A commit that ends changes no more of the channels than that (R248). -/
theorem chanOf_commitLeave (j k : Nat) (s : State) :
    chanOf (commitLeave k s) j = if j = k then { chanOf s j with commit := none } else chanOf s j := by
  unfold commitLeave
  split
  case h_1 hc =>
    split_ifs with h
    · rw [h, ← hc]
    · rfl
  case h_2 =>
    have hu := chanOf_upChan (k := j) k (fun c => { c with commit := none }) s
    dsimp only
    split <;> exact hu

theorem chanOf_of_chans {s t : State} (h : t.chans = s.chans) (j : Nat) : chanOf t j = chanOf s j := by rw [chanOf, chanOf, h]

/-- What a stop does beside the channels (R213, R217, R262, R266). -/
theorem chanOf_stopAside (j k : Nat) (s : State) : chanOf (chanLost k (failStreams k (fillStop k s))) j = chanOf s j :=
  chanOf_of_chans (by simp) j

/-- A channel in service that stops is emptied (R213, R248). -/
theorem chanStop_chanEmptied (h : (chanOf s k).st = .ready ∨ (chanOf s k).st = .replay) : ChanEmptied (chanOf (chanStop k s) k) := by
  unfold chanStop
  dsimp only
  rw [if_pos h, chanOf_stopAside]
  refine fwAdvance_chanEmptied 65 ?_
  rw [chanOf_commitLeave, if_pos rfl, chanOf_upChan, if_pos rfl]
  exact ⟨rfl, rfl, rfl, rfl, rfl, rfl⟩

theorem chanStop_chanOf_ne (hj : j ≠ k) (s : State) : chanOf (chanStop k s) j = chanOf s j := by
  unfold chanStop
  dsimp only
  split_ifs
  · rw [chanOf_stopAside, fwAdvance_chanOf_ne hj, chanOf_commitLeave, if_neg hj, chanOf_upChan, if_neg hj]
  · rfl

/-- A low bank stops a channel that is in service (R77). -/
theorem bankStop_of_served (h : (chanOf s k).st = .ready ∨ (chanOf s k).st = .replay) : bankStop k s = chanStop k s := by
  rcases h with h | h <;> simp [bankStop, h]

/-- Settles O23: the stop empties the channel, and neither its own work on the queue nor what follows touches another. -/
theorem stoppedChannelIsEmptied : Obligations.StoppedChannelIsEmptied := by
  unfold Obligations.StoppedChannelIsEmptied
  intro k s ⟨hk, hv, hs⟩
  have hg : (decide (k ≠ 0) && (chanOf s k).vio.isSome) = true := by simp [hk, hv]
  have hc (j : Nat) : chanOf (romResume (settle (bankStop k s))) j = chanOf (chanStop k s) j := by
    rw [bankStop_of_served hs]
    exact chanOf_of_chans (by simp) j
  obtain ⟨hst, hframe, hwip0, hwip1, hcommit, hscrub⟩ : ChanEmptied (chanOf (romResume (settle (bankStop k s))) k) :=
    (hc k).symm ▸ chanStop_chanEmptied hs
  exact ⟨_, when_of_true hg _ _, hst, hframe, hwip0, hwip1, hcommit, hscrub, fun j hj => (hc j).trans (chanStop_chanOf_ne hj s)⟩

end Sys2Proof.Machine
end

section
/-!
PROOF. What the Interlock asked for of a domain that a release request has released (R110, R111).
-/
namespace Sys2Proof.Machine

open Sys2Proof

variable {s : State} {d : Nat}

/-! ### Cycles of the Interlock -/

theorem releaseDom_domSt (n : Nat) (s : State) : domSt (releaseDom n s) d = if d = n then .released else domSt s d := by
  rw [domSt, releaseDom, each_mor _ _ _ (by simp)]
  exact tabGet_tabSet ..

theorem each_releaseDom_domSt (l : List Nat) (s : State) :
    domSt (each l releaseDom s) d = .released ↔ d ∈ l ∨ domSt s d = .released := by
  induction l generalizing s with
  | nil => simp [each]
  | cons n l ih =>
    rw [each_cons, ih, releaseDom_domSt, List.mem_cons]
    by_cases hn : d = n <;> simp [hn]

theorem interlock_keeps_released (n : Nat) (h : domSt s d = .released) : domSt (interlock n s) d = .released := by
  induction n generalizing s with
  | zero => exact h
  | succ n ih =>
    unfold interlock
    dsimp only
    split
    · exact h
    · exact ih ((each_releaseDom_domSt _ s).2 (.inr h))

/-- The state v lies before the end t of some cycles of the Interlock that begin in s. -/
structure Between (s v t : State) : Prop where
  unmoved : unmoved v.mor = unmoved s.mor
  vslot : v.mor.vslot = s.mor.vslot
  released : ∀ p, domSt v p = .released → domSt t p = .released

/-- What the Interlock releases met its condition at the start of a cycle. -/
theorem interlock_releases (n : Nat) (ht : domSt (interlock n s) d = .released) (hs : domSt s d ≠ .released) :
    ∃ v, interlockOk v d = true ∧ Between s v (interlock n s) := by
  induction n generalizing s with
  | zero => exact absurd ht hs
  | succ n ih =>
    have hk : ∀ p, domSt s p = .released → domSt (interlock (n + 1) s) p = .released := fun p => interlock_keeps_released (n + 1)
    revert ht hk
    unfold interlock
    dsimp only
    split
    · exact fun ht => absurd ht hs
    · intro ht hk
      by_cases hd : d ∈ (domsListed s).filter (interlockOk s)
      · exact ⟨s, (List.mem_filter.1 hd).2, rfl, rfl, hk⟩
      · obtain ⟨v, hv, hu, hw, hr⟩ := ih ht (fun h => ((each_releaseDom_domSt _ s).1 h).elim hd hs)
        exact ⟨v, hv, hu.trans (by simp), hw.trans (by simp), hr⟩

/-! ### A Release that settling makes -/

theorem vioHold_keeps_not_released (h : domSt s d ≠ .released) : domSt (vioHold s) d ≠ .released := by
  unfold vioHold
  split
  · exact h
  · exact each_holdDom_not_released _ 8 false h

/-- The state in which the first cycle of the Interlock begins as s settles. -/
def beforeInterlock (s : State) : State := vatWithdraw (cascade 33 (vioHold s))

theorem beforeInterlock_unmoved (s : State) : unmoved (beforeInterlock s).mor = unmoved s.mor := by simp [beforeInterlock]

/-- What comes before the Interlock clears Verdict pairs, and writes no PASS. -/
theorem pairOf_of_beforeInterlock {k : Nat} (h : pairOf (beforeInterlock s) k = passPair) : pairOf s k = passPair := by
  by_contra hs
  exact vatWithdraw_unpassed _ (cascade_unpassed 33 _ (vioHold_unpassed s hs)) h

theorem settle_domPart (hc : clocked s = true) : domPart (settle s).mor = domPart (interlock 33 (beforeInterlock s)).mor := by
  have hg : ¬ (!clocked s) = true := by simp [hc]
  rw [settle, if_neg hg]
  simp [beforeInterlock]

/-- What the Interlock asks for of D_d in s, as far as the outcome t of its cycles shows (R111). -/
structure ReleaseGranted (s t : State) (d : Nat) : Prop where
  lock : s.mor.lock = true
  vioRst : s.mor.vioRst.isSome = true
  used : inUse s d = true
  trip : (s.mor.trip && tripHold s d) = false
  prereq : ∀ p ∈ prereqs s d, domSt t p = .released
  verdicts : unverOk s d = true ∨ slotsPass s d = true

theorem slotsPass_of_unmoved {t : State} (hu : unmoved t.mor = unmoved s.mor) (hp : ∀ k, pairOf t k = passPair → pairOf s k = passPair)
    (h : slotsPass t d = true) : slotsPass s d = true := by
  have hm : t.mor.vslotMap = s.mor.vslotMap := (congrArg Mordant.vslotMap hu :)
  have ho : t.mor.outMap = s.mor.outMap := outMap_of_unmoved hu
  simp only [slotsPass, imgsPass, domImgs, domEps, imgDom, outDom, hm, ho, Bool.and_eq_true, List.all_eq_true, decide_eq_true_eq] at h ⊢
  exact ⟨fun k hk => hp _ (h.1 k hk), fun j hj => hp _ (h.2 j hj)⟩

theorem releaseGranted_of_interlockOk {v t : State} (hv : interlockOk v d = true) (hu : unmoved v.mor = unmoved s.mor)
    (hp : ∀ k, pairOf v k = passPair → pairOf s k = passPair) (hr : ∀ p, domSt v p = .released → domSt t p = .released) :
    ReleaseGranted s t d := by
  simp only [interlockOk, Bool.and_eq_true, List.all_eq_true, decide_eq_true_eq, Bool.or_eq_true, Bool.not_eq_true'] at hv
  obtain ⟨⟨⟨⟨⟨⟨⟨⟨hl, hvio⟩, huse⟩, -⟩, -⟩, htrip⟩, hpre⟩, hver⟩, -⟩ := hv
  have ha : domAttr v = domAttr s := by
    funext n
    rw [domAttr, domAttr, attr_of_unmoved hu]
  refine ⟨(congrArg Mordant.lock hu :) ▸ hl, (congrArg Mordant.vioRst hu :) ▸ hvio, ?_, ?_, fun p hm => hr p (hpre p ?_), ?_⟩
  · simpa only [inUse, ha] using huse
  · rw [← tripHold_of_unmoved hu, ← show v.mor.trip = s.mor.trip from (congrArg Mordant.trip hu :)]
    exact htrip
  · rwa [prereqs, show v.mor.prereq = s.mor.prereq from (congrArg Mordant.prereq hu :)]
  · refine hver.imp (fun h => ?_) (slotsPass_of_unmoved hu hp)
    simpa only [unverOk, ha] using h

/-- A domain that settling releases is one the Interlock permits. -/
theorem settle_releases (ht : domSt (settle s) d = .released) (hs : domSt s d ≠ .released) : ReleaseGranted s (settle s) d := by
  by_cases hc : clocked s = true
  · have hp := settle_domPart hc
    rw [domSt_of_domPart hp] at ht
    have hh : domSt (beforeInterlock s) d ≠ .released := by
      rw [beforeInterlock, domSt_of_domPart (vatWithdraw_domPart _)]
      exact cascade_not_released 33 (vioHold_keeps_not_released hs)
    obtain ⟨v, hv, hu, hw, hr⟩ := interlock_releases 33 ht hh
    refine releaseGranted_of_interlockOk hv (hu.trans (beforeInterlock_unmoved s)) (fun k hk => pairOf_of_beforeInterlock ?_)
      (fun p h => ?_)
    · rwa [pairOf, hw] at hk
    · rw [domSt_of_domPart hp]
      exact hr p h
  · rw [settle, if_pos (by simpa using hc)] at ht
    exact absurd ht hs

/-! ### The request -/

/-- The state in which the Interlock evaluates a release request: the bits are set, and 0x0004 is submitted for each (R31). -/
def requested (l : List Nat) (s : State) : State :=
  each l (fun d s => gated 0x0004 1 (releasedBody s d) (.relReq d) (relReqBit d) s) s

theorem requested_relReq (l : List Nat) (s : State) : ∃ r, (requested l s).mor = { s.mor with relReq := r } := by
  refine each_keeps (P := fun t => ∃ r, t.mor = { s.mor with relReq := r }) (fun d _ t ⟨r, ht⟩ => ?_) ⟨s.mor.relReq, rfl⟩
  unfold gated
  dsimp only
  split
  · split
    · exact ⟨putBit r d true, by simp [relReqBit, ht]⟩
    · exact ⟨r, ht⟩
  · exact ⟨r, ht⟩

/-- A request changes none of what the Interlock asks for. -/
theorem releaseGranted_of_requested {t : State} {l : List Nat} (h : ReleaseGranted (requested l s) t d) : ReleaseGranted s t d := by
  obtain ⟨r, hm⟩ := requested_relReq l s
  obtain ⟨hl, hv, hu, ht, hp, hw⟩ := h
  constructor
  all_goals simp only [hm, inUse, unverOk, tripHold, prereqs, domAttr, slotsPass, imgsPass, domImgs, domEps, imgDom, outDom, pairOf] at *
  all_goals assumption

theorem requested_domSt (l : List Nat) (s : State) : domSt (requested l s) d = domSt s d := by
  obtain ⟨r, hm⟩ := requested_relReq l s
  rw [domSt, hm]
  rfl

theorem relEvaluate_domSt (l : List Nat) (s : State) : domSt (relEvaluate l s) d = domSt (settle s) d :=
  domSt_of_domPart (each_domPart _ _ _ (fun n s => heldRecord_domPart n 9 false s)) d

/-- A release request leaves the Mordant as it is, or asks for some domains and evaluates. -/
theorem releaseRequest_cases {m : BitVec 32} {t : State} (h : exec (.releaseRequest m) s = .next t) :
    t.mor = s.mor ∨ ∃ l, t = say .none (relEvaluate l (requested l s)) := by
  simp only [exec, execReleaseRequest, when, releaseReq, mordantAccess] at h
  split at h
  · split at h
    · exact .inr ⟨_, (Host.Outcome.next.inj h).symm⟩
    · exact .inl (congrArg State.mor (Host.Outcome.next.inj h).symm :)
  · exact .inl (congrArg State.mor (Host.Outcome.next.inj h).symm :)

/-- What a release request releases, the Interlock permits (R111). -/
theorem releaseRequest_releases {m : BitVec 32} {t : State} (h : exec (.releaseRequest m) s = .next t) (ht : domSt t d = .released)
    (hs : domSt s d ≠ .released) : ReleaseGranted s t d := by
  rcases releaseRequest_cases h with hm | ⟨l, rfl⟩
  · rw [domSt, hm] at ht
    exact absurd ht hs
  · have he (n : Nat) : domSt (say .none (relEvaluate l (requested l s))) n = domSt (settle (requested l s)) n := relEvaluate_domSt l _
    have hr := releaseGranted_of_requested (settle_releases ((he d).symm.trans ht) (by rwa [requested_domSt]))
    exact { hr with prereq := fun p hp => (he p).trans (hr.prereq p hp) }

end Sys2Proof.Machine
end
section
/-!
PROOF. A RELEASED domain rests on a locked configuration (R110, R111).
-/
namespace Sys2Proof.Machine

open Sys2Proof

/-! ### Cells taken out of a table -/

/-- A canonical list whose keys lie above i lists nothing for i. -/
theorem cellsGet_of_cellsWf {α : Type} [DecidableEq α] (d : α) {i k : Nat} (hik : i ≤ k) {l : List (Nat × α)}
    (hw : cellsWf d (some k) l = true) : cellsGet d i l = d := by
  induction l generalizing k with
  | nil => rfl
  | cons c l ih =>
    obtain ⟨n, v⟩ := c
    simp only [cellsWf, Bool.and_eq_true, decide_eq_true_eq] at hw
    obtain ⟨⟨hk, -⟩, hl⟩ := hw
    rw [cellsGet, if_neg (by omega)]
    exact ih (by omega) hl

theorem cellsWf_filter {α : Type} [DecidableEq α] (d : α) (p : Nat × α → Bool) {lo : Option Nat} {l : List (Nat × α)}
    (hw : cellsWf d lo l = true) : cellsWf d lo (l.filter p) = true := by
  induction l generalizing lo with
  | nil => exact hw
  | cons c l ih =>
    obtain ⟨n, v⟩ := c
    simp only [cellsWf, Bool.and_eq_true] at hw
    obtain ⟨hc, hl⟩ := hw
    rw [List.filter_cons]
    split
    · simp only [cellsWf, Bool.and_eq_true]
      exact ⟨hc, ih hl⟩
    · refine ih ?_
      cases lo with
      | none => exact cellsWf_none d n l hl
      | some a => exact cellsWf_mono d a n l (Nat.le_of_lt (of_decide_eq_true hc.1)) hl

/-- A key that a canonical list loses reads as the default, and the others keep their value. -/
theorem cellsGet_filter_of_cellsWf {α : Type} [DecidableEq α] (d : α) (p : Nat × α → Bool) (i : Nat) {lo : Option Nat}
    {l : List (Nat × α)} (hw : cellsWf d lo l = true) : cellsGet d i (l.filter p) = d ∨ cellsGet d i (l.filter p) = cellsGet d i l := by
  induction l generalizing lo with
  | nil => exact .inl rfl
  | cons c l ih =>
    obtain ⟨n, v⟩ := c
    simp only [cellsWf, Bool.and_eq_true] at hw
    obtain ⟨-, hl⟩ := hw
    rw [List.filter_cons]
    by_cases hn : n = i
    · split
      · simp [cellsGet, hn]
      · exact .inl (cellsGet_of_cellsWf d hn.ge (cellsWf_filter d p hl))
    · have h := ih hl
      split <;> simpa [cellsGet, hn] using h

/-! ### The invariant -/

/-- The domains' states are a table in canonical form, and none is RELEASED unless the lock is set (R111). -/
def Guarded (c : Tab DomState × Bool) : Prop := (∀ d, tabGet .held c.1 d = .released → c.2 = true) ∧ tabWf .held c.1 = true

/-- The states of the domains and the lock. -/
def custodyPart (m : Mordant) : Tab DomState × Bool := (m.dom, m.lock)

/-- Read off the fields of a Mordant that a command writes out. -/
@[simp] theorem custodyPart_mk {a b c d e f g h i j k l m n o p q r lock dom s t u v w x y z α β γ δ} :
    custodyPart ⟨a, b, c, d, e, f, g, h, i, j, k, l, m, n, o, p, q, r, lock, dom, s, t, u, v, w, x, y, z, α, β, γ, δ⟩ = (dom, lock) :=
  rfl

@[simp] theorem custodyPart_eta (m : Mordant) : (m.dom, m.lock) = custodyPart m := rfl

theorem guarded_iff (s : State) : Guarded (custodyPart s.mor) ↔ ReleaseLocked s ∧ tabWf .held s.mor.dom = true := Iff.rfl

theorem guarded_tabEmpty (lock : Bool) : Guarded (tabEmpty, lock) :=
  ⟨fun _ (h : DomState.held = .released) => (nomatch h), rfl⟩

/-- With the lock set any domain may be RELEASED. -/
theorem guarded_locked {s : State} (hs : Guarded (custodyPart s.mor)) : Guarded (s.mor.dom, true) := ⟨fun _ _ => rfl, hs.2⟩

/-- A domain that is not RELEASED may take any place; one that is RELEASED needs the lock. -/
theorem guarded_tabSet {dom : Tab DomState} {lock : Bool} (d : Nat) {x : DomState} (h : Guarded (dom, lock))
    (hx : x = .released → lock = true) : Guarded (tabSet .held dom d x, lock) := by
  refine ⟨fun n hn => ?_, tabWf_tabSet _ _ _ _ h.2⟩
  rw [tabGet_tabSet] at hn
  split at hn
  · exact hx hn
  · exact h.1 n hn

theorem guarded_filter {dom : Tab DomState} {lock : Bool} (p : Nat × DomState → Bool) (h : Guarded (dom, lock)) :
    Guarded (⟨dom.cells.filter p⟩, lock) := by
  obtain ⟨hl, hw⟩ := h
  have hw : cellsWf .held none dom.cells = true := hw
  refine ⟨fun n hn => ?_, cellsWf_filter _ p hw⟩
  rcases cellsGet_filter_of_cellsWf .held p n hw with hc | hc
  · exact absurd (hc.symm.trans hn) (by decide)
  · exact hl n (hc.symm.trans hn)

theorem custodyPart_of_parts {m m' : Mordant} (hd : domPart m' = domPart m) (hu : unmoved m' = unmoved m) :
    custodyPart m' = custodyPart m := Prod.ext (congrArg Prod.fst hd :) (congrArg Mordant.lock hu :)

@[simp] theorem custodyPart_ite (c : Prop) [Decidable c] (s t : State) (x : Tab DomState × Bool) :
    custodyPart (if c then s else t).mor = x ↔ (c → custodyPart s.mor = x) ∧ (¬ c → custodyPart t.mor = x) := by
  split <;> simp [*]

@[simp] theorem foldl_custodyPart {α : Type} (l : List α) (f : State → α → State) (s : State)
    (h : ∀ s x, custodyPart (f s x).mor = custodyPart s.mor) : custodyPart (l.foldl f s).mor = custodyPart s.mor := by
  induction l generalizing s with
  | nil => rfl
  | cons x l ih => exact (ih _).trans (h s x)

@[simp] theorem each_custodyPart (l : List Nat) (f : Nat → State → State) (s : State)
    (h : ∀ n s, custodyPart (f n s).mor = custodyPart s.mor) : custodyPart (each l f s).mor = custodyPart s.mor :=
  foldl_custodyPart l _ s (fun s n => h n s)

@[simp] theorem gated_custodyPart (code src : Nat) (body : Bytes) (g : Gate) (eff : State → State) (s : State)
    (h : ∀ s, custodyPart (eff s).mor = custodyPart s.mor) : custodyPart (gated code src body g eff s).mor = custodyPart s.mor := by
  unfold gated
  dsimp only
  (repeat' split) <;> simp [h]

@[simp] theorem guarded_ite (c : Prop) [Decidable c] (s t : State) :
    Guarded (custodyPart (if c then s else t).mor) ↔ (c → Guarded (custodyPart s.mor)) ∧ (¬ c → Guarded (custodyPart t.mor)) := by
  split <;> simp [*]

@[simp] theorem foldl_guarded {α : Type} (l : List α) (f : State → α → State) (s : State)
    (h : ∀ s x, Guarded (custodyPart s.mor) → Guarded (custodyPart (f s x).mor)) (hs : Guarded (custodyPart s.mor)) :
    Guarded (custodyPart (l.foldl f s).mor) := by
  induction l generalizing s with
  | nil => exact hs
  | cons x l ih => exact ih _ (h s x hs)

@[simp] theorem each_guarded (l : List Nat) (f : Nat → State → State) (s : State)
    (h : ∀ n s, Guarded (custodyPart s.mor) → Guarded (custodyPart (f n s).mor)) (hs : Guarded (custodyPart s.mor)) :
    Guarded (custodyPart (each l f s).mor) := foldl_guarded l _ s (fun s n => h n s) hs

-- The lemmas of Laws/State.lean hold by rfl, and simp proves a side condition with them only with a proof term of its own: hence the
-- option implicitDefEqProofs, off in what follows.
@[simp] theorem gated_guarded (code src : Nat) (body : Bytes) (g : Gate) (eff : State → State) (s : State)
    (h : ∀ s, Guarded (custodyPart s.mor) → Guarded (custodyPart (eff s).mor)) (hs : Guarded (custodyPart s.mor)) :
    Guarded (custodyPart (gated code src body g eff s).mor) := by
  unfold gated
  dsimp only
  (repeat' split) <;> simp -implicitDefEqProofs +contextual [h, hs]

@[simp] theorem mordantWrite_guarded (f : State → State) (s : State) (h :
    ∀ s, Guarded (custodyPart s.mor) → Guarded (custodyPart (f s).mor))
    (hs : Guarded (custodyPart s.mor)) : Guarded (custodyPart (mordantWrite f s).mor) := by
  simp -implicitDefEqProofs +contextual [mordantWrite, h, hs]

/-! ### Outcomes -/

/-- In every next state of the outcome a RELEASED domain rests on the lock. -/
def Guards (o : Out) : Prop := ∀ t, o = .next t → Guarded (custodyPart t.mor)

@[simp] theorem guards_done (s : State) : Guards (done s) ↔ Guarded (custodyPart s.mor) := by
  simp [Guards, done]

@[simp] theorem guards_answer (r : Reply) (s : State) : Guards (answer r s) ↔ Guarded (custodyPart s.mor) := by
  simp [Guards, answer]

@[simp] theorem guards_notNow (s : State) : Guards (notNow s) ↔ Guarded (custodyPart s.mor) := by
  simp [Guards, notNow]

@[simp] theorem guards_busError (s : State) : Guards (busError s) ↔ Guarded (custodyPart s.mor) := by
  simp [busError]

@[simp] theorem guards_ite (c : Prop) [Decidable c] (o o' : Out) :
    Guards (if c then o else o') ↔ (c → Guards o) ∧ (¬ c → Guards o') := by
  split <;> simp [*]

@[simp] theorem guards_when (c : Bool) (s : State) (o : Out) :
    Guards (when c s o) ↔ (c = true → Guards o) ∧ (¬ c = true → Guarded (custodyPart s.mor)) := by
  simp [when]

@[simp] theorem guards_mordantAccess (s : State) (o : Out) :
    Guards (mordantAccess s o) ↔ (aocRuns s = true → Guards o) ∧ (¬ aocRuns s = true → Guarded (custodyPart s.mor)) := by
  simp [mordantAccess]

@[simp] theorem guards_sramDone (l : List (Nat × Nat)) (s t : State) : Guards (sramDone l s t) ↔ Guarded (custodyPart t.mor) := by
  unfold sramDone
  split <;> simp

/-! ### Holds, Releases and what follows an event -/

@[simp] theorem setPair_custodyPart (k : Nat) (v : BitVec 32) (s : State) : custodyPart (setPair k v s).mor = custodyPart s.mor :=
  custodyPart_of_parts (setPair_domPart k v s) (setPair_unmoved k v s)

@[simp] theorem heldRecord_custodyPart (d cause : Nat) (final : Bool) (s : State) :
    custodyPart (heldRecord d cause final s).mor = custodyPart s.mor :=
  custodyPart_of_parts (heldRecord_domPart d cause final s) (heldRecord_unmoved d cause final s)

@[simp] theorem domUnslot_custodyPart (d : Nat) (s : State) : custodyPart (domUnslot d s).mor = custodyPart s.mor :=
  custodyPart_of_parts (domUnslot_domPart d s) (domUnslot_unmoved d s)

@[simp] theorem markFinal_custodyPart (cause d : Nat) (s : State) : custodyPart (markFinal cause d s).mor = custodyPart s.mor :=
  custodyPart_of_parts (markFinal_domPart cause d s) (markFinal_unmoved cause d s)

theorem holdDom_custodyPart (cause : Nat) (final : Bool) {d : Nat} {s : State} (hd : domSt s d = .released) (ha : aocRuns s = true) :
    custodyPart (holdDom cause final d s).mor = (tabSet .held s.mor.dom d .held, s.mor.lock) :=
  Prod.ext (congrArg Prod.fst (holdDom_domPart cause final d hd ha) :) (congrArg Mordant.lock (holdDom_unmoved cause final d s) :)

/-- A hold takes a domain out of RELEASED. -/
@[simp] theorem holdDom_guarded (cause : Nat) (final : Bool) (d : Nat) (s : State) (hs : Guarded (custodyPart s.mor)) :
    Guarded (custodyPart (holdDom cause final d s).mor) := by
  rcases holdDom_cases cause final d s with h | ⟨hd, ha⟩
  · rwa [h]
  · rw [holdDom_custodyPart cause final hd ha]
    exact guarded_tabSet d hs (by simp)

@[simp] theorem cascade_guarded (n : Nat) (s : State) (hs : Guarded (custodyPart s.mor)) : Guarded (custodyPart (cascade n s).mor) := by
  induction n generalizing s with
  | zero => exact hs
  | succ n ih =>
    unfold cascade
    dsimp only
    split
    · exact hs
    · exact ih _ (each_guarded _ _ s (fun d s => holdDom_guarded 2 false d s) hs)

@[simp] theorem holdFinal_guarded (cause d : Nat) (s : State) (hs : Guarded (custodyPart s.mor)) :
    Guarded (custodyPart (holdFinal cause d s).mor) := by
  simp [holdFinal, hs]

/-- With the lock set any domain may be released. -/
theorem releaseDom_guarded (d : Nat) {s : State} (hl : s.mor.lock = true) (hs : Guarded (custodyPart s.mor)) :
    Guarded (custodyPart (releaseDom d s).mor) := by
  rw [releaseDom, each_mor _ _ _ (by simp)]
  exact guarded_tabSet d hs (fun _ => hl)

theorem lock_of_interlockOk {s : State} {d : Nat} (h : interlockOk s d = true) : s.mor.lock = true := by
  simp only [interlockOk, Bool.and_eq_true] at h
  tauto

/-- The Interlock releases nothing without the lock (R111). -/
@[simp] theorem interlock_guarded (n : Nat) (s : State) (hs : Guarded (custodyPart s.mor)) : Guarded (custodyPart (interlock n s).mor) := by
  induction n generalizing s with
  | zero => exact hs
  | succ n ih =>
    unfold interlock
    dsimp only
    split
    · exact hs
    · refine ih _ (each_keeps (P := fun t => t.mor.lock = s.mor.lock ∧ Guarded (custodyPart t.mor))
        (fun d hd t ⟨hl, ht⟩ => ?_) ⟨rfl, hs⟩).2
      have hlock := lock_of_interlockOk (List.mem_filter.1 hd).2
      exact ⟨(congrArg Mordant.lock (releaseDom_unmoved d t) :).trans hl, releaseDom_guarded d (hl.trans hlock) ht⟩

@[simp] theorem vioHold_guarded (s : State) (hs : Guarded (custodyPart s.mor)) : Guarded (custodyPart (vioHold s).mor) := by
  unfold vioHold
  split
  · exact hs
  · exact each_guarded _ _ _ (holdDom_guarded 8 false) hs

@[simp] theorem settle_guarded (s : State) (hs : Guarded (custodyPart s.mor)) : Guarded (custodyPart (settle s).mor) := by
  have hw := custodyPart_of_parts (vatWithdraw_domPart (cascade 33 (vioHold s))) (vatWithdraw_unmoved _)
  have h1 : Guarded (custodyPart (vatWithdraw (cascade 33 (vioHold s))).mor) := hw ▸ cascade_guarded 33 _ (vioHold_guarded s hs)
  unfold settle
  dsimp only
  split
  · exact hs
  · rw [custodyPart_of_parts (m := (interlock 33 (vatWithdraw (cascade 33 (vioHold s)))).mor) (by simp) (by simp)]
    exact interlock_guarded 33 _ h1

/-- A trip takes a domain out of RELEASED. -/
@[simp] theorem tripDom_guarded (d : Nat) (s : State) (hs : Guarded (custodyPart s.mor)) : Guarded (custodyPart (tripDom d s).mor) := by
  have h : Guarded (tabSet .held s.mor.dom d .tripHeld, s.mor.lock) := guarded_tabSet d hs (by simp)
  unfold tripDom
  dsimp only
  split <;> simpa using h

@[simp] theorem custodyTrip_guarded (src : Nat) (s : State) (hs : Guarded (custodyPart s.mor)) :
    Guarded (custodyPart (custodyTrip src s).mor) := by
  unfold custodyTrip
  dsimp only
  split
  · exact hs
  · split
    · exact hs
    · split
      · refine settle_guarded _ (each_guarded _ _ _ (fun d s => tripDom_guarded d s) ?_)
        rw [tripGate_mor]
        exact hs
      · rw [tripGate_mor]
        exact hs

/-! ### Images, channels and escalations -/

@[simp] theorem imgFinal_custodyPart (cause slot : Nat) (s : State) : custodyPart (imgFinal cause slot s).mor = custodyPart s.mor := by
  simp [imgFinal]

@[simp] theorem chanLost_custodyPart (k : Nat) (s : State) : custodyPart (chanLost k s).mor = custodyPart s.mor := by
  simp [chanLost]

@[simp] theorem chanStop_custodyPart (k : Nat) (s : State) : custodyPart (chanStop k s).mor = custodyPart s.mor := by
  simp [chanStop]

@[simp] theorem bankStop_custodyPart (k : Nat) (s : State) : custodyPart (bankStop k s).mor = custodyPart s.mor := by
  unfold bankStop
  split <;> simp

@[simp] theorem chanFail_custodyPart (k : Nat) (s : State) : custodyPart (chanFail k s).mor = custodyPart s.mor := by
  simp [chanFail]

@[simp] theorem commitHalt_custodyPart (k : Nat) (s : State) : custodyPart (commitHalt k s).mor = custodyPart s.mor := by
  simp [commitHalt]

@[simp] theorem escalateNow_guarded (trip src scope : Nat) (doms : List Nat) (s : State) (hs : Guarded (custodyPart s.mor)) :
    Guarded (custodyPart (escalateNow trip src scope doms s).mor) := by
  unfold escalateNow
  split
  · exact custodyTrip_guarded _ _ hs
  · refine settle_guarded _ (each_guarded _ _ _ (fun d s h => ?_) hs)
    split
    · exact holdDom_guarded _ _ _ _ h
    · simpa using h
  · exact hs

@[simp] theorem escalateFw_guarded (src scope : Nat) (doms : List Nat) (s : State) (hs : Guarded (custodyPart s.mor)) :
    Guarded (custodyPart (escalateFw src scope doms s).mor) := by
  simp [escalateFw, hs]

@[simp] theorem lakeOutHold_guarded (s : State) (hs : Guarded (custodyPart s.mor)) : Guarded (custodyPart (lakeOutHold s).mor) := by
  unfold lakeOutHold
  dsimp only
  split
  · exact mordantWrite_guarded _ s (fun s h => each_guarded _ _ s (fun d s => holdFinal_guarded 12 d s) h) hs
  · exact hs

/-! ### Rings -/

@[simp] theorem debugOpen_guarded (scope : BitVec 4) (s : State) (hs : Guarded (custodyPart s.mor)) :
    Guarded (custodyPart (debugOpen scope s).mor) := by
  simp -implicitDefEqProofs [debugOpen, hs]

@[simp] theorem debugGo_guarded (s : State) (hs : Guarded (custodyPart s.mor)) : Guarded (custodyPart (debugGo s).mor) := by
  unfold debugGo
  split
  · exact hs
  · exact foldl_guarded _ _ _ (fun s w h => gated_guarded _ _ _ _ _ s (fun s => debugOpen_guarded w.1 s) h) hs

@[simp] theorem ringsDie_guarded (q : Nat → Nat → Bool) (s : State) (hs : Guarded (custodyPart s.mor)) :
    Guarded (custodyPart (ringsDie q s).mor) := by
  simp [ringsDie, hs]

@[simp] theorem ringDies_guarded (p g : Nat) (s : State) (hs : Guarded (custodyPart s.mor)) :
    Guarded (custodyPart (ringDies p g s).mor) := by
  simp [ringDies, hs]

@[simp] theorem ringFail_guarded (p g : Nat) (s : State) (hs : Guarded (custodyPart s.mor)) :
    Guarded (custodyPart (ringFail p g s).mor) := by
  simp [ringFail, hs]

@[simp] theorem ringError_guarded (p g cause : Nat) (s : State) (hs : Guarded (custodyPart s.mor)) :
    Guarded (custodyPart (ringError p g cause s).mor) := by
  simp [ringError, hs]

@[simp] theorem ringGone_guarded (p g : Nat) (s : State) (hs : Guarded (custodyPart s.mor)) :
    Guarded (custodyPart (ringGone p g s).mor) := by
  simp [ringGone, hs]

@[simp] theorem ringDestroyed_guarded (p g : Nat) (s : State) (hs : Guarded (custodyPart s.mor)) :
    Guarded (custodyPart (ringDestroyed p g s).mor) := by
  simp [ringDestroyed, hs]

@[simp] theorem ringDestroy_guarded (p g : Nat) (by' : Option (Nat × Nat)) (s : State) (hs : Guarded (custodyPart s.mor)) :
    Guarded (custodyPart (ringDestroy p g by' s).mor) := by
  simp [ringDestroy, hs]

@[simp] theorem jobEffect_guarded (j : RingCmd) (s : State) (hs : Guarded (custodyPart s.mor)) :
    Guarded (custodyPart (jobEffect j s).1.mor) := by
  unfold jobEffect
  (repeat' split) <;> simp -implicitDefEqProofs [hs]

@[simp] theorem applyNext_guarded (s : State) (hs : Guarded (custodyPart s.mor)) : Guarded (custodyPart (applyNext s).mor) := by
  unfold applyNext
  split <;> simp [hs]

@[simp] theorem applyAll_guarded (s : State) (hs : Guarded (custodyPart s.mor)) : Guarded (custodyPart (applyAll s).mor) := by
  simp -implicitDefEqProofs +contextual [applyAll, hs]

@[simp] theorem ringsReset_guarded (p : Nat) (s : State) (hs : Guarded (custodyPart s.mor)) :
    Guarded (custodyPart (ringsReset p s).mor) := by
  simp [ringsReset, hs]

/-! ### Presentation ports -/

@[simp] theorem prsFrame_guards (f : PrsFrame) (m : PolicyImage → PresentRec → EmDev → State → Out) (s : State)
    (hs : Guarded (custodyPart s.mor))
    (hm : ∀ p r e, Guards (m p r e (upEm (emKey f.port (b2n f.dev)) (fun e => { e with rstEn := false }) s))) :
    Guards (prsFrame f m s) := by
  unfold prsFrame
  split
  · simp [hs, hm]
  · simp [hs]

@[simp] theorem prsUnknown_guards (r : PresentRec) (e : EmDev) (op second : Byte) (len : Nat) (s : State) (hs : Guarded (custodyPart s.mor))
    : Guards (prsUnknown r e op second len s) := by
  simp [prsUnknown, hs]

@[simp] theorem prsListed_guards (c : Bool) (r : PresentRec) (e : EmDev) (op : Byte) (len : Nat) (s : State) (o : Out)
    (hs : Guarded (custodyPart s.mor)) : Guards (prsListed c r e op len s o) ↔ (c = true → Guards o) := by
  simp [prsListed, hs]

@[simp] theorem prsServe_guards (p : PolicyImage) (r : PresentRec) (a : Nat) (q : PrsRead) (clocked : Bool) (s : State)
    (hs : Guarded (custodyPart s.mor)) : Guards (prsServe p r a q clocked s) := by
  unfold prsServe
  (repeat' split) <;> simp [hs]

@[simp] theorem prsWrite_guards (p : PolicyImage) (r : PresentRec) (e : EmDev) (op a n : Nat) (isErase : Bool) (data : Bytes)
    (s : State) (hs : Guarded (custodyPart s.mor)) : Guards (prsWrite p r e op a n isErase data s) := by
  unfold prsWrite
  dsimp only
  (repeat' split) <;> simp -implicitDefEqProofs +contextual [hs]

/-! ### Judgements and recovery -/

@[simp] theorem clearFail_guarded (k : Nat) (s : State) (hs : Guarded (custodyPart s.mor)) : Guarded (custodyPart (clearFail k s).mor) := by
  simp [clearFail, hs]

@[simp] theorem streamGo_guarded (k : Nat) (x : Source) (s : State) (hs : Guarded (custodyPart s.mor)) :
    Guarded (custodyPart (streamGo k x s).mor) := by
  unfold streamGo
  split <;> simp [hs]

@[simp] theorem takeAction_custodyPart (k : Nat) (fallback : Bool) (fails : State → State) (s : State)
    (h : ∀ s, custodyPart (fails s).mor = custodyPart s.mor) : custodyPart (takeAction k fallback fails s).mor = custodyPart s.mor := by
  unfold takeAction
  dsimp only
  (repeat' split) <;> simp [h]

@[simp] theorem fallbackAction_custodyPart (k : Nat) (s : State) : custodyPart (fallbackAction k s).mor = custodyPart s.mor := by
  simp [fallbackAction]

@[simp] theorem actionFails_custodyPart (k : Nat) (s : State) : custodyPart (actionFails k s).mor = custodyPart s.mor := by
  simp [actionFails]

@[simp] theorem actionStart_custodyPart (k : Nat) (s : State) : custodyPart (actionStart k s).mor = custodyPart s.mor := by
  simp [actionStart]

@[simp] theorem afterFail_custodyPart (k : Nat) (x : Source) (s : State) : custodyPart (afterFail k x s).mor = custodyPart s.mor := by
  simp [afterFail]

@[simp] theorem writeVerdict_custodyPart (k : Nat) (x : Source) (m : Option Manifest) (digest : Bytes) (pass : Bool) (cause : Nat)
    (s : State) : custodyPart (writeVerdict k x m digest pass cause s).mor = custodyPart s.mor := by
  unfold writeVerdict
  cases pass <;> simp

/-! ### Judgement commands -/

@[simp] theorem execJudgementDone_guards (slot : Nat) (sig : Sig2) (bad : BitVec 2) (s : State) (hs : Guarded (custodyPart s.mor)) :
    Guards (execJudgementDone slot sig bad s) := by
  unfold execJudgementDone
  split <;> simp [hs]

@[simp] theorem execVerifyDeadlineExpiry_guards (slot : Nat) (sig : Sig2) (s : State) (hs : Guarded (custodyPart s.mor)) :
    Guards (execVerifyDeadlineExpiry slot sig s) := by
  unfold execVerifyDeadlineExpiry
  split <;> simp [hs]

@[simp] theorem execRestoreVaultBegin_guards (slot : Nat) (s : State) (hs : Guarded (custodyPart s.mor)) :
    Guards (execRestoreVaultBegin slot s) := by
  unfold execRestoreVaultBegin
  split <;> simp [hs]

@[simp] theorem execGoldenStore_guards (slot : Nat) (read : List (Nat × Byte)) (s : State) (hs : Guarded (custodyPart s.mor)) :
    Guards (execGoldenStore slot read s) := by
  unfold execGoldenStore
  split
  · rename_i r q _ _
    have store (cells : List (Nat × Byte)) :
        Guards (match vaultStore q.vaultObject slot r.length cells (imgOf s slot).manifest s with
          | some t => done t
          | none => done (upImg slot (fun i => { i with storeDue := false }) s)) := by
      split
      · rename_i t h
        simp [vaultStore_mor h, hs]
      · simp [hs]
    refine (guards_when ..).2 ⟨fun _ => ?_, fun _ => hs⟩
    dsimp only
    split
    · split
      · exact store _
      · simp [hs]
    · split
      · exact store _
      · simp [hs]
  · simp [hs]

@[simp] theorem execImageSvnAdvance_guards (slot : Nat) (goldens : List (Nat × Manifest)) (s : State) (hs : Guarded (custodyPart s.mor)) :
    Guards (execImageSvnAdvance slot goldens s) := by
  unfold execImageSvnAdvance
  split <;> simp [hs]

@[simp] theorem execPolicySvnAdvance_guards (s : State) (hs : Guarded (custodyPart s.mor)) : Guards (execPolicySvnAdvance s) := by
  unfold execPolicySvnAdvance
  split <;> simp [hs]

/-! ### Updates -/

@[simp] theorem execCapsuleStage_guards (back : Option (List (Nat × Byte))) (bad : BitVec 2) (s : State) (hs :
    Guarded (custodyPart s.mor)) :
    Guards (execCapsuleStage back bad s) := by
  unfold execCapsuleStage
  split <;> simp [hs]

@[simp] theorem applyComplete_guards (b : Bool) (code : Nat) (s : State) (hs : Guarded (custodyPart s.mor)) :
    Guards (applyComplete b code s) := by
  simp [applyComplete, hs]

@[simp] theorem execPldmComponentPush_guards (b : Bool) (c : Component) (f : PushFrames) (last : Bool) (s : State)
    (hs : Guarded (custodyPart s.mor)) : Guards (execPldmComponentPush b c f last s) := by
  simp [execPldmComponentPush, hs]

/-! ### The end of the ROM stage -/

@[simp] theorem romPrepare_custodyPart (p : PolicyImage) (s : State) : custodyPart (romPrepare p s).mor = custodyPart s.mor := by
  simp [romPrepare]

@[simp] theorem romLock_custodyPart (p : PolicyImage) (s : State) : custodyPart (romLock p s).mor = (s.mor.dom, true) := by
  simp [romLock]

@[simp] theorem bayHolds_custodyPart (s : State) : custodyPart (bayHolds s).mor = custodyPart s.mor := by
  unfold bayHolds
  refine each_custodyPart _ _ s (fun j s => ?_)
  split <;> simp

@[simp] theorem cbusStart_custodyPart (found : List (Nat × Nat)) (s : State) : custodyPart (cbusStart found s).mor =
    custodyPart s.mor := by
  unfold cbusStart
  split <;> simp

@[simp] theorem firmwareStart_guarded (found : List (Nat × Nat)) (s : State) (hs : Guarded (custodyPart s.mor)) :
    Guarded (custodyPart (firmwareStart found s).mor) := by
  simp [firmwareStart, hs]

@[simp] theorem romGo_guarded (found : List (Nat × Nat)) (s : State) (hs : Guarded (custodyPart s.mor)) :
    Guarded (custodyPart (romGo found s).mor) := by
  have hl := guarded_locked hs
  unfold romGo
  split <;> simp [hs, hl]

@[simp] theorem romResume_guarded (s : State) (hs : Guarded (custodyPart s.mor)) : Guarded (custodyPart (romResume s).mor) := by
  unfold romResume
  split <;> simp [hs]

/-! ### Scrub -/

@[simp] theorem scrubMismatch_guarded (k : Nat) (f : Frame) (s : State) (hs : Guarded (custodyPart s.mor)) :
    Guarded (custodyPart (scrubMismatch k f s).mor) := by
  simp [scrubMismatch, hs]

@[simp] theorem scrubResult_guarded (k : Nat) (f : Frame) (bad : List Nat) (s : State) (hs : Guarded (custodyPart s.mor)) :
    Guarded (custodyPart (scrubResult k f bad s).mor) := by
  simp [scrubResult, hs]

@[simp] theorem scrubOver_guarded (k : Nat) (f : Frame) (ok : Bool) (data : Bytes) (s : State) (hs : Guarded (custodyPart s.mor)) :
    Guarded (custodyPart (scrubOver k f ok data s).mor) := by
  simp [scrubOver, hs]

/-! ### Custody channels -/

@[simp] theorem cchQpush_guards (k : Nat) (buf : BitVec 32) (s : State) (hs : Guarded (custodyPart s.mor)) :
    Guards (cchQpush k buf s) := by
  simp [cchQpush, hs]

@[simp] theorem qdoneRead_guards (k : Nat) (s : State) (hs : Guarded (custodyPart s.mor)) : Guards (qdoneRead k s) := by
  unfold qdoneRead
  split <;> simp [hs]

@[simp] theorem grantFrame_custodyPart (k : Nat) (cl : Client) (s : State) : custodyPart (grantFrame k cl s).mor = custodyPart s.mor := by
  unfold grantFrame
  dsimp only
  (repeat' split) <;> simp

@[simp] theorem execCchFrameStart_guards (k : Nat) (s : State) (hs : Guarded (custodyPart s.mor)) : Guards (execCchFrameStart k s) := by
  unfold execCchFrameStart
  dsimp only
  (repeat' split) <;> simp -implicitDefEqProofs +contextual [hs]

@[simp] theorem frameOver_guarded (k : Nat) (f : Frame) (ok : Bool) (data : Bytes) (s : State) (hs : Guarded (custodyPart s.mor)) :
    Guarded (custodyPart (frameOver k f ok data s).mor) := by
  unfold frameOver
  (repeat' split) <;> simp [hs]

@[simp] theorem execCchFrameEnd_guards (k : Nat) (ok : Bool) (cal : Cal) (data : Bytes) (s : State) (hs : Guarded (custodyPart s.mor)) :
    Guards (execCchFrameEnd k ok cal data s) := by
  unfold execCchFrameEnd
  split
  · simp [hs]
  · rename_i f _
    dsimp only
    refine (guards_when ..).2 ⟨fun _ => ?_, fun _ => hs⟩
    split
    · rw [guards_sramDone]
      refine romResume_guarded _ (settle_guarded _ (frameOver_guarded _ _ _ _ _ ?_))
      simp [hs]
    · simp -implicitDefEqProofs [hs]

@[simp] theorem execCchContTimeout_guards (k : Nat) (s : State) (hs : Guarded (custodyPart s.mor)) : Guards (execCchContTimeout k s) := by
  unfold execCchContTimeout
  (repeat' split) <;> simp [hs]

@[simp] theorem execCchWipPoll_guards (k : Nat) (dev : Bool) (clear : Bool) (s : State) (hs : Guarded (custodyPart s.mor)) :
    Guards (execCchWipPoll k dev clear s) := by
  unfold execCchWipPoll
  (repeat' split) <;> simp [hs]

@[simp] theorem execCchWipTimeout_guards (k : Nat) (dev : Bool) (s : State) (hs : Guarded (custodyPart s.mor)) :
    Guards (execCchWipTimeout k dev s) := by
  unfold execCchWipTimeout
  (repeat' split) <;> simp [hs]

@[simp] theorem execCommitEntryStart_guards (k : Nat) (s : State) (hs : Guarded (custodyPart s.mor)) :
    Guards (execCommitEntryStart k s) := by
  unfold execCommitEntryStart
  dsimp only
  (repeat' split) <;> simp -implicitDefEqProofs +contextual [hs]

/-! ### Engines -/

@[simp] theorem dgaOpen_guards (alg : BitVec 3) (s : State) (hs : Guarded (custodyPart s.mor)) : Guards (dgaOpen alg s) := by
  simp [dgaOpen, hs]

@[simp] theorem execDgaOpenGrant_guards (s : State) (hs : Guarded (custodyPart s.mor)) : Guards (execDgaOpenGrant s) := by
  unfold execDgaOpenGrant
  dsimp only
  (repeat' split) <;> simp -implicitDefEqProofs +contextual [hs]

@[simp] theorem dgaAccess_guards (c : Nat) (f : DgaCtx → Option DgaCtx) (s : State) (hs : Guarded (custodyPart s.mor)) :
    Guards (dgaAccess c f s) := by
  unfold dgaAccess
  split <;> simp [hs]

@[simp] theorem dgaData_guards (word : BitVec 32) (s : State) (hs : Guarded (custodyPart s.mor)) : Guards (dgaData word s) := by
  simp [dgaData, hs]

@[simp] theorem dgaLast_guards (word : DgaLast) (s : State) (hs : Guarded (custodyPart s.mor)) : Guards (dgaLast word s) := by
  simp [dgaLast, hs]

@[simp] theorem dgaClose_guards (ctx : BitVec 8) (s : State) (hs : Guarded (custodyPart s.mor)) : Guards (dgaClose ctx s) := by
  simp [dgaClose, hs]

@[simp] theorem dgaExpect_guards (n : BitVec 4) (word : BitVec 32) (s : State) (hs : Guarded (custodyPart s.mor)) :
    Guards (dgaExpect n word s) := by
  simp [dgaExpect, hs]

@[simp] theorem sigStart_guards (op : Nat) (e : Bool) (ctx key : BitVec 8) (s : State) (hs : Guarded (custodyPart s.mor)) :
    Guards (sigStart op e ctx key s) := by
  simp [sigStart, hs]

@[simp] theorem sigGo_guards (op : Nat) (e : Bool) (ctx key : BitVec 8) (s : State) (hs : Guarded (custodyPart s.mor)) :
    Guards (sigGo op e ctx key s) := by
  simp [sigGo, hs]

@[simp] theorem execSigOpDone_guards (e : Bool) (rails : BitVec 2) (s : State) (hs : Guarded (custodyPart s.mor)) :
    Guards (execSigOpDone e rails s) := by
  unfold execSigOpDone
  (repeat' split) <;> simp [hs]

@[simp] theorem kldFwid_guards (n : BitVec 4) (word : BitVec 32) (s : State) (hs : Guarded (custodyPart s.mor)) :
    Guards (kldFwid n word s) := by
  simp [kldFwid, hs]

@[simp] theorem kldSvn_guards (svn : BitVec 5) (s : State) (hs : Guarded (custodyPart s.mor)) : Guards (kldSvn svn s) := by
  simp [kldSvn, hs]

/-! ### Evidence -/

@[simp] theorem execBlockTimedClose_guards (ring : Bool) (s : State) (hs : Guarded (custodyPart s.mor)) :
    Guards (execBlockTimedClose ring s) := by
  unfold execBlockTimedClose
  split <;> simp [hs]

@[simp] theorem execBootRecordSigned_guards (s : State) (hs : Guarded (custodyPart s.mor)) : Guards (execBootRecordSigned s) := by
  unfold execBootRecordSigned
  split <;> simp [hs]

/-! ### Management ports -/

@[simp] theorem vendorAnswer_guards (cmd : Nat) (b : Bool) (h : VendorHdr) (result : Nat) (body : Bytes) (s : State)
    (hs : Guarded (custodyPart s.mor)) : Guards (vendorAnswer cmd b h result body s) := by
  simp [vendorAnswer, hs]

@[simp] theorem journalCmd_guards (cmd : Nat) (b : Bool) (h : VendorHdr) (s : State) (o : Out) (hs : Guarded (custodyPart s.mor))
    (ho : Guards o) : Guards (journalCmd cmd b h s o) := by
  simp [journalCmd, hs, ho]

@[simp] theorem vaultAsk_guards (b : Bool) (h : VendorHdr) (q : VaultRead) (s : State) (hs : Guarded (custodyPart s.mor)) :
    Guards (vaultAsk b h q s) := by
  simp [vaultAsk, hs]

@[simp] theorem execReadBlock_guards (b : Bool) (h : VendorHdr) (index offset length : Nat) (s : State) (hs : Guarded (custodyPart s.mor)) :
    Guards (execReadBlock b h index offset length s) := by
  unfold execReadBlock
  (repeat' split) <;> simp [hs]

@[simp] theorem mgtAsk_guards (b : Bool) (h : VendorHdr) (q : MgtAsk) (s : State) (hs : Guarded (custodyPart s.mor)) :
    Guards (mgtAsk b h q s) := by
  unfold mgtAsk
  split
  · rename_i ht
    simp [mgtTry_mor ht, hs]
  · simp [hs]

@[simp] theorem execIbiRetry_guards (b acked : Bool) (s : State) (hs : Guarded (custodyPart s.mor)) : Guards (execIbiRetry b acked s) := by
  unfold execIbiRetry
  split <;> simp [hs]

@[simp] theorem cbusLost_guarded (n : Nat) (r : CbusRec) (s : State) (hs : Guarded (custodyPart s.mor)) :
    Guarded (custodyPart (cbusLost n r s).mor) := by
  unfold cbusLost
  dsimp only
  (repeat' split) <;> simp -implicitDefEqProofs +contextual [hs]

@[simp] theorem execCbusRetry_guards (n : Nat) (ack : Bool) (s : State) (hs : Guarded (custodyPart s.mor)) :
    Guards (execCbusRetry n ack s) := by
  unfold execCbusRetry
  split <;> simp [hs]

/-! ### The OTP controller -/

@[simp] theorem otpGoRead_guards (addr : BitVec 11) (s : State) (hs : Guarded (custodyPart s.mor)) : Guards (otpGoRead addr s) := by
  simp [otpGoRead, hs]

@[simp] theorem otpGoProgram_guards (addr : BitVec 11) (data : BitVec 32) (s : State) (hs : Guarded (custodyPart s.mor)) :
    Guards (otpGoProgram addr data s) := by
  simp [otpGoProgram, hs]

@[simp] theorem otpGoScan_guards (s : State) (hs : Guarded (custodyPart s.mor)) : Guards (otpGoScan s) := by
  simp [otpGoScan, hs]

@[simp] theorem otpGoLcStep_guards (owner : Bool) (s : State) (hs : Guarded (custodyPart s.mor)) : Guards (otpGoLcStep owner s) := by
  simp [otpGoLcStep, hs]

/-! ### Tokens and the mailbox -/

@[simp] theorem tokenAct_guarded (t : Token) (s : State) (hs : Guarded (custodyPart s.mor)) : Guarded (custodyPart (tokenAct t s).mor) := by
  simp -implicitDefEqProofs [tokenAct, hs]

@[simp] theorem mbxEnd_guards (b : Bool) (result : Nat) (s : State) (hs : Guarded (custodyPart s.mor)) : Guards (mbxEnd b result s) := by
  simp [mbxEnd, hs]

@[simp] theorem tripClear_guarded (s : State) (hs : Guarded (custodyPart s.mor)) : Guarded (custodyPart (tripClear s).mor) := by
  unfold tripClear
  split
  · exact settle_guarded _ (guarded_filter _ hs)
  · exact hs

@[simp] theorem execTripClear_guards (b : Bool) (sig : Sig2) (s : State) (hs : Guarded (custodyPart s.mor)) :
    Guards (execTripClear b sig s) := by
  have hg (body : Bytes) := gated_guarded 8 1 body .tripClear tripClear s (fun s => tripClear_guarded s) hs
  unfold execTripClear
  dsimp only
  (repeat' split) <;> simp [hs, hg]

@[simp] theorem ackAccept_guarded (n : Nat) (s : State) (hs : Guarded (custodyPart s.mor)) : Guarded (custodyPart (ackAccept n s).mor) := by
  simp [ackAccept, hs]

@[simp] theorem ackEnd_guarded (b : Bool) (chain : Option Bytes) (s : State) (hs : Guarded (custodyPart s.mor)) :
    Guarded (custodyPart (ackEnd b chain s).mor) := by
  simp [ackEnd, hs]

@[simp] theorem execExportAck_guards (b : Bool) (sig : Sig2) (s : State) (hs : Guarded (custodyPart s.mor)) :
    Guards (execExportAck b sig s) := by
  unfold execExportAck
  split <;> simp [hs]

/-! ### Reset events -/

@[simp] theorem sState_guarded (s : State) (hs : Guarded (custodyPart s.mor)) : Guarded (custodyPart (sState s).mor) := by
  simp [sState, hs]

@[simp] theorem sEvent_guarded (s : State) (hs : Guarded (custodyPart s.mor)) : Guarded (custodyPart (sEvent s).mor) := by
  simp [sEvent, hs]

@[simp] theorem hEvent_guarded (p : Nat) (s : State) (hs : Guarded (custodyPart s.mor)) : Guarded (custodyPart (hEvent p s).mor) := by
  unfold hEvent
  refine settle_guarded _ ?_
  simpa using ringsReset_guarded p s hs

/-- A C event leaves no domain RELEASED. -/
@[simp] theorem cEvent_guarded (s : State) (hs : Guarded (custodyPart s.mor)) : Guarded (custodyPart (cEvent s).mor) := by
  obtain ⟨hd, -⟩ := cEvent_leaves s
  refine ⟨fun d h => absurd h (cEvent_not_released s d), ?_⟩
  rw [custodyPart, hd]
  exact cellsWf_filter _ _ hs.2

@[simp] theorem pEvent_guarded (s : State) : Guarded (custodyPart (pEvent s).mor) := guarded_tabEmpty _

/-! ### Attestations -/

@[simp] theorem epFail_guarded (cause : Nat) (digest : Bytes) (j : Nat) (s : State) (hs : Guarded (custodyPart s.mor)) :
    Guarded (custodyPart (epFail cause digest j s).mor) := by
  unfold epFail
  split <;> simp [hs]

@[simp] theorem escalateEp_guarded (j : Nat) (s : State) (hs : Guarded (custodyPart s.mor)) :
    Guarded (custodyPart (escalateEp j s).mor) := by
  unfold escalateEp
  exact escalateFw_guarded _ _ _ s hs

@[simp] theorem attEnd_guarded (cause : Nat) (digest : Bytes) (j : Nat) (s : State) (hs : Guarded (custodyPart s.mor)) :
    Guarded (custodyPart (attEnd cause digest j s).mor) := by
  unfold attEnd
  dsimp only
  (repeat' split) <;> simp [hs]

/-! ### The gate -/

@[simp] theorem violEscalate_guarded (j p : Nat) (s : State) (hs : Guarded (custodyPart s.mor)) :
    Guarded (custodyPart (violEscalate j p s).mor) := by
  unfold violEscalate
  split
  · exact hs
  · dsimp only
    split
    · refine escalateNow_guarded _ _ _ _ _ ?_
      rw [upPart_mor]
      exact hs
    · exact hs

@[simp] theorem violate_guarded (j q p : Nat) (k : Viol) (t : Tlp) (s : State) (hs : Guarded (custodyPart s.mor)) :
    Guarded (custodyPart (violate j q p k t s).1.mor) := by
  unfold violate
  refine settle_guarded _ (violEscalate_guarded _ _ _ ?_)
  (repeat' split) <;> simp [hs]

@[simp] theorem endpointTlp_guarded (j q p : Nat) (t : Tlp) (s : State) (hs : Guarded (custodyPart s.mor)) :
    Guarded (custodyPart (endpointTlp j q p t s).1.mor) := by
  unfold endpointTlp
  (repeat' split) <;> simp [hs]

/-! ### Mediated updates -/

@[simp] theorem aocPick_custodyPart (m : Mordant) : custodyPart (aocPick m) = custodyPart m := by
  unfold aocPick
  split <;> rfl

/-! ### Supplies, oscillators and Mordant requests -/

@[simp] theorem execAocStopped_guards (b : Bool) (s : State) (hs : Guarded (custodyPart s.mor)) : Guards (execAocStopped b s) := by
  unfold execAocStopped
  cases b <;> simp -implicitDefEqProofs [hs]

@[simp] theorem execAocResumed_guards (b : Bool) (s : State) (hs : Guarded (custodyPart s.mor)) : Guards (execAocResumed b s) := by
  unfold execAocResumed
  dsimp only
  refine (guards_when ..).2 ⟨fun _ => ?_, fun _ => hs⟩
  split
  · refine (guards_done ..).2 (settle_guarded _ ?_)
    cases b <;> split <;> simp -implicitDefEqProofs +contextual [hs]
  · cases b <;> simp [hs]

@[simp] theorem execTripRecord_guards (s : State) (hs : Guarded (custodyPart s.mor)) : Guards (execTripRecord s) := by
  unfold execTripRecord
  split <;> simp [hs]

@[simp] theorem tripReq_guards (value : BitVec 32) (s : State) (hs : Guarded (custodyPart s.mor)) : Guards (tripReq value s) := by
  simp [tripReq, hs]

@[simp] theorem holdReq_guards (mask : BitVec 32) (s : State) (hs : Guarded (custodyPart s.mor)) : Guards (holdReq mask s) := by
  unfold holdReq
  refine (guards_mordantAccess ..).2 ⟨fun _ => (guards_done ..).2 ?_, fun _ => hs⟩
  exact settle_guarded _ (each_guarded _ _ s (fun d s => holdDom_guarded 1 false d s) hs)

@[simp] theorem relReqBit_custodyPart (d : Nat) (s : State) : custodyPart (relReqBit d s).mor = custodyPart s.mor := by
  simp [relReqBit]

@[simp] theorem relEvaluate_guarded (l : List Nat) (s : State) (hs : Guarded (custodyPart s.mor)) :
    Guarded (custodyPart (relEvaluate l s).mor) := by
  simp [relEvaluate, hs]

@[simp] theorem relReqSet_guarded (d : Nat) (s : State) (hs : Guarded (custodyPart s.mor)) : Guarded (custodyPart (relReqSet d s).mor) := by
  simp -implicitDefEqProofs +contextual [relReqSet, hs]

@[simp] theorem releaseReq_guards (mask : BitVec 32) (s : State) (hs : Guarded (custodyPart s.mor)) : Guards (releaseReq mask s) := by
  unfold releaseReq
  refine (guards_mordantAccess ..).2 ⟨fun _ => (guards_done ..).2 (relEvaluate_guarded _ _ ?_), fun _ => hs⟩
  rw [each_custodyPart]
  · exact hs
  · simp

/-! ### Waiting records -/

@[simp] theorem gateEffect_guarded (g : Gate) (s : State) (hs : Guarded (custodyPart s.mor)) :
    Guarded (custodyPart (gateEffect g s).mor) := by
  unfold gateEffect
  split <;> simp [hs]

@[simp] theorem writeWaiting_guarded (s : State) (hs : Guarded (custodyPart s.mor)) : Guarded (custodyPart (writeWaiting s).mor) := by
  unfold writeWaiting
  split <;> simp -implicitDefEqProofs [hs]

@[simp] theorem writeAllWaiting_guarded (s : State) (hs : Guarded (custodyPart s.mor)) : Guarded (custodyPart (writeAllWaiting s).mor) := by
  simp -implicitDefEqProofs +contextual [writeAllWaiting, hs]

/-! ### The window -/

@[simp] theorem execXipFetch_guards (offset : BitVec 29) (s : State) (hs : Guarded (custodyPart s.mor)) :
    Guards (execXipFetch offset s) := by
  unfold execXipFetch
  dsimp only
  (repeat' split) <;> simp -implicitDefEqProofs +contextual [hs]

@[simp] theorem execXipFillDone_guards (data : Bytes) (bad : BitVec 2) (s : State) (hs : Guarded (custodyPart s.mor)) :
    Guards (execXipFillDone data bad s) := by
  unfold execXipFillDone
  (repeat' split) <;> simp [hs]

/-! ### Failovers -/

@[simp] theorem restartStream_guarded (k : Nat) (s : State) (hs : Guarded (custodyPart s.mor)) :
    Guarded (custodyPart (restartStream k s).mor) := by
  unfold restartStream
  split <;> simp [hs]

@[simp] theorem dgaRemove_guarded (e : Nat) (s : State) (hs : Guarded (custodyPart s.mor)) : Guarded (custodyPart (dgaRemove e s).mor) := by
  unfold dgaRemove
  refine foldl_guarded _ _ _ (fun s o h => ?_) (by simpa using hs)
  split <;> simp [h]

@[simp] theorem execDgaKnownAnswerCheck_guards (e : Nat) (ok : Bool) (_slots : List Nat) (_xip : Bool) (_meds : List Nat) (s : State)
    (hs : Guarded (custodyPart s.mor)) : Guards (execDgaKnownAnswerCheck e ok _slots _xip _meds s) := by
  unfold execDgaKnownAnswerCheck
  (repeat' split) <;> simp [hs]

/-! ### Ring errors -/

@[simp] theorem queueFails_guarded (p g : Nat) (s : State) (hs : Guarded (custodyPart s.mor)) :
    Guarded (custodyPart (queueFails p g s).mor) := by
  simp [queueFails, hs]

@[simp] theorem accessFail_guarded (p g : Nat) (u : AccessUse) (s : State) (hs : Guarded (custodyPart s.mor)) :
    Guarded (custodyPart (accessFail p g u s).mor) := by
  simp [accessFail, hs]

/-! ### Ring commands -/

@[simp] theorem destroyFirst_guarded (p g : Nat) (s : State) (hs : Guarded (custodyPart s.mor)) :
    Guarded (custodyPart (destroyFirst p g s).mor) := by
  simp [destroyFirst, hs]

@[simp] theorem sqDoorbellGo_guarded (p : BitVec 2) (g : BitVec 18) (value : BitVec 32) (bound : Bool) (s : State)
    (hs : Guarded (custodyPart s.mor)) : Guarded (custodyPart (sqDoorbellGo p g value bound s).mor) := by
  simp [sqDoorbellGo, hs]

@[simp] theorem cqDoorbellGo_guarded (p : BitVec 2) (g : BitVec 18) (value : BitVec 32) (bound : Bool) (s : State)
    (hs : Guarded (custodyPart s.mor)) : Guarded (custodyPart (cqDoorbellGo p g value bound s).mor) := by
  simp [cqDoorbellGo, hs]

@[simp] theorem doorbell_guards (p : BitVec 2) (bound : Bool) (q : LakeReq) (go : State → State) (s : State)
    (hs : Guarded (custodyPart s.mor)) (hg : Guarded (custodyPart (go s).mor)) : Guards (doorbell p bound q go s) := by
  unfold doorbell
  (repeat' split) <;> simp [hs, hg]

@[simp] theorem execDoorbellSq_guards (p : BitVec 2) (g : BitVec 18) (value : BitVec 32) (bound : Bool) (s : State)
    (hs : Guarded (custodyPart s.mor)) : Guards (execDoorbellSq p g value bound s) := by
  simp [execDoorbellSq, hs]

@[simp] theorem execDoorbellCq_guards (p : BitVec 2) (g : BitVec 18) (value : BitVec 32) (bound : Bool) (s : State)
    (hs : Guarded (custodyPart s.mor)) : Guards (execDoorbellCq p g value bound s) := by
  simp [execDoorbellCq, hs]

@[simp] theorem fetchHold_guards (p g : Nat) (e : Bytes) (s : State) (hs : Guarded (custodyPart s.mor)) : Guards (fetchHold p g e s) := by
  simp [fetchHold, hs]

@[simp] theorem fetchActive_guards (p g : Nat) (rec' : RingsRec) (f : Fetched) (s0 s : State)
    (h0 : Guarded (custodyPart s0.mor)) (hs : Guarded (custodyPart s.mor)) : Guards (fetchActive p g rec' f s0 s) := by
  unfold fetchActive
  (repeat' split) <;> simp [h0, hs]

@[simp] theorem fetchGo_guards (p g : Nat) (rec' : RingsRec) (f : Fetched) (s : State) (hs : Guarded (custodyPart s.mor)) :
    Guards (fetchGo p g rec' f s) := by
  simp [fetchGo, hs]

@[simp] theorem againEnd_guarded (j : RingCmd) (status : Nat) (result : Bytes) (out : List (Nat × Bytes)) (s : State)
    (hs : Guarded (custodyPart s.mor)) : Guarded (custodyPart (againEnd j status result out s).mor) := by
  simp [againEnd, hs]

@[simp] theorem againGo_guards (j : RingCmd) (bufOk : Bool) (buf : Bytes) (s : State) (hs : Guarded (custodyPart s.mor)) :
    Guards (againGo j bufOk buf s) := by
  unfold againGo
  (repeat' split) <;> simp [hs]

@[simp] theorem execCommandFetch_guards (p : BitVec 2) (g : BitVec 18) (ok : Bool) (f : Fetched) (s : State)
    (hs : Guarded (custodyPart s.mor)) : Guards (execCommandFetch p g ok f s) := by
  unfold execCommandFetch
  (repeat' split) <;> simp [hs]

@[simp] theorem opcodeEffect_guards (s : State) (test : RingCmd → Bool) (hs : Guarded (custodyPart s.mor)) :
    Guards (opcodeEffect s test) := by
  simp [opcodeEffect, hs]

@[simp] theorem execCapsuleSubmit_guards (s : State) (hs : Guarded (custodyPart s.mor)) : Guards (execCapsuleSubmit s) := by
  unfold execCapsuleSubmit
  split <;> simp [hs]

@[simp] theorem execCompletionPost_guards (p : BitVec 2) (g : BitVec 18) (ok outOk : Bool) (s : State) (hs : Guarded (custodyPart s.mor)) :
    Guards (execCompletionPost p g ok outOk s) := by
  unfold execCompletionPost
  dsimp only
  (repeat' split) <;> simp -implicitDefEqProofs +contextual [hs]

@[simp] theorem execMsixGapEnd_guards (p : BitVec 2) (v : BitVec 11) (s : State) (hs : Guarded (custodyPart s.mor)) :
    Guards (execMsixGapEnd p v s) := by
  unfold execMsixGapEnd
  dsimp only
  (repeat' split) <;> simp -implicitDefEqProofs +contextual [hs]

@[simp] theorem execBatchSigned_guards (second : Bool) (s : State) (hs : Guarded (custodyPart s.mor)) :
    Guards (execBatchSigned second s) := by
  unfold execBatchSigned
  split <;> simp [hs]

/-! ### The Service Complex -/

@[simp] theorem scReset_guards (value : BitVec 32) (s : State) (hs : Guarded (custodyPart s.mor)) : Guards (scReset value s) := by
  simp [scReset, hs]

@[simp] theorem escalateAll_guarded (s : State) (hs : Guarded (custodyPart s.mor)) : Guarded (custodyPart (escalateAll s).mor) := by
  simp -implicitDefEqProofs +contextual [escalateAll, hs]

@[simp] theorem execPairSwitchDone_guards (s : State) (hs : Guarded (custodyPart s.mor)) : Guards (execPairSwitchDone s) := by
  unfold execPairSwitchDone
  have h := lakeOutHold_guarded _
    (escalateAll_guarded (resubmitAll (upSc (fun c => { c with switching := false }) s)) (by simpa using hs))
  simp -implicitDefEqProofs [hs, h]

@[simp] theorem ringResume_guarded (s : State) (hs : Guarded (custodyPart s.mor)) : Guarded (custodyPart (ringResume s).mor) := by
  simp [ringResume, hs]

@[simp] theorem execFirmwareRestart_guards (okA okB : Bool) (s : State) (hs : Guarded (custodyPart s.mor)) :
    Guards (execFirmwareRestart okA okB s) := by
  unfold execFirmwareRestart
  dsimp only
  refine (guards_when ..).2 ⟨fun _ => ?_, fun _ => hs⟩
  split
  · simpa using hs
  · split
    · refine (guards_answer ..).2 ?_
      rw [tempAlert_mor]
      refine settle_guarded _ ?_
      rw [medResume_mor]
      refine lakeOutHold_guarded _ (escalateAll_guarded _ ?_)
      rw [resubmitAll_mor]
      exact ringResume_guarded _ (by simpa using hs)
    · simp -implicitDefEqProofs [hs]

@[simp] theorem sramWp_guards (limit : BitVec 8) (s : State) (hs : Guarded (custodyPart s.mor)) : Guards (sramWp limit s) := by
  simp [sramWp, hs]

@[simp] theorem sicDone_guards (nn : BitVec 4) (value : BitVec 32) (s : State) (hs : Guarded (custodyPart s.mor)) :
    Guards (sicDone nn value s) := by
  simp [sicDone, hs]

@[simp] theorem wdtServe_guards (value : BitVec 32) (s : State) (hs : Guarded (custodyPart s.mor)) : Guards (wdtServe value s) := by
  simp [wdtServe, hs]

@[simp] theorem wdtKey_guards (value : BitVec 32) (inTime : Bool) (s : State) (hs : Guarded (custodyPart s.mor)) :
    Guards (wdtKey value inTime s) := by
  simp [wdtKey, hs]

/-! ### Registers -/

@[simp] theorem writeDoorbell_guards (p : BitVec 2) (a len : Nat) (v : BitVec 32) (bound : Bool) (s : State)
    (hs : Guarded (custodyPart s.mor)) : Guards (writeDoorbell p a len v bound s) := by
  simp [writeDoorbell, hs]

@[simp] theorem writeMordant_guarded (a : Nat) (v : BitVec 32) (s : State) (hs : Guarded (custodyPart s.mor)) :
    Guarded (custodyPart (writeMordant a v s).mor) := by
  have hl : Guarded (s.mor.dom, true) := guarded_locked hs
  unfold writeMordant
  dsimp only
  (repeat' split) <;> simp -implicitDefEqProofs [hs, hl, apply_ite custodyPart]

@[simp] theorem writeBlock_guarded (n a : Nat) (v : BitVec 32) (s : State) (hs : Guarded (custodyPart s.mor)) :
    Guarded (custodyPart (writeBlock n a v s).mor) := by
  unfold writeBlock
  (repeat' split) <;> simp [hs]

/-! ### Gate commands -/

@[simp] theorem execEndpointTlp_guards (q : Nat) (t : Tlp) (bad : BitVec 3) (s : State) (hs : Guarded (custodyPart s.mor)) :
    Guards (execEndpointTlp q t bad s) := by
  unfold execEndpointTlp
  split <;> simp [hs]

@[simp] theorem execHostTlp_guards (p : Nat) (t : Tlp) (s : State) (hs : Guarded (custodyPart s.mor)) : Guards (execHostTlp p t s) := by
  unfold execHostTlp
  split <;> simp [hs]

@[simp] theorem execVaultDriveRequest_guards (inside posted : Bool) (s : State) (hs : Guarded (custodyPart s.mor)) :
    Guards (execVaultDriveRequest inside posted s) := by
  unfold execVaultDriveRequest
  split <;> simp [hs]

@[simp] theorem execDeclareResult_guards (p : Nat) (s : State) (hs : Guarded (custodyPart s.mor)) : Guards (execDeclareResult p s) := by
  unfold execDeclareResult
  split <;> simp [hs]

@[simp] theorem execResistArmEffect_guards (p : Nat) (s : State) (hs : Guarded (custodyPart s.mor)) :
    Guards (execResistArmEffect p s) := by
  unfold execResistArmEffect
  split <;> simp [hs]

/-! ### JTAG -/

@[simp] theorem debugRead_guards (a len : Nat) (s : State) (hs : Guarded (custodyPart s.mor)) : Guards (debugRead a len s) := by
  unfold debugRead
  (repeat' split) <;> simp [hs]

@[simp] theorem execJtagInstruction_guards (n : JtagOp) (s0 : State) (hs : Guarded (custodyPart s0.mor)) :
    Guards (execJtagInstruction n s0) := by
  unfold execJtagInstruction
  split <;> simp -implicitDefEqProofs [hs]

/-! ### The Lake -/

@[simp] theorem lakeReqFail_guarded (q : LakeReq) (s : State) (hs : Guarded (custodyPart s.mor)) :
    Guarded (custodyPart (lakeReqFail q s).mor) := by
  unfold lakeReqFail
  split <;> simp [hs]

@[simp] theorem lakeOut_guarded (s : State) (hs : Guarded (custodyPart s.mor)) : Guarded (custodyPart (lakeOut s).mor) := by
  unfold lakeOut
  dsimp only
  refine settle_guarded _ (lakeOutHold_guarded _ ?_)
  have h := foldl_guarded s.lake.held (fun s q => lakeReqFail q s) s (fun s q => lakeReqFail_guarded q s) hs
  simpa using ⟨fun _ _ _ => h, fun _ => h⟩

@[simp] theorem lakeRemove_guarded (n : Nat) (s : State) (hs : Guarded (custodyPart s.mor)) :
    Guarded (custodyPart (lakeRemove n s).mor) := by
  simp -implicitDefEqProofs [lakeRemove, hs]

@[simp] theorem execLakeIntegrityFail_guards (n : BitVec 3) (reread rebuilt : Bool) (s : State) (hs : Guarded (custodyPart s.mor)) :
    Guards (execLakeIntegrityFail n reread rebuilt s) := by
  unfold execLakeIntegrityFail
  (repeat' split) <;> simp -implicitDefEqProofs [hs]

@[simp] theorem lakeReqGo_guarded (q : LakeReq) (s : State) (hs : Guarded (custodyPart s.mor)) :
    Guarded (custodyPart (lakeReqGo q s).mor) := by
  unfold lakeReqGo
  split <;> simp [hs]

/-! ### Links and endpoints -/

@[simp] theorem execLinkUp_guards (port rate width : Nat) (flit l0p : Bool) (s : State) (hs : Guarded (custodyPart s.mor)) :
    Guards (execLinkUp port rate width flit l0p s) := by
  unfold execLinkUp
  (repeat' split) <;> simp [hs]

@[simp] theorem execLinkDown_guards (port : Nat) (s : State) (hs : Guarded (custodyPart s.mor)) : Guards (execLinkDown port s) := by
  unfold execLinkDown
  split <;> simp [hs]

@[simp] theorem execSpdmSendTimeout_guards (j : Nat) (s : State) (hs : Guarded (custodyPart s.mor)) :
    Guards (execSpdmSendTimeout j s) := by
  unfold execSpdmSendTimeout
  split <;> simp [hs]

@[simp] theorem gateContain_guards (mask : BitVec 32) (s : State) (hs : Guarded (custodyPart s.mor)) : Guards (gateContain mask s) := by
  simp [gateContain, hs]

@[simp] theorem gateRecheck_guards (mask : BitVec 32) (s : State) (hs : Guarded (custodyPart s.mor)) : Guards (gateRecheck mask s) := by
  simp [gateRecheck, hs]

@[simp] theorem execHostConfigRequest_guards (port : Nat) (s : State) (hs : Guarded (custodyPart s.mor)) :
    Guards (execHostConfigRequest port s) := by
  unfold execHostConfigRequest
  (repeat' split) <;> simp [hs]

@[simp] theorem execHostDpcTriggerWrite_guards (port : Nat) (trigger : Bool) (s : State) (hs : Guarded (custodyPart s.mor)) :
    Guards (execHostDpcTriggerWrite port trigger s) := by
  unfold execHostDpcTriggerWrite
  split <;> simp [hs]

/-! ### Mediated update commands -/

@[simp] theorem execPldmMediatedPacket_guards (port : Nat) (m : MedMsg) (size : Nat) (s : State) (hs : Guarded (custodyPart s.mor)) :
    Guards (execPldmMediatedPacket port m size s) := by
  unfold execPldmMediatedPacket
  (repeat' split) <;> simp [hs]

@[simp] theorem execActivateFirmwareRelease_guards (port : Nat) (s : State) (hs : Guarded (custodyPart s.mor)) :
    Guards (execActivateFirmwareRelease port s) := by
  unfold execActivateFirmwareRelease
  (repeat' split) <;> simp [hs]

@[simp] theorem execActivateFirmwareResponse_guards (port : Nat) (s : State) (hs : Guarded (custodyPart s.mor)) :
    Guards (execActivateFirmwareResponse port s) := by
  unfold execActivateFirmwareResponse
  split <;> simp [hs]

/-! ### Presentation port commands -/

@[simp] theorem prsModeRead_guards (f : PrsFrame) (q : PrsRead) (m : ReadMode) (cond : PresentRec → Bool) (op3 op4 : Byte) (s : State)
    (hs : Guarded (custodyPart s.mor)) : Guards (prsModeRead f q m cond op3 op4 s) := by
  simp [prsModeRead, hs]

@[simp] theorem execPrsSectorErase_guards (f : PrsFrame) (op : Byte) (s : State) (hs : Guarded (custodyPart s.mor)) :
    Guards (execPrsSectorErase f op s) := by
  refine prsFrame_guards _ _ _ hs (fun p r e => ?_)
  split <;> simp [hs]

@[simp] theorem prsAddrMode_guards (f : PrsFrame) (op : Byte) (on : Bool) (s : State) (hs : Guarded (custodyPart s.mor)) :
    Guards (prsAddrMode f op on s) := by
  simp [prsAddrMode, hs]

@[simp] theorem execWriteJournalEntry_guards (port : Nat) (dev : Bool) (s : State) (hs : Guarded (custodyPart s.mor)) :
    Guards (execWriteJournalEntry port dev s) := by
  unfold execWriteJournalEntry
  dsimp only
  (repeat' split) <;> simp -implicitDefEqProofs +contextual [hs]

@[simp] theorem execWriteDurable_guards (port : Nat) (dev : Bool) (s : State) (hs : Guarded (custodyPart s.mor)) :
    Guards (execWriteDurable port dev s) := by
  unfold execWriteDurable
  dsimp only
  (repeat' split) <;> simp -implicitDefEqProofs +contextual [hs]

@[simp] theorem execWriteApply_guards (port : Nat) (dev : Bool) (s : State) (hs : Guarded (custodyPart s.mor)) :
    Guards (execWriteApply port dev s) := by
  unfold execWriteApply
  dsimp only
  (repeat' split) <;> simp -implicitDefEqProofs +contextual [hs]

@[simp] theorem execDeviceLoadDone_guards (port : Nat) (dev : Bool) (content : List (Nat × Byte)) (ok : Bool) (s : State)
    (hs : Guarded (custodyPart s.mor)) : Guards (execDeviceLoadDone port dev content ok s) := by
  unfold execDeviceLoadDone
  split <;> simp [hs]

/-! ### Register writes -/

theorem writeInternal_guarded {a : Nat} {b : Bytes} {s t : State} (h : writeInternal a b s = some t) (hs : Guarded (custodyPart s.mor)) :
    Guarded (custodyPart t.mor) := by
  unfold writeInternal at h
  (repeat' split at h) <;> cases h <;> simp [hs]

theorem ownWrite_guards {n a : Nat} {v : BitVec 32} {s : State} {o : Out} (hs : Guarded (custodyPart s.mor))
    (h : ownWrite n a v s = some o) : Guards o := by
  unfold ownWrite at h
  (repeat' split at h) <;> cases h <;> simp [hs]

@[simp] theorem jtagOut_guards (s : State) (o : Out) (hs : Guarded (custodyPart s.mor)) (ho : Guards o) : Guards (jtagOut s o) := by
  unfold jtagOut
  split
  · split
    · simpa using hs
    · exact ho
  · exact ho

@[simp] theorem jtagWrite_guards (a len : Nat) (v : BitVec 32) (s : State) (hs : Guarded (custodyPart s.mor)) :
    Guards (jtagWrite a len v s) := by
  unfold jtagWrite
  split
  · simp [hs]
  · split
    · rename_i h
      simp [hs, ownWrite_guards hs h]
    · simp [hs]

@[simp] theorem execRegisterWrite_guards (sp : RegSpace) (a : Nat) (v : BitVec 32) (s : State) (hs : Guarded (custodyPart s.mor)) :
    Guards (execRegisterWrite sp a v s) := by
  unfold execRegisterWrite
  split
  · simp [hs]
  · simp [hs]
  · simp [hs]
  · refine (guards_when ..).2 ⟨fun _ => ?_, fun _ => hs⟩
    split
    · rename_i h
      simp [writeInternal_guarded h hs]
    · simp [hs]
  · simp [hs]

/-! ### Self-test and ROM -/

@[simp] theorem romFloor_custodyPart (cause : Nat) (s : State) : custodyPart (romFloor cause s).mor = custodyPart s.mor := by
  simp [romFloor]

@[simp] theorem romSlot_custodyPart (t : SelfTest) (slot : Bool) (s : State) : custodyPart (romSlot t slot s).mor = custodyPart s.mor := by
  unfold romSlot
  (repeat' split) <;> simp

@[simp] theorem romPolicy_custodyPart (t : SelfTest) (s : State) : custodyPart (romPolicy t s).mor = custodyPart s.mor := by
  simp [romPolicy]

@[simp] theorem romNoPolicy_custodyPart (s : State) : custodyPart (romNoPolicy s).mor = custodyPart s.mor := by
  simp [romNoPolicy]

@[simp] theorem execSelfTestDone_guards (t : SelfTest) (s : State) (hs : Guarded (custodyPart s.mor)) : Guards (execSelfTestDone t s) := by
  unfold execSelfTestDone
  dsimp only
  (repeat' split) <;> simp -implicitDefEqProofs +contextual [hs]

/-! ### The Vault -/

@[simp] theorem nvmeEffect_guarded (back : List DriveBlock) (u : NvmeUse) (s : State) (hs : Guarded (custodyPart s.mor)) :
    Guarded (custodyPart (nvmeEffect back u s).mor) := by
  unfold nvmeEffect
  (repeat' split) <;> simp [hs]

@[simp] theorem execNvmeCommandDone_guards (back : List DriveBlock) (s : State) (hs : Guarded (custodyPart s.mor)) :
    Guards (execNvmeCommandDone back s) := by
  unfold execNvmeCommandDone
  split <;> simp -implicitDefEqProofs [hs]

@[simp] theorem execNvmeCommandTimeout_guards (s : State) (hs : Guarded (custodyPart s.mor)) : Guards (execNvmeCommandTimeout s) := by
  unfold execNvmeCommandTimeout
  split <;> simp [hs]

@[simp] theorem execNvmeControllerReady_guards (s : State) (hs : Guarded (custodyPart s.mor)) : Guards (execNvmeControllerReady s) := by
  unfold execNvmeControllerReady
  split <;> simp [hs]

@[simp] theorem execCheckpointDone_guards (s : State) (hs : Guarded (custodyPart s.mor)) : Guards (execCheckpointDone s) := by
  unfold execCheckpointDone
  split <;> simp [hs]

/-! ### The tick -/

@[simp] theorem tick_guarded (s : State) (hs : Guarded (custodyPart s.mor)) : Guarded (custodyPart (tick s).mor) := by
  simp [tick, hs]

/-! ### Attestations that end -/

@[simp] theorem execSpdmMeasurements_guards (j : Nat) (block : Option Bytes) (sig : Half) (s : State) (hs : Guarded (custodyPart s.mor)) :
    Guards (execSpdmMeasurements j block sig s) := by
  unfold execSpdmMeasurements
  (repeat' split) <;> simp [hs]

/-! ### The commands -/

/-- No command leaves a domain RELEASED without the lock (R110). -/
theorem exec_guards (c : Instr) (s : State) (hs : Guarded (custodyPart s.mor)) : Guards (exec c s) := by
  cases c with
  | vsecPowerOn | criticalFuseLatchComplete | vsecBrownout | vsecOff | mainSetGood | mainRailFail | pllLossOfLock | vioRstGood |
    vioRstLost | vioBankLow | hotReset | upstreamLinkDown | aocDisagreement | aocStopped | aocResumed | tamperAssert | tripRecord |
    tripReqWrite | holdRequest | releaseRequest | tamperRelease | vsecAboveVBod | aocAgreement =>
    simp -implicitDefEqProofs +contextual [exec, execVsecPowerOn, execCriticalFuseLatchComplete, execVsecBrownout, execVsecOff,
      execMainSetGood, execMainRailFail, execPllLossOfLock, execVioRstGood, execVioRstLost, execVioBankLow, execHotReset,
      execUpstreamLinkDown, execAocDisagreement, execTamperAssert, execTripReqWrite, execHoldRequest, execReleaseRequest,
      execTamperRelease, execVsecAboveVBod, execAocAgreement, hs]
  | tripClear | challenge | token | jtagTokenSubmit | lcClose | exportAck =>
    simp -implicitDefEqProofs +contextual [exec, execChallenge, execToken, execJtagTokenSubmit, execLcClose, hs]
  | registerWrite =>
    simp -implicitDefEqProofs +contextual [exec, hs]
  | selfTestDone | microcodeLoadDone =>
    simp -implicitDefEqProofs +contextual [exec, execMicrocodeLoadDone, hs]
  | otpRead | otpProgram | otpScan | otpLcStep | otpOpDone =>
    simp -implicitDefEqProofs +contextual [exec, execOtpRead, execOtpProgram, execOtpScan, execOtpLcStep, execOtpOpDone, hs]
  | jtagInstruction =>
    simp -implicitDefEqProofs +contextual [exec, hs]
  | pldmRequestUpdate | pldmComponentPush | pldmCapsulePush | capsuleStage | pldmCancelUpdate =>
    simp -implicitDefEqProofs +contextual [exec, execPldmRequestUpdate, execPldmCapsulePush, execPldmCancelUpdate, hs]
  | cchQpush | cchQdoneRead | cchFrameStart | cchFrameEnd | cchWipPoll | cchWipTimeout | cchContTimeout | cchPeriodicCalibration |
    cchSelftestDone | scrubPassStart | commitEntryStart =>
    simp -implicitDefEqProofs +contextual [exec, execCchQpush, execCchQdoneRead, execCchPeriodicCalibration, execCchSelftestDone,
      execScrubPassStart, hs]
  | xipFetch | xipFillDone =>
    simp -implicitDefEqProofs +contextual [exec, hs]
  | prsRead | prsFastRead | prsReadDual | prsReadQuad | prsReadQuadDtr | prsReadOctal | prsReadOctalDtr | prsPageProgram |
    prsPageProgramQuad | prsSectorErase | prsChipErase | prsWriteEnable | prsWriteDisable | prsReadStatus | prsWriteStatus |
    prsReadId | prsReadSfdp | prsEnter4b | prsExit4b | prsProtocolSelect | prsResetEnable | prsReset | prsPowerDown |
    prsReleasePowerDown | prsUnknownOpcode | prsFrameReject | writeJournalEntry | writeDurable | writeApply | deviceLoadDone =>
    simp -implicitDefEqProofs +contextual [exec, execPrsRead, execPrsFastRead, execPrsReadDual, execPrsReadQuad, execPrsReadQuadDtr,
      execPrsReadOctal, execPrsReadOctalDtr, execPrsPageProgram, execPrsPageProgramQuad, execPrsChipErase, execPrsWriteEnable,
      execPrsWriteDisable, execPrsReadStatus, execPrsWriteStatus, execPrsReadId, execPrsReadSfdp, execPrsEnter4b, execPrsExit4b,
      execPrsProtocolSelect, execPrsResetEnable, execPrsReset, execPrsPowerDown, execPrsReleasePowerDown, execPrsUnknownOpcode,
      execPrsFrameReject, hs]
  | lakeIntegrityFail | lakeChannelFault | lakeFailoverDone =>
    simp -implicitDefEqProofs +contextual [exec, execLakeChannelFault, execLakeFailoverDone, hs]
  | judgeStart | verifyDeadlineExpiry | restoreVaultBegin | vaultWaitExpiry | goldenStore | imageSvnAdvance | policySvnAdvance =>
    simp -implicitDefEqProofs +contextual [exec, execJudgeStart, execVaultWaitExpiry, hs]
  | linkUp | linkDown | endpointLinkTimeout | endpointReadyWaitEnd | deviceReadinessStatus | configRetry | endpointConfigSuccess |
    endpointReadyTimeout | spdmVersion | spdmCapabilities | spdmAlgorithms | spdmDigests | spdmCertificate | spdmError |
    spdmSendTimeout | attestationTimeout | recheckDue | gateContainReq | gateRechkReq | hostConfigRequest | hostDpcTriggerWrite |
    altProtocolNegotiation =>
    simp -implicitDefEqProofs +contextual [exec, execEndpointLinkTimeout, execEndpointReadyWaitEnd, execDeviceReadinessStatus,
      execConfigRetry, execEndpointConfigSuccess, execEndpointReadyTimeout, execSpdmVersion, execSpdmCapabilities,
      execSpdmAlgorithms, execSpdmDigests, execSpdmCertificate, execSpdmError, execAttestationTimeout, execRecheckDue,
      execGateContainReq, execGateRechkReq, execAltProtocolNegotiation, hs]
  | endpointTlp | hostTlp | vaultDriveRequest | ideStreamSecure | ideStreamLeaveSecure | ideKmRequest | tdispLockInterface |
    tdiError | declare | declareResult | arm | armDeadline | resistArmEffect | violWindowEnd | sliceCheck | sliceFailoverDone |
    planeFault | planeFailoverDone | spdmSecuredSession | tdispStartInterface | tdispStopInterface =>
    simp -implicitDefEqProofs +contextual [exec, execIdeStreamSecure, execIdeStreamLeaveSecure, execIdeKmRequest,
      execTdispLockInterface, execTdiError, execDeclare, execArm, execArmDeadline, execViolWindowEnd, execSliceCheck,
      execSliceFailoverDone, execPlaneFault, execPlaneFailoverDone, execSpdmSecuredSession, execTdispStartInterface,
      execTdispStopInterface, hs]
  | pldmMediatedPacket | activateFirmwareRelease | activateFirmwareResponse =>
    simp -implicitDefEqProofs +contextual [exec, hs]
  | recordSubmit | recordDurable | blockTimedClose | chainDone | bootRecordSigned =>
    simp -implicitDefEqProofs +contextual [exec, execRecordSubmit, execRecordDurable, execChainDone, hs]
  | waitingRecordWrite =>
    simp -implicitDefEqProofs +contextual [exec, execWaitingRecordWrite, hs]
  | archiveBlock | nvmeCommandDone | nvmeCommandTimeout | nvmeControllerReady | nvmeResetTimeout | checkpoint | checkpointDone =>
    simp -implicitDefEqProofs +contextual [exec, execArchiveBlock, execNvmeResetTimeout, execCheckpoint, hs]
  | journalState | readBlock | closeBlock | signedHead | readBootRecord | readAliasCert | cbusPoll | cbusRetry | ibiRetry |
    smbusAlertResponse | smbusSclTimeout | tempSensorUpdate | mctpControl | getVersion | getCapabilities | getCertificate | entdaa |
    setdasa =>
    simp -implicitDefEqProofs +contextual [exec, execJournalState, execCloseBlock, execSignedHead, execReadBootRecord,
      execReadAliasCert, execCbusPoll, execSmbusAlertResponse, execSmbusSclTimeout, execTempSensorUpdate, execMctpControl,
      execGetVersion, execGetCapabilities, execGetCertificate, execEntdaa, execSetdasa, hs]
  | doorbellSq | doorbellCq | commandFetch | ledgerExtend | ledgerRead | quote | quotePlatform | counterIncrement | counterRead |
    journalNote | ringCreate | ringDestroy | quotaSet | ledgerAlloc | ledgerRelease | counterAlloc | counterRelease |
    capsuleSubmit | completionPost | msixGapEnd | batchClose | batchSigned | hostMemoryRetry | dmaTimeout | ringWatchdog |
    adminRingEnable | adminRingDisable =>
    simp -implicitDefEqProofs +contextual [exec, execLedgerExtend, execLedgerRead, execQuote, execQuotePlatform,
      execCounterIncrement, execCounterRead, execJournalNote, execRingCreate, execRingDestroy, execQuotaSet, execLedgerAlloc,
      execLedgerRelease, execCounterAlloc, execCounterRelease, execBatchClose, execHostMemoryRetry, execDmaTimeout,
      execRingWatchdog, execAdminRingEnable, execAdminRingDisable, hs]
  | lockstepMismatch | spareMismatch | pairSwitchDone | scResetWrite | firmwareRestart | sramWpWrite | busTimeout | sicDoneWrite |
    waitForInterrupt | sicWake | wdtServe | wdtKeyWrite | wdtEnableWrite | wdtExpiry | wdtHardTimerEnd | wdtClockMonitor =>
    simp -implicitDefEqProofs +contextual [exec, execLockstepMismatch, execSpareMismatch, execScResetWrite, execSramWpWrite,
      execBusTimeout, execSicDoneWrite, execWaitForInterrupt, execSicWake, execWdtServe, execWdtKeyWrite, execWdtEnableWrite,
      execWdtExpiry, execWdtHardTimerEnd, execWdtClockMonitor, hs]
  | dgaOpen | dgaOpenGrant | dgaDataWrite | dgaLastWrite | dgaClose | dgaExpectWrite | ecdsaP384Verify | ecdsaP384Sign |
    mlDsa65Verify | mlDsa65Sign | mlDsa87Verify | mlDsa87Sign | hssVerify | ecdhP384 | mlKem1024Keygen | mlKem1024Encaps |
    mlKem1024Decaps | sigOpDone | kldFwidWrite | kldSvnWrite | kldRandRead | rngHealthFail =>
    simp -implicitDefEqProofs +contextual [exec, execDgaOpen, execDgaDataWrite, execDgaLastWrite, execDgaClose, execDgaExpectWrite,
      execEcdsaP384Verify, execEcdsaP384Sign, execMlDsa65Verify, execMlDsa65Sign, execMlDsa87Verify, execMlDsa87Sign, execHssVerify,
      execEcdhP384, execMlKem1024Keygen, execMlKem1024Encaps, execMlKem1024Decaps, execKldFwidWrite, execKldSvnWrite,
      execKldRandRead, execRngHealthFail, hs]
  | dgaKnownAnswerCheck | dgaFailoverDone | sigKnownAnswerCheck | sigFailoverDone | persistBankFault | persistFailoverDone =>
    simp -implicitDefEqProofs +contextual [exec, execDgaFailoverDone, execSigKnownAnswerCheck, execSigFailoverDone,
      execPersistBankFault, execPersistFailoverDone, hs]
  | regRead | regWrite =>
    simp -implicitDefEqProofs +contextual [exec, execRegRead, execRegWrite, hs]
  -- The two ring commands left: a bare case label cannot name them, since Lean reserves both words.
  | _ =>
    simp -implicitDefEqProofs [exec, execSeal, execUnseal, hs]

/-- A step of a state whose RELEASED domains rest on the lock leads to such a state (R110). -/
theorem step_guards (s : State) (hs : Guarded (custodyPart s.mor)) : Guards (step s) := by
  unfold step
  split
  · exact fun t h => Host.Outcome.next.inj h ▸ tick_guarded s hs
  · exact exec_guards _ _ hs

/-- Settles O16: the Interlock's condition held at the start of the cycle that released the domain, and only a Release, which needs the
lock, makes a domain RELEASED. -/
theorem releaseNeedsTheInterlock : Obligations.ReleaseNeedsTheInterlock := by
  unfold Obligations.ReleaseNeedsTheInterlock
  refine ⟨fun m s t d ⟨hx, ht, hs⟩ => ?_,
    fun s t ⟨hl, hw, hx⟩ => (guarded_iff t).1 (step_guards s ((guarded_iff s).2 ⟨hl, hw⟩) t hx)⟩
  obtain ⟨hlock, hvio, hused, htrip, hpre, hver⟩ := releaseRequest_releases hx ht hs
  exact ⟨hlock, hvio, hused, htrip, hpre, hver⟩

end Sys2Proof.Machine
end

section
/-!
PROOF. What the trip sources leave in the Mordant (R87, R95, R116, R514, R516), and that no C event clears a trip (R121).
-/
namespace Sys2Proof.Machine

open Sys2Proof

variable {s : State}

/-- The trip sources and the oscillators, as the Mordant holds them. -/
def sources (m : Mordant) : (Bool × BitVec 4 × Bool) × (Bool × Bool × Bool) :=
  ((m.brown, m.tampLow, m.aocDis), (m.aocSel, m.aocA, m.aocB))

theorem sources_of_unmoved {m n : Mordant} (h : unmoved m = unmoved n) : sources m = sources n := (congrArg sources h :)

theorem settle_tripDoms_unmoved (l : List Nat) (s : State) : unmoved (settle (each l tripDom s)).mor = unmoved s.mor := by simp

/-- A trip leaves its sources as they are, whatever it finds. -/
theorem custodyTrip_sources (src : Nat) (s : State) : sources (custodyTrip src s).mor = sources s.mor := by
  unfold custodyTrip
  dsimp only
  split
  · rfl
  · split
    · rfl
    · split
      · rw [sources_of_unmoved (settle_tripDoms_unmoved _ _), tripGate_mor]
        rfl
      · rw [tripGate_mor]
        rfl

/-- Once the critical wires are latched a trip is shown (R516). -/
theorem custodyTrip_shown (src : Nat) (hl : s.mor.latched = true) : (custodyTrip src s).mor.trip = true := by
  unfold custodyTrip
  simp only [hl, Bool.not_true, Bool.false_eq_true, if_false]
  split
  · assumption
  · split <;> simp

/-- While the oscillators agree, the Mordant stays on the one it runs from. -/
theorem aocPick_of_agreed {m : Mordant} (h : m.aocDis = false) : aocPick m = m := by simp [aocPick, h]

/-- While the oscillators agree and one still toggles, a stop is all that happens. -/
theorem aocStopped_of_runs (f : Mordant → Mordant) (hd : (f s.mor).aocDis = false) (hr : aocRuns (upMor f s) = true) (o : Out) :
    (if aocRuns (upMor (fun m => aocPick (f m)) s) then done (upMor (fun m => aocPick (f m)) s) else o)
      = .next (say .none (upMor f s)) := by
  have hp : upMor (fun m => aocPick (f m)) s = upMor f s := congrArg (fun m => { s with mor := m }) (aocPick_of_agreed hd)
  rw [hp, if_pos hr]
  rfl

/-- After both oscillators were stopped, what follows the one that resumes leaves everything but domains and their slots. -/
theorem resumed_unmoved (s : State) : unmoved (settle (if s.mor.trip then each (tripList s) tripDom s else s)).mor = unmoved s.mor := by
  split
  · exact settle_tripDoms_unmoved _ s
  · exact settle_unmoved s

/-- Settles O56: what a C event does to the Mordant leaves the trip. -/
theorem tripSurvivesCEvents : Obligations.TripSurvivesCEvents := by
  unfold Obligations.TripSurvivesCEvents
  have h : ∀ s b, s.mor.trip = true → ∃ t, when b s (done (cEvent s)) = .next t ∧ t.mor.trip = true := by
    intro s b ht
    cases b with
    | true => exact ⟨_, rfl, (cEvent_trip s).trans ht⟩
    | false => exact ⟨_, rfl, ht⟩
  rintro s c ⟨ht, rfl | rfl⟩
  · exact h s _ ht
  · exact h s _ ht

/-- Settles O10: a trip source changes its own field and then trips; each other event changes its own fields alone. -/
theorem oscillatorsAndTamper : Obligations.OscillatorsAndTamper := by
  unfold Obligations.OscillatorsAndTamper
  refine ⟨?_, ?_, ?_, ?_, ?_, ?_, ?_, ?_, ?_, ?_, ?_, ?_⟩
  · rintro s ⟨hv, hl, hb⟩
    refine ⟨_, when_of_true (by simp [hv, hl, hb]) _ _, ?_, custodyTrip_shown 6 hl⟩
    exact (congrArg (·.1.1) (custodyTrip_sources 6 _) :)
  · rintro s ⟨hv, hb⟩
    exact when_of_true (by simp [hv, hb]) _ _
  · rintro n s ⟨hv, hl, hn⟩
    refine ⟨_, when_of_true (by rw [hv, hn]; rfl) _ _, ?_, custodyTrip_shown _ hl⟩
    exact (congrArg (·.1.2.1) (custodyTrip_sources _ _) :)
  · rintro n s ⟨hv, hl, hn⟩
    refine (when_of_true (by rw [hv, hn]; rfl) _ _).trans ?_
    simp [custodyTrip, hl, done]
  · rintro n s ⟨hv, hn⟩
    exact when_of_true (by rw [hv, hn]; rfl) _ _
  · rintro s ⟨hv, hl, hd⟩
    have h := custodyTrip_sources 5 (upMor (fun m => { m with aocDis := true, aocSel := !m.aocA }) s)
    refine ⟨_, when_of_true (by simp [hv, hd]) _ _, ?_, ?_, custodyTrip_shown 5 hl⟩
    · exact (congrArg (·.1.2.2) h :)
    · exact (congrArg (·.2.1) h :)
  · rintro s ⟨hv, hd, ha, hb⟩
    exact when_of_true (by simp [hv, hd, ha, hb]) _ _
  · rintro s ⟨hv, ha, hb, hd⟩
    refine ⟨(when_of_true (by simp [hv, ha]) _ _).trans ?_, (when_of_true (by simp [hv, hb]) _ _).trans ?_⟩
    · exact aocStopped_of_runs (fun m => { m with aocA := false }) hd (by simp [aocRuns, hb]) _
    · exact aocStopped_of_runs (fun m => { m with aocB := false }) hd (by simp [aocRuns, ha]) _
  · rintro s ⟨hv, ha, hb, hd⟩
    refine ⟨_, (when_of_true (by simp [hv, ha]) _ _).trans (if_pos (by simp [aocPick, aocRuns, hb, hd])), ?_⟩
    simp [aocPick, hb, hd]
  · rintro s ⟨hv, hl, ha, hb⟩
    have hr : aocRuns (upMor (fun m => aocPick { m with aocA := false }) s) = false := by simp [aocPick, aocRuns, hb]
    have hk : (upMor (fun m => aocPick { m with aocA := false }) s).mor = { s.mor with aocA := false } := by simp [aocPick, hb]
    have h := custodyTrip_sources 5
      (upMor (fun m => { m with aocDis := true, tripSrc := if m.latched then 5 else m.tripSrc })
        (upMor (fun m => aocPick { m with aocA := false }) s))
    refine ⟨_, (when_of_true (by simp [hv, ha]) _ _).trans (if_neg (by simpa using hr)), ?_, ?_, custodyTrip_shown 5 ?_⟩
    · exact (congrArg (·.2.2.1) h :).trans (congrArg Mordant.aocA hk)
    · exact (congrArg (·.1.2.2) h :)
    · exact (congrArg Mordant.latched hk).trans hl
  · rintro s ⟨hv, ha, hb⟩
    exact (when_of_true (by simp [hv, ha]) _ _).trans (by simp [done, hb])
  · rintro b s ⟨hv, ha, hb⟩
    have hg : (s.mor.vsec && !(if b then s.mor.aocB else s.mor.aocA)) = true := by simp [hv, ha, hb]
    have h := resumed_unmoved (resumedOn b s)
    have ho : (resumedOn b s).mor.aocB = b ∧ (resumedOn b s).mor.aocA = !b := by cases b <;> simp [resumedOn, ha, hb]
    exact ⟨_, (when_of_true hg _ _).trans (if_pos (by simp [ha, hb])), (congrArg Mordant.aocB h :).trans ho.1,
      (congrArg Mordant.aocA h :).trans ho.2, (congrArg Mordant.aocSel h :), (congrArg Mordant.asyncTrip h :),
      (congrArg Mordant.trip h :).trans (resumedOn_trip b s)⟩

end Sys2Proof.Machine
end

section
/-!
PROOF. The identity requests, addresses and alerts of the management ports, CBUS and the sensor (R125, R473 to R475, R491, R496).
-/
namespace Sys2Proof.Machine

open Sys2Proof

variable {s : State} {b : Bool}

/-! ### The two ports -/

theorem when_of_false {c : Bool} (h : c = false) (s : State) (o : Out) : when c s o = notNow s := if_neg (by simp [h])

@[simp] theorem mgtOf_upMgt_self (b : Bool) (f : Mgt → Mgt) (s : State) : mgtOf (upMgt b f s) b = f (mgtOf s b) := by
  cases b <;> rfl

@[simp] theorem mgtOf_upMgt_other (b : Bool) (f : Mgt → Mgt) (s : State) : mgtOf (upMgt b f s) (!b) = mgtOf s (!b) := by
  cases b <;> rfl

@[simp] theorem mgtOf_say (r : Reply) (s : State) (b : Bool) : mgtOf (say r s) b = mgtOf s b := rfl

/-- A command that changes a port leaves it as changed, the other as it was, and the Mordant. -/
theorem next_upMgt (r : Reply) (f : Mgt → Mgt) {o : Out} (h : o = .next (say r (upMgt b f s))) :
    ∃ t, o = .next t ∧ t.reply = r ∧ mgtOf t b = f (mgtOf s b) ∧ mgtOf t (!b) = mgtOf s (!b) ∧ t.mor = s.mor :=
  ⟨_, h, rfl, by simp, by simp, upMgt_mor b f s⟩

/-! ### CBUS -/

@[simp] theorem cbusOf_upCbus_self (i : Nat) (f : CbusComp → CbusComp) (s : State) : cbusOf (upCbus i f s) i = f (cbusOf s i) :=
  tabGet_tabSet_self ..

@[simp] theorem emit_cbus (code src : Nat) (body : Bytes) (s : State) : (emit code src body s).cbus = s.cbus := by
  unfold emit
  split <;> rfl

@[simp] theorem emitFw_cbus (code : Nat) (body : Bytes) (s : State) : (emitFw code body s).cbus = s.cbus := by
  unfold emitFw
  split
  · exact emit_cbus ..
  · rfl

/-- A command that changes a CBUS component leaves it as changed, and the Mordant. -/
theorem next_upCbus (i : Nat) (f : CbusComp → CbusComp) {o : Out} (h : o = done (upCbus i f s)) :
    ∃ t, o = .next t ∧ cbusOf t i = f (cbusOf s i) ∧ t.mor = s.mor :=
  ⟨_, h, cbusOf_upCbus_self i f s, upCbus_mor i f s⟩

/-- The loss of a component that is not REQUIRED has no action beyond the component. -/
theorem cbusLost_of_not_required {i : Nat} {r : CbusRec} (h : r.flags.testBit 0 = false) :
    (cbusOf (cbusLost i r s) i).present = false ∧ (cbusLost i r s).mor = s.mor := by
  have hl : cbusLost i r s = emitFw 0x0032 (le 1 i ++ le 1 r.addr ++ le 1 2 ++ le 1 0)
      (upCbus i (fun c => { c with present := false, tries := 0 }) s) := by
    simp [cbusLost, h]
  rw [hl]
  have hc : (cbusOf (upCbus i (fun c => { c with present := false, tries := 0 }) s) i).present = false := by simp
  exact ⟨by rw [cbusOf, emitFw_cbus]; exact hc, by simp⟩

/-! ### The sensor -/

/-- The reading of the sensor is kept, whether or not it is told. -/
theorem tempAlert_temp (s : State) : (tempAlert s).temp.valid = s.temp.valid ∧ (tempAlert s).temp.reading = s.temp.reading := by
  unfold tempAlert
  split <;> exact ⟨rfl, rfl⟩

/-- Without a change of the thresholds reached, or without firmware, nothing follows a reading. -/
theorem tempAlert_of_told (h : fwRuns s = false ∨ tempLevel s.temp = s.temp.told) : tempAlert s = s := by
  rcases h with h | h <;> simp [tempAlert, h]

/-- Firmware tells a change of the thresholds reached at both ports. -/
theorem tempAlert_of_change (hf : fwRuns s = true) (hl : tempLevel s.temp ≠ s.temp.told) :
    (tempAlert s).temp = { s.temp with told := tempLevel s.temp } ∧ (tempAlert s).mgtA.sensorEvent = some (tempLevel s.temp) ∧
      (tempAlert s).mgtB.sensorEvent = some (tempLevel s.temp) := by
  simp [tempAlert, hf, hl, alertBoth]

theorem tempAlert_tempLevel (s : State) : tempLevel (tempAlert s).temp = tempLevel s.temp := by
  obtain ⟨hv, hr⟩ := tempAlert_temp s
  simp only [tempLevel, hv, hr]

/-- Settles O53: each event changes its own port, component or reading, and the Mordant never. -/
theorem portEvents : Obligations.PortEvents := by
  unfold Obligations.PortEvents
  refine ⟨?_, ?_, ?_, ?_, ?_, ?_, ?_, ?_, ?_, ?_, ?_, ?_, ?_, ?_, ?_, ?_⟩
  · intro b s h
    exact ⟨when_of_true h _ _, when_of_true h _ _, when_of_true h _ _,
      fun n => ⟨_, when_of_true h _ _, rfl, by cases b <;> rfl, upMgt_mor b _ _⟩⟩
  · rintro b a s ⟨hb, hm⟩
    obtain ⟨t, ht, -, hs, ho, hmor⟩ := next_upMgt (s := s) (b := b) .none (fun m => { m with dynAddr := some a.toNat })
      (when_of_true (by simp [hb, hm]) _ _ : execEntdaa b a s = _)
    exact ⟨t, ht, congrArg Mgt.dynAddr hs, ho, hmor⟩
  · rintro b a st s ⟨hb, hm, hst⟩
    obtain ⟨t, ht, -, hs, ho, hmor⟩ := next_upMgt (s := s) (b := b) .none (fun m => { m with dynAddr := some a.toNat })
      (when_of_true (by simp [hb, hm, hst]) _ _ : execSetdasa b st a s = _)
    exact ⟨t, ht, congrArg Mgt.dynAddr hs, ho, hmor⟩
  · intro b a st s h
    exact when_of_false (by simp [h]) _ _
  · intro b a st s h
    exact ⟨when_of_false (by simp [h]) _ _, when_of_false (by simp [h]) _ _⟩
  · intro b a st s h
    have hb : busUp s = false := by simp [busUp, h]
    exact ⟨when_of_false (by simp [hb]) _ _, when_of_false (by simp [hb]) _ _, when_of_false (by simp [hb]) _ _⟩
  · rintro b _ n s ⟨hi, hf, rfl⟩
    obtain ⟨t, ht, -, hs, -, hmor⟩ := next_upMgt (s := s) (b := b) .none (fun m => { m with ibi := none })
      (by simp [execIbiRetry, hi, hf, when, done] : execIbiRetry b true s = _)
    exact ⟨t, ht, congrArg Mgt.ibi hs, (congrArg Mgt.alertLow hs :), hmor⟩
  · rintro b n s ⟨hi, hf, hn⟩
    obtain ⟨t, ht, -, hs, -, hmor⟩ := next_upMgt (s := s) (b := b) .none (fun m => { m with ibi := some (n + 1) })
      (by simp [execIbiRetry, hi, hf, hn, when, done] : execIbiRetry b false s = _)
    exact ⟨t, ht, congrArg Mgt.ibi hs, (congrArg Mgt.alertLow hs :), hmor⟩
  · rintro b n s ⟨hi, hf, hn⟩
    obtain ⟨t, ht, -, hs, -, hmor⟩ := next_upMgt (s := s) (b := b) .none (fun m => { m with ibi := none, alertLow := true })
      (by simp [execIbiRetry, hi, hf, Nat.not_le.2 hn, when, done] : execIbiRetry b false s = _)
    exact ⟨t, ht, congrArg Mgt.ibi hs, congrArg Mgt.alertLow hs, hmor⟩
  · rintro b s ⟨hb, hm, hl⟩
    obtain ⟨t, ht, hr, hs, -, hmor⟩ := next_upMgt (s := s) (b := b) (.word (BitVec.ofNat 32 (strapAddr s b)))
      (fun m => { m with alertLow := false }) (when_of_true (by simp [hb, hm, hl]) _ _ : execSmbusAlertResponse b s = _)
    exact ⟨t, ht, congrArg Mgt.alertLow hs, hr, hmor⟩
  · rintro b s ⟨hb, hm⟩
    exact when_of_true (by simp [hb, hm]) _ _
  · intro r s hg
    have hl := tempAlert_tempLevel { s with temp := { s.temp with valid := true, reading := r } }
    obtain ⟨hv, hr⟩ := tempAlert_temp { s with temp := { s.temp with valid := true, reading := r } }
    refine ⟨_, when_of_true hg _ _, hv, hr, tempAlert_mor _, tempAlert_fab _, fun h => ?_, fun ⟨hf, hn⟩ => ?_⟩
    · exact congrArg (say .none) (tempAlert_of_told (h.imp_right hl.symm.trans))
    · obtain ⟨ht, ha, hb⟩ := tempAlert_of_change (s := { s with temp := { s.temp with valid := true, reading := r } }) hf (hl ▸ hn)
      have htold := congrArg Temp.told ht
      exact ⟨htold.trans hl.symm, ha.trans (congrArg some htold.symm), hb.trans (congrArg some htold.symm)⟩
  · rintro i s ⟨hf, hp, ht⟩
    exact ⟨when_of_true (by simp [hf, hp, ht]) _ _,
      next_upCbus i (fun c => { c with tries := 1 }) (when_of_true (by simp [hf, hp, ht]) _ _)⟩
  · rintro i r s ⟨hr, hf, hp, ht⟩
    exact next_upCbus i (fun c => { c with tries := 0 }) (by simp [exec, execCbusRetry, hr, hf, hp, ht, when])
  · rintro i r s ⟨hr, hf, hp, ht, hl⟩
    exact next_upCbus i (fun c => { c with tries := c.tries + 1 }) (by simp [exec, execCbusRetry, hr, hf, hp, ht, hl, when])
  · rintro i r s ⟨hr, hf, hp, ht⟩
    have hz : (cbusOf s i).tries ≠ 0 := by omega
    have hl : ¬ (cbusOf s i).tries < 3 := by omega
    exact ⟨by simp [exec, execCbusRetry, hr, hf, hp, hz, hl, when, done], cbusLost_of_not_required⟩

end Sys2Proof.Machine
end

section
/-!
PROOF. The journal commands of the management ports (R125, R353, R385, R386, R507, R508).
-/
namespace Sys2Proof.Machine

open Sys2Proof

variable {s : State} {b : Bool} {h : VendorHdr}

/-! ### Answers -/

theorem mgtMsg_keeps (b : Bool) (s : State) :
    (mgtMsg b s).ev = s.ev ∧ (mgtMsg b s).vault = s.vault ∧ (mgtMsg b s).freeCtr = s.freeCtr := by
  cases b <;> exact ⟨rfl, rfl, rfl⟩

/-- An answer at once has its bytes as its reply, and changes the port alone. -/
theorem vendorAnswer_next (cmd : Nat) (b : Bool) (h : VendorHdr) (r : Nat) (body : Bytes) (s : State) :
    ∃ t, vendorAnswer cmd b h r body s = .next t ∧ t.reply = .response (vendorReply cmd h s r body) ∧ t.ev = s.ev ∧ t.vault = s.vault ∧
      t.freeCtr = s.freeCtr ∧ t.mor = s.mor := by
  obtain ⟨he, hv, hc⟩ := mgtMsg_keeps b s
  exact ⟨_, rfl, rfl, he, hv, hc, mgtMsg_mor b s⟩

/-- The 12 bytes before the body (R507). -/
theorem vendorResponse_eq (m f x r : Nat) (body : Bytes) : vendorResponse m f x r body =
    [0x7e, 0x4b, 0x58, 1, BitVec.ofNat 8 (f % 32), BitVec.ofNat 8 m, BitVec.ofNat 8 x, 0, BitVec.ofNat 8 r, 0, 0, 0] ++ body := by
  simp [vendorResponse, vendorHead, le, zeros, List.replicate]

/-! ### The gate of a journal command -/

/-- The journal commands, with the COMMAND of each (R508), all pass one gate. -/
theorem exec_eq_journalCmd {i e o l a m : Nat} {n : Bytes} {c : Instr}
    (hc : (c = .journalState b h ∧ m = 0x20) ∨ (c = .readBlock b h i o l ∧ m = 0x21) ∨ (c = .closeBlock b h ∧ m = 0x22) ∨
      (c = .signedHead b h n ∧ m = 0x23) ∨ (c = .readBootRecord b h e o l ∧ m = 0x24) ∨ (c = .readAliasCert b h a o l ∧ m = 0x25)) :
    ∃ served, exec c s = journalCmd m b h s served := by
  rcases hc with ⟨rfl, rfl⟩ | ⟨rfl, rfl⟩ | ⟨rfl, rfl⟩ | ⟨rfl, rfl⟩ | ⟨rfl, rfl⟩ | ⟨rfl, rfl⟩ <;> exact ⟨_, rfl⟩

section

variable (hu : mgtUp s b = true)
include hu

theorem journalCmd_field (hh : hdrOk h = false) (cmd : Nat) (o : Out) : journalCmd cmd b h s o = vendorAnswer cmd b h 1 [] s := by
  rw [journalCmd, when_of_true hu, if_pos (by simp [hh])]

variable (hh : hdrOk h = true)
include hh

theorem journalCmd_notReady (hf : floorService s = true) (cmd : Nat) (o : Out) :
    journalCmd cmd b h s o = vendorAnswer cmd b h 3 [] s := by
  rw [journalCmd, when_of_true hu, if_neg (by simp [hh]), if_pos hf]

theorem journalCmd_served (hf : floorService s = false) (cmd : Nat) (o : Out) : journalCmd cmd b h s o = o := by
  rw [journalCmd, when_of_true hu, if_neg (by simp [hh]), if_neg (by simp [hf])]

end

/-! ### Requests that can wait -/

theorem mgtTry_signedHead_notReady (hx : s.otp.session ≠ none ∨ s.ev.lastIndex = 2 ^ 64 - 1) (n : Bytes) :
    mgtTry (.signedHead n) s = some (3, [], s) :=
  if_pos (hx.imp_left Option.isSome_iff_ne_none.2)

/-- CLOSE_BLOCK waits for the unit of evidence and the digests (R465). -/
theorem mgtTry_closeBlock_waits (hw : paOk s = false ∨ dgaIn s = false) : mgtTry .closeBlock s = none :=
  if_neg (by rcases hw with hw | hw <;> simp [hw])

/-- SIGNED_HEAD waits for a signature engine and for the keys that sign it (R467). -/
theorem mgtTry_signedHead_waits (hs : s.otp.session = none) (hl : s.ev.lastIndex ≠ 2 ^ 64 - 1)
    (hw : sigIn s = false ∨ aliasOk s = false ∨ keysHeld s = true) (n : Bytes) : mgtTry (.signedHead n) s = none := by
  have hx : ¬ (s.otp.session.isSome = true ∨ s.ev.lastIndex = 2 ^ 64 - 1) := not_or.2 ⟨by simp [hs], hl⟩
  have hk : ¬ (sigIn s && aliasOk s && !keysHeld s) = true := by rcases hw with hw | hw | hw <;> simp [hw]
  exact (if_neg hx).trans (if_neg hk)

theorem session_of_keysHeld (hk : keysHeld s = false) : s.otp.session = none := by
  unfold keysHeld at hk
  simp only [Bool.or_eq_false_iff] at hk
  simpa using hk.1.1

theorem mgtTry_signedHead_signs (hk : keysHeld s = false) (hl : s.ev.lastIndex ≠ 2 ^ 64 - 1) (hs : sigIn s = true)
    (ha : aliasOk s = true) (n : Bytes) :
    mgtTry (.signedHead n) s = some (0, headBytes s n ++ hybridSig s "FVX9-HEAD" (headBytes s n), drawn s) := by
  have hx : ¬ (s.otp.session.isSome = true ∨ s.ev.lastIndex = 2 ^ 64 - 1) :=
    not_or.2 ⟨by simp [session_of_keysHeld hk], hl⟩
  exact (if_neg hx).trans (if_pos (by simp [hs, ha, hk]))

theorem mgtTry_aliasCert_reads {c : Bytes × Bytes} (hf : s.lake.failover = false) (hl : lakeIn s = true) (hc : s.kld.certs = some c)
    (alg o l : Nat) : mgtTry (.aliasCert alg o l) s = some (0, ((certRead s c (decide (alg ≠ 1))).drop o).take l, s) := by
  simp [mgtTry, hf, hl, hc]

theorem mgtAsk_of_some {q : MgtAsk} {r : Nat} {body : Bytes} {t : State} (hq : mgtTry q s = some (r, body, t)) :
    mgtAsk b h q s = vendorAnswer (askCmd q) b h r body t := by
  simp only [mgtAsk, hq]

theorem mgtAsk_of_none {q : MgtAsk} (hq : mgtTry q s = none) :
    mgtAsk b h q s = done (upMgt b (fun m => { m with asks := m.asks ++ [(h, q)] }) (mgtMsg b s)) := by
  simp only [mgtAsk, hq]

/-- The one request that waits is answered once it need not (log entry 138). -/
theorem mgtServe_of_some {q : MgtAsk} {r : Nat} {body : Bytes} {t : State} (ha : (mgtOf s b).asks = [(h, q)]) (hf : fwRuns s = true)
    (hq : mgtTry q s = some (r, body, t)) :
    mgtServe b s = lateAnswer b (askCmd q) h.flags r body (upMgt b (fun m => { m with asks := m.asks.erase (h, q) }) t) := by
  simp [mgtServe, ha, hf, hq]

/-! ### Reads of the Vault -/

theorem vaultAnswer_block (d : List DriveBlock) (i o l : Nat) (s : State) :
    ((vaultAnswer d (.block i o l) s).1 = 0 ↔ ∃ k, tabGet none s.vault.arch (i % vaultArch s.vault.ns) = some k ∧ k.index = some i ∧
      vaultReadableN d s (lbaArch s.vault.ns (i % vaultArch s.vault.ns)) 16 = true) ∧
    ((vaultAnswer d (.block i o l) s).1 ≠ 0 → vaultAnswer d (.block i o l) s = (2, [])) := by
  cases hk : tabGet none s.vault.arch (i % vaultArch s.vault.ns) with
  | none => simp [vaultAnswer, hk]
  | some k =>
    by_cases hr : k.index = some i ∧ vaultReadableN d s (lbaArch s.vault.ns (i % vaultArch s.vault.ns)) 16 = true
    · simp [vaultAnswer, hk, hr]
    · simp [vaultAnswer, hk, hr]

theorem nvmeEffect_mgtRead (b : Bool) (f : Nat) (q : VaultRead) (d : List DriveBlock) (s : State) :
    (mgtOf (nvmeEffect d (.mgtRead b f q) s) b).late =
        some (vendorResponse (readCmd q) f s.mor.floorCause (vaultAnswer d q s).1 (vaultAnswer d q s).2) ∧
      (nvmeEffect d (.mgtRead b f q) s).vault = s.vault := by
  cases b <;> exact ⟨rfl, rfl⟩

/-! ### What each journal command answers -/

section

variable (hu : mgtUp s b = true) (hh : hdrOk h = true) (hf : floorService s = false)
include hu hh hf

theorem exec_journalState : ∃ t, exec (.journalState b h) s = .next t ∧
    (∃ body, t.reply = .response (vendorReply 0x20 h s 0 body) ∧ body.length = 44 ∧ body.take 2 = le 2 (fixUsed s.ev) ∧
      (body.drop 4).take 4 = le 4 s.ev.epoch) ∧ t.ev = s.ev ∧ t.mor = s.mor := by
  obtain ⟨t, ht, hr, he, -, -, hm⟩ := vendorAnswer_next 0x20 b h 0
    (le 2 (fixUsed s.ev) ++ le 2 0 ++ le 4 s.ev.epoch ++ le 8 (lowest (fixIndices s.ev)) ++ le 8 (lowest (archIndices s.vault))
      ++ le 8 s.ev.lastIndex ++ le 8 (s.vault.exportAck.getD (2 ^ 64 - 1))
      ++ le 4 (b2n (archiving s) + 2 * b2n s.ev.isSealed + 4 * b2n (decide (288 ≤ fixUsed s.ev)) + 8 * b2n (stalled s))) s
  refine ⟨t, (journalCmd_served hu hh hf _ _).trans ht, ⟨_, hr, by simp [le_length], ?_, ?_⟩, he, hm⟩
  · simp [le_length]
  · simp [List.take_append, List.drop_append, le_length]

theorem exec_readBlock_field {o l : Nat} (i : Nat) (hw : o % 4096 ≠ 0 ∨ l = 0 ∨ 4096 < l ∨ 65536 < o + l) :
    exec (.readBlock b h i o l) s = vendorAnswer 0x21 b h 1 [] s :=
  (journalCmd_served hu hh hf _ _).trans (if_pos hw)

theorem exec_readBlock_held {i o l n : Nat} {k : Block} (ho : o % 4096 = 0) (hl : 0 < l) (hl' : l ≤ 4096) (hol : o + l ≤ 65536)
    (hk : slotOfIndex s.ev i = some (n, k)) :
    exec (.readBlock b h i o l) s = vendorAnswer 0x21 b h 0 (((blockBytes (devId s) k).drop o).take l) s := by
  refine (journalCmd_served hu hh hf _ _).trans ((if_neg (by omega)).trans ?_)
  simp only [hk]

theorem exec_readBlock_asks {i o l : Nat} (ho : o % 4096 = 0) (hl : 0 < l) (hl' : l ≤ 4096) (hol : o + l ≤ 65536)
    (hk : slotOfIndex s.ev i = none) : exec (.readBlock b h i o l) s = vaultAsk b h (.block i o l) s := by
  refine (journalCmd_served hu hh hf _ _).trans ((if_neg (by omega)).trans ?_)
  simp only [hk]

theorem exec_closeBlock : exec (.closeBlock b h) s = mgtAsk b h .closeBlock s := journalCmd_served hu hh hf _ _

theorem exec_signedHead (n : Bytes) : exec (.signedHead b h n) s = mgtAsk b h (.signedHead n) s := journalCmd_served hu hh hf _ _

/-- Of a Boot Record of this epoch (R376). -/
theorem exec_readBootRecord {e o l : Nat} (hl : 0 < l) (hl' : l ≤ 4096) (hol : o + l ≤ 32768) (he : e = 0 ∨ e = s.ev.epoch) :
    exec (.readBootRecord b h e o l) s = if s.ev.brPhase = .signed then vendorAnswer 0x24 b h 0 (fit l (s.ev.br.drop o)) s
      else vendorAnswer 0x24 b h 3 [] s :=
  (journalCmd_served hu hh hf _ _).trans ((if_neg (by omega)).trans (if_pos he))

theorem exec_readAliasCert_asks {a o l : Nat} (ha : a = 1 ∨ a = 2) (hp : h.pad = 0) (hl : 0 < l) (hl' : l ≤ 4096) :
    exec (.readAliasCert b h a o l) s = mgtAsk b h (.aliasCert a o l) s :=
  (journalCmd_served hu hh hf _ _).trans (if_neg (by omega))

theorem exec_readAliasCert_field (hp : h.pad ≠ 0) (a o l : Nat) :
    exec (.readAliasCert b h a o l) s = vendorAnswer 0x25 b h 1 [] s :=
  (journalCmd_served hu hh hf _ _).trans (if_pos (.inr (.inl hp)))

end

/-- CLOSE_BLOCK with its units in service (R385): the new block is chained, and the newest index is the answer. -/
theorem mgtAsk_closeBlock (hp : paOk s = true) (hd : dgaIn s = true) :
    ∃ t, mgtAsk b h .closeBlock s = .next t ∧ t.ev = chainAll (devId s) (evCloseBoth 5 s.ev) ∧
      t.reply = (if t.ev.lastIndex = 2 ^ 64 - 1 then .response (vendorReply 0x22 h s 2 [])
        else .response (vendorReply 0x22 h s 0 (le 8 t.ev.lastIndex))) ∧ t.mor = s.mor := by
  have hx : (paOk s && dgaIn s) = true := by simp [hp, hd]
  by_cases hl : (chainAll (devId s) (evCloseBoth 5 s.ev)).lastIndex = 2 ^ 64 - 1
  · have hq : mgtTry .closeBlock s = some (2, [], upEv (fun e => chainAll (devId s) (evCloseBoth 5 e)) s) :=
      (if_pos hx).trans (congrArg some (if_pos hl))
    obtain ⟨t, ht, hr, he, -, -, hm⟩ := vendorAnswer_next 0x22 b h 2 [] (upEv (fun e => chainAll (devId s) (evCloseBoth 5 e)) s)
    refine ⟨t, (mgtAsk_of_some hq).trans ht, he, ?_, hm⟩
    rw [if_pos ((congrArg Evid.lastIndex he).trans hl)]
    exact hr
  · have hq : mgtTry .closeBlock s = some (0, le 8 (chainAll (devId s) (evCloseBoth 5 s.ev)).lastIndex,
        upEv (fun e => chainAll (devId s) (evCloseBoth 5 e)) s) := (if_pos hx).trans (congrArg some (if_neg hl))
    obtain ⟨t, ht, hr, he, -, -, hm⟩ := vendorAnswer_next 0x22 b h 0 (le 8 (chainAll (devId s) (evCloseBoth 5 s.ev)).lastIndex)
      (upEv (fun e => chainAll (devId s) (evCloseBoth 5 e)) s)
    refine ⟨t, (mgtAsk_of_some hq).trans ht, he, ?_, hm⟩
    rw [if_neg (fun hx => hl ((congrArg Evid.lastIndex he).symm.trans hx)), he]
    exact hr

/-- Settles O52: each command passes the one gate, and is then answered at once, from the drive, or when its unit serves it. -/
theorem journalOverManagement : Obligations.JournalOverManagement := by
  unfold Obligations.JournalOverManagement
  refine ⟨?_, ?_, ?_, ?_, ?_, ?_, ?_, ?_, ?_, ?_, ?_, ?_, ?_, ?_, ?_, ?_, ?_, ?_, ?_, ?_⟩
  · rintro b h i e o l a m n s c ⟨hu, hh, hf, hc⟩
    obtain ⟨x, hx⟩ := exec_eq_journalCmd (s := s) hc
    obtain ⟨t, ht, hr, he, hv, -, hm⟩ := vendorAnswer_next m b h 3 [] s
    exact ⟨t, (hx.trans (journalCmd_notReady hu hh hf m x)).trans ht, hr, he, hv, hm⟩
  · rintro b h i e o l a m n s c ⟨hu, hh, hc⟩
    obtain ⟨x, hx⟩ := exec_eq_journalCmd (s := s) hc
    obtain ⟨t, ht, hr, he, hv, -, hm⟩ := vendorAnswer_next m b h 1 [] s
    exact ⟨t, (hx.trans (journalCmd_field hu hh m x)).trans ht, hr, he, hv, hm⟩
  · rintro b h s ⟨hu, hh, hf⟩
    exact exec_journalState hu hh hf
  · rintro b h i o l s ⟨hu, hh, hf, hw⟩
    exact exec_readBlock_field hu hh hf i hw
  · rintro b h i o l s ⟨hu, hh, hf, ho, hl, hl', hol, hk, hv⟩
    exact (exec_readBlock_asks hu hh hf ho hl hl' hol hk).trans (if_pos hv)
  · rintro b h i o l n k s ⟨hu, hh, hf, ho, hl, hl', hol, hk⟩
    exact exec_readBlock_held hu hh hf ho hl hl' hol hk
  · rintro b h i o l s ⟨hu, hh, hf, ho, hl, hl', hol, hk, hv⟩
    exact (exec_readBlock_asks hu hh hf ho hl hl' hol hk).trans (if_neg hv)
  · exact nvmeEffect_mgtRead
  · rintro m f x r y -
    rw [vendorResponse_eq]
    exact ⟨rfl, rfl⟩
  · rintro b h s ⟨hu, hh, hf, hw⟩
    exact (exec_closeBlock hu hh hf).trans (mgtAsk_of_none (mgtTry_closeBlock_waits hw))
  · rintro b h n s ⟨hu, hh, hf, hs, hl, hw⟩
    exact (exec_signedHead hu hh hf n).trans (mgtAsk_of_none (mgtTry_signedHead_waits hs hl hw n))
  · rintro b h q r y s t ⟨ha, hf, hq⟩
    exact mgtServe_of_some ha hf hq
  · intro i o l d s
    exact vaultAnswer_block d i o l s
  · rintro b h s ⟨hu, hh, hf, hp, hd⟩
    rw [exec_closeBlock hu hh hf]
    exact mgtAsk_closeBlock hp hd
  · rintro b h n s ⟨hu, hh, hf, hx⟩
    exact (exec_signedHead hu hh hf n).trans (mgtAsk_of_some (mgtTry_signedHead_notReady hx n))
  · rintro b h n s ⟨hu, hh, hf, hk, hl, hs, ha⟩
    obtain ⟨t, ht, hr, he, -, hc, hm⟩ := vendorAnswer_next 0x23 b h 0
      (headBytes s n ++ hybridSig s "FVX9-HEAD" (headBytes s n)) (drawn s)
    exact ⟨t, ((exec_signedHead hu hh hf n).trans (mgtAsk_of_some (mgtTry_signedHead_signs hk hl hs ha n))).trans ht, hr, hc, he, hm⟩
  · rintro b h e o l s ⟨hu, hh, hf, hl, hl', hol, he, hp⟩
    exact (exec_readBootRecord hu hh hf hl hl' hol he).trans (if_pos hp)
  · rintro b h e o l s ⟨hu, hh, hf, hl, hl', hol, he, hp⟩
    exact (exec_readBootRecord hu hh hf hl hl' hol he).trans (if_neg hp)
  · rintro b h o l c s ⟨hu, hh, hf, hp, hl, hl', hv, hi, hc⟩
    have ha : ∀ a, a = 1 ∨ a = 2 → exec (.readAliasCert b h a o l) s =
        vendorAnswer 0x25 b h 0 (((certRead s c (decide (a ≠ 1))).drop o).take l) s := fun a h12 =>
      (exec_readAliasCert_asks hu hh hf h12 hp hl hl').trans (mgtAsk_of_some (mgtTry_aliasCert_reads hv hi hc a o l))
    exact ⟨ha 1 (.inl rfl), ha 2 (.inr rfl)⟩
  · rintro b h a o l s ⟨hu, hh, hf, hp⟩
    exact exec_readAliasCert_field hu hh hf hp a o l

end Sys2Proof.Machine
end

section
/-!
PROOF. A life-cycle step that the OTPC is too busy to begin (R137, R148): the counterexample to the mailbox's statement.
-/
namespace Sys2Proof.Machine

open Sys2Proof

/-- The banks of the Fix Ring are in service, and the OTPC runs the scan that OTPC_CMD began (R140). -/
def scanning : State := upOtp (fun o => otpBegin o 2 0 .scan) { State.reset with pa := ⟨15, false⟩ }

/-- While the OTPC is BUSY, a step whose 0x0041 is durable waits for its turn, and the operation in progress stays (log entry 133). -/
theorem lcStepGo_of_busy {s : State} {auth : Nat} {p : OtpPend} (hb : s.otp.busy = some p) (hp : lcStepPermitted s.otp = true)
    (hd : durableNow s 0x0041 1 (lcStepBody s auth) .lcStep = true) : (lcStepGo auth s).otp.busy = some p := by
  have hr : (recorded s 0x0041 1 (lcStepBody s auth) .lcStep).otp.busy.isSome = true := by
    rw [show (recorded s 0x0041 1 (lcStepBody s auth) .lcStep).otp = s.otp from rfl, hb]
    rfl
  rw [lcStepGo, if_pos hp, gated_of_durableNow _ hd, lcStepBegin, if_pos hr]
  exact hb

/-- Refutes O54: the clause that a permitted step whose 0x0041 is durable is the operation in progress leaves out that the OTPC must be
idle, and fails while a scan is in progress. -/
theorem not_signedMailboxCommands : ¬ Obligations.SignedMailboxCommands := by
  unfold Obligations.SignedMailboxCommands
  rintro ⟨-, -, -, -, -, -, -, -, -, -, hstep, -⟩
  have hp : lcStepPermitted scanning.otp = true := by decide
  have hd : durableNow scanning 0x0041 1 (lcStepBody scanning 2) .lcStep = true := by decide
  have hb : scanning.otp.busy = some .scan := by decide
  have hnext : (lcStepGo 2 scanning).otp.busy = some .lcStep := (hstep scanning ⟨hp, hd⟩).1
  exact absurd ((lcStepGo_of_busy hb hp hd).symm.trans hnext) (by decide)

end Sys2Proof.Machine
end

section
/-!
PROOF. The commands of OTPC_CMD (R129 to R137): each begins, is refused or is dropped, a word is programmed only where it is blank and its
region is open, and OTP_OP_DONE ends what is in progress.
-/
namespace Sys2Proof.Machine

open Sys2Proof

variable {s : State} {a : BitVec 11} {d : BitVec 32}

/-! ### Commands while the controller is idle and while it is BUSY -/

theorem upOtp_otpBegin_idle (hb : s.otp.busy = none) (op addr : Nat) (p : OtpPend) :
    upOtp (fun o => otpBegin o op addr p) s =
      upOtp (fun o => { o with op := op, addr := addr, dropped := false, busy := some p }) s := by
  simp only [upOtp, otpBegin, hb]

theorem upOtp_otpBegin_busy (hb : s.otp.busy.isSome = true) (op addr : Nat) (p : OtpPend) :
    upOtp (fun o => otpBegin o op addr p) s = otpDropped s := by
  obtain ⟨q, hq⟩ := Option.isSome_iff_exists.1 hb
  simp only [otpDropped, upOtp, otpBegin, hq]

theorem exec_otpRead (hr : coreRuns s = true) (a : BitVec 11) :
    exec (.otpRead a) s = done (upOtp (fun o => otpBegin o 0 a.toNat (.read a.toNat)) s) := when_of_true hr s _

theorem exec_otpScan (hr : coreRuns s = true) : exec .otpScan s = done (upOtp (fun o => otpBegin o 2 0 .scan) s) :=
  when_of_true hr s _

theorem exec_otpProgram (hr : coreRuns s = true) (a : BitVec 11) (d : BitVec 32) :
    exec (.otpProgram a d) s = otpGoProgram a d s := when_of_true hr s _

theorem exec_otpLcStep (hr : coreRuns s = true) (ow : Bool) : exec (.otpLcStep ow) s = otpGoLcStep ow s := when_of_true hr s _

theorem otpGoProgram_busy (hb : s.otp.busy.isSome = true) (a : BitVec 11) (d : BitVec 32) :
    otpGoProgram a d s = done (otpDropped s) := if_pos hb

theorem otpGoLcStep_busy (hb : s.otp.busy.isSome = true) (ow : Bool) : otpGoLcStep ow s = done (otpDropped s) := if_pos hb

/-- A life-cycle step that is not permitted is refused (R147, R148). -/
theorem otpGoLcStep_refused (hb : s.otp.busy = none) (hp : lcStepPermitted s.otp = false) (ow : Bool) :
    otpGoLcStep ow s = done (upOtp (fun o => { o with op := 3, addr := 0, dropped := false, busy := some .refused }) s) := by
  rw [otpGoLcStep, if_neg (by simp [hb]), lcStepGo, if_neg (by simp [hp]), otpRefuse, upOtp_otpBegin_idle hb]

/-! ### OTP_PROGRAM of a word that is no ratchet word -/

/-- The state in which a program command has become the operation in progress, as p says. -/
def programming (a : BitVec 11) (d : BitVec 32) (p : OtpPend) (s : State) : State :=
  upOtp (fun o => { o with data := d, op := 1, addr := a.toNat, dropped := false, busy := some p }) s

section
variable (hb : s.otp.busy = none) (ha : a.toNat < 516 ∨ 544 ≤ a.toNat)
include hb ha

/-- The controller accepts a blank word of an open region and refuses any other (R129, R131, R133). -/
theorem otpGoProgram_idle (d : BitVec 32) : otpGoProgram a d s =
    if otpProgramPermitted s.otp s.mor.lock a.toNat && otpBlank (otpWord s.otp a.toNat) then
      done (programming a d (.program a.toNat d) s) else done (programming a d .refused s) := by
  have hd : (upOtp (fun o => { o with data := d }) s).otp.busy = none := hb
  have hbusy : ¬ s.otp.busy.isSome = true := by simp [hb]
  have hratchet : ¬ (516 ≤ a.toNat ∧ a.toNat < 544) := by omega
  simp only [otpGoProgram, if_neg hbusy, if_neg hratchet, otpRefuse, upOtp_otpBegin_idle hd]
  rfl

theorem otpGoProgram_accepted (hp : otpProgramPermitted s.otp s.mor.lock a.toNat = true)
    (hw : otpBlank (otpWord s.otp a.toNat) = true) : otpGoProgram a d s = done (programming a d (.program a.toNat d) s) :=
  (otpGoProgram_idle hb ha d).trans (if_pos (by rw [hp, hw]; rfl))

theorem otpGoProgram_refused
    (h : otpProgramPermitted s.otp s.mor.lock a.toNat = false ∨ otpBlank (otpWord s.otp a.toNat) = false) :
    otpGoProgram a d s = done (programming a d .refused s) :=
  (otpGoProgram_idle hb ha d).trans (if_neg (by simpa [← Bool.and_eq_false_iff] using h))

/-- A program that has begun was permitted, and its word was blank. -/
theorem permitted_blank_of_begun {t : State} (h : exec (.otpProgram a d) s = .next t)
    (ht : t.otp.busy = some (.program a.toNat d)) :
    otpProgramPermitted s.otp s.mor.lock a.toNat = true ∧ otpBlank (otpWord s.otp a.toNat) = true := by
  by_contra hn
  have hrefused := otpGoProgram_refused (d := d) hb ha (by simpa [← Bool.and_eq_false_iff] using hn)
  cases hr : coreRuns s with
  | false =>
    obtain rfl : say .notNow s = t := Host.Outcome.next.inj ((when_of_false hr s _).symm.trans h)
    simp [hb] at ht
  | true =>
    obtain rfl : say .none (programming a d .refused s) = t :=
      Host.Outcome.next.inj ((hrefused.symm.trans (exec_otpProgram hr a d).symm).trans h)
    simp [programming] at ht

end

/-- What a region asks of a program of one of its words (R131, R133, R148). -/
theorem regionOpen_of_otpProgramPermitted {o : Otp} {lock : Bool} {a : Nat} (h : otpProgramPermitted o lock a = true) :
    (a < 512 → o.lockVendor = false) ∧ ¬ (512 ≤ a ∧ a < 544) ∧ (544 ≤ a ∧ a < 1024 → o.closed = false) ∧ (1024 ≤ a → lock = false) := by
  unfold otpProgramPermitted at h
  split at h
  · exact ⟨fun _ => by simpa using h, by omega, by omega, by omega⟩
  split at h
  · exact absurd h Bool.false_ne_true
  split at h
  · obtain ⟨hc, -⟩ := Bool.and_eq_true_iff.1 h
    exact ⟨by omega, by omega, fun _ => by simpa using hc, by omega⟩
  split at h
  · obtain ⟨hl, -⟩ := Bool.and_eq_true_iff.1 h
    exact ⟨by omega, by omega, by omega, fun _ => by simpa using hl⟩
  · obtain ⟨-, hl⟩ := Bool.and_eq_true_iff.1 h
    exact ⟨by omega, by omega, by omega, fun _ => by simpa using hl⟩

/-- Settles O19: only a permitted, blank word becomes the operation in progress, and permission opens the word's region. -/
theorem programsOnlyBlankWords : Obligations.ProgramsOnlyBlankWords := by
  unfold Obligations.ProgramsOnlyBlankWords
  intro a d s t ⟨hb, hx, ht, ha⟩
  obtain ⟨hp, hw⟩ := permitted_blank_of_begun hb ha hx ht
  exact ⟨hw, regionOpen_of_otpProgramPermitted hp⟩

/-! ### The end of the operation in progress -/

section
variable (o : Otp) (weakLo weakHi : BitVec 39)

@[simp] theorem lcStep_due : (lcStep o weakLo weakHi).due = o.due := by
  simp only [lcStep]
  split <;> rfl

@[simp] theorem lcStep_busy : (lcStep o weakLo weakHi).busy = o.busy := by
  simp only [lcStep]
  split <;> rfl

/-- The end of an operation leaves what waits for the controller. -/
@[simp] theorem otpDone_due : (otpDone o weakLo weakHi).due = o.due := by
  unfold otpDone
  split
  · rfl
  · rename_i p _
    cases p with
    | refused | read | scan => rfl
    | program a d =>
      dsimp only
      split <;> rfl
    | lcStep => exact lcStep_due _ weakLo weakHi

@[simp] theorem otpDone_busy : (otpDone o weakLo weakHi).busy = none := by
  unfold otpDone
  split
  · assumption
  · rename_i p _
    cases p with
    | refused | read | scan => rfl
    | program a d =>
      dsimp only
      split <;> rfl
    | lcStep => exact lcStep_busy _ weakLo weakHi

/-- A read of a KEY word is served 0 with REFUSED (R132). -/
theorem otpDone_read_key {o : Otp} {a : Nat} (hb : o.busy = some (.read a)) (ha : 544 ≤ a ∧ a ≤ 1023) :
    otpDone o weakLo weakHi = { o with busy := none, data := 0, result := 4 } := by
  simp only [otpDone, hb, otpCoreRead, if_pos ha]
  rfl

variable (hb : s.otp.busy.isSome = true)
include hb

theorem exec_otpOpDone : exec (.otpOpDone weakLo weakHi) s = done (otpNext (upOtp (fun o => otpDone o weakLo weakHi) s)) :=
  when_of_true hb s _

theorem exec_otpOpDone_nothing_due (hd : s.otp.due = []) :
    exec (.otpOpDone weakLo weakHi) s = done (upOtp (fun o => otpDone o weakLo weakHi) s) := by
  simp only [exec_otpOpDone weakLo weakHi hb, otpNext, upOtp_otp, otpDone_due, hd]

/-- A life-cycle step that waited for the operation in progress comes after it (R137, R148, log entry 133). -/
theorem exec_otpOpDone_lcStep_due {r : List OtpPend} (hd : s.otp.due = .lcStep :: r) :
    exec (.otpOpDone weakLo weakHi) s = done (lcStepBegin (upOtp (fun o => { otpDone o weakLo weakHi with due := r }) s)) := by
  simp only [exec_otpOpDone weakLo weakHi hb, otpNext, upOtp_otp, otpDone_due, hd]
  rfl

end

/-- Settles O17: a command begins while the controller is idle and is dropped while it is BUSY, and OTP_OP_DONE ends the operation. -/
theorem otpOperations : Obligations.OtpOperations := by
  unfold Obligations.OtpOperations
  refine ⟨?_, ?_, ?_, ?_, ?_, ?_, ?_, ?_, ?_, ?_⟩
  · rintro a s ⟨hr, hb⟩
    rw [exec_otpRead hr, upOtp_otpBegin_idle hb]
    rfl
  · rintro s ⟨hr, hb⟩
    rw [exec_otpScan hr, upOtp_otpBegin_idle hb]
    rfl
  · rintro a d s ⟨hr, hb, ha, hp, hw⟩
    exact (exec_otpProgram hr a d).trans (otpGoProgram_accepted hb ha hp hw)
  · rintro a d s ⟨hr, hb, ha, h⟩
    exact (exec_otpProgram hr a d).trans (otpGoProgram_refused hb ha h)
  · rintro a d s ⟨hr, hb⟩
    exact ⟨(exec_otpRead hr a).trans (congrArg done (upOtp_otpBegin_busy hb ..)),
      (exec_otpProgram hr a d).trans (otpGoProgram_busy hb a d),
      (exec_otpScan hr).trans (congrArg done (upOtp_otpBegin_busy hb ..)),
      (exec_otpLcStep hr false).trans (otpGoLcStep_busy hb false)⟩
  · rintro wl wh s ⟨hb, hd⟩
    exact ⟨_, exec_otpOpDone_nothing_due wl wh hb hd, otpDone_busy s.otp wl wh, rfl⟩
  · rintro wl wh s a ⟨hb, hd, ha⟩
    rw [exec_otpOpDone_nothing_due wl wh (by rw [hb]; rfl) hd, upOtp, otpDone_read_key wl wh hb ha]
    rfl
  · rintro wl wh s r ⟨hb, hd⟩
    exact exec_otpOpDone_lcStep_due wl wh hb hd
  · rintro s ⟨hb, hp⟩
    exact lcStepBegin_idle hb hp
  · rintro ow s ⟨hr, hb, hp⟩
    exact (exec_otpLcStep hr ow).trans (otpGoLcStep_refused hb hp ow)

end Sys2Proof.Machine
end

section
/-!
PROOF. DEBUG_DIS and tokens (R153 to R156): a debug token is accepted only with DEBUG_DIS latched 0, and one that is not accepted opens no
session.
-/
namespace Sys2Proof.Machine

open Sys2Proof

variable {s : State} {t : Token}

/-! ### The RESULT of a token -/

theorem not_accepted_of_tokenCondition (h : tokenCondition s t = false) : tokenResult s t ≠ 1 := by
  rw [tokenResult, h, if_pos Bool.not_false]
  (repeat' split) <;> decide

theorem tokenCondition_debug (hk : t.kind = 1) : tokenCondition s t = !s.otp.feat.getLsbD 20 := if_pos hk

theorem tokenCondition_rma (hk : t.kind = 2) : tokenCondition s t = (decide (t.flags = 0) || consentNeeded s 2) :=
  if_neg (by omega)

theorem debugToken_not_accepted (hd : s.otp.feat.getLsbD 20 = true) (hk : t.kind = 1) : tokenResult s t ≠ 1 :=
  not_accepted_of_tokenCondition (by rw [tokenCondition_debug hk, hd, Bool.not_true])

/-- Of what a token is checked against, only the last check reads FEAT_CRIT, and only for a debug token (R154, R156). -/
theorem tokenResult_rma_upOtp_feat (hk : t.kind = 2) (f : BitVec 32) :
    tokenResult (upOtp (fun o => { o with feat := f }) s) t = tokenResult s t := by
  have hc : tokenCondition (upOtp (fun o => { o with feat := f }) s) t = tokenCondition s t := by
    rw [tokenCondition_rma hk, tokenCondition_rma hk]
    rfl
  rw [tokenResult, hc]
  rfl

/-! ### The debug session -/

/-- A token that is not accepted does no more than consume the challenge. -/
theorem tokenAct_not_accepted (h : tokenResult s t ≠ 1) : tokenAct t s = upOtp (fun o => { o with challenge := none }) s := if_pos h

/-- Whatever follows in an outcome, the debug session is still the one of s. -/
def KeepsSession (s : State) (o : Out) : Prop := ∀ u, o = .next u → u.otp.session = s.otp.session

theorem keepsSession_answer {x : State} (h : x.otp.session = s.otp.session) (r : Reply) : KeepsSession s (answer r x) := by
  rintro u ⟨⟩
  exact h

theorem keepsSession_when {o : Out} (h : KeepsSession s o) (c : Bool) : KeepsSession s (when c s o) := by
  cases c with
  | false => exact keepsSession_answer rfl .notNow
  | true => exact h

theorem keepsSession_ite {c : Prop} [Decidable c] {x y : Out} (hx : KeepsSession s x) (hy : KeepsSession s y) :
    KeepsSession s (if c then x else y) := by
  split <;> assumption

theorem keepsSession_mbxEnd {x : State} (h : x.otp.session = s.otp.session) (b : Bool) (r : Nat) : KeepsSession s (mbxEnd b r x) :=
  keepsSession_answer (by rw [mbxFinish_otp, h]) (.result r)

theorem tokenAct_session_not_accepted (h : tokenResult s t ≠ 1) : (tokenAct t s).otp.session = s.otp.session := by
  rw [tokenAct_not_accepted h]
  rfl

theorem jtagTokenSubmit_keepsSession (h : tokenResult s t ≠ 1) : KeepsSession s (exec (.jtagTokenSubmit t) s) :=
  keepsSession_when (keepsSession_answer (tokenAct_session_not_accepted h) _) _

theorem token_keepsSession (b : Bool) (sig own : Sig2)
    (h : tokenResult s (parseToken ((mbxMessage s b).drop 8) sig own) ≠ 1) : KeepsSession s (exec (.token b sig own) s) := by
  refine keepsSession_when (keepsSession_ite ?_ (keepsSession_mbxEnd (tokenAct_session_not_accepted h) b _)) _
  refine keepsSession_mbxEnd ?_ b 2
  split <;> rfl

/-- Settles O55: DEBUG_DIS fails the last check of a debug token, which is not read for an RMA token. -/
theorem debugTokensRefused : Obligations.DebugTokensRefused := by
  unfold Obligations.DebugTokensRefused
  refine ⟨?_, ?_, ?_⟩
  · rintro t s ⟨hd, hk⟩
    have hn := debugToken_not_accepted hd hk
    refine ⟨hn, tokenAct_session_not_accepted hn, ?_⟩
    rintro c rfl u hu
    exact jtagTokenSubmit_keepsSession hn u hu
  · rintro b sig own s u ⟨hd, hk, hu⟩
    exact token_keepsSession b sig own (debugToken_not_accepted hd hk) u hu
  · rintro t s v hk
    exact tokenResult_rma_upOtp_feat hk (putBit s.otp.feat 20 v)

end Sys2Proof.Machine
end

section
/-!
PROOF. A program entry of no bytes (R208, R209): the counterexample to the statement of the update grant.
-/
namespace Sys2Proof.Machine

open Sys2Proof

/-- A policy that names nothing. -/
def barePolicy : PolicyImage where
  hdr := ⟨0, 0, 0, 0, 0, 0, 0, 0, 0, [], [], 0, 0, [], 0, true⟩
  secs := []
  domains := []
  resets := []
  channels := []
  images := []
  locks := []
  presents := []
  recoveries := []
  fabric := []
  endpoints := []
  resist := []
  rings := []
  rates := []
  cbus := []
  trips := []
  signers := []
  bodyRsvdZero := true
  sig := ⟨.good, .good⟩

/-- The Lock Map is armed with no update grant, and CCH_01 programs pages of 256 bytes with opcode 0x12. -/
def armedUngranted : State :=
  { State.reset with
    mor := { mordant0 with lock := true }
    run := { running0 with policy := some barePolicy }
    chans := ⟨[(1, { chan0 with st := .ready, ops := 0x1200, geom := 0x08000000 })]⟩ }

/-- A page program that carries no data. -/
def emptyProgram : QEntry := ⟨0x00120112, 0x2000, 0, 0⟩

/-- A range that touches no class is open once the Lock Map is armed, whatever the update grant. -/
theorem fwLockOk_of_no_class {s : State} {p : PolicyImage} {k dev addr len : Nat} (hl : s.mor.lock = true)
    (hp : s.run.policy = some p) (hc : classesOf p k dev addr len = []) : fwLockOk s k dev addr len = true := by
  simp [fwLockOk, hl, hp, hc]

/-- It is in form and in the allow-list, and the range of no bytes that it programs is open. -/
theorem entryReject_emptyProgram : entryReject armedUngranted 1 .first emptyProgram = none := by
  have hallowed : fwOpOk (chanOf armedUngranted 1) 1 emptyProgram = true := by decide
  have hform : (qDev emptyProgram = 0 ∧ qDummy emptyProgram = 0 ∧ qAddrMode emptyProgram = 0 ∧ qProto emptyProgram = 1) ∧
      qCont emptyProgram = false ∧ emptyProgram.ctrl[23] = false := by decide
  have hopen : fwLockOk armedUngranted 1 0 0x2000 0 = true := fwLockOk_of_no_class rfl rfl (by decide)
  obtain ⟨⟨hdev, hdummy, hmode, hproto⟩, hcont, hrsvd⟩ := hform
  have herase : qIsErase (chanOf armedUngranted 1) 1 emptyProgram = false := by simp [qIsErase, hproto]
  have hlen : emptyProgram.len.toNat = 0 := rfl
  have haddr : emptyProgram.addr.toNat = 0x2000 := rfl
  simp [entryReject, hallowed, hdev, hdummy, hmode, hproto, hcont, hrsvd, herase, hlen, haddr, hopen]

/-- Refutes O24: the clause that no program entry is admitted without an update grant leaves out that the entry must program a byte. One of
no bytes touches no class, so that the Lock Map opens to it. -/
theorem not_rejectedOpcodesNeverRun : ¬ Obligations.RejectedOpcodesNeverRun := by
  unfold Obligations.RejectedOpcodesNeverRun
  rintro ⟨-, hgrant, -⟩
  exact hgrant armedUngranted 1 emptyProgram (by decide) entryReject_emptyProgram

end Sys2Proof.Machine
end

section
/-!
PROOF. Firmware frames of a custody channel and a ROM that waits for replay (R206, R212, R214): the counterexample to the statement of
the frames.
-/
namespace Sys2Proof.Machine

open Sys2Proof

variable {s : State} {k : Nat}

theorem fwAdvance_of_fwq_nil (h : (chanOf s k).fwq = []) (n : Nat) : fwAdvance k n s = s := by
  cases n with
  | zero => rfl
  | succ n => simp only [fwAdvance, h]

/-- A register frame of one entry with data out that ends good completes the entry, and a ROM that waits for replay is looked at. -/
theorem exec_cchFrameEnd_register {f : Frame} {e : QEntry} (hf : (chanOf s k).frame = some f) (hc : f.client = .firmware)
    (hk : f.kind = .register) (he : f.entries = [e]) (hl : qCont e = false) (hd : qDir e = true) (hw : f.waitWip = false)
    (ht : f.tail = none) (hq : (chanOf s k).fwq = []) (cal : Cal) (data : Bytes) :
    exec (.cchFrameEnd k true cal data) s =
      done (romResume (settle (upChan k (complete e 0) (upChan k (fun c => { c with frame := none }) s)))) := by
  have hover : frameOver k f true data s = upChan k (complete e 0) (upChan k (fun c => { c with frame := none }) s) := by
    have hdone : fwFrameDone k f 0 (upChan k (fun c => { c with frame := none }) s) =
        upChan k (complete e 0) (upChan k (fun c => { c with frame := none }) s) := by
      simp [fwFrameDone, hw, ht, he, completeTail]
    simp only [frameOver, hc, he, List.any_cons, hd, if_true, Bool.true_or, Bool.not_true, Bool.and_false]
    rw [if_neg (by simp), hdone, fwAdvance_of_fwq_nil]
    simp [chanOf_upChan, complete, hq]
  simp [exec, execCchFrameEnd, hf, he, hl, hd, hk, when, sramDone, hover]

theorem settle_of_not_clocked (h : clocked s = false) : settle s = s := if_pos (by simp [h])

/-- A ROM that waits while its replay is over waits no longer: with no oscillator toggling its access to the Mordant traps (R514). -/
theorem romResume_romWait_none {p : PolicyImage} {l : List (Nat × Nat)} (hw : s.run.romWait = some l) (hr : s.sc.restartDue = false)
    (hp : s.run.policy = some p) (hn : replayWaits s = false) (ho : aocRuns s = false) : (romResume s).run.romWait = none := by
  simp [romResume, hw, hr, romGo, hp, hn, ho, upSc]

/-- An entry of a register frame with data out. -/
def registerEntry : QEntry := ⟨0x00220106, 0, 0, 0⟩

/-- ROM waits for a replay that is over, no oscillator toggles, and CCH_01 runs the frame of one register entry. -/
def romWaiting : State :=
  { State.reset with
    mor := { mordant0 with aocA := false, aocB := false }
    run := { running0 with policy := some barePolicy, romWait := some [] }
    chans := ⟨[(1, { chan0 with
      st := .ready
      frame := some ⟨.firmware, .register, 0, 0, 0, 1, [registerEntry], false, false, none, 0, false, false⟩ })]⟩ }

/-- The end of the frame resumes ROM. -/
theorem exec_cchFrameEnd_romWaiting (cal : Cal) (data : Bytes) :
    ∃ t, exec (.cchFrameEnd 1 true cal data) romWaiting = .next t ∧ t.run.romWait = none := by
  refine ⟨_, exec_cchFrameEnd_register (e := registerEntry) rfl rfl rfl rfl rfl rfl rfl rfl rfl cal data, ?_⟩
  rw [settle_of_not_clocked rfl]
  exact romResume_romWait_none rfl rfl rfl rfl rfl

/-- Refutes O21: the clause of a firmware frame that ends good leaves out that no ROM may wait for replay, which the end of a frame
resumes. -/
theorem not_channelFrames : ¬ Obligations.ChannelFrames := by
  unfold Obligations.ChannelFrames
  rintro ⟨-, hend, -⟩
  obtain ⟨t, ht, hnone⟩ := exec_cchFrameEnd_romWaiting ⟨0, 0⟩ []
  have hsaid := hend 1 ⟨0, 0⟩ [] romWaiting _ registerEntry ⟨rfl, rfl, rfl, rfl, rfl, rfl, rfl, rfl, rfl⟩
  rw [settle_of_not_clocked rfl] at hsaid
  have hwaits : t.run.romWait = some [] := congrArg (fun u : State => u.run.romWait) (Host.Outcome.next.inj (ht.symm.trans hsaid))
  simp [hnone] at hwaits

end Sys2Proof.Machine
end

section
/-!
PROOF. The direct-execution window: a fetch is a bus error, hits a line or starts a fill, and only a block that matches the table enters
the buffer (R217, R219, R450).
-/
namespace Sys2Proof.Machine

open Sys2Proof

variable {s : State} {o : BitVec 29} {f : XipFill} {d : Bytes} {b : BitVec 2}

/-! ### Fetches -/

theorem exec_xipFetch_busError (hr : coreRuns s = true) (h : s.xip.lock = false ∨ xipLen s.xip ≤ o.toNat / 4096) :
    exec (.xipFetch o) s = busError s := by
  refine (when_of_true hr s _).trans (if_pos ?_)
  simpa using h

section
variable (hr : coreRuns s = true) (hl : s.xip.lock = true) (hb : o.toNat / 4096 < xipLen s.xip)
include hr hl hb

theorem exec_xipFetch_hit {l : XipLine} (hx : xipLine s.xip (o.toNat / 4096) = some l) :
    exec (.xipFetch o) s = answer (.word (wordAt l.data (o.toNat % 4096 / 4))) (upXip (xipTouch l) s) := by
  refine (when_of_true hr s _).trans ((if_neg ?_).trans ?_)
  · simpa [hl] using hb
  · rw [hx]

theorem exec_xipFetch_fill (hx : xipLine s.xip (o.toNat / 4096) = none) (hf : s.xip.fill = none) :
    exec (.xipFetch o) s =
      done (dgaServe (upXip (fun x => { x with fill := some (xipFill s (o.toNat / 4096) (some o.toNat)) }) s)) := by
  refine (when_of_true hr s _).trans ((if_neg ?_).trans ?_)
  · simpa [hl] using hb
  · rw [hx, hf]

end

theorem xipFill_ready (h : (chanOf s 0).st = .ready) (n : Nat) (q : Option Nat) : xipFill s n q = ⟨n, 0, q, false, false⟩ :=
  if_neg (by simp [h])

theorem xipFill_stopped (h : (chanOf s 0).st = .stopped) (n : Nat) (q : Option Nat) : xipFill s n q = ⟨n, 2, q, true, false⟩ :=
  if_pos (.inl h)

/-! ### The block check -/

/-- With no comparator at fault the compare of R450 is equality of the two values; a fault never shows them equal. -/
theorem ctxCompare_eq_two_iff (x e : Bytes) (b : BitVec 2) : ctxCompare x e b = 2 ↔ b = 0 ∧ fit 64 e = fit 64 x := by
  have hrails : ∀ (c : Bool) (b : BitVec 2), (if b = 3 then 0 else (if c then 2 else 1) ^^^ b) = (2 : BitVec 2) ↔ b = 0 ∧ c = true := by
    decide
  simpa [ctxCompare] using hrails (decide (fit 64 e = fit 64 x)) b

theorem xipMatch_iff (x : Xip) (n : Nat) (d : Bytes) (b : BitVec 2) :
    xipMatch x n d b = true ↔ b = 0 ∧ fit 64 (memRead 0 x.table (48 * n) 48) = fit 64 (sha384 (fit 4096 d)) :=
  decide_eq_true_iff.trans (ctxCompare_eq_two_iff ..)

theorem xipMatch_of_fault {x : Xip} {n : Nat} (h : b ≠ 0) : xipMatch x n d b = false :=
  Bool.eq_false_iff.2 fun hm => h ((xipMatch_iff ..).1 hm).1

/-- A block that enters the buffer is found there, whatever it replaces. -/
theorem xipLine_xipInsert (l : XipLine) (x : Xip) : xipLine (xipInsert l x) l.block = some l := by
  have hold : ∀ m ∈ x.lines.filter (fun m => decide (m.block ≠ l.block)), m.block ≠ l.block := fun m hm => by
    simpa using (List.mem_filter.1 hm).2
  have hlast : ∀ k : List XipLine, (∀ m ∈ k, m.block ≠ l.block) → (k ++ [l]).find? (fun m => decide (m.block = l.block)) = some l :=
    fun k hk => by
      rw [List.find?_append, List.find?_eq_none.2 (by simpa using hk)]
      simp
  refine hlast _ ?_
  split
  · exact hold
  · split
    · exact fun m hm => hold m (List.mem_filter.1 hm).1
    · exact fun m hm => hold m (List.mem_of_mem_drop hm)

/-! ### The end of a fill -/

/-- The read of a fill has failed, or its block check has. -/
def FillFails (s : State) (f : XipFill) (d : Bytes) (b : BitVec 2) : Prop :=
  f.readOk = false ∨ (dgaHas s .window = true ∧ xipMatch s.xip f.block d b = false)

section
variable (hf : s.xip.fill = some f) (ha : f.arrived = true)
include hf ha

/-- A demand fill whose block matches answers the fetch that waits, and its line stands in the buffer. -/
theorem exec_xipFillDone_match {n : Nat} (hk : f.readOk = true) (hg : dgaHas s .window = true)
    (hm : xipMatch s.xip f.block d b = true) (hd : f.demand = some n) :
    exec (.xipFillDone d b) s = answer (.word (wordAt (fit 4096 d) (n % 4096 / 4)))
      (upXip (fun x => { xipInsert ⟨f.block, false, fit 4096 d⟩ x with
        fill := xipNext s f.block (xipInsert ⟨f.block, false, fit 4096 d⟩ x) }) s) := by
  simp only [exec, execXipFillDone, hf]
  rw [when_of_true (by simp [ha, hg]), if_pos (by simp [hk, hm])]
  simp [hd]

/-- What a failed fill does depends on how many of its reads have failed and on whether a fetch waits for it. -/
theorem exec_xipFillDone_fails (h : FillFails s f d b) :
    exec (.xipFillDone d b) s =
      if f.fails < 2 then
        done (upXip (fun x => { x with fill := some { f with fails := f.fails + 1, arrived := false, readOk := false } }) s)
      else if f.demand.isSome then busError (upXip (fun x => { x with fill := none, failBlock := some f.block }) s)
      else done (upXip (fun x => { x with fill := none }) s) := by
  have hgo : (f.arrived && (!f.readOk || dgaHas s .window)) = true := by
    obtain hk | ⟨hg, -⟩ := h
    · simp [ha, hk]
    · simp [ha, hg]
  have hno : ¬ (f.readOk && xipMatch s.xip f.block d b) = true := by
    obtain hk | ⟨-, hm⟩ := h
    · simp [hk]
    · simp [hm]
  simp only [exec, execXipFillDone, hf]
  rw [when_of_true hgo, if_neg hno]

theorem exec_xipFillDone_again (h : FillFails s f d b) (hn : f.fails < 2) :
    exec (.xipFillDone d b) s =
      done (upXip (fun x => { x with fill := some { f with fails := f.fails + 1, arrived := false, readOk := false } }) s) :=
  (exec_xipFillDone_fails hf ha h).trans (if_pos hn)

end

/-- Settles O32, by the three outcomes of a fetch and the two of a fill. -/
theorem executionWindow : Obligations.ExecutionWindow := by
  unfold Obligations.ExecutionWindow
  refine ⟨?_, ?_, ?_, ?_, ?_, ?_, ?_, ?_, ?_, ?_⟩
  · rintro o s ⟨hr, h⟩
    exact exec_xipFetch_busError hr h
  · rintro o s l ⟨hr, hl, hb, hx⟩
    exact exec_xipFetch_hit hr hl hb hx
  · rintro o s ⟨hr, hl, hb, hx, hf, hc⟩
    rw [exec_xipFetch_fill hr hl hb hx hf, xipFill_ready hc]
    rfl
  · rintro o s ⟨hr, hl, hb, hx, hf, hc⟩
    rw [exec_xipFetch_fill hr hl hb hx hf, xipFill_stopped hc]
    rfl
  · rintro d b s f n ⟨hf, ha, hk, hg, hm, hd⟩
    exact ⟨_, exec_xipFillDone_match hf ha hk hg hm hd, rfl, xipLine_xipInsert ⟨f.block, false, fit 4096 d⟩ s.xip, rfl⟩
  · rintro d b s f ⟨hf, ha, h, hn⟩
    exact exec_xipFillDone_again hf ha h hn
  · rintro d b s f ⟨hf, ha, h, hn, hd⟩
    rw [exec_xipFillDone_fails hf ha h, if_neg (by omega), if_pos hd]
    rfl
  · rintro d b s f ⟨hf, ha, -, hg, hb, hn⟩
    exact exec_xipFillDone_again hf ha (.inr ⟨hg, xipMatch_of_fault hb⟩) hn
  · rintro d b s f ⟨hf, ha, h, hn, hd⟩
    rw [exec_xipFillDone_fails hf ha h, if_neg (by omega), if_neg (by simp [hd])]
    rfl
  · exact fun x d b n => xipMatch_iff x n d b

end Sys2Proof.Machine
end

section
/-!
PROOF. Capsules, from their turn to the grant or the refusal, and the PLDM Type 5 updates of the device's own components (R126, R187,
R189, R277 to R279).
-/
namespace Sys2Proof.Machine

open Sys2Proof

variable {s t : State} {j : CapsuleJob} {r : List CapsuleJob}

/-! ### Records and the end of a grant -/

theorem emitFw_evOnly (code : Nat) (body : Bytes) (s : State) : ∃ e, emitFw code body s = { s with ev := e } := by
  unfold emitFw
  split
  · exact emit_evOnly ..
  · exact ⟨_, rfl⟩

theorem gated_id_evOnly (code src : Nat) (body : Bytes) (g : Gate) (s : State) : ∃ e, gated code src body g id s = { s with ev := e } := by
  unfold gated
  dsimp only
  repeat' split
  all_goals exact ⟨_, rfl⟩

theorem pushedRecord_id_evOnly (c : Component) (k : Bool) (o : Nat) (g : Gate) (s : State) :
    ∃ e, pushedRecord c k o g id s = { s with ev := e } := by
  unfold pushedRecord
  split
  · exact ⟨_, rfl⟩
  · exact gated_id_evOnly ..

theorem fwAdvance_chansOnly (k n : Nat) (s : State) : ∃ c, fwAdvance k n s = { s with chans := c } :=
  fwAdvance_keeps (P := fun t => ∃ c, t = { s with chans := c }) k n (by rintro t e st r b ⟨c, rfl⟩; exact ⟨_, rfl⟩) ⟨_, rfl⟩

theorem grantEnd_only (s : State) : ∃ c, grantEnd s = { s with grant := none, chans := c } := by
  unfold grantEnd
  split
  case h_1 hg => exact ⟨s.chans, congrArg (fun g => { s with grant := g }) hg⟩
  case h_2 => exact fwAdvance_chansOnly ..

/-! ### A refused capsule -/

/-- The turn of a capsule has ended with nothing staged: the jobs behind it are left, and no grant (R278, R279). -/
structure TurnEnded (r : List CapsuleJob) (s t : State) : Prop where
  capsules : t.capsules = r
  grant : t.grant = none
  staged : t.staged = s.staged
  activeHalf : t.activeHalf = s.activeHalf
  vault : t.vault = s.vault
  imgs : t.imgs = s.imgs

theorem TurnEnded.upMgt (h : TurnEnded r s t) (b : Bool) (f : Mgt → Mgt) : TurnEnded r s (upMgt b f t) := by
  cases b <;> exact { h with }

theorem TurnEnded.updateEnds (h : TurnEnded r s t) (c : Bool) : TurnEnded r s (if c then { t with pldmUpdate := none } else t) := by
  cases c
  · exact h
  · exact { h with }

theorem capsuleEnd_turnEnded (hc : s.capsules = j :: r) (n : Nat) : TurnEnded r s (capsuleEnd n s) := by
  obtain ⟨c, hg⟩ := grantEnd_only { s with capsules := r }
  have ht : TurnEnded r s (grantEnd { s with capsules := r }) := by
    rw [hg]
    exact ⟨rfl, rfl, rfl, rfl, rfl, rfl⟩
  unfold capsuleEnd
  simp only [hc]
  split
  · exact ht
  · exact { ht with }
  · exact (ht.upMgt _ _).updateEnds _

/-- A refusal is the end of the capsule after its record 0x0120 (R277). -/
theorem capsuleRefuse_evOnly (j : CapsuleJob) (n : Nat) (s : State) : ∃ e, capsuleRefuse j n s = capsuleEnd n { s with ev := e } :=
  (emitFw_evOnly _ _ s).imp fun _ h => congrArg (capsuleEnd n) h

theorem capsuleRefuse_turnEnded (hc : s.capsules = j :: r) (n : Nat) : TurnEnded r s (capsuleRefuse j n s) := by
  obtain ⟨e, he⟩ := capsuleRefuse_evOnly j n s
  rw [he]
  exact { capsuleEnd_turnEnded (s := { s with ev := e }) hc n with }

@[simp] theorem upMgt_pldmUpdate (b : Bool) (f : Mgt → Mgt) (s : State) : (upMgt b f s).pldmUpdate = s.pldmUpdate := by
  cases b <;> rfl

theorem decide_b2n_eq_one (b : Bool) : decide (b2n b = 1) = b := by cases b <;> rfl

section
variable {b l : Bool} (ho : j.origin = .pldm (b2n b) l) (hc : s.capsules = j :: r)
include ho hc

/-- The port of an update learns the result of its capsule, and its last capsule ends it (R278). -/
theorem capsuleEnd_pldm (n : Nat) :
    (mgtOf (capsuleEnd n s) b).applied = some (if n = 0 then 0 else 1) ∧
      (capsuleEnd n s).pldmUpdate = if l = true ∧ s.pldmUpdate = some (b2n b) then none else s.pldmUpdate := by
  obtain ⟨c, hg⟩ := grantEnd_only { s with capsules := r }
  unfold capsuleEnd
  simp only [hc, ho, hg, decide_b2n_eq_one, upMgt_pldmUpdate, Bool.and_eq_true, decide_eq_true_eq]
  split
  · exact ⟨congrArg Mgt.applied (mgtOf_upMgt_self b ..), rfl⟩
  · exact ⟨congrArg Mgt.applied (mgtOf_upMgt_self b ..), upMgt_pldmUpdate ..⟩

theorem capsuleRefuse_pldm {n : Nat} (hn : n ≠ 0) :
    (mgtOf (capsuleRefuse j n s) b).applied = some 1 ∧
      (capsuleRefuse j n s).pldmUpdate = if l = true ∧ s.pldmUpdate = some (b2n b) then none else s.pldmUpdate := by
  obtain ⟨e, he⟩ := capsuleRefuse_evOnly j n s
  have h := capsuleEnd_pldm (s := { s with ev := e }) ho hc n
  rw [if_neg hn] at h
  rw [he]
  exact h

end

/-! ### The steps of a capsule -/

theorem capsuleStep_cons (hc : s.capsules = j :: r) (n : Nat) : (capsuleStep n s).capsules = { j with step := n } :: r := by
  unfold capsuleStep
  rw [hc]

/-- A capsule that is written has its grant raised, and what it replaces is staged no more (R278, steps 3 and 4). -/
theorem capsuleWrite_next (hc : s.capsules = j :: r) :
    (capsuleWrite j s).capsules = { j with step := 4 } :: r ∧ (capsuleWrite j s).grant = capsuleGrant s j.cap ∧
      (capKind j.cap = 1 → tabGet false (capsuleWrite j s).staged (capSlot j.cap) = false) := by
  have hs := capsuleStep_cons (s := { s with grant := capsuleGrant s j.cap }) hc 4
  unfold capsuleWrite
  dsimp only
  split
  · exact ⟨hs, rfl, fun _ => tabGet_tabSet_self ..⟩
  · split <;> exact ⟨hs, rfl, fun h => absurd h ‹_›⟩

section
variable (hf : fwRuns s = true) (hd : dgaIn s = true) (hi : sigIn s = true) (hc : s.capsules = j :: r)
include hf hd hi hc

theorem exec_capsuleStage_refused (x : Option (List (Nat × Byte))) {y : BitVec 2} (h0 : j.step = 0) (hr : capsuleReason s j.cap y ≠ 0) :
    exec (.capsuleStage x y) s = done (capsuleRefuse j (capsuleReason s j.cap y) s) := by
  simp only [exec, execCapsuleStage, hc]
  rw [when_of_true (by simp [hf, hd, hi, h0]), if_pos (by simp [h0, hr])]

theorem exec_capsuleStage_written (x : Option (List (Nat × Byte))) {y : BitVec 2} (h0 : j.step = 0) (hr : capsuleReason s j.cap y = 0)
    (hb : capsuleBusy s j.cap = false) (hk : capKind j.cap ≠ 3) : exec (.capsuleStage x y) s = done (capsuleWrite j s) := by
  simp only [exec, execCapsuleStage, hc]
  rw [when_of_true (by simp [hf, hd, hi, h0]), if_neg (by simp [hr]), if_pos (by omega), if_neg (by simp [capsuleHeld, hb, hk]), if_neg hk]

/-- Without a read-back there is nothing to compare, and the capsule fails (R278, R279). -/
theorem exec_capsuleStage_notRead (y : BitVec 2) (h4 : j.step = 4) (hk : capKind j.cap ≠ 3) :
    exec (.capsuleStage none y) s = done (capsuleRefuse j 6 s) := by
  simp only [exec, execCapsuleStage, hc]
  rw [when_of_true (by simp [hf, hd, hi, h4]), if_neg (by simp [h4]), if_neg (by omega), if_neg hk]
  exact if_pos rfl

end

/-! ### Update requests -/

@[simp] theorem mgtMsg_pldmUpdate (b : Bool) (s : State) : (mgtMsg b s).pldmUpdate = s.pldmUpdate := upMgt_pldmUpdate ..

@[simp] theorem mgtMsg_capsules (b : Bool) (s : State) : (mgtMsg b s).capsules = s.capsules := by cases b <;> rfl

section
variable {b : Bool} (hu : mgtUp s b = true)
include hu

theorem exec_pldmRequestUpdate_free (hp : s.pldmUpdate = none) :
    exec (.pldmRequestUpdate b) s = answer (.result 0) { mgtMsg b s with pldmUpdate := some (b2n b) } :=
  (when_of_true hu s _).trans (if_neg (by simp [hp]))

theorem exec_pldmRequestUpdate_taken (hp : s.pldmUpdate.isSome = true) :
    exec (.pldmRequestUpdate b) s = answer (.result 0x81) (mgtMsg b s) :=
  (when_of_true hu s _).trans (if_pos hp)

theorem exec_pldmCancelUpdate_own (hp : s.pldmUpdate = some (b2n b)) :
    exec (.pldmCancelUpdate b) s = answer (.result 0) { mgtMsg b s with pldmUpdate := none } :=
  (when_of_true hu s _).trans (if_pos hp)

theorem exec_pldmCapsulePush (hf : fwRuns s = true) (hp : s.pldmUpdate = some (b2n b)) (c : Capsule) (l : Bool) :
    exec (.pldmCapsulePush b c l) s = done { mgtMsg b s with capsules := s.capsules ++ [⟨c, .pldm (b2n b) l, 0⟩] } :=
  when_of_true (by simp [hf, hu, hp]) s _

end

/-! ### Pushed components -/

/-- A push has come by a port: its update ends with the last component. -/
def pushTaken (b l : Bool) (s : State) : State := { mgtMsg b s with pldmUpdate := if l then none else s.pldmUpdate }

/-- The frames of a component's slot have run, with its bytes written or not (R187, R220). -/
def slotFrames (written : Bool) (c : Component) (k : Bool) (s : State) : State :=
  if written then putComponent c k s else dropComponent c k s

theorem pushTaken_keeps (b l : Bool) (s : State) :
    (pushTaken b l s).cfg = s.cfg ∧ (pushTaken b l s).run = s.run ∧ (pushTaken b l s).polFloor = s.polFloor ∧ (pushTaken b l s).ev = s.ev ∧
      (pushTaken b l s).pldmUpdate = (if l then none else s.pldmUpdate) ∧ cfgUp (pushTaken b l s) = cfgUp s := by
  cases b <;> exact ⟨rfl, rfl, rfl, rfl, rfl, rfl⟩

theorem cfgWrite_keeps (f : CfgFlash → CfgFlash) (s : State) :
    (cfgWrite f s).run = s.run ∧ (cfgWrite f s).polFloor = s.polFloor ∧ (cfgWrite f s).pldmUpdate = s.pldmUpdate := by
  unfold cfgWrite
  split <;> exact ⟨rfl, rfl, rfl⟩

theorem cfgWrite_cfg_pushTaken (f : CfgFlash → CfgFlash) (b l : Bool) (s : State) :
    (cfgWrite f (pushTaken b l s)).cfg = (cfgWrite f s).cfg := by
  obtain ⟨hcfg, -, -, -, -, hup⟩ := pushTaken_keeps b l s
  unfold cfgWrite
  rw [hup]
  split
  · exact congrArg f hcfg
  · exact hcfg

theorem slotFrames_keeps (w : Bool) (c : Component) (k : Bool) (s : State) :
    (slotFrames w c k s).run = s.run ∧ (slotFrames w c k s).polFloor = s.polFloor ∧ (slotFrames w c k s).pldmUpdate = s.pldmUpdate := by
  cases w <;> cases c <;> simp [slotFrames, putComponent, dropComponent, cfgWrite_keeps]

theorem slotFrames_cfg_pushTaken (w : Bool) (c : Component) (k b l : Bool) (s : State) :
    (slotFrames w c k (pushTaken b l s)).cfg = (slotFrames w c k s).cfg := by
  cases w <;> cases c <;> simp [slotFrames, putComponent, dropComponent, cfgWrite_cfg_pushTaken]

theorem slotFrames_cfg (w : Bool) (c : Component) (k : Bool) (s : State) :
    (slotFrames w c k s).cfg = if w = true then (putComponent c k s).cfg else (dropComponent c k s).cfg :=
  apply_ite State.cfg ..

theorem applyComplete_next (b : Bool) (n : Nat) (s : State) :
    ∃ t, applyComplete b n s = .next t ∧ t.reply = .result n ∧ t.cfg = s.cfg ∧ t.pldmUpdate = s.pldmUpdate ∧ t.polFloor = s.polFloor ∧
      t.run = s.run ∧ t.ev = s.ev := by
  cases b <;> exact ⟨_, rfl, rfl, rfl, rfl, rfl, rfl, rfl⟩

/-- A push whose frames and record are done answers its code, and has changed its slot of the flash alone. -/
theorem applyComplete_slotFrames (b l w k : Bool) (c : Component) (n o : Nat) (s : State) :
    ∃ t, applyComplete b n (pushedRecord c k o .none id (slotFrames w c k (pushTaken b l s))) = .next t ∧ t.reply = .result n ∧
      t.cfg = (if w = true then (putComponent c k s).cfg else (dropComponent c k s).cfg) ∧
      t.pldmUpdate = (if l then none else s.pldmUpdate) ∧ t.polFloor = s.polFloor ∧ t.run = s.run := by
  obtain ⟨e, he⟩ := pushedRecord_id_evOnly c k o .none (slotFrames w c k (pushTaken b l s))
  obtain ⟨t, ht, hreply, hcfg, hupd, hfloor, hrun, -⟩ := applyComplete_next b n { slotFrames w c k (pushTaken b l s) with ev := e }
  obtain ⟨hrun', hfloor', hupd'⟩ := slotFrames_keeps w c k (pushTaken b l s)
  obtain ⟨-, hrun'', hfloor'', -, hupd'', -⟩ := pushTaken_keeps b l s
  rw [← slotFrames_cfg, he]
  exact ⟨t, ht, hreply, hcfg.trans (slotFrames_cfg_pushTaken w c k b l s), hupd.trans (hupd'.trans hupd''),
    hfloor.trans (hfloor'.trans hfloor''), hrun.trans (hrun'.trans hrun'')⟩

section
variable {b : Bool} (hu : mgtUp s b = true) (hp : s.pldmUpdate = some (b2n b)) (hi : sigIn s = true) (hd : dgaIn s = true)
  (ha : paOk s = true) (he : evFree s.ev 0x000e = true) (hx : fixUsed s.ev < 383)
include hu hp hi hd ha he hx

theorem exec_pldmComponentPush_noFlash (hc : cfgUp s = false) (c : Component) (f : PushFrames) (l : Bool) :
    exec (.pldmComponentPush b c f l) s = applyComplete b 1 (pushTaken b l s) :=
  (when_of_true (by simp [hu, hp, hi, hd, ha, he, hx]) s _).trans (if_pos (by simp [hc]))

section
variable {c : Component} (hc : cfgUp s = true)
include hc

theorem exec_pldmComponentPush_notAccepted (hl : floorService s = false) (hn : pushAccepted s c = false) (f : PushFrames) (l : Bool) :
    exec (.pldmComponentPush b c f l) s =
      applyComplete b 1 (pushedRecord c (pushSlot s c) 2 .none id (slotFrames f.written c (pushSlot s c) (pushTaken b l s))) := by
  refine (when_of_true (by simp [hu, hp, hi, hd, ha, he, hx]) s _).trans ((if_neg (by simp [hc])).trans ((if_pos (by simp [hn])).trans ?_))
  rw [hl]
  rfl

/-- An accepted component whose slot is the primary one is in place as soon as its frames are (R187). -/
theorem exec_pldmComponentPush_primary {d : BootDir} (hn : pushAccepted s c = true) (hb : bootDir s.cfg = some d)
    (hs : pushSlot s c = primarySlot s c) (f : PushFrames) (l : Bool) :
    exec (.pldmComponentPush b c f l) s = applyComplete b (if f.written = true then 0 else 1)
      (pushedRecord c (pushSlot s c) (if f.written = true then 1 else 2) .none id
        (slotFrames f.written c (pushSlot s c) (pushTaken b l s))) := by
  refine (when_of_true (by simp [hu, hp, hi, hd, ha, he, hx]) s _).trans ((if_neg (by simp [hc])).trans ((if_neg (by simp [hn])).trans ?_))
  cases hw : f.written
  case false => rfl
  case true =>
    refine (if_pos hs).trans ?_
    rw [hb]
    rfl

end

end

/-- Settles O41, by the branches of CAPSULE_STAGE and of the component push. -/
theorem capsulesAndUpdates : Obligations.CapsulesAndUpdates := by
  unfold Obligations.CapsulesAndUpdates
  refine ⟨?_, ?_, ?_, ?_, ?_, ?_, ?_, ?_, ?_, ?_⟩
  · rintro x y s j r ⟨hf, hd, hi, hc, h0, hr⟩
    have h := capsuleRefuse_turnEnded hc (capsuleReason s j.cap y)
    exact ⟨_, exec_capsuleStage_refused hf hd hi hc x h0 hr, h.capsules, h.grant, h.staged, h.activeHalf, h.vault, h.imgs⟩
  · rintro x y s j r b l ⟨hf, hd, hi, hc, ho, h0, hr⟩
    obtain ⟨happlied, hupd⟩ := capsuleRefuse_pldm ho hc hr
    exact ⟨_, exec_capsuleStage_refused hf hd hi hc x h0 hr, happlied, fun hl hs => hupd.trans (if_pos ⟨hl, hs⟩),
      fun hl => hupd.trans (if_neg (by simp [hl]))⟩
  · rintro x y s j r ⟨hf, hd, hi, hc, h0, hr, hb, hk⟩
    obtain ⟨hcaps, hgrant, hstaged⟩ := capsuleWrite_next hc
    exact ⟨_, exec_capsuleStage_written hf hd hi hc x h0 hr hb hk, hcaps, hgrant, hstaged, capsuleWrite_ev j s⟩
  · rintro y s j r ⟨hf, hd, hi, hc, h4, hk⟩
    have h := capsuleRefuse_turnEnded hc 6
    exact ⟨_, exec_capsuleStage_notRead hf hd hi hc y h4 hk, h.capsules, h.grant, h.staged⟩
  · rintro b s ⟨hu, hp⟩
    exact exec_pldmRequestUpdate_free hu hp
  · rintro b s ⟨hu, hp⟩
    exact ⟨exec_pldmRequestUpdate_taken hu (by simp [hp]), exec_pldmCancelUpdate_own hu hp⟩
  · rintro b l c s ⟨hf, hu, hp⟩
    exact exec_pldmCapsulePush hu hf hp c l
  · rintro b l f c s ⟨hu, hp, hi, hd, ha, he, hx, hc, hl, hn⟩
    rw [exec_pldmComponentPush_notAccepted hu hp hi hd ha he hx hc hl hn]
    exact applyComplete_slotFrames b l f.written (pushSlot s c) c 1 2 s
  · rintro b l f c s ⟨hu, hp, hi, hd, ha, he, hx, hc⟩
    obtain ⟨t, ht, hreply, hcfg, -, -, hrun, hev⟩ := applyComplete_next b 1 (pushTaken b l s)
    obtain ⟨hcfg', hrun', -, hev', -, -⟩ := pushTaken_keeps b l s
    exact ⟨t, (exec_pldmComponentPush_noFlash hu hp hi hd ha he hx hc c f l).trans ht, hreply, hcfg.trans hcfg', hrun.trans hrun',
      hev.trans hev'⟩
  · rintro b l f c s d ⟨hu, hp, hi, hd, ha, he, hx, hc, -, hn, hb, hs⟩
    rw [exec_pldmComponentPush_primary hu hp hi hd ha he hx hc hn hb hs]
    obtain ⟨t, ht, hreply, hcfg, -, -, hrun⟩ := applyComplete_slotFrames b l f.written (pushSlot s c) c (if f.written = true then 0 else 1)
      (if f.written = true then 1 else 2) s
    exact ⟨t, ht, hreply, hcfg, hrun⟩

end Sys2Proof.Machine
end

section
/-!
PROOF. A peer-to-peer request that an ACS control of the host sends up (R294, R317): the counterexample to the statement of the requests
of endpoints.
-/
namespace Sys2Proof.Machine

open Sys2Proof

/-- Partition 0 has its upstream port at 0 and two DOWNSTREAM ports, 4 and 8, and the endpoint of port 4 has ATS pass-through and may reach
port 8 (R170 to R172). -/
def peerPolicy : PolicyImage :=
  { barePolicy with
    fabric := [⟨0, 1, 0, 16, 6, 0⟩, ⟨4, 2, 0, 4, 6, 0⟩, ⟨8, 2, 0, 4, 6, 0⟩]
    endpoints := [⟨0, 4, 1, 0x12, 1000, 2, zeros 48, zeros 48⟩, ⟨1, 8, 1, 0x12, 1000, 2, zeros 48, zeros 48⟩]
    resist := [⟨0, 1, 8, 0, 2, 0, [], [0, 0, 0, 0, 0x100]⟩] }

/-- Both endpoints are OPEN, the Resist table is not armed, and the host has turned Direct Translated P2P off at the bridge of port 4. -/
def directOff : State :=
  { State.reset with
    run := { running0 with policy := some peerPolicy }
    fab := { fabric0 with
      planes := 7
      slices := 0xffffff
      eps := ⟨[(0, { ep0 with st := .opened, link := true }), (1, { ep0 with st := .opened, link := true })]⟩
      parts := ⟨[(0, { part0 with up := true, acsHost := ⟨[(4, some (0, 0))]⟩ })]⟩ } }

/-- A translated write to the endpoint of port 8. -/
def peerWrite : Tlp := ⟨.memWrite, .translated, 0x1000, 64, 0, none, ⟨0, 0, [], none, false⟩, false, false, .port 8⟩

/-- P2P_ALLOW permits the peer, so that screening takes the request for one of the peer, and the control sends it up in its place. -/
theorem acsScreen_directOff : screen directOff 4 0 peerWrite = .peer 8 ∧ acsScreen directOff 4 0 peerWrite (.peer 8) = .upstream := by decide

/-- It is forwarded to the upstream port. -/
theorem exec_endpointTlp_directOff : ∃ u, exec (.endpointTlp 4 peerWrite 0) directOff = .next u ∧ u.reply = .tlp (.forwarded 0) :=
  ⟨_, rfl, by decide⟩

/-- Refutes O45: the clause of translated accesses leaves out that one to a peer goes up, unseen by the Resist table, where the host has
turned Direct Translated P2P off. -/
theorem not_endpointRequestsAreScreened : ¬ Obligations.EndpointRequestsAreScreened := by
  unfold Obligations.EndpointRequestsAreScreened
  rintro ⟨-, htranslated⟩
  obtain ⟨-, ⟨r, -, -, hr, -, hopen⟩ | ⟨-, harmed, -⟩⟩ :=
    htranslated 4 0 peerWrite 0 directOff ⟨.inr (.inl rfl), rfl, exec_endpointTlp_directOff⟩
  · subst hr
    exact absurd hopen (by decide)
  · exact harmed (by decide)

end Sys2Proof.Machine
end

section
/-!
PROOF. A Release that stands when an endpoint without an SPDM mailbox fails (R111, R298, R301): the counterexample to the statement of
links and readiness.
-/
namespace Sys2Proof.Machine

open Sys2Proof

/-- Partition 0 has its upstream port at 0 and the endpoint of PERST_N_00 at port 4. -/
def onePortPolicy : PolicyImage :=
  { barePolicy with
    fabric := [⟨0, 1, 0, 16, 6, 0⟩, ⟨4, 2, 0, 4, 6, 0⟩]
    endpoints := [⟨0, 4, 1, 0x12, 1000, 2, zeros 48, zeros 48⟩] }

/-- D_01 holds PERST_N_00 alone and carries UNVERIFIED_OK. Its Release is requested and everything that needs is there, and the Interlock's
cycle is still to come; the endpoint of PERST_N_00 is in VAT and answers configuration requests. -/
def releaseStands : State :=
  { State.reset with
    mor := { mordant0 with
      latched := true, phase := 2, lock := true, vioRst := some .v33, relReq := 2, attr := ⟨[(1, 9)]⟩, outMap := ⟨[(48, 0x21)]⟩ }
    run := { running0 with policy := some onePortPolicy }
    sc := { sc0 with mainGood := true, pairA := true }
    pa := ⟨15, false⟩
    dga := { dga0 with engines := 1 }
    sig0 := { sigEng0 with inService := true }
    chans := ⟨[(0, { chan0 with st := .ready })]⟩
    fab := { fabric0 with
      planes := 7, slices := 0xffffff, bays := 0xff
      eps := ⟨[(0, { ep0 with st := .vat, link := true, configuring := true })]⟩ } }

/-- An UNVERIFIED_OK domain needs no PASS of its endpoint's slot: the Interlock's condition holds. -/
theorem interlockOk_releaseStands : interlockOk releaseStands 1 = true := by decide

/-- The endpoint fails, and what follows opens it by the Release of its domain, where a re-check starts at once (R301). -/
theorem exec_endpointConfigSuccess_releaseStands :
    ∃ t, exec (.endpointConfigSuccess 0 false) releaseStands = .next t ∧ (epOf t 0).att = some (newAtt .periodic) :=
  ⟨_, rfl, by decide +kernel⟩

/-- Refutes O42: the clause of an endpoint without an SPDM mailbox, which says that no check of it runs afterwards, leaves out that no
Release of its UNVERIFIED_OK domain may stand. One that does opens the refused endpoint in the same step and starts its re-check. -/
theorem not_linksAndReadiness : ¬ Obligations.LinksAndReadiness := by
  unfold Obligations.LinksAndReadiness
  rintro ⟨-, -, -, -, -, -, -, -, hfail, -⟩
  obtain ⟨t, ht, hnone, -⟩ := hfail 0 releaseStands ⟨rfl, rfl, rfl, rfl⟩
  obtain ⟨u, hu, hsome⟩ := exec_endpointConfigSuccess_releaseStands
  obtain rfl : u = t := Host.Outcome.next.inj (hu.symm.trans ht)
  simp [hsome] at hnone

end Sys2Proof.Machine
end

section
/-!
PROOF. Requests of endpoints, hosts and the Vault drive at the gate (R293, R294, R299, R309, R317, R319, R332).
-/
namespace Sys2Proof.Machine

open Sys2Proof

variable {s : State} {q p r j : Nat} {t : Tlp} {v : Vdm}

/-! ### Forwarding and routing -/

/-- On planes that do not fail a TLP is forwarded. -/
theorem forwardTlp_of_no_failure (hf : s.fab.planeFail = 0) (i e : Nat) (t : Tlp) :
    forwardTlp i e t s = (dispatchTlp i e t s, .forwarded e) := by
  have hn : pairFails (dispatchTlp i e t s).fab i e = false := by simp [pairFails, dispatchTlp, hf]
  simp [forwardTlp, hn]

theorem routeTlp_up (hi : ideBlocked s p = false) (i : Nat) (t : Tlp) :
    routeTlp i p { t with dest := .up } s = forwardTlp i (upPort' s p) { t with dest := .up } s :=
  if_neg (by simp [hi])

theorem routeTlp_port_open (hd : t.dest = .port r) (ho : portOpen s p r = true) (i : Nat) :
    routeTlp i p t s = forwardTlp i r t s := by
  simp only [routeTlp, hd, if_pos ho]

theorem routeTlp_port_closed (hd : t.dest = .port r) (ho : portOpen s p r = false) (i : Nat) :
    routeTlp i p t s = awayAt i p t s := by
  simp only [routeTlp, hd, ho]
  rfl

/-- A TLP that is turned away is answered by its kind, and leaves a report of AER at most. -/
theorem awayAt_eq (i p : Nat) (t : Tlp) (s : State) : ∃ n, awayAt i p t s = away n t.kind s := by
  unfold awayAt
  (repeat' split) <;> exact ⟨_, rfl⟩

theorem awayAt_reply (i p : Nat) (t : Tlp) (s : State) : (awayAt i p t s).2 = turnAway t.kind := by
  obtain ⟨n, h⟩ := awayAt_eq i p t s
  rw [h]
  rfl

theorem away_keeps (n : Nat) (k : TlpKind) (s : State) :
    (away n k s).1.fab.heldTlps = s.fab.heldTlps ∧ (away n k s).1.fab.eps = s.fab.eps := by
  unfold away
  dsimp only
  split <;> exact ⟨rfl, rfl⟩

/-! ### MCTP packets -/

theorem mctpOf_of_kind_ne (hk : t.kind ≠ .message) : mctpOf t = none := if_neg hk

theorem mctpOf_of_vdm (hk : t.kind = .message) (hv : t.vdm = some v) (hc : v.code = 0x7f) (hn : v.vendor = 0x1ab4) : mctpOf t = some v := by
  simp [mctpOf, hk, hv, hc, hn]

theorem intercepts_of_not_mctp (hm : mctpOf t = none) (s : State) (p : Nat) : intercepts s p t = false := by
  simp [intercepts, hm]

theorem intercepts_of_first (hm : mctpOf t = some v) (hs : v.som = true) (h1 : v.mctpType = 1) (h5 : v.pldmType = 5) (s : State) (p : Nat) :
    intercepts s p t = true := by
  simp [intercepts, hm, hs, h1, h5]

theorem mctpTrack_of_not_mctp (hm : mctpOf t = none) (p : Nat) (s : State) : mctpTrack p t s = s := by
  simp only [mctpTrack, hm]

/-- Following a message changes the list of the messages that are followed. -/
theorem mctpTrack_eq (p : Nat) (t : Tlp) (s : State) : ∃ l, mctpTrack p t s = upFab (fun g => { g with mctpOpen := l }) s := by
  unfold mctpTrack
  split
  · exact ⟨s.fab.mctpOpen, rfl⟩
  · exact ⟨_, rfl⟩

/-! ### Screening -/

theorem acsInForce_sourceValidation (s : State) (q p : Nat) : (acsInForce s q p).sourceValidation = true := by
  unfold acsInForce
  dsimp only
  split <;> rfl

theorem acsScreen_violation (s : State) (q p : Nat) (t : Tlp) (k : Viol) : acsScreen s q p t (.violation k) = .violation k := by
  unfold acsScreen
  dsimp only
  split <;> rfl

/-- A request that is no violation and comes from no bus of the bridge's own is blocked (log entry 142). -/
theorem acsScreen_upstream_blocked (hs : acsSource s q p t = false) : acsScreen s q p t .upstream = .blocked :=
  if_pos (by simp [acsInForce_sourceValidation, hs])

theorem acsScreen_upstream (hs : acsSource s q p t = true) (ha : t.at' = .untranslated) : acsScreen s q p t .upstream = .upstream := by
  simp [acsScreen, hs, ha]

theorem acsScreen_mediate (hs : acsSource s q p t = true) : acsScreen s q p t .mediate = .mediate := by
  simp [acsScreen, hs]

/-- An untranslated read goes to the host. -/
theorem screen_untranslated_read (hk : t.kind = .memRead) (ha : t.at' = .untranslated) (s : State) (q p : Nat) : screen s q p t = .upstream := by
  have hm := intercepts_of_not_mctp (mctpOf_of_kind_ne (t := t) (by simp [hk])) s p
  simp [screen, hk, ha, hm]

/-- A translated write that the host is to check needs an armed table. -/
theorem screen_unarmed_write (hk : t.kind = .memWrite) (ha : t.at' = .translated) (hd : t.dest = .up) (ho : atsOk s q = true)
    (hn : (partOf s p).armed = 0) : screen s q p t = .violation .unarmed := by
  have hm := intercepts_of_not_mctp (mctpOf_of_kind_ne (t := t) (by simp [hk])) s p
  simp [screen, screen.rangeCheck, hk, ha, hm, hd, ho, hn]

theorem screen_mediate (hk : t.kind = .message) (hi : intercepts s p t = true) (q : Nat) : screen s q p t = .mediate := by
  simp [screen, hk, hi]

/-! ### A TLP of an endpoint -/

section
variable (ha : epAt s q = some j) (hr : portRole s q = 2) (hl : (epOf s j).link = true) (hc : tlpCredit s q t = true)
include ha hr hl hc

/-- A TLP for which there are credits goes through the gate, with no slice at fault. -/
theorem exec_endpointTlp : exec (.endpointTlp q t 0) s =
    answer (.tlp (endpointTlp j q (portPart s q) t s).2) (endpointTlp j q (portPart s q) t s).1 := by
  simp only [exec, execEndpointTlp, ha]
  exact when_of_true (by simp [hr, hl, hc]) _ _

end

theorem exec_endpointTlp_no_credit (ha : epAt s q = some j) (hc : tlpCredit s q t = false) (bad : BitVec 3) :
    exec (.endpointTlp q t bad) s = answer .notNow s := by
  simp only [exec, execEndpointTlp, ha, hc, Bool.and_false]
  rfl

theorem endpointTlp_not_opened (ho : (epOf s j).st ≠ .opened) (q p : Nat) (t : Tlp) : endpointTlp j q p t s = away q t.kind s :=
  if_pos (.inl ho)

/-- A TLP that is blocked goes no further, in whatever state the port and the gate are. -/
theorem endpointTlp_blocked (hx : acsScreen s q p t (screen s q p t) = .blocked) (j : Nat) : endpointTlp j q p t s = away q t.kind s := by
  unfold endpointTlp
  simp only [hx, ite_self]

theorem bay_passes (hb : bayScreens s (q / 4) = true) (t : Tlp) : ¬ (bayScreens s (q / 4) = false ∧ t.kind ≠ .completion) := by simp [hb]

section
variable (ho : (epOf s j).st = .opened) (hp : s.fab.planes ≠ 0) (hu : (partOf s p).up = true) (hb : bayScreens s (q / 4) = true)
  (hm : ¬ ((mctpOf t).isSome = true ∧ t.ide = true))
include ho hp hu

/-- The port and the gate let TLPs pass. -/
theorem endpoint_passes : ¬ ((epOf s j).st ≠ .opened ∨ s.fab.planes = 0 ∨ (partOf s p).up = false) := by
  rintro (h | h | h)
  · exact h ho
  · exact hp h
  · simp [hu] at h

include hb hm

theorem endpointTlp_upstream (hx : acsScreen s q p t (screen s q p t) = .upstream) :
    endpointTlp j q p t s = routeTlp q p { t with dest := .up } s := by
  simp only [endpointTlp, if_neg (endpoint_passes ho hp hu), if_neg (bay_passes hb t), if_neg hm, hx]

theorem endpointTlp_violation {k : Viol} (hx : acsScreen s q p t (screen s q p t) = .violation k) :
    endpointTlp j q p t s = violate j q p k t s := by
  simp only [endpointTlp, if_neg (endpoint_passes ho hp hu), if_neg (bay_passes hb t), if_neg hm, hx]

/-- A packet to the host that is intercepted waits for firmware. -/
theorem endpointTlp_mediate (hx : acsScreen s q p t (screen s q p t) = .mediate) (hd : t.dest = .up) (hi : ideBlocked s p = false) :
    endpointTlp j q p t s = (medTake q q t (mctpTrack p t s), .mediated) := by
  simp only [endpointTlp, if_neg (endpoint_passes ho hp hu), if_neg (bay_passes hb t), if_neg hm, hx]
  exact if_pos (And.intro hd hi)

end

/-! ### A TLP of the host -/

section
variable (hu : (partOf s p).up = true) (hc : tlpCredit s (upPort' s p) t = true) (hd : t.dest = .port r)
include hu hc hd

/-- A TLP to a port of the partition goes through the gate. -/
theorem exec_hostTlp_port : exec (.hostTlp p t) s = answer (.tlp (hostTlp p t s).2) (hostTlp p t s).1 := by
  have hg : ((partOf s p).up && tlpCredit s (upPort' s p) t) = true := by rw [hu, hc]; rfl
  have hn : ¬ (t.kind = .memRead ∧ t.dest = .csf) := by simp [hd]
  simp only [exec, execHostTlp, when_of_true hg, if_neg hn]

end

section
variable (hp : s.fab.planes ≠ 0) (hi : ideBlocked s p = false) (hd : t.dest = .port r)
include hp hi

theorem gate_open : ¬ (s.fab.planes = 0 ∨ ideBlocked s p = true) := not_or.2 ⟨hp, by simp [hi]⟩

include hd

/-- One that the mediation does not take is routed. -/
theorem hostTlp_routed (hm : ¬ ((mctpOf t).isSome = true ∧ t.ide = true)) (hn : hostMediates s p t = false) :
    hostTlp p t s = routeTlp (upPort' s p) p t (mctpTrack p t s) := by
  simp only [hostTlp, if_neg (gate_open hp hi), if_neg hm, hn, hd]
  rfl

/-- One that the mediation takes waits for firmware. -/
theorem hostTlp_mediated (hm : ¬ ((mctpOf t).isSome = true ∧ t.ide = true)) (hn : hostMediates s p t = true) :
    hostTlp p t s = (medTake r (upPort' s p) t (mctpTrack p t s), .mediated) := by
  simp only [hostTlp, if_neg (gate_open hp hi), if_neg hm, hn, hd]
  rfl

end

theorem hostMediates_port (hd : t.dest = .port r) : hostMediates s p t = (intercepts s p t && portOpen s p r) := by
  simp only [hostMediates, hd]

/-! ### A request of the Vault drive -/

/-- The TLP of a request of the drive. -/
def driveTlp (s : State) (posted : Bool) : Tlp := freeTlp s (if posted then .memWrite else .memRead) 4 .csf

section
variable (hv : vaultEp s = some j) (hl : (epOf s j).link = true) {posted : Bool} (hc : tlpCredit s (epPort s j) (driveTlp s posted) = true)
include hl hc

theorem drive_guard : ((epOf s j).link && tlpCredit s (epPort s j) (driveTlp s posted)) = true := by rw [hl, hc]; rfl

include hv

/-- A request to the Vault buffers crosses the gate from an OPEN port. -/
theorem exec_vaultDriveRequest_inside (ho : (epOf s j).st = .opened) (hp : s.fab.planes ≠ 0) :
    exec (.vaultDriveRequest true posted) s =
      answer (.tlp (forwardTlp (epPort s j) (epPort s j) (driveTlp s posted) (drawn s)).2)
        (forwardTlp (epPort s j) (epPort s j) (driveTlp s posted) (drawn s)).1 := by
  simp only [exec, execVaultDriveRequest, hv, if_true]
  refine (when_of_true (drive_guard hl hc) _ _).trans ?_
  exact if_pos (And.intro ho hp)

/-- From a port that is not OPEN it is turned away. -/
theorem exec_vaultDriveRequest_closed (ho : (epOf s j).st ≠ .opened) :
    exec (.vaultDriveRequest true posted) s = answer (.tlp (if posted then .dropped else .unsupported)) s := by
  simp only [exec, execVaultDriveRequest, hv, if_true]
  refine (when_of_true (drive_guard hl hc) _ _).trans ?_
  exact if_neg fun h => ho h.1

/-- A request outside them contains the port (R309). -/
theorem exec_vaultDriveRequest_outside :
    exec (.vaultDriveRequest false posted) s =
      answer (.tlp (if (epOf s j).st = .opened then .unsupported else if posted then .dropped else .unsupported)) (settle (epFirmware j s)) := by
  simp only [exec, execVaultDriveRequest, hv]
  exact when_of_true (drive_guard hl hc) _ _

end

/-- Settles O46: what screening decides of an endpoint's TLP, the port a host's is addressed to, and the state of the drive's port decide
what becomes of it. -/
theorem gateTraffic : Obligations.GateTraffic := by
  unfold Obligations.GateTraffic
  refine ⟨?_, ?_, ?_, ?_, ?_, ?_, ?_, ?_, ?_, ?_, ?_, ?_⟩
  · intro q j t s ⟨ha, hr, hl, hc, ho, hp, hu, hb, hk, hat, hi, hf, hs⟩
    have hm : mctpOf t = none := mctpOf_of_kind_ne (by simp [hk])
    have hx : acsScreen s q (portPart s q) t (screen s q (portPart s q) t) = .upstream := by
      rw [screen_untranslated_read hk hat, acsScreen_upstream hs hat]
    rw [exec_endpointTlp ha hr hl hc, endpointTlp_upstream ho hp hu hb (by simp [hm]) hx, routeTlp_up hi, forwardTlp_of_no_failure hf]
    exact ⟨_, rfl, rfl, rfl, rfl, rfl⟩
  · intro q j t s ⟨ha, hr, hl, hc, ho, hp, hu, hb, hk, hat, hd, hats, hn⟩
    have hm : mctpOf t = none := mctpOf_of_kind_ne (by simp [hk])
    have hx : acsScreen s q (portPart s q) t (screen s q (portPart s q) t) = .violation .unarmed := by
      rw [screen_unarmed_write hk hat hd hats hn, acsScreen_violation]
    rw [exec_endpointTlp ha hr hl hc, endpointTlp_violation ho hp hu hb (by simp [hm]) hx]
    simp [violate, turnAway, hk, answer]
  · intro q j t s ⟨ha, hr, hl, hc, ho⟩
    rw [exec_endpointTlp ha hr hl hc, endpointTlp_not_opened ho]
    rfl
  · intro q j t s ⟨ha, hr, hl, hc, hk, hat, hs⟩
    have hx : acsScreen s q (portPart s q) t (screen s q (portPart s q) t) = .blocked := by
      rw [screen_untranslated_read hk hat, acsScreen_upstream_blocked hs]
    rw [exec_endpointTlp ha hr hl hc, endpointTlp_blocked hx, hk]
    rfl
  · exact fun q j t bad s ⟨ha, hc⟩ => exec_endpointTlp_no_credit ha hc bad
  · intro q j v t s ⟨ha, hr, hl, hc, ho, hp, hu, hb, hcode, hvendor, hsom, h1, h5, hk, hv, hide, hd, hi, hs⟩
    have hm : mctpOf t = some v := mctpOf_of_vdm hk hv hcode hvendor
    have hx : acsScreen s q (portPart s q) t (screen s q (portPart s q) t) = .mediate := by
      rw [screen_mediate hk (intercepts_of_first hm hsom h1 h5 s _), acsScreen_mediate hs]
    rw [exec_endpointTlp ha hr hl hc, endpointTlp_mediate ho hp hu hb (by simp [hide]) hx hd hi]
    obtain ⟨l, hl⟩ := mctpTrack_eq (portPart s q) t s
    rw [hl]
    exact ⟨_, rfl, rfl, rfl, rfl, rfl⟩
  · intro p r t s ⟨hu, hc, hp, hi, hd, hm, ho⟩
    have hn : hostMediates s p t = false := by rw [hostMediates_port hd, ho, Bool.and_false]
    rw [exec_hostTlp_port hu hc hd, hostTlp_routed hp hi hd (by simp [hm]) hn, mctpTrack_of_not_mctp hm, routeTlp_port_closed hd ho,
      awayAt_reply]
    rfl
  · intro p r t s ⟨hu, hc, hp, hi, hd, hm, ho, hf⟩
    have hn : hostMediates s p t = false := by rw [hostMediates_port hd, intercepts_of_not_mctp hm, Bool.false_and]
    rw [exec_hostTlp_port hu hc hd, hostTlp_routed hp hi hd (by simp [hm]) hn, mctpTrack_of_not_mctp hm, routeTlp_port_open hd ho,
      forwardTlp_of_no_failure hf]
    exact ⟨_, rfl, rfl, rfl, rfl, rfl⟩
  · intro p r v t s ⟨hu, hc, hp, hi, hd, hcode, hvendor, hsom, h1, h5, hk, hv, hide, ho⟩
    have hm : mctpOf t = some v := mctpOf_of_vdm hk hv hcode hvendor
    have hn : hostMediates s p t = true := by rw [hostMediates_port hd, intercepts_of_first hm hsom h1 h5, ho]; rfl
    rw [exec_hostTlp_port hu hc hd, hostTlp_mediated hp hi hd (by simp [hide]) hn]
    obtain ⟨l, hl⟩ := mctpTrack_eq p t s
    rw [hl]
    exact ⟨_, rfl, rfl, rfl, rfl⟩
  · intro p r v t s ⟨hu, hc, hp, hi, hd, hcode, hvendor, hsom, h1, h5, hk, hv, hide, ho⟩
    have hn : hostMediates s p t = false := by rw [hostMediates_port hd, ho, Bool.and_false]
    obtain ⟨l, hl⟩ := mctpTrack_eq p t s
    have ho' : portOpen (upFab (fun g => { g with mctpOpen := l }) s) p r = false := ho
    rw [exec_hostTlp_port hu hc hd, hostTlp_routed hp hi hd (by simp [hide]) hn, hl, routeTlp_port_closed hd ho']
    obtain ⟨n, ha⟩ := awayAt_eq (upPort' s p) p t (upFab (fun g => { g with mctpOpen := l }) s)
    obtain ⟨hheld, heps⟩ := away_keeps n t.kind (upFab (fun g => { g with mctpOpen := l }) s)
    rw [ha]
    exact ⟨_, rfl, congrArg (fun k => Reply.tlp (turnAway k)) hk, hheld, heps⟩
  · intro posted j s ⟨hv, hl, ho, hp, hf, hc⟩
    refine ⟨?_, (exec_vaultDriveRequest_outside hv hl hc).trans (by rw [if_pos ho]; rfl)⟩
    rw [exec_vaultDriveRequest_inside hv hl hc ho hp, forwardTlp_of_no_failure (s := drawn s) hf]
    exact ⟨_, rfl, rfl, rfl, rfl, rfl⟩
  · intro posted j s ⟨hv, hl, ho, hc⟩
    exact ⟨exec_vaultDriveRequest_closed hv hl hc ho, (exec_vaultDriveRequest_outside hv hl hc).trans (by rw [if_neg ho]; rfl)⟩

end Sys2Proof.Machine
end

section
/-!
PROOF. Firmware updates of endpoints through the mediation (R307, R332 to R335).
-/
namespace Sys2Proof.Machine

open Sys2Proof

variable {s : State} {port size j : Nat} {m : MedMsg} {k : MedPkt} {x : Mediation} {y : Tlp}

/-! ### What firmware does with an intercepted packet -/

/-- Where the endpoint permits no mediated updates nothing reaches it, and a host's request is answered with an error (R333). -/
theorem medHandle_refused (ho : medOk s k.port = false) (j : Nat) :
    medHandle j k s = (emit 0x0209 6 (le 1 j ++ le 1 k.port ++ le 1 (medCode k.msg) ++ le 1 0) s,
      ⟨k.port, .dropped, if medFromHost k.msg then some 5 else none⟩) :=
  if_pos (by simp [ho])

/-- An ActivateFirmware is held (R334). -/
theorem medHandle_held (ho : medOk s k.port = true) (hm : k.msg = .activate) (j : Nat) :
    medHandle j k s = (medTrack j k s, ⟨k.port, .waiting, none⟩) :=
  (if_neg (by simp [ho])).trans (if_pos hm)

/-- Any other message goes on (R334). -/
theorem medHandle_forwarded (ho : medOk s k.port = true) (hm : k.msg ≠ .activate) (j : Nat) :
    medHandle j k s = ((medForward k (medTrack j k s)).1, ⟨k.port, (medForward k (medTrack j k s)).2, none⟩) :=
  (if_neg (by simp [ho])).trans (if_neg hm)

/-- A packet waits in the buffer where it fits and none waits before it (R335). -/
theorem medEnq_buffered (hf : medFits s k.size = true) (hw : s.fab.medWait = []) :
    medEnq k s = upFab (fun g => { g with medBuf := g.medBuf ++ [k] }) s := by
  simp [medEnq, upFab, hf, hw]

/-- Otherwise it waits before the buffer (R335). -/
theorem medEnq_waiting (h : medFits s k.size = false ∨ s.fab.medWait ≠ []) :
    medEnq k s = upFab (fun g => { g with medWait := g.medWait ++ [k] }) s := by
  rcases h with h | h <;> simp [medEnq, upFab, h]

/-! ### A packet that comes in -/

section
variable (ha : epAt s port = some j) (hr : portRole s port = 2) (ho : (epOf s j).st = .opened) (hp : s.fab.planes ≠ 0)
  (hu : (partOf s (portPart s port)).up = true) (hi : ideBlocked s (portPart s port) = false) (hn : medNext s port m = none)
  (hc : creditOk s (medIngress s port m) 0 ((size + 15) / 16) = true)
  (hk : k = ⟨port, m, size, medIngress s port m, freeTlp s .message size .up⟩)
include ha hr ho hp hu hi hn hc hk

/-- With no intercepted TLP before it, it is a new packet: one firmware handles at once, or one that waits. -/
theorem exec_pldmMediatedPacket_new : exec (.pldmMediatedPacket port m size) s =
    if (fwRuns s && !medBlocked k s) = true then answer (.mediation (medHandle j k (drawn s)).2) (medHandle j k (drawn s)).1
    else answer (.mediation ⟨port, .waiting, none⟩) (medEnq k (drawn s)) := by
  simp only [exec, execPldmMediatedPacket, ha, hn, hk]
  refine when_of_true ?_ _ _
  simp only [hr, ho, hu, hi, hc, decide_eq_true hp, Bool.or_true]
  rfl

theorem exec_pldmMediatedPacket_handled (hf : fwRuns s = true) (hb : medBlocked k s = false) :
    exec (.pldmMediatedPacket port m size) s = answer (.mediation (medHandle j k (drawn s)).2) (medHandle j k (drawn s)).1 := by
  rw [exec_pldmMediatedPacket_new ha hr ho hp hu hi hn hc hk, if_pos (by rw [hf, hb]; rfl)]

theorem exec_pldmMediatedPacket_waiting (hf : fwRuns s = false) :
    exec (.pldmMediatedPacket port m size) s = answer (.mediation ⟨port, .waiting, none⟩) (medEnq k (drawn s)) := by
  rw [exec_pldmMediatedPacket_new ha hr ho hp hu hi hn hc hk, if_neg (by simp [hf])]

end

/-! ### A held ActivateFirmware -/

theorem medOf_upMed_self (hx : medOf s port = some x) (f : Mediation → Mediation) : medOf (upMed port f s) port = some (f x) := by
  have hx' : tabGet none s.fab.meds port = some x := hx
  rw [medOf, upMed, upFab_fab, tabGet_tabSet_self, hx']
  rfl

theorem medOf_of_meds {t : State} (h : t.fab.meds = s.fab.meds) (port : Nat) : medOf t port = medOf s port := by rw [medOf, medOf, h]

/-- The state once a held ActivateFirmware has been dispatched to its endpoint (R334). -/
def heldSent (port : Nat) (y : Tlp) (s : State) : State :=
  dispatchTlp (upPort' s (portPart s port)) port y
    (upMed port (fun m => { m with heldAct := none, activateReady := false, activated := true }) s)

theorem medOf_heldSent (hx : medOf s port = some x) (y : Tlp) :
    medOf (heldSent port y s) port = some { x with heldAct := none, activateReady := false, activated := true } :=
  (medOf_of_meds rfl port).trans (medOf_upMed_self hx _)

/-- With nothing in the buffer or before it, firmware that goes on finds nothing to do but to let the kept credits go. -/
theorem medResume_of_empty (hb : s.fab.medBuf = []) (hw : s.fab.medWait = []) :
    medResume s = (upFab (fun g => { g with medBuf := [], medWait := [], keptCredits := [] }) s, []) := by
  rw [medResume, hb, hw]
  rfl

section
variable (hx : medOf s port = some x)
include hx

theorem exec_activateFirmwareRelease_not_held (hh : x.heldAct = none) : exec (.activateFirmwareRelease port) s = notNow s := by
  simp only [exec, execActivateFirmwareRelease, hx, hh]

section
variable (hh : x.heldAct = some y)
include hh

/-- Where the records of its session are still to come, they are submitted first. -/
theorem exec_activateFirmwareRelease_records (ha : epAt s port = some j) (hr : x.recorded = false)
    (hl : x.comps.getLast?.any (fun c => !c.absent) = false) :
    exec (.activateFirmwareRelease port) s = done (medRecords j port s) := by
  simp only [exec, execActivateFirmwareRelease, hx, hh, hr, ha, hl]
  rfl

section
variable (hr : x.recorded = true)
include hr

/-- Its records have been submitted: it waits until they are durable. -/
theorem exec_activateFirmwareRelease_not_ready (hd : x.activateReady = false) : exec (.activateFirmwareRelease port) s = notNow s := by
  simp only [exec, execActivateFirmwareRelease, hx, hh, hr, hd]
  rfl

variable (hd : x.activateReady = true)
include hd

/-- Then it goes on, and what waited behind it where firmware runs (R334). -/
theorem exec_activateFirmwareRelease_passes (hp : medPasses s port = true) (hf : s.fab.planeFail = 0) :
    exec (.activateFirmwareRelease port) s =
      answer (.tlp (.forwarded port)) (if fwRuns s then (medResume (heldSent port y s)).1 else heldSent port y s) := by
  have hg := forwardTlp_of_no_failure
    (s := upMed port (fun m => { m with heldAct := none, activateReady := false, activated := true }) s) hf
  simp only [exec, execActivateFirmwareRelease, hx, hh, hr, when_of_true hd, if_pos hp, hg]
  rfl

/-- To a port that no longer passes requests it is dropped, and the session ends (R299, R334). -/
theorem exec_activateFirmwareRelease_drops (hp : medPasses s port = false) :
    exec (.activateFirmwareRelease port) s = answer (.tlp .dropped) (aerReport port 1 (endMediation port s)) := by
  simp only [exec, execActivateFirmwareRelease, hx, hh, hr, when_of_true hd, hp]
  rfl

end

end

end

/-- Settles O49, by whether firmware runs, whether the endpoint permits mediated updates, and what is held of a session. -/
theorem mediatedUpdates : Obligations.MediatedUpdates := by
  unfold Obligations.MediatedUpdates
  refine ⟨?_, ?_, ?_, ?_, ?_, ?_, ?_, ?_, ?_, ?_⟩
  · intro port size j m k s ⟨ha, hr, ho, hp, hu, hi, hn, hc, hk, hb, hf, hok, hm⟩
    have hok' : medOk (drawn s) k.port = true := by rw [hk]; exact hok
    rw [exec_pldmMediatedPacket_handled ha hr ho hp hu hi hn hc hk hf hb, medHandle_forwarded hok' (by rw [hk]; exact hm), hk]
    rfl
  · intro port size j m k s ⟨ha, hr, ho, hp, hu, hi, hn, hc, hk, hb, hf, hok, hm⟩
    have hok' : medOk (drawn s) k.port = true := by rw [hk]; exact hok
    rw [exec_pldmMediatedPacket_handled ha hr ho hp hu hi hn hc hk hf hb, medHandle_held hok' (by rw [hk]; exact hm), hk]
    rfl
  · intro port size j m k s ⟨ha, hr, ho, hp, hu, hi, hn, hc, hk, hb, hf, hok⟩
    have hok' : medOk (drawn s) k.port = false := by rw [hk]; exact hok
    refine ⟨_, exec_pldmMediatedPacket_handled ha hr ho hp hu hi hn hc hk hf hb, ?_⟩
    rw [medHandle_refused hok', hk]
    exact ⟨rfl, emit_fab .., emit_mor ..⟩
  · rintro port size j m k s ⟨ha, hr, ho, hp, hu, hi, hn, hc, hk, -, hf, hfit, hw⟩
    have hfit' : medFits (drawn s) k.size = true := by rw [hk]; exact hfit
    rw [exec_pldmMediatedPacket_waiting ha hr ho hp hu hi hn hc hk hf, medEnq_buffered hfit' hw]
    exact ⟨_, rfl, rfl, rfl, hw, rfl, rfl⟩
  · rintro port size j m k s ⟨ha, hr, ho, hp, hu, hi, hn, hc, hk, -, hf, h⟩
    have h' : medFits (drawn s) k.size = false ∨ (drawn s).fab.medWait ≠ [] := by rw [hk]; exact h
    rw [exec_pldmMediatedPacket_waiting ha hr ho hp hu hi hn hc hk hf, medEnq_waiting h']
    exact ⟨_, rfl, rfl, rfl, rfl, rfl, rfl⟩
  · intro port x y s ⟨hx, hh, hr, hready, hpass, hf, hb, hw⟩
    rw [exec_activateFirmwareRelease_passes hx hh hr hready hpass hf, medResume_of_empty (s := heldSent port y s) hb hw]
    refine ⟨_, rfl, rfl, (medOf_of_meds ?_ port).trans (medOf_heldSent hx y), ?_⟩ <;> (rw [say_fab]; split <;> rfl)
  · exact fun port x y s ⟨hx, hh, hr, hready, hpass⟩ => exec_activateFirmwareRelease_drops hx hh hr hready hpass
  · intro port x s ⟨hx, h⟩
    cases hh : x.heldAct with
    | none => exact exec_activateFirmwareRelease_not_held hx hh
    | some y =>
      obtain h | ⟨hr, hready⟩ := h
      · simp [hh] at h
      · exact exec_activateFirmwareRelease_not_ready hx hh hr hready
  · exact fun port j x y s ⟨hx, ha, hh, hr, hl⟩ => exec_activateFirmwareRelease_records hx hh ha hr hl
  · intro port j x s ⟨hx, ha, hact, hpass, ho⟩
    have hg : (x.activated && medPasses s port && decide ((epOf s j).st = .opened)) = true := by simp [hact, hpass, ho]
    simp only [exec, execActivateFirmwareResponse, hx, ha]
    exact when_of_true hg _ _

end Sys2Proof.Machine
end

section
/-!
PROOF. Attestations and re-checks: the exchanges of SPDM and what ends them (R298, R302 to R306).
-/
namespace Sys2Proof.Machine

open Sys2Proof

variable {s : State} {j k cause portion remainder : Nat} {a : Att} {d root b : Bytes} {x y : SpdmStep}

/-! ### The attestation in progress -/

theorem epOf_upAtt_att (ha : (epOf s j).att = some a) (f : Att → Att) : (epOf (upAtt j f s) j).att = some (f a) := by
  rw [upAtt, epOf_upEp_self, ha]
  rfl

theorem epOf_spdmNext_att (ha : (epOf s j).att = some a) (y : SpdmStep) :
    (epOf (spdmNext y j s) j).att = some { a with step := y, sends := 0 } :=
  epOf_upAtt_att ha _

theorem attRuns_att (h : attRuns s j = true) : ∃ a, (epOf s j).att = some a := by
  simp only [attRuns, Bool.and_eq_true, Option.isSome_iff_exists] at h
  exact h.1.1.1.1

theorem attRuns_of_spdmAt (h : spdmAt s j x = true) : attRuns s j = true := (Bool.and_eq_true_iff.1 h).1

/-- A change of the attestation in progress leaves it under way. -/
theorem attRuns_upAtt (f : Att → Att) (h : attRuns s j = true) : attRuns (upAtt j f s) j = true := by
  obtain ⟨a, ha⟩ := attRuns_att h
  simp only [attRuns, epOf_upAtt_att ha f]
  simp only [attRuns, ha] at h
  rw [upAtt, epOf_upEp_self]
  exact h

/-- The next exchange is under way with its first send. -/
theorem spdmAt_spdmNext (h : attRuns s j = true) (y : SpdmStep) : spdmAt (spdmNext y j s) j y = true := by
  obtain ⟨a, ha⟩ := attRuns_att h
  simp only [spdmAt, epOf_spdmNext_att ha]
  simp [spdmNext, attRuns_upAtt _ h]

theorem spdmAt_say (r : Reply) (s : State) : spdmAt (say r s) j x = spdmAt s j x := rfl

theorem epOf_say (r : Reply) (s : State) : epOf (say r s) j = epOf s j := rfl

/-- The last request for measurements draws its nonce, unless the random source is stopped (R303, R459). Here t is what the response
before it makes of s. -/
theorem drawNonce_said {t : State} (ha : (epOf t j).att = some a) (hc : t.freeCtr = s.freeCtr) (hk : t.kld = s.kld) (hm : t.mor = s.mor) :
    ∃ n, (epOf (say .none (drawNonce j t)) j).att = some { a with nonce := n } ∧
      (a.left.length ≤ 1 → s.kld.rngFail = false → n = nextFree s 32 ∧ (say .none (drawNonce j t)).freeCtr = s.freeCtr + 1) ∧
      (say .none (drawNonce j t)).mor = s.mor := by
  simp only [drawNonce, ha, hk]
  split
  · refine ⟨nextFree t 32, ?_, fun _ _ => ⟨?_, congrArg (· + 1) hc⟩, hm⟩
    · exact epOf_upAtt_att ha _
    · rw [nextFree, nextFree, hc]
  · next h => exact ⟨a.nonce, ha, fun hl hr => absurd ⟨hl, hr⟩ h, hm⟩

/-! ### From the version to the digests -/

theorem exec_spdmVersion_good {best : Nat} (h : spdmAt s j .version = true) (hb : spdmMin s j ≤ best ∧ (best = 0x12 ∨ best = 0x13)) :
    exec (.spdmVersion j best) s = done (spdmNext .capabilities j (upAtt j (fun a => { a with version := best }) s)) :=
  (when_of_true h _ _).trans (if_pos hb)

theorem exec_spdmCapabilities_good (h : spdmAt s j .capabilities = true) (chunk : Bool) :
    exec (.spdmCapabilities j true 2 chunk) s = done (spdmNext .algorithms j (upAtt j (fun a => { a with chunk := chunk }) s)) :=
  (when_of_true h _ _).trans (if_pos ⟨rfl, rfl⟩)

theorem exec_spdmAlgorithms_good (h : spdmAt s j .algorithms = true) :
    exec (.spdmAlgorithms j true true true true) s = done (spdmNext .digests j s) :=
  (when_of_true h _ _).trans (if_pos ⟨rfl, rfl, rfl, rfl⟩)

theorem exec_spdmDigests_good (h : spdmAt s j .digests = true) : exec (.spdmDigests j true) s = done (spdmNext .certificate j s) :=
  when_of_true h _ _

/-! ### Certificates -/

section
variable (h : spdmAt s j .certificate = true) (h0 : 0 < portion) (h1 : portion ≤ 4096)
include h0 h1

theorem portion_in_bounds : ¬ (portion = 0 ∨ 4096 < portion) := by omega

include h

/-- A portion that is not the last is counted, and the next is asked for. -/
theorem exec_spdmCertificate_more (hr : remainder ≠ 0) (root : Bytes) (ok : Bool) :
    exec (.spdmCertificate j portion remainder root ok) s =
      done (upAtt j (fun a => { a with chain := a.chain + portion, sends := 0 }) s) :=
  (when_of_true h _ _).trans ((if_neg (portion_in_bounds h0 h1)).trans (if_pos hr))

variable (hs : sigIn s = true) (hd : dgaIn s = true)
include hs hd

/-- With the last portion the root and the chain are checked. -/
theorem exec_spdmCertificate_last (root : Bytes) (ok : Bool) :
    exec (.spdmCertificate j portion 0 root ok) s =
      if sha384 root ≠ rootWant s j then done (settle (attEnd 4 [] j s))
      else if !ok then done (settle (attEnd 5 [] j s))
      else done (drawNonce j (spdmNext .measurements j
        (upAtt j (fun a => { a with chain := a.chain + portion, left := measSel s j, blocks := [] }) s))) :=
  (when_of_true h _ _).trans ((if_neg (portion_in_bounds h0 h1)).trans ((if_neg (by simp)).trans (if_neg (by simp [hs, hd]))))

/-- A chain that is good is followed by the request for measurements. -/
theorem exec_spdmCertificate_good (hroot : sha384 root = rootWant s j) :
    exec (.spdmCertificate j portion 0 root true) s = done (drawNonce j (spdmNext .measurements j
      (upAtt j (fun a => { a with chain := a.chain + portion, left := measSel s j, blocks := [] }) s))) :=
  (exec_spdmCertificate_last h h0 h1 hs hd root true).trans (if_neg (not_not.2 hroot))

end

/-! ### Measurements -/

section
variable (h : spdmAt s j .measurements = true) (ha : (epOf s j).att = some a)
include h ha

theorem measurements_guard (hm : 1 < a.left.length ∨ a.nonce ≠ []) : (spdmAt s j .measurements && measSent s j) = true := by
  simp only [h, measSent, ha, Bool.true_and, Bool.or_eq_true, decide_eq_true_eq]
  exact hm

/-- A block longer than the endpoint can send. -/
theorem exec_spdmMeasurements_long (hm : measSent s j = true) (hb : spdmLimit a < b.length) (sig : Half) :
    exec (.spdmMeasurements j (some b) sig) s = done (settle (attEnd 3 [] j s)) := by
  simp only [exec, execSpdmMeasurements, ha]
  exact (when_of_true (by rw [h, hm]; rfl) _ _).trans (if_pos hb)

/-- No block in the answer. -/
theorem exec_spdmMeasurements_none (hm : measSent s j = true) (sig : Half) :
    exec (.spdmMeasurements j none sig) s = done (settle (attEnd 3 [] j s)) := by
  simp only [exec, execSpdmMeasurements, ha]
  exact when_of_true (by rw [h, hm]; rfl) _ _

variable (hb : b.length ≤ spdmLimit a)
include hb

/-- A block that is not the last is kept, and the next is asked for. -/
theorem exec_spdmMeasurements_more (hl : 1 < a.left.length) (sig : Half) :
    exec (.spdmMeasurements j (some b) sig) s =
      done (drawNonce j (upAtt j (fun a => { a with left := a.left.drop 1, blocks := a.blocks ++ b, sends := 0 }) s)) := by
  simp only [exec, execSpdmMeasurements, ha]
  exact (when_of_true (measurements_guard h ha (.inl hl)) _ _).trans ((if_neg (Nat.not_lt.2 hb)).trans (if_pos hl))

/-- With the last block the signature and the digest of the blocks are checked (R303, R304). -/
theorem exec_spdmMeasurements_last (hn : a.nonce ≠ []) (hs : sigIn s = true) (hd : dgaIn s = true) (hl : a.left.length ≤ 1) (sig : Half) :
    exec (.spdmMeasurements j (some b) sig) s =
      if sig = .missing then done (settle (attEnd 3 [] j s))
      else if sig = .bad then done (settle (attEnd 6 [] j s))
      else if sha384 (a.blocks ++ b) = measWant s j then done (settle (attEnd 0 (sha384 (a.blocks ++ b)) j s))
      else done (settle (attEnd 7 (sha384 (a.blocks ++ b)) j s)) := by
  simp only [exec, execSpdmMeasurements, ha]
  exact (when_of_true (measurements_guard h ha (.inr hn)) _ _).trans
    ((if_neg (Nat.not_lt.2 hb)).trans ((if_neg (Nat.not_lt.2 hl)).trans (if_neg (by simp [hs, hd]))))

end

/-! ### Time -/

theorem exec_spdmSendTimeout_again (h : attRuns s j = true) (ha : (epOf s j).att = some a) (hs : a.sends < 2) :
    exec (.spdmSendTimeout j) s = done (upAtt j (fun a => { a with sends := a.sends + 1 }) s) := by
  simp only [exec, execSpdmSendTimeout, ha, if_pos hs]
  exact when_of_true h _ _

theorem exec_spdmSendTimeout_over (h : attRuns s j = true) (ha : (epOf s j).att = some a) (hs : 2 ≤ a.sends) :
    exec (.spdmSendTimeout j) s = done (settle (attEnd 2 [] j s)) := by
  simp only [exec, execSpdmSendTimeout, ha, if_neg (Nat.not_lt.2 hs)]
  exact when_of_true h _ _

theorem exec_attestationTimeout (h : attRuns s j = true) (hc : aocRuns s = true) :
    exec (.attestationTimeout j) s = done (settle (attEnd 2 [] j s)) := by
  simp only [attRuns, Bool.and_eq_true] at h
  obtain ⟨⟨⟨⟨hsome, -⟩, hfw⟩, -⟩, -⟩ := h
  exact when_of_true (by rw [hsome, hfw, hc]; rfl) _ _

/-! ### Verdict pairs and records -/

theorem pairOf_of_vslot {t : State} (h : t.mor.vslot = s.mor.vslot) (k : Nat) : pairOf t k = pairOf s k := by rw [pairOf, pairOf, h]

theorem pairOf_setPair (hc : aocRuns s = true) (k : Nat) (v : BitVec 32) : pairOf (setPair k v s) k = v := by
  rw [setPair, if_pos hc]
  exact tabGet_tabSet_self ..

theorem setPair_stopped (hc : aocRuns s = false) (k : Nat) (v : BitVec 32) : setPair k v s = s := if_neg (by simp [hc])

@[simp] theorem emit_run (code src : Nat) (body : Bytes) (s : State) : (emit code src body s).run = s.run := by
  obtain ⟨e, he⟩ := emit_evOnly code src body s
  rw [he]

/-- An endpoint that is refused (R113, R298). -/
def refusedEp (e : Ep) : Ep := { e with st := .refused, link := false, epWait := false, configuring := false, att := none }

theorem epRefuse_setPair_eps (j : Nat) (k : Nat) (v : BitVec 32) (s : State) :
    (epRefuse j (setPair k v s)).fab.eps = (upEp j refusedEp s).fab.eps := by
  simp only [epRefuse, linkDrop, upEp, upFab_fab, setPair_fab]
  rfl

/-- A failure before the Release refuses its endpoint, and writes its slot alone. -/
theorem epFail_eps (cause : Nat) (d : Bytes) (j : Nat) (s : State) : (epFail cause d j s).fab.eps = (upEp j refusedEp s).fab.eps := by
  rw [← epRefuse_setPair_eps j (256 + j) failPair s]
  unfold epFail
  dsimp only
  (repeat' split) <;> simp

theorem epFail_vslot (cause : Nat) (d : Bytes) (j : Nat) (s : State) :
    (epFail cause d j s).mor.vslot = (setPair (256 + j) failPair s).mor.vslot := by
  unfold epFail
  dsimp only
  (repeat' split) <;> simp

theorem epOf_epFail_st (cause : Nat) (d : Bytes) (j : Nat) (s : State) : (epOf (epFail cause d j s) j).st = .refused := by
  rw [epOf_of_eps (epFail_eps cause d j s), epOf_upEp_self]
  rfl

/-! ### The end of an attestation or a re-check -/

/-- An endpoint whose check has ended, with the digest computed. -/
def checkOver (d : Bytes) (a : Att) (e : Ep) : Ep :=
  { e with att := none, spdmVer := a.version, measDigest := if d = [] then e.measDigest else d }

section
variable (ha : (epOf s j).att = some a)
include ha

theorem attEnd_initial_pass (hk : a.kind = .initial) (d : Bytes) :
    attEnd 0 d j s = emitAttested j 1 1 0 a.version d
      (upEp j (fun e => { e with st := .attested }) (setPair (256 + j) passPair (upEp j (checkOver d a) s))) := by
  simp only [attEnd, ha, hk]
  rfl

theorem attEnd_initial_fail (hk : a.kind = .initial) (hc : cause ≠ 0) (d : Bytes) :
    attEnd cause d j s = epFail cause d j (upEp j (checkOver d a) s) := by
  simp only [attEnd, ha, hk, decide_eq_false hc]
  rfl

/-- The state of a re-check that ended, before what follows of its result. -/
def rechecked (v : BitVec 32) (d : Bytes) (a : Att) (j : Nat) (s : State) : State :=
  upEp j (fun e => { e with recheckPair := v }) (upEp j (checkOver d a) s)

theorem attEnd_recheck_fail (hk : a.kind ≠ .initial) (hc : cause ≠ 0) (d : Bytes) :
    attEnd cause d j s = escalateEp j (epChanged d j
      (emitAttested j (attCode a.kind) 2 cause a.version d (rechecked failPair d a j s))) := by
  simp only [attEnd, ha, decide_eq_false hc]
  cases h : a.kind with
  | initial => exact absurd h hk
  | periodic | heldCheck => rfl

theorem attEnd_periodic_pass (hk : a.kind = .periodic) (d : Bytes) :
    attEnd 0 d j s = emitAttested j 2 1 0 a.version d (rechecked passPair d a j s) := by
  simp only [attEnd, ha, hk]
  rfl

end

theorem epOf_rechecked (v : BitVec 32) (d : Bytes) (a : Att) (j : Nat) (s : State) :
    epOf (rechecked v d a j s) k = if k = j then { checkOver d a (epOf s j) with recheckPair := v } else epOf s k := by
  rw [rechecked, epOf_upEp, epOf_upEp]
  split
  · next h => rw [h]
  · rfl

/-- An endpoint that is contained as CHANGED (R298). -/
def changedEp (e : Ep) : Ep :=
  { e with
    st := .contained, causes := { e.causes with changed := true }, att := none, epWait := false, hostDpc := false
    relink := e.relink || !e.link }

theorem epChanged_eps (d : Bytes) (j : Nat) (s : State) : (epChanged d j s).fab.eps = (upEp j changedEp s).fab.eps := by
  rw [epChanged, emit_fab]
  rfl

theorem epChanged_run (d : Bytes) (j : Nat) (s : State) : (epChanged d j s).run = s.run := by
  rw [epChanged, emit_run]
  rfl

theorem tripAction_of_run {t : State} (h : t.run = s.run) (src scope : Nat) : tripAction t src scope = tripAction s src scope := by
  rw [tripAction, tripAction, h]

/-- Where the trip rule of an endpoint neither trips nor holds, its escalation leaves the gate as it was. -/
theorem escalateEp_fab (h1 : tripAction s 3 j ≠ some 1) (h2 : tripAction s 3 j ≠ some 2) : (escalateEp j s).fab = s.fab := by
  have hnow : ∀ l, escalateNow 8 3 j l s = s := fun l => by
    unfold escalateNow
    split
    · next h => exact absurd h h1
    · next h => exact absurd h h2
    · rfl
  unfold escalateEp escalateFw
  simp only [hnow]
  (repeat' split) <;> simp

theorem epOf_epChanged (d : Bytes) (j : Nat) (s : State) : epOf (epChanged d j s) k = if k = j then changedEp (epOf s k) else epOf s k :=
  (epOf_of_eps (epChanged_eps d j s) k).trans (epOf_upEp j changedEp s)

/-! ### What the end of a check leaves -/

section
variable (ha : (epOf s j).att = some a)
include ha

/-- An initial attestation that ends writes its slot, while an oscillator runs, and attests or refuses its endpoint (R298, R304). -/
theorem attEnd_initial (hk : a.kind = .initial) (cause : Nat) (d : Bytes) :
    (aocRuns s = true → pairOf (attEnd cause d j s) (256 + j) = if cause = 0 then passPair else failPair) ∧
    (aocRuns s = false → pairOf (attEnd cause d j s) (256 + j) = pairOf s (256 + j)) ∧
    (epOf (attEnd cause d j s) j).st = if cause = 0 then .attested else .refused := by
  by_cases hc : cause = 0
  case pos =>
    subst hc
    have hp : pairOf (attEnd 0 d j s) (256 + j) = pairOf (setPair (256 + j) passPair (upEp j (checkOver d a) s)) (256 + j) := by
      rw [attEnd_initial_pass ha hk]
      exact pairOf_of_vslot (by simp) _
    refine ⟨fun hr => hp.trans (pairOf_setPair (s := upEp j (checkOver d a) s) hr _ _), fun hr => ?_, ?_⟩
    · rw [hp, setPair_stopped (s := upEp j (checkOver d a) s) hr]
      rfl
    · rw [attEnd_initial_pass ha hk, epOf_of_eps (congrArg Fabric.eps (emitAttested_fab ..)), epOf_upEp_self]
      rfl
  case neg =>
    have hp : pairOf (attEnd cause d j s) (256 + j) = pairOf (setPair (256 + j) failPair (upEp j (checkOver d a) s)) (256 + j) := by
      rw [attEnd_initial_fail ha hk hc]
      exact pairOf_of_vslot (epFail_vslot ..) _
    rw [if_neg hc, if_neg hc]
    refine ⟨fun hr => hp.trans (pairOf_setPair (s := upEp j (checkOver d a) s) hr _ _), fun hr => ?_, ?_⟩
    · rw [hp, setPair_stopped (s := upEp j (checkOver d a) s) hr]
      rfl
    · rw [attEnd_initial_fail ha hk hc, epOf_epFail_st]

/-- A re-check that failed has contained its endpoint as CHANGED, and no other, when the trip rule of the endpoint acts (R298, R306). -/
theorem attEnd_recheck (hk : a.kind ≠ .initial) (hc : cause ≠ 0) (d : Bytes) :
    ∃ u, attEnd cause d j s = escalateEp j u ∧ u.run = s.run ∧
      epOf u j = changedEp { checkOver d a (epOf s j) with recheckPair := failPair } ∧ ∀ k, k ≠ j → epOf u k = epOf s k := by
  have hep : ∀ k, epOf (emitAttested j (attCode a.kind) 2 cause a.version d (rechecked failPair d a j s)) k =
      epOf (rechecked failPair d a j s) k := epOf_of_eps (congrArg Fabric.eps (emitAttested_fab ..))
  refine ⟨_, attEnd_recheck_fail ha hk hc d, ?_, ?_, fun k hkj => ?_⟩
  · rw [epChanged_run, emitAttested, emit_run]
    rfl
  · rw [epOf_epChanged, if_pos rfl, hep, epOf_rechecked, if_pos rfl]
  · rw [epOf_epChanged, if_neg hkj, hep, epOf_rechecked, if_neg hkj]

/-- A periodic re-check that passed leaves the state and the causes of its endpoint. -/
theorem epOf_attEnd_periodic_pass (hk : a.kind = .periodic) (d : Bytes) :
    epOf (attEnd 0 d j s) j = { checkOver d a (epOf s j) with recheckPair := passPair } := by
  rw [attEnd_periodic_pass ha hk, epOf_of_eps (congrArg Fabric.eps (emitAttested_fab ..)), epOf_rechecked, if_pos rfl]

end

/-- What lifts a containment opens an endpoint whose re-check passed (R298). -/
theorem epLift_passed (h : (epOf s j).st = .recheck ∧ (epOf s j).recheckPair = passPair ∧ (epOf s j).att = none ∧
    (epOf s j).causes.changed = false) :
    epLift j s = upEp j (fun e => { e with st := .opened, causes := noCauses, hostDpc := false }) s :=
  if_pos h

/-- Settles O43, by the condition of each exchange and by the kind of the check that ends. -/
theorem attestation : Obligations.Attestation := by
  unfold Obligations.Attestation
  refine ⟨?_, ?_, ?_, ?_, ?_, ?_, ?_, ?_, ?_, ?_, ?_, ?_, ?_, ?_, ?_, ?_, ?_, ?_, ?_⟩
  · intro j best s ⟨h, hbest⟩
    refine ⟨_, exec_spdmVersion_good h hbest, (spdmAt_say ..).trans (spdmAt_spdmNext (attRuns_upAtt _ (attRuns_of_spdmAt h)) _), ?_,
      by simp, by simp⟩
    rw [epOf_say, spdmNext, upAtt, epOf_upEp_self, upAtt, epOf_upEp_self]
  · exact fun j best s ⟨h, hbest⟩ => (when_of_true h _ _).trans (if_neg hbest)
  · intro j s h
    obtain ⟨a, ha⟩ := attRuns_att (attRuns_of_spdmAt h)
    refine ⟨fun chunk => ⟨_, exec_spdmCapabilities_good h chunk,
      (spdmAt_say ..).trans (spdmAt_spdmNext (attRuns_upAtt _ (attRuns_of_spdmAt h)) _), ?_, by simp⟩,
      fun _ _ _ hn => (when_of_true h _ _).trans (if_neg hn)⟩
    intro a' ha'
    rw [epOf_say, epOf_spdmNext_att (epOf_upAtt_att ha _)] at ha'
    rw [← Option.some.inj ha']
  · intro j s h
    exact ⟨⟨_, exec_spdmAlgorithms_good h, (spdmAt_say ..).trans (spdmAt_spdmNext (attRuns_of_spdmAt h) _), by simp⟩,
      fun _ _ _ _ hn => (when_of_true h _ _).trans (if_neg hn)⟩
  · intro j s h
    exact ⟨⟨_, exec_spdmDigests_good h, (spdmAt_say ..).trans (spdmAt_spdmNext (attRuns_of_spdmAt h) _), by simp⟩, when_of_true h _ _⟩
  · intro j portion remainder root ok s a ⟨h, ha, h0, h1, hr⟩
    exact ⟨_, exec_spdmCertificate_more h h0 h1 hr root ok, (congrArg Ep.att (epOf_say ..)).trans (epOf_upAtt_att ha _), by simp⟩
  · intro j portion root ok s ⟨h, hs, hd, h0, h1, hroot⟩
    exact (exec_spdmCertificate_last h h0 h1 hs hd root ok).trans (if_pos hroot)
  · intro j portion root s ⟨h, hs, hd, h0, h1, hroot⟩
    exact (exec_spdmCertificate_last h h0 h1 hs hd root false).trans (if_neg (not_not.2 hroot))
  · intro j portion root s a ⟨h, ha, hs, hd, h0, h1, hroot⟩
    have hatt := epOf_spdmNext_att (epOf_upAtt_att ha
      (fun a => { a with chain := a.chain + portion, left := measSel s j, blocks := [] })) .measurements
    exact ⟨_, exec_spdmCertificate_good h h0 h1 hs hd hroot, drawNonce_said hatt rfl rfl (by simp)⟩
  · intro j b sig s a ⟨h, ha, hb, hl⟩
    have hatt := epOf_upAtt_att ha (fun a => { a with left := a.left.drop 1, blocks := a.blocks ++ b, sends := 0 })
    obtain ⟨n, hnonce, hdrawn, hmor⟩ := drawNonce_said (s := s) hatt rfl rfl (by simp)
    refine ⟨_, exec_spdmMeasurements_more h ha hb hl sig, n, hnonce, fun h2 hr => (hdrawn ?_ hr).1, hmor⟩
    simp [h2]
  · intro j b s a ⟨h, ha, hn, hb, hs, hd, hl⟩
    have hlast := exec_spdmMeasurements_last h ha hb hn hs hd hl
    refine ⟨hlast .missing, hlast .bad, (hlast .good).trans ?_⟩
    by_cases hw : sha384 (a.blocks ++ b) = measWant s j
    · rw [if_pos hw, if_pos hw]
      rfl
    · rw [if_neg hw, if_neg hw]
      rfl
  · exact fun j b sig s a ⟨h, hm, ha, hb⟩ => ⟨exec_spdmMeasurements_long h ha hm hb sig, exec_spdmMeasurements_none h ha hm sig⟩
  · exact fun j s a ⟨h, hc, _⟩ => ⟨when_of_true h _ _, when_of_true h _ _, exec_attestationTimeout h hc⟩
  · intro j s a ⟨h, ha, hs⟩
    refine ⟨_, exec_spdmSendTimeout_again h ha hs, ?_, by simp⟩
    rw [epOf_say, epOf_upAtt_att ha]
  · exact fun j s a ⟨h, ha, hs⟩ => exec_spdmSendTimeout_over h ha hs
  · exact fun j cause d s a ⟨ha, hk⟩ => attEnd_initial ha hk cause d
  · intro j cause d s a ⟨ha, hk, hc⟩
    obtain ⟨u, hu, hrun, hep, hothers⟩ := attEnd_recheck ha hk hc d
    refine ⟨⟨u, hu, congrArg Ep.st hep, congrArg (fun e => e.causes.changed) hep, congrArg Ep.recheckPair hep, congrArg Ep.att hep, hothers⟩,
      fun ⟨h1, h2⟩ => ?_⟩
    rw [← tripAction_of_run hrun] at h1 h2
    rw [hu, epOf_of_eps (congrArg Fabric.eps (escalateEp_fab h1 h2)), hep]
    exact ⟨rfl, rfl⟩
  · intro j d s a ⟨ha, hk⟩
    rw [epOf_attEnd_periodic_pass ha hk]
    exact ⟨rfl, rfl, rfl, rfl⟩
  · intro j s h
    rw [epLift_passed h, epOf_upEp_self]
    exact ⟨rfl, rfl, fun k hk => (epOf_upEp ..).trans (if_neg hk)⟩

end Sys2Proof.Machine
end

section
/-!
PROOF. Units that fail, and the spares and mirrors that carry on (R336, R338, R340, R462, R465 to R467).
-/
namespace Sys2Proof.Machine

open Sys2Proof

variable {s : State} {b i n e : Nat}

/-! ### Bits that are cleared -/

theorem getLsbD_putBit_false_eq {w : Nat} (v : BitVec w) (m n : Nat) :
    (putBit v m false).getLsbD n = (v.getLsbD n && decide (n ≠ m)) := by
  by_cases hn : n < w
  · have hm : (n < m ∨ n - m ≠ 0) ↔ n ≠ m := by omega
    simp [putBit, hn, ← hm]
  · rw [BitVec.getLsbD_of_ge _ _ (by omega), BitVec.getLsbD_of_ge _ _ (by omega), Bool.false_and]

/-- Bits cleared one after another: those of the list are 0, and every other is as it was. -/
theorem getLsbD_foldl_putBit_false {w : Nat} (g : Nat → Nat) (l : List Nat) (v : BitVec w) (n : Nat) :
    (l.foldl (fun v m => putBit v (g m) false) v).getLsbD n = (v.getLsbD n && decide (n ∉ l.map g)) := by
  induction l generalizing v with
  | nil => simp
  | cons m l ih => simp [ih, getLsbD_putBit_false_eq, Bool.and_assoc]

/-! ### Slices -/

/-- The slices in service once slice i of bay b fails: all of them while the spare replaces it, none of the bay where it was the last, else
all but itself (R336, R340, R462). -/
def slicesAfterFault (f : Fabric) (b i : Nat) : BitVec 24 :=
  if (slicesGood f b).length = 3 ∧ ((slicesGood f b).take 2).contains i then f.slices
  else if (slicesGood f b).length = 1 then putBit (putBit (putBit f.slices (3 * b) false) (3 * b + 1) false) (3 * b + 2) false
  else putBit f.slices (3 * b + i) false

section
variable (h : (slicesGood s.fab b).contains i = true)
include h

/-- A slice that fails is marked, and its bay keeps the slices in service that can still screen. -/
theorem sliceFault_fab : (sliceFault b i s).fab =
    { s.fab with sliceFail := putBit s.fab.sliceFail (3 * b + i) true, slices := slicesAfterFault s.fab b i } := by
  unfold sliceFault slicesAfterFault
  rw [if_neg (by rw [h]; decide)]
  (repeat' split) <;> rfl

theorem exec_sliceCheck (ok : Bool) : exec (.sliceCheck b i ok) s = done (if ok then s else sliceFault b i s) := when_of_true h _ _

end

/-- The slices of bay b that fail and have not been removed yet. -/
def slicesFailing (f : Fabric) (b : Nat) : List Nat :=
  [0, 1, 2].filter (fun i => f.slices.getLsbD (3 * b + i) && f.sliceFail.getLsbD (3 * b + i))

theorem mem_slicesFailing (f : Fabric) (b i : Nat) :
    i ∈ slicesFailing f b ↔ i < 3 ∧ f.slices.getLsbD (3 * b + i) = true ∧ f.sliceFail.getLsbD (3 * b + i) = true := by
  simp only [slicesFailing, List.mem_filter, Bool.and_eq_true, List.mem_cons, List.not_mem_nil, or_false]
  exact and_congr_left' (by omega)

/-- The slices in service once those of bay b that fail are removed. -/
def slicesLeft (f : Fabric) (b : Nat) : BitVec 24 := (slicesFailing f b).foldl (fun w i => putBit w (3 * b + i) false) f.slices

theorem getLsbD_slicesLeft_bay (f : Fabric) (hi : i < 3) :
    (slicesLeft f b).getLsbD (3 * b + i) = (f.slices.getLsbD (3 * b + i) && !f.sliceFail.getLsbD (3 * b + i)) := by
  have hfail : 3 * b + i ∉ (slicesFailing f b).map (fun i => 3 * b + i) ↔ i ∉ slicesFailing f b :=
    not_congr (List.mem_map_of_injective (add_right_injective (3 * b)))
  simp only [slicesLeft, getLsbD_foldl_putBit_false, hfail, mem_slicesFailing]
  cases f.slices.getLsbD (3 * b + i) <;> simp [hi]

theorem getLsbD_slicesLeft_other (f : Fabric) (hn : n < 3 * b ∨ 3 * b + 3 ≤ n) : (slicesLeft f b).getLsbD n = f.slices.getLsbD n := by
  have hout : n ∉ (slicesFailing f b).map (fun i => 3 * b + i) := fun hm => by
    obtain ⟨i, hi, rfl⟩ := List.mem_map.1 hm
    have := ((mem_slicesFailing f b i).1 hi).1
    omega
  rw [slicesLeft, getLsbD_foldl_putBit_false, decide_eq_true hout, Bool.and_true]

theorem exec_sliceFailoverDone (h : slicesFailing s.fab b ≠ []) :
    exec (.sliceFailoverDone b) s = done (upFab (fun f => { f with slices := slicesLeft s.fab b }) s) := when_of_true (decide_eq_true h) _ _

/-! ### Planes -/

theorem mem_foldl_filter_ne {α : Type} [DecidableEq α] (l k : List α) (x : α) :
    x ∈ l.foldl (fun k t => k.filter (fun u => decide (u ≠ t))) k ↔ x ∈ k ∧ x ∉ l := by
  induction l generalizing k with
  | nil => simp
  | cons t l ih =>
    rw [List.foldl_cons, ih]
    simp [and_assoc]

/-- Delivery takes the delivered TLPs from those that are held. -/
theorem mem_deliver_heldTlps (l : List HeldTlp) (f : Fabric) (x : HeldTlp) :
    x ∈ (deliver l f).heldTlps ↔ x ∈ f.heldTlps ∧ x ∉ l := by
  rw [deliver, ← List.foldl_hom Fabric.heldTlps (g₂ := fun k t => k.filter (fun u => decide (u ≠ t))) (fun _ _ => rfl)]
  exact mem_foldl_filter_ne l f.heldTlps x

theorem deliver_eps (l : List HeldTlp) (f : Fabric) : (deliver l f).eps = f.eps :=
  List.foldlRecOn (motive := fun g : Fabric => g.eps = f.eps) l _ rfl (fun _ h _ _ => h)

theorem deliver_planeFail (l : List HeldTlp) (f : Fabric) : (deliver l f).planeFail = f.planeFail :=
  List.foldlRecOn (motive := fun g : Fabric => g.planeFail = f.planeFail) l _ rfl (fun _ h _ _ => h)

/-- The TLPs that meet a condition, taken out of a list, leave those that do not. -/
theorem mem_and_not_mem_filter {α : Type} (p : α → Bool) (l : List α) (x : α) : x ∈ l ∧ x ∉ l.filter p ↔ x ∈ l ∧ p x = false := by
  simp +contextual [List.mem_filter]

/-- Plane n is marked as failing. -/
def planeMarked (n : Nat) (s : State) : State := upFab (fun f => { f with planeFail := putBit f.planeFail n true }) s

/-- The last plane goes, and what the failing planes hold ends. -/
def planesGone (s : State) : State := upFab (fun f => { endTlps (heldFails f) f with planes := 0 }) s

theorem mem_endTlps_heldTlps {c : HeldTlp → Bool} {f : Fabric} {x : HeldTlp} :
    x ∈ (endTlps c f).heldTlps ↔ x ∈ f.heldTlps ∧ c x = false := by
  simp [endTlps]

/-- AER reports change nothing of the fabric but the counts of AER. -/
theorem each_aerReport_fab (l : List Nat) (k : Nat) (s : State) :
    ∃ a, (each l (fun q => aerReport q k) s).fab = { s.fab with aer := a } := by
  refine each_keeps (P := fun t => ∃ a, t.fab = { s.fab with aer := a }) (fun q _ t ⟨a, ha⟩ => ?_) ⟨s.fab.aer, rfl⟩
  exact ⟨_, by rw [aerReport, upFab_fab, ha]⟩

section
variable (h : (planesGood s.fab).contains n = true)
include h

theorem exec_planeFault_last (hl : (planesGood s.fab).length = 1) :
    ∃ l, exec (.planeFault n []) s = done (each l (fun q => aerReport q 1) (planesGone (planeMarked n s))) :=
  ⟨_, (when_of_true h _ _).trans (if_pos hl)⟩

variable (hl : (planesGood s.fab).length ≠ 1)
include hl

theorem exec_planeFault_active (ha : ((planesGood s.fab).take 2).contains n = true) :
    exec (.planeFault n []) s = done (planeMarked n s) := (when_of_true h _ _).trans ((if_neg hl).trans (if_pos ha))

theorem exec_planeFault_spare (ha : ((planesGood s.fab).take 2).contains n = false) :
    exec (.planeFault n []) s = done (upFab (fun f => { f with planes := putBit f.planes n false }) (planeMarked n s)) :=
  (when_of_true h _ _).trans ((if_neg hl).trans (if_neg (by simp only [ha]; decide)))

end

/-- The planes that fail and have not been removed yet. -/
def planesFailing (f : Fabric) : List Nat := (bitsOf f.planes).filter (fun n => f.planeFail.getLsbD n)

theorem getLsbD_planesLeft (f : Fabric) (n : Nat) :
    ((planesFailing f).foldl (fun w n => putBit w n false) f.planes).getLsbD n = (f.planes.getLsbD n && !f.planeFail.getLsbD n) := by
  rw [getLsbD_foldl_putBit_false (fun n => n), List.map_id']
  cases hs : f.planes.getLsbD n with
  | false => rfl
  | true => simp [planesFailing, List.mem_filter, mem_bitsOf, hs, BitVec.lt_of_getLsbD hs]

/-- What the failing planes held is delivered, they are removed, and their pairs move. -/
theorem exec_planeFailoverDone (h : planesFailing s.fab ≠ []) :
    ∃ q, exec .planeFailoverDone s = done (upFab (fun f => { deliver (f.heldTlps.filter (heldFails f)) f with
      planes := (planesFailing s.fab).foldl (fun w n => putBit w n false) f.planes
      pinned := q }) s) :=
  ⟨_, when_of_true (decide_eq_true h) _ _⟩

/-! ### The Digest Array -/

/-- What a grant of contexts keeps of the Digest Array. -/
def dgaPart (d : Dga) : BitVec 24 × Bool × Tab (Option DgaCtx) := (d.engines, d.failover, d.ctxs)

theorem dgaGrantOne_part (d : Dga) : dgaPart (dgaGrantOne d) = dgaPart d := by
  unfold dgaGrantOne
  split <;> rfl

theorem dgaNow_part (s : State) : dgaPart (dgaNow s) = dgaPart s.dga := by
  have hgrants : ∀ (l : List DgaOwner) (d : Dga), dgaPart (l.foldl (fun d _ => dgaGrantOne d) d) = dgaPart d := fun l => by
    induction l with
    | nil => exact fun d => rfl
    | cons o l ih => exact fun d => (ih _).trans (dgaGrantOne_part d)
  exact hgrants _ _

theorem dgaServe_part (s : State) : dgaPart (dgaServe s).dga = dgaPart s.dga := dgaNow_part s

/-- A client that goes on without its context leaves the engines and contexts, the Mordant but for its slots, and the fuses. -/
def ClientMoved (s t : State) : Prop := dgaPart t.dga = dgaPart s.dga ∧ unmoved t.mor = unmoved s.mor ∧ t.otp = s.otp

theorem ClientMoved.refl (s : State) : ClientMoved s s := ⟨rfl, rfl, rfl⟩

theorem ClientMoved.trans {s t u : State} (h : ClientMoved s t) (h' : ClientMoved t u) : ClientMoved s u := by
  obtain ⟨hdga, hmor, hotp⟩ := h
  obtain ⟨hdga', hmor', hotp'⟩ := h'
  exact ⟨hdga'.trans hdga, hmor'.trans hmor, hotp'.trans hotp⟩

theorem clientMoved_dgaServe (s : State) : ClientMoved s (dgaServe s) := ⟨dgaServe_part s, by simp, by simp⟩

theorem clientMoved_clearFail (k : Nat) (s : State) : ClientMoved s (clearFail k s) := by
  unfold clearFail setPair
  (repeat' split) <;> exact .refl s

theorem clientMoved_streamGo (k : Nat) (x : Source) (s : State) : ClientMoved s (streamGo k x s) := by
  unfold streamGo
  split
  · exact .refl s
  · refine .trans ?_ (clientMoved_dgaServe _)
    split <;> exact clientMoved_clearFail k s

theorem clientMoved_restartStream (k : Nat) (s : State) : ClientMoved s (restartStream k s) := by
  unfold restartStream
  split
  · refine .trans ?_ (clientMoved_streamGo ..)
    (repeat' split) <;> exact .refl s
  · exact .refl s

theorem clientMoved_foldl {α : Type} {f : State → α → State} (h : ∀ s o, ClientMoved s (f s o)) (l : List α) (s : State) :
    ClientMoved s (l.foldl f s) := by
  induction l generalizing s with
  | nil => exact .refl s
  | cons o l ih => exact (h s o).trans (ih _)

/-- Engine e taken out of service with its contexts, before its clients go on (R466). -/
def engineOut (e : Nat) (s : State) : State :=
  upDga (fun d => { d with
    engines := putBit d.engines e false
    failover := decide (putBit d.engines e false ≠ 0)
    lost := d.lost ++ (tabRange d.ctxs (8 * e) (8 * e + 8)).map (fun c => c.1)
    ctxs := tabClearRange d.ctxs (8 * e) (8 * e + 8)
    units := tabClearRange d.units (8 * e) (8 * e + 8) }) s

theorem clientMoved_dgaRemove (e : Nat) (s : State) : ClientMoved (engineOut e (dgaServe s)) (dgaRemove e s) := by
  refine clientMoved_foldl (fun s o => ?_) _ _
  split
  · exact clientMoved_restartStream _ s
  all_goals exact .refl s

theorem dgaRemove_unmoved (e : Nat) (s : State) : unmoved (dgaRemove e s).mor = unmoved s.mor := by
  obtain ⟨-, hmor, -⟩ := clientMoved_dgaRemove e s
  simpa [engineOut] using hmor

theorem dgaRemove_otp (e : Nat) (s : State) : (dgaRemove e s).otp = s.otp := by
  obtain ⟨-, -, hotp⟩ := clientMoved_dgaRemove e s
  simpa [engineOut] using hotp

theorem dgaServe_engines (s : State) : (dgaServe s).dga.engines = s.dga.engines := congrArg Prod.fst (dgaServe_part s)

theorem dgaRemove_engines (e : Nat) (s : State) : (dgaRemove e s).dga.engines = putBit s.dga.engines e false := by
  obtain ⟨hdga, -⟩ := clientMoved_dgaRemove e s
  exact (congrArg Prod.fst hdga).trans (congrArg (putBit · e false) (dgaServe_engines s))

theorem dgaRemove_ctxs (h : 8 * e ≤ i ∧ i < 8 * e + 8) (s : State) : tabGet none (dgaRemove e s).dga.ctxs i = none := by
  obtain ⟨hdga, -⟩ := clientMoved_dgaRemove e s
  have hctxs : (dgaRemove e s).dga.ctxs = tabClearRange (dgaServe s).dga.ctxs (8 * e) (8 * e + 8) := congrArg (fun d => d.2.2) hdga
  rw [hctxs, tabGet_tabClearRange, if_pos h]

theorem exec_dgaKnownAnswerCheck {ok : Bool} (h : e < 24 ∧ s.dga.engines.getLsbD e = true) (hf : ok = true ∨ s.xip.fill = none)
    (x : Bool) (ks ms : List Nat) : exec (.dgaKnownAnswerCheck e ok ks x ms) s = done (if ok then s else dgaRemove e s) := by
  obtain ⟨he, hs⟩ := h
  refine (when_of_true (by rw [decide_eq_true he, hs]; rfl) _ _).trans ?_
  cases ok with
  | true => rfl
  | false => simp [hf.resolve_left Bool.false_ne_true]

/-! ### Signature Engines -/

theorem sigOf_upSig_self (e : Bool) (f : SigEng → SigEng) (s : State) : sigOf (upSig e f s) e = f (sigOf s e) := by cases e <;> rfl

theorem sigOf_upSig_other (e : Bool) (f : SigEng → SigEng) (s : State) : sigOf (upSig e f s) (!e) = sigOf s (!e) := by cases e <;> rfl

/-- Settles O57, by what each unit's fault and each failover's end does to that unit. -/
theorem unitsFailOver : Obligations.UnitsFailOver := by
  unfold Obligations.UnitsFailOver
  refine ⟨?_, ?_, ?_, ?_, ?_, ?_, ?_, ?_, ?_, ?_, ?_⟩
  · intro b i s h
    have hfab := sliceFault_fab h
    exact ⟨exec_sliceCheck h true, _, exec_sliceCheck h false, congrArg Fabric.sliceFail hfab, congrArg Fabric.slices hfab,
      sliceFault_mor b i s, (congrArg Fabric.eps hfab :)⟩
  · intro b s h
    exact ⟨_, exec_sliceFailoverDone h, rfl, fun i hi => getLsbD_slicesLeft_bay s.fab hi, fun n hn => getLsbD_slicesLeft_other s.fab hn,
      rfl, rfl, rfl, rfl⟩
  · intro n s h
    by_cases hl : (planesGood s.fab).length = 1
    · obtain ⟨l, hexec⟩ := exec_planeFault_last h hl
      obtain ⟨a, hfab⟩ := each_aerReport_fab l 1 (planesGone (planeMarked n s))
      refine ⟨_, hexec, ?_⟩
      simp only [say_fab, say_mor, hfab]
      exact ⟨rfl, fun _ hn => absurd hl hn, fun _ => ⟨rfl, fun x => mem_endTlps_heldTlps⟩, fun hn => absurd hl hn,
        by simp [planesGone, planeMarked], rfl⟩
    · cases ha : ((planesGood s.fab).take 2).contains n with
      | true =>
        exact ⟨_, exec_planeFault_active h hl ha, rfl, fun _ _ => ⟨rfl, rfl⟩, fun hn => absurd hn hl, fun _ hn => (nomatch hn), rfl, rfl⟩
      | false =>
        exact ⟨_, exec_planeFault_spare h hl ha, rfl, fun hn => (nomatch hn), fun hn => absurd hn hl, fun _ _ => ⟨rfl, rfl⟩, rfl, rfl⟩
  · intro s h
    obtain ⟨q, hexec⟩ := exec_planeFailoverDone h
    exact ⟨_, hexec, deliver_planeFail .., getLsbD_planesLeft s.fab,
      fun x => (mem_deliver_heldTlps ..).trans (mem_and_not_mem_filter ..), rfl, deliver_eps ..⟩
  · intro e x ks ms s h
    exact ⟨exec_dgaKnownAnswerCheck h (.inl rfl) x ks ms, fun hf => exec_dgaKnownAnswerCheck h (.inr hf) x ks ms⟩
  · intro e s _
    exact ⟨dgaRemove_engines e s, fun i h1 h2 => dgaRemove_ctxs ⟨h1, h2⟩ s, (congrArg Mordant.lock (dgaRemove_unmoved e s) :),
      (congrArg Mordant.trip (dgaRemove_unmoved e s) :), dgaRemove_otp e s⟩
  · intro s h
    have hpart := dgaServe_part (upDga (fun d => { d with failover := false }) s)
    exact ⟨_, when_of_true h _ _, congrArg (fun d => d.2.1) hpart, congrArg Prod.fst hpart, by simp⟩
  · intro e s h
    exact ⟨when_of_true h _ _, _, when_of_true h _ _, congrArg SigEng.inService (sigOf_upSig_self e _ s),
      congrArg SigEng.failover (sigOf_upSig_self e _ s), sigOf_upSig_other e _ s, by simp⟩
  · exact fun s h => ⟨_, when_of_true h _ _, rfl, rfl, rfl, rfl, rfl⟩
  · exact fun b s h => ⟨_, when_of_true h _ _, rfl, rfl, rfl, rfl⟩
  · exact fun s h => when_of_true h _ _

end Sys2Proof.Machine
end

section
/-!
PROOF. A Boot Record that waits for a Signature Engine failover (R374, R465): the counterexample to the statement of the evidence commands.
-/
namespace Sys2Proof.Machine

open Sys2Proof

/-- While a failover makes the clients of the Signature Engines wait, or no engine is left, no Boot Record is signed (R465, R467). -/
theorem exec_bootRecordSigned_of_not_sigIn {s : State} (h : sigIn s = false) : exec .bootRecordSigned s = notNow s := by
  have hexec : exec .bootRecordSigned s = execBootRecordSigned s := rfl
  rw [hexec, execBootRecordSigned]
  split
  · exact when_of_false (by rw [h, Bool.and_false]) _ _
  · rfl

/-- A bundle whose manifest names no block and no string. -/
def bareBundle : Bundle :=
  ⟨0x57465946, 1, 0, 0, 0, 0, 0, 0, [], [], 0, 0, 0, 0, 0, [], [], true, [], [], [], ⟨.good, .good⟩⟩

/-- Firmware runs with its bundle and policy, the ALIAS keys can be derived, both Signature Engines are in service, and the blocks closed for
the Boot Record are chained: only its signature is to come (R374, step 4). -/
def recordUnsigned : State :=
  { State.reset with
    run := { running0 with policy := some barePolicy, bundle := some bareBundle }
    sc := { sc0 with mainGood := true, pairA := true, running := true }
    kld := { kld0 with svn := some 0, fwid := ⟨(List.range 12).map fun i => (i, some 0)⟩ }
    sig0 := { sigEng0 with inService := true }
    sig1 := { sigEng0 with inService := true }
    ev := { evid0 with brPhase := .closing, brHead := some (1, 1, []) } }

/-- The second engine is removed, as SIG_KNOWN_ANSWER_CHECK does where it fails, and the first is to take over. -/
def engineFailingOver : State := sigRemove true recordUnsigned

/-- Refutes O50: the clause of the Boot Record asks for an engine in service, and leaves out that none may be in a failover. While the first
engine takes over from the second, the record is not signed. -/
theorem not_evidenceCommands : ¬ Obligations.EvidenceCommands := by
  unfold Obligations.EvidenceCommands
  rintro ⟨-, -, -, -, -, hsigned, -⟩
  have hwaits : exec .bootRecordSigned engineFailingOver = .next (say .notNow engineFailingOver) :=
    exec_bootRecordSigned_of_not_sigIn rfl
  obtain ⟨t, ht, hphase, -⟩ := hsigned engineFailingOver barePolicy bareBundle (by decide)
  obtain rfl : say .notNow engineFailingOver = t := Host.Outcome.next.inj (hwaits.symm.trans ht)
  exact absurd hphase (by decide)

end Sys2Proof.Machine
end

section
/-!
PROOF. What leaves the Service Complex and the Signature Engines as they are: the shared operations, and what firmware does when it goes on
after a switch or a restart (R420, R424, R427).
-/
namespace Sys2Proof.Machine

open Sys2Proof

/-- The Service Complex and the Signature Engines. -/
def corePart (s : State) : Sc × SigEng × SigEng := (s.sc, s.sig0, s.sig1)

-- Proved by (rfl), so that simp uses them in a side condition too, where a lemma that holds by rfl leaves no proof term.
@[simp] theorem upMor_corePart (f : Mordant → Mordant) (s : State) : corePart (upMor f s) = corePart s := (rfl)
@[simp] theorem upOtp_corePart (f : Otp → Otp) (s : State) : corePart (upOtp f s) = corePart s := (rfl)
@[simp] theorem upEv_corePart (f : Evid → Evid) (s : State) : corePart (upEv f s) = corePart s := (rfl)
@[simp] theorem upVault_corePart (f : Vault → Vault) (s : State) : corePart (upVault f s) = corePart s := (rfl)
@[simp] theorem upFab_corePart (f : Fabric → Fabric) (s : State) : corePart (upFab f s) = corePart s := (rfl)
@[simp] theorem upNrx_corePart (f : Rings → Rings) (s : State) : corePart (upNrx f s) = corePart s := (rfl)
@[simp] theorem upChan_corePart (k : Nat) (f : Channel → Channel) (s : State) : corePart (upChan k f s) = corePart s := (rfl)
@[simp] theorem upEm_corePart (k : Nat) (f : EmDev → EmDev) (s : State) : corePart (upEm k f s) = corePart s := (rfl)
@[simp] theorem upImg_corePart (k : Nat) (f : Img → Img) (s : State) : corePart (upImg k f s) = corePart s := (rfl)
@[simp] theorem upImgs_corePart (f : Tab Img → Tab Img) (s : State) : corePart (upImgs f s) = corePart s := (rfl)
@[simp] theorem upEp_corePart (j : Nat) (f : Ep → Ep) (s : State) : corePart (upEp j f s) = corePart s := (rfl)
@[simp] theorem dgaServe_corePart (s : State) : corePart (dgaServe s) = corePart s := (rfl)
@[simp] theorem alertBoth_corePart (s : State) : corePart (alertBoth s) = corePart s := (rfl)

@[simp] theorem corePart_ite (c : Prop) [Decidable c] (s t : State) :
    corePart (if c then s else t) = if c then corePart s else corePart t := apply_ite corePart c s t

@[simp] theorem foldl_corePart {α : Type} (l : List α) (f : State → α → State) (s : State)
    (h : ∀ s x, corePart (f s x) = corePart s) : corePart (l.foldl f s) = corePart s := by
  induction l generalizing s with
  | nil => rfl
  | cons x l ih => exact (ih _).trans (h s x)

@[simp] theorem each_corePart (l : List Nat) (f : Nat → State → State) (s : State) (h : ∀ n s, corePart (f n s) = corePart s) :
    corePart (each l f s) = corePart s := foldl_corePart l _ s (fun s n => h n s)

@[simp] theorem emit_corePart (code src : Nat) (body : Bytes) (s : State) : corePart (emit code src body s) = corePart s := by
  simp [emit]

@[simp] theorem gated_corePart (code src : Nat) (body : Bytes) (g : Gate) (eff : State → State) (s : State)
    (h : ∀ s, corePart (eff s) = corePart s) : corePart (gated code src body g eff s) = corePart s := by
  simp [gated, h]

/-! ### Endpoints and domains -/

@[simp] theorem setPair_corePart (k : Nat) (v : BitVec 32) (s : State) : corePart (setPair k v s) = corePart s := by
  simp [setPair]

@[simp] theorem heldRecord_corePart (d cause : Nat) (final : Bool) (s : State) :
    corePart (heldRecord d cause final s) = corePart s := by
  simp [heldRecord, emitFw]

@[simp] theorem domProtoReset_corePart (d : Nat) (s : State) : corePart (domProtoReset d s) = corePart s := by
  unfold domProtoReset
  split <;> simp

@[simp] theorem domUnslot_corePart (d : Nat) (s : State) : corePart (domUnslot d s) = corePart s := by
  simp [domUnslot, clearSlots, imgAgain, epSealIt, linkDrop, endMediation, dropHeld, aerReport]

@[simp] theorem holdDom_corePart (cause : Nat) (final : Bool) (d : Nat) (s : State) :
    corePart (holdDom cause final d s) = corePart s := by
  simp [holdDom, domLost]

@[simp] theorem markFinal_corePart (cause d : Nat) (s : State) : corePart (markFinal cause d s) = corePart s := by
  simp [markFinal]

@[simp] theorem epContain_corePart (f : Causes → Causes) (j : Nat) (s : State) : corePart (epContain f j s) = corePart s := by
  simp [epContain, emitContained, dropHeld, aerReport]

@[simp] theorem epRelease_corePart (d j : Nat) (s : State) : corePart (epRelease d j s) = corePart s := by
  simp [epRelease, epOpen, startRecheck]

@[simp] theorem cascade_corePart (n : Nat) (s : State) : corePart (cascade n s) = corePart s := by
  induction n generalizing s with
  | zero => rfl
  | succ n ih => simp [cascade, ih]

@[simp] theorem interlock_corePart (n : Nat) (s : State) : corePart (interlock n s) = corePart s := by
  induction n generalizing s with
  | zero => rfl
  | succ n ih => simp [interlock, releaseDom, ih]

@[simp] theorem finalCascade_corePart (n : Nat) (s : State) : corePart (finalCascade n s) = corePart s := by
  induction n generalizing s with
  | zero => rfl
  | succ n ih => simp [finalCascade, ih]

@[simp] theorem vatRelease_corePart (s : State) : corePart (vatRelease s) = corePart s :=
  each_corePart _ _ s (fun j s => by split <;> simp)

@[simp] theorem recheckGo_corePart (s : State) : corePart (recheckGo s) = corePart s := by
  simp [recheckGo, epRecheck, emitContained, dropHeld, aerReport, startRecheck]

/-! ### The Vault, and what follows an event -/

@[simp] theorem vaultSet_corePart (st : VaultState) (code cause : Nat) (s : State) :
    corePart (vaultSet st code cause s) = corePart s := by
  simp [vaultSet]

@[simp] theorem nvmeDrop_corePart (s : State) : corePart (nvmeDrop s) = corePart s :=
  foldl_corePart _ _ _ (fun s c => by
    split
    · unfold lateAnswer
      split <;> rfl
    · rfl)

@[simp] theorem settle_corePart (s : State) : corePart (settle s) = corePart s := by
  simp [settle, vioHold, vatWithdraw, epUnvat, linkDrop, vatGrant, phaseStep, vaultSync, nvmeIssue, brClose, highAlert]

@[simp] theorem debugGo_corePart (s : State) : corePart (debugGo s) = corePart s := by
  simp [debugGo, debugOpen]

/-! ### Journaled ring commands -/

@[simp] theorem fwAdvance_corePart (k n : Nat) (s : State) : corePart (fwAdvance k n s) = corePart s := by
  induction n generalizing s with
  | zero => rfl
  | succ n ih =>
    unfold fwAdvance
    dsimp only
    (repeat' split) <;> simp [ih]

@[simp] theorem grantEnd_corePart (s : State) : corePart (grantEnd s) = corePart s := by
  unfold grantEnd
  split
  · rfl
  · exact fwAdvance_corePart ..

@[simp] theorem capsulesEnd_corePart (q : Nat → Nat → Bool) (s : State) : corePart (capsulesEnd q s) = corePart s := by
  unfold capsulesEnd
  dsimp only
  (repeat' split)
  · exact grantEnd_corePart _
  · rfl
  · rfl

@[simp] theorem ringGone_corePart (p g : Nat) (s : State) : corePart (ringGone p g s) = corePart s := by
  simp [ringGone, ringDies, ringsDie]

@[simp] theorem ringDestroy_corePart (p g : Nat) (d : Option (Nat × Nat)) (s : State) : corePart (ringDestroy p g d s) = corePart s := by
  simp [ringDestroy, ringDestroyed, ringUnsubmit, upRing]

/-- The effect of a journaled ring command (R420) is one on the rings, their objects and the capsules. -/
@[simp] theorem jobEffect_corePart (j : RingCmd) (s : State) : corePart (jobEffect j s).1 = corePart s := by
  unfold jobEffect
  (repeat' split) <;> simp [ledgerExtend, counterIncrement, ringCreate, upRing, quotaSet, objRelease, objAlloc]

theorem applyNext_corePart (s : State) : corePart (applyNext s) = corePart s := by
  unfold applyNext
  split <;> simp

theorem ringResume_corePart (s : State) : corePart (ringResume s) = corePart s := by
  simp [ringResume, batchClose, applyAll, applyNext_corePart]

/-! ### Records, escalations and packets that have waited for firmware -/

theorem resubmitAll_corePart (s : State) : corePart (resubmitAll s) = corePart s := by
  simp [resubmitAll]

@[simp] theorem tripGate_corePart (s : State) : corePart (tripGate s) = corePart s := by
  simp [tripGate]

@[simp] theorem tripDom_corePart (d : Nat) (s : State) : corePart (tripDom d s) = corePart s := by
  simp [tripDom]

@[simp] theorem escalateNow_corePart (trip src scope : Nat) (doms : List Nat) (s : State) :
    corePart (escalateNow trip src scope doms s) = corePart s := by
  unfold escalateNow
  split <;> simp [custodyTrip]

@[simp] theorem updateRecords_corePart (j port n : Nat) (l : List MedComp) (s : State) :
    corePart (updateRecords j port (activateReady port) n l s) = corePart s := by
  induction n generalizing l s with
  | zero => rfl
  | succ n ih => simp [updateRecords, activateReady, upMed, ih]

@[simp] theorem medRecords_corePart (j port : Nat) (s : State) : corePart (medRecords j port s) = corePart s := by
  unfold medRecords
  split <;> simp [upMed]

@[simp] theorem medTrack_corePart (j : Nat) (m : MedPkt) (s : State) : corePart (medTrack j m s) = corePart s := by
  unfold medTrack
  split <;> simp [upMed]

theorem medOne_corePart (m : MedPkt) (s : State) : corePart (medOne m s).1 = corePart s := by
  unfold medOne medHandle medForward forwardTlp
  (repeat' split) <;> simp [medEnq, dispatchTlp, aerReport]

/-- Packets taken one after another move nothing of the Service Complex. -/
theorem medResume_corePart (s : State) : corePart (medResume s).1 = corePart s := by
  have hfold : ∀ (l : List MedPkt) (a : State × List MedReply),
      corePart (l.foldl (fun a m => ((medOne m a.1).1, a.2 ++ (medOne m a.1).2)) a).1 = corePart a.1 := fun l => by
    induction l with
    | nil => exact fun a => rfl
    | cons m l ih => exact fun a => (ih _).trans (medOne_corePart m a.1)
  exact hfold _ _

theorem tempAlert_corePart (s : State) : corePart (tempAlert s) = corePart s := by
  unfold tempAlert
  split <;> rfl

theorem holdFinal_corePart (cause d : Nat) (s : State) : corePart (holdFinal cause d s) = corePart s := by
  simp [holdFinal]

/-! ### Firmware goes on -/

/-- The pairs and whether firmware runs on one of them, which a trap and the escalations still to be raised are no part of. -/
def pairPart (c : Sc) : Bool × Bool × Bool × Bool × Bool × Bool :=
  (c.pairA, c.pairB, c.active, c.switching, c.running, c.restartDue)

theorem escalateAll_sc (s : State) : (escalateAll s).sc = { s.sc with escalations := [] } :=
  congrArg Prod.fst (foldl_corePart s.sc.escalations _ (upSc (fun c => { c with escalations := [] }) s) (fun _ _ => escalateNow_corePart ..))

theorem lakeOutHold_pairPart (s : State) : pairPart (lakeOutHold s).sc = pairPart s.sc := by
  unfold lakeOutHold mordantWrite
  dsimp only
  split
  · split
    · exact congrArg (fun c => pairPart c.1) (each_corePart _ _ s (holdFinal_corePart 12))
    · rfl
  · rfl

/-- Firmware goes on, on the pair that is left, with the records, escalations and packets that have waited (R389, R424, R470). -/
def goesOn (s : State) : State := tempAlert (settle (medResume (lakeOutHold (escalateAll (resubmitAll s)))).1)

theorem goesOn_pairPart (s : State) : pairPart (goesOn s).sc = pairPart s.sc := by
  have hlast (u : State) : corePart (tempAlert (settle (medResume u).1)) = corePart u := by
    rw [tempAlert_corePart, settle_corePart, medResume_corePart]
  calc pairPart (goesOn s).sc
    _ = pairPart (lakeOutHold (escalateAll (resubmitAll s))).sc := congrArg (fun c => pairPart c.1) (hlast _)
    _ = pairPart (escalateAll (resubmitAll s)).sc := lakeOutHold_pairPart _
    _ = pairPart (resubmitAll s).sc := by rw [escalateAll_sc]; rfl
    _ = pairPart s.sc := congrArg (fun c => pairPart c.1) (resubmitAll_corePart s)

theorem goesOn_sc (s : State) : (goesOn s).sc.pairA = s.sc.pairA ∧ (goesOn s).sc.pairB = s.sc.pairB ∧
    (goesOn s).sc.active = s.sc.active ∧ (goesOn s).sc.switching = s.sc.switching ∧ (goesOn s).sc.running = s.sc.running ∧
    (goesOn s).sc.restartDue = s.sc.restartDue := by
  simpa only [pairPart, Prod.mk.injEq] using goesOn_pairPart s

theorem goesOn_words (s : State) : (goesOn s).otp.words = s.otp.words := by
  simp [goesOn, lakeOutHold_otp]

end Sys2Proof.Machine
end

section
/-!
PROOF. The core pairs, S events, SC_SRAM_WP and the SIC (R423 to R436).
-/
namespace Sys2Proof.Machine

open Sys2Proof

/-! ### An S event -/

/-- A forced re-key writes the evidence, the Vault with the images it streams, and the numbers of the sealed blobs (R367). -/
def RekeyOnly (s t : State) : Prop :=
  ∃ e v i a b, t = { s with ev := e, vault := v, imgs := i, nrx := { s.nrx with sealNo := a, sealEnd := b } }

theorem RekeyOnly.trans {s t u : State} (h : RekeyOnly s t) (h' : RekeyOnly t u) : RekeyOnly s u := by
  obtain ⟨e, v, i, a, b, rfl⟩ := h
  obtain ⟨e', v', i', a', b', rfl⟩ := h'
  exact ⟨e', v', i', a', b', rfl⟩

theorem rekeyOnly_upEv (f : Evid → Evid) (s : State) : RekeyOnly s (upEv f s) :=
  ⟨f s.ev, s.vault, s.imgs, s.nrx.sealNo, s.nrx.sealEnd, rfl⟩

theorem rekeyOnly_upVault (f : Vault → Vault) (s : State) : RekeyOnly s (upVault f s) :=
  ⟨s.ev, f s.vault, s.imgs, s.nrx.sealNo, s.nrx.sealEnd, rfl⟩

theorem rekeyOnly_refl (s : State) : RekeyOnly s s := rekeyOnly_upEv id s

theorem rekeyOnly_emit (code src : Nat) (body : Bytes) (s : State) : RekeyOnly s (emit code src body s) := by
  unfold emit
  split <;> exact rekeyOnly_upEv _ s

theorem rekeyOnly_vaultSet (code cause : Nat) (s : State) : RekeyOnly s (vaultSet .readOnly code cause s) :=
  (rekeyOnly_upVault _ s).trans (rekeyOnly_emit ..)

theorem rekeyOnly_brClose (s : State) : RekeyOnly s (brClose s) := by
  unfold brClose
  split
  · exact rekeyOnly_upEv _ s
  · exact rekeyOnly_refl s

theorem rekeyOnly_rekey (s : State) : RekeyOnly s (rekey s) := by
  unfold rekey
  dsimp only
  split
  · split
    · exact (rekeyOnly_upEv _ s).trans (rekeyOnly_vaultSet ..)
    · exact rekeyOnly_upEv _ s
  · exact .trans ⟨_, _, s.imgs, 0, 0, rfl⟩ (rekeyOnly_brClose _)

theorem rekeyOnly_blockNoLimit (s : State) : RekeyOnly s (blockNoLimit s) := by
  unfold blockNoLimit
  split
  · exact rekeyOnly_rekey s
  · exact rekeyOnly_refl s

theorem rekeyOnly_sEvent (s : State) : RekeyOnly (sState s) (sEvent s) := rekeyOnly_blockNoLimit _

/-- An S event stops firmware (R104). -/
theorem sEvent_running (s : State) : (sEvent s).sc.running = false := by
  obtain ⟨e, v, i, a, b, h⟩ := rekeyOnly_sEvent s
  rw [h]
  rfl

/-! ### The pairs -/

theorem say_sc (r : Reply) (s : State) : (say r s).sc = s.sc := rfl

section
variable {s : State}

theorem exec_lockstepMismatch_spare (hr : pairRuns s = true) (ha : s.sc.pairA = true) (hb : s.sc.pairB = true) :
    exec .lockstepMismatch s =
      done (upSc (fun c => { c with pairA := c.active, pairB := !c.active, active := !c.active, switching := true }) s) :=
  (when_of_true hr _ _).trans (if_pos (by rw [ha, hb]; rfl))

theorem exec_lockstepMismatch_last (hr : pairRuns s = true) (hp : (s.sc.pairA && s.sc.pairB) = false) :
    exec .lockstepMismatch s = done (sEvent s) :=
  (when_of_true hr _ _).trans (if_neg (by simp only [hp]; decide))

theorem exec_spareMismatch (hr : pairRuns s = true) (ha : s.sc.pairA = true) (hb : s.sc.pairB = true) :
    exec .spareMismatch s = done (upSc (fun c => { c with pairA := !c.active, pairB := c.active }) s) :=
  when_of_true (by rw [hr, ha, hb]; rfl) _ _

theorem exec_scResetWrite_key (hc : coreRuns s = true) : exec (.scResetWrite 0x53435253) s = done (sEvent s) :=
  (when_of_true hc _ _).trans (if_pos rfl)

theorem exec_scResetWrite_other (hc : coreRuns s = true) {v : BitVec 32} (hv : v ≠ 0x53435253) :
    exec (.scResetWrite v) s = done s :=
  (when_of_true hc _ _).trans (if_neg hv)

theorem exec_pairSwitchDone (h : s.sc.switching = true) :
    ∃ r, exec .pairSwitchDone s = answer r (goesOn (upSc (fun c => { c with switching := false }) s)) :=
  ⟨_, when_of_true h _ _⟩

/-- The end of a switch (R424): the pairs stay as they are, and no fuse is burned. -/
theorem exec_pairSwitchDone_leaves (h : s.sc.switching = true) : ∃ t, exec .pairSwitchDone s = .next t ∧ t.sc.switching = false ∧
    t.sc.pairA = s.sc.pairA ∧ t.sc.pairB = s.sc.pairB ∧ t.sc.active = s.sc.active ∧ t.otp.words = s.otp.words := by
  obtain ⟨r, hexec⟩ := exec_pairSwitchDone h
  obtain ⟨ha, hb, hactive, hswitching, -⟩ := goesOn_sc (upSc (fun c => { c with switching := false }) s)
  refine ⟨_, hexec, ?_⟩
  rw [say_sc, say_otp]
  exact ⟨hswitching, ha, hb, hactive, goesOn_words _⟩

variable {a b : Bool} (hg : s.sc.mainGood = true) (hd : s.sc.restartDue = true) (hr : s.sc.running = false)

/-- The pairs after their checks, with the results a and b, and firmware on one that passed (R426, R427). -/
def pairsChecked (a b runs : Bool) (s : State) : State :=
  let a := s.sc.pairA && a
  let b := s.sc.pairB && b
  upSc (fun c => { c with pairA := a, pairB := b, active := !a && b, restartDue := false, running := (a || b) && runs }) s

theorem pairsChecked_of_none (hr : s.sc.running = false) (ha : (s.sc.pairA && a) = false) (hb : (s.sc.pairB && b) = false) (runs : Bool) :
    pairsChecked a b runs s = upSc (fun c => { c with pairA := false, pairB := false, active := false, restartDue := false }) s := by
  simp [pairsChecked, upSc, ha, hb, hr]

section
include hg hd hr

theorem exec_firmwareRestart_none (hp : ((s.sc.pairA && a) || (s.sc.pairB && b)) = false) :
    exec (.firmwareRestart a b) s = done (pairsChecked a b (restartsFirmware s) s) :=
  (when_of_true (by rw [hg, hd, hr]; rfl) _ _).trans (if_pos (by simp only [hp]; decide))

theorem exec_firmwareRestart_some (hp : ((s.sc.pairA && a) || (s.sc.pairB && b)) = true) (hf : restartsFirmware s = true) :
    ∃ r, exec (.firmwareRestart a b) s = answer r (goesOn (ringResume (pairsChecked a b (restartsFirmware s) s))) :=
  ⟨_, (when_of_true (by rw [hg, hd, hr]; rfl) _ _).trans ((if_neg (by simp only [hp]; decide)).trans (if_pos hf))⟩

/-- A restart that firmware meets (R427): it runs where a pair in service has passed its check. -/
theorem exec_firmwareRestart_pairs (hf : restartsFirmware s = true) : ∃ t, exec (.firmwareRestart a b) s = .next t ∧
    t.sc.pairA = (s.sc.pairA && a) ∧ t.sc.pairB = (s.sc.pairB && b) ∧
    t.sc.running = ((s.sc.pairA && a) || (s.sc.pairB && b)) ∧ t.sc.restartDue = false := by
  have hruns : (pairsChecked a b (restartsFirmware s) s).sc.running = ((s.sc.pairA && a) || (s.sc.pairB && b)) := by
    simp [pairsChecked, hf]
  cases hp : (s.sc.pairA && a) || (s.sc.pairB && b) with
  | false => exact ⟨_, exec_firmwareRestart_none hg hd hr hp, rfl, rfl, hruns.trans hp, rfl⟩
  | true =>
    obtain ⟨r, hexec⟩ := exec_firmwareRestart_some hg hd hr hp hf
    have hsc : (ringResume (pairsChecked a b (restartsFirmware s) s)).sc = (pairsChecked a b (restartsFirmware s) s).sc :=
      congrArg Prod.fst (ringResume_corePart _)
    obtain ⟨ha, hb, -, -, hgoes, hdue⟩ := goesOn_sc (ringResume (pairsChecked a b (restartsFirmware s) s))
    rw [hsc] at ha hb hgoes hdue
    refine ⟨_, hexec, ?_⟩
    rw [say_sc]
    exact ⟨ha, hb, hgoes.trans (hruns.trans hp), hdue⟩

end
end

/-- Settles O25, by the lemmas of each command on the pairs. -/
theorem corePairs : Obligations.CorePairs := by
  unfold Obligations.CorePairs
  refine ⟨?_, ?_, ?_, ?_, ?_, ?_⟩
  · exact fun s ⟨hr, _, ha, hb⟩ => exec_lockstepMismatch_spare hr ha hb
  · intro s ⟨hr, _, hp⟩
    obtain ⟨e, v, i, a, b, h⟩ := rekeyOnly_sEvent s
    refine ⟨_, exec_lockstepMismatch_last hr hp, ?_⟩
    rw [h]
    exact ⟨rfl, rfl, fun _ => rfl, rfl, rfl, rfl, rfl, rfl, rfl⟩
  · exact fun s ⟨hr, ha, hb⟩ => exec_spareMismatch hr ha hb
  · intro s hc
    obtain ⟨e, v, i, a, b, h⟩ := rekeyOnly_sEvent s
    refine ⟨⟨_, exec_scResetWrite_key hc, ?_⟩, fun v hv => exec_scResetWrite_other hc hv⟩
    rw [h]
    exact ⟨rfl, fun _ => rfl, rfl, rfl, rfl, rfl, rfl, rfl⟩
  · exact fun a b s ⟨hg, hd, hr, hf⟩ => exec_firmwareRestart_pairs hg hd hr hf
  · intro s h
    obtain ⟨t, hexec, hswitching, ha, hb, -, hwords⟩ := exec_pairSwitchDone_leaves h
    exact ⟨t, hexec, hswitching, ha, hb, hwords⟩

/-- Settles O26, by the lemmas of each command on the pairs, and for a register by what was written before. -/
theorem coreRegistersAndInterrupts : Obligations.CoreRegistersAndInterrupts := by
  unfold Obligations.CoreRegistersAndInterrupts
  refine ⟨?_, ?_, ?_, ?_, ?_, ?_, ?_, ?_, ?_, ?_, ?_, ?_, ?_⟩
  · intro l s ⟨hc, hn, hl⟩
    exact (when_of_true hc _ _).trans (if_pos (by simp [hn, hl]))
  · intro l s ⟨hc, h⟩
    refine (when_of_true hc _ _).trans (if_neg ?_)
    rcases h with h | h
    · simp [Option.ne_none_iff_isSome.2 h]
    · simp [h]
  · exact fun s hc => when_of_true hc _ _
  · exact fun n v s hc => when_of_true hc _ _
  · intro s ⟨hc, h⟩
    exact when_of_true (by simp [hc, sicInt, h]) _ _
  · intro src s ⟨hg, hsrc⟩
    have hwakes : (s.sc.mainGood && decide (src < 480)) = true := by simp [hg, hsrc]
    exact ⟨⟨_, when_of_true hwakes _ _, rfl, rfl, rfl, rfl⟩, when_of_true hwakes _ _⟩
  · exact fun s ⟨hr, ha, hb⟩ => exec_lockstepMismatch_spare hr ha hb
  · exact fun s ⟨hr, hp⟩ => ⟨exec_lockstepMismatch_last hr hp, sEvent_running s⟩
  · exact fun s ⟨hr, ha, hb⟩ => exec_spareMismatch hr ha hb
  · intro s h
    obtain ⟨t, hexec, hswitching, ha, hb, hactive, -⟩ := exec_pairSwitchDone_leaves h
    exact ⟨t, hexec, hswitching, ha, hb, hactive⟩
  · exact fun v s hc => ⟨exec_scResetWrite_key hc, exec_scResetWrite_other hc⟩
  · exact fun a b s ⟨hg, hd, hr, hf⟩ => exec_firmwareRestart_pairs hg hd hr hf
  · intro a b s ⟨hg, hd, hr, ha, hb⟩
    rw [exec_firmwareRestart_none hg hd hr (by rw [ha, hb]; rfl), pairsChecked_of_none hr ha hb]
    rfl

end Sys2Proof.Machine
end

section
/-!
PROOF. The contexts of the core (R445 to R450).
-/
namespace Sys2Proof.Machine

open Sys2Proof

theorem ctxCompare_eq_one_iff (x e : Bytes) (b : BitVec 2) : ctxCompare x e b = 1 ↔ b = 0 ∧ fit 64 e ≠ fit 64 x := by
  have hrails : ∀ (c : Bool) (b : BitVec 2), (if b = 3 then 0 else (if c then 2 else 1) ^^^ b) = (1 : BitVec 2) ↔ b = 0 ∧ c = false := by
    decide
  simpa [ctxCompare] using hrails (decide (fit 64 e = fit 64 x)) b

/-- An access to a context that the core owns changes that context. -/
theorem dgaAccess_of_some {s : State} {c : Nat} {x : DgaCtx} (h : tabGet none s.dga.ctxs c = some x) (f : DgaCtx → Option DgaCtx) :
    dgaAccess c f s = done (upDga (fun d => { d with ctxs := tabSet none d.ctxs c (f x) }) s) := by
  rw [dgaAccess, h]

/-- An access to a context that the core does not own is a bus error (R447). -/
theorem dgaAccess_of_none {s : State} {c : Nat} (h : tabGet none s.dga.ctxs c = none) (f : DgaCtx → Option DgaCtx) :
    dgaAccess c f s = busError (upDga (fun d => { d with lost := d.lost.filter (fun x => decide (x ≠ c)) }) s) := by
  rw [dgaAccess, h]

theorem ctxRestart_of_open {x : DgaCtx} (h : x.finished = false) : ctxRestart x = x := if_neg (by simp [h])

theorem ctxRestart_of_done {x : DgaCtx} (h : x.finished = true) : ctxRestart x = ⟨x.alg, false, [], [], x.expect, 0⟩ := if_pos h

section
variable {s : State} {x y : DgaCtx} (hc : coreRuns s = true) (hx : tabGet none s.dga.ctxs s.dga.sel = some x) (hy : ctxRestart x = y)
include hc hx hy

/-- Four bytes go to the selected context, from the start of a new message where it was DONE (R448). -/
theorem exec_dgaDataWrite (w : BitVec 32) : exec (.dgaDataWrite w) s = done (upDga (fun d => { d with
    ctxs := tabSet none d.ctxs s.dga.sel (some { y with data := y.data ++ le 4 w.toNat }) }) s) := by
  subst hy
  exact (when_of_true hc _ _).trans (dgaAccess_of_some hx _)

/-- The final bytes go to the selected context, which is DONE with its digest and compare (R448, R450). -/
theorem exec_dgaLastWrite (w : DgaLast) : exec (.dgaLastWrite w) s = done (upDga (fun d => { d with
    ctxs := tabSet none d.ctxs s.dga.sel (some { y with
      finished := true
      data := y.data ++ (le 4 w.word.toNat).take s.dga.lastCnt
      digest := digestOf y.alg (y.data ++ (le 4 w.word.toNat).take s.dga.lastCnt)
      cmp := ctxCompare (digestOf y.alg (y.data ++ (le 4 w.word.toNat).take s.dga.lastCnt)) y.expect w.badRails }) }) s) := by
  subst hy
  exact (when_of_true hc _ _).trans (dgaAccess_of_some hx _)

end

/-- What the core sees of its open and its contexts. -/
def coreView (d : Dga) : Bool × Bool × Nat × Nat × Tab (Option DgaCtx) := (d.granted, d.pending, d.openCtx, d.openAlg, d.ctxs)

theorem dgaGrantOne_coreView (d : Dga) : coreView (dgaGrantOne d) = coreView d := by
  unfold dgaGrantOne
  split <;> rfl

/-- Grants to the hardware clients change nothing that the core sees. -/
theorem dgaNow_coreView (s : State) : coreView (dgaNow s) = coreView s.dga :=
  List.foldlRecOn (motive := fun d => coreView d = coreView s.dga) (dgaSweep s).waits _ rfl
    (fun d h _ _ => (dgaGrantOne_coreView d).trans h)

/-- The core's open, granted slot c (R445): the context is new, with the algorithm that was asked for, and the others are as they were. -/
theorem coreView_dgaOpenCore (c : Nat) (s : State) : coreView (dgaOpenCore c (dgaNow s)) =
    (true, false, c, s.dga.openAlg, tabSet none s.dga.ctxs c (some ⟨s.dga.openAlg, false, [], [], [], 0⟩)) := by
  have hview := dgaNow_coreView s
  have halg : (dgaNow s).openAlg = s.dga.openAlg := congrArg (fun v => v.2.2.2.1) hview
  have hctxs : (dgaNow s).ctxs = s.dga.ctxs := congrArg (fun v => v.2.2.2.2) hview
  simp [coreView, dgaOpenCore, halg, hctxs]

theorem say_dgaServe_upDga (r : Reply) (f : Dga → Dga) (s : State) :
    say r (dgaServe (upDga f s)) = { s with dga := (dgaServe (upDga f s)).dga, reply := r } := rfl

theorem exec_dgaOpenGrant {s : State} {c : Nat} (hp : (dgaNow s).pending = true) (hn : dgaNext (dgaNow s) = some .core)
    (hc : dgaPlace (dgaNow s) = some c) :
    exec .dgaOpenGrant s = done (dgaServe (upDga (fun _ => dgaOpenCore c (dgaNow s)) s)) := by
  have hexec : exec .dgaOpenGrant s = execDgaOpenGrant s := rfl
  rw [hexec, execDgaOpenGrant, hc]
  exact when_of_true (by rw [hp, decide_eq_true hn]; rfl) _ _

/-- Settles O28, by whether the core owns the context and whether that is DONE, and for an open by the grant that comes to it. -/
theorem digestContexts : Obligations.DigestContexts := by
  unfold Obligations.DigestContexts
  refine ⟨?_, ?_, ?_, ?_, ?_, ?_, ?_, ?_, ?_, ?_, ?_⟩
  · intro a s ⟨hc, hp, ha⟩
    exact (when_of_true hc _ _).trans ((if_neg (by simp [hp])).trans (if_pos ha))
  · intro a s ⟨hc, hp, ha⟩
    exact (when_of_true hc _ _).trans ((if_neg (by simp [hp])).trans (if_neg (by omega)))
  · intro s c ⟨hp, hn, hc⟩
    have hview := (dgaNow_coreView (upDga (fun _ => dgaOpenCore c (dgaNow s)) s)).trans (coreView_dgaOpenCore c s)
    simp only [coreView, Prod.mk.injEq] at hview
    obtain ⟨hgranted, hpending, hctx, -, hctxs⟩ := hview
    refine ⟨_, exec_dgaOpenGrant hp hn hc, hgranted, hpending, hctx, ?_, fun x hx => ?_, say_dgaServe_upDga ..⟩
    · exact (congrArg (fun t => tabGet none t c) hctxs).trans (tabGet_tabSet_self ..)
    · exact (congrArg (fun t => tabGet none t x) hctxs).trans (tabGet_tabSet_ne _ _ _ _ _ hx)
  · exact fun w s x ⟨hc, hx, hf⟩ => exec_dgaDataWrite hc hx (ctxRestart_of_open hf) w
  · exact fun w s x ⟨hc, hx, hf⟩ => exec_dgaLastWrite hc hx (ctxRestart_of_open hf) w
  · exact fun w s x ⟨hc, hx, hf⟩ => exec_dgaDataWrite hc hx (ctxRestart_of_done hf) w
  · rintro w s x m ⟨hc, hx, hf, rfl⟩
    exact exec_dgaLastWrite hc hx (ctxRestart_of_done hf) w
  · exact fun d e r => ⟨ctxCompare_eq_two_iff d e r, ctxCompare_eq_one_iff d e r⟩
  · intro c s ⟨hc, hx⟩
    obtain ⟨x, hx⟩ := Option.isSome_iff_exists.1 hx
    exact (when_of_true hc _ _).trans (dgaAccess_of_some hx _)
  · intro i w s x ⟨hc, hx⟩
    exact (when_of_true hc _ _).trans (dgaAccess_of_some hx _)
  · intro c w s ⟨hc, hclose, hdata⟩
    exact ⟨⟨_, (when_of_true hc _ _).trans (dgaAccess_of_none hclose _), rfl, rfl, rfl⟩,
      ⟨_, (when_of_true hc _ _).trans (dgaAccess_of_none hdata _), rfl, rfl, rfl⟩⟩

end Sys2Proof.Machine
end

section
/-!
PROOF. The end of a Signature Engine operation (R453 to R455).
-/
namespace Sys2Proof.Machine

open Sys2Proof

section
variable {s : State} {e : Bool} {o : SigOp} {rails : BitVec 2} {v : Bool}

theorem sigOf_say (r : Reply) (s : State) (e : Bool) : sigOf (say r s) e = sigOf s e := rfl

/-- The operation of engine e's port can complete: no failover makes it wait, its key is not withheld, it has begun, and the random source
runs where it needs it (R155, R454, R459, R465). -/
def sigEnds (s : State) (e : Bool) (o : SigOp) : Bool :=
  !(sigOf s e).failover && !(sigOf s !e).failover && !(o.held && keysHeld s) && (o.started || coreTurn s e) && !sigWaitsRng s o.op

theorem sigEnds_iff : sigEnds s e o = true ↔ (sigOf s e).failover = false ∧ (sigOf s (!e)).failover = false ∧
    (o.held = true → keysHeld s = false) ∧ (o.started = true ∨ coreTurn s e = true) ∧
    (s.kld.rngFail = true → o.op ≠ 8 ∧ o.op ≠ 9 ∧ o.op ≠ 10) := by
  simp [sigEnds, sigWaitsRng, and_assoc, imp_iff_not_or]

theorem sigEnds_of_started (hf : (sigOf s e).failover = false) (hf' : (sigOf s (!e)).failover = false) (hheld : o.held = false)
    (hstarted : o.started = true) (hrng : sigWaitsRng s o.op = false) : sigEnds s e o = true := by
  simp [sigEnds, hf, hf', hheld, hstarted, hrng]

theorem sigServer_self (h : (sigOf s e).inService = true) : sigServer s e = some e := if_pos h

theorem sigServer_isSome (h : (sigOf s e).inService = true ∨ (sigOf s (!e)).inService = true) : ∃ v, sigServer s e = some v := by
  by_cases he : (sigOf s e).inService = true
  · exact ⟨e, sigServer_self he⟩
  · exact ⟨!e, (if_neg he).trans (if_pos (h.resolve_left he))⟩

/-- The engine that served a verify whose rails are no result is removed, and the operation stays on its port (R455, R465). -/
theorem sigOf_sigRemove_railFault (r : Reply) (e : Bool) (s : State) :
    sigOf (say r (sigRemove e (upSig e (fun g => { g with railFault := true }) s))) e =
      { sigOf s e with railFault := true, inService := false, failover := (sigOf s !e).inService } := by
  rw [sigOf_say, sigRemove, sigOf_upSig_self, sigOf_upSig_self, sigOf_upSig_other]

theorem sigIsVerify_of_sigOutput {x : Nat × Nat} (h : sigOutput o = some x) : sigIsVerify o.op = false := by
  unfold sigOutput at h
  split at h <;> simp_all [sigIsVerify]

theorem sigWaitsRng_of_verify (h : sigIsVerify o.op = true) : sigWaitsRng s o.op = false := by
  simp only [sigIsVerify, List.contains_iff_mem, List.mem_cons, List.not_mem_nil, or_false] at h
  rcases h with h | h | h | h <;> simp [sigWaitsRng, h]

/-- ECDSA writes its 96 bytes at SIG_SIG. -/
theorem sigOutput_ecdsaSign (h : o.op = 2) : sigOutput o = some (o.sig, 96) := by
  rw [sigOutput, h]
  rfl

/-- The operation is over and its output of n bytes is written at a: made with the ALIAS key where it names that key, and free otherwise. -/
def sigWritten (s : State) (e : Bool) (o : SigOp) (a n : Nat) : State :=
  drawn (sramWrite a (fit n (if usesAlias o.op o.keySrc then signedBy (aliasKey s (sigIsMlDsa o.op)) (sigMessage s o) s.freeCtr
      else freeBytes s.freeCtr))
    (upSig e (fun g => { g with busy := none, kemKey := if o.op = 9 then some s.freeCtr else g.kemKey }) s))

theorem sigWritten_ecdsaSign (h : o.op = 2) (a n : Nat) : sigWritten s false o a n =
    drawn (sramWrite a (fit n (if o.keySrc = 16 then signedBy (aliasKey s false) (sigMessage s o) s.freeCtr else freeBytes s.freeCtr))
      { s with sig0 := { s.sig0 with busy := none } }) := by
  simp [sigWritten, h, usesAlias, sigIsMlDsa, upSig]

section
variable (hb : (sigOf s e).busy = some o) (hv : sigServer s e = some v) (hends : sigEnds s e o = true)
include hb hv hends

/-- A verify ends with the result of its rails, if they are one of the two results (R455). -/
theorem exec_sigOpDone_verify (hop : sigIsVerify o.op = true) : exec (.sigOpDone e rails) s =
    if rails = 2 ∨ rails = 1 then done (upSig e (fun g => { g with busy := none, result := rails, railFault := false }) s)
    else done (sigRemove v (upSig e (fun g => { g with railFault := true }) s)) := by
  have hexec : exec (.sigOpDone e rails) s = execSigOpDone e rails s := rfl
  rw [hexec, execSigOpDone, hb, hv]
  exact (when_of_true hends _ _).trans (if_pos hop)

/-- An operation with an output writes it at its place, and goes through where that is outside the protected region (R428, R453). -/
theorem exec_sigOpDone_output {a n : Nat} (ho : sigOutput o = some (a, n)) :
    exec (.sigOpDone e rails) s = sramDone [(a, n)] s (debugGo (sigWritten s e o a n)) := by
  have hexec : exec (.sigOpDone e rails) s = execSigOpDone e rails s := rfl
  rw [hexec, execSigOpDone, hb, hv]
  refine (when_of_true hends _ _).trans ((if_neg (by simp [sigIsVerify_of_sigOutput ho])).trans ?_)
  simp only [ho]
  rfl

end

theorem sramDone_of_outside {a n : Nat} (h : sramHits s a n = false) (t : State) : sramDone [(a, n)] s t = done t :=
  if_neg (by simp [h])

theorem sramDone_of_inside {a n : Nat} (h : sramHits s a n = true) (t : State) : sramDone [(a, n)] s t = answer .busError t :=
  if_pos (by simp [h])

theorem debugGo_of_noWait {u : State} (h : u.otp.debugWait = []) : debugGo u = u := if_pos (.inl h)

/-- Bytes written to SRAM leave the Signature Engines. -/
theorem sramWrite_sig0 (a : Nat) (b : Bytes) (s : State) : (sramWrite a b s).sig0 = s.sig0 := by
  unfold sramWrite
  split <;> rfl

theorem sigWritten_otp (a n : Nat) : (sigWritten s e o a n).otp = s.otp := by
  simp [sigWritten]

/-- Outside the protected region nothing but the output and the end of the operation changes, where no debug token waits. -/
theorem exec_sigOpDone_outside {a n : Nat} (hb : (sigOf s e).busy = some o)
    (hs : (sigOf s e).inService = true ∨ (sigOf s (!e)).inService = true) (hends : sigEnds s e o = true)
    (ho : sigOutput o = some (a, n)) (hout : sramHits s a n = false) (hw : s.otp.debugWait = []) :
    exec (.sigOpDone e rails) s = done (sigWritten s e o a n) := by
  obtain ⟨v, hv⟩ := sigServer_isSome hs
  rw [exec_sigOpDone_output hb hv hends ho, sramDone_of_outside hout, debugGo_of_noWait (by rw [sigWritten_otp, hw])]

end

/-- ALIAS is no key source of an ML-DSA-65 signature (R453). -/
theorem sigError_mlDsa65Sign_key16 (s : State) (g : SigEng) : sigError s g 4 0 16 = 2 := by
  simp [sigError, sigKeySrcs]

/-- Settles O30, by the kind of the operation that ends, its rails and the place of its output. -/
theorem signatureResults : Obligations.SignatureResults := by
  unfold Obligations.SignatureResults
  refine ⟨?_, ?_, ?_, ?_, ?_, ?_, ?_⟩
  · intro e r s o ⟨hb, hop, hs, hf, hf', hheld, hstarted, hr⟩
    have hends := sigEnds_of_started hf hf' hheld hstarted (sigWaitsRng_of_verify hop)
    exact (exec_sigOpDone_verify hb (sigServer_self hs) hends hop).trans (if_pos hr)
  · intro e r s o ⟨hb, hop, hs, hf, hf', hheld, hstarted, hr⟩
    have hends := sigEnds_of_started hf hf' hheld hstarted (sigWaitsRng_of_verify hop)
    have hbad : ¬ (r = 2 ∨ r = 1) := by rintro (rfl | rfl) <;> simp at hr
    refine ⟨_, (exec_sigOpDone_verify hb (sigServer_self hs) hends hop).trans (if_neg hbad), ?_⟩
    rw [sigOf_sigRemove_railFault]
    exact ⟨rfl, rfl, hb, rfl⟩
  · intro r s o ⟨hb, hop, hs, hf, hf', hheld, hstarted, hout, hw⟩
    have hends := sigEnds_of_started (e := false) hf hf' hheld hstarted (by simp [sigWaitsRng, hop])
    rw [exec_sigOpDone_outside (e := false) hb (.inl hs) hends (sigOutput_ecdsaSign hop) hout hw, sigWritten_ecdsaSign hop]
    rfl
  · intro r s o ⟨hb, hop, hs, hf, hf', hheld, hstarted, hin⟩
    have hends := sigEnds_of_started (e := false) hf hf' hheld hstarted (by simp [sigWaitsRng, hop])
    have hexec := exec_sigOpDone_output (e := false) (rails := r) hb (sigServer_self hs) hends (sigOutput_ecdsaSign hop)
    refine ⟨_, hexec.trans (sramDone_of_inside hin _), rfl, ?_⟩
    have hsig : (debugGo (sigWritten s false o o.sig 96)).sig0 = (sigWritten s false o o.sig 96).sig0 :=
      congrArg (fun c => c.2.1) (debugGo_corePart _)
    exact (congrArg SigEng.busy (hsig.trans (sramWrite_sig0 ..)) :)
  · intro e r s o a n ⟨hb, ho, hs, hf, hf', hheld, hturn, hrng, hout, hw⟩
    exact exec_sigOpDone_outside hb hs (sigEnds_iff.2 ⟨hf, hf', hheld, hturn, hrng⟩) ho hout hw
  · intro e c k s ⟨hc, hb⟩
    exact (when_of_true hc _ _).trans (if_pos hb)
  · intro e s ⟨hc, hb⟩
    have herror := sigError_mlDsa65Sign_key16 s (sigOf s e)
    refine ⟨_, (when_of_true hc _ _).trans (if_neg (by simp [hb])), ?_⟩
    cases e <;> exact ⟨herror, rfl, rfl⟩

end Sys2Proof.Machine
end

section
/-!
PROOF. The key ladder and the random source (R457, R459).
-/
namespace Sys2Proof.Machine

open Sys2Proof

/-- Settles O31, by whether the word is written already, and whether the random source runs. -/
theorem keyLadderAndRandom : Obligations.KeyLadderAndRandom := by
  unfold Obligations.KeyLadderAndRandom
  have hword {i : BitVec 4} {s : State} (hc : coreRuns s = true) (hi : i.toNat < 12) : (coreRuns s && decide (i.toNat < 12)) = true := by
    simp [hc, hi]
  refine ⟨?_, ?_, ?_, ?_, ?_, ?_, ?_⟩
  · intro i w s ⟨hc, hi, hf⟩
    exact (when_of_true (hword hc hi) _ _).trans (if_pos (by rw [hf]; rfl))
  · intro i w s ⟨hc, hi, hf⟩
    exact (when_of_true (hword hc hi) _ _).trans (if_neg (by simp [Option.ne_none_iff_isSome.2 hf]))
  · intro v s ⟨hc, hf⟩
    exact (when_of_true hc _ _).trans (if_pos (by rw [hf]; rfl))
  · intro v s ⟨hc, hf⟩
    exact (when_of_true hc _ _).trans (if_neg (by simp [Option.ne_none_iff_isSome.2 hf]))
  · intro s ⟨hc, hr⟩
    exact (when_of_true hc _ _).trans (if_neg (by simp [hr]))
  · intro s ⟨hc, hr⟩
    exact (when_of_true hc _ _).trans (if_pos hr)
  · exact fun s h => when_of_true h _ _

end Sys2Proof.Machine
end

section
/-!
PROOF. The OTP array stays in its one canonical form (R129): a step does nothing to it but burn words of it, and a burn is a write of a table.
-/
namespace Sys2Proof.Machine

open Sys2Proof

theorem BurnedFrom.keeps_form {w w' : Tab OtpSense} (h : BurnedFrom w w') (hw : tabWf ⟨0, 0⟩ w = true) : tabWf ⟨0, 0⟩ w' = true := by
  induction h with
  | same => exact hw
  | burn a v weakLo weakHi _ ih => exact tabWf_tabSet _ _ _ a ih

/-- Settles O5: what a step makes of the array comes from it by burns. -/
theorem otpArrayStaysCanonical : Obligations.OtpArrayStaysCanonical := by
  unfold Obligations.OtpArrayStaysCanonical
  exact fun s t ⟨hs, hstep⟩ => (step_burnedFrom hstep).keeps_form hs

end Sys2Proof.Machine
end

section
/-!
PROOF. What the device shows right after reset.
-/
namespace Sys2Proof.Machine

open Sys2Proof

/-- Settles O6, by evaluation of the reset state; no cell of its tables is written. -/
theorem resetState : Obligations.ResetState := by
  unfold Obligations.ResetState
  refine ⟨?_, ?_, ?_, ?_, ?_, ?_, ?_⟩
  · unfold OtpCanonical; decide
  · decide
  · exact fun d => rfl
  · intro o; rfl
  · intro k; exact ⟨rfl, rfl⟩
  · exact fun p g => rfl
  · refine ⟨?_, ?_, ?_⟩
    · intro d h; cases h
    · intro h; cases h
    · rfl

end Sys2Proof.Machine
end

section
/-!
PROOF. The queue of waiting commands, and what a step answers: no command faults or is refused, and none touches the queue. Every command
answers a next state with the queue it found.
-/
namespace Sys2Proof.Machine

open Sys2Proof

variable {cs : List Instr}

/-! ### Outcomes -/

/-- A command answers a next state, and the queue of that state is cs. -/
def LeavesQueue (cs : List Instr) (o : Out) : Prop := ∃ t, o = .next t ∧ t.pending = cs

@[simp] theorem leavesQueue_done (s : State) : LeavesQueue cs (done s) ↔ s.pending = cs := by
  simp [LeavesQueue, done]

@[simp] theorem leavesQueue_answer (r : Reply) (s : State) :
    LeavesQueue cs (answer r s) ↔ s.pending = cs := by
  simp [LeavesQueue, answer]

@[simp] theorem leavesQueue_notNow (s : State) : LeavesQueue cs (notNow s) ↔ s.pending = cs := by
  simp [LeavesQueue, notNow]

@[simp] theorem leavesQueue_busError (s : State) : LeavesQueue cs (busError s) ↔ s.pending = cs := by
  simp [busError]

@[simp] theorem leavesQueue_sramDone (l : List (Nat × Nat)) (s t : State) :
    LeavesQueue cs (sramDone l s t) ↔ t.pending = cs := by
  unfold sramDone
  split <;> simp

@[simp] theorem leavesQueue_ite (c : Prop) [Decidable c] (o o' : Out) :
    LeavesQueue cs (if c then o else o') ↔ (c → LeavesQueue cs o) ∧ (¬ c → LeavesQueue cs o') := by
  split <;> simp [*]

@[simp] theorem leavesQueue_when (c : Bool) (s : State) (o : Out) :
    LeavesQueue cs (when c s o) ↔ (c = true → LeavesQueue cs o) ∧ (¬ c = true → s.pending = cs) := by
  simp [when]

@[simp] theorem leavesQueue_mordantAccess (s : State) (o : Out) :
    LeavesQueue cs (mordantAccess s o) ↔ (aocRuns s = true → LeavesQueue cs o) ∧ (¬ aocRuns s = true → s.pending = cs) := by
  simp [mordantAccess]

@[simp] theorem ite_pending (c : Prop) [Decidable c] (s t : State) :
    (if c then s else t).pending = cs ↔ (c → s.pending = cs) ∧ (¬ c → t.pending = cs) := by
  split <;> simp [*]

/-! ### Presentation ports and the Lake -/

@[simp] theorem prsFrame_leavesQueue (f : PrsFrame) (m : PolicyImage → PresentRec → EmDev → State → Out) (s : State)
    (hs : s.pending = cs)
    (hm : ∀ p r e, LeavesQueue cs (m p r e (upEm (emKey f.port (b2n f.dev)) (fun e => { e with rstEn := false }) s))) :
    LeavesQueue cs (prsFrame f m s) := by
  unfold prsFrame
  split
  · simp [hs, hm]
  · simp [hs]

@[simp] theorem prsUnknown_leavesQueue (r : PresentRec) (e : EmDev) (op second : Byte) (len : Nat) (s : State)
    (hs : s.pending = cs) :
    LeavesQueue cs (prsUnknown r e op second len s) := by
  simp [prsUnknown, hs]

@[simp] theorem prsListed_leavesQueue (c : Bool) (r : PresentRec) (e : EmDev) (op : Byte) (len : Nat) (s : State) (o : Out)
    (hs : s.pending = cs) : LeavesQueue cs (prsListed c r e op len s o) ↔ (c = true → LeavesQueue cs o) := by
  simp [prsListed, hs]

@[simp] theorem prsServe_leavesQueue (p : PolicyImage) (r : PresentRec) (a : Nat) (q : PrsRead) (clocked : Bool)
    (s : State) (hs : s.pending = cs) :
    LeavesQueue cs (prsServe p r a q clocked s) := by
  unfold prsServe
  (repeat' split) <;> simp [hs]

@[simp] theorem prsWrite_leavesQueue (p : PolicyImage) (r : PresentRec) (e : EmDev) (op a n : Nat) (isErase : Bool)
    (data : Bytes) (s : State) (hs : s.pending = cs) :
    LeavesQueue cs (prsWrite p r e op a n isErase data s) := by
  unfold prsWrite
  dsimp only
  (repeat' split) <;> simp [hs]

/-! ### Judgements -/

@[simp] theorem execJudgementDone_leavesQueue (slot : Nat) (sig : Sig2) (bad : BitVec 2) (s : State) :
    LeavesQueue s.pending (execJudgementDone slot sig bad s) := by
  unfold execJudgementDone
  split <;> simp

@[simp] theorem execVerifyDeadlineExpiry_leavesQueue (slot : Nat) (sig : Sig2) (s : State) :
    LeavesQueue s.pending (execVerifyDeadlineExpiry slot sig s) := by
  unfold execVerifyDeadlineExpiry
  split <;> simp

@[simp] theorem execRestoreVaultBegin_leavesQueue (slot : Nat) (s : State) : LeavesQueue s.pending (execRestoreVaultBegin slot s) := by
  unfold execRestoreVaultBegin
  split <;> simp

theorem vaultStore_pending {obj slot len : Nat} {cells : List (Nat × Byte)} {m : Option Manifest} {s t : State}
    (h : vaultStore obj slot len cells m s = some t) : t.pending = s.pending := by
  obtain ⟨a, -, rfl⟩ := Option.map_eq_some_iff.1 h
  simp

@[simp] theorem execGoldenStore_leavesQueue (slot : Nat) (read : List (Nat × Byte)) (s : State) :
    LeavesQueue s.pending (execGoldenStore slot read s) := by
  unfold execGoldenStore
  split
  · rename_i r q _ _
    have store (cells : List (Nat × Byte)) :
        LeavesQueue s.pending (match vaultStore q.vaultObject slot r.length cells (imgOf s slot).manifest s with
          | some t => done t
          | none => done (upImg slot (fun i => { i with storeDue := false }) s)) := by
      split
      · rename_i t h
        simp [vaultStore_pending h]
      · simp
    refine (leavesQueue_when ..).2 ⟨fun _ => ?_, fun _ => rfl⟩
    dsimp only
    split
    · split
      · exact store _
      · simp
    · split
      · exact store _
      · simp
  · simp

@[simp] theorem execImageSvnAdvance_leavesQueue (slot : Nat) (goldens : List (Nat × Manifest)) (s : State) :
    LeavesQueue s.pending (execImageSvnAdvance slot goldens s) := by
  unfold execImageSvnAdvance
  split <;> simp

@[simp] theorem execPolicySvnAdvance_leavesQueue (s : State) : LeavesQueue s.pending (execPolicySvnAdvance s) := by
  unfold execPolicySvnAdvance
  split <;> simp

/-! ### Updates -/

@[simp] theorem capsuleVault_pending (j : CapsuleJob) (s : State) : (capsuleVault j s).pending = s.pending := by
  unfold capsuleVault
  split
  · simp
  · split
    · rename_i t h
      obtain ⟨q, -, hq⟩ := Option.bind_eq_some_iff.1 h
      simp [vaultStore_pending hq]
    · simp

@[simp] theorem execCapsuleStage_leavesQueue (back : Option (List (Nat × Byte))) (bad : BitVec 2) (s : State) :
    LeavesQueue s.pending (execCapsuleStage back bad s) := by
  unfold execCapsuleStage
  split <;> simp

@[simp] theorem applyComplete_leavesQueue (b : Bool) (code : Nat) (s : State) (hs : s.pending = cs) :
    LeavesQueue cs (applyComplete b code s) := by
  simp [applyComplete, hs]

/-! ### Custody channels -/

@[simp] theorem cchQpush_leavesQueue (k : Nat) (buf : BitVec 32) (s : State) (hs : s.pending = cs) :
    LeavesQueue cs (cchQpush k buf s) := by
  simp [cchQpush, hs]

@[simp] theorem qdoneRead_leavesQueue (k : Nat) (s : State) (hs : s.pending = cs) :
    LeavesQueue cs (qdoneRead k s) := by
  unfold qdoneRead
  split <;> simp [hs]

@[simp] theorem execCchFrameStart_leavesQueue (k : Nat) (s : State) : LeavesQueue s.pending (execCchFrameStart k s) := by
  unfold execCchFrameStart
  dsimp only
  (repeat' split) <;> simp

@[simp] theorem execCchFrameEnd_leavesQueue (k : Nat) (ok : Bool) (cal : Cal) (data : Bytes) (s : State) :
    LeavesQueue s.pending (execCchFrameEnd k ok cal data s) := by
  unfold execCchFrameEnd
  split <;> simp

@[simp] theorem execCchContTimeout_leavesQueue (k : Nat) (s : State) : LeavesQueue s.pending (execCchContTimeout k s) := by
  unfold execCchContTimeout
  (repeat' split) <;> simp

@[simp] theorem execCchWipPoll_leavesQueue (k : Nat) (dev : Bool) (clear : Bool) (s : State) :
    LeavesQueue s.pending (execCchWipPoll k dev clear s) := by
  unfold execCchWipPoll
  (repeat' split) <;> simp

@[simp] theorem execCchWipTimeout_leavesQueue (k : Nat) (dev : Bool) (s : State) : LeavesQueue s.pending (execCchWipTimeout k dev s) := by
  unfold execCchWipTimeout
  (repeat' split) <;> simp

@[simp] theorem execCommitEntryStart_leavesQueue (k : Nat) (s : State) : LeavesQueue s.pending (execCommitEntryStart k s) := by
  unfold execCommitEntryStart
  dsimp only
  (repeat' split) <;> simp

/-! ### Engines -/

@[simp] theorem dgaOpen_leavesQueue (alg : BitVec 3) (s : State) (hs : s.pending = cs) :
    LeavesQueue cs (dgaOpen alg s) := by
  simp [dgaOpen, hs]

@[simp] theorem execDgaOpenGrant_leavesQueue (s : State) : LeavesQueue s.pending (execDgaOpenGrant s) := by
  unfold execDgaOpenGrant
  dsimp only
  split <;> simp

@[simp] theorem dgaAccess_leavesQueue (c : Nat) (f : DgaCtx → Option DgaCtx) (s : State) (hs : s.pending = cs) :
    LeavesQueue cs (dgaAccess c f s) := by
  unfold dgaAccess
  split <;> simp [hs]

@[simp] theorem dgaData_leavesQueue (word : BitVec 32) (s : State) (hs : s.pending = cs) :
    LeavesQueue cs (dgaData word s) := by
  simp [dgaData, hs]

@[simp] theorem dgaLast_leavesQueue (word : DgaLast) (s : State) (hs : s.pending = cs) :
    LeavesQueue cs (dgaLast word s) := by
  simp [dgaLast, hs]

@[simp] theorem dgaClose_leavesQueue (ctx : BitVec 8) (s : State) (hs : s.pending = cs) :
    LeavesQueue cs (dgaClose ctx s) := by
  simp [dgaClose, hs]

@[simp] theorem dgaExpect_leavesQueue (i : BitVec 4) (word : BitVec 32) (s : State) (hs : s.pending = cs) :
    LeavesQueue cs (dgaExpect i word s) := by
  simp [dgaExpect, hs]

@[simp] theorem sigStart_leavesQueue (op : Nat) (e : Bool) (ctx key : BitVec 8) (s : State)
    (hs : s.pending = cs) :
    LeavesQueue cs (sigStart op e ctx key s) := by
  simp [sigStart, hs]

@[simp] theorem sigGo_leavesQueue (op : Nat) (e : Bool) (ctx key : BitVec 8) (s : State) (hs : s.pending = cs) :
    LeavesQueue cs (sigGo op e ctx key s) := by
  simp [sigGo, hs]

@[simp] theorem execSigOpDone_leavesQueue (e : Bool) (rails : BitVec 2) (s : State) : LeavesQueue s.pending (execSigOpDone e rails s) := by
  unfold execSigOpDone
  (repeat' split) <;> simp

@[simp] theorem kldFwid_leavesQueue (i : BitVec 4) (word : BitVec 32) (s : State) (hs : s.pending = cs) :
    LeavesQueue cs (kldFwid i word s) := by
  simp [kldFwid, hs]

@[simp] theorem kldSvn_leavesQueue (svn : BitVec 5) (s : State) (hs : s.pending = cs) :
    LeavesQueue cs (kldSvn svn s) := by
  simp [kldSvn, hs]

/-! ### Evidence -/

@[simp] theorem execBlockTimedClose_leavesQueue (ring : Bool) (s : State) : LeavesQueue s.pending (execBlockTimedClose ring s) := by
  unfold execBlockTimedClose
  split <;> simp

@[simp] theorem execBootRecordSigned_leavesQueue (s : State) : LeavesQueue s.pending (execBootRecordSigned s) := by
  unfold execBootRecordSigned
  split <;> simp

/-! ### Management ports -/

@[simp] theorem vendorAnswer_leavesQueue (cmd : Nat) (b : Bool) (h : VendorHdr) (result : Nat) (body : Bytes)
    (s : State) (hs : s.pending = cs) :
    LeavesQueue cs (vendorAnswer cmd b h result body s) := by
  simp [vendorAnswer, hs]

@[simp] theorem journalCmd_leavesQueue (cmd : Nat) (b : Bool) (h : VendorHdr) (s : State) (o : Out)
    (hs : s.pending = cs) (ho : LeavesQueue cs o) : LeavesQueue cs (journalCmd cmd b h s o) := by
  simp [journalCmd, hs, ho]

@[simp] theorem vaultAsk_leavesQueue (b : Bool) (h : VendorHdr) (q : VaultRead) (s : State)
    (hs : s.pending = cs) :
    LeavesQueue cs (vaultAsk b h q s) := by
  simp [vaultAsk, hs]

@[simp] theorem execReadBlock_leavesQueue (b : Bool) (h : VendorHdr) (index offset length : Nat) (s : State) :
    LeavesQueue s.pending (execReadBlock b h index offset length s) := by
  unfold execReadBlock
  (repeat' split) <;> simp

theorem mgtTry_pending {q : MgtAsk} {s t : State} {r : Nat} {body : Bytes} (h : mgtTry q s = some (r, body, t)) :
    t.pending = s.pending := by
  unfold mgtTry at h
  dsimp only at h
  (repeat' split at h) <;> simp at h <;> obtain ⟨-, -, rfl⟩ := h <;> rfl

@[simp] theorem mgtAsk_leavesQueue (b : Bool) (h : VendorHdr) (q : MgtAsk) (s : State) (hs : s.pending = cs) :
    LeavesQueue cs (mgtAsk b h q s) := by
  unfold mgtAsk
  split
  · rename_i ht
    simp [mgtTry_pending ht, hs]
  · simp [hs]

@[simp] theorem execIbiRetry_leavesQueue (b acked : Bool) (s : State) : LeavesQueue s.pending (execIbiRetry b acked s) := by
  unfold execIbiRetry
  split <;> simp

@[simp] theorem execCbusRetry_leavesQueue (i : Nat) (ack : Bool) (s : State) : LeavesQueue s.pending (execCbusRetry i ack s) := by
  unfold execCbusRetry
  split <;> simp

/-! ### The OTP controller -/

@[simp] theorem otpGoRead_leavesQueue (addr : BitVec 11) (s : State) (hs : s.pending = cs) :
    LeavesQueue cs (otpGoRead addr s) := by
  simp [otpGoRead, hs]

@[simp] theorem otpGoProgram_leavesQueue (addr : BitVec 11) (data : BitVec 32) (s : State)
    (hs : s.pending = cs) :
    LeavesQueue cs (otpGoProgram addr data s) := by
  simp [otpGoProgram, hs]

@[simp] theorem otpGoScan_leavesQueue (s : State) (hs : s.pending = cs) : LeavesQueue cs (otpGoScan s) := by
  simp [otpGoScan, hs]

@[simp] theorem otpGoLcStep_leavesQueue (owner : Bool) (s : State) (hs : s.pending = cs) :
    LeavesQueue cs (otpGoLcStep owner s) := by
  simp [otpGoLcStep, hs]

/-! ### Tokens and the mailbox -/

@[simp] theorem mbxEnd_leavesQueue (b : Bool) (result : Nat) (s : State) (hs : s.pending = cs) :
    LeavesQueue cs (mbxEnd b result s) := by
  simp [mbxEnd, hs]

@[simp] theorem execExportAck_leavesQueue (b : Bool) (sig : Sig2) (s : State) : LeavesQueue s.pending (execExportAck b sig s) := by
  unfold execExportAck
  split <;> simp

/-! ### Mediated updates -/

@[simp] theorem updateRecords_pending (j port : Nat) (eff : State → State) (h : ∀ s, (eff s).pending = s.pending) (n : Nat)
    (l : List MedComp) (s : State) : (updateRecords j port eff n l s).pending = s.pending := by
  induction n generalizing l s with
  | zero => exact h s
  | succ n ih => 
    unfold updateRecords
    dsimp only
    (repeat' split) <;> simp [h, ih]

@[simp] theorem medRecords_pending (j port : Nat) (s : State) : (medRecords j port s).pending = s.pending := by
  unfold medRecords
  split <;> simp

@[simp] theorem medTrack_pending (j : Nat) (m : MedPkt) (s : State) : (medTrack j m s).pending = s.pending := by
  unfold medTrack
  split <;> simp

@[simp] theorem medHandle_pending (j : Nat) (m : MedPkt) (s : State) : (medHandle j m s).1.pending = s.pending := by
  unfold medHandle
  (repeat' split) <;> simp

@[simp] theorem medOne_pending (m : MedPkt) (s : State) : (medOne m s).1.pending = s.pending := by
  unfold medOne
  (repeat' split) <;> simp

theorem medOne_foldl_pending (l : List MedPkt) (a : State × List MedReply) :
    (l.foldl (fun a m => ((medOne m a.1).1, a.2 ++ (medOne m a.1).2)) a).1.pending = a.1.pending := by
  induction l generalizing a with
  | nil => rfl
  | cons m l ih => exact (ih _).trans (medOne_pending m a.1)

@[simp] theorem medResume_pending (s : State) : (medResume s).1.pending = s.pending :=
  medOne_foldl_pending _ _

/-! ### Supplies, oscillators and Mordant requests -/

@[simp] theorem execAocResumed_leavesQueue (b : Bool) (s : State) : LeavesQueue s.pending (execAocResumed b s) := by
  unfold execAocResumed
  dsimp only
  (repeat' split) <;> simp

@[simp] theorem execTripRecord_leavesQueue (s : State) : LeavesQueue s.pending (execTripRecord s) := by
  unfold execTripRecord
  split <;> simp

@[simp] theorem tripReq_leavesQueue (value : BitVec 32) (s : State) (hs : s.pending = cs) :
    LeavesQueue cs (tripReq value s) := by
  simp [tripReq, hs]

@[simp] theorem holdReq_leavesQueue (mask : BitVec 32) (s : State) (hs : s.pending = cs) :
    LeavesQueue cs (holdReq mask s) := by
  simp [holdReq, hs]

@[simp] theorem releaseReq_leavesQueue (mask : BitVec 32) (s : State) (hs : s.pending = cs) :
    LeavesQueue cs (releaseReq mask s) := by
  simp [releaseReq, hs]

/-! ### The window -/

@[simp] theorem execXipFetch_leavesQueue (offset : BitVec 29) (s : State) : LeavesQueue s.pending (execXipFetch offset s) := by
  unfold execXipFetch
  dsimp only
  (repeat' split) <;> simp

@[simp] theorem execXipFillDone_leavesQueue (data : Bytes) (bad : BitVec 2) (s : State) :
    LeavesQueue s.pending (execXipFillDone data bad s) := by
  unfold execXipFillDone
  (repeat' split) <;> simp

/-! ### Failovers -/

@[simp] theorem dgaRemove_pending (e : Nat) (s : State) : (dgaRemove e s).pending = s.pending := by
  unfold dgaRemove
  dsimp only
  rw [foldl_pending]
  · simp
  · intro s o
    split <;> simp

@[simp] theorem execDgaKnownAnswerCheck_leavesQueue (e : Nat) (ok : Bool) (_slots : List Nat) (_xip : Bool) (_meds : List Nat) (s : State) :
    LeavesQueue s.pending (execDgaKnownAnswerCheck e ok _slots _xip _meds s) := by
  unfold execDgaKnownAnswerCheck
  (repeat' split) <;> simp

/-! ### Ring commands -/

@[simp] theorem doorbell_leavesQueue (p : BitVec 2) (bound : Bool) (q : LakeReq) (go : State → State) (s : State)
    (hs : s.pending = cs) (hg : (go s).pending = cs) : LeavesQueue cs (doorbell p bound q go s) := by
  simp [doorbell, hs, hg]

@[simp] theorem execDoorbellSq_leavesQueue (p : BitVec 2) (g : BitVec 18) (value : BitVec 32) (bound : Bool) (s : State)
    (hs : s.pending = cs) : LeavesQueue cs (execDoorbellSq p g value bound s) := by
  simp [execDoorbellSq, hs]

@[simp] theorem execDoorbellCq_leavesQueue (p : BitVec 2) (g : BitVec 18) (value : BitVec 32) (bound : Bool) (s : State)
    (hs : s.pending = cs) : LeavesQueue cs (execDoorbellCq p g value bound s) := by
  simp [execDoorbellCq, hs]

@[simp] theorem fetchHold_leavesQueue (p g : Nat) (e : Bytes) (s : State) (hs : s.pending = cs) :
    LeavesQueue cs (fetchHold p g e s) := by
  simp [fetchHold, hs]

@[simp] theorem fetchActive_leavesQueue (p g : Nat) (rec' : RingsRec) (f : Fetched) (s0 s : State)
    (h0 : s0.pending = cs) (hs : s.pending = cs) : LeavesQueue cs (fetchActive p g rec' f s0 s) := by
  simp [fetchActive, h0, hs]

@[simp] theorem fetchGo_leavesQueue (p g : Nat) (rec' : RingsRec) (f : Fetched) (s : State)
    (hs : s.pending = cs) :
    LeavesQueue cs (fetchGo p g rec' f s) := by
  simp [fetchGo, hs]

@[simp] theorem againGo_leavesQueue (j : RingCmd) (bufOk : Bool) (buf : Bytes) (s : State)
    (hs : s.pending = cs) :
    LeavesQueue cs (againGo j bufOk buf s) := by
  unfold againGo
  (repeat' split) <;> simp [hs]

@[simp] theorem execCommandFetch_leavesQueue (p : BitVec 2) (g : BitVec 18) (ok : Bool) (f : Fetched) (s : State) :
    LeavesQueue s.pending (execCommandFetch p g ok f s) := by
  unfold execCommandFetch
  (repeat' split) <;> simp

@[simp] theorem opcodeEffect_leavesQueue (s : State) (test : RingCmd → Bool) (hs : s.pending = cs) :
    LeavesQueue cs (opcodeEffect s test) := by
  simp [opcodeEffect, hs]

@[simp] theorem execCapsuleSubmit_leavesQueue (s : State) : LeavesQueue s.pending (execCapsuleSubmit s) := by
  unfold execCapsuleSubmit
  split <;> simp

@[simp] theorem execCompletionPost_leavesQueue (p : BitVec 2) (g : BitVec 18) (ok outOk : Bool) (s : State) :
    LeavesQueue s.pending (execCompletionPost p g ok outOk s) := by
  unfold execCompletionPost
  dsimp only
  split <;> simp

@[simp] theorem execMsixGapEnd_leavesQueue (p : BitVec 2) (v : BitVec 11) (s : State) : LeavesQueue s.pending (execMsixGapEnd p v s) := by
  unfold execMsixGapEnd
  dsimp only
  split <;> simp

@[simp] theorem execBatchSigned_leavesQueue (second : Bool) (s : State) : LeavesQueue s.pending (execBatchSigned second s) := by
  unfold execBatchSigned
  split <;> simp

/-! ### The Service Complex -/

@[simp] theorem scReset_leavesQueue (value : BitVec 32) (s : State) (hs : s.pending = cs) :
    LeavesQueue cs (scReset value s) := by
  simp [scReset, hs]

@[simp] theorem sramWp_leavesQueue (limit : BitVec 8) (s : State) (hs : s.pending = cs) :
    LeavesQueue cs (sramWp limit s) := by
  simp [sramWp, hs]

@[simp] theorem sicDone_leavesQueue (nn : BitVec 4) (value : BitVec 32) (s : State) (hs : s.pending = cs) :
    LeavesQueue cs (sicDone nn value s) := by
  simp [sicDone, hs]

@[simp] theorem wdtServe_leavesQueue (value : BitVec 32) (s : State) (hs : s.pending = cs) :
    LeavesQueue cs (wdtServe value s) := by
  simp [wdtServe, hs]

@[simp] theorem wdtKey_leavesQueue (value : BitVec 32) (inTime : Bool) (s : State) (hs : s.pending = cs) :
    LeavesQueue cs (wdtKey value inTime s) := by
  simp [wdtKey, hs]

/-! ### Registers -/

@[simp] theorem writeDoorbell_leavesQueue (p : BitVec 2) (a len : Nat) (v : BitVec 32) (bound : Bool) (s : State)
    (hs : s.pending = cs) :
    LeavesQueue cs (writeDoorbell p a len v bound s) := by
  simp [writeDoorbell, hs]

/-! ### The gate -/

@[simp] theorem execEndpointTlp_leavesQueue (q : Nat) (t : Tlp) (bad : BitVec 3) (s : State) :
    LeavesQueue s.pending (execEndpointTlp q t bad s) := by
  unfold execEndpointTlp
  split <;> simp

@[simp] theorem execHostTlp_leavesQueue (p : Nat) (t : Tlp) (s : State) : LeavesQueue s.pending (execHostTlp p t s) := by
  unfold execHostTlp
  split <;> simp

@[simp] theorem execVaultDriveRequest_leavesQueue (inside posted : Bool) (s : State) :
    LeavesQueue s.pending (execVaultDriveRequest inside posted s) := by
  unfold execVaultDriveRequest
  split <;> simp

@[simp] theorem execDeclareResult_leavesQueue (p : Nat) (s : State) : LeavesQueue s.pending (execDeclareResult p s) := by
  unfold execDeclareResult
  split <;> simp

@[simp] theorem execResistArmEffect_leavesQueue (p : Nat) (s : State) : LeavesQueue s.pending (execResistArmEffect p s) := by
  unfold execResistArmEffect
  split <;> simp

/-! ### JTAG -/

@[simp] theorem debugRead_leavesQueue (a len : Nat) (s : State) (hs : s.pending = cs) :
    LeavesQueue cs (debugRead a len s) := by
  unfold debugRead
  (repeat' split) <;> simp [hs]

@[simp] theorem execJtagInstruction_leavesQueue (i : JtagOp) (s : State) :
    LeavesQueue s.pending (execJtagInstruction i s) := by
  refine (leavesQueue_when ..).2 ⟨fun _ => ?_, fun _ => rfl⟩
  cases i with
  | otpProgram a data weakLo weakHi =>
    dsimp only
    (repeat' split) <;> simp
  | regRead a len => exact (leavesQueue_when ..).2 ⟨fun _ => debugRead_leavesQueue a len _ rfl, fun _ => rfl⟩
  | mandatory | idcode | challenge | memoryTest | otpRead | halt | step | memRead | trace =>
    dsimp only
    (repeat' split) <;> simp

/-! ### The Lake -/

@[simp] theorem execLakeIntegrityFail_leavesQueue (n : BitVec 3) (reread rebuilt : Bool) (s : State) :
    LeavesQueue s.pending (execLakeIntegrityFail n reread rebuilt s) := by
  unfold execLakeIntegrityFail
  (repeat' split) <;> simp

/-! ### Links and endpoints -/

@[simp] theorem execLinkUp_leavesQueue (port rate width : Nat) (flit l0p : Bool) (s : State) :
    LeavesQueue s.pending (execLinkUp port rate width flit l0p s) := by
  unfold execLinkUp
  (repeat' split) <;> simp

@[simp] theorem execLinkDown_leavesQueue (port : Nat) (s : State) : LeavesQueue s.pending (execLinkDown port s) := by
  unfold execLinkDown
  split <;> simp

@[simp] theorem execSpdmMeasurements_leavesQueue (j : Nat) (block : Option Bytes) (sig : Half) (s : State) :
    LeavesQueue s.pending (execSpdmMeasurements j block sig s) := by
  unfold execSpdmMeasurements
  split <;> simp

@[simp] theorem execSpdmSendTimeout_leavesQueue (j : Nat) (s : State) : LeavesQueue s.pending (execSpdmSendTimeout j s) := by
  unfold execSpdmSendTimeout
  split <;> simp

@[simp] theorem gateContain_leavesQueue (mask : BitVec 32) (s : State) (hs : s.pending = cs) :
    LeavesQueue cs (gateContain mask s) := by
  simp [gateContain, hs]

@[simp] theorem gateRecheck_leavesQueue (mask : BitVec 32) (s : State) (hs : s.pending = cs) :
    LeavesQueue cs (gateRecheck mask s) := by
  simp [gateRecheck, hs]

@[simp] theorem execHostConfigRequest_leavesQueue (port : Nat) (s : State) : LeavesQueue s.pending (execHostConfigRequest port s) := by
  unfold execHostConfigRequest
  (repeat' split) <;> simp

@[simp] theorem execHostDpcTriggerWrite_leavesQueue (port : Nat) (trigger : Bool) (s : State) :
    LeavesQueue s.pending (execHostDpcTriggerWrite port trigger s) := by
  unfold execHostDpcTriggerWrite
  split <;> simp

/-! ### Mediated frames -/

@[simp] theorem execPldmMediatedPacket_leavesQueue (port : Nat) (m : MedMsg) (size : Nat) (s : State) :
    LeavesQueue s.pending (execPldmMediatedPacket port m size s) := by
  unfold execPldmMediatedPacket
  (repeat' split) <;> simp

@[simp] theorem execActivateFirmwareRelease_leavesQueue (port : Nat) (s : State) :
    LeavesQueue s.pending (execActivateFirmwareRelease port s) := by
  unfold execActivateFirmwareRelease
  (repeat' split) <;> simp

@[simp] theorem execActivateFirmwareResponse_leavesQueue (port : Nat) (s : State) :
    LeavesQueue s.pending (execActivateFirmwareResponse port s) := by
  unfold execActivateFirmwareResponse
  split <;> simp

/-! ### Presentation port commands -/

@[simp] theorem prsModeRead_leavesQueue (f : PrsFrame) (q : PrsRead) (m : ReadMode) (cond : PresentRec → Bool)
    (op3 op4 : Byte) (s : State) (hs : s.pending = cs) :
    LeavesQueue cs (prsModeRead f q m cond op3 op4 s) := by
  simp [prsModeRead, hs]

@[simp] theorem execPrsSectorErase_leavesQueue (f : PrsFrame) (op : Byte) (s : State) :
    LeavesQueue s.pending (execPrsSectorErase f op s) := by
  refine prsFrame_leavesQueue _ _ _ rfl (fun p r e => ?_)
  split <;> simp

@[simp] theorem prsAddrMode_leavesQueue (f : PrsFrame) (op : Byte) (on : Bool) (s : State)
    (hs : s.pending = cs) :
    LeavesQueue cs (prsAddrMode f op on s) := by
  simp [prsAddrMode, hs]

@[simp] theorem execWriteJournalEntry_leavesQueue (port : Nat) (dev : Bool) (s : State) :
    LeavesQueue s.pending (execWriteJournalEntry port dev s) := by
  unfold execWriteJournalEntry
  dsimp only
  split <;> simp

@[simp] theorem execWriteDurable_leavesQueue (port : Nat) (dev : Bool) (s : State) : LeavesQueue s.pending (execWriteDurable port dev s) := by
  unfold execWriteDurable
  dsimp only
  split <;> simp

@[simp] theorem execWriteApply_leavesQueue (port : Nat) (dev : Bool) (s : State) : LeavesQueue s.pending (execWriteApply port dev s) := by
  unfold execWriteApply
  dsimp only
  split <;> simp

@[simp] theorem execDeviceLoadDone_leavesQueue (port : Nat) (dev : Bool) (content : List (Nat × Byte)) (ok : Bool) (s : State) :
    LeavesQueue s.pending (execDeviceLoadDone port dev content ok s) := by
  unfold execDeviceLoadDone
  split <;> simp

/-! ### Register writes -/

theorem writeInternal_pending {a : Nat} {b : Bytes} {s t : State} (h : writeInternal a b s = some t) : t.pending = s.pending := by
  unfold writeInternal at h
  (repeat' split at h) <;> cases h <;> simp

theorem ownWrite_leavesQueue {cs : List Instr} {n a : Nat} {v : BitVec 32} {s : State} {o : Out} (hs : s.pending = cs)
    (h : ownWrite n a v s = some o) : LeavesQueue cs o := by
  unfold ownWrite at h
  (repeat' split at h) <;> cases h <;> simp [hs]

@[simp] theorem jtagOut_leavesQueue (s : State) (o : Out) (hs : s.pending = cs) (ho : LeavesQueue cs o) :
    LeavesQueue cs (jtagOut s o) := by
  unfold jtagOut
  split
  · split
    · simpa using hs
    · exact ho
  · exact ho

@[simp] theorem jtagWrite_leavesQueue (a len : Nat) (v : BitVec 32) (s : State) (hs : s.pending = cs) :
    LeavesQueue cs (jtagWrite a len v s) := by
  unfold jtagWrite
  split
  · simp [hs]
  · split
    · rename_i h
      simp [hs, ownWrite_leavesQueue hs h]
    · simp [hs]

@[simp] theorem execRegisterWrite_leavesQueue (sp : RegSpace) (a : Nat) (v : BitVec 32) (s : State) :
    LeavesQueue s.pending (execRegisterWrite sp a v s) := by
  unfold execRegisterWrite
  split
  · simp
  · simp
  · simp
  · refine (leavesQueue_when ..).2 ⟨fun _ => ?_, fun _ => rfl⟩
    split
    · rename_i h
      simp [writeInternal_pending h]
    · simp
  · simp

/-! ### Self-test and ROM -/

@[simp] theorem execSelfTestDone_leavesQueue (t : SelfTest) (s : State) : LeavesQueue s.pending (execSelfTestDone t s) := by
  unfold execSelfTestDone
  dsimp only
  (repeat' split) <;> simp

/-! ### The Vault -/

@[simp] theorem execNvmeCommandDone_leavesQueue (back : List DriveBlock) (s : State) :
    LeavesQueue s.pending (execNvmeCommandDone back s) := by
  unfold execNvmeCommandDone
  split <;> simp

@[simp] theorem execNvmeCommandTimeout_leavesQueue (s : State) : LeavesQueue s.pending (execNvmeCommandTimeout s) := by
  unfold execNvmeCommandTimeout
  split <;> simp

@[simp] theorem execNvmeControllerReady_leavesQueue (s : State) : LeavesQueue s.pending (execNvmeControllerReady s) := by
  unfold execNvmeControllerReady
  split <;> simp

@[simp] theorem execCheckpointDone_leavesQueue (s : State) : LeavesQueue s.pending (execCheckpointDone s) := by
  unfold execCheckpointDone
  split <;> simp

/-! ### The commands -/

theorem exec_leavesQueue (c : Instr) (s : State) : LeavesQueue s.pending (exec c s) := by
  cases c with
  | vsecPowerOn | criticalFuseLatchComplete | vsecBrownout | vsecOff | mainSetGood | mainRailFail | pllLossOfLock | vioRstGood |
    vioRstLost | vioBankLow | hotReset | upstreamLinkDown | aocDisagreement | aocStopped | aocResumed | tamperAssert | tripRecord |
    tripReqWrite | holdRequest | releaseRequest | tamperRelease | vsecAboveVBod | aocAgreement =>
    simp [exec, execVsecPowerOn, execCriticalFuseLatchComplete, execVsecBrownout, execVsecOff, execMainSetGood, execMainRailFail,
      execPllLossOfLock, execVioRstGood, execVioRstLost, execVioBankLow, execHotReset, execUpstreamLinkDown, execAocDisagreement,
      execAocStopped, execTamperAssert, execTripReqWrite, execHoldRequest, execReleaseRequest, execTamperRelease, execVsecAboveVBod,
      execAocAgreement]
  | tripClear | challenge | token | jtagTokenSubmit | lcClose | exportAck =>
    simp [exec, execTripClear, execChallenge, execToken, execJtagTokenSubmit, execLcClose]
  | registerWrite =>
    simp [exec]
  | selfTestDone | microcodeLoadDone =>
    simp [exec, execMicrocodeLoadDone]
  | otpRead | otpProgram | otpScan | otpLcStep | otpOpDone =>
    simp [exec, execOtpRead, execOtpProgram, execOtpScan, execOtpLcStep, execOtpOpDone]
  | jtagInstruction =>
    simp [exec]
  | pldmRequestUpdate | pldmComponentPush | pldmCapsulePush | capsuleStage | pldmCancelUpdate =>
    simp [exec, execPldmRequestUpdate, execPldmComponentPush, execPldmCapsulePush, execPldmCancelUpdate]
  | cchQpush | cchQdoneRead | cchFrameStart | cchFrameEnd | cchWipPoll | cchWipTimeout | cchContTimeout | cchPeriodicCalibration |
    cchSelftestDone | scrubPassStart | commitEntryStart =>
    simp [exec, execCchQpush, execCchQdoneRead, execCchPeriodicCalibration, execCchSelftestDone, execScrubPassStart]
  | xipFetch | xipFillDone =>
    simp [exec]
  | prsRead | prsFastRead | prsReadDual | prsReadQuad | prsReadQuadDtr | prsReadOctal | prsReadOctalDtr | prsPageProgram |
    prsPageProgramQuad | prsSectorErase | prsChipErase | prsWriteEnable | prsWriteDisable | prsReadStatus | prsWriteStatus | prsReadId |
    prsReadSfdp | prsEnter4b | prsExit4b | prsProtocolSelect | prsResetEnable | prsReset | prsPowerDown | prsReleasePowerDown |
    prsUnknownOpcode | prsFrameReject | writeJournalEntry | writeDurable | writeApply | deviceLoadDone =>
    simp [exec, execPrsRead, execPrsFastRead, execPrsReadDual, execPrsReadQuad, execPrsReadQuadDtr, execPrsReadOctal,
      execPrsReadOctalDtr, execPrsPageProgram, execPrsPageProgramQuad, execPrsChipErase, execPrsWriteEnable, execPrsWriteDisable,
      execPrsReadStatus, execPrsWriteStatus, execPrsReadId, execPrsReadSfdp, execPrsEnter4b, execPrsExit4b, execPrsProtocolSelect,
      execPrsResetEnable, execPrsReset, execPrsPowerDown, execPrsReleasePowerDown, execPrsUnknownOpcode, execPrsFrameReject]
  | lakeIntegrityFail | lakeChannelFault | lakeFailoverDone =>
    simp [exec, execLakeChannelFault, execLakeFailoverDone]
  | judgeStart | judgementDone | verifyDeadlineExpiry | restoreVaultBegin | vaultWaitExpiry | goldenStore | imageSvnAdvance |
    policySvnAdvance =>
    simp [exec, execJudgeStart, execVaultWaitExpiry]
  | linkUp | linkDown | endpointLinkTimeout | endpointReadyWaitEnd | deviceReadinessStatus | configRetry | endpointConfigSuccess |
    endpointReadyTimeout | spdmVersion | spdmCapabilities | spdmAlgorithms | spdmDigests | spdmCertificate | spdmMeasurements |
    spdmError | spdmSendTimeout | attestationTimeout | recheckDue | gateContainReq | gateRechkReq | hostConfigRequest |
    hostDpcTriggerWrite | altProtocolNegotiation =>
    simp [exec, execEndpointLinkTimeout, execEndpointReadyWaitEnd, execDeviceReadinessStatus, execConfigRetry, execEndpointConfigSuccess,
      execEndpointReadyTimeout, execSpdmVersion, execSpdmCapabilities, execSpdmAlgorithms, execSpdmDigests, execSpdmCertificate,
      execSpdmError, execAttestationTimeout, execRecheckDue, execGateContainReq, execGateRechkReq, execAltProtocolNegotiation]
  | endpointTlp | hostTlp | vaultDriveRequest | ideStreamSecure | ideStreamLeaveSecure | ideKmRequest | tdispLockInterface | tdiError |
    declare | declareResult | arm | armDeadline | resistArmEffect | violWindowEnd | sliceCheck | sliceFailoverDone | planeFault |
    planeFailoverDone | spdmSecuredSession | tdispStartInterface | tdispStopInterface =>
    simp [exec, execIdeStreamSecure, execIdeStreamLeaveSecure, execIdeKmRequest, execTdispLockInterface, execTdiError, execDeclare,
      execArm, execArmDeadline, execViolWindowEnd, execSliceCheck, execSliceFailoverDone, execPlaneFault, execPlaneFailoverDone,
      execSpdmSecuredSession, execTdispStartInterface, execTdispStopInterface]
  | pldmMediatedPacket | activateFirmwareRelease | activateFirmwareResponse =>
    simp [exec]
  | recordSubmit | recordDurable | blockTimedClose | chainDone | bootRecordSigned =>
    simp [exec, execRecordSubmit, execRecordDurable, execChainDone]
  | waitingRecordWrite =>
    simp [exec, execWaitingRecordWrite]
  | archiveBlock | nvmeCommandDone | nvmeCommandTimeout | nvmeControllerReady | nvmeResetTimeout | checkpoint | checkpointDone =>
    simp [exec, execArchiveBlock, execNvmeResetTimeout, execCheckpoint]
  | journalState | readBlock | closeBlock | signedHead | readBootRecord | readAliasCert | cbusPoll | cbusRetry | ibiRetry |
    smbusAlertResponse | smbusSclTimeout | tempSensorUpdate | mctpControl | getVersion | getCapabilities | getCertificate | entdaa |
    setdasa =>
    simp [exec, execJournalState, execCloseBlock, execSignedHead, execReadBootRecord, execReadAliasCert, execCbusPoll,
      execSmbusAlertResponse, execSmbusSclTimeout, execTempSensorUpdate, execMctpControl, execGetVersion, execGetCapabilities,
      execGetCertificate, execEntdaa, execSetdasa]
  | doorbellSq | doorbellCq | commandFetch | ledgerExtend | ledgerRead | quote | quotePlatform | counterIncrement | counterRead |
    journalNote | ringCreate | ringDestroy | quotaSet | ledgerAlloc | ledgerRelease | counterAlloc | counterRelease |
    capsuleSubmit | completionPost | msixGapEnd | batchClose | batchSigned | hostMemoryRetry | dmaTimeout | ringWatchdog |
    adminRingEnable | adminRingDisable =>
    simp [exec, execLedgerExtend, execLedgerRead, execQuote, execQuotePlatform, execCounterIncrement, execCounterRead,
      execJournalNote, execRingCreate, execRingDestroy, execQuotaSet, execLedgerAlloc, execLedgerRelease, execCounterAlloc,
      execCounterRelease, execBatchClose, execHostMemoryRetry, execDmaTimeout, execRingWatchdog, execAdminRingEnable,
      execAdminRingDisable]
  | lockstepMismatch | spareMismatch | pairSwitchDone | scResetWrite | firmwareRestart | sramWpWrite | busTimeout | sicDoneWrite |
    waitForInterrupt | sicWake | wdtServe | wdtKeyWrite | wdtEnableWrite | wdtExpiry | wdtHardTimerEnd | wdtClockMonitor =>
    simp [exec, execLockstepMismatch, execSpareMismatch, execPairSwitchDone, execScResetWrite, execFirmwareRestart, execSramWpWrite,
      execBusTimeout, execSicDoneWrite, execWaitForInterrupt, execSicWake, execWdtServe, execWdtKeyWrite, execWdtEnableWrite,
      execWdtExpiry, execWdtHardTimerEnd, execWdtClockMonitor]
  | dgaOpen | dgaOpenGrant | dgaDataWrite | dgaLastWrite | dgaClose | dgaExpectWrite | ecdsaP384Verify | ecdsaP384Sign | mlDsa65Verify |
    mlDsa65Sign | mlDsa87Verify | mlDsa87Sign | hssVerify | ecdhP384 | mlKem1024Keygen | mlKem1024Encaps | mlKem1024Decaps | sigOpDone |
    kldFwidWrite | kldSvnWrite | kldRandRead | rngHealthFail =>
    simp [exec, execDgaOpen, execDgaDataWrite, execDgaLastWrite, execDgaClose, execDgaExpectWrite, execEcdsaP384Verify,
      execEcdsaP384Sign, execMlDsa65Verify, execMlDsa65Sign, execMlDsa87Verify, execMlDsa87Sign, execHssVerify, execEcdhP384,
      execMlKem1024Keygen, execMlKem1024Encaps, execMlKem1024Decaps, execKldFwidWrite, execKldSvnWrite, execKldRandRead,
      execRngHealthFail]
  | dgaKnownAnswerCheck | dgaFailoverDone | sigKnownAnswerCheck | sigFailoverDone | persistBankFault | persistFailoverDone =>
    simp [exec, execDgaFailoverDone, execSigKnownAnswerCheck, execSigFailoverDone, execPersistBankFault, execPersistFailoverDone]
  | regRead | regWrite =>
    simp [exec, execRegRead, execRegWrite]
  -- The two ring commands left: a bare case label cannot name them, since Lean reserves both words.
  | _ =>
    simp [exec, execSeal, execUnseal]

/-! ### A step -/

theorem step_of_cons {c : Instr} {r : List Instr} {s : State} (h : s.pending = c :: r) : step s = exec c (withPending r s) := by
  rw [step, h]

theorem step_of_nil {s : State} (h : s.pending = []) : step s = .next (tick s) := by
  rw [step, h]

/-- Settles O1, by the queue. -/
theorem stepTakesTheFront : Obligations.StepTakesTheFront := by
  unfold Obligations.StepTakesTheFront
  exact ⟨fun c r s h => step_of_cons h, fun s h => step_of_nil h⟩

/-- Settles O2: a tick answers a next state, and so does every command. -/
theorem everyStepAnswersNext : Obligations.EveryStepAnswersNext := by
  unfold Obligations.EveryStepAnswersNext
  intro s
  cases h : s.pending with
  | nil => exact ⟨_, step_of_nil h⟩
  | cons c r =>
    obtain ⟨t, ht, -⟩ := exec_leavesQueue c (withPending r s)
    exact ⟨t, (step_of_cons h).trans ht⟩

/-- Settles O3: the one next state that a command answers has the queue it found. -/
theorem commandsLeaveTheQueue : Obligations.CommandsLeaveTheQueue := by
  unfold Obligations.CommandsLeaveTheQueue
  intro c s t h
  obtain ⟨u, hu, hq⟩ := exec_leavesQueue c s
  obtain rfl := Host.Outcome.next.inj (h.symm.trans hu)
  exact hq

end Sys2Proof.Machine
end

section
/-!
PROOF. The firmware queue and the completion queue of a custody channel (R201, R207, R212).
-/
namespace Sys2Proof.Machine

open Sys2Proof

variable {s : State} {k : Nat}

/-- While a firmware frame of a READY channel runs, no entry at the head of the queue is looked at. -/
theorem fwAdvance_of_frame (hst : (chanOf s k).st = .ready) (hf : frameFw (chanOf s k) ≠ []) (n : Nat) : fwAdvance k n s = s := by
  have hrun : ((chanOf s k).st ≠ .ready || !(frameFw (chanOf s k)).isEmpty || fwPolls (chanOf s k)) = true := by simp [hf]
  cases n with
  | zero => rfl
  | succ n =>
    unfold fwAdvance
    dsimp only
    split
    · rfl
    · rw [if_neg (show ¬ ((chanOf s k).st = .stopped ∨ (chanOf s k).st = .failed) by simp [hst]), if_pos hrun, ite_self]

section
variable (hc : coreRuns s = true) (hk : k < 17)
include hc hk

theorem channelAccess (o : Out) : when (coreRuns s && decide (k < 17)) s o = o := when_of_true (by simp [hc, hk]) s o

theorem exec_cchQpush_full (b : BitVec 32) (hq : 64 ≤ (chanOf s k).fwq.length) :
    exec (.cchQpush k b) s = done (upChan k (fun c => { c with dropped := true }) s) :=
  (channelAccess hc hk _).trans (if_pos hq)

theorem exec_cchQpush_waits (b : BitVec 32) (hq : (chanOf s k).fwq.length < 64) (hst : (chanOf s k).st = .ready)
    (hf : frameFw (chanOf s k) ≠ []) :
    exec (.cchQpush k b) s = done (upChan k (fun c =>
      { c with dropped := false, fwq := c.fwq ++ [⟨c.push0, c.push1, c.push2, b⟩] }) s) := by
  refine (channelAccess hc hk _).trans ((if_neg (by omega)).trans ?_)
  rw [fwAdvance_of_frame]
  · simpa [chanOf_upChan] using hst
  · simpa [chanOf_upChan, frameFw] using hf

theorem exec_cchQdoneRead_none (hq : (chanOf s k).cq = []) : exec (.cchQdoneRead k) s = answer (.word 0) s := by
  refine (channelAccess hc hk _).trans ?_
  simp only [qdoneRead, hq]

theorem exec_cchQdoneRead_oldest {d : QDone} {r : List QDone} (hq : (chanOf s k).cq = d :: r) (hw : (chanOf s k).fwq = []) :
    exec (.cchQdoneRead k) s = answer (.word (packWord [(31, 1), (8, d.status), (0, d.tag.toNat)]))
      (upChan k (fun c => { c with cq := r }) s) := by
  refine (channelAccess hc hk _).trans ?_
  have hempty : (chanOf (upChan k (fun c => { c with cq := r }) s) k).fwq = [] := by simpa [chanOf_upChan] using hw
  simp only [qdoneRead, hq, fwAdvance_of_fwq_nil hempty]

end

/-- Settles O20, by whether the queue has a place, and whether a completion waits. -/
theorem channelQueue : Obligations.ChannelQueue := by
  unfold Obligations.ChannelQueue
  refine ⟨?_, ?_, ?_, ?_⟩
  · exact fun k b s ⟨hc, hk, hq⟩ => exec_cchQpush_full hc hk b hq
  · intro k b s ⟨hc, hk, hq, hst, hf⟩
    refine ⟨_, exec_cchQpush_waits hc hk b hq hst hf, ?_, ?_, fun j hj => ?_, rfl⟩
    · simp [chanOf, say, upChan, upChans]
    · simp [chanOf, say, upChan, upChans]
    · simp [chanOf, say, upChan, upChans, hj]
  · exact fun k s ⟨hc, hk, hq⟩ => exec_cchQdoneRead_none hc hk hq
  · exact fun k s d r ⟨hc, hk, hq, hw⟩ => exec_cchQdoneRead_oldest hc hk hq hw

end Sys2Proof.Machine
end

section
/-!
PROOF. The start of a Signature Engine operation (R453, R454, R456).
-/
namespace Sys2Proof.Machine

open Sys2Proof

variable {s : State} {op : Nat} {e : Bool} {c k : BitVec 8}

/-- The commands that write SIG_CMD of engine e, with the operations they ask for. -/
def sigCommands (e : Bool) (c k : BitVec 8) : List (Instr × Nat) :=
  [(.ecdsaP384Verify e c k, 1), (.ecdsaP384Sign e c k, 2), (.mlDsa65Verify e c k, 3), (.mlDsa65Sign e c k, 4),
    (.mlDsa87Verify e c k, 5), (.mlDsa87Sign e c k, 6), (.hssVerify e c k, 7), (.ecdhP384 e c k, 8), (.mlKem1024Keygen e c k, 9),
    (.mlKem1024Encaps e c k, 10), (.mlKem1024Decaps e c k, 11)]

theorem exec_of_sigCommands {i : Instr} (h : (i, op) ∈ sigCommands e c k) (s : State) : exec i s = sigGo op e c k s := by
  simp only [sigCommands, List.mem_cons, Prod.mk.injEq, List.not_mem_nil, or_false] at h
  rcases h with ⟨rfl, rfl⟩ | ⟨rfl, rfl⟩ | ⟨rfl, rfl⟩ | ⟨rfl, rfl⟩ | ⟨rfl, rfl⟩ | ⟨rfl, rfl⟩ | ⟨rfl, rfl⟩ | ⟨rfl, rfl⟩ |
    ⟨rfl, rfl⟩ | ⟨rfl, rfl⟩ | ⟨rfl, rfl⟩ <;> rfl

/-- The engine with the operation in progress, its operands those of its registers. -/
def sigBegun (s : State) (op ctx key : Nat) (e : Bool) (g : SigEng) : SigEng :=
  { g with
    op := op, ctxId := ctx, keySrc := key, error := 0, result := 0, railFault := false
    busy := some ⟨op, ctx, key, g.msg.toNat, g.mlen.toNat, g.key.toNat, g.sig.toNat, g.out.toNat,
      usesAlias op key && keysHeld s, coreTurn s e⟩ }

section
variable (hc : coreRuns s = true) (hb : (sigOf s e).busy = none)
include hc hb

theorem sigGo_begins (herr : sigError s (sigOf s e) op c.toNat k.toNat = 0) :
    sigGo op e c k s = done (upSig e (sigBegun s op c.toNat k.toNat e) s) := by
  refine (when_of_true hc _ _).trans ((if_neg (by simp [hb])).trans ?_)
  simp only [herr, if_true]
  rfl

theorem sigGo_errs (herr : sigError s (sigOf s e) op c.toNat k.toNat ≠ 0) :
    sigGo op e c k s = done (upSig e (fun g => { g with
      op := op, ctxId := c.toNat, keySrc := k.toNat, error := sigError s (sigOf s e) op c.toNat k.toNat, result := 0
      railFault := false, busy := none }) s) := by
  refine (when_of_true hc _ _).trans ((if_neg (by simp [hb])).trans ?_)
  simp only [if_neg herr]

end

theorem sigGo_busy (hc : coreRuns s = true) (hb : (sigOf s e).busy.isSome = true) : sigGo op e c k s = done s :=
  (when_of_true hc _ _).trans (if_pos hb)

/-- With a message of at most 256 KiB and every operand whole in SRAM, an operation of the table finds no error in context 0 with a key
source of its row other than ALIAS. -/
theorem sigError_eq_zero {g : SigEng} {key : Nat} (hop : op ≠ 0 ∧ op ≤ 11) (hkey : key ∈ sigKeySrcs op) (halias : key ≠ 16)
    (hkem : op = 11 → g.kemKey.isSome = true) (hlen : g.mlen.toNat ≤ 262144) (hmsg : sramAddr g.msg g.mlen.toNat = true)
    (hkeyIn : sramAddr g.key (sigKeyLen op key) = true) (hsig : sramAddr g.sig (sigSigLen op) = true)
    (hout : sramAddr g.out (sigOutLen op) = true) : sigError s g op 0 key = 0 := by
  have hsource : ¬ ((!(sigKeySrcs op).contains key || (decide (key = 16) && (!aliasOk s || !([0, 4, 5, 6].contains 0)))
      || (decide (op = 11) && g.kemKey.isNone)) = true) := by
    simpa [hkey, halias] using fun h => Option.isSome_iff_ne_none.1 (hkem h)
  have hfield : ¬ ((decide (7 < 0) || (decide (0 ≠ 0) && !sigIsMlDsa op) || decide (262144 < g.mlen.toNat)
      || !(sramAddr g.msg g.mlen.toNat && sramAddr g.key (sigKeyLen op key) && sramAddr g.sig (sigSigLen op)
        && sramAddr g.out (sigOutLen op))) = true) := by
    simpa [hmsg, hkeyIn, hsig, hout] using hlen
  rw [sigError, if_neg (by omega), if_neg hsource, if_neg hfield]

/-- Such an operation begins. -/
theorem exec_sigCommand_begins {i : Instr} (hi : (sigCommands e 0 k)[op - 1]? = some (i, op))
    (hrow : op ≠ 0 ∧ op ≤ 11 ∧ k.toNat ∈ sigKeySrcs op ∧ k.toNat ≠ 16) (hkem : op ≠ 11 ∨ (sigOf s e).kemKey.isSome = true)
    (h : coreRuns s = true ∧ (sigOf s e).busy = none ∧ (sigOf s e).mlen.toNat ≤ 262144 ∧
      sramAddr (sigOf s e).msg (sigOf s e).mlen.toNat = true ∧ sramAddr (sigOf s e).key (sigKeyLen op k.toNat) = true ∧
      sramAddr (sigOf s e).sig (sigSigLen op) = true ∧ sramAddr (sigOf s e).out (sigOutLen op) = true) :
    exec i s = done (upSig e (sigBegun s op 0 k.toNat e) s) := by
  obtain ⟨hc, hb, hlen, hmsg, hkeyIn, hsig, hout⟩ := h
  obtain ⟨h0, h11, hkey, halias⟩ := hrow
  rw [exec_of_sigCommands (List.mem_of_getElem? hi)]
  exact sigGo_begins hc hb (sigError_eq_zero ⟨h0, h11⟩ hkey halias hkem.neg_resolve_left hlen hmsg hkeyIn hsig hout)

/-- Settles O29, by whether the engine is BUSY, and whether the operation finds an error. -/
theorem signatureOperationsStart : Obligations.SignatureOperationsStart := by
  unfold Obligations.SignatureOperationsStart
  refine ⟨?_, ?_, ?_, ?_, ?_, ?_, ?_, ?_, ?_, ?_, ?_, ?_, ?_, ?_⟩
  · exact fun e s h => exec_sigCommand_begins (op := 1) (k := 0) rfl (by decide) (.inl (by decide)) h
  · exact fun e s h => exec_sigCommand_begins (op := 2) (k := 1) rfl (by decide) (.inl (by decide)) h
  · exact fun e s h => exec_sigCommand_begins (op := 3) (k := 0) rfl (by decide) (.inl (by decide)) h
  · exact fun e s h => exec_sigCommand_begins (op := 4) (k := 1) rfl (by decide) (.inl (by decide)) h
  · exact fun e s h => exec_sigCommand_begins (op := 5) (k := 0) rfl (by decide) (.inl (by decide)) h
  · exact fun e s h => exec_sigCommand_begins (op := 6) (k := 1) rfl (by decide) (.inl (by decide)) h
  · exact fun e s h => exec_sigCommand_begins (op := 7) (k := 0) rfl (by decide) (.inl (by decide)) h
  · exact fun e s h => exec_sigCommand_begins (op := 8) (k := 0) rfl (by decide) (.inl (by decide)) h
  · exact fun e s h => exec_sigCommand_begins (op := 9) (k := 0) rfl (by decide) (.inl (by decide)) h
  · exact fun e s h => exec_sigCommand_begins (op := 10) (k := 0) rfl (by decide) (.inl (by decide)) h
  · intro e s ⟨hc, hb, hlen, hmsg, hkey, hsig, hout, hkem⟩
    exact exec_sigCommand_begins (op := 11) (k := 0) rfl (by decide) (.inr hkem)
      ⟨hc, hb, hlen, hmsg, hkey, hsig, hout⟩
  · exact fun i op e c k s ⟨hc, hb, herr, hi⟩ => (exec_of_sigCommands hi s).trans (sigGo_begins hc hb herr)
  · exact fun i op e c k s ⟨hc, hb, herr, hi⟩ => (exec_of_sigCommands hi s).trans (sigGo_errs hc hb herr)
  · exact fun i op e c k s ⟨hc, hb, hi⟩ => (exec_of_sigCommands hi s).trans (sigGo_busy hc hb)

end Sys2Proof.Machine
end

section
/-!
PROOF. The read frames of a presentation port (R229, R231, R234 to R240).
-/
namespace Sys2Proof.Machine

open Sys2Proof

variable {s : State} {f : PrsFrame} {q : PrsRead} {p : PolicyImage} {r : PresentRec}

/-- With the Lake up and no uncorrectable word a read does not underrun. -/
theorem underrunAt_eq_none (hl : lakeUp s = true) (hb : q.bad = none) (a : Nat) : underrunAt s p r a q = none := by
  simp [underrunAt, hl, hb]

/-- The frame answers the bytes of the address it carries, and what they are read from is as it was. -/
def AnswersBytes (s : State) (p : PolicyImage) (r : PresentRec) (f : PrsFrame) (q : PrsRead) (o : Out) : Prop :=
  ∃ t, o = .next t ∧ t.reply = .dq (prsBytes s p r (prsAddr f (frameDev s f)) q.len) q.len ∧ t.lake = s.lake ∧ t.ev = s.ev ∧
    t.mor = s.mor ∧ t.chans = s.chans

/-- A listed read within its clock is served. -/
theorem prsListed_answers {c clocked : Bool} (hl : lakeUp s = true) (hb : q.bad = none) (hc : c = true) (hck : clocked = true) (op : Byte) :
    AnswersBytes s p r f q (prsListed c r (frameDev s f) op q.len (rstOff (frameKey f) s)
      (prsServe p r (prsAddr f (frameDev s f)) q clocked (rstOff (frameKey f) s))) := by
  have hnone : underrunAt (rstOff (frameKey f) s) p r (prsAddr f (frameDev s f)) q = none := underrunAt_eq_none hl hb _
  rw [prsListed, if_pos hc, prsServe, hnone, hck]
  exact ⟨_, rfl, rfl, rfl, rfl, rfl, rfl⟩

section
variable (hp : s.run.policy = some p) (hr : prsRec s f.port (b2n f.dev) = some r) (ha : prsAnswers s f = true)
include hp hr ha

/-- 0x03 and 0x13 are served from the hot range at no more than 50 MHz (R231). -/
theorem exec_prsRead (hproto : (frameDev s f).proto = .p1s) :
    exec (.prsRead f q) s =
      if inHot p r (prsAddr f (frameDev s f)) && decide (q.mhz ≤ 50) then
        prsServe p r (prsAddr f (frameDev s f)) q true (rstOff (frameKey f) s)
      else answer (.dq (List.replicate q.len 0xff) q.len) (underrunRecord r 3 (prsAddr f (frameDev s f)) (rstOff (frameKey f) s)) := by
  have hc : decide ((frameDev s f).proto = .p1s) = true := decide_eq_true hproto
  simp only [exec, execPrsRead, prsFrame_answered hp hr ha, prsListed, if_pos hc]

theorem exec_prsRead_outside (hproto : (frameDev s f).proto = .p1s)
    (h : inHot p r (prsAddr f (frameDev s f)) = false ∨ 50 < q.mhz) :
    ∃ t, exec (.prsRead f q) s = .next t ∧ t.reply = .dq (List.replicate q.len 0xff) q.len ∧ t.lake = s.lake := by
  have hout : ¬ (inHot p r (prsAddr f (frameDev s f)) && decide (q.mhz ≤ 50)) = true := by
    rcases h with h | h <;> simp [h]
  obtain ⟨v, hv⟩ := emit_evOnly 0x0113 4 (le 1 r.port ++ le 1 r.device ++ le 1 3 ++ le 1 0 ++ le 4 (prsAddr f (frameDev s f)))
    (rstOff (frameKey f) s)
  rw [exec_prsRead hp hr ha hproto, if_neg hout, underrunRecord, hv]
  exact ⟨_, rfl, rfl, rfl⟩

variable (hl : lakeUp s = true) (hb : q.bad = none)
include hl hb

theorem exec_prsRead_answers (hproto : (frameDev s f).proto = .p1s) (hhot : inHot p r (prsAddr f (frameDev s f)) = true)
    (hck : q.mhz ≤ 50) : AnswersBytes s p r f q (exec (.prsRead f q) s) := by
  rw [exec_prsRead hp hr ha hproto, if_pos (by simp [hhot, hck])]
  exact prsListed_answers (c := true) hl hb rfl rfl 0

theorem exec_prsFastRead_answers (hproto : (frameDev s f).proto = .p1s) (hck : clkOk r 8 q.mhz = true) :
    AnswersBytes s p r f q (exec (.prsFastRead f q) s) := by
  simp only [exec, execPrsFastRead, prsFrame_answered hp hr ha]
  exact prsListed_answers hl hb (decide_eq_true hproto) hck _

/-- A read of a mode that the WIDTH allows and the SFDP lists with d dummy cycles. -/
theorem prsModeRead_answers {m : ReadMode} {cond : PresentRec → Bool} {op3 op4 : Byte} {d : Nat} (hproto : (frameDev s f).proto = .p1s)
    (hcond : cond r = true) (hm : modeDummy r m = some d) (hck : clkOk r d q.mhz = true) :
    AnswersBytes s p r f q (prsModeRead f q m cond op3 op4 s) := by
  simp only [prsModeRead, prsFrame_answered hp hr ha]
  exact prsListed_answers hl hb (by simp [hproto, hcond, hm]) (by simpa [hm] using hck) _

theorem exec_prsReadOctal_answers {d : Nat} (hproto : (frameDev s f).proto = .p8s) (hd : r.facts.xspi8s = some d)
    (hck : clkOk r d q.mhz = true) : AnswersBytes s p r f q (exec (.prsReadOctal f q) s) := by
  simp only [exec, execPrsReadOctal, prsFrame_answered hp hr ha]
  exact prsListed_answers hl hb (decide_eq_true hproto) (by simpa [hd] using hck) _

theorem exec_prsReadOctalDtr_answers {d : Nat} (hproto : (frameDev s f).proto = .p8d) (hd : r.facts.xspi8d = some d)
    (hck : clkOk r d q.mhz = true) : AnswersBytes s p r f q (exec (.prsReadOctalDtr f q) s) := by
  simp only [exec, execPrsReadOctalDtr, prsFrame_answered hp hr ha]
  exact prsListed_answers hl hb (decide_eq_true hproto) (by simpa [hd] using hck) _

end

/-- Settles O33, by the opcode's listing, and for 0x03 by the hot range and the clock. -/
theorem presentedReads : Obligations.PresentedReads := by
  unfold Obligations.PresentedReads
  refine ⟨?_, ?_, ?_, ?_, ?_, ?_, ?_, ?_, ?_, ?_⟩
  · exact fun f q s p r ⟨hp, hr, ha, hl, hb, hproto, hhot, hck⟩ => exec_prsRead_answers hp hr ha hl hb hproto hhot hck
  · exact fun f q s p r ⟨hp, hr, ha, hproto, h⟩ => exec_prsRead_outside hp hr ha hproto h
  · exact fun f q s p r ⟨hp, hr, ha, hl, hb, hproto, hck⟩ => exec_prsFastRead_answers hp hr ha hl hb hproto hck
  · exact fun f q s p r d ⟨hp, hr, ha, hl, hb, hproto, hw, hm, hck⟩ =>
      prsModeRead_answers hp hr ha hl hb hproto (decide_eq_true hw) hm hck
  · exact fun f q s p r d ⟨hp, hr, ha, hl, hb, hproto, hw, hm, hck⟩ =>
      prsModeRead_answers hp hr ha hl hb hproto (decide_eq_true hw) hm hck
  · exact fun f q s p r d ⟨hp, hr, ha, hl, hb, hproto, hw, hm, hck⟩ =>
      prsModeRead_answers hp hr ha hl hb hproto (decide_eq_true hw) hm hck
  · exact fun f q s p r d ⟨hp, hr, ha, hl, hb, hproto, hw, hm, hck⟩ =>
      prsModeRead_answers hp hr ha hl hb hproto (decide_eq_true hw) hm hck
  · exact fun f q s p r d ⟨hp, hr, ha, hl, hb, hproto, hw, ht, hm, hck⟩ =>
      prsModeRead_answers hp hr ha hl hb hproto (by simp [hw, ht]) hm hck
  · exact fun f q s p r d ⟨hp, hr, ha, hl, hb, hproto, hd, hck⟩ => exec_prsReadOctal_answers hp hr ha hl hb hproto hd hck
  · exact fun f q s p r d ⟨hp, hr, ha, hl, hb, hproto, hd, hck⟩ => exec_prsReadOctalDtr_answers hp hr ha hl hb hproto hd hck

end Sys2Proof.Machine
end

section
/-!
SUPPORT. A key of a table that is written twice.
-/
namespace Sys2Proof

variable {α : Type}

theorem cellsPut_cellsPut (i : Nat) (a b : α) (l : List (Nat × α)) : cellsPut i b (cellsPut i a l) = cellsPut i b l := by
  induction l with
  | nil => simp [cellsPut]
  | cons c l ih =>
    obtain ⟨k, v⟩ := c
    rcases Nat.lt_trichotomy i k with h | rfl | h
    · simp [cellsPut, h]
    · simp [cellsPut]
    · simp [cellsPut, h.not_gt, h.ne, ih]

theorem cellsDrop_cellsPut (i : Nat) (a : α) (l : List (Nat × α)) : cellsDrop i (cellsPut i a l) = cellsDrop i l := by
  induction l with
  | nil => simp [cellsPut, cellsDrop]
  | cons c l ih =>
    obtain ⟨k, v⟩ := c
    rcases Nat.lt_trichotomy i k with h | rfl | h
    · simp [cellsPut, cellsDrop, h]
    · simp [cellsPut, cellsDrop]
    · simp [cellsPut, cellsDrop, h.not_gt, h.ne, ih]

/-- The last write counts, where the one before it put a cell. -/
theorem tabSet_tabSet [DecidableEq α] {d a : α} (ha : a ≠ d) (b : α) (t : Tab α) (i : Nat) : tabSet d (tabSet d t i a) i b = tabSet d t i b := by
  by_cases hb : b = d
  · simp [tabSet, ha, hb, cellsDrop_cellsPut]
  · simp [tabSet, ha, hb, cellsPut_cellsPut]

end Sys2Proof
end
section
/-!
PROOF. The register, identification and protocol frames of a presentation port (R223, R226 to R230, R232).
-/
namespace Sys2Proof.Machine

open Sys2Proof

variable {s : State} {f : PrsFrame} {p : PolicyImage} {r : PresentRec}

theorem serving_of_prsAnswers (ha : prsAnswers s f = true) : (frameDev s f).st = .serving := by
  simp only [prsAnswers, Bool.and_eq_true, decide_eq_true_eq] at ha
  exact ha.1.2

/-- The device of a frame changed, once its reset sequence has ended. -/
theorem upEm_rstOff (ha : prsAnswers s f = true) (g : EmDev → EmDev) :
    upEm (frameKey f) g (rstOff (frameKey f) s) = upEm (frameKey f) (fun e => g { e with rstEn := false }) s := by
  have hcell : { frameDev s f with rstEn := false } ≠ em0 := fun h => by
    have hst := (serving_of_prsAnswers ha).symm.trans (congrArg EmDev.st h :)
    cases hst
  have hset := tabSet_tabSet hcell (g { frameDev s f with rstEn := false }) s.ems (frameKey f)
  simp only [rstOff, upEm, upEms, tabGet_tabSet_self]
  exact congrArg (fun t => { s with ems := t }) hset

section
variable (hp : s.run.policy = some p) (hr : prsRec s f.port (b2n f.dev) = some r) (ha : prsAnswers s f = true)
include hp hr ha

/-- A frame whose meaning is a change of its device. -/
theorem prsFrame_upEm (hport : r.port = f.port) (hdev : r.device = b2n f.dev) (g : EmDev → EmDev)
    {m : PolicyImage → PresentRec → EmDev → State → Out}
    (hm : m p r (frameDev s f) (rstOff (frameKey f) s) = done (upEm (recKey r) g (rstOff (frameKey f) s))) :
    prsFrame f m s = done (upEm (frameKey f) (fun e => g { e with rstEn := false }) s) := by
  rw [prsFrame_answered hp hr ha, hm, recKey_eq hport hdev, upEm_rstOff ha]

theorem prsAddrMode_large (hport : r.port = f.port) (hdev : r.device = b2n f.dev) (hproto : (frameDev s f).proto = .p1s)
    (hsize : 16777216 < prsSize p r) (op : Byte) (on : Bool) :
    prsAddrMode f op on s = done (upEm (frameKey f) (fun e => { e with rstEn := false, addr4 := on }) s) :=
  prsFrame_upEm hp hr ha hport hdev (fun e => { e with addr4 := on }) ((if_pos (decide_eq_true hproto)).trans (if_pos hsize))

/-- 0x81 with 0xFF selects protocol 1S, with WEL set and at address 0 (R227). -/
theorem exec_prsProtocolSelect_1s (hport : r.port = f.port) (hdev : r.device = b2n f.dev) (hwel : (frameDev s f).wel = true)
    (haddr : prsAddr f (frameDev s f) = 0) :
    exec (.prsProtocolSelect f 0xff) s = done (upEm (frameKey f) (fun e => { e with rstEn := false, wel := false, proto := .p1s }) s) := by
  simp only [exec, execPrsProtocolSelect]
  refine prsFrame_upEm hp hr ha hport hdev (fun e => { e with wel := false, proto := .p1s }) ?_
  simp [hwel, haddr, protoFor]

/-- A frame of protocol 1S with no effect, as those of the power-down opcodes. -/
theorem prsFrame_listed_done (hproto : (frameDev s f).proto = .p1s) (op : Byte) :
    prsFrame f (fun _ r e s => prsListed (decide (e.proto = .p1s)) r e op 0 s (done s)) s = done (rstOff (frameKey f) s) :=
  (prsFrame_answered hp hr ha _).trans (if_pos (decide_eq_true hproto))

/-- An SFDP read in protocol 1S answers the record's bytes by a 3-byte address, and 0xFF beyond them. -/
theorem exec_prsReadSfdp_1s (n : Nat) (hproto : (frameDev s f).proto = .p1s) :
    exec (.prsReadSfdp f n) s = answer (.dq ((List.range n).map (fun i => if f.addr.toNat % 16777216 + i < r.sfdpLen then
      r.sfdp.getD (f.addr.toNat % 16777216 + i) 0xff else 0xff)) n) (rstOff (frameKey f) s) := by
  simp only [exec, execPrsReadSfdp, prsFrame_answered hp hr ha, if_pos hproto]

theorem exec_prsUnknownOpcode (op b : Byte) (n : Nat) :
    ∃ t, exec (.prsUnknownOpcode f op b n) s = .next t ∧ t.reply = .dq (List.replicate n 0xff) 0 ∧ t.lake = s.lake ∧
      t.ports = s.ports ∧ (frameDev t f).pend = (frameDev s f).pend := by
  obtain ⟨t, ht, hpend, -, hlake, hports, -⟩ := leaves_prsUnknown (r := r) (frameDev s f) op b n rfl rfl
  have hexec : exec (.prsUnknownOpcode f op b n) s = prsUnknown r (frameDev s f) op b n (rstOff (frameKey f) s) := by
    simp only [exec, execPrsUnknownOpcode, prsFrame_answered hp hr ha]
  exact ⟨t, hexec.trans ht, prsUnknown_reply _ _ _ n _ t ht, hlake, hports, hpend⟩

end

/-- A frame that no device answers does nothing. -/
theorem prsFrame_silent (ha : prsAnswers s f = false) (m : PolicyImage → PresentRec → EmDev → State → Out) : prsFrame f m s = done s := by
  unfold prsFrame
  split
  · exact if_neg (by simp [ha])
  · rfl

/-- Settles O36, by the meaning of each frame for the device that answers it. -/
theorem presentedRegisters : Obligations.PresentedRegisters := by
  unfold Obligations.PresentedRegisters
  refine ⟨?_, ?_, ?_, ?_, ?_, ?_, ?_, ?_, ?_, ?_, ?_, ?_, ?_, ?_, ?_⟩
  · intro f s p r ⟨hp, hr, ha, hport, hdev⟩
    simp only [exec, execPrsWriteEnable]
    exact prsFrame_upEm hp hr ha hport hdev (fun e => { e with wel := true }) rfl
  · intro f s p r ⟨hp, hr, ha, hport, hdev⟩
    simp only [exec, execPrsWriteDisable]
    exact prsFrame_upEm hp hr ha hport hdev (fun e => { e with wel := false }) rfl
  · intro f s p r ⟨hp, hr, ha, hport, hdev⟩
    simp only [exec, execPrsWriteStatus]
    exact prsFrame_upEm hp hr ha hport hdev (fun e => { e with wel := false }) rfl
  · intro f n s p r ⟨hp, hr, ha⟩
    simp only [exec, execPrsReadStatus, prsFrame_answered hp hr ha]
    exact ⟨_, rfl, rfl, rfl⟩
  · intro f n s p r ⟨hp, hr, ha⟩
    simp only [exec, execPrsReadId, prsFrame_answered hp hr ha]
    exact ⟨_, rfl, rfl, rfl⟩
  · intro f n i s p r ⟨hp, hr, ha, hproto, hi⟩
    exact ⟨_, exec_prsReadSfdp_1s hp hr ha n hproto, _, _, rfl, by simp [hi]⟩
  · exact fun f s p r ⟨hp, hr, ha, hport, hdev, hproto, hsize⟩ => prsAddrMode_large hp hr ha hport hdev hproto hsize 0xb7 true
  · exact fun f s p r ⟨hp, hr, ha, hport, hdev, hproto, hsize⟩ => prsAddrMode_large hp hr ha hport hdev hproto hsize 0xe9 false
  · exact fun f s p r ⟨hp, hr, ha, hport, hdev, hwel, haddr⟩ => exec_prsProtocolSelect_1s hp hr ha hport hdev hwel haddr
  · intro f s p r ⟨hp, hr, ha, hport, hdev⟩
    simp only [exec, execPrsResetEnable]
    exact prsFrame_upEm hp hr ha hport hdev (fun e => { e with rstEn := true }) rfl
  · intro f s p r ⟨hp, hr, ha, hport, hdev, hrst⟩
    simp only [exec, execPrsReset]
    exact prsFrame_upEm hp hr ha hport hdev protoReset (if_pos hrst)
  · exact fun f s p r ⟨hp, hr, ha, hproto⟩ =>
      ⟨prsFrame_listed_done hp hr ha hproto 0xb9, prsFrame_listed_done hp hr ha hproto 0xab⟩
  · intro f s p r ⟨hp, hr, ha⟩
    simp only [exec, execPrsFrameReject, prsFrame_answered hp hr ha]
    rfl
  · exact fun f op b n s p r ⟨hp, hr, ha⟩ => exec_prsUnknownOpcode hp hr ha op b n
  · intro f s ha
    simp only [exec, execPrsWriteEnable, execPrsReset, prsFrame_silent ha]
    exact ⟨rfl, rfl⟩

end Sys2Proof.Machine
end

section
/-!
PROOF. What leaves the Image Lake as it is: custody operations, and what follows an event.
-/
namespace Sys2Proof.Machine

open Sys2Proof

-- The lemmas of Laws/State.lean hold by rfl, and simp proves a side condition with them only with a proof term of its own: hence the
-- option implicitDefEqProofs, off in what follows.
@[simp] theorem upEp_lake (j : Nat) (f : Ep → Ep) (s : State) : (upEp j f s).lake = s.lake := rfl
@[simp] theorem upEm_lake (k : Nat) (f : EmDev → EmDev) (s : State) : (upEm k f s).lake = s.lake := rfl
@[simp] theorem upImg_lake (k : Nat) (f : Img → Img) (s : State) : (upImg k f s).lake = s.lake := rfl
@[simp] theorem upChan_lake (k : Nat) (f : Channel → Channel) (s : State) : (upChan k f s).lake = s.lake := rfl
@[simp] theorem alertBoth_lake (s : State) : (alertBoth s).lake = s.lake := rfl

theorem lake_ite (c : Prop) [Decidable c] (s t : State) : (if c then s else t).lake = if c then s.lake else t.lake :=
  apply_ite State.lake c s t

@[simp] theorem foldl_lake {α : Type} (l : List α) (f : State → α → State) (s : State) (h : ∀ s x, (f s x).lake = s.lake) :
    (l.foldl f s).lake = s.lake := by
  induction l generalizing s with
  | nil => rfl
  | cons x l ih => exact (ih _).trans (h s x)

@[simp] theorem each_lake (l : List Nat) (f : Nat → State → State) (s : State) (h : ∀ n s, (f n s).lake = s.lake) :
    (each l f s).lake = s.lake := foldl_lake l _ s (fun s n => h n s)

@[simp] theorem emit_lake (code src : Nat) (body : Bytes) (s : State) : (emit code src body s).lake = s.lake := by
  simp [emit, lake_ite]

@[simp] theorem gated_lake (code src : Nat) (body : Bytes) (g : Gate) (eff : State → State) (s : State)
    (h : ∀ s, (eff s).lake = s.lake) : (gated code src body g eff s).lake = s.lake := by
  simp [gated, h, lake_ite]

@[simp] theorem setPair_lake (k : Nat) (v : BitVec 32) (s : State) : (setPair k v s).lake = s.lake := by
  simp [setPair, lake_ite]

/-! ### Endpoints and domains -/

@[simp] theorem heldRecord_lake (d cause : Nat) (final : Bool) (s : State) : (heldRecord d cause final s).lake = s.lake := by
  simp [heldRecord, emitFw, lake_ite]

@[simp] theorem domProtoReset_lake (d : Nat) (s : State) : (domProtoReset d s).lake = s.lake := by
  unfold domProtoReset
  split <;> simp -implicitDefEqProofs

@[simp] theorem domUnslot_lake (d : Nat) (s : State) : (domUnslot d s).lake = s.lake := by
  simp -implicitDefEqProofs [domUnslot, clearSlots, imgAgain, epSealIt, linkDrop, endMediation, dropHeld, aerReport]

@[simp] theorem holdDom_lake (cause : Nat) (final : Bool) (d : Nat) (s : State) : (holdDom cause final d s).lake = s.lake := by
  simp [holdDom, domLost, lake_ite]

@[simp] theorem markFinal_lake (cause d : Nat) (s : State) : (markFinal cause d s).lake = s.lake := by
  simp [markFinal, lake_ite]

@[simp] theorem holdFinal_lake (cause d : Nat) (s : State) : (holdFinal cause d s).lake = s.lake := by
  simp [holdFinal, lake_ite]

@[simp] theorem epContain_lake (f : Causes → Causes) (j : Nat) (s : State) : (epContain f j s).lake = s.lake := by
  simp [epContain, emitContained, dropHeld, aerReport]

@[simp] theorem epRelease_lake (d j : Nat) (s : State) : (epRelease d j s).lake = s.lake := by
  simp [epRelease, epOpen, startRecheck, lake_ite]

@[simp] theorem cascade_lake (n : Nat) (s : State) : (cascade n s).lake = s.lake := by
  induction n generalizing s with
  | zero => rfl
  | succ n ih => simp [cascade, ih, lake_ite]

@[simp] theorem interlock_lake (n : Nat) (s : State) : (interlock n s).lake = s.lake := by
  induction n generalizing s with
  | zero => rfl
  | succ n ih => simp [interlock, releaseDom, ih, lake_ite]

@[simp] theorem finalCascade_lake (n : Nat) (s : State) : (finalCascade n s).lake = s.lake := by
  induction n generalizing s with
  | zero => rfl
  | succ n ih => simp [finalCascade, ih, lake_ite]

@[simp] theorem vatRelease_lake (s : State) : (vatRelease s).lake = s.lake :=
  each_lake _ _ s (fun j s => by split <;> simp)

@[simp] theorem recheckGo_lake (s : State) : (recheckGo s).lake = s.lake := by
  simp [recheckGo, epRecheck, emitContained, dropHeld, aerReport, startRecheck, lake_ite]

/-! ### The Vault, and what follows an event -/

@[simp] theorem vaultSet_lake (st : VaultState) (code cause : Nat) (s : State) : (vaultSet st code cause s).lake = s.lake := by
  simp [vaultSet, lake_ite]

@[simp] theorem nvmeDrop_lake (s : State) : (nvmeDrop s).lake = s.lake :=
  foldl_lake _ _ _ (fun s c => by
    split
    · unfold lateAnswer
      split <;> rfl
    · rfl)

@[simp] theorem settle_lake (s : State) : (settle s).lake = s.lake := by
  simp -implicitDefEqProofs [settle, vioHold, vatWithdraw, epUnvat, linkDrop, vatGrant, phaseStep, vaultSync, nvmeIssue,
    brClose, highAlert, lake_ite]

@[simp] theorem lakeOutHold_lake (s : State) : (lakeOutHold s).lake = s.lake := by
  simp [lakeOutHold, mordantWrite, lake_ite]

end Sys2Proof.Machine
end

section
/-!
PROOF. Devices come into service, and the Image Lake survives the loss of one channel (R225, R251, R253 to R256, R260).
-/
namespace Sys2Proof.Machine

open Sys2Proof

/-! ### Lines rebuilt from their stripe -/

theorem xorBytes_right_comm (a b c : Bytes) : xorBytes (xorBytes a b) c = xorBytes (xorBytes a c) b := by
  apply List.ext_getElem
  · simp [xorBytes, fit_length]
  · intro i h1 h2
    simp only [xorBytes, List.getElem_zipWith, List.length_zipWith, fit_length, min_self]
    ac_rfl

theorem xorBytes_xorBytes_self (a b : Bytes) : xorBytes (xorBytes a b) b = a := by
  apply List.ext_getElem
  · simp [xorBytes, fit_length]
  · intro i h1 h2
    simp [xorBytes, fit_length]

theorem xorBytes_zeros {k : Nat} {b : Bytes} (h : b.length = k) : xorBytes (zeros k) b = b := by
  subst h
  apply List.ext_getElem
  · simp [xorBytes, fit_length, zeros]
  · intro i h1 h2
    simp [xorBytes, zeros, fit]

section
variable {β : Type} {v : β → Bytes}

theorem foldl_xorBytes_xorBytes (l : List β) (z c : Bytes) :
    l.foldl (fun b m => xorBytes b (v m)) (xorBytes z c) = xorBytes (l.foldl (fun b m => xorBytes b (v m)) z) c := by
  induction l generalizing z with
  | nil => rfl
  | cons m l ih => rw [List.foldl_cons, List.foldl_cons, xorBytes_right_comm, ih]

/-- Bytes combined twice with those of every member are as they were. -/
theorem foldl_xorBytes_twice (l : List β) (z : Bytes) :
    l.foldl (fun b m => xorBytes b (v m)) (l.foldl (fun b m => xorBytes b (v m)) z) = z := by
  induction l with
  | nil => rfl
  | cons m l ih => simp only [List.foldl_cons, foldl_xorBytes_xorBytes, xorBytes_xorBytes_self, ih]

/-- The parity of a list without repetitions, combined with every member but x, gives x. -/
theorem foldl_xorBytes_others [DecidableEq β] {l : List β} {x : β} (hn : l.Nodup) (hx : x ∈ l) (z : Bytes) :
    (l.filter (fun m => decide (m ≠ x))).foldl (fun b m => xorBytes b (v m)) (l.foldl (fun b m => xorBytes b (v m)) z) =
      xorBytes z (v x) := by
  have : RightCommutative (fun b m => xorBytes b (v m)) := ⟨fun b m n => xorBytes_right_comm b (v m) (v n)⟩
  have hfilter : l.filter (fun m => decide (m ≠ x)) = l.erase x := by
    rw [hn.erase_eq_filter]
    exact List.filter_congr (fun m _ => by rw [bne, beq_eq_decide, decide_not])
  rw [hfilter, (List.perm_cons_erase hx).foldl_eq, List.foldl_cons, foldl_xorBytes_twice]

end

theorem stripeLines_nodup (n : Nat) : (stripeLines n).Nodup :=
  List.Nodup.map (fun i j h => by simpa using h) List.nodup_range

theorem mem_stripeLines (l : Nat) : l ∈ stripeLines (lineStripe l) := by
  refine List.mem_map.2 ⟨l % 7, List.mem_range.2 (Nat.mod_lt _ (by decide)), ?_⟩
  exact Nat.div_add_mod l 7

theorem lineRebuilt_eq (s : State) (l : Nat) : lineRebuilt s l = lineStored s l ++ lineMac s l := by
  rw [lineRebuilt, stripeXor, foldl_xorBytes_others (v := fun m => lineStored s m ++ lineMac s m) (stripeLines_nodup _) (mem_stripeLines l)]
  exact xorBytes_zeros (by simp [lineStored, lineMac, macOf, fit_length])

/-- The lines of a stripe and its parity line take turns through the eight channels. -/
theorem stripeChannels (n : Nat) :
    (stripeLines n).map lineChannel ++ [stripeParity n] = (List.range 7).map (fun i => (n % 8 + 1 + i) % 8) ++ [n % 8] := by
  have hline : ∀ i ∈ List.range 7, lineChannel (7 * n + i) = (n % 8 + 1 + i) % 8 := by
    intro i hi
    have h7 := List.mem_range.1 hi
    simp only [lineChannel, stripeParity, lineStripe]
    omega
  rw [stripeLines, List.map_map, stripeParity]
  exact congrArg (· ++ [n % 8]) (List.map_congr_left hline)

theorem stripeChannels_distinct (n : Nat) :
    ((stripeLines n).map lineChannel ++ [stripeParity n]).Nodup ∧ ∀ c ∈ (stripeLines n).map lineChannel ++ [stripeParity n], c < 8 := by
  have hturn : ∀ k < 8, ((List.range 7).map (fun i => (k + 1 + i) % 8) ++ [k]).Nodup ∧
      ∀ c ∈ (List.range 7).map (fun i => (k + 1 + i) % 8) ++ [k], c < 8 := by decide
  rw [stripeChannels]
  exact hturn _ (Nat.mod_lt _ (by decide))

/-! ### Loads -/

section
variable {s : State} {port : Nat} {dev : Bool} {p : PolicyImage} {r : PresentRec} (hp : s.run.policy = some p)
  (hr : prsRec s port (b2n dev) = some r) (hst : (emOf s (emKey port (b2n dev))).st = .loading) (hj : devJudged s p r = true)
  (hf : s.lake.failover = false) (hn : (emOf s (emKey port (b2n dev))).loaded = false)
include hp hr hst hj hf hn

/-- A load that is not refused serves the device, where it was good and the Lake is in service, or fails it. -/
theorem exec_deviceLoadDone (c : List (Nat × Byte)) (ok : Bool)
    (hc : (chanOf s r.channel).st = .ready ∨ (chanOf s r.channel).st = .stopped ∨ (chanOf s r.channel).st = .failed) :
    exec (.deviceLoadDone port dev c ok) s =
      if lakeIn s && (ok && decide ((chanOf s r.channel).st = .ready)) then
        done (upEm (emKey port (b2n dev)) (fun e => protoReset { e with st := .serving, loaded := true }) (hotFill p r
          (upLake (lakeTouch (lakeBase p r) (prsSize p r)) (lakeStore (lakeBase p r) (loadCells s p r c) s))))
      else done (upEm (emKey port (b2n dev)) (fun e => { e with st := .failed, pend := none }) s) := by
  have hg : (decide ((emOf s (emKey port (b2n dev))).st = .loading) && devJudged s p r
      && (decide ((chanOf s r.channel).st = .ready) || decide ((chanOf s r.channel).st = .stopped)
        || decide ((chanOf s r.channel).st = .failed)) && !s.lake.failover) = true := by
    rcases hc with hc | hc | hc <;> simp [hst, hj, hf, hc]
  simp only [exec, execDeviceLoadDone, hp, hr, hn, Bool.false_or]
  exact when_of_true hg _ _

theorem exec_deviceLoadDone_serves (c : List (Nat × Byte)) (hl : lakeIn s = true) (hc : (chanOf s r.channel).st = .ready) :
    ∃ t, exec (.deviceLoadDone port dev c true) s = .next t ∧ (emOf t (emKey port (b2n dev))).st = .serving ∧
      (emOf t (emKey port (b2n dev))).proto = .p1s ∧ (emOf t (emKey port (b2n dev))).wel = false ∧ t.mor = s.mor := by
  have he (u : State) := emOf_upEm_self (emKey port (b2n dev)) (fun e => protoReset { e with st := .serving, loaded := true }) u
  rw [exec_deviceLoadDone hp hr hst hj hf hn c true (.inl hc), if_pos (by simp [hl, hc])]
  exact ⟨_, rfl, (congrArg EmDev.st (he _) :), (congrArg EmDev.proto (he _) :), (congrArg EmDev.wel (he _) :), rfl⟩

theorem exec_deviceLoadDone_fails (c : List (Nat × Byte)) (ok : Bool)
    (hc : (chanOf s r.channel).st = .ready ∨ (chanOf s r.channel).st = .stopped ∨ (chanOf s r.channel).st = .failed)
    (hbad : ok = false ∨ (chanOf s r.channel).st ≠ .ready) :
    ∃ t, exec (.deviceLoadDone port dev c ok) s = .next t ∧ (emOf t (emKey port (b2n dev))).st = .failed ∧ t.lake = s.lake := by
  have he := emOf_upEm_self (emKey port (b2n dev)) (fun e => { e with st := .failed, pend := none }) s
  rw [exec_deviceLoadDone hp hr hst hj hf hn c ok hc, if_neg (by rcases hbad with h | h <;> simp [h])]
  exact ⟨_, rfl, (congrArg EmDev.st he :), rfl⟩

end

/-! ### The loss of a channel -/

section
variable {s : State} {n : BitVec 3}

theorem exec_lakeChannelFault (hl : lakeIn s = true) (hn : s.lake.active.getLsbD n.toNat = true) :
    exec (.lakeChannelFault n) s = done (lakeRemove n.toNat s) := by
  simp only [exec, execLakeChannelFault]
  exact when_of_true (by simp [hl, hn]) _ _

theorem exec_lakeChannelFault_normal (hm : s.lake.mode = .normal) (hf : s.lake.failover = false)
    (hn : s.lake.active.getLsbD n.toNat = true) :
    exec (.lakeChannelFault n) s = done (upLake (fun l => { l with
      active := putBit l.active n.toNat false, lost := n.toNat, failing := putBit l.failing n.toNat true, failover := true }) s) := by
  rw [exec_lakeChannelFault (by simp [lakeIn, hm]) hn, lakeRemove, if_pos (by simp [hm, hf])]
  rfl

theorem lakeReqFail_lake (q : LakeReq) (s : State) : (lakeReqFail q s).lake = s.lake := by
  cases q with
  | image k base n cells => simp [lakeReqFail, streamFail]
  | scrub k f data => simp [lakeReqFail, scrubResult, lake_ite]
  | work | sqDoorbell | cqDoorbell => rfl

theorem lakeOut_lake (s : State) :
    (lakeOut s).lake = { s.lake with mode := .out, failover := false, failing := 0, held := [] } := by
  have hheld : (s.lake.held.foldl (fun s q => lakeReqFail q s) s).lake = s.lake := foldl_lake _ _ _ (fun s q => lakeReqFail_lake q s)
  simp [lakeOut, lake_ite, hheld]

theorem exec_lakeChannelFault_parity (hm : s.lake.mode = .parity) (hn : s.lake.active.getLsbD n.toNat = true) :
    ∃ t, exec (.lakeChannelFault n) s = .next t ∧ t.lake.mode = .out ∧ t.lake.bytes = s.lake.bytes := by
  refine ⟨_, exec_lakeChannelFault (by simp [lakeIn, hm]) hn, ?_⟩
  rw [lakeRemove, if_neg (by simp [hm])]
  have hout := lakeOut_lake (upLake (fun l => { l with
    active := putBit l.active n.toNat false, lost := n.toNat, failing := putBit l.failing n.toNat true }) s)
  exact ⟨(congrArg Lake.mode hout :), (congrArg Lake.bytes hout :)⟩

theorem exec_lakeFailoverDone (hf : s.lake.failover = true) :
    exec .lakeFailoverDone s = done (s.lake.held.foldl (fun s q => lakeReqGo q s)
      (upLake (fun l => { l with failover := false, mode := .parity, failing := 0, held := [] }) s)) := by
  simp only [exec, execLakeFailoverDone]
  exact when_of_true hf _ _

/-- A core's write of working space waits in a failover interruption (R256). -/
theorem writeInternal_work_held {a : Nat} (v : BitVec 32) (hl : lakeIn s = true) (hf : s.lake.failover = true) (hlo : 0x80000000 ≤ a)
    (hhi : a + 4 ≤ 0xd8000000) :
    writeInternal a (le 4 v.toNat) s = some (upLake (fun l => { l with held := l.held ++ [.work a (le 4 v.toNat)] }) s) := by
  have hsram : ¬ (0x10000000 ≤ a ∧ a + 4 ≤ 0x10800000) := by omega
  have hwork : 0x80000000 ≤ a ∧ a + 4 ≤ 0x80000000 + workSize := ⟨hlo, hhi⟩
  rw [writeInternal, le_length, if_neg hsram, if_pos hwork, if_pos hl, workPut, if_neg (by simp [hl]), if_pos hf]

end

/-- Settles O37, by whether a load is good, by the Lake's mode as a channel is lost, and by the XOR of a stripe. -/
theorem deviceLoadAndLake : Obligations.DeviceLoadAndLake := by
  unfold Obligations.DeviceLoadAndLake
  refine ⟨?_, ?_, ?_, ?_, ?_, ?_, ?_, ?_, stripeChannels_distinct, lineRebuilt_eq⟩
  · exact fun port dev c s p r ⟨hp, hr, hst, hj, hl, hf, hn, hc⟩ =>
      ⟨exec_deviceLoadDone_serves hp hr hst hj hf hn c hl hc,
        exec_deviceLoadDone_fails hp hr hst hj hf hn c false (.inl hc) (.inl rfl)⟩
  · exact fun port dev c ok s p r ⟨hp, hr, hst, hj, hf, hn, hc⟩ =>
      exec_deviceLoadDone_fails hp hr hst hj hf hn c ok (.inr hc) (.inr (by rcases hc with h | h <;> simp [h]))
  · intro n b s ⟨hl, hn⟩
    simp only [exec, execLakeIntegrityFail]
    exact when_of_true (by simp [hl, hn]) _ _
  · exact fun n s ⟨hm, hf, hn⟩ => exec_lakeChannelFault_normal hm hf hn
  · exact fun n s ⟨hm, _, hn⟩ => exec_lakeChannelFault_parity hm hn
  · intro s ⟨hf, hheld⟩
    rw [exec_lakeFailoverDone hf, hheld]
    rfl
  · exact fun a v s ⟨hc, hl, hf, hlo, hhi⟩ =>
      ⟨_, exec_registerWrite_core hc (writeInternal_work_held v hl hf hlo hhi), rfl, rfl, rfl⟩
  · intro s a b ⟨hf, hheld⟩
    rw [exec_lakeFailoverDone hf, hheld]
    rfl

end Sys2Proof.Machine
end

section
/-!
PROOF. A judgement that starts while no oscillator toggles (R262, R514): the counterexample to the statement of the judgements.
-/
namespace Sys2Proof.Machine

open Sys2Proof

variable {s : State} {k : Nat} {x : Source} {r : ImageRec}

/-- Firmware starts the source that is due, when its turn on the channel has come (R260, R266). -/
theorem exec_judgeStart (hf : fwRuns s = true) (hr : imgRec s k = some r) (hx : sourceExists s k x = true) (hp : pairOf s k ≠ passPair)
    (hst : (imgOf s k).st = .judging) (hn : (imgOf s k).stream = none) (hd : dueSource s k = x) (ht : streamTurn s k = true) :
    exec (.judgeStart k x) s = done (streamGo k x s) := by
  simp [exec, execJudgeStart, when, hf, hr, hx, hp, hst, hn, hd, ht]

theorem streamGo_mor (hr : imgRec s k = some r) (x : Source) : (streamGo k x s).mor = (clearFail k s).mor := by
  simp only [streamGo, hr, dgaServe_mor]
  split <;> simp

/-- With no oscillator toggling a slot keeps FAIL as its new judgement begins (R514). -/
theorem clearFail_stopped (ha : aocRuns s = false) (k : Nat) : clearFail k s = s := by
  rw [clearFail, setPair_stopped ha, ite_self]

/-- An image in the lower half of a device of CCH_01, judged by its digest. -/
def digestImage : ImageRec := ⟨0, 0, 1, 0, 1, 1, 0, 4096, 100, 0xffff, 0xffff, zeros 64⟩

/-- Firmware runs, both oscillators have stopped, and the one image, which holds FAIL, is to be judged again. -/
def failedUnclocked : State :=
  { State.reset with
    mor := { mordant0 with aocA := false, aocB := false, vslot := tabSet 0 tabEmpty 0 failPair }
    sc := { sc0 with running := true }
    run := { running0 with policy := some { barePolicy with images := [digestImage] } }
    imgs := tabSet img0 tabEmpty 0 { img0 with st := .judging }
    chans := tabSet chan0 tabEmpty 1 { chan0 with st := .ready } }

theorem streamGo_failedUnclocked : pairOf (streamGo 0 .half0 failedUnclocked) 0 = failPair := by
  have hmor : (streamGo 0 .half0 failedUnclocked).mor = failedUnclocked.mor := by
    rw [streamGo_mor (r := digestImage) (by decide), clearFail_stopped (by decide)]
  exact congrArg (fun m : Mordant => tabGet 0 m.vslot 0) hmor

/-- Refutes O38: the clause of a judgement that starts says that its slot does not hold FAIL, and leaves out that an oscillator must
toggle for the slot to be cleared. -/
theorem not_judgements : ¬ Obligations.Judgements := by
  unfold Obligations.Judgements
  rintro ⟨hstart, -⟩
  obtain ⟨t, ht, -, -, hpair, -⟩ := hstart 0 failedUnclocked digestImage (by decide)
  have hgo : exec (.judgeStart 0 .half0) failedUnclocked = done (streamGo 0 .half0 failedUnclocked) :=
    exec_judgeStart (r := digestImage) (by decide) (by decide) (by decide) (by decide) (by decide) (by decide) (by decide) (by decide)
  obtain rfl := Host.Outcome.next.inj (ht.symm.trans hgo)
  exact hpair streamGo_failedUnclocked

end Sys2Proof.Machine
end

section
/-!
PROOF. The self-test of a custody channel and a ROM that waits for replay (R122, R213, R214): the counterexample to the statement of the
channels' tests.
-/
namespace Sys2Proof.Machine

open Sys2Proof

variable {s : State} {k : Nat}

/-- A self-test that passes makes the channel READY, where no write is to be replayed there, and a ROM that waits is looked at. -/
theorem exec_cchSelftestDone_ready {t : ChanTest} (hst : (chanOf s k).st = .selftest) (hk : k ≠ 0) (hclk : chClk (chanOf s k) ≤ 50)
    (hok : selfTestOk k (chanOf s k) t = true) (hr : (s.replay.any (fun e => decide (e.channel = k))) = false) :
    exec (.cchSelftestDone k t) s = done (romResume (chanReady k s)) := by
  have hcal : calibrates (chanOf s k) = false := by simpa [calibrates] using hclk
  simp only [exec, execCchSelftestDone, hcal, hok, hr]
  exact when_of_true (by simp [hst, hk]) _ _

/-- ROM waits for a replay that is over, and CCH_01, whose one device runs at 50 MHz, is in its self-test. -/
def testedWhileWaiting : State :=
  { State.reset with
    run := { running0 with policy := some barePolicy, romWait := some [] }
    chans := tabSet chan0 tabEmpty 1 { chan0 with st := .selftest, vio := some .v18, cfg := 0x00320001, geom := 0x10000000 } }

/-- The end of the self-test resumes ROM, which locks the configuration. -/
theorem romResume_testedWhileWaiting : (romResume (chanReady 1 testedWhileWaiting)).mor.lock = true := by
  decide

/-- Refutes O22: the clause of a self-test that passes says that the Mordant is as it was, and leaves out that no ROM may wait for
replay, which the end of a self-test resumes. -/
theorem not_channelPollsAndTests : ¬ Obligations.ChannelPollsAndTests := by
  unfold Obligations.ChannelPollsAndTests
  rintro ⟨-, -, -, -, -, htest, -⟩
  obtain ⟨t, ht, -, -, hmor⟩ := htest 1 0 0 ⟨0, 0⟩ false testedWhileWaiting (by decide)
  have hready : exec (.cchSelftestDone 1 ⟨true, 0, 0, ⟨0, 0⟩, true, false⟩) testedWhileWaiting =
      done (romResume (chanReady 1 testedWhileWaiting)) :=
    exec_cchSelftestDone_ready (by decide) (by decide) (by decide) (by decide) (by decide)
  obtain rfl := Host.Outcome.next.inj (ht.symm.trans hready)
  have hlock := congrArg Mordant.lock hmor
  exact absurd (romResume_testedWhileWaiting.symm.trans hlock) (by decide)

end Sys2Proof.Machine
end
